-- ==== Sys2Proof/Word.lean ====
section
/-!
DEFINITION. The word types of the part: bytes, 32-bit register words, and the wider words the manual names.
-/

namespace Sys2Proof

/-- One byte of a command, a frame or a memory (01 R9). -/
abbrev Byte := BitVec 8

/-- A register word; also a tick number, compared by signed difference (00 R13, 01 R22). -/
abbrev Word := BitVec 32

/-- A byte string: a payload, a frame, a message. -/
abbrev Bytes := List Byte

end Sys2Proof
end

