-- ==== Sys2Proof/Syntax.lean ====
section
/-!
DEFINITION. The commands of the block: one constructor of Instr for each row of spec/opcode_table.json, with the row's
operands. An index of a thing the part has a fixed number of (a fibre, a lane, a worker) is a Fin, so that no
constructor names a thing that does not exist.
-/

namespace Sys2Proof

/-- The access paths that keep read latches of their own (00 R460). -/
inductive Path where
  | pcie | spi | bar4
  deriving DecidableEq, Repr

/-- What falls in the clock of a register write: the row before it (its hardware sets stand, 00 R11), and an SPI write of the same
register (02 R67). -/
structure Meet where
  before : Bool := false
  spi : Option Word := none
  deriving DecidableEq, Repr

/-- The memory BARs (02 Table 2.1). -/
inductive Bar where
  | bar0 | bar2 | bar4
  deriving DecidableEq, Repr

/-- Where an Iskel command comes from (02 R46, R55; 10 R275; 15 R361). -/
inductive Src where
  | ring (n : Fin 4)
  | spi
  | tunnel
  | mirror
  deriving DecidableEq, Repr

/-- The fields of a command header that the sender chooses beside OPCODE and LENGTH (02 Table 2.5), with the source and
the payload. OPCODE is the row's own; LENGTH is the number of payload bytes. -/
structure CmdReq where
  src : Src := .ring 0
  tag : Nat := 0
  kind : Nat := 0
  index : Nat := 0
  flags : Word := 0
  execTick : Word := 0
  leaseId : Word := 0
  reserved : BitVec 96 := 0
  payload : Bytes := []
  deriving DecidableEq, Repr

/-- A descriptor as PCIe reads it (02 Table 2.3); `fetched` is false where the read failed (ERROR_CODE 3). -/
structure Desc where
  fetched : Bool := true
  owner : Bool := true
  addr : BitVec 64 := 0
  length : Nat := 0
  deriving DecidableEq, Repr

/-- A unit of the four-level hierarchy in which a fault is found (01 Table 1.3): its region, the block code of 17 Table
17.3, the memory group (0xFF for a logic cell) and the unit within the block (18 Table 18.1). -/
structure FaultUnit where
  region : Fin 6 := 0
  block : Nat := 0
  group : Nat := 0xFF
  cell : Nat := 0
  /-- It is the spare that stands in for the unit under test (17 R391). -/
  spare : Bool := false
  deriving DecidableEq, Repr

/-- The common part of a received downstream PLOAM message (03 R74, R76): the addressed ONU-ID, the sequence number, and
whether its integrity check holds. A ligature message of another LIG_VERSION than 1 is none of the rows' (log 317). -/
structure PloamRx where
  onuId : Nat := 0x3FF
  seqno : Nat := 0
  micOk : Bool := true
  /-- It lies, wholly or partly, in an uncorrectable codeword (04 Table 4.3). -/
  fecLost : Bool := false
  deriving DecidableEq, Repr

/-- A channel profile as a message carries it (03 R78). US rates: 1 49.7664, 2 24.8832, 3 9.95328, 4 2.48832 Gb/s. -/
structure Profile where
  index : Nat := 0
  dsChId : Nat := 0
  usChId : Nat := 0
  dsGrid : Int := 0
  usGrid : Int := 0
  offGrid : Bool := false
  usRate : Nat := 1
  /-- Line mode: true HS, false TW10. -/
  hs : Bool := true
  /-- A fixed single-wavelength plan (00 R4). -/
  fixed : Bool := false
  deriving DecidableEq, Repr

/-- What a Tuning_Control request carries (03 R74, R79): the target's profile, its superframe, TO3 and TO4 in ticks. -/
structure TuneReq where
  profile : Profile := {}
  superframe : Nat := 0
  to3 : Nat := 0
  to4 : Nat := 0
  deriving DecidableEq, Repr

/-- An allocation structure of a received bandwidth map, its times and sizes converted as the standard prescribes
(05 R119, R121): StartTime and line time in ps, the offsets of the start and of the end of its payload area from its own start, the payload
area in bytes. -/
structure Grant where
  allocId : Nat := 0
  startPs : Nat := 0
  linePs : Nat := 0
  areaPs : Nat := 0
  areaEndPs : Nat := 0
  payload : Nat := 0
  profile : Nat := 0
  dbru : Bool := false
  ploamu : Bool := false
  hecOk : Bool := true
  /-- Addressed to a broadcast Alloc-ID for serial-number grants. -/
  sn : Bool := false
  /-- The forced wake-up indication (16 Table 16.4). -/
  fwi : Bool := false
  /-- Smaller than the FS header and trailer its burst needs (Table 5.3). -/
  tooSmall : Bool := false
  deriving DecidableEq, Repr

/-- The ligature header of a received fragment (05 Table 5.5). -/
structure LigHdr where
  seq : Nat := 0
  first : Bool := true
  last : Bool := true
  versionOk : Bool := true
  deriving DecidableEq, Repr

/-- What lies in a downstream FEC codeword (04 Table 4.3). -/
inductive CwContent where
  | hlend | map | ploam | payload
  deriving DecidableEq, Repr

/-- The fields of a received FRAME_START (10 Table 10.1). -/
structure FrameFields where
  length : BitVec 14 := 0
  kind : Fin 4 := 0
  pulled : Bool := false
  keyPhase : Bool := false
  gid : Fin 64 := 0
  subPort : BitVec 16 := 0
  counterLo : BitVec 16 := 0
  deriving DecidableEq, Repr

/-- The fields of a received HELLO (10 Table 10.1). -/
structure HelloFields where
  versions : BitVec 8 := 7
  ack : Bool := true
  following : Bool := false
  linkProt : Bool := false
  eidleOk : Bool := false
  role : BitVec 2 := 2
  slot : BitVec 6 := 0
  lead : BitVec 16 := 0
  deriving DecidableEq, Repr

/-- What a pointer of a frame or multiframe says (11 Table 11.3): valid and equal to the last, valid, invalid, or all ones. -/
inductive PtrRx where
  | equal | valid | invalid | ais
  deriving DecidableEq, Repr

/-- One AU-4 of a received STM-N frame: its pointer, the number of B3 violations, HP-RDI in its G1, and bits 7–8 of H4. -/
structure AuRx where
  ptr : PtrRx := .equal
  b3Errors : Fin 9 := 0
  hpRdi : Bool := false
  h4 : Fin 4 := 0
  deriving DecidableEq, Repr

/-- One VC-12 path's multiframe that ends in a received STM-N frame (11 R290, R291, R293): its pointer, the 140 bytes of the VC-12 from V5,
the first bit of an E1 basic frame among the extracted bits, where the E1 is aligned, and the place of the multiframe in K4's 32-bit
string, where K4 bit 1 is aligned. -/
structure TuRx where
  path : Fin 1008 := 0
  ptr : PtrRx := .equal
  vc : List (BitVec 8) := []
  e1 : Option (Fin 256) := none
  k4 : Option (Fin 32) := none
  deriving DecidableEq, Repr

/-- A received STM-N frame at the port's alignment (11 R287–R293, R299), and the offset of the received bit rate from the lane's reference
that the clock recovery follows, in 0.001 ppm. -/
structure StmFrame where
  patternOk : Bool := true
  b1Bad : Bool := false
  b2Errors : Nat := 0
  k1 : BitVec 8 := 0
  k2 : BitVec 8 := 0
  ppm : Int := 0
  aus : List AuRx := []
  tus : List TuRx := []
  deriving DecidableEq, Repr

/-- What a tamper sensor finds (14 R344). -/
inductive Tamper where
  | lid | voltage | clock
  deriving DecidableEq, Repr

/-- What a scratchpad port does to a word, or to the sequence lock (14 R340, R342, R343). -/
inductive ScratchKind where
  | read | write | add | swap | lock | unlock
  deriving DecidableEq, Repr

/-- An access of a scratchpad port: 8 bytes where `wide`, else 4. -/
structure ScratchAcc where
  kind : ScratchKind := .read
  wide : Bool := true
  addr : BitVec 18 := 0
  value : BitVec 64 := 0
  deriving DecidableEq, Repr

/-- The strap balls as sampled (19 R420). -/
structure Straps where
  slotId : BitVec 6 := 0
  role : BitVec 2 := 0
  bootSrc : BitVec 2 := 0
  deriving DecidableEq, Repr

/-- The paths of an image (19 R424–R426). -/
inductive ImgPath where
  | pcie | manager | partner
  deriving DecidableEq, Repr

/-- Why the hot-swap switch opens (20 R439). -/
inductive Trip where
  | under | high | current
  deriving DecidableEq, Repr

/-- What a KIND 0 mirror frame carries (15 R361): a replicated command with the tick of its dispatch on the active, a flow
context commit, the staged entries that TABLE_UNLOCK publishes, or an Alloc-ID assignment to an instance of the active. -/
inductive MirrorData where
  | command (op : Nat) (q : CmdReq) (tick : Word)
  | flow (index : Nat) (words : List Word)
  | staged (entry : Nat) (words : List Word)
  | allocId (ctx : Fin 1024) (id : Option Nat)
  deriving DecidableEq, Repr

/-- The fields of a received M_SWITCH (15 Table 15.2). -/
structure MSwitch where
  tag : Fin 8
  ns : BitVec 17
  rtag : Fin 8
  rns : BitVec 17
  cause : Byte
  deriving DecidableEq, Repr

/-- The commands of the block, one constructor per row of the opcode table, in the table's order by chapter. -/
inductive Instr where
  /-- TICK_EDGE (R22): the next tick edge T0; `temp` is the junction temperature read at it, in units of 1 °C (R459). -/
  | tickEdge (temp : Int)
  | leaseExpiry
  | shaperRefill
  | learnCommit
  | ageingStep
  | counterWindowClose
  | perfBinClose
  /-- POWER_DECISION (16 R375, R376): a wake source that fires in its clock (R378). -/
  | powerDecision (met : Option (Fin 11))
  | digestExchange
  | blotterStep
  /-- TICK_OVERRUN (R33): item 1–12 of Table 1.8 has not completed by the end of its deadline stroke. -/
  | tickOverrun (item : Fin 12)
  | cellFault (u : FaultUnit)
  | unmappedAccess (path : Path) (write : Bool) (bar : Bar) (addr : Nat)
  | unalignedAccess (path : Path) (write : Bool) (bar : Bar) (addr : Nat)
  | registerWrite (path : Path) (addr : Nat) (v : Word) (meet : Meet)
  | tickCountRead (path : Path)
  | ringEnable (n : Fin 5)
  | ringDisable (n : Fin 5)
  | doorbell (n : Fin 5) (prod : BitVec 12)
  /-- COMMAND_DISPATCH (R46): `desc` and `data` are what PCIe reads at the next descriptor and at its HOST_ADDR; they do
  not count where the SPI mailbox is next. -/
  | commandDispatch (desc : Desc) (data : Bytes)
  | replyPost (desc : Desc)
  | hostDelivery (desc : Desc)
  /-- EVT_POP (R65); `same` says that it falls in the clock of the row before it. -/
  | evtPop (v : Word) (same : Bool)
  | errPop (v : Word) (same : Bool)
  | spiStatus
  | spiRead (addr : Nat) (n : Nat)
  | spiWrite (addr : Nat) (words : List Word)
  | spiCmdPush (data : Bytes)
  | spiReplyPull (n : Nat)
  | nop (q : CmdReq)
  | authNonce (q : CmdReq)
  | nonceExpiry
  | outputsEnable (q : CmdReq)
  | regionReset (q : CmdReq)
  | regionResetComplete (r : Fin 5)
  | cancel (q : CmdReq)
  | txTuneLock (i : Fin 4)
  | rxTuneLock (i : Fin 4)
  | laserLockLoss (i : Fin 4)
  | lineModeDwellExpiry (i : Fin 4)
  | scanDwellExpiry (i : Fin 4)
  | instConfig (q : CmdReq)
  | instStart (q : CmdReq)
  | instStop (q : CmdReq)
  | instQuery (q : CmdReq)
  | setRegistrationId (q : CmdReq)
  /-- BURST_PROFILE (R77): `fits` says that the line mode and upstream rate can carry it. -/
  | burstProfile (i : Fin 4) (m : PloamRx) (index : Fin 4) (psbu : Nat) (fec : Bool) (fits : Bool)
  | assignOnuId (i : Fin 4) (m : PloamRx) (vendor : BitVec 32) (vssn : Word) (onuId : BitVec 10)
  /-- RANGING_TIME (R81): the equalisation delay converted to ns, absolute or relative to the one in force. -/
  | rangingTime (i : Fin 4) (m : PloamRx) (eqd : Int) (relative : Bool)
  | deactivateOnuId (i : Fin 4) (m : PloamRx)
  | disableSerialNumber (i : Fin 4) (m : PloamRx) (vendor : BitVec 32) (vssn : Word) (enable : Bool)
  /-- CHANNEL_PROFILE (R78): a Channel_Profile, or a System_Profile (none) as its content. -/
  | channelProfile (i : Fin 4) (m : PloamRx) (profile : Option Profile) (raw : Bytes)
  | tuningControl (i : Fin 4) (m : PloamRx) (req : TuneReq)
  | tuningExecute (i : Fin 4)
  | tuningTargetPloam (i : Fin 4) (m : PloamRx)
  | adjustTxWavelength (i : Fin 4) (m : PloamRx) (halfGhz : Int)
  | protectionControl (i : Fin 4) (m : PloamRx) (pair : Nat) (raw : Bytes)
  | requestRegistration (i : Fin 4) (m : PloamRx)
  | assignAllocId (i : Fin 4) (m : PloamRx) (allocId : BitVec 14) (assign : Bool)
  | keyControl (i : Fin 4) (m : PloamRx) (index : Fin 2)
  | sleepAllow (i : Fin 4) (m : PloamRx) (on : Bool)
  | changePowerLevel (i : Fin 4) (m : PloamRx) (up : Bool)
  | powerConsumptionInquire (i : Fin 4) (m : PloamRx)
  | ploamRx (i : Fin 4) (m : PloamRx) (raw : Bytes)
  | to1Expiry (i : Fin 4)
  | to2Expiry (i : Fin 4)
  | to3To4Expiry (i : Fin 4)
  | to5Expiry (i : Fin 4)
  | ligStart (q : CmdReq)
  | ligProposeTimeout
  | ligAccept (i : Fin 4) (m : PloamRx) (token : BitVec 16) (mask : BitVec 8) (startSfc : Word) (portFirst portCount : BitVec 16)
  | ligGroupActivate
  | ligReject (i : Fin 4) (m : PloamRx) (token : BitVec 16) (reason : Byte)
  | ligRelease (i : Fin 4) (m : PloamRx) (token : BitVec 16) (reason : Byte)
  | ligMemberRejoin (i : Fin 4)
  | ligStop (q : CmdReq)
  | ligReleaseAck (i : Fin 4) (m : PloamRx)
  | ligStopTimeout
  /-- DS_PHY_FRAME (R95): PSync as received (none absent, else its bit errors) and the superframe counter where its
  structure is valid; `here` says that the place is the tracked one: the candidate's position one frame later, or the
  next frame boundary. -/
  | dsPhyFrame (i : Fin 4) (psync : Option Nat) (sfc : Option (BitVec 51)) (here : Bool)
  /-- DS_CODEWORD (R99): `corrected` bits, or uncorrectable (none), of `bits` bits, and everything of which a part lies in it. -/
  | dsCodeword (i : Fin 4) (corrected : Option Nat) (bits : Nat) (content : List CwContent)
  | dsSignalWindowEnd (i : Fin 4)
  /-- XGEM_FRAME (R102): the header's HEC (0 good, 1 corrected, 2 uncorrectable), its fields, the payload, and whether
  part of the payload lies in an uncorrectable codeword. -/
  | xgemFrame (i : Fin 4) (hec : Fin 3) (portId : BitVec 16) (keyIndex : BitVec 2) (lf : Bool) (data : Bytes) (fecLost : Bool)
  | ligFragmentArrival (i : Fin 4) (portId : BitVec 16) (hdr : LigHdr) (data : Bytes)
  | ligGapClose
  | dsSfcLoRead (path : Path) (i : Fin 4)
  | omciTx (q : CmdReq)
  | ploamTx (q : CmdReq)
  | dsPortBind (q : CmdReq)
  | dsPortUnbind (q : CmdReq)
  | dsPortQuery (q : CmdReq)
  | grantIntake (i : Fin 4) (g : Grant)
  | pullIssue (i : Fin 4) (ctx : Fin 1024)
  | burstPreparation (i : Fin 4)
  | burstEnable (i : Fin 4)
  | burstLaunch (i : Fin 4)
  | pullFeedDeadline (i : Fin 4)
  | burstEnd (i : Fin 4)
  | allocSlotRelease (ctx : Fin 1024)
  | allocConfig (q : CmdReq)
  | allocQuery (q : CmdReq)
  | usNextTickRead (path : Path) (i : Fin 4)
  | tableLock (q : CmdReq)
  | tableRenew (q : CmdReq)
  | tableUnlock (q : CmdReq)
  | search (q : CmdReq)
  | next (q : CmdReq)
  | flushByPort (q : CmdReq)
  | tableAudit (q : CmdReq)
  | learnConfig (q : CmdReq)
  | ageConfig (q : CmdReq)
  | tblLeaseKill (path : Path) (v : Word)
  | tableWindowWrite (path : Path) (addr : Nat) (v : Word)
  | tableWindowRead (path : Path) (addr : Nat)
  | flowContextStage (path : Path) (addr : Nat) (v : Word)
  | flowContextCommit (path : Path) (addr : Nat) (v : Word)
  | frameDispatch
  | frameVerdict
  | recirculateDispatch
  | reorderRelease (port : Fin 48)
  | parserEngineFault (e : Fin 16)
  /-- CLS_BUILD_COMPLETE (R196): a build's compiled tree, whose size the manual leaves open, is complete. -/
  | clsBuildComplete
  | clsDrainComplete
  | clsConfig (q : CmdReq)
  /-- CLS_BUILD (R200): `rules` is the rule list that Quill reads at RULE_ADDR, 224 bytes a rule. -/
  | clsBuild (q : CmdReq) (rules : List Bytes)
  | clsSwap (q : CmdReq)
  | clsProbe (q : CmdReq)
  /-- EGRESS_PICK (R211): egress port 0–31 worker, 32–35 host port, 36–43 tributary port; `fill` is the time in ps until a host port's transmit buffer holds what its transmission starts with (09 R245). -/
  | egressPick (port : Fin 44) (fill : Nat)
  | shaperWheelSlot (n : Fin 65536)
  | gateEntryBoundary (p : Fin 36)
  | gateListStart (p : Fin 36)
  | qBytesRead (path : Path)
  | queueConfig (q : CmdReq)
  | queueQuery (q : CmdReq)
  | shaperConfig (q : CmdReq)
  | shaperQuery (q : CmdReq)
  | policerProfile (q : CmdReq)
  | gateList (q : CmdReq)
  | laneSignalDetect (n : Fin 40)
  | laneSignalLoss (n : Fin 40)
  /-- LANE_BLOCK_RECEIVED (R232): the symbols received since the row before it, PAM4 levels or for NRZ the outer levels. -/
  | laneBlockReceived (n : Fin 36) (symbols : List (Fin 4))
  | laneTrainingMarker (n : Fin 32)
  | laneIdleExitTimeout (n : Fin 32)
  | laneCellFault (n : Fin 40)
  | laneHdrErrRead (path : Path) (n : Fin 40) (same : Bool)
  /-- MAC_FRAME_RECEIVED (R241): the bytes with their FCS, and whether a PCS error block lies within. -/
  | macFrameReceived (h : Fin 4) (data : Bytes) (codeErr : Bool)
  | macTxUnderrun (h : Fin 4)
  | macLinkChange (h : Fin 4) (up : Bool)
  | laneTableLoad (q : CmdReq)
  | laneConfig (q : CmdReq)
  | laneQuery (q : CmdReq)
  | laneIdle (q : CmdReq)
  | macConfig (q : CmdReq)
  | macQuery (q : CmdReq)
  /-- MAPIYN_FRAME_RX (R253): a frame on a lane, the bytes of its data blocks, and whether a FRAME_START interrupts it. -/
  | mapiynFrameRx (lane : Fin 32) (f : FrameFields) (field : Bytes) (cut : Bool)
  | helloTimer (lane : Fin 36)
  | helloRx (lane : Fin 36) (f : HelloFields)
  | rangingExchange (w : Fin 36)
  | rangeReqRx (lane : Fin 36) (seq : Byte)
  /-- RANGE_RSP_RX (R260): `t4Ps` is the instant of the arrival. -/
  | rangeRspRx (lane : Fin 36) (seq : Byte) (turn : BitVec 24) (t4Ps : Nat)
  | rangeRspTimeout (w : Fin 36)
  | rangingBackoffExpiry (w : Fin 36)
  | alignRx (lane : Fin 36) (delay : BitVec 20) (ack : Bool)
  | tickBlockRx (lane : Fin 36) (tick : Word) (offset : BitVec 16) (holdover : Bool)
  /-- TIME_N_RX (R263): a TIME_N with the TIME_S received before it (none where there was none). -/
  | timeNRx (lane : Fin 36) (timeS : Option (Byte × BitVec 48)) (tag : Byte) (ns : BitVec 30) (frac : BitVec 16)
  | mapRx (w : Fin 32) (ctx : Fin 1024) (bytes : Word) (tag : Byte)
  | mapReport (ctx : Fin 1024)
  | pullRx (tag : Fin 8) (atNs : Fin 125000) (ctx : Fin 1024) (gid : Fin 64) (budget : BitVec 20)
  | pullServe (gid : Fin 64)
  | pullCancelRx (gid : Fin 64)
  | pullDoneRx (w : Fin 32) (gid : Fin 64) (sent : BitVec 20) (left : BitVec 28)
  | pullWindowMissed (w : Fin 32) (gid : Fin 64)
  | leaveRx (lane : Fin 32) (reason : Byte)
  | leaveAckRx (lane : Fin 32)
  | removalHoldExpiry (w : Fin 32)
  | workerCmdTimeout (w : Fin 32) (seq : Nat)
  | workerConfig (q : CmdReq)
  | workerQuery (q : CmdReq)
  | workerRecover (q : CmdReq)
  | workerRerange (q : CmdReq)
  | workerRelease (q : CmdReq)
  | workerCmd (q : CmdReq)
  | workerImage (q : CmdReq) (image : Bytes)
  /-- TRIB_FRAME_PATTERN (09 R237, 11 R287): the samples of the port's lane since the last such row. -/
  | tribFramePattern (t : Fin 8) (samples : List Bool)
  | tribStmFrame (t : Fin 8) (f : StmFrame)
  | tribLofTimer (t : Fin 8)
  /-- CES_PACKET_EMIT (R294); circuits are paths 0–1,007 and 1,024 + group. -/
  | cesPacketEmit (c : Fin 1056)
  | cesPacketRx (t : Fin 8)
  | cesPlayoutDue (c : Fin 1056)
  | mspWtrExpiry (k : Fin 4)
  | pmSecond
  | tribPathStatusRead (path : Path)
  | tribPortConfig (q : CmdReq)
  | tribPathConfig (q : CmdReq)
  | vcatConfig (q : CmdReq)
  | mspConfig (q : CmdReq)
  | mspCommand (q : CmdReq)
  | pmRead (q : CmdReq)
  | comparatorFire (o : Fin 8)
  | outputPulseEnd (o : Fin 9)
  | ppsOutSecond
  | captureEdge (k : Fin 9) (rising : Bool)
  | refclkLoss
  | refclkInValid
  | tb0CorrectionEnd
  | servoHoldTimeout (n : Fin 8)
  | ponTodSample (i : Fin 4)
  | tbNsRead (path : Path) (n : Fin 8)
  | timeConfig (q : CmdReq)
  | timeSet (q : CmdReq)
  | servoConfig (q : CmdReq)
  | servoSample (q : CmdReq)
  | ponTod (q : CmdReq)
  | outputConfig (q : CmdReq)
  | captureConfig (q : CmdReq)
  | captureRead (q : CmdReq)
  | ptpConfig (q : CmdReq)
  | ptpTx (q : CmdReq)
  | ptpRxRead (q : CmdReq)
  | keyDataWrite (path : Path) (n : Fin 8) (v : Word)
  | keyCommit (path : Path)
  | keyZeroise (path : Path)
  | keyAbort (path : Path)
  | keyStagingTimeout
  | cipherEngineFault (e : Fin 16)
  | cipherConfig (q : CmdReq)
  | ponKeyBind (q : CmdReq)
  | usEncrypt (q : CmdReq)
  | linkKeyBind (q : CmdReq)
  | phaseSelect (q : CmdReq)
  | keyQuery (q : CmdReq)
  | tamper (cause : Tamper)
  /-- MEM_ERROR (R339): the 8-byte word of a memory group, and whether its error is a single-bit one. -/
  | memError (group : Fin 38) (word : Nat) (correctable : Bool)
  | memEccRead (path : Path) (same : Bool)
  | scratchStatusRead (path : Path) (same : Bool)
  /-- SCRATCH_PORT_ACCESS (R342): what ports A and B ask for in one arbitration cycle. -/
  | scratchPortAccess (a b : Option ScratchAcc)
  | seqLockRevoke
  | blotterBorrow (g : Fin 38)
  | blotterTestEnd (g : Fin 38) (fail : Bool)
  | blotterRestoreEnd (g : Fin 38)
  | blotterSaveTimeout (g : Fin 38)
  | txnGrant
  | txnComplete (port : Fin 7)
  | txnLimitRevoke (port : Fin 7)
  | waitTickRevoke
  | txnFreezeExpiry
  | blotterConfig (q : CmdReq)
  | blotterQuery (q : CmdReq)
  | txnFreeze (q : CmdReq)
  | scratchOp (q : CmdReq)
  | mDigestRx (half : Bool) (tag : Byte) (word : Word)
  | mLaunchRx (i : Fin 4) (seq : BitVec 24) (launched : Bool)
  | mLoanReqRx (i : Fin 4) (tag : Fin 8) (ns : BitVec 17) (len : BitVec 20) (id : Byte)
  | mLoanAckRx (id : Byte) (granted : Bool)
  | loanActRelease
  | loanActClaim
  | mHealthRx (half : BitVec 16) (sf o5 : BitVec 4) (state : BitVec 3)
  | mSwitchRx (tag : Fin 8) (ns : BitVec 17) (rtag : Fin 8) (rns : BitVec 17) (cause : Byte)
  /-- SWITCHOVER_AT_SWITCH (R369): whether an eject is recognised in its clock (20 R442). -/
  | switchoverAtSwitch (eject : Bool)
  /-- PARTNER_GONE (R368): an M_SWITCH may arrive in its clock (R370), and an eject may be recognised in it (20 R442). -/
  | partnerGone (met : Option MSwitch) (eject : Bool)
  | actInChange (asserted : Bool)
  | actOutClaim
  /-- MIRROR_REPLICATED_RX (R361): a KIND 0 frame as its lane carried it, and the command or data that it stands for. -/
  | mirrorReplicatedRx (f : FrameFields) (field : Bytes) (r : MirrorData)
  | mirrorBulkCopyRx (f : FrameFields) (field : Bytes) (group : Fin 38) (addr : Nat) (bytes : Bytes)
  | mirrorScratchWriteRx (f : FrameFields) (field : Bytes) (addr : Nat) (bytes : Bytes)
  | mirrorKeyTransferRx (f : FrameFields) (field : Bytes) (slot : BitVec 12) (key : Bytes) (aes256 : Bool)
  /-- RESYNC_PASS_END (R365): bytes written during the pass, to copy in the next. -/
  | resyncPassEnd (left : Nat)
  | mirrorLinkLoss
  /-- STANDBY_HEALTH_TEST (R367): whether every lane that was tested, and which lasers, passed. -/
  | standbyHealthTest (lanesOk : Bool) (lasersOk : BitVec 4)
  | pairConfig (q : CmdReq)
  | pairSwitch (q : CmdReq)
  | pairResync (q : CmdReq)
  | pairQuery (q : CmdReq)
  | sleepEntryStart
  | sleepAbortPoint (n : Fin 4)
  | sleepIndicationTimeout
  | sleepSampleStart
  | sleepSampleEnd
  | wakeEvent (cause : Fin 11)
  | wakeComplete
  | pwrWake (path : Path) (v : Word)
  | domainOffGrantTimeout (d : Fin 24)
  | domainPowerUpComplete (d : Fin 24)
  | sleepConfig (q : CmdReq)
  | domainPower (q : CmdReq)
  | clockSwitch (q : CmdReq)
  | padRelease (q : CmdReq)
  | powerQuery (q : CmdReq)
  | lcAdvance (q : CmdReq)
  /-- LC_FUSE_VERIFIED (R386): whether the second copy of the target row has verified, or the programming has failed. -/
  | lcFuseVerified (ok : Bool)
  | bistRun (q : CmdReq)
  /-- BIST_COMPLETE (R390): the signature that the block's test folded. -/
  | bistComplete (sig : Word)
  | trstAssert
  | jtagInstructionUpdate (code : Byte)
  | counterRead (path : Path) (k : Nat)
  | bwBytesLoRead (path : Path) (p : Fin 96)
  | instFlapRead (path : Path) (i : Fin 4) (same : Bool)
  | counterConfig (q : CmdReq)
  | counterChain (q : CmdReq)
  /-- COUNTER_CLEAR (R413); `same` says that the clear falls in the clock of the row before it (R409). -/
  | counterClear (q : CmdReq) (same : Bool)
  | snapshot (q : CmdReq)
  | bwConfig (q : CmdReq)
  /-- FATAL_CONDITION (R400): CAUSE 1–5 and the region where it is 1 or 2. -/
  | fatalCondition (cause : Fin 6) (region : Fin 6)
  | fatalChipReset
  | coldReset (straps : Straps)
  | warmReset
  | perstAssert
  | bootGo (path : Path) (v : Word)
  /-- IMAGE_CHUNK_RX (R425, R426): a frame that brings a chunk of an image, its data blocks as they came, and whether it is the last. -/
  | imageChunkRx (kind : ImgPath) (f : FrameFields) (last : Bool) (field : Bytes)
  /-- IMAGE_DELIVERED (R423, R427): a complete PCIe image (none where the fetch failed), or one whose chunks have all arrived, and the
  path of another that completes in the same clock. -/
  | imageDelivered (kind : ImgPath) (met : Option ImgPath) (image : Option Bytes)
  | commandReady
  | hotswapClose
  | hotswapTrip (cause : Trip)
  | ejectRecognised
  | quiesceStart
  | ejectEnd
  | keyCommitComplete
  | workerImageTimeout (w : Fin 32)
  | perstDeassert
  | resetDeassert (straps : Straps)
  | functionLevelReset
  deriving DecidableEq, Repr

end Sys2Proof
end

