-- ==== Sys2Proof/Decode.lean ====
section
/-!
DEFINITION. The commands that words of the opcode table spell. The table gives no row any bits (every row's "fields" is empty):
its rows are the part's operations and events, which no word encodes.
-/

namespace Sys2Proof

/-- The command that a word spells by the table's bits: none for every word. -/
def decodeTableWord (_nbits _w : Nat) : Option Instr := none

end Sys2Proof
end

