-- ==== Sys2Proof/Machine/Bits.lean ====
section
/-!
DEFINITION. Byte order and bit fields: little-endian fields of payloads and records (00 R9), network-order fields where a
rule states them, signed differences of 32-bit ticks (00 R13), and two's complement of short fields.
-/

namespace Sys2Proof.Machine

/-- The byte at offset k; 0 beyond the end (a length check comes before every use, 02 R48). -/
def u8 (p : Bytes) (k : Nat) : Nat := (p.getD k 0).toNat

/-- Little-endian fields of 16, 24, 32, 40 and 64 bits (00 R9). -/
def u16 (p : Bytes) (k : Nat) : Nat := u8 p k + 256 * u8 p (k + 1)
def u24 (p : Bytes) (k : Nat) : Nat := u16 p k + 65536 * u8 p (k + 2)
def u32 (p : Bytes) (k : Nat) : Nat := u16 p k + 65536 * u16 p (k + 2)
def u40 (p : Bytes) (k : Nat) : Nat := u32 p k + 4294967296 * u8 p (k + 4)
def u48 (p : Bytes) (k : Nat) : Nat := u32 p k + 4294967296 * u16 p (k + 4)
def u64 (p : Bytes) (k : Nat) : Nat := u32 p k + 4294967296 * u32 p (k + 4)

/-- A 32-bit field as a register word. -/
def w32 (p : Bytes) (k : Nat) : Word := BitVec.ofNat 32 (u32 p k)

/-- n bytes from offset k. -/
def slice (p : Bytes) (k n : Nat) : Bytes := (p.drop k).take n

/-- The n least significant bytes of v, least significant first (00 R9). -/
def le (n v : Nat) : Bytes :=
  match n with
  | 0 => []
  | n + 1 => BitVec.ofNat 8 v :: le n (v / 256)

/-- The value of a byte string read least significant byte first. -/
def leNat : Bytes → Nat
  | [] => 0
  | b :: bs => b.toNat + 256 * leNat bs

/-- The value of a byte string in network order (most significant byte first). -/
def beNat (bs : Bytes) : Nat := leNat bs.reverse

/-- n bytes of v in network order. -/
def be (n v : Nat) : Bytes := (le n v).reverse

/-- n zero bytes: reserved fields of a reply (00 R12). -/
def zeros (n : Nat) : Bytes := List.replicate n 0

/-- Are all bytes of a field zero (00 R12)? -/
def allZero (p : Bytes) : Bool := p.all (· == 0)

/-- A string cut or padded with zeros to n bytes. -/
def fit (n : Nat) (p : Bytes) : Bytes := p.take n ++ zeros (n - p.length)

/-- Bit k of a natural number. -/
def bit (v k : Nat) : Bool := v.testBit k

/-- Bits [hi:lo] of a natural number (00 R9). -/
def field (v hi lo : Nat) : Nat := v / 2 ^ lo % 2 ^ (hi + 1 - lo)

/-- A flag as a bit value. -/
def b2n (b : Bool) : Nat := if b then 1 else 0

/-- An n-bit field read as two's complement. -/
def signed (n v : Nat) : Int := if v % 2 ^ n < 2 ^ (n - 1) then (v % 2 ^ n : Nat) else (v % 2 ^ n : Nat) - (2 ^ n : Nat)

/-- A signed value as an n-bit two's complement field. -/
def unsigned (n : Nat) (z : Int) : Nat := (z % (2 ^ n : Nat)).toNat

/-- The signed difference a − b of two tick numbers (00 R13). -/
def tickDiff (a b : Word) : Int := (a - b).toInt

/-- Population count of the low n bits. -/
def popcount (n v : Nat) : Nat := ((List.range n).filter (fun k => bit v k)).length

/-- Set or clear bit k of a natural number. -/
def withBit (v k : Nat) (b : Bool) : Nat := v - b2n (bit v k) * 2 ^ k + b2n b * 2 ^ k

/-- The positions of the set bits among the low n, rising. -/
def bitsOf (n v : Nat) : List Nat := (List.range n).filter (fun k => bit v k)

/-- A value that stops at a bound. -/
def satAdd (bound a b : Nat) : Nat := min bound (a + b)

end Sys2Proof.Machine
end

