-- ==== Sys2Proof/Config.lean ====
section
/-!
DEFINITION. What an implementation fixes and the values the manual leaves open. An opaque constant has no body: nothing
can be proved about its value.
-/

namespace Sys2Proof.Config

/-- A free value: the k-th value that the manual leaves open in a run (log 2). -/
opaque freeValue : Nat → Nat

/-- Bytes of Inkwell left for queues after the fixed reservations (08 R209), whose sum the manual does not give (log 9). -/
opaque inkwellRoom : Nat

/-- Bytes of Inkwell reserved for the jitter buffers of circuit emulation (11 R303), a number the manual does not give
(log 9). -/
opaque jitterRoom : Nat

/-- T_RESP of a line mode (true HS, false TW10) in ns: the standard's nominal response time (03 R82, 05 R121), a number
the manual does not give (log 10). -/
opaque respNs : Bool → Nat

/-- The unit of a DBRu report in bytes, and the largest value of its field, in a line mode: the standard's (05 R134, log 10). -/
opaque dbruUnit : Bool → Nat
opaque dbruMax : Bool → Nat

/-- The integrity check of an upstream PLOAM message under a key, empty for the default key: the standard's function of its 40 bytes (03
Table 3.8, 04 R117, log 316). -/
opaque ploamMic : List (BitVec 8) → List (BitVec 8) → Nat

/-- The report of a key that Key_Control asked for, encrypted under the key encryption key: the standard's function of both (13 R333,
log 1307). -/
opaque keyReport : List (BitVec 8) → List (BitVec 8) → List (BitVec 8)

/-- Frames over which the B2 error ratio of MS-DEG is taken for an SD_EXP: the standard's window (11 Table 11.3, log 1106). -/
opaque degWindow : Nat → Nat

/-- PULL_LEAD_NS that the part offers as a worker (10 R257), a number the manual does not give (log 10). -/
opaque pullLeadNs : BitVec 16

/-- Δ, the downstream correction of the standard of a line mode (true HS), from EqD and the response time in ns (12 R310,
log 10), in units of 2⁻¹⁶ ns. -/
opaque todDelta : Bool → Nat → Nat → Int

/-- The bytes of the KIND 0 mirror frame that carries a command or data (15 R361, Table 15.3 CONFIG): the manual gives the frame
no layout (log 45). -/
opaque mirrorFrame : MirrorData → Bytes

/-- The KIND 1 mirror frame that carries bytes of a memory group from an address on (15 R365): the manual gives it no layout (log 44). -/
opaque bulkFrame : Nat → Nat → List (BitVec 8) → List (BitVec 8)

/-- The KIND 3 mirror frame that carries a key of 16 or, true, 32 bytes to a slot (15 R361): the manual gives it no layout (log 45). -/
opaque keyFrame : Nat → Bool → List (BitVec 8) → List (BitVec 8)

/-- The fuses that manufacture leaves: programmed copies (0–3) of a life-cycle row, the authentication key, whether it is
fused, the serial number, VSSN_BASE and the silicon step (17 R385, 02 R54, 03 Table 3.8; log 5). -/
opaque fuseCopies : Nat → Nat
opaque authKey : Nat
opaque authKeyFused : Bool
opaque serial : BitVec 64
opaque vssnBase : BitVec 32
opaque siliconStep : BitVec 8

/-- The public key that ROM holds, its x and its y (19 R423): the manual does not give it (log 1909). -/
opaque romKey : Nat × Nat

/-- The signature that ROM holds for a block and a level, 1 field or 2 full (17 R387 below Table 17.2; log 61). -/
opaque bistSignature : Nat → Nat → BitVec 32

end Sys2Proof.Config
end

