-- ==== Sys2Proof/Machine/Maps.lean ====
section
/-!
DEFINITION. Sparse contents of the part's memories and tables: a list of key and value pairs in one canonical form (keys
strictly rising, no entry equal to what an unlisted key reads as), with its read, write and change.
-/

namespace Sys2Proof.Machine

/-- A sparse map from numbers; what an unlisted key reads as is given at each use. -/
abbrev SMap (α : Type) := List (Nat × α)

/-- What key k holds, d where it is not listed. -/
def SMap.get {α : Type} (d : α) : SMap α → Nat → α
  | [], _ => d
  | (k', v) :: m, k => if k' = k then v else SMap.get d m k

/-- Put an entry at its place in the rising order. -/
def SMap.put {α : Type} (k : Nat) (v : α) : SMap α → SMap α
  | [] => [(k, v)]
  | (k', v') :: m =>
    if k < k' then (k, v) :: (k', v') :: m
    else if k = k' then (k, v) :: m
    else (k', v') :: SMap.put k v m

/-- Take the entries of key k out. -/
def SMap.erase {α : Type} (k : Nat) : SMap α → SMap α
  | [] => []
  | (k', v') :: m => if k' = k then SMap.erase k m else (k', v') :: SMap.erase k m

/-- Write v at key k: a value equal to the unlisted one removes the entry. -/
def SMap.set {α : Type} [DecidableEq α] (d : α) (m : SMap α) (k : Nat) (v : α) : SMap α :=
  if v = d then SMap.erase k m else SMap.put k v m

/-- Change what key k holds. -/
def SMap.modify {α : Type} [DecidableEq α] (d : α) (m : SMap α) (k : Nat) (f : α → α) : SMap α :=
  SMap.set d m k (f (SMap.get d m k))

/-- The canonical form: keys strictly rising, no entry equal to d. -/
def SMap.wf {α : Type} [DecidableEq α] (d : α) : SMap α → Bool
  | [] => true
  | [(_, v)] => decide (v ≠ d)
  | (k, v) :: (k', v') :: m => decide (k < k') && decide (v ≠ d) && SMap.wf d ((k', v') :: m)

/-- n bytes from address a of a byte store. -/
def SMap.bytes (d : Byte) (m : SMap Byte) (a : Nat) : Nat → Bytes
  | 0 => []
  | n + 1 => SMap.get d m a :: SMap.bytes d m (a + 1) n

/-- Write a byte string from address a of a byte store. -/
def SMap.setBytes (d : Byte) (m : SMap Byte) (a : Nat) : Bytes → SMap Byte
  | [] => m
  | b :: bs => SMap.setBytes d (SMap.set d m a b) (a + 1) bs

/-- Write v at key k of the list's first occurrence or in order: used where every value is kept, the default included. -/
def SMap.mem {α : Type} (m : SMap α) (k : Nat) : Bool := m.any (fun e => e.1 == k)

end Sys2Proof.Machine
end

