-- ==== Sys2Proof/Machine/State.lean ====
section
/-!
DEFINITION. The state of the part as plain data: every register, queue, table, timer and mode the manual names, with its
reset value as the field's default where the manual gives one value for every run. A sparse map lists only what differs
from its reset value.
-/

namespace Sys2Proof.Machine

/-! ## Time (01, 02) -/

/-- TICK_STATE of the tick generator (01 Table 1.7). -/
inductive TickState where
  | free | locked | slewing | holdover | following
  deriving DecidableEq, Repr

/-- The clock of the part (01 R22–R28): the present instant and the last T0 in ps since power good, and the tick
generator. -/
structure Clk where
  nowPs : Nat := 0
  t0Ps : Nat := 0
  tick : Word := 0
  /-- What renumberings have added to TICK_COUNT (R23): timers count the ticks that pass. -/
  shift : Word := 0
  state : TickState := .free
  /-- TICK_CHANNEL; 7 when there is none (R24). -/
  channel : Nat := 7
  /-- The offset: the reference's edge minus the own T0, in ps (below Table 1.7). -/
  offsetPs : Int := 0
  /-- The first alignment since a cold or warm reset has been made (R25, R461). -/
  aligned : Bool := false
  /-- The tick in progress ends at this instant, the first alignment's F (R461). -/
  alignAtPs : Option Nat := none
  /-- The followed source's T0 and its TICK_COUNT there (R26), and whether TICK_COUNT is to be adopted from it (R23). -/
  followPs : Nat := 0
  followTick : Word := 0
  adopt : Bool := false
  /-- Consecutive ticks in which item k + 1 of Table 1.8 overran (R35). -/
  overrunRun : SMap Nat := []
  /-- Items that have overrun in this tick (R35). -/
  overrunNow : List Nat := []
  /-- Items of Table 1.8 whose work for this tick has been done. -/
  itemsDone : List Nat := []
  /-- Items whose work of an earlier tick is carried over into this one, each with that tick's TICK_COUNT, oldest first (R34, R461). -/
  carried : List (Nat × Word) := []
  /-- Bandwidth maps were closed at the last edge, and item 4 has not been late since (R34). -/
  mapsClosed : Bool := false
  /-- The instant at which the policer clock stood at 0 (08 R206). -/
  policerPs : Nat := 0
  deriving DecidableEq, Repr

/-- The last update of a read-to-clear field: its clock plus 1, the value before the updates of that clock, and what they have added
(00 R11). -/
structure RcNote where
  clock : Nat := 0
  before : Nat := 0
  added : Nat := 0
  deriving DecidableEq, Repr

/-- The read latches of one access path (00 R460), each 0 until its latching read. -/
structure Latch where
  tickPhase : Word := 0
  dsSfcHi : SMap Word := []
  usNextNs : SMap Word := []
  tblWords : SMap Word := []
  /-- The entry latched per window, as its number plus 1. -/
  tblEntry : SMap Nat := []
  qFrames : Word := 0
  tbSecLo : SMap Word := []
  tbSecHi : SMap Word := []
  tribJb : Word := 0
  cntHigh : SMap Word := []
  bwHi : SMap Word := []
  bwFrames : SMap Word := []
  bwEnd : SMap Word := []
  deriving DecidableEq, Repr

/-! ## Device, rings, commands, events (02, 18) -/

/-- Device control and status (02). -/
structure Dev where
  /-- QUILL_STATE: 0 ROM, 1 awaiting image, 2 verifying, 3 command-ready, 4 image rejected, 5 fault. -/
  quill : Nat := 0
  fwVersion : Word := 0
  /-- DEV_CTRL bits 3:0. -/
  ctrl : BitVec 4 := 3
  bootSrc : BitVec 2 := 0
  role : BitVec 2 := 0
  slotId : BitVec 6 := 0
  resetCause : BitVec 6 := 1
  regionOk : BitVec 6 := 0x3F
  /-- Blocks that a region has isolated, by the codes of 17 Table 17.3. -/
  isolated : BitVec 64 := 0
  lockstepOk : Bool := true
  /-- Regions that are resetting, the own tick at which each was last reset, and the units of 01 Table 1.3 that have faulted
  once (by region, block, memory group and unit, packed). -/
  resetting : BitVec 6 := 0
  resetAt : SMap (Option Word) := []
  faulted : List Nat := []
  hostScratch : Word := 0
  /-- Enabled low-speed output groups (R60). -/
  outputs : BitVec 4 := 0
  /-- What a region reset re-applies when it completes (19 Table 19.2): lanes with rate, LOOPBACK and PRBS, and the
  instances that were started. -/
  relane : List (Nat × Nat × Nat × Bool) := []
  restart : List Nat := []
  deriving DecidableEq, Repr

/-- A ring register set (02 Table 2.4); ring 4 is the reply ring. -/
structure Ring where
  baseLo : Word := 0
  baseHi : Word := 0
  size : BitVec 13 := 0
  errorCode : BitVec 8 := 0
  error : Bool := false
  /-- The ring has stopped on an error, until ENABLE is cleared and set again (R43). -/
  stopped : Bool := false
  enable : Bool := false
  cons : Nat := 0
  /-- PROD as handed over by the last accepted DOORBELL (R43). -/
  prod : Nat := 0
  /-- A descriptor with OWNER 0 ended consumption until the next doorbell (R44). -/
  blocked : Bool := false
  deriving DecidableEq, Repr

/-- Statuses of a reply (02 Table 2.10). -/
inductive Status where
  | ok | accepted | busyRetry | busyService | restarted | deadlockAvoided | revoked | badOpcode | badParam
  | badLength | badTarget | notPermitted | lockHeld | leaseExpired | authFailed | hwFault | tableFull | notFound
  | peerAbsent
  deriving DecidableEq, Repr

/-- A command that Quill has taken: its opcode, header and payload, the order in which it was taken, and whether it runs
late (R52). -/
structure Cmd where
  op : Nat
  req : CmdReq
  seq : Nat := 0
  late : Bool := false
  /-- TICK_COUNT at its dispatch. -/
  tick : Word := 0
  /-- Its effect has begun and its completion is another row's. -/
  started : Bool := false
  /-- A transfer of it was revoked and restarted (14 R351). -/
  restarted : Bool := false
  /-- A replicated command is dispatched under item 1 in this tick, D + 2 or its EXEC_TICK (15 R361). -/
  due : Option Word := none
  /-- The source on the active of a command from the mirror link, for the order of R52. -/
  origin : Option Src := none
  /-- Its replies are discarded (19 R417). -/
  mute : Bool := false
  deriving DecidableEq, Repr

/-- A reply that has fallen due (02 Table 2.7). -/
structure Reply where
  op : Nat
  tag : Nat
  status : Status
  /-- DETAIL, bit 1 (TRUNCATED) as the posting sets it. -/
  detail : Nat
  tick : Word
  payload : Bytes
  src : Src
  /-- Not an ACCEPTED reply: the command's last one. -/
  last : Bool := true
  deriving DecidableEq, Repr

/-- A current nonce and the tick of its issue (02 R55). -/
structure Nonce where
  value : Bytes
  tick : Word
  deriving DecidableEq, Repr

/-- Quill's commands and replies (02 R46–R55). -/
structure CmdState where
  /-- Commands dispatched and not completed, oldest first. -/
  executing : List Cmd := []
  /-- The AT_TICK pending set, in order of entry (R51). -/
  pendingSet : List Cmd := []
  /-- Replies waiting for the reply ring, in order of completion (R46, R47). -/
  waiting : List Reply := []
  /-- A reply stall is in progress (R46). -/
  stalled : Bool := false
  /-- Of ring 0 (0), the SPI mailbox (1) and the tunnel (2), the one whose turn is next (R46, 10 R275). -/
  turn : Nat := 0
  /-- Commands that have come through the tunnel and are not taken yet, oldest first (10 R275). -/
  tunnelMail : List Bytes := []
  nextSeq : Nat := 0
  nonceRings : Option Nonce := none
  nonceSpi : Option Nonce := none
  deriving DecidableEq, Repr

/-- The SPI port (02 R66). -/
structure Spi where
  /-- A pushed command that Quill has not taken yet. -/
  mail : Option Bytes := none
  /-- CMD_FREE of the mailbox (read as 0 until command-ready, 19 R421). -/
  cmdFree : Bool := true
  /-- The waiting reply and those due behind it. -/
  replies : List Reply := []
  deriving DecidableEq, Repr

/-- An event or error record (02 Table 2.14, 18 R397). -/
structure Rec where
  code : Nat
  kind : Nat
  index : Nat
  detail : Nat
  tick : Word
  ns : Nat
  deriving DecidableEq, Repr

/-- Events and interrupts (02 R64, R65; 18 R397, R398, R400, R401). -/
structure Evt where
  /-- INT_CAUSE bits 0 REPLY, 3 RING_ERROR, 4 SPI_REPLY, 5 TICK; bits 1 and 2 follow the FIFOs (R65). -/
  cause : BitVec 6 := 0
  mask : BitVec 6 := 0
  pinMask : BitVec 6 := 0
  fifo : List Rec := []
  overflow : Bool := false
  /-- EVT_GROUP_VEC[g]: bit 8 ENABLE, bits 5:0 VECTOR. -/
  vec : SMap Word := []
  errFifo : List Rec := []
  errOverflow : Bool := false
  /-- Records that the full FIFO has turned away in one clock, that clock plus 1, and OVERFLOW before it: a POP of the same clock lets the
  first of them in (R65); the same for the error FIFO (18 R398). -/
  turned : List Rec := []
  turnedAt : Nat := 0
  overflowWas : Bool := false
  errTurned : List Rec := []
  errTurnedAt : Nat := 0
  errOverflowWas : Bool := false
  deriving DecidableEq, Repr

/-- FATAL_INFO and FATAL_TICK (18 R401). -/
structure Fatal where
  asserted : Bool := false
  valid : Bool := false
  region : Nat := 0
  cause : Nat := 0
  tick : Word := 0
  atPs : Nat := 0
  deriving DecidableEq, Repr

/-- The counter memory (18 R404–R412). -/
structure Cnt where
  value : SMap Word := []
  ovf : SMap Bool := []
  chained : SMap Bool := []
  winBase : BitVec 8 := 0
  userBase : BitVec 6 := 0
  deriving DecidableEq, Repr

/-- Totals of one port in a bandwidth window (18 R410, R411). -/
structure BwTotal where
  bytes : Nat := 0
  frames : Nat := 0
  deriving DecidableEq, Repr

/-- Per-port bandwidth (18 R410, R411). -/
structure Bw where
  windowTicks : Nat := 8000
  /-- WINDOW_TICKS that takes effect at the next tick edge. -/
  nextTicks : Option Nat := none
  base : Word := 0
  run : SMap BwTotal := []
  closed : SMap BwTotal := []
  closedTicks : Nat := 0
  closedAt : Word := 0
  /-- Ticks since the last close. -/
  elapsed : Nat := 0
  /-- A tick at which the window ends has begun since the last close (a close that sleep holds up, R379). -/
  ended : Bool := false
  deriving DecidableEq, Repr

/-! ## Frames -/

/-- The header of an unsolicited packet (04 R107, 07 R192, 09 R243, 10 R276): opcode, TAG and the tick of reception. -/
structure Pkt where
  op : Nat
  tag : Nat
  tick : Word
  deriving DecidableEq, Repr

/-- A frame without its FCS, the ingress port it came from (07 Table 7.1), its FLOW_TAG or SUB_PORT, the Port-ID its flow
context gives it, and the packet header where it goes to the host. -/
structure Frame where
  data : Bytes := []
  ingress : Nat := 0
  tag : Nat := 0
  port : Nat := 0
  pkt : Option Pkt := none
  /-- CLASS (07 Table 7.6), and the flow context it was forwarded under. -/
  cls : Nat := 0
  flow : Nat := 0
  /-- The start of the downstream PHY frame it came in, ps; 0 for a frame of a worker, host or tributary port (15 R369). -/
  phyPs : Nat := 0
  /-- FRAME_LENGTH where it is not that of the bytes: an exception or a copy keeps its frame's (07 R176, 08 R209). -/
  length : Option Nat := none
  deriving DecidableEq, Repr

/-! ## Channel pairs (03) -/

/-- The INST_CONFIG parameters (03 INST_CONFIG). -/
structure InstCfg where
  /-- 0 HS, 1 TW10, 2 AUTO. -/
  lineMode : Nat := 2
  usRates : Nat := 0x0F
  to1 : Nat := 100
  to2 : Nat := 10
  to5 : Nat := 20
  flapThreshold : Nat := 4
  flapWindow : Nat := 8000
  eqdLimit : Nat := 800000
  /-- RX_START_GRID; none stands for 0x7FFF, to scan. -/
  startGrid : Option Int := none
  deriving DecidableEq, Repr

/-- A stored channel profile and the tick in which it was stored (03 R78, Table 3.7). -/
structure StoredProfile where
  profile : Profile
  usable : Bool
  tick : Word
  deriving DecidableEq, Repr

/-- A stored burst profile (03 R77, 05 US_PROFILE). -/
structure BurstProfile where
  stored : Bool := false
  valid : Bool := false
  fec : Bool := false
  psbu : Nat := 0
  deriving DecidableEq, Repr

/-- An upstream PLOAM message by the name the manual gives it (03 Tables 3.4, 3.5; 04 R117; 13 R333; 16 R376). -/
inductive UpMsg where
  | serialNumber (vendor vssn : Word)
  | registration (regId : Bytes)
  /-- Acknowledge: 0 OK, 1 parameter error. -/
  | acknowledge (code : Nat) (seqno : Nat)
  /-- Tuning_Response: ACK, or NACK with reason 1 out of range, 2 conflict. -/
  | tuningResponse (ack : Bool) (reason : Nat)
  | powerReport (share : Nat)
  | keyReport (index : Nat) (report : Bytes)
  | sleepRequest (sleep : Bool)
  /-- A vendor ligature message: SUBTYPE and BODY (03 Table 3.9). -/
  | vendor (subtype : Nat) (body : Bytes)
  | host (type : Nat) (seqno : Nat) (content : Bytes)
  /-- The message the standard prescribes where none waits (05 R135). -/
  | none
  deriving DecidableEq, Repr

/-- A queued upstream PLOAM message; `eqd` takes effect once it has been sent (03 R81), `cmd` is the PLOAM_TX it
completes (04 R117). -/
structure UpItem where
  msg : UpMsg
  eqd : Option Nat := none
  cmd : Option Nat := none
  /-- Marks a LIG_PROPOSE, whose answer wait starts when it is sent. -/
  propose : Bool := false
  /-- Marks the LIG_RELEASE of a LIG_STOP, whose 64 ticks start when it is sent. -/
  release : Bool := false
  /-- The sequence number that it has taken at its P, and whether that is the instance's own next one; and its 48 bytes where the
  manual gives their layout (03 Table 3.8, 04 R117). -/
  seqno : Nat := 0
  ownSeq : Bool := false
  wire : Bytes := []
  deriving DecidableEq, Repr

/-! ## Grants and bursts (05) -/

/-- A fragment owed to a context, or taken into an allocation: the Port-ID, whether it ends its frame (LF), its ligature
number with its FIRST and LAST marks where it is bonded, and its bytes (05 R132, R136–R138). -/
structure Piece where
  port : Nat
  lf : Bool := true
  seq : Option Nat := none
  first : Bool := true
  last : Bool := true
  keyIndex : Nat := 0
  data : Bytes := []
  deriving DecidableEq, Repr

/-- A frame taken from a queue into a burst that has not launched (05 R140). -/
structure Taken where
  queue : Nat
  frame : Frame
  /-- It was taken as bonded content, which goes to the return list and not back to its queue (03 R88). -/
  bonded : Bool := false
  deriving DecidableEq, Repr

/-- One allocation of a burst (05 R119, R124, R131). -/
structure Alloc where
  ctx : Nat
  allocId : Nat
  /-- Bytes of the payload area. -/
  payload : Nat
  /-- The instant at which its payload area starts on the line, ps (Table 5.1). -/
  areaPs : Nat := 0
  /-- The line interval of its grant, ps, and the grant's PLOAMu flag (R123). -/
  startPs : Nat := 0
  endPs : Nat := 0
  ploamu : Bool := false
  dbru : Bool := false
  /-- GRANT_ID of the pull issued for it. -/
  gid : Option Nat := none
  dbruValue : Option Nat := none
  pieces : List Piece := []
  taken : List Taken := []
  /-- The continuation the context owed before this burst took it, and the OMCI messages it took (05 R130, R140). -/
  contBefore : Option Piece := none
  omci : List Bytes := []
  /-- Filled at P, or by its pull's end. -/
  filled : Bool := false
  deriving DecidableEq, Repr

/-- The group's upstream state around the taking of a burst: next number, return list and continuation before it, next number
after it (05 R128, R137). -/
structure BondMark where
  next : Nat := 0
  returns : List Piece := []
  cont : Option Piece := none
  after : Nat := 0
  deriving DecidableEq, Repr

/-- The bookkeeping of received maps (05 R120): counts that wait for the closing step, as (counter, n), and those that the last
closing posted. -/
structure MapBook where
  counts : List (Nat × Nat) := []
  posted : List (Nat × Nat) := []
  deriving DecidableEq, Repr

/-- A launch entry: one burst (05 R119–R126). -/
structure Entry where
  /-- The launch instant L in ps. -/
  atPs : Nat
  endPs : Nat
  profile : Nat := 0
  psbu : Nat := 0
  fec : Bool := false
  ploamu : Bool := false
  /-- A serial-number grant. -/
  sn : Bool := false
  allocs : List Alloc := []
  prepared : Bool := false
  enabled : Bool := false
  launched : Bool := false
  ploam : Option UpItem := none
  power : Nat := 0
  /-- The clock of its P, plus 1, and the group's upstream state before and after its taking (05 R128). -/
  prepClock : Nat := 0
  bond : BondMark := {}
  /-- A shadow of the active's burst, without light, and its BURST_SEQ (15 R362). -/
  shadow : Bool := false
  seq : Nat := 0
  deriving DecidableEq, Repr

/-- Configuration of an allocation slot (05 ALLOC_CONFIG). -/
structure AllocCfg where
  feed : Nat := 0
  frag : Bool := true
  worker : Nat := 0
  reservoir : Nat := 0
  deriving DecidableEq, Repr

/-- An allocation context c = 256 × i + s (05 R129, R143). -/
structure AllocCtx where
  allocId : Option Nat := none
  cfg : AllocCfg := {}
  next : Option AllocCfg := none
  freed : Bool := false
  granted : Nat := 0
  grantedNow : Nat := 0
  /-- GRANTED_BYTES before the last closing (R120, 01 R34). -/
  grantedWas : Nat := 0
  skipped : Nat := 0
  cont : Option Piece := none
  /-- Occupancy last reported by the worker in MAP or PULL_DONE (10 R272). -/
  mapBytes : Nat := 0
  deriving DecidableEq, Repr

/-! ## Downstream (04) -/

/-- A port binding (04 R104, R118). -/
structure PortBind where
  bound : Bool := false
  encrypt : Bool := false
  multicast : Bool := false
  flowTag : Nat := 0
  bonded : Bool := false
  deriving DecidableEq, Repr

/-- A partially reassembled service data unit of one Port-ID (04 R103). -/
structure Reasm where
  active : Bool := false
  data : Bytes := []
  secure : Bool := false
  /-- A fragment has come in the present FS payload (R103). -/
  seen : Bool := false
  /-- The rest of the unit is discarded up to its last fragment. -/
  broken : Bool := false
  deriving DecidableEq, Repr

/-- The sync machine and signal indications (04 R95–R101). -/
structure Sync where
  /-- SYNC_STATE: 0 HUNT, 1 PRE_SYNC, 2 SYNC, 3 INACTIVE. -/
  state : Nat := 3
  misses : Nat := 0
  sfc : Nat := 0
  /-- The SFC kept with the candidate. -/
  kept : Option Nat := none
  sd : Bool := false
  sf : Bool := false
  /-- Corrected bits and bits of the window of Table 4.4, and the ticks it has run. -/
  winCorrected : Nat := 0
  winBits : Nat := 0
  winTicks : Nat := 0
  /-- Consecutive ticks with an uncorrectable codeword, and without one. -/
  badRun : Nat := 0
  goodRun : Nat := 0
  badNow : Bool := false
  /-- The HLend, or the map, of the present PHY frame is lost (R100). -/
  frameLost : Bool := false
  mapLost : Bool := false
  /-- The rest of this FS payload is discarded after an uncorrectable header (R102). -/
  payloadLost : Bool := false
  /-- The instant of the last frame start, ps (05 R121), and of the last one whose PSync was present (15 R369). -/
  phyPs : Nat := 0
  intactPs : Nat := 0
  deriving DecidableEq, Repr

/-- One fibre instance (03–05, 13, 16, 21). -/
structure Inst where
  /-- State code (03 Table 3.3). -/
  st : Nat := 0x10
  prevO5 : Nat := 0x51
  txLocked : Bool := false
  rxLocked : Bool := false
  /-- INST_STATUS.LINE_MODE: 0 none, 1 HS, 2 TW10. -/
  mode : Nat := 0
  /-- INST_STATUS.US_RATE: 0 none, 1–4. -/
  usRate : Nat := 0
  onuId : Option Nat := none
  usChId : Nat := 0
  dsChId : Nat := 0
  txGrid : Option Int := none
  rxGrid : Option Int := none
  eqd : Nat := 0
  flapCount : Nat := 0
  flapExit : Option Word := none
  flapArmed : Bool := true
  cfg : InstCfg := {}
  cfgNext : Option InstCfg := none
  /-- Running timers by their start tick (03 R75). -/
  to1 : Option Word := none
  to2 : Option Word := none
  to3 : Option Word := none
  to4 : Option Word := none
  to5 : Option Word := none
  regId : Bytes := []
  profiles : List StoredProfile := []
  burst : SMap BurstProfile := []
  tune : Option TuneReq := none
  protPair : Option Nat := none
  /-- Position in the scan order of R78, and the tick in which the present dwell began (R71). -/
  scan : Nat := 0
  dwell : Word := 0
  /-- The last System_Profile message (03 Table 3.5). -/
  sysProfile : Bytes := []
  /-- The laser's offset from the grid position in 0.5 GHz, and the one in force from the next tick (R79). -/
  fine : Int := 0
  fineNext : Option Int := none
  /-- The clocks, plus 1, in which tuning to the wavelengths held began (R70). -/
  rxClock : Nat := 0
  txClock : Nat := 0
  /-- Launch power level (21 R458). -/
  power : Nat := 2
  sync : Sync := {}
  ports : SMap PortBind := []
  reasm : SMap Reasm := []
  omciTag : Nat := 0
  ploamTag : Nat := 0
  omcc : List Bytes := []
  upOwn : List UpItem := []
  upHost : List UpItem := []
  usSeq : Nat := 0
  sched : List Entry := []
  laserOn : Bool := false
  /-- A map has been received since the last closing (05 R120). -/
  mapSeen : Bool := false
  recent : List Nat := []
  /-- Payload key in use upstream (13 R333, R334) and the encrypt list: Port-ID to secured. -/
  usKeyIndex : Nat := 0
  usKeyNext : Option Nat := none
  usEncrypt : SMap Bool := []
  sleepAllowed : Bool := false
  deriving DecidableEq, Repr

/-! ## Ligature (03 R85–R93, 04 R108–R113, 05 R136–R139) -/

/-- Where a ligature group stands. -/
inductive LigPhase where
  | none | negotiating | accepted | active | stopping
  deriving DecidableEq, Repr

/-- A held downstream fragment (04 R109). -/
structure Held where
  seq : Nat
  first : Bool
  last : Bool
  member : Nat
  atPs : Nat
  port : Nat
  data : Bytes
  /-- The FLOW_TAG of the binding under which it was delineated, and the start of its PHY frame, ps (04 R118; 15 R369). -/
  tag : Nat := 0
  phyPs : Nat := 0
  deriving DecidableEq, Repr

/-- The ligature group. Members are instance numbers, in the order of the proposal. -/
structure Lig where
  phase : LigPhase := .none
  token : Nat := 0
  proposed : List Nat := []
  members : List Nat := []
  suspended : List Nat := []
  /-- Members that rejoin at the next tick edge (R88). -/
  rejoin : List (Nat × Word) := []
  startSfc : Nat := 0
  portFirst : Nat := 0
  portCount : Nat := 0
  proposals : Nat := 0
  /-- The tick in which the present proposal was sent (R86). -/
  proposedAt : Option Word := none
  /-- The tick in which the release of a LIG_STOP was sent and the instance that sent it, and the tick in which its Acknowledge was
  received (R90). -/
  stopAt : Option Word := none
  stopBy : Option Nat := none
  ackAt : Option Word := none
  usNext : Nat := 0
  returns : List Piece := []
  cont : Option Piece := none
  dsNext : Nat := 0
  held : List Held := []
  outRun : Nat := 0
  resync : Bool := false
  /-- Last bonded delivery of a member: sequence number and instant. -/
  lastSeq : SMap (Option Nat) := []
  lastPs : SMap Nat := []
  /-- The bonded frame being put together; and whether part of the frame in progress fell into a gap (04 R111). -/
  partData : Bytes := []
  partOpen : Bool := false
  partLost : Bool := false
  deriving DecidableEq, Repr

/-! ## Queues, shapers, policers, gates (08) -/

/-- Shaper use of a queue (08 QUEUE_CONFIG). -/
structure QShapers where
  aEn : Bool := false
  bEn : Bool := false
  a : Nat := 0
  b : Nat := 0
  deriving DecidableEq, Repr

/-- One queue (08 R209, R211, R222). -/
structure Queue where
  priority : Nat := 7
  weight : Nat := 1
  shapers : QShapers := {}
  nextShapers : Option QShapers := none
  maxBytes : Nat := 262144
  yellow : Nat := 131072
  red : Nat := 65536
  frames : List Frame := []
  deficit : Nat := 0
  deriving DecidableEq, Repr

/-- A SHAPER_CONFIG setting (08 SHAPER_CONFIG): MODE, RATE in kb/s, BURST in bytes. -/
structure ShCfg where
  mode : Nat := 1
  rate : Nat := 400000000
  burst : Nat := 16384
  deriving DecidableEq, Repr

/-- One shaper (08 R213–R215). -/
structure Shaper where
  cfg : ShCfg := {}
  /-- CREDIT in units of 2⁻¹⁶ byte, as folded at `atPs`. -/
  credit : Int := 1073741824
  atPs : Nat := 0
  /-- The wheel slot's instant in ps while it waits on the wheel. -/
  wheel : Option Nat := none
  /-- Accepted settings with the instants of their acceptance, oldest first. -/
  next : List (Nat × ShCfg) := []
  /-- The clock of the last dequeue that emptied its queues (08 R215). -/
  emptied : Nat := 0
  deriving DecidableEq, Repr

/-- One policer profile (08 R208). -/
structure Policer where
  aware : Bool := false
  cir : Nat := 400000000
  pir : Nat := 400000000
  cbs : Nat := 16777215
  pbs : Nat := 16777215
  deriving DecidableEq, Repr

/-- A gate control list (08 R216, R217): the base on its timebase, its cycle and its entries (GATES, DURATION_NS). -/
structure GateList where
  timebase : Nat := 0
  baseSec : Nat := 0
  baseNs : Nat := 0
  cycleNs : Nat := 0
  entries : List (Nat × Nat) := []
  deriving DecidableEq, Repr

/-- The gates of one port (08 R217, R218). The current entry follows from the operating list's base and its timebase. -/
structure Gate where
  oper : Option GateList := none
  /-- The pending list, its start in units of 2⁻¹⁶ ns of its timebase, and the command that loaded it. -/
  pending : Option GateList := none
  startAt : Nat := 0
  deriving DecidableEq, Repr

/-! ## Manager and workers (10) -/

/-- WORKER_CONFIG (10). -/
structure WrkCfg where
  admitEn : Bool := true
  linkProtect : Bool := false
  eventsEn : Bool := true
  errBudget : Nat := 16
  asym : Int := 0
  maxDelay : Nat := 1000
  pullMargin : Nat := 32
  removalHold : Nat := 8000
  eventQueue : Nat := 12299
  deriving DecidableEq, Repr

/-- A pull that the manager has issued or is about to send (10 R265–R271). -/
structure Pull where
  gid : Nat
  inst : Nat
  ctx : Nat
  budget : Nat
  /-- AT, the feed point F_P and the end of the payload area, in ps. -/
  atPs : Nat
  feedPs : Nat
  endPs : Nat
  sent : Bool := false
  /-- The first block has arrived in its window. -/
  begun : Bool := false
  /-- XGEM cost placed so far. -/
  used : Nat := 0
  deriving DecidableEq, Repr

/-- One worker lane as the manager runs it (10 R257–R281). -/
structure Worker where
  /-- W0–W5. -/
  state : Nat := 0
  version : Nat := 0
  slotId : Nat := 0
  following : Bool := false
  linkProt : Bool := false
  eidleOk : Bool := false
  peerVersions : Nat := 0
  dupHeld : Bool := false
  /-- The clock of its entry into W2 (R259). -/
  w2Clock : Nat := 0
  leadNs : Nat := 0
  /-- A HELLO has been received; one with ACK set has been. -/
  helloSeen : Bool := false
  ackSeen : Bool := false
  credit : Nat := 0
  creditTick : Word := 0
  /-- D_w in force, 1/16 ns; the one sent in ALIGN; the ALIGN has been acknowledged. -/
  delay : Nat := 0
  alignDelay : Nat := 0
  aligned : Bool := false
  retries : Nat := 0
  spread : Nat := 0
  /-- Round trips of the ranging in progress, 0.5 ps; the requests outstanding, each with its SEQ and its t1; the instant of the next. -/
  rtts : List Int := []
  rangeSeq : Nat := 0
  asked : List (Nat × Nat) := []
  rangeNextPs : Nat := 0
  ranging : Bool := false
  /-- A backoff in progress: its start and its ticks (R261). -/
  backoff : Option (Word × Nat) := none
  /-- The ranging is a WORKER_RERANGE's; the delay to slew to after the ACK of its ALIGN (R264). -/
  rerange : Bool := false
  slewTo : Option Nat := none
  /-- ASYM and MAX_DELAY_NS of the ranging in progress (R283). -/
  asymNow : Int := 0
  maxDelayNow : Nat := 1000
  errWindow : Word := 0
  errCount : Nat := 0
  pulls : List Pull := []
  nextGid : Nat := 0
  /-- GRANT_IDs of windows closed by PULL_CANCEL (R271). -/
  withdrawn : List Nat := []
  /-- The tick of entry into W0, none since reset; the egress queues have been flushed since (R280). -/
  w0Tick : Option Word := none
  flushed : Bool := false
  cfg : WrkCfg := {}
  cfgNext : Option WrkCfg := none
  /-- Tunnelled commands outstanding: the WORKER_CMD and its tag (R275, R284). -/
  tunnel : List Nat := []
  eventTag : Nat := 0
  leaving : Bool := false
  leaveSent : Bool := false
  /-- Frame counters of link protection, sent and last accepted (R277). -/
  txCount : Nat := 0
  rxCount : Nat := 0
  deriving DecidableEq, Repr

/-! ## Forwarding table, learning and flow contexts (06) -/

/-- A table lease (06 R155–R160). -/
structure Lease where
  id : Nat
  /-- Owner domain: 0 PCIe, 1 SPI, 2 tunnel. -/
  owner : Nat
  remaining : Nat
  /-- The tick in which REMAINING was set (R156). -/
  taken : Word
  /-- Bit b: table block b. -/
  blocks : Nat
  overflowed : Bool := false
  /-- Staged copies by entry number, 4096 × cell + index. -/
  staged : SMap (Option (BitVec 128)) := []
  deriving DecidableEq, Repr

/-- A learn record: the type 0 source key, its learning source and the tick in which it entered the queue (06 R161). -/
structure LearnRec where
  key : BitVec 64
  source : Nat
  tick : Word
  deferred : Bool := false
  deriving DecidableEq, Repr

/-- LEARN_CONFIG of a source (06). -/
structure LearnCfg where
  en : Bool := false
  template : BitVec 44 := 0
  deriving DecidableEq, Repr

/-- An entry of the move tracker (06 R164). -/
structure Track where
  key : BitVec 64
  opened : Word
  moves : Nat
  deriving DecidableEq, Repr

/-- AGE_CONFIG (06). -/
structure AgeCfg where
  interval : Nat := 8000
  init : Nat := 5
  moveLimit : Nat := 16
  deriving DecidableEq, Repr

/-- The forwarding table with its flow contexts (06). -/
structure Tbl where
  entries : SMap (BitVec 128) := []
  /-- Entries whose parity fails when a search reads them (R152). -/
  corrupt : List Nat := []
  leases : List Lease := []
  nextLease : Nat := 1
  /-- ISOLATED, bit b for block b (R167). -/
  isolated : Nat := 0
  /-- Spares of a block in use (Table 1.1: two per block). -/
  spares : SMap Nat := []
  /-- The tick of a cell's last parity fault (R166). -/
  faultTick : SMap (Option Word) := []
  winMap : SMap Word := []
  /-- Flow contexts: word k of context f at 8 f + k. -/
  flow : SMap Word := []
  /-- The assembly buffer: its context and the words held (R170). -/
  held : Option Nat := none
  heldWords : SMap (Option Word) := []
  learn : List LearnRec := []
  learnCfg : SMap LearnCfg := []
  learnNext : SMap (Option LearnCfg) := []
  tracker : List Track := []
  age : AgeCfg := {}
  ageNext : Option AgeCfg := none
  ageBase : Word := 0
  deriving DecidableEq, Repr

/-! ## Parsing and classification (07) -/

/-- CLS_CONFIG (07). -/
structure ClsCfg where
  incompleteMode : Bool := false
  checkCsum : Bool := true
  vxlanPort : Nat := 4789
  extraTpid : Nat := 0
  copyQueue : Nat := 12296
  malformedQueue : Nat := 12297
  malformedAction : Nat := 0
  deriving DecidableEq, Repr

/-- States of an image (07 Table 7.9). -/
inductive ImgState where
  | empty | building | ready | active | draining
  deriving DecidableEq, Repr

/-- A rule image: its rules of 224 bytes each, default action and comparators (07 R185–R189). -/
structure Image where
  state : ImgState := .empty
  valid : Bool := false
  rules : List Bytes := []
  dflt : Bytes := []
  comps : Bytes := []
  bytesUsed : Nat := 0
  deriving DecidableEq, Repr

/-- A key of the table: type (2 for an IPv6 pair), KEY or the high half, and the low half and VRF of an IPv6 key. -/
structure TKey where
  ty : Nat
  key : BitVec 64
  lo : BitVec 64 := 0
  vrf : Nat := 0
  deriving DecidableEq, Repr

/-- What a frame's last pass has decided, as its release carries it out (07 R181, R190–R192). -/
structure Decision where
  /-- 0 CONTINUE, 1 FORWARD, 3 TO_HOST; 5 a malformed frame to the host. -/
  verdict : Nat
  key : Option TKey := none
  queue : Nat := 0
  flow : Nat := 0
  cls : Nat := 0
  colour : Nat := 0
  setClass : Bool := false
  setColour : Bool := false
  copy : Bool := false
  learn : Option (BitVec 64) := none
  rule : Nat := 0xFFFFFFFF
  /-- Table 7.3 code, 0xFF none; PASS_FLAGS; and the tick of the verdict. -/
  reason : Nat := 0xFF
  passFlags : Nat := 0
  tick : Word := 0
  deriving DecidableEq, Repr

/-- Where a frame in the pipeline stands: its tree search is to end, it waits for its second dispatch, which begins at a
byte of the frame, or it waits for its release. -/
inductive Stage where
  | search
  | again (start : Nat)
  | done (d : Decision)
  deriving DecidableEq, Repr

/-- A frame between its first dispatch and its release (07 R182–R195). -/
structure Flight where
  frame : Frame
  epoch : Nat
  pass : Nat := 1
  /-- The byte at which this pass starts, and the settings in force at its dispatch (R199). -/
  start : Nat := 0
  cfg : ClsCfg
  engine : Nat := 0
  stage : Stage := .search
  deriving DecidableEq, Repr

/-- The classifier (07). -/
structure Cls where
  cfg : ClsCfg := {}
  /-- CLS_CONFIG that applies from the next swap-clock instant. -/
  cfgNext : Option ClsCfg := none
  images : SMap Image := []
  /-- The active epoch: image 0 A, 1 B. -/
  epoch : Nat := 0
  /-- Nothing has been built: image A is ACTIVE and not valid (R196). -/
  swapTo : Option Nat := none
  swapTick : Word := 0
  enginesOk : BitVec 16 := 0xFFFF
  /-- Parser engines that have faulted once (R184). -/
  faulted : BitVec 16 := 0
  /-- The next engine of the rotation (R182). -/
  rot : Nat := 0
  flights : List Flight := []
  /-- TAG of the host-delivery queues 12,296–16,383. -/
  tags : SMap Nat := []
  buildTick : Word := 0
  deriving DecidableEq, Repr

/-! ## Lanes and host ports (09) -/

/-- The settings of a lane: an entry of the lane setting table (09 Table 9.4). -/
structure LaneSet where
  lane : Nat := 0
  rate : Nat := 0
  flags : Nat := 0
  txPre : Int := 0
  txMain : Nat := 0
  txPost : Int := 0
  ctle : Nat := 0
  dfe1 : Int := 0
  dfe2 : Int := 0
  dfe3 : Int := 0
  deriving DecidableEq, Repr

/-- A loaded lane setting table (09 R228–R230). -/
structure LaneTable where
  board : Word := 0
  revision : Nat := 0
  entries : List LaneSet := []
  deriving DecidableEq, Repr

/-- STATE of a lane (09 Table 9.5). -/
inductive LaneState where
  | down | waitSignal | hunt | locked | rxIdle | legacy | fault
  deriving DecidableEq, Repr

/-- One lane (09 R228–R238). -/
structure Lane where
  state : LaneState := .down
  /-- The rate code; 0xF while DOWN. -/
  rate : Nat := 15
  loopback : Nat := 0
  prbs : Bool := false
  txIdle : Bool := false
  signal : Bool := false
  settings : Option LaneSet := none
  /-- SOURCE: the settings came from the built-in table. -/
  builtin : Bool := false
  validRun : Nat := 0
  winCount : Nat := 0
  winBad : Nat := 0
  /-- Which of the last 16 headers were EIDLE blocks, newest first (R235). -/
  eidle : List Bool := []
  hdrErr : Nat := 0
  prbsErr : Nat := 0
  /-- Signal present in RX_IDLE since (R231). -/
  idlePs : Option Nat := none
  /-- The transmitter sends EIDLE blocks up to this instant (R235), or has sent its training burst at it (R236); the clock of the last
  exit request. -/
  eidleAt : Option Nat := none
  burstEnd : Option Nat := none
  exitClock : Nat := 0
  /-- The candidate bit position, the bits still to slip, and the received bits that belong to no block yet (R231). -/
  candidate : Nat := 0
  slip : Nat := 0
  rxBits : List Bool := []
  /-- The registers of the receiver's decoder and descrambler (R225, R227). -/
  rxLast : Fin 4 := 0
  rxScr : BitVec 58 := 0
  /-- PRBS31 (R234): the generator's register; the bits that the checker has taken, at most 31, and its register. -/
  prbsTx : BitVec 31 := 0
  prbsSeen : Nat := 0
  prbsRx : BitVec 31 := 0
  /-- Symbols of the own transmitter that near-end loopback has brought to the receiver (R234). -/
  looped : Nat := 0
  deriving DecidableEq, Repr

/-- The MAC_CONFIG block (09). -/
structure MacCfg where
  mode : Nat := 0
  flags : Nat := 4
  maxFrame : Nat := 9600
  badQueue : Nat := 12298
  filterEn : Nat := 0
  filters : List Bytes := List.replicate 16 (List.replicate 6 0)
  deriving DecidableEq, Repr

/-- One host port (09 R239–R245). -/
structure Mac where
  cfg : MacCfg := {}
  threshold : Nat := 256
  link : Bool := false
  badTag : Nat := 0
  /-- The frame in transmission, and the PTP_TX it belongs to with its transmit timestamp (12 R315). -/
  sending : Option Frame := none
  sendCmd : Option (Nat × Nat) := none
  /-- The clock of the last MAC_CONFIG (R245). -/
  cfgClock : Nat := 0
  /-- Bytes received in this tick while asleep with HOST_KEEP (16 Table 16.4, cause 6). -/
  wakeBytes : Nat := 0
  deriving DecidableEq, Repr

/-! ## The link to the manager in the worker role (10) -/

/-- A PULL received (10 R267). -/
structure RolePull where
  gid : Nat
  ctx : Nat
  atPs : Nat
  budget : Nat
  deriving DecidableEq, Repr

/-- What a device in the worker role knows of its manager (10 R257, R262, R263, R267, R272, R281). -/
structure Role where
  helloSeen : Bool := false
  ackSeen : Bool := false
  /-- Identification is complete (the manager's lane is in W2 or beyond), and the version. -/
  version : Nat := 0
  mgrSlot : Nat := 0
  linkProt : Bool := false
  delay : Option Nat := none
  following : Bool := false
  pulls : List RolePull := []
  /-- XGEM cost per context as last reported in MAP or PULL_DONE (R272). -/
  reported : SMap Nat := []
  leaving : Option Nat := none
  txCount : Nat := 0
  rxCount : Nat := 0
  nonce : Option Nonce := none
  /-- EIDLE_OK of the manager's HELLO (R256). -/
  eidleOk : Bool := false
  /-- Until when tunnelled frames and event frames hold the lane (R275, R276). -/
  busyPs : Nat := 0
  /-- The instant from which a context's waiting cost has differed from what was reported (R272). -/
  changed : SMap (Option Nat) := []
  deriving DecidableEq, Repr

/-! ## Tributaries (11) -/

/-- A frame-alignment candidate (11 R287); `check` is clear where a former offset is seeded without a B1 check. -/
structure Cand where
  pos : Nat
  hits : Nat := 1
  check : Bool := true
  /-- Bits since the last hit, and the BIP-8 over them. -/
  run : Nat := 0
  bip : Nat := 0
  /-- At the second hit: the B1 computed over the N bits before it, until the frame's B1 byte has arrived. -/
  want : Option Nat := none
  deriving DecidableEq, Repr

/-- The defects of an AU-4 with their runs (11 Table 11.3). -/
structure AuState where
  lop : Bool := false
  ais : Bool := false
  lom : Bool := false
  hpRdi : Bool := false
  invalidRun : Nat := 0
  equalRun : Nat := 0
  aisRun : Nat := 0
  validRun : Nat := 0
  h4BadRun : Nat := 0
  h4GoodRun : Nat := 0
  /-- The last H4 value, the frame's place in the present H4 multiframe, and whether that is correct so far. -/
  h4Last : Nat := 0
  h4Place : Nat := 0
  h4Good : Bool := true
  /-- B3 violations of the last frame, for HP-REI, and the B3 of the last transmitted VC-4 (11 R285). -/
  rei : Nat := 0
  txB3 : Nat := 0
  deriving DecidableEq, Repr

/-- A tributary port (11). -/
structure Trib where
  enable : Bool := false
  txTiming : Nat := 0
  sdExp : Nat := 6
  /-- ALIGN: 0 DISABLED, 1 HUNT, 2 IN_FRAME. -/
  align : Nat := 0
  cands : List Cand := []
  offset : Nat := 0
  errRun : Nat := 0
  oof : Bool := false
  /-- The instant of the last change of OOF. -/
  oofPs : Nat := 0
  los : Bool := false
  lof : Bool := false
  msAis : Bool := false
  exc : Bool := false
  deg : Bool := false
  msRdi : Bool := false
  aisRun : Nat := 0
  notAisRun : Nat := 0
  far : Nat := 0
  /-- The last K1 byte and in how many consecutive frames it came. -/
  k1Last : Nat := 0
  k1Run : Nat := 0
  /-- B2 violations of each of the last 80 frames, and of the present window for MS-DEG with its frames (11 Table 11.3). -/
  b2Last : List Nat := []
  degErrs : Nat := 0
  degFrames : Nat := 0
  aus : SMap AuState := []
  /-- Clock recovery (09 R237): the last sample and the samples since the bit's boundary. -/
  cdrLast : Bool := false
  cdrPhase : Nat := 0
  /-- The position of the last recovered bit modulo N, and the last 48 bits. -/
  bitNo : Nat := 0
  shift : Nat := 0
  /-- The received bit rate's offset from the lane's reference, and the offset to which the transmit sample clock is steered, in steps of
  0.001 ppm (09 R238, 11 R298). -/
  rxPpm : Int := 0
  txPpm : Int := 0
  /-- The transmitter (11 R285): the place of the next frame in the TU multiframe, where 0 carries V1; B1 and B2 of the last frame sent; M1. -/
  txPlace : Nat := 3
  txB1 : Nat := 0
  txB2 : Bytes := []
  m1 : Nat := 0
  /-- Frames drained from the port's egress queues, which the port has not yet taken to a circuit (11 R296). -/
  rx : List Frame := []
  deriving DecidableEq, Repr

/-- A VC-12 path (11 TRIB_PATH_CONFIG, Table 11.3). -/
structure TPath where
  mode : Nat := 0
  port : Nat := 0
  au4 : Nat := 0
  klm : Nat := 0
  group : Nat := 0
  sq : Nat := 0
  slots : Nat := 0
  payload : Nat := 0
  jb : Nat := 0
  flow : Nat := 0
  clock : Nat := 0
  hdrLen : Nat := 0
  hdr : Bytes := []
  tuLop : Bool := false
  tuAis : Bool := false
  lpRdi : Bool := false
  e1Lof : Bool := false
  lom : Bool := false
  sqm : Bool := false
  invalidRun : Nat := 0
  equalRun : Nat := 0
  aisRun : Nat := 0
  validRun : Nat := 0
  mfiRun : Nat := 0
  /-- BIP-2 over the last received VC-12 (11 R290). -/
  rxBip : Option Nat := none
  /-- K4 bit 2 of the present 16 ms period and the multiframes in it; the last multiframe indicator (11 R293). -/
  k4Bits : List Bool := []
  k4Run : Nat := 0
  mfi : Option Nat := none
  /-- The number, modulo 1,024, of the last multiframe and the instant of its end. -/
  mfNo : Option Nat := none
  mfPs : Nat := 0
  /-- The skew buffer of a group's member: multiframe numbers with their 136 bytes, oldest first. -/
  skew : List (Nat × Bytes) := []
  /-- The transmitted VC-12, the BIP-2 over it, and LP-REI. -/
  txVc : Bytes := []
  txBip : Nat := 0
  txRei : Bool := false
  /-- What the transmitted E1 is ahead of its nominal bits, in 10⁻⁹ bit (11 R290, R297). -/
  justPhase : Int := 0
  /-- The next basic frame of a transmitted CESoPSN E1 carries the frame alignment signal. -/
  e1Fas : Bool := true
  /-- A group member's shares to transmit: multiframe numbers with their 136 bytes. -/
  shares : List (Nat × Bytes) := []
  deriving DecidableEq, Repr

/-- A virtual-concatenation group (11 VCAT_CONFIG); X 0 where there is none. -/
structure Vcat where
  x : Nat := 0
  payload : Nat := 0
  jb : Nat := 0
  clock : Nat := 0
  hdrLen : Nat := 0
  flow : Nat := 0
  hdr : Bytes := []
  loa : Bool := false
  /-- The number of the next multiframe to transmit (11 R293). -/
  txNo : Nat := 0
  deriving DecidableEq, Repr

/-- A held packet of a jitter buffer: its L bit, its RTP timestamp and its data. -/
structure JbPkt where
  l : Bool
  stamp : Nat := 0
  data : Bytes
  deriving DecidableEq, Repr

/-- The packet streams of a circuit (11 R294–R297). -/
structure Circ where
  txSeq : Nat := 0
  /-- Held packets by sequence number. -/
  held : SMap (Option JbPkt) := []
  next : Option Nat := none
  playing : Bool := false
  lops : Bool := false
  replaced : Nat := 0
  outRun : Nat := 0
  rxL : Bool := false
  rxR : Bool := false
  /-- e in steps of 0.001 ppm (11 R297). -/
  freq : Int := 0
  /-- Circuit data received and not yet sent in a packet, and the instant of the last packet. -/
  rxBits : List Bool := []
  emitPs : Nat := 0
  /-- The instant at which the next packet's first byte is due, and played-out data not yet transmitted. -/
  duePs : Nat := 0
  txBits : List Bool := []
  /-- CLOCK 1: the last packet's SEQ and timestamp, and the packets and the time stamps since playout started. -/
  rtpLast : Option (Nat × Nat) := none
  rtpPackets : Nat := 0
  rtpTicks : Nat := 0
  deriving DecidableEq, Repr

/-- An MSP pair (11 R299, R300). -/
structure Msp where
  enabled : Bool := false
  bidir : Bool := false
  revertive : Bool := false
  wtrMin : Nat := 5
  /-- The command request in force, a code of Table 11.6; 0 none. -/
  command : Nat := 0
  selected : Nat := 0
  request : Nat := 0
  wtrEnd : Option Nat := none
  deriving DecidableEq, Repr

/-- A performance bin (11 R301, R302). -/
structure PmBin where
  start : Nat := 0
  es : Nat := 0
  ses : Nat := 0
  bbe : Nat := 0
  uas : Nat := 0
  suspect : Bool := false
  adjusted : Bool := false
  deriving DecidableEq, Repr

/-- A second whose unavailability is not yet known: the starts of its two bins, its errored blocks, whether it is SES. -/
structure PmSec where
  bin15 : Nat
  bin24 : Nat
  blocks : Nat
  ses : Bool
  es : Bool
  deriving DecidableEq, Repr

/-- A monitored entity (11 Table 11.7). -/
structure Pm where
  blocks : Nat := 0
  defect : Bool := false
  unavailable : Bool := false
  undecided : List PmSec := []
  cur15 : PmBin := {}
  hist : List PmBin := []
  cur24 : PmBin := {}
  prev24 : Option PmBin := none
  deriving DecidableEq, Repr

/-! ## Time (12) -/

/-- SERVO_CONFIG (12). -/
structure ServoCfg where
  kind : Nat := 0
  index : Nat := 0
  stepEn : Bool := false
  kp : Nat := 0
  ki : Nat := 0
  maxPpm : Nat := 1
  lockNs : Nat := 0
  stepNs : Nat := 0
  holdMs : Nat := 10
  cableNs : Int := 0
  deriving DecidableEq, Repr

/-- A timebase (12 R305, R306, R312). Values are in units of 2⁻¹⁶ ns since second 0. -/
structure Tbase where
  /-- The value at `atPs`, the instant of its last step or change of RATE. -/
  base : Nat := 0
  atPs : Nat := 0
  /-- RATE, 1/256 ppb, and the RATE before the last change, by which the clocks before `atPs` count. -/
  rate : Int := 0
  rateWas : Int := 0
  stepped : Bool := false
  servo : ServoCfg := {}
  /-- SERVO_STATE: 0 OFF, 1 ACQUIRE, 2 LOCKED, 3 HOLDOVER. -/
  state : Nat := 0
  /-- The integrator, 2⁻³² ppb. -/
  integ : Int := 0
  inRun : Nat := 0
  outRun : Nat := 0
  /-- θ of the last sample, ns. -/
  offset : Int := 0
  samplePs : Nat := 0
  deriving DecidableEq, Repr

/-- OUTPUT_CONFIG of an output (12 R317). START is in units of 2⁻¹⁶ ns. -/
structure OutCfg where
  timebase : Nat := 0
  enable : Bool := false
  activeLow : Bool := false
  start : Nat := 0
  periodNs : Nat := 0
  widthNs : Nat := 0
  deriving DecidableEq, Repr

/-- An output (12 R317): TEV 0–7, PPS_OUT 8, SYNC_OUT 9. -/
structure OutCh where
  cfg : OutCfg := {}
  cfgNext : Option OutCfg := none
  target : Option Nat := none
  asserted : Bool := false
  endPs : Nat := 0
  deriving DecidableEq, Repr

/-- A capture input (12 R318): its records are (value, 1 rising or 2 falling), oldest first. -/
structure Capture where
  timebase : Nat := 0
  edge : Nat := 0
  queue : List (Nat × Nat) := []
  overflow : Bool := false
  lastPs : Option Nat := none
  deriving DecidableEq, Repr

/-- A PTP receive record (12 R314): type, domain, sequence, source port, timestamp. -/
structure PtpRec where
  msg : Nat
  domain : Nat
  seq : Nat
  port : Bytes
  time : Nat
  deriving DecidableEq, Repr

/-- PTP on a host port (12 R314, R315): waiting PTP_TX frames by the sequence number of their command. -/
structure Ptp where
  rxEn : Bool := false
  timebase : Nat := 0
  ring : List PtpRec := []
  waiting : List (Nat × Bytes) := []
  deriving DecidableEq, Repr

/-- A PON_TOD that waits for its frame (12 R310). -/
structure TodWait where
  cmd : Nat
  sfcLo : Word
  asymPs : Int
  stamp : Nat
  /-- The TB0 stamp of the frame once it has arrived; sync was lost before that. -/
  got : Option Nat := none
  lost : Bool := false
  deriving DecidableEq, Repr

/-- Time of day of an instance: TB0 stamps of its last 64 PHY frames by SFC[31:0], and the PON_TODs that wait. -/
structure Tod where
  stamps : List (Word × Nat) := []
  waiting : List TodWait := []
  deriving DecidableEq, Repr

/-- Time beside the timebases: REFCLK (R307) and TB0's source and correction (R309). -/
structure Time where
  refSel : Nat := 0
  refValid : Bool := false
  /-- A PON_TOD sample has been applied or rejected under R309. -/
  ponSeen : Bool := false
  /-- A correction is in progress: its θ still to be applied in full by `endPs`. -/
  correcting : Bool := false
  endPs : Nat := 0
  /-- After a step of SYNC_OUT's timebase: the second of that timebase up to whose end SYNC_OUT keeps its old phase, and how
  far that phase lies ahead of the value (R317). -/
  syncSec : Option Nat := none
  syncSkew : Nat := 0
  deriving DecidableEq, Repr

/-! ## Cipher engine and keys (13) -/

/-- A key slot: whether it is loaded, AES-256 or AES-128, and the key's bytes (13 R327–R329). -/
structure KeySlot where
  loaded : Bool := false
  aes256 : Bool := false
  key : Bytes := []
  deriving DecidableEq, Repr

/-- A link binding (13 R335). -/
structure LinkBind where
  slot : Nat
  reserve : Nat := 1
  salt : Word := 0
  deriving DecidableEq, Repr

/-- The cipher block (13). -/
structure Cipher where
  cmOn : Bool := true
  enginesOk : BitVec 16 := 0xFFFF
  /-- AES engines that have faulted once (01 Table 1.3). -/
  faulted : BitVec 16 := 0
  /-- The pool engine that took over the stream of a faulted fibre engine (R326). -/
  tookOver : SMap (Option Nat) := []
  slots : SMap KeySlot := []
  /-- PON bindings by 6 × instance + KIND (R332). -/
  pon : SMap (Option Nat) := []
  /-- Link bindings by 4 × link + 2 × direction + phase (R335). -/
  link : SMap (Option LinkBind) := []
  /-- Transmit phase of a link. -/
  phase : SMap Nat := []
  /-- Until when a link's share of the receive engines is held, ps (R325). -/
  rxFree : SMap Nat := []
  data : SMap Word := []
  slotReg : BitVec 12 := 0
  sizeReg : Bool := false
  busy : Bool := false
  /-- The operation in progress is a commit (R328). -/
  committing : Bool := false
  error : BitVec 3 := 0
  kcv : Nat := 0
  /-- The commit or zeroise in progress ends here (R328), and the last uncommitted KEY_DATA write. -/
  stageTick : Option Word := none
  deriving DecidableEq, Repr

/-! ## Memories, the Blotter and the transfer network (14) -/

/-- Phases of a Blotter step (14 Table 14.3): waiting for SAVE, copying, testing, restoring. -/
inductive BlotPhase where
  | waiting | save | test | restore
  deriving DecidableEq, Repr

/-- A Blotter step in progress: its phase, the region, the start of its stroke and the stroke's end. -/
structure BlotStep where
  phase : BlotPhase := .waiting
  region : Nat
  startPs : Nat
  endPs : Nat
  /-- Its overrun has been reported (01 R33). -/
  late : Bool := false
  deriving DecidableEq, Repr

/-- The Blotter's state of one memory group (14 R345, BLOTTER_GROUP, BLOTTER_QUERY). -/
structure BlotGroup where
  region : Nat := 0
  sweeps : Nat := 0
  faultSeen : Bool := false
  lastRegion : Option Nat := none
  lastTick : Word := 0
  step : Option BlotStep := none
  /-- The stroke, TICK_COUNT × 8 + stroke number − 1, in which the group last took or skipped its step (R345). -/
  lastStroke : Option Nat := none
  deriving DecidableEq, Repr

/-- What a transfer is for: a Blotter SAVE or RESTORE of a group, a command's data, the bulk copy of a pair. -/
inductive XferUse where
  | save (g : Nat)
  | restore (g : Nat)
  | command (seq : Nat)
  | bulk
  deriving DecidableEq, Repr

/-- A transfer: its requester port (14 Table 14.5), its targets, the instant its wait or its grant began, and its revocations
in a row under TXN_LIMIT (14 R350, R351). -/
structure Xfer where
  port : Nat
  targets : List Nat
  use : XferUse
  sincePs : Nat
  revoked : Nat := 0
  /-- It has been revoked before and starts again (R351). -/
  again : Bool := false
  deriving DecidableEq, Repr

/-- A command's data under way from host memory: the transfers of at most 4 KiB that have not completed, and the data (14 R350). -/
structure Fetch where
  left : Nat
  data : Bytes := []
  deriving DecidableEq, Repr

/-- Memories (14). -/
structure Mem where
  corrected : Nat := 0
  uncorrected : Nat := 0
  /-- BLOTTER_CONFIG: the enabled groups and INTERVAL, and settings for the next tick edge. -/
  enabled : Nat := 2 ^ 38 - 1
  interval : Nat := 8
  blotNext : Option (Nat × Nat) := none
  sel : Nat := 0
  groups : SMap BlotGroup := []
  /-- Groups that are owed a step whose stroke a first alignment has cut away, one entry per step (01 R461). -/
  owed : List Nat := []
  /-- Inkwell banks replaced by their group's spare (Table 14.1). -/
  bankSpare : SMap Bool := []
  /-- The secure scratchpad's general area by its offsets; words that an uncorrectable error has struck. -/
  scratch : SMap Byte := []
  badWords : List Nat := []
  wiped : Bool := false
  wipeCause : Nat := 0
  collisions : Nat := 0
  /-- SEQ_HOLDER: 0 none, 1 port A, 2 port B; since when; accesses that wait for it (port, access, the SCRATCH_OP it is of). -/
  seqHolder : Nat := 0
  seqPs : Nat := 0
  seqWait : List (Nat × ScratchAcc × Option Nat) := []
  /-- The last access of port B: its arbitration cycle, its word, whether it wrote (R342). -/
  lastB : Option (Nat × ScratchAcc) := none
  /-- The targets that a waiting TXN_FREEZE froze anew, by the sequence number of its command (R352). -/
  freezing : SMap (List Nat) := []
  /-- The transfer network: requests in order of arrival, grants, the ports' rotating order, frozen targets with the ends of
  their freezes. -/
  requests : List Xfer := []
  grants : List Xfer := []
  order : List Nat := [0, 1, 2, 3, 4, 5, 6]
  /-- Commands that read host memory, by their number. -/
  fetches : SMap (Option Fetch) := []
  frozen : Nat := 0
  freezeEnd : SMap (Option (Word × Nat)) := []
  /-- Bulk copies received for groups whose layout the manual does not give, by group × 2²⁴ + address (log 44). -/
  raw : SMap Byte := []
  deriving DecidableEq, Repr

/-! ## Protected pair (15) -/

/-- A loan of light (15 R360): its id, instance, launch and end instants, and whether the light has been handed over. -/
structure Loan where
  id : Nat
  inst : Nat
  atPs : Nat
  endPs : Nat
  granted : Bool := false
  deriving DecidableEq, Repr

/-- A frame in the replay hold (15 R363, R369): its queue, the instant and tick of its shadow burst or dry transmission, and its
instance and BURST_SEQ where it belongs to a shadow burst. -/
structure HoldFrame where
  queue : Nat
  frame : Frame
  atPs : Nat
  tick : Word
  burst : Option (Nat × Nat) := none
  deriving DecidableEq, Repr

/-- A switchover under way (15 R369). -/
structure Switch where
  atPs : Nat
  replayPs : Nat
  cause : Nat
  deriving DecidableEq, Repr

/-- The protected pair (15). -/
structure Pair where
  enable : Bool := false
  /-- PAIR_STATE: 0 ALONE, 1 ACTIVE, 2 STANDBY_RESYNC, 3 STANDBY_IN_STEP, 4 STANDBY_FAILED. -/
  state : Nat := 0
  /-- ACT_IN# asserted, and the instant of its last deassertion. -/
  actIn : Bool := false
  actInOffPs : Nat := 0
  actOut : Bool := false
  actOutPs : Nat := 0
  /-- The device waits to claim light (R359). -/
  claiming : Bool := false
  /-- DETAIL of the PAIR_SWITCHOVER that the claim completes (R369). -/
  claimDetail : Option Nat := none
  loan : Option Loan := none
  nextLoan : Nat := 0
  partnerSlot : Nat := 0
  mirrorUp : Bool := false
  helloPs : Nat := 0
  helloAck : Bool := false
  mismatchRun : Nat := 0
  own : BitVec 16 := 0x003F
  partner : BitVec 16 := 0
  partnerSf : BitVec 4 := 0
  partnerO5 : BitVec 4 := 0
  partnerState : Nat := 0
  /-- Own digests of the last ticks, and the partner's halves as they arrive. -/
  digests : List (Word × BitVec 64) := []
  low : Option (Word × BitVec 32) := none
  /-- The last tick whose M_DIGEST the partner's arrived, and its T0. -/
  lastDigestPs : Nat := 0
  config : BitVec 64 := 0
  attempt : Nat := 0
  pass : Nat := 0
  kibLeft : Nat := 0
  matchRun : Nat := 0
  matching : Bool := false
  resyncTick : Word := 0
  lastSwitch : Word := 0
  hold : List HoldFrame := []
  gapTick : Option Word := none
  /-- Shadow bursts so far per instance, and those reported launched (BURST_SEQ). -/
  burstSeq : SMap Nat := []
  launched : SMap (List Nat) := []
  switch : Option Switch := none
  /-- Alloc-IDs of the active's contexts, known through replication (R361, R362). -/
  shadowIds : SMap (Option Nat) := []
  /-- Bytes of the replicated frames applied in this tick (Table 15.3 CONFIG). -/
  applied : Bytes := []
  blotterFaultTick : Option Word := none
  lanesFaultTick : Option Word := none
  /-- The last own test of lanes and lasers (15 Table 15.4). -/
  testTick : Option Word := none
  /-- The partner holds the mirror lanes (01 Table 1.4). -/
  partnerHolds : Bool := false
  /-- The bulk copy's next place, as group × 2²⁴ + address; none while the active copies nothing (15 R365). -/
  bulkAt : Option Nat := none
  /-- Rotation of frames over the mirror lanes (R357). -/
  rotation : Nat := 0
  txCount : Nat := 0
  rxCount : Nat := 0
  deriving DecidableEq, Repr

/-! ## Power and sleep (16) -/

/-- PWR_STATUS.STATE. -/
inductive PwrState where
  | awake | decided | entering | asleep | sampling | waking
  deriving DecidableEq, Repr

/-- SLEEP_CONFIG (16 Table 16.7); WAKE_PIN_EDGE has no stated reset value (log 7). -/
structure SleepCfg where
  enable : Bool := false
  hostKeep : Bool := false
  wakePinMask : Nat := 0
  idleTicks : Nat := 8000
  samplePeriod : Nat := 20
  wakePinEdge : Nat := 1
  wakeBytes : Nat := 0
  maxSleepTicks : Nat := 0
  deriving DecidableEq, Repr

/-- Where a domain's switching stands (16 R373, R374). -/
inductive DomPhase where
  | on
  /-- DOMAIN_POWER off dispatched: the sequence starts at the next item 10. -/
  | requested
  /-- Frozen: waiting for rank-5 holds and open grants. -/
  | stopping
  | off
  | powering
  deriving DecidableEq, Repr

/-- A power domain: its phase and the transfers revoked in its power-down. -/
structure Domain where
  phase : DomPhase := .on
  sincePs : Nat := 0
  revoked : Nat := 0
  deriving DecidableEq, Repr

/-- Power and sleep (16). -/
structure Pwr where
  state : PwrState := .awake
  wakeCause : Nat := 0
  lastAbort : Nat := 0
  padsLatched : Bool := false
  clockFast : Bool := false
  idleLeft : Nat := 8000
  /-- Something of R375 has happened in this tick. -/
  active : Bool := false
  sleepTicks : Word := 0
  cfg : SleepCfg := {}
  cfgNext : Option SleepCfg := none
  decidedTick : Word := 0
  /-- E, A and W (R376, R380, R382). -/
  entryPs : Nat := 0
  abortPoint : Nat := 0
  asleepTick : Word := 0
  wakePs : Nat := 0
  /-- The lowest wake cause that has fired since the decision. -/
  fired : Option Nat := none
  /-- The clock in which the wake cause fired: of two in one clock the lower is reported (R382). -/
  fireClock : Nat := 0
  domains : SMap Domain := []
  /-- DOORBELL and CMD_PUSH held while asleep, oldest first (R379). -/
  heldBells : List (Nat × Nat) := []
  heldPush : Option Bytes := none
  /-- Levels the latch holds: ACT_OUT#, FATAL#, IRQ#, HEALTH_OK, and of the TEV and PPS pads, as at A0 (R381). -/
  latched : List (Nat × Bool) := []
  /-- The pads were latched by the present entry, so that abandoning it releases them (R378). -/
  ownLatch : Bool := false
  /-- Frames to examine before the receiver is switched off (R380). -/
  sampleLeft : Nat := 0
  /-- The sleep indication still waits on these instances (R376). -/
  indicating : List Nat := []
  /-- Lanes that entry has put into electrical idle (R377). -/
  idled : List Nat := []
  /-- Lanes not in use that sleep has switched off, with rate, LOOPBACK and PRBS (R372). -/
  darkened : List (Nat × Nat × Nat × Bool) := []
  deriving DecidableEq, Repr

/-! ## Life cycle, self-test and boundary scan (17) -/

/-- The fuses: what keeps its value without power (17 R385, 02 Table 2.2, 03 VSSN_BASE). -/
structure Fuse where
  /-- Programmed copies (0–3) of the rows of MANUFACTURE, PROVISIONED, DEPLOYED, RETURNED, RETIRED. -/
  copies : SMap Nat := []
  /-- The authentication key (02 R54), 32 bytes. -/
  key : Bytes := []
  keyFused : Bool := false
  serial : BitVec 64 := 0
  vssnBase : BitVec 32 := 0
  siliconStep : Byte := 0
  deriving DecidableEq, Repr

/-- A life-cycle change that is being programmed (17 R386). -/
structure LcRun where
  target : Nat
  deriving DecidableEq, Repr

/-- The life cycle (17 LC_STATUS): 0 MANUFACTURE, 1 PROVISIONED, 2 DEPLOYED, 3 RETURNED, 4 RETIRED. -/
structure Lc where
  state : Nat := 0
  fuseWeak : Bool := false
  programming : Option LcRun := none
  deriving DecidableEq, Repr

/-- A self-test in progress (17 R388–R391). -/
structure BistRun where
  block : Nat
  full : Bool
  /-- Blocks still to test after this one. -/
  rest : List Nat := []
  /-- Blocks tested so far with their result. -/
  passed : Nat := 0
  failed : Nat := 0
  force : Bool := false
  /-- The block is tested whole, not unit by unit (17 R389). -/
  whole : Bool := true
  startTick : Word := 0
  deriving DecidableEq, Repr

/-- Self-test (17 BIST_STATUS, BIST_FAIL). -/
structure Bist where
  run : Option BistRun := none
  lastPass : Bool := false
  unit : Nat := 0
  level : Nat := 0
  block : Nat := 0x3F
  fail : BitVec 50 := 0
  deriving DecidableEq, Repr

/-! ## Boot and live insertion (19, 20) -/

/-- An image that is being delivered in chunks: the next chunk's number and the bytes so far (19 R425). -/
structure Delivery where
  next : Nat := 0
  data : Bytes := []
  /-- All chunks have arrived. -/
  complete : Bool := false
  deriving DecidableEq, Repr

/-- WORKER_IMAGE to a worker: the command, the chunks' data that was sent, and the instant of the last chunk (19 R428). -/
structure ImageRun where
  cmd : Nat
  lastPs : Nat
  startTick : Word
  deriving DecidableEq, Repr

/-- Boot (19). -/
structure Boot where
  /-- PERST# is asserted; a board holds it so until the host drives it (20 Table 20.5). -/
  perst : Bool := true
  /-- RESET# is asserted. -/
  inReset : Bool := false
  addrLo : Word := 0
  addrHi : Word := 0
  length : Nat := 0
  fetching : Bool := false
  path : Nat := 0
  reject : Nat := 0
  manager : Option Delivery := none
  partner : Option Delivery := none
  /-- The image kept in memory group 35 (R426). -/
  image : Bytes := []
  images : SMap (Option ImageRun) := []
  deriving DecidableEq, Repr

/-- The hot-swap controller (20 R438–R445). -/
structure Hot where
  /-- The switch is closed and the part has power. -/
  powered : Bool := true
  trips : Nat := 0
  tripPs : Nat := 0
  lastTrip : Option Trip := none
  ejectReq : Bool := false
  recognised : Bool := false
  seen : Bool := false
  quiesced : Bool := false
  /-- Frames of Mapiyn lanes that quiesce keeps queued: lane, BODY and data blocks (20 R443). -/
  held : List (Nat × Nat × Bytes) := []
  tick : Word := 0
  atPs : Nat := 0
  deriving DecidableEq, Repr

/-! ## Outputs -/

/-- What the part puts out: an answer to a read, a write to host memory, a signal, a burst, a frame or a message. -/
inductive Out where
  /-- A register or window read's answer on an access path. -/
  | value (path : Path) (addr : Nat) (v : Word)
  /-- A reply written to the buffer of the reply ring's descriptor CONS (02 R44): the descriptor's index, the buffer's address,
  the bytes written, OWNER cleared. -/
  | reply (index : Nat) (addr : BitVec 64) (data : Bytes)
  /-- OWNER of a command descriptor cleared (02 R44). -/
  | ownerCleared (ring index : Nat)
  /-- An MSI-X vector (02 R64). -/
  | msix (vector : Nat)
  /-- Bytes clocked out on SPI (02 Table 2.15). -/
  | spiOut (data : Bytes)
  /-- A burst on the fibre at its launch (05 Table 5.1): the launch instant and end in ps, power, PLOAM, allocations, and for each
  piece of the allocations in order the XGEM payload on the line. -/
  | burst (i : Nat) (e : Entry) (payloads : List Bytes)
  /-- A frame to a tributary port, 40–47 in the numbering of 18 R410. -/
  | frame (egress : Nat) (f : Frame)
  /-- A frame on a host port's line, with preamble, start delimiter and FCS (09 R244). -/
  | line (h : Nat) (bytes : Bytes)
  /-- Pieces placed into an allocation of a burst after its launch: pulled, or filled in their stead, and the XGEM
  payload of each on the line (05 R133). -/
  | fed (i : Nat) (ctx : Nat) (pieces : List Piece) (payloads : List Bytes)
  /-- The host's unsolicited packet written to a descriptor (02 R44, 08 R212). -/
  | packet (index : Nat) (addr : BitVec 64) (data : Bytes)
  /-- A Mapiyn control block on a lane: its type and BODY (10 Table 10.1). -/
  | block (lane : Nat) (type : Nat) (body : Nat)
  /-- A frame on a Mapiyn lane: BODY of its FRAME_START, and the bytes of its data blocks with the check field (10 R253, R277). -/
  | mapiyn (lane : Nat) (body : Nat) (field : Bytes)
  /-- A lane's transmitter starts with its settings, or its receiver waits for a signal again: the precoder is at 0 (09 R227, R228). -/
  | laneStarts (lane rate flags : Nat)
  /-- Bits sent in place of blocks: PRBS31 (09 R234). -/
  | laneBits (lane : Nat) (bits : List Bool)
  /-- Symbols sent as they stand: a training burst (09 R236), or the received stream in far-end loopback (09 R234). -/
  | laneSymbols (lane : Nat) (symbols : List (Fin 4))
  /-- A laser goes dark at the fibre (03 R69). -/
  | laserDark (i : Nat)

  /-- A host port ends its frame at once: the bytes of it sent, and the complement of their FCS (09 R245). -/
  | txEnded (h : Nat) (sent fcs : Bytes)
  /-- A circuit's packet played out to the transmitted STM-N (11 R297); all ones where the data is lost or marked L. -/
  | played (circuit : Nat) (data : Option Bytes)
  /-- The K1 request that an MSP pair sends (11 R299). -/
  | mspRequest (k : Nat) (request selected : Nat)
  /-- A remote defect indication that a tributary port begins or ceases to send (11 Table 11.3): kind 0 MS-RDI, 1 HP-RDI of an
  AU-4, 2 LP-RDI of a path. -/
  | rdi (port kind index : Nat) (on : Bool)
  /-- A transmitted STM-N frame (11 R285) of a tributary port: each bit goes out as so many identical samples of the lane's clock, which is
  steered by so many steps of 0.001 ppm (09 R238). -/
  | stm (port times : Nat) (ppm : Int) (data : Bytes)
  /-- An edge of a TEV output or of PPS_OUT whose pad drives: the level it goes to (12 R317). -/
  | pad (output : Nat) (high : Bool)
  /-- A scratchpad port's access is answered: the value where it reads, and SCRATCH_BUSY (14 R342). -/
  | scratch (port : Nat) (value : Option Nat) (busy : Bool)
  /-- The lasers go dark, and FATAL# is asserted (18 R401). -/
  | fatal (cause : Nat)
  /-- The word of IDCODE to be shifted out of the TAP (17 Table 17.4). -/
  | idcode (v : Nat)
  deriving DecidableEq, Repr

/-! ## The state, its stops and its reset -/

/-- The state of the part. -/
structure State where
  /-- Commands that wait, first in, first out. -/
  pending : List Instr := []
  /-- What the part has put out, newest first (the model's own history). -/
  out : List Out := []
  /-- Index of the next free value (the model's own; no statement rests on its value). -/
  freeCtr : Nat := 0
  clk : Clk := {}
  latchPcie : Latch := {}
  latchSpi : Latch := {}
  latchBar4 : Latch := {}
  dev : Dev := {}
  rings : SMap Ring := []
  cmd : CmdState := {}
  spi : Spi := {}
  evt : Evt := {}
  /-- The clock, plus 1, in which hardware last set a write-1-to-clear bit, by 32 × address + bit (00 R11). -/
  stamps : SMap Nat := []
  /-- The last update of a read-to-clear field, by 2 × address + its place in the register (00 R11). -/
  notes : SMap RcNote := []
  fatal : Fatal := {}
  cnt : Cnt := {}
  bw : Bw := {}
  insts : SMap Inst := []
  allocs : SMap AllocCtx := []
  maps : MapBook := {}
  lig : Lig := {}
  queues : SMap Queue := []
  /-- The queue last served, per scheduler key and priority (08 R211). -/
  rrLast : SMap (Option Nat) := []
  shapers : SMap Shaper := []
  policers : SMap Policer := []
  gates : SMap Gate := []
  qSel : Nat := 0
  shSel : Nat := 0
  workers : SMap Worker := []
  tbl : Tbl := {}
  cls : Cls := {}
  laneTable : Option LaneTable := none
  lanes : SMap Lane := []
  macs : SMap Mac := []
  /-- The instant, ps, at which a lane's next HELLO is due (10 R257). -/
  helloAt : SMap Nat := []
  role : Role := {}
  /-- Pairs (worker, instance), as 4 w + i, for which PULL_RATE_LOW has been raised (10 R266). -/
  rateLow : List Nat := []
  tribs : SMap Trib := []
  tpaths : SMap TPath := []
  vcats : SMap Vcat := []
  circs : SMap Circ := []
  msps : SMap Msp := []
  /-- Monitored entities by 4,096 × ENTITY + INDEX. -/
  pms : SMap (Option Pm) := []
  /-- TB0 seconds up to which performance seconds and bins have been closed. -/
  pmSec : Nat := 0
  binSec : Nat := 0
  tribPathSel : Nat := 0
  tb : SMap Tbase := []
  time : Time := {}
  outputs : SMap OutCh := []
  captures : SMap Capture := []
  ptp : SMap Ptp := []
  tod : SMap Tod := []
  /-- Instants, ps, from which an egress port (0–31 worker, 32–35 host, 36–43 tributary) can take a frame. -/
  egressFree : SMap Nat := []
  cipher : Cipher := {}
  mem : Mem := {}
  /-- Frames that wait for dispatch in the upstream and the downstream pipeline (07 R182). -/
  waitUp : List Frame := []
  waitDown : List Frame := []
  pair : Pair := {}
  pwr : Pwr := {}
  /-- Junction temperature, °C (21 R459). -/
  tempC : Int := 25
  /-- The instant from which the readings of the junction temperature have stood above the shutdown limit (21 R459). -/
  hotPs : Option Nat := none
  fuse : Fuse := {}
  lc : Lc := {}
  bist : Bist := {}
  /-- INSTRUCTION of the TAP (17 JTAG_STATUS); IDCODE in Test-Logic-Reset. -/
  jtag : Nat := 1
  boot : Boot := {}
  hot : Hot := {}
  deriving DecidableEq, Repr

/-- Why a step could stop. Every row of the table has an effect by the manual, so no meaning raises one. -/
inductive Fault where
  /-- Raised by nothing: no rule of the manual stops the part for ever (18 R401, 20 R439). Safe. -/
  | none
  deriving DecidableEq, Repr

/-- Why a command could be refused. -/
inductive Refusal where
  /-- The command's meaning is not written yet; raised by Dispatch alone. Safe. -/
  | notModelled (mnemonic : String)
  deriving DecidableEq, Repr

/-- The life-cycle state that fuse copies give: the highest-coded row of which at least two copies are programmed; MANUFACTURE
where there is none (17 R385). -/
def lifeOf (copies : SMap Nat) : Nat := ([4, 3, 2, 1].find? (fun r => decide (2 ≤ SMap.get 0 copies r))).getD 0

/-- A row with exactly one programmed copy (17 R385). -/
def fuseWeak (copies : SMap Nat) : Bool := copies.any (fun e => decide (e.2 = 1))

/-- The fuses that a part has when power comes good: constants of Config (log 5). -/
def Fuse.atPower : Fuse :=
  { copies := (List.range 5).filterMap (fun r => if Config.fuseCopies r % 4 = 0 then none else some (r, Config.fuseCopies r % 4))
    key := (List.range 32).map (fun k => BitVec.ofNat 8 (Config.authKey >>> (8 * k)))
    keyFused := Config.authKeyFused, serial := Config.serial, vssnBase := Config.vssnBase, siliconStep := Config.siliconStep }

/-- The machine at power good, right at the start of a cold reset (19 R415, R416): every field at its Reset column; the fuses
are constants of Config (log 5), and COLD_RESET samples the straps. -/
def State.reset : State :=
  { fuse := Fuse.atPower
    lc := { state := lifeOf Fuse.atPower.copies, fuseWeak := fuseWeak Fuse.atPower.copies } }

end Sys2Proof.Machine
end

