-- ==== Sys2Proof/Machine/Parser.lean ====
section
/-!
DEFINITION. The parser (07 R177–R181, R188): header by header within the window of 128 bytes, with the limits, the frame
end, the window and the contradictions of Table 7.3 in their order, and the match fields of Table 7.5.
-/

namespace Sys2Proof.Machine

/-- The kinds of Table 7.2; `unknown` is the header after a bottom label whose first byte lies beyond the window. -/
inductive Hdr where
  | eth | vlan (tpid : Nat) | pppoe | mpls | ip4 | ip6 | ext (next : Nat) | udp | tcp | icmp | gre | vxlan | unknown
  deriving DecidableEq, Repr

/-- The state of a pass's parse. Offsets count from the start of the pass. -/
structure Parse where
  off : Nat := 0
  /-- Offsets of the headers parsed, oldest first. -/
  hdrs : List Nat := []
  eths : Nat := 0
  vlan : Nat := 0
  pppoe : Nat := 0
  mpls : Nat := 0
  exts : Nat := 0
  ips : Nat := 0
  /-- A tag with TPID 0x8100 has come after the present Ethernet header. -/
  saw8100 : Bool := false
  /-- The end of the present IP payload, and the end of its IPv6 fixed header. -/
  ipEnd : Nat := 0
  v6At : Nat := 0
  fields : SMap (Option Nat) := []
  fragment : Bool := false
  incomplete : Bool := false
  reason : Option Nat := none
  deriving DecidableEq, Repr

/-- A field of Table 7.5, set where `first` holds. -/
def Parse.put (p : Parse) (first : Bool) (f v : Nat) : Parse :=
  if first then { p with fields := SMap.set none p.fields f (some v) } else p

/-- Network-order fields of the pass's bytes. -/
def n16 (d : Bytes) (k : Nat) : Nat := u8 d k * 256 + u8 d (k + 1)
def n32 (d : Bytes) (k : Nat) : Nat := n16 d k * 65536 + n16 d (k + 2)
def n48 (d : Bytes) (k : Nat) : Nat := n16 d k * 4294967296 + n32 d (k + 2)
def n64 (d : Bytes) (k : Nat) : Nat := n32 d k * 4294967296 + n32 d (k + 4)

/-- The header that an EtherType announces. -/
def etherNext (cfg : ClsCfg) (t : Nat) : Option Hdr :=
  if t = 0x8100 ∨ t = 0x88A8 ∨ t = 0x9100 ∨ (cfg.extraTpid ≠ 0 ∧ t = cfg.extraTpid) then some (.vlan t)
  else if t = 0x8864 then some .pppoe
  else if t = 0x8847 ∨ t = 0x8848 then some .mpls
  else if t = 0x0800 then some .ip4
  else if t = 0x86DD then some .ip6
  else none

/-- The header that an IPv4 protocol announces. -/
def proto4 (n : Nat) : Option Hdr :=
  if n = 6 then some .tcp else if n = 17 then some .udp else if n = 1 then some .icmp else if n = 47 then some .gre else none

/-- The header that an IPv6 next header announces. -/
def proto6 (n : Nat) : Option Hdr :=
  if n = 6 then some .tcp else if n = 17 then some .udp else if n = 58 then some .icmp else if n = 47 then some .gre
  else if n = 0 ∨ n = 43 ∨ n = 44 ∨ n = 60 then some (.ext n) else none

/-- Would a header be the ninth of the pass, or exceed the limit of its kind (R179)? -/
def overLimit (h : Hdr) (p : Parse) : Bool :=
  decide (8 ≤ p.hdrs.length) || (match h with
    | .vlan _ => decide (3 ≤ p.vlan)
    | .pppoe => decide (1 ≤ p.pppoe)
    | .mpls => decide (4 ≤ p.mpls)
    | .ext _ => decide (2 ≤ p.exts)
    | _ => false)

/-- A header's extent (R180), from its own length field where that byte is at hand. -/
def extent (h : Hdr) (d : Bytes) (o : Nat) : Nat :=
  match h with
  | .eth => 14
  | .vlan _ => 4
  | .pppoe => 8
  | .mpls => 4
  | .ip4 => max 20 (u8 d o % 16 * 4)
  | .ip6 => 40
  | .ext n => if n = 44 then 8 else if o + 1 < d.length then (u8 d (o + 1) + 1) * 8 else 8
  | .udp => 8
  | .tcp => 20
  | .icmp => 4
  | .gre => 4 + 4 * (b2n (bit (u8 d o) 7) + b2n (bit (u8 d o) 5) + b2n (bit (u8 d o) 4))
  | .vxlan => 8
  | .unknown => 1

/-- The ones' complement sum of an IPv4 header's 16-bit words holds (reason 7). -/
def csumHolds (d : Bytes) (o words : Nat) : Bool :=
  let t := ((List.range words).map (fun k => n16 d (o + 2 * k))).sum
  let t := t % 65536 + t / 65536
  let t := t % 65536 + t / 65536
  decide (t = 0xFFFF)

/-- Reason 1: an 802.3 length field at offset k. -/
def badLength (n : Nat) (d : Bytes) (k : Nat) : Bool :=
  decide (n16 d k < 0x600) && (decide (n - (k + 2) < n16 d k) || decide (1501 ≤ n16 d k))

/-- The first contradiction of a header (Table 7.3), n bytes of frame from the pass's start. -/
def contradiction (cfg : ClsCfg) (h : Hdr) (n : Nat) (d : Bytes) (p : Parse) : Option Nat :=
  let o := p.off
  let first : List (Bool × Nat) → Option Nat := fun l => (l.find? (·.1)).map (·.2)
  match h with
  | .eth => first [(badLength n d (o + 12), 1), (decide (p.eths = 0) && bit (u8 d (o + 6)) 0, 13)]
  | .vlan t => first [(badLength n d (o + 2), 1), (decide (t = 0x88A8) && p.saw8100, 2)]
  | .pppoe => first [(decide (u8 d o ≠ 0x11) || decide (u8 d (o + 1) ≠ 0) || decide (n - (o + 6) < n16 d (o + 4)), 3)]
  | .mpls =>
    let label := n32 d o / 4096
    let bottom := bit (u8 d (o + 2)) 0
    let nibble := if o + 4 < d.length then u8 d (o + 4) / 16 else 0
    let known := decide (o + 4 < d.length) || decide (n ≤ o + 4)
    first [(bottom && known && ((decide (label = 0) && decide (nibble ≠ 4)) || (decide (label = 2) && decide (nibble ≠ 6))), 4)]
  | .ip4 =>
    let ihl := u8 d o % 16 * 4
    let sa := n32 d (o + 12)
    first [(decide (u8 d o / 16 ≠ 4) || decide (ihl < 20), 5),
      (decide (n16 d (o + 2) < ihl) || decide (n - o < n16 d (o + 2)), 6),
      (cfg.checkCsum && !csumHolds d o (ihl / 2), 7),
      (decide (p.ips = 0) && (decide (sa / 2 ^ 28 = 14) || decide (sa = 0xFFFFFFFF)), 14)]
  | .ip6 =>
    first [(decide (u8 d o / 16 ≠ 6), 8),
      (decide (n - (o + 40) < n16 d (o + 4)) || (decide (n16 d (o + 4) = 0) && decide (u8 d (o + 6) ≠ 0)), 9),
      (decide (p.ips = 0) && decide (u8 d (o + 8) = 0xFF), 14)]
  | .ext t => first [((decide (t = 0) && decide (o ≠ p.v6At + 40)) || decide (p.ipEnd < o + extent h d o), 10)]
  | .udp => first [(decide (n16 d (o + 4) < 8) || decide (p.ipEnd < o + n16 d (o + 4)), 11)]
  | .tcp => first [(decide (u8 d (o + 12) / 16 < 5) || decide (p.ipEnd < o + u8 d (o + 12) / 16 * 4), 11)]
  | .icmp => none
  | .gre => first [(decide (u8 d (o + 1) % 8 ≠ 0) || bit (u8 d o) 6, 12)]
  | .vxlan => first [(!bit (u8 d o) 3, 12)]
  | .unknown => none

/-- The type after an Ethernet header or a tag is noted for ETHERTYPE, while it belongs to the pass's first Ethernet
header; an 802.3 length makes it absent. -/
def noteType (first : Bool) (t : Nat) (p : Parse) : Parse :=
  if first then { p with fields := SMap.set none p.fields 0x0A (if t < 0x600 then none else some t) } else p

/-- A tunnel header: the first gives TUNNEL and VNI. -/
def noteTunnel (kind : Nat) (vni : Option Nat) (p : Parse) : Parse :=
  if (SMap.get none p.fields 0x1D).isSome then p
  else { p with fields := SMap.set none (SMap.set none p.fields 0x1D (some kind)) 0x1B vni }

/-- Accept a header: its fields, and what follows it (Table 7.2). -/
def accept (cfg : ClsCfg) (h : Hdr) (n : Nat) (d : Bytes) (p : Parse) : Parse × Option Hdr :=
  let o := p.off
  let q := { p with hdrs := p.hdrs ++ [o], off := o + extent h d o }
  match h with
  | .eth =>
    let first := decide (p.eths = 0)
    let t := n16 d (o + 12)
    let q := ((noteType first t { q with eths := p.eths + 1, vlan := 0, pppoe := 0, mpls := 0, saw8100 := false }).put first 0x04
      (n48 d o)).put first 0x05 (n48 d (o + 6))
    (q, if t < 0x600 then none else etherNext cfg t)
  | .vlan tpid =>
    let first := decide (p.eths = 1)
    let t := n16 d (o + 2)
    let tci := n16 d o
    let q := noteType first t { q with vlan := p.vlan + 1, saw8100 := p.saw8100 || decide (tpid = 0x8100) }
    let q := (q.put (first && decide (p.vlan = 0)) 0x07 (tci % 4096)).put (first && decide (p.vlan = 0)) 0x08 (tci / 8192)
    let q := (q.put (first && decide (p.vlan = 1)) 0x09 (tci % 4096)).put first 0x06 (p.vlan + 1)
    (q, if t < 0x600 then none else etherNext cfg t)
  | .pppoe =>
    let q := { q with pppoe := p.pppoe + 1 }.put (SMap.get none p.fields 0x0E).isNone 0x0E (n16 d (o + 2))
    (q, if n16 d (o + 6) = 0x0021 then some .ip4 else if n16 d (o + 6) = 0x0057 then some .ip6 else none)
  | .mpls =>
    let first := (SMap.get none p.fields 0x0C).isNone
    let v := n32 d o
    let q := ({ q with mpls := p.mpls + 1 }.put first 0x0C (v / 4096)).put first 0x0D (v / 512 % 8)
    let q := q.put true 0x0B ((SMap.get none p.fields 0x0B).getD 0 + 1)
    if bit (u8 d (o + 2)) 0 then
      if o + 4 < d.length then
        (q, if u8 d (o + 4) / 16 = 4 then some .ip4 else if u8 d (o + 4) / 16 = 6 then some .ip6 else none)
      else (q, if n ≤ o + 4 then none else some .unknown)
    else (q, some .mpls)
  | .ip4 =>
    let first := decide (p.ips = 0)
    let frag := decide (n16 d (o + 6) % 8192 ≠ 0)
    let q := { q with ips := p.ips + 1, ipEnd := o + n16 d (o + 2), fragment := p.fragment || frag }
    let q := ((q.put first 0x0F 4).put first 0x10 (n32 d (o + 12))).put first 0x11 (n32 d (o + 16))
    let q := (q.put first 0x16 (u8 d (o + 9))).put first 0x17 (u8 d (o + 1) / 4)
    (q, if frag then none else proto4 (u8 d (o + 9)))
  | .ip6 =>
    let first := decide (p.ips = 0)
    let len := n16 d (o + 4)
    let q := { q with ips := p.ips + 1, exts := 0, v6At := o, ipEnd := if len = 0 then n else o + 40 + len }
    let q := (((q.put first 0x0F 6).put first 0x12 (n64 d (o + 8))).put first 0x13 (n64 d (o + 16))).put first 0x14 (n64 d (o + 24))
    let q := ((q.put first 0x15 (n64 d (o + 32))).put first 0x16 (u8 d (o + 6))).put first 0x17 (n16 d o / 64 % 64)
    (q, proto6 (u8 d (o + 6)))
  | .ext t =>
    let frag := decide (t = 44) && decide (n16 d (o + 2) / 8 ≠ 0)
    let q := { q with exts := p.exts + 1, fragment := p.fragment || frag }.put (decide (p.ips = 1)) 0x16 (u8 d o)
    (q, if frag then none else proto6 (u8 d o))
  | .udp =>
    let q := (q.put (decide (p.ips = 1)) 0x18 (n16 d o)).put (decide (p.ips = 1)) 0x19 (n16 d (o + 2))
    (q, if n16 d (o + 2) = cfg.vxlanPort then some .vxlan else none)
  | .tcp =>
    let q := (q.put (decide (p.ips = 1)) 0x18 (n16 d o)).put (decide (p.ips = 1)) 0x19 (n16 d (o + 2))
    (q.put (decide (p.ips = 1)) 0x1A (u8 d (o + 13)), none)
  | .icmp => (q, none)
  | .gre =>
    let key := if bit (u8 d o) 5 then some (n32 d (o + 4 + 4 * b2n (bit (u8 d o) 7)) % 2 ^ 24) else none
    (noteTunnel 2 key q,
     if n16 d (o + 2) = 0x6558 then some .eth else if n16 d (o + 2) = 0x0800 then some .ip4
     else if n16 d (o + 2) = 0x86DD then some .ip6 else none)
  | .vxlan => (noteTunnel 1 (some (n32 d (o + 4) / 256)) q, some .eth)
  | .unknown => (p, none)

/-- Parse from a header on, the checks in the order of R180: limits, frame end, window, contradictions. -/
def parseFrom (cfg : ClsCfg) (n : Nat) (d : Bytes) : Nat → Hdr → Parse → Parse
  | 0, _, p => p
  | k + 1, h, p =>
    if overLimit h p then { p with incomplete := true }
    else if n < p.off + extent h d p.off then { p with reason := some 0 }
    else if d.length < p.off + extent h d p.off then { p with incomplete := true }
    else
      match contradiction cfg h n d p with
      | some r => { p with reason := some r }
      | none =>
        match accept cfg h n d p with
        | (p, some h') => parseFrom cfg n d k h' p
        | (p, none) => p

/-- Parse a pass: `d` is what lies in the window, `n` the bytes of the frame from the pass's start. -/
def parsePass (cfg : ClsCfg) (n : Nat) (d : Bytes) : Parse := parseFrom cfg n (d.take 128) 10 .eth {}

/-- PASS_FLAGS (Table 7.5). -/
def passFlags (second flagged : Bool) (p : Parse) : Nat :=
  b2n second + 2 * b2n p.incomplete + 4 * b2n flagged + 8 * b2n p.fragment

/-- The fields that are always present, beside those of the headers (Table 7.5). -/
def allFields (ingress tag len flags : Nat) (p : Parse) : SMap (Option Nat) :=
  let dflt := fun (f v : Nat) (m : SMap (Option Nat)) => SMap.set none m f (some ((SMap.get none m f).getD v))
  dflt 0x01 ingress <| dflt 0x02 tag <| dflt 0x03 flags <| dflt 0x06 0 <| dflt 0x0B 0 <| dflt 0x0F 0 <|
    dflt 0x1C len <| dflt 0x1D 0 p.fields

end Sys2Proof.Machine
end

