-- ==== Sys2Proof/Machine/Crc.lean ====
section
/-!
DEFINITION. The checks over messages that the manual names by polynomial: CRC-32C and CRC-32/ISO-HDLC for the candidate
cells (06 R148), CRC-64/ECMA-182 for the audit digest (06 R168).
-/

namespace Sys2Proof.Machine

/-- One bit of a reflected CRC register. -/
def crcRefBit (poly : BitVec 32) (c : BitVec 32) : BitVec 32 := if c.getLsbD 0 then (c >>> 1) ^^^ poly else c >>> 1

/-- Eight bits of a reflected CRC register after a byte has been added. -/
def crcRefByte (poly : BitVec 32) (c : BitVec 32) (b : Byte) : BitVec 32 :=
  (List.range 8).foldl (fun c _ => crcRefBit poly c) (c ^^^ b.setWidth 32)

/-- A reflected 32-bit CRC, initial value and final XOR 0xFFFF_FFFF; `poly` is the reversed polynomial. -/
def crcRef (poly : BitVec 32) (m : Bytes) : BitVec 32 := ~~~ m.foldl (crcRefByte poly) 0xFFFFFFFF

/-- CRC-32C: polynomial 0x1EDC_6F41, reversed 0x82F6_3B78. -/
def crc32c (m : Bytes) : BitVec 32 := crcRef 0x82F63B78 m

/-- CRC-32/ISO-HDLC: polynomial 0x04C1_1DB7, reversed 0xEDB8_8320. -/
def crc32 (m : Bytes) : BitVec 32 := crcRef 0xEDB88320 m

/-- One bit of CRC-64/ECMA-182. -/
def crc64Bit (c : BitVec 64) : BitVec 64 :=
  if c.getLsbD 63 then (c <<< 1) ^^^ 0x42F0E1EBA9EA3693 else c <<< 1

/-- CRC-64/ECMA-182: initial value 0, not reflected, no final XOR. -/
def crc64 (m : Bytes) : BitVec 64 :=
  m.foldl (fun c b => (List.range 8).foldl (fun c _ => crc64Bit c) (c ^^^ BitVec.ofNat 64 (b.toNat * 2 ^ 56))) 0

end Sys2Proof.Machine
end

