-- ==== Sys2Proof/Machine/Names.lean ====
section
/-!
DEFINITION. The names and numbers of statuses, events, error records and counters (02 Table 2.10, 18 Tables 18.1, 18.4,
18.5, 18.6).
-/

namespace Sys2Proof.Machine

/-- The events (18 Table 18.4). -/
inductive Ev where
  | tickLocked | tickChannelMoved | tickHoldover | tickRenumbered | tickOverrun
  | holdRevoked | cellRemapped | blockIsolated | tblBlockIsolated | regionReset
  | fatal | parserEngineOff | cipherEngineOff | laneFault | blotterFault
  | scratchWiped | counterOvf | instStateChange | usWlConflict | tuningFailed
  | activationFlap | ligatureUnanswered | ligatureRejected | allocAssigned | allocReleased
  | ponKeyNew | dsSd | dsSf | ligDsResync | moveFlap
  | clsEpochSwapped | laneUp | laneDown | macLink | macTxThreshold
  | workerStateChange | workerDupId | pullRateLow | tribDefect | vcatLoa
  | cesLops | mspSwitch | timeStepped | timeOffsetRejected | servoState
  | captureReady | refclkLoss | pairSwitchover | pairDiverged | pairInStep
  | pairResyncFailed | sleepEntered | sleepAbandoned | sleepWoken | lifecycleChanged
  | bistFail
  deriving DecidableEq, Repr

/-- EVENT_CODE: the group in bits 15:8, the number in bits 7:0 (18 R402). -/
def Ev.code : Ev → Nat
  | .tickLocked => 0x0001
  | .tickChannelMoved => 0x0002
  | .tickHoldover => 0x0003
  | .tickRenumbered => 0x0004
  | .tickOverrun => 0x0005
  | .holdRevoked => 0x0006
  | .cellRemapped => 0x0101
  | .blockIsolated => 0x0102
  | .tblBlockIsolated => 0x0103
  | .regionReset => 0x0104
  | .fatal => 0x0105
  | .parserEngineOff => 0x0106
  | .cipherEngineOff => 0x0107
  | .laneFault => 0x0108
  | .blotterFault => 0x0109
  | .scratchWiped => 0x010A
  | .counterOvf => 0x010B
  | .instStateChange => 0x0201
  | .usWlConflict => 0x0202
  | .tuningFailed => 0x0203
  | .activationFlap => 0x0204
  | .ligatureUnanswered => 0x0205
  | .ligatureRejected => 0x0206
  | .allocAssigned => 0x0207
  | .allocReleased => 0x0208
  | .ponKeyNew => 0x0209
  | .dsSd => 0x0301
  | .dsSf => 0x0302
  | .ligDsResync => 0x0303
  | .moveFlap => 0x0401
  | .clsEpochSwapped => 0x0402
  | .laneUp => 0x0501
  | .laneDown => 0x0502
  | .macLink => 0x0503
  | .macTxThreshold => 0x0504
  | .workerStateChange => 0x0601
  | .workerDupId => 0x0602
  | .pullRateLow => 0x0603
  | .tribDefect => 0x0701
  | .vcatLoa => 0x0702
  | .cesLops => 0x0703
  | .mspSwitch => 0x0704
  | .timeStepped => 0x0801
  | .timeOffsetRejected => 0x0802
  | .servoState => 0x0803
  | .captureReady => 0x0804
  | .refclkLoss => 0x0805
  | .pairSwitchover => 0x0901
  | .pairDiverged => 0x0902
  | .pairInStep => 0x0903
  | .pairResyncFailed => 0x0904
  | .sleepEntered => 0x0A01
  | .sleepAbandoned => 0x0A02
  | .sleepWoken => 0x0A03
  | .lifecycleChanged => 0x0B01
  | .bistFail => 0x0B02

/-- The named counters (18 Table 18.6). -/
inductive Ctr where
  | tickOverrunCount
  | eventCoalesced
  | unmappedAccess
  | replyRingStall
  | spiCmdDropped
  | errorFifoLost
  | ploamMicErr
  | eqdRefused
  | channelProfileUnusable
  | channelProfileConflict
  | txAdjustRefused
  | rangingDeferred
  | activationFlaps
  | lodsCount
  | tuningNack
  | ligPloamIgnored
  | dsPsyncFalse
  | dsSfcMismatch
  | dsCwCorrected
  | dsBitsCorrected
  | dsCwUncorrectable
  | dsHlendUncorr
  | dsBwmapFecLost
  | dsPloamFecLost
  | xgemDropFec
  | xgemHecCorr
  | xgemHecUncorr
  | dsReassemblyAbort
  | dsPortUnknown
  | dsKeyInvalid
  | dsClearOnSecure
  | omciRxDropped
  | omciRxOversize
  | ploamRxDropped
  | bwmapAllocHec
  | grantOverlap
  | grantTooSoon
  | grantLaserNotReady
  | grantLaserInhibited
  | grantAllocUnknown
  | burstProfileUnknown
  | grantBadSize
  | grantSchedFull
  | usBursts
  | usGrants
  | usBurstCancelled
  | allocNoRoom
  | nibPullUnderrun
  | ligDsLate
  | ligDsDup
  | ligDsOutOfWindow
  | ligDsOverflowSkip
  | ligDsGapClosed
  | ligDsGapSeq
  | ligDsFrameIncomplete
  | ligUsFragments
  | ligUsPortMismatch
  | tblParityErr
  | tblDupKey
  | tblActionReserved
  | flowInvalid
  | tblWriteUnlocked
  | tblWindowUnmapped
  | tblStageFull
  | flowWriteAbandoned
  | learnCommits
  | learnRefresh
  | stationMoves
  | learnStaticConflict
  | learnQueueFull
  | learnDupSuppressed
  | learnTableFull
  | moveFlaps
  | moveTrackEvict
  | agedOut
  | clsMalformed (reason : Nat)
  | clsIncomplete
  | clsRuleDrop
  | clsQueueInvalid
  | clsRecirculated
  | clsRecircLimit
  | clsNoImage
  | clsExceptionRefused
  | policerRedDrop
  | inkwellFullDrop
  | gateOversize
  | laneLockLoss
  | laneHdrErr
  | lanePrbsErr
  | macRxFrames
  | macRxFiltered
  | macRxControl
  | macRxCodeErr
  | macRxRunt
  | macRxOversize
  | macRxFcsErr
  | macRxBadDelivered
  | macRxOverflow
  | macTxFrames
  | macTxUnderrun
  | pullOutOfWindow
  | pullMissed
  | workerRxCrc
  | linkAuthFail
  | workerRxFormat
  | workerRxNotOper
  | mapiynUnknownBlock
  | pullNotIssued
  | pullWithdrawnDrop
  | pullMisdirected
  | rangeRetry
  | workerVersionMismatch
  | workerQueueFlushed
  | tribCandOverflow
  | tribFalseFrame
  | cesRxNoCircuit
  | tb0OffsetRejected
  | tcapMissed
  | tcapOverflow
  | ptpRxTsOverwrite
  | ptpTxFrames
  | cipherRxOverrun
  | linkKeyInvalid
  | keyWindowBusy
  | usKeyInvalid
  | ponKeyRefused
  | memEccCorrected
  | flowEccDrop
  | clsTreeEccDrop
  | inkwellEccDrop
  | queueDescLost
  | scratchCollision
  | scratchBRefused
  | scratchLost
  | blotterSkipped
  | txnRestarts
  | deadlockAvoided
  | digestMismatch
  | loanRefused
  | replayHoldFull
  | sleepEntries
  | wakeDuringEntry
  | sleepIndicationTimeout
  | sleepSamples
  | sleepWriteDropped
  | bistFramesDropped
  deriving DecidableEq, Repr

/-- The counter number N (18 Table 18.6). -/
def Ctr.num : Ctr → Nat
  | .tickOverrunCount => 0
  | .eventCoalesced => 1
  | .unmappedAccess => 2
  | .replyRingStall => 3
  | .spiCmdDropped => 4
  | .errorFifoLost => 5
  | .ploamMicErr => 16
  | .eqdRefused => 17
  | .channelProfileUnusable => 18
  | .channelProfileConflict => 19
  | .txAdjustRefused => 20
  | .rangingDeferred => 21
  | .activationFlaps => 22
  | .lodsCount => 23
  | .tuningNack => 24
  | .ligPloamIgnored => 25
  | .dsPsyncFalse => 32
  | .dsSfcMismatch => 33
  | .dsCwCorrected => 34
  | .dsBitsCorrected => 35
  | .dsCwUncorrectable => 36
  | .dsHlendUncorr => 37
  | .dsBwmapFecLost => 38
  | .dsPloamFecLost => 39
  | .xgemDropFec => 40
  | .xgemHecCorr => 41
  | .xgemHecUncorr => 42
  | .dsReassemblyAbort => 43
  | .dsPortUnknown => 44
  | .dsKeyInvalid => 45
  | .dsClearOnSecure => 46
  | .omciRxDropped => 47
  | .omciRxOversize => 48
  | .ploamRxDropped => 49
  | .bwmapAllocHec => 56
  | .grantOverlap => 57
  | .grantTooSoon => 58
  | .grantLaserNotReady => 59
  | .grantLaserInhibited => 60
  | .grantAllocUnknown => 61
  | .burstProfileUnknown => 62
  | .grantBadSize => 63
  | .grantSchedFull => 64
  | .usBursts => 65
  | .usGrants => 66
  | .usBurstCancelled => 67
  | .allocNoRoom => 68
  | .nibPullUnderrun => 69
  | .ligDsLate => 80
  | .ligDsDup => 81
  | .ligDsOutOfWindow => 82
  | .ligDsOverflowSkip => 83
  | .ligDsGapClosed => 84
  | .ligDsGapSeq => 85
  | .ligDsFrameIncomplete => 86
  | .ligUsFragments => 87
  | .ligUsPortMismatch => 88
  | .tblParityErr => 96
  | .tblDupKey => 97
  | .tblActionReserved => 98
  | .flowInvalid => 99
  | .tblWriteUnlocked => 100
  | .tblWindowUnmapped => 101
  | .tblStageFull => 102
  | .flowWriteAbandoned => 103
  | .learnCommits => 104
  | .learnRefresh => 105
  | .stationMoves => 106
  | .learnStaticConflict => 107
  | .learnQueueFull => 108
  | .learnDupSuppressed => 109
  | .learnTableFull => 110
  | .moveFlaps => 111
  | .moveTrackEvict => 112
  | .agedOut => 113
  | .clsMalformed r => 128 + r
  | .clsIncomplete => 144
  | .clsRuleDrop => 145
  | .clsQueueInvalid => 146
  | .clsRecirculated => 147
  | .clsRecircLimit => 148
  | .clsNoImage => 149
  | .clsExceptionRefused => 150
  | .policerRedDrop => 151
  | .inkwellFullDrop => 152
  | .gateOversize => 153
  | .laneLockLoss => 160
  | .laneHdrErr => 161
  | .lanePrbsErr => 162
  | .macRxFrames => 163
  | .macRxFiltered => 164
  | .macRxControl => 165
  | .macRxCodeErr => 166
  | .macRxRunt => 167
  | .macRxOversize => 168
  | .macRxFcsErr => 169
  | .macRxBadDelivered => 170
  | .macRxOverflow => 171
  | .macTxFrames => 172
  | .macTxUnderrun => 173
  | .pullOutOfWindow => 176
  | .pullMissed => 177
  | .workerRxCrc => 178
  | .linkAuthFail => 179
  | .workerRxFormat => 180
  | .workerRxNotOper => 181
  | .mapiynUnknownBlock => 182
  | .pullNotIssued => 183
  | .pullWithdrawnDrop => 184
  | .pullMisdirected => 185
  | .rangeRetry => 186
  | .workerVersionMismatch => 187
  | .workerQueueFlushed => 188
  | .tribCandOverflow => 192
  | .tribFalseFrame => 193
  | .cesRxNoCircuit => 194
  | .tb0OffsetRejected => 200
  | .tcapMissed => 201
  | .tcapOverflow => 202
  | .ptpRxTsOverwrite => 203
  | .ptpTxFrames => 204
  | .cipherRxOverrun => 208
  | .linkKeyInvalid => 209
  | .keyWindowBusy => 210
  | .usKeyInvalid => 211
  | .ponKeyRefused => 212
  | .memEccCorrected => 216
  | .flowEccDrop => 217
  | .clsTreeEccDrop => 218
  | .inkwellEccDrop => 219
  | .queueDescLost => 220
  | .scratchCollision => 221
  | .scratchBRefused => 222
  | .scratchLost => 223
  | .blotterSkipped => 224
  | .txnRestarts => 225
  | .deadlockAvoided => 226
  | .digestMismatch => 232
  | .loanRefused => 233
  | .replayHoldFull => 234
  | .sleepEntries => 236
  | .wakeDuringEntry => 237
  | .sleepIndicationTimeout => 238
  | .sleepSamples => 239
  | .sleepWriteDropped => 240
  | .bistFramesDropped => 244

/-- The index of a named counter: 128 × N + 2 × object (18 Table 18.5). -/
def Ctr.index (c : Ctr) (obj : Nat) : Nat := 128 * c.num + 2 * obj

/-- The index of an event's counter (18 Table 18.5). -/
def Ev.counter (e : Ev) : Nat := 0x8000 + 2 * e.code

/-- The index of a queue's Q_DROP_LIMIT (18 Table 18.5). -/
def dropLimitIndex (q : Nat) : Nat := 0x10000 + 2 * q

/-- The index of circuit counter M of a circuit (18 Table 18.5, below Table 18.6). -/
def circuitIndex (m circuit : Nat) : Nat := 0x18000 + 4096 * m + 2 * circuit

/-- The error records' codes (18 Table 18.1). -/
inductive ErrCode where
  | tableParity | memUncorrectable | cellRetry | cellSpareNone
  deriving DecidableEq, Repr

/-- ERROR_CODE (18 Table 18.1). -/
def ErrCode.code : ErrCode → Nat
  | .tableParity => 1 | .memUncorrectable => 2 | .cellRetry => 3 | .cellSpareNone => 4

end Sys2Proof.Machine
end

