-- ==== Sys2Proof/Machine/Aes.lean ====
section
/-!
DEFINITION. The ciphers of FIPS 197 and NIST SP 800-38D that the part implements (00 Table 0.2): AES-128 and AES-256
encryption of one block, and the GCM tag. Used by authenticated commands (02 R54) and the key check value (13 R328).
-/

namespace Sys2Proof.Machine

/-- The FIPS 197 substitution table, entry k in bits 8k + 7 : 8k. -/
def sboxTable : Nat :=
  0x16bb54b00f2d99416842e6bf0d89a18cdf2855cee9871e9b948ed9691198f8e19e1dc186b95735610ef6034866b53e708a8bbd4b1f74dde8c6b4a61c2e2578ba08ae7a65eaf4566ca94ed58d6d37c8e779e4959162acd3c25c2406490a3a32e0db0b5ede14b8ee4688902a22dc4f816073195d643d7ea7c41744975fec130ccdd2f3ff1021dab6bcf5389d928f40a351a89f3c507f02f94585334d43fbaaefd0cf584c4a39becb6a5bb1fc20ed00d153842fe329b3d63b52a05a6e1b1a2c830975b227ebe28012079a059618c323c7041531d871f1e5a534ccf73f362693fdb7c072a49cafa2d4adf04759fa7dc982ca76abd7fe2b670130c56f6bf27b777c63

def subByte (b : Byte) : Byte := BitVec.ofNat 8 (sboxTable >>> (8 * b.toNat))

/-- Multiplication by x in GF(2^8). -/
def xtime (b : Byte) : Byte := (b <<< 1) ^^^ (if b.msb then 0x1b else 0)

/-- Bytewise exclusive or. -/
def xorBytes (a b : Bytes) : Bytes := List.zipWith (· ^^^ ·) a b

/-- One more word of the key schedule, on the words so far, newest first. -/
def keyWord (nk : Nat) (rcon : Byte) (ws : List Bytes) : Bytes :=
  let i := ws.length
  let t := ws.getD 0 []
  let t :=
    if i % nk = 0 then xorBytes ((t.rotate 1).map subByte) [rcon, 0, 0, 0]
    else if 6 < nk ∧ i % nk = 4 then t.map subByte else t
  xorBytes (ws.getD (nk - 1) []) t

/-- The key schedule extended by n words, newest first. -/
def keyWords (nk : Nat) : Nat → Byte → List Bytes → List Bytes
  | 0, _, ws => ws
  | n + 1, rcon, ws =>
    let rcon' := if ws.length % nk = 0 then xtime rcon else rcon
    keyWords nk n rcon' (keyWord nk rcon ws :: ws)

/-- A byte string cut into groups of four bytes. -/
def words4 : Nat → Bytes → List Bytes
  | 0, _ => []
  | n + 1, p => p.take 4 :: words4 n (p.drop 4)

/-- The round keys of a 16 or 32 byte key, in order, 16 bytes each. -/
def roundKeys (key : Bytes) : List Bytes :=
  let nk := key.length / 4
  let nr := nk + 6
  let ws := (keyWords nk (4 * (nr + 1) - nk) 1 (words4 nk key).reverse).reverse
  (List.range (nr + 1)).map (fun r => ((ws.drop (4 * r)).take 4).flatten)

def shiftRows (p : Bytes) : Bytes := (List.range 16).map (fun k => p.getD ((k + 4 * (k % 4)) % 16) 0)

def mixColumn (c : Bytes) : Bytes :=
  (List.range 4).map (fun k =>
    let a := c.getD k 0
    let b := c.getD ((k + 1) % 4) 0
    xtime a ^^^ (xtime b ^^^ b) ^^^ c.getD ((k + 2) % 4) 0 ^^^ c.getD ((k + 3) % 4) 0)

def aesRounds : List Bytes → Bytes → Bytes
  | [], p => p
  | [k], p => xorBytes (shiftRows (p.map subByte)) k
  | k :: ks, p => aesRounds ks (xorBytes ((words4 4 (shiftRows (p.map subByte))).map mixColumn).flatten k)

/-- AES encryption of one 16-byte block (FIPS 197). -/
def aesEncrypt (key block : Bytes) : Bytes :=
  match roundKeys key with
  | [] => block
  | k :: ks => aesRounds ks (xorBytes block k)

/-- The stream of the counter mode over n blocks, the counter block a 128-bit number that counts up; it encrypts and decrypts
(SP 800-38A). -/
def ctrText (key : Bytes) : Nat → Nat → Bytes → Bytes
  | 0, _, _ => []
  | n + 1, c, p => xorBytes (p.take 16) (aesEncrypt key (be 16 c)) ++ ctrText key n ((c + 1) % 2 ^ 128) (p.drop 16)

/-- Counter mode over a whole string: of the last block as much of the stream as the string needs (13 R323). -/
def ctrCrypt (key : Bytes) (counter : Nat) (p : Bytes) : Bytes := ctrText key ((p.length + 15) / 16) counter p

/-- Multiplication in GF(2^128), n steps left of x's bits from the most significant (SP 800-38D). -/
def gmulAux (x : BitVec 128) : Nat → BitVec 128 → BitVec 128 → BitVec 128
  | 0, _, z => z
  | n + 1, v, z =>
    gmulAux x n (if v.getLsbD 0 then (v >>> 1) ^^^ 0xE1000000000000000000000000000000#128 else v >>> 1)
      (if x.getLsbD n then z ^^^ v else z)

def gmul (x y : BitVec 128) : BitVec 128 := gmulAux x 128 y 0

/-- GHASH over n blocks of a byte string. -/
def ghash (h : BitVec 128) : Nat → Bytes → BitVec 128 → BitVec 128
  | 0, _, y => y
  | n + 1, p, y => ghash h n (p.drop 16) (gmul (y ^^^ BitVec.ofNat 128 (beNat (fit 16 (p.take 16)))) h)

/-- A string padded with zeros to whole blocks. -/
def padBlock (p : Bytes) : Bytes := p ++ zeros ((16 - p.length % 16) % 16)

/-- The GCM tag of a ciphertext under a 12-byte IV and the additional data (SP 800-38D, 13 R323). -/
def gcmTag (key iv aad text : Bytes) : Bytes :=
  let h := BitVec.ofNat 128 (beNat (aesEncrypt key (zeros 16)))
  let data := padBlock aad ++ padBlock text ++ be 8 (8 * aad.length) ++ be 8 (8 * text.length)
  let s := ghash h (data.length / 16) data 0
  xorBytes (be 16 s.toNat) (aesEncrypt key (iv ++ be 4 1))

/-- n blocks of the counter mode of GCM, from a counter value on; it encrypts and decrypts (SP 800-38D). -/
def gcmText (key iv : Bytes) : Nat → Nat → Bytes → Bytes
  | 0, _, _ => []
  | n + 1, c, p => xorBytes (p.take 16) (aesEncrypt key (iv ++ be 4 c)) ++ gcmText key iv n (c + 1) (p.drop 16)

/-- GCM over a whole string: the first counter block of the text is 2. -/
def gcmCrypt (key iv p : Bytes) : Bytes := gcmText key iv ((p.length + 15) / 16) 2 p

end Sys2Proof.Machine
end

