-- ==== Sys2Proof/Machine/Wire.lean ====
section
/-!
DEFINITION. What a backplane lane carries: Mapiyn frames with their FRAME_START and check field (10 R252, R253, R277), the 64b/66b
blocks, the scrambler, PAM4 levels and precoding (09 R225–R227), the EIDLE block, the training burst and PRBS31 (09 R234–R236).
The transmitted symbols of a lane are those of the blocks that it has put out.
-/

namespace Sys2Proof.Machine

/-! ## Lanes and their rates (09 Table 9.2) -/

def State.lane (s : State) (n : Nat) : Lane := SMap.get {} s.lanes n
def State.setLane (n : Nat) (v : Lane) (s : State) : State := { s with lanes := SMap.set {} s.lanes n v }
def State.modLane (n : Nat) (f : Lane → Lane) (s : State) : State := s.setLane n (f (s.lane n))

/-- The line rate of a rate code in kb/s. -/
def lineKbps : Nat → Nat
  | 0 => 106250000
  | 1 => 53125000
  | 2 => 25781250
  | 3 => 10312500
  | 4 => 1250000
  | 5 => 622080
  | _ => 155520

/-- The time that a number of bits takes at a rate in kb/s, ps. -/
def bitsPs (kbps bits : Nat) : Nat := (bits * 1000000000 + kbps - 1) / kbps

/-! ## Mapiyn frames (10 R253, R277) -/

/-- BODY of FRAME_START (10 Table 10.1). -/
def frameStart (length kind : Nat) (pulled : Bool) (phase gid sub counter : Nat) : Nat :=
  length % 2 ^ 14 + kind * 2 ^ 14 + b2n pulled * 2 ^ 16 + phase * 2 ^ 17 + gid * 2 ^ 18 + sub % 2 ^ 16 * 2 ^ 24 + counter % 2 ^ 16 * 2 ^ 40

/-- BODY as a received FRAME_START's fields give it. -/
def bodyOf (f : FrameFields) : Nat :=
  frameStart f.length.toNat f.kind.val f.pulled (b2n f.keyPhase) f.gid.val f.subPort.toNat f.counterLo.toNat

/-- The protection of one frame: the key in the slot, SALT and the frame counter (10 R277). -/
structure Seal where
  key : Bytes
  salt : Word
  counter : Nat
  deriving DecidableEq, Repr

/-- The IV: SALT, then the counter of eight bytes (10 R277). -/
def Seal.iv (k : Seal) : Bytes := le 4 k.salt.toNat ++ le 8 k.counter

/-- The check field: a CRC-32 over BODY and the frame, or the GCM tag over the ciphertext with BODY as additional data. -/
def checkField (body : Nat) (text : Bytes) : Option Seal → Bytes
  | none => le 4 (crc32 (le 7 body ++ text)).toNat
  | some k => gcmTag k.key k.iv (le 7 body) text

/-- The bytes of the data blocks: the frame, encrypted under protection, its check field, zero bytes to the end of the last block. -/
def dataField (body : Nat) (data : Bytes) (k : Option Seal) : Bytes :=
  let text := match k with
    | some k => gcmCrypt k.key k.iv data
    | none => data
  let p := text ++ checkField body text k
  p ++ zeros ((8 - p.length % 8) % 8)

/-- The frame of received data blocks, where its check field holds. -/
def openField (body length : Nat) (field : Bytes) (k : Option Seal) : Option Bytes :=
  let text := field.take length
  if text.length = length ∧ slice field length (checkField body text k).length = checkField body text k then
    some (match k with
      | some k => gcmCrypt k.key k.iv text
      | none => text)
  else none

/-! ## 64b/66b blocks (09 R225, R235) -/

/-- The bits of a number, least significant first: the order on the line. -/
def bitList (n v : Nat) : List Bool := (List.range n).map (fun k => bit v k)

/-- The number that bits in the order of the line spell. -/
def ofBits : List Bool → Nat
  | [] => 0
  | b :: l => b2n b + 2 * ofBits l

/-- A block: whether its sync header is that of a control block, and its 64 payload bits. -/
abbrev Blk := Bool × Nat

/-- A control block of a BLOCK_TYPE and BODY (10 R252). -/
def controlBlock (type body : Nat) : Blk := (true, type + body % 2 ^ 56 * 256)

/-- The data blocks of a byte string, eight bytes each. -/
def dataBlocks : Nat → Bytes → List Blk
  | 0, _ => []
  | n + 1, p => (false, leNat (p.take 8)) :: dataBlocks n (p.drop 8)

/-- BODY of an EIDLE block: eight control characters 0x06 of seven bits (R235). -/
def eidleBody : Nat := ((List.range 8).map (fun k => 6 * 2 ^ (7 * k))).sum

/-- The types of Table 10.1. -/
def mapiynTypes : List Nat := [0x1E, 0x2D, 0x33, 0x4B, 0x4C, 0x4D, 0x55, 0x56, 0x57, 0x66, 0x69, 0x6A, 0x6B, 0x78, 0x79]

/-- The sync header on the line: 01 marks a data block, 10 a control block; both are valid. -/
def headerBits (control : Bool) : List Bool := [control, !control]

/-- One bit through the self-synchronising scrambler 1 + x³⁹ + x⁵⁸; the register's newest bit is bit 0. -/
def scrambleBit (r : BitVec 58) (b : Bool) : Bool × BitVec 58 :=
  let o := b ^^ (r.getLsbD 38 ^^ r.getLsbD 57)
  (o, (r <<< 1) ||| BitVec.ofNat 58 (b2n o))

/-- One bit through the descrambler: the register takes the received bits. -/
def descrambleBit (r : BitVec 58) (b : Bool) : Bool × BitVec 58 :=
  (b ^^ (r.getLsbD 38 ^^ r.getLsbD 57), (r <<< 1) ||| BitVec.ofNat 58 (b2n b))

/-- Bits in turn through a coder with a register. -/
def throughBits {α β γ : Type} (f : γ → α → β × γ) : γ → List α → List β × γ
  | r, [] => ([], r)
  | r, a :: l =>
    let (b, r) := f r a
    let (bs, r) := throughBits f r l
    (b :: bs, r)

/-- The 66 bits of a block on the line: the header as it is, the payload scrambled. -/
def blockBits (r : BitVec 58) (b : Blk) : List Bool × BitVec 58 :=
  let (p, r) := throughBits scrambleBit r (bitList 64 b.2)
  (headerBits b.1 ++ p, r)

/-! ## Symbols (09 R226, R227) -/

/-- Does a rate code use PAM4 (09 Table 9.2)? -/
def pam4 (rate : Nat) : Bool := decide (rate ≤ 1)

/-- The Gray level of a pair, first bit more significant: 00 is 0, 01 is 1, 11 is 2, 10 is 3 (R226). -/
def grayLevel (a b : Bool) : Fin 4 := if a then (if b then 2 else 3) else (if b then 1 else 0)

/-- The pair of a Gray level. -/
def grayPair (g : Fin 4) : Bool × Bool := (decide (2 ≤ g.val), decide (g.val = 1 ∨ g.val = 2))

/-- The precoder's level P(n) = (G(n) − P(n − 1)) mod 4, and its register (R227). -/
def precode (p g : Fin 4) : Fin 4 × Fin 4 := (g - p, g - p)

/-- The decoder's level G(n) = (P(n) + P(n − 1)) mod 4, and its register (R227). -/
def decodeLevel (last p : Fin 4) : Fin 4 × Fin 4 := (p + last, p)

/-- The pairs of a bit string. -/
def pairLevels : List Bool → List (Fin 4)
  | a :: b :: l => grayLevel a b :: pairLevels l
  | _ => []

/-- The bits of levels. -/
def levelBits (l : List (Fin 4)) : List Bool := (l.map (fun g => [(grayPair g).1, (grayPair g).2])).flatten

/-- The symbols of bits at a rate, with the precoder's register: PAM4 levels, or the two outer levels for NRZ. -/
def codeBits (rate flags : Nat) (last : Fin 4) (bits : List Bool) : List (Fin 4) × Fin 4 :=
  let (l, p) := if pam4 rate then (if bit flags 0 then throughBits precode last (pairLevels bits) else (pairLevels bits, last))
    else (bits.map (fun b => if b then 3 else 0), last)
  (if bit flags 2 then l.map (3 - ·) else l, p)

/-- The bits of received symbols, with the decoder's register. -/
def decodeSymbols (rate flags : Nat) (last : Fin 4) (l : List (Fin 4)) : List Bool × Fin 4 :=
  let l := if bit flags 3 then l.map (3 - ·) else l
  if pam4 rate then
    let (g, p) := if bit flags 1 then throughBits decodeLevel last l else (l, last)
    (levelBits g, p)
  else (l.map (fun g => decide (2 ≤ g.val)), last)

/-- The training burst: 240 UI of 1010, or of levels 0 and 3 in turn, then the end marker (R236). -/
def trainingBurst (rate : Nat) : List (Fin 4) :=
  if pam4 rate then (List.replicate 120 [(0 : Fin 4), 3]).flatten ++ [3, 3, 3, 3, 0, 0, 0, 0, 3, 3, 0, 0, 3, 0, 3, 0]
  else (List.replicate 120 [(3 : Fin 4), 0]).flatten ++ [3, 3, 3, 3, 0, 0, 0, 0, 3, 3, 0, 0, 3, 0, 3, 0]

/-- The next bit of PRBS31, 1 + x²⁸ + x³¹, inverted as IEEE 802.3 sends it; the register's newest bit is bit 0 (R234). -/
def prbsNext (r : BitVec 31) : Bool := !(r.getLsbD 27 ^^ r.getLsbD 30)

def prbsPush (r : BitVec 31) (b : Bool) : BitVec 31 := (r <<< 1) ||| BitVec.ofNat 31 (b2n b)

/-- n bits of the pattern, and the register after them. -/
def prbsBits : Nat → BitVec 31 → List Bool × BitVec 31
  | 0, r => ([], r)
  | n + 1, r =>
    let b := prbsNext r
    let (l, r) := prbsBits n (prbsPush r b)
    (b :: l, r)

/-- One bit at the pattern checker, which takes the first 31 bits as they come and then runs on its own: bit errors, bits taken, the
register. -/
def prbsCheck (c : Nat × Nat × BitVec 31) (b : Bool) : Nat × Nat × BitVec 31 :=
  if c.2.1 < 31 then (c.1, c.2.1 + 1, prbsPush c.2.2 b)
  else (c.1 + b2n (b != prbsNext c.2.2), 31, prbsPush c.2.2 (prbsNext c.2.2))

/-! ## The transmitted line -/

/-- The transmitter's coder: the settings in force, the scrambler's register and the precoder's. -/
structure Coder where
  rate : Nat := 15
  flags : Nat := 0
  scr : BitVec 58 := 0
  last : Fin 4 := 0
  deriving DecidableEq, Repr

/-- Blocks through the coder. -/
def Coder.send (c : Coder) : List Blk → List (Fin 4) × Coder
  | [] => ([], c)
  | b :: bs =>
    let (bits, scr) := blockBits c.scr b
    let (l, last) := codeBits c.rate c.flags c.last bits
    let (rest, c) := ({ c with scr, last } : Coder).send bs
    (l ++ rest, c)

/-- What one thing put out adds to the line of lane n. -/
def Coder.put (n : Nat) (c : Coder) : Out → List (Fin 4) × Coder
  | .laneStarts k rate flags => if k = n then ([], { c with rate, flags, last := 0 }) else ([], c)
  | .block k type body => if k = n then c.send [controlBlock type body] else ([], c)
  | .mapiyn k body field => if k = n then c.send (controlBlock 0x2D body :: dataBlocks (field.length / 8) field) else ([], c)
  | .laneBits k bits =>
    if k = n then (let (l, last) := codeBits c.rate c.flags c.last bits; (l, { c with last })) else ([], c)
  | .laneSymbols k l => if k = n then (if bit c.flags 2 then l.map (3 - ·) else l, c) else ([], c)
  | _ => ([], c)

/-- The symbols that lane n has transmitted, from what the part has put out, oldest first. -/
def lineOf (n : Nat) : Coder → List Out → List (Fin 4)
  | _, [] => []
  | c, o :: os =>
    let (l, c) := c.put n o
    l ++ lineOf n c os

end Sys2Proof.Machine
end

