-- ==== Sys2Proof/Machine/Ops.lean ====
section
/-!
DEFINITION. The operations that every family shares: time within the tick, outputs, counters, events and interrupts,
error records, replies, and the way of a command from its validation to its completion (02 R46–R57).
-/

namespace Sys2Proof

open Machine

/-- FLAGS (02 Table 2.5). -/
def CmdReq.async (q : CmdReq) : Bool := q.flags.getLsbD 0
def CmdReq.force (q : CmdReq) : Bool := q.flags.getLsbD 1
def CmdReq.atTick (q : CmdReq) : Bool := q.flags.getLsbD 2
def CmdReq.auth (q : CmdReq) : Bool := q.flags.getLsbD 3

/-- The payload without the authentication trailer (02 R54). -/
def CmdReq.body (q : CmdReq) : Bytes := if q.auth then q.payload.take (q.payload.length - 32) else q.payload

/-- The 32 header bytes (02 Table 2.5). -/
def CmdReq.header (op : Nat) (q : CmdReq) : Bytes :=
  le 2 op ++ le 2 q.tag ++ le 2 q.payload.length ++ le 1 q.kind ++ le 1 q.index ++ le 4 q.flags.toNat ++
    le 4 q.execTick.toNat ++ le 4 q.leaseId.toNat ++ le 12 q.reserved.toNat

end Sys2Proof

namespace Sys2Proof.Machine

/-! ## Outputs and free values -/

/-- Put an output into the history. -/
def emit (o : Out) (s : State) : State := { s with out := o :: s.out }

/-- The next free value, below 2 ^ w, and the state that has used it up. -/
def takeFree (w : Nat) (s : State) : Nat × State :=
  (Config.freeValue s.freeCtr % 2 ^ w, { s with freeCtr := s.freeCtr + 1 })

/-! ## Time (01 R22) -/

/-- ns since T0 (TICK_NS). -/
def tickNs (s : State) : Nat := (s.clk.nowPs - s.clk.t0Ps) / 1000

/-- The current stroke minus one. -/
def stroke (s : State) : Nat := min 7 ((s.clk.nowPs - s.clk.t0Ps) / 15625000)

/-- The number of the tick as the part's own count, without renumberings (01 R23): what timers and marks of "this tick" use. -/
def ownTick (s : State) : Word := s.clk.tick - s.clk.shift

/-- Whole ns since power good. -/
def nowNs (s : State) : Nat := s.clk.nowPs / 1000

/-- The number of the present clock of 0.8 ns, plus 1. -/
def clockNo (s : State) : Nat := s.clk.nowPs / 800 + 1

/-! ## Events of one clock (00 R11; log 6) -/

/-- Hardware sets write-1-to-clear bit b of a register: noted with its clock. -/
def hwSet (addr b : Nat) (s : State) : State :=
  { s with stamps := SMap.set 0 (s.stamps.filter (fun e => e.2 = clockNo s)) (32 * addr + b) (clockNo s) }

/-- The bits of a register that hardware has set in the present clock. -/
def setNow (addr : Nat) (s : State) : Word :=
  (List.range 32).foldl (fun m b => if SMap.get 0 s.stamps (32 * addr + b) = clockNo s then m ||| BitVec.ofNat 32 (2 ^ b) else m) 0

/-- The bits that a write-1-to-clear write clears: not those that hardware sets in the clock of the write (R11). -/
def clears (same : Bool) (addr : Nat) (v : Word) (s : State) : Word := if same then v &&& ~~~ setNow addr s else v

/-- The note of a read-to-clear field's updates in the present clock, where there is one. -/
def rcNow (key : Nat) (s : State) : Option RcNote :=
  let n := SMap.get {} s.notes key
  if n.clock = clockNo s then some n else none

/-- Note an update of a read-to-clear field: its value before it, and what it adds. -/
def noteRc (key before n : Nat) (s : State) : State :=
  let was := (rcNow key s).getD { clock := clockNo s, before := before }
  { s with notes := SMap.set {} (s.notes.filter (fun e => e.2.clock = clockNo s)) key { was with added := was.added + n } }

/-- What a read of a read-to-clear field returns, and what the field holds after it: a read that coincides with an update returns the
value before the update and leaves what the update added (R11). -/
def rcRead (same : Bool) (key cur : Nat) (s : State) : Nat × Nat :=
  match rcNow key s with
  | some n => if same then (n.before, n.added) else (cur, 0)
  | none => (cur, 0)

/-! ## Power (16) -/

/-- Something that restarts the idle timer happens in this tick (16 R375). -/
def noteActivity (s : State) : State := { s with pwr := { s.pwr with active := true } }

/-- A wake source fires. From the decision to sleep on the first one is seen by the next abort point; asleep it is the wake event W, from
which Quill runs on the internal oscillator; of two in one clock the lower cause is reported (16 R377, R382). -/
def fireWake (cause : Nat) (s : State) : State :=
  let same := decide (s.pwr.fireClock = clockNo s)
  match s.pwr.state with
  | .awake => s
  | .waking => if same then { s with pwr := { s.pwr with wakeCause := min cause s.pwr.wakeCause } } else s
  | .decided | .entering =>
    match s.pwr.fired with
    | none => { s with pwr := { s.pwr with fired := some cause, fireClock := clockNo s } }
    | some k => if same then { s with pwr := { s.pwr with fired := some (min cause k) } } else s
  | .asleep | .sampling =>
    { s with pwr := { s.pwr with state := .waking, wakePs := s.clk.nowPs, wakeCause := cause, clockFast := true
                                 sleepTicks := ownTick s - s.pwr.asleepTick, fireClock := clockNo s } }

/-- Is a power domain on (16 R372, R373)? -/
def domainOn (d : Nat) (s : State) : Bool := (SMap.get {} s.pwr.domains d).phase != .off && (SMap.get {} s.pwr.domains d).phase != .powering

/-! ## Counters (18 R404–R407) -/

/-- The counter whose OVF a wrap of counter k sets: of a chained pair the even one (R407). -/
def ovfIndex (k : Nat) (c : Cnt) : Nat := if k % 2 = 1 ∧ SMap.get false c.chained (k - 1) then k - 1 else k

/-- Add n to counter k: the value wraps at 2³², a wrap of a chained even counter carries into the next, and a wrap of an
unchained counter or of a pair sets OVF. The flag says that OVF changed from 0 to 1 (R406, R407). -/
def addRaw (k n : Nat) (c : Cnt) : Cnt × Bool :=
  let old := (SMap.get 0 c.value k).toNat
  let carry := (old + n) / 2 ^ 32
  let value := SMap.set 0 c.value k (BitVec.ofNat 32 (old + n))
  if carry = 0 then ({ c with value := value }, false)
  else if SMap.get false c.chained k then
    let high := (SMap.get 0 value (k + 1)).toNat
    let c' := { c with value := SMap.set 0 value (k + 1) (BitVec.ofNat 32 (high + carry)) }
    if (high + carry) / 2 ^ 32 = 0 then (c', false)
    else ({ c' with ovf := SMap.set false c.ovf k true }, !SMap.get false c.ovf k)
  else ({ c with value := value, ovf := SMap.set false c.ovf (ovfIndex k c) true }, !SMap.get false c.ovf (ovfIndex k c))

/-! ## Interrupts and events (02 R64, R65) -/

/-- The INT_CAUSE value: bits 1 and 2 follow the FIFOs (R65). -/
def intCause (s : State) : BitVec 6 :=
  (s.evt.cause &&& 0b111001) ||| (if s.evt.fifo = [] then 0 else 2) ||| (if s.evt.errFifo = [] then 0 else 4)

/-- The vector of a latched cause bit: 0 REPLY, 1 RING_ERROR, 3 SPI_REPLY and TICK (R64). -/
def causeVector : Nat → Nat
  | 0 => 0
  | 3 => 1
  | _ => 3

/-- Set a latched cause bit: an enabled bit that changes from 0 to 1 fires its vector (R64). -/
def setCause (b : Nat) (s : State) : State :=
  let s := hwSet 0x3000 b s
  if s.evt.cause.getLsbD b then s
  else
    let s := { s with evt := { s.evt with cause := s.evt.cause ||| BitVec.ofNat 6 (2 ^ b) } }
    if s.evt.mask.getLsbD b then emit (.msix (causeVector b)) s else s

/-- The vector that a record of a group fires: the one EVT_GROUP_VEC routes it to (0–3 route to vector 3), else vector 3
if INT_MASK enables EVENT (R64). -/
def eventVector (s : State) (group : Nat) : Option Nat :=
  let v := SMap.get 0 s.evt.vec group
  if v.getLsbD 8 then some (max 3 (v.toNat % 64))
  else if s.evt.mask.getLsbD 1 then some 3 else none

/-! ## Link bindings (13 R327, R335) -/

/-- The key of a link binding: link, direction (0 transmit, 1 receive), phase (13 R335). -/
def linkKey (link dir phase : Nat) : Nat := 4 * link + 2 * dir + phase

/-- A link binding. -/
def linkBind (link dir phase : Nat) (s : State) : Option LinkBind := SMap.get none s.cipher.link (linkKey link dir phase)

/-- The cipher block is under test: no engine serves a frame (17 Table 17.3, log 60). -/
def cipherTested (s : State) : Bool := match s.bist.run with | some r => decide (r.block = 35) | none => false

/-- The boundary register owns the pads: EXTEST, EXTEST_PULSE, EXTEST_TRAIN, CLAMP or HIGHZ is in force (17 R392). -/
def padsOwned (s : State) : Bool := decide (3 ≤ s.jtag ∧ s.jtag ≤ 7)

/-- The scheduler block is under test: no port takes a frame (17 R389, log 1704). -/
def schedTested (s : State) : Bool := match s.bist.run with | some r => decide (r.block = 34) | none => false

/-- A key slot that an engine can use: loaded, and the engines not under test (13 R327). -/
def slotLoaded (n : Nat) (s : State) : Bool := (SMap.get {} s.cipher.slots n).loaded && !cipherTested s

/-- A binding with a usable key slot (13 R327). -/
def linkLoaded (link dir phase : Nat) (s : State) : Bool :=
  match linkBind link dir phase s with
  | some b => slotLoaded b.slot s
  | none => false

/-- The transmit phase of a link (13 R335). -/
def txPhase (link : Nat) (s : State) : Nat := SMap.get 0 s.cipher.phase link

/-- Can a protected frame be sent on a link? -/
def linkSendable (link : Nat) (s : State) : Bool := linkLoaded link 0 (txPhase link s) s

/-- The protection that a frame of a link has under a binding: its slot's key, its SALT and the counter (10 R277). -/
def linkSeal (link dir phase counter : Nat) (s : State) : Option Seal :=
  match linkBind link dir phase s with
  | some b =>
    let k := SMap.get {} s.cipher.slots b.slot
    if slotLoaded b.slot s then some { key := k.key.take (if k.aes256 then 32 else 16), salt := b.salt, counter } else none
  | none => none

/-! ## Lanes: what they put out (09 R231, R234–R236; 10 R253) -/

/-- Does a lane's transmitter carry blocks: it is on and not in electrical idle, sends no PRBS31, and is not in far-end loopback, which
discards its own data? -/
def Lane.transmits (x : Lane) : Bool :=
  !x.txIdle && x.eidleAt.isNone && !x.prbs && decide (x.loopback ≠ 2)

/-- The device is a standby of an enabled pair. -/
def pairStandby (s : State) : Bool := s.pair.enable && decide (2 ≤ s.pair.state)

/-- On a standby worker lanes carry IDLE and HELLO only (15 R362). -/
def laneCarries (n : Nat) (o : Out) (s : State) : Bool :=
  !pairStandby s || decide (32 ≤ n) ||
    (match o with
    | .block _ type _ => decide (type = 0x1E) || decide (type = 0x33)
    | .mapiyn _ _ _ => false
    | _ => true)

/-- Quiesce is in force: from 4 ms after the recognition of an eject until its end (20 R443). -/
def quiesceNow (s : State) : Bool :=
  s.hot.quiesced || (s.hot.recognised && decide (s.hot.atPs + 4000000000 ≤ s.clk.nowPs))

/-- Something goes out on a lane that transmits; in quiesce a frame stays queued (20 R443). -/
def putLane (n : Nat) (o : Out) (s : State) : State :=
  if (s.lane n).transmits && laneCarries n o s then
    match o with
    | .mapiyn lane body field =>
      if quiesceNow s then { s with hot := { s.hot with held := s.hot.held ++ [(lane, body, field)] } } else emit o s
    | _ => emit o s
  else s

/-- A control block goes out on a lane (10 R252). -/
def sendBlock (lane type body : Nat) (s : State) : State := putLane lane (.block lane type body) s

/-- What makes one Mapiyn frame: its KIND, PULLED with its GRANT_ID, SUB_PORT, and its bytes (10 Table 10.1). -/
structure Carried where
  kind : Nat := 0
  gid : Option Nat := none
  sub : Nat := 0
  data : Bytes
  deriving DecidableEq, Repr

/-- A frame as its lane carries it, unprotected (10 R253). -/
def plainFrame (lane : Nat) (c : Carried) : Out :=
  let body := frameStart c.data.length c.kind c.gid.isSome 0 (c.gid.getD 0) c.sub 0
  .mapiyn lane body (dataField body c.data none)

/-- A frame as its lane carries it: plain, or under link protection with the link's transmit key, where that is loaded (10 R253,
R277). -/
def frameOut (lane link : Nat) (prot : Bool) (counter : Nat) (c : Carried) (s : State) : Option Out :=
  if prot then
    (linkSeal link 0 (txPhase link s) counter s).map (fun k =>
      let body := frameStart c.data.length c.kind c.gid.isSome (txPhase link s) (c.gid.getD 0) c.sub counter
      .mapiyn lane body (dataField body c.data (some k)))
  else some (plainFrame lane c)

/-- The time that a frame of n bytes holds its lane, ps (10 R255). -/
def framePs (lane n : Nat) (prot : Bool) (s : State) : Nat :=
  bitsPs (lineKbps (s.lane lane).rate) ((1 + (n + (if prot then 16 else 4) + 7) / 8) * 66)

/-- A worker sends a frame to its manager at the next frame boundary of the lane: events, replies and pulled frames (10 R267, R275, R276).
Without its key it is discarded and counted (13 R327). The flag says that it was sent. -/
def sendUp (c : Carried) (s : State) : Bool × State :=
  match frameOut 0 32 s.role.linkProt s.role.txCount c s with
  | none => (false, { s with cnt := (addRaw (Ctr.linkKeyInvalid.index 32) 1 s.cnt).1 })
  | some o =>
    let free := max s.clk.nowPs (max s.role.busyPs (SMap.get 0 s.egressFree 0))
    (true, putLane 0 o { s with role := { s.role with
      txCount := s.role.txCount + b2n s.role.linkProt, busyPs := free + framePs 0 c.data.length s.role.linkProt s } })

/-- The 16 bytes of a record (02 Table 2.14). -/
def Rec.bytes (r : Rec) : Bytes := le 2 r.code ++ le 1 r.kind ++ le 1 r.index ++ le 4 r.detail ++ le 4 r.tick.toNat ++ le 4 r.ns

/-- In the worker role a copy of each event record goes to the manager as a frame of KIND 3, from identification on (10 R276);
without its key it is discarded and counted (13 R327). -/
def copyEvent (r : Rec) (s : State) : State :=
  if s.dev.role ≠ 2 ∨ s.role.version = 0 then s else (sendUp { kind := 3, data := r.bytes } s).2

/-- A record enters the FIFO: it is copied to the manager, and its vector fires (R64). -/
def enterEvent (r : Rec) (s : State) : State :=
  let s := copyEvent r { s with evt := { s.evt with fifo := s.evt.fifo ++ [r] } }
  match eventVector s (r.code / 256) with
  | some v => emit (.msix v) s
  | none => s

/-- The full FIFO turns a record away: OVERFLOW is set (R65). -/
def turnAway (r : Rec) (s : State) : State :=
  let first := decide (s.evt.turnedAt ≠ clockNo s)
  hwSet 0x300C 31 { s with evt := { s.evt with
    overflow := true, turnedAt := clockNo s, turned := if first then [r] else s.evt.turned ++ [r]
    overflowWas := if first then s.evt.overflow else s.evt.overflowWas } }

/-- Write an event record: a full FIFO sets OVERFLOW instead (R65). -/
def pushEvent (e : Ev) (kind index detail : Nat) (s : State) : State :=
  let r : Rec := { code := e.code, kind, index, detail, tick := s.clk.tick, ns := tickNs s }
  if s.evt.fifo.length < 1024 then enterEvent r s else turnAway r s

/-- Report that counter k has newly set its OVF (18 R406). -/
def raiseOvf (k : Nat) (s : State) : State :=
  let (c, w) := addRaw Ev.counterOvf.counter 1 s.cnt
  let s := pushEvent .counterOvf 0 0 k { s with cnt := c }
  if w then pushEvent .counterOvf 0 0 Ev.counterOvf.counter s else s

/-- Where the hardware sets of OVF bits are noted, by counter. -/
def ovfStamps : Nat := 2 ^ 36

/-- Where the increments of counters are noted, by counter: a clear of the same clock keeps them (18 R409). -/
def incrementNotes : Nat := 2 ^ 40

/-- Add n to counter k and report an overflow (18 R405, R406). -/
def addCounter (k n : Nat) (s : State) : State :=
  let (c, w) := addRaw k n s.cnt
  let again := decide (2 ^ 32 ≤ (SMap.get 0 s.cnt.value k).toNat + n) && !SMap.get false s.cnt.chained k
  let s := noteRc (incrementNotes + k) 0 n (if w || again then hwSet ovfStamps (ovfIndex k s.cnt) s else s)
  if w then raiseOvf (ovfIndex k s.cnt) { s with cnt := c } else { s with cnt := c }

/-- Count one occurrence of a named counter for an object (18 Table 18.5). -/
def count (c : Ctr) (obj : Nat) (s : State) : State := addCounter (c.index obj) 1 s

/-- Count n occurrences. -/
def countN (c : Ctr) (obj n : Nat) (s : State) : State := addCounter (c.index obj) n s

/-- Raise an event: its counter counts it and a record is written (02 R65, 18 R404). -/
def raise (e : Ev) (kind index detail : Nat) (s : State) : State :=
  pushEvent e kind index detail (addCounter e.counter 1 s)

/-- The full error FIFO turns a record away (18 R398). -/
def turnErrorAway (r : Rec) (s : State) : State :=
  let first := decide (s.evt.errTurnedAt ≠ clockNo s)
  count .errorFifoLost 0 (hwSet 0x3100 31 { s with evt := { s.evt with
    errOverflow := true, errTurnedAt := clockNo s, errTurned := if first then [r] else s.evt.errTurned ++ [r]
    errOverflowWas := if first then s.evt.errOverflow else s.evt.errOverflowWas } })

/-- Write an error record (18 R397, R398). ERROR_FIFO fires vector 2 as it changes from 0 to 1 (02 R64). -/
def pushError (e : ErrCode) (kind index detail : Nat) (s : State) : State :=
  let r : Rec := { code := e.code, kind, index, detail, tick := s.clk.tick, ns := tickNs s }
  if s.evt.errFifo.length < 256 then
    let first := decide (s.evt.errFifo = [])
    let s := { s with evt := { s.evt with errFifo := s.evt.errFifo ++ [r] } }
    if first && s.evt.mask.getLsbD 2 then emit (.msix 2) s else s
  else turnErrorAway r s

/-! ## Rings -/

def State.ring (s : State) (n : Nat) : Ring := SMap.get {} s.rings n

def State.setRing (n : Nat) (r : Ring) (s : State) : State := { s with rings := SMap.set {} s.rings n r }

/-- Stop a ring with an error code (02 R42–R45): ERROR set, RING_ERROR latched. ENABLE reads 0 where the ring did not
start (code 1). -/
def ringError (n : Nat) (code : BitVec 8) (s : State) : State :=
  let r := s.ring n
  setCause 3 (hwSet (0x200C + 0x40 * n) 1
    (s.setRing n { r with error := true, stopped := true, errorCode := code, enable := r.enable && decide (code ≠ 1) }))

/-! ## Replies (02 R44–R49) -/

/-- The STATUS code (02 Table 2.10). -/
def Status.code : Status → Nat
  | .ok => 0 | .accepted => 1 | .busyRetry => 0x0101 | .busyService => 0x0102 | .restarted => 0x0103
  | .deadlockAvoided => 0x0104 | .revoked => 0x0105 | .badOpcode => 0x0201 | .badParam => 0x0202
  | .badLength => 0x0203 | .badTarget => 0x0204 | .notPermitted => 0x0301 | .lockHeld => 0x0302
  | .leaseExpired => 0x0303 | .authFailed => 0x0304 | .hwFault => 0x0401 | .tableFull => 0x0402
  | .notFound => 0x0403 | .peerAbsent => 0x0404

/-- The bytes of a reply: header (02 Table 2.7) and payload. -/
def Reply.bytes (r : Reply) : Bytes :=
  le 2 r.op ++ le 2 r.tag ++ le 2 r.payload.length ++ le 2 r.status.code ++ le 4 r.detail ++ le 4 r.tick.toNat ++
    zeros 16 ++ r.payload

/-- A reply falls due: it waits for a reply descriptor, for the SPI mailbox, or goes to the manager; a command from the
mirror link gets none (02 R46, R66; 10 R275; 15 R361). 64 waiting replies begin a stall (R46). -/
def deliverReply (r : Reply) (s : State) : State :=
  match r.src with
  | .ring _ =>
    let s := { s with cmd := { s.cmd with waiting := s.cmd.waiting ++ [r] } }
    if 64 ≤ s.cmd.waiting.length && !s.cmd.stalled then
      count .replyRingStall 0 { s with cmd := { s.cmd with stalled := true } }
    else s
  | .spi =>
    let first := decide (s.spi.replies = [])
    let s := { s with spi := { s.spi with replies := s.spi.replies ++ [r] } }
    if first then setCause 4 s else s
  | .tunnel =>
    if (s.lane 0).state = .locked ∧ s.role.version ≠ 0 then (sendUp { kind := 2, data := r.bytes } s).2 else s
  | .mirror => s

/-- Form a reply to a command (02 Table 2.7): COMPLETION_TICK is now, DETAIL bit 0 is LATE. `detail` is DETAIL[31:8]. -/
def replyTo (c : Cmd) (st : Status) (last : Bool) (detail : Nat) (payload : Bytes) (s : State) : State :=
  let r : Reply := { op := c.op, tag := c.req.tag, status := st, detail := b2n (c.late && last) + 256 * detail
                     tick := s.clk.tick, payload, src := c.req.src, last }
  if c.mute then s else deliverReply r s

/-! ## Commands (02 R46–R57) -/

/-- The number of targets of a kind (02 Table 2.6). -/
def targetCount : Nat → Nat
  | 0 => 1 | 1 => 4 | 2 => 32 | 3 => 40 | 4 => 8 | 5 => 8 | 6 => 16 | 7 => 24 | _ => 0

/-- What validation needs to know of an opcode (02 Table 2.9). -/
structure CmdSpec where
  op : Nat
  /-- TARGET_KIND that the opcode takes, and the indices valid for it. -/
  kind : Nat := 0
  target : Nat → Bool := fun _ => true
  /-- The life-cycle states that permit it (step 5). -/
  life : CmdReq → State → Bool := fun _ _ => true
  /-- Must it carry AUTH (step 6, R55)? -/
  needsAuth : CmdReq → State → Bool := fun _ _ => false
  /-- Does it define FORCE (step 7)? -/
  force : Bool := false
  /-- Payload length and parameters (step 7), and DETAIL[31:8] where they fail. -/
  check : CmdReq → State → Option Status
  detail : CmdReq → State → Nat := fun _ _ => 0
  /-- The lease (step 8, R50). -/
  lease : CmdReq → State → Option Status := fun _ _ => none
  /-- It only reads state: it is not replicated (15 R361). -/
  reads : Bool := false

/-- The fused authentication key, and whether it is fused and not retired (02 R54, 17 LC_STATUS). -/
def State.authKey (s : State) : Bytes := s.fuse.key
def State.authKeyFused (s : State) : Bool := s.fuse.keyFused && decide (s.lc.state ≠ 4)

/-- The nonce of a command's source (02 R55, 10 R275). -/
def State.nonceOf (s : State) : Src → Option Nonce
  | .ring _ => s.cmd.nonceRings
  | .spi => s.cmd.nonceSpi
  | .tunnel => s.role.nonce
  | .mirror => none

def State.setNonce (src : Src) (n : Option Nonce) (s : State) : State :=
  match src with
  | .ring _ => { s with cmd := { s.cmd with nonceRings := n } }
  | .spi => { s with cmd := { s.cmd with nonceSpi := n } }
  | .tunnel => { s with role := { s.role with nonce := n } }
  | .mirror => s

/-- Does the trailer present the current nonce of the source? -/
def presentsNonce (q : CmdReq) (s : State) : Bool :=
  match s.nonceOf q.src with
  | some n => decide (32 ≤ q.payload.length ∧ slice q.payload (q.payload.length - 32) 16 = n.value)
  | none => false

/-- The GCM tag check of an authenticated command under the fused key (02 R54). -/
def tagHolds (op : Nat) (q : CmdReq) (s : State) : Bool :=
  let nonce := slice q.payload (q.payload.length - 32) 16
  decide (gcmTag s.authKey (nonce.take 12) (q.header op ++ q.body ++ nonce) [] =
    slice q.payload (q.payload.length - 16) 16)

/-- Step 6: authentication; a nonce is consumed by the first AUTH command that presents it (02 R54, R55). -/
def authStep (sp : CmdSpec) (q : CmdReq) (s : State) : Bool × State :=
  if q.auth then
    if presentsNonce q s then (s.authKeyFused && tagHolds sp.op q s, s.setNonce q.src none) else (false, s)
  else (!sp.needsAuth q s, s)

/-- Steps 2, 4 and 5 of Table 2.9: reserved fields, target, life cycle. -/
def headerCheck (sp : CmdSpec) (q : CmdReq) (s : State) : Option Status :=
  if 4096 < q.payload.length then some .badLength
  else if q.reserved ≠ 0 ∨ 16 ≤ q.flags.toNat ∨ (!q.atTick && decide (q.execTick ≠ 0)) = true then some .badParam
  else if q.kind ≠ sp.kind ∨ targetCount q.kind ≤ q.index ∨ sp.target q.index = false then some .badTarget
  else if sp.life q s then none else some .notPermitted

/-- Steps 7 and 8 of Table 2.9: FORCE, length and parameters, lease. -/
def paramCheck (sp : CmdSpec) (q : CmdReq) (s : State) : Option Status :=
  match sp.check q s with
  | some st => some st
  | none => if q.force && !sp.force then some .badParam else sp.lease q s

/-- Validation in the order of Table 2.9 (02 R48). -/
def validate (sp : CmdSpec) (q : CmdReq) (s : State) : Option Status × State :=
  match headerCheck sp q s with
  | some st => (some st, s)
  | none =>
    let (ok, s) := authStep sp q s
    if ok then (paramCheck sp q s, s) else (some .authFailed, s)

/-- Does Quill run: not from abort point A0 of a sleep entry until 12 µs after the wake (16 Tables 16.3, 16.5)? -/
def quillRuns (s : State) : Bool :=
  match s.pwr.state with
  | .awake | .decided => true
  | .waking => decide (s.pwr.wakePs + 12000000 ≤ s.clk.nowPs)
  | _ => false

/-- May Quill dispatch from rings, mailbox and tunnel: command-ready, no fatal condition, no reply stall, not asleep
(02 R46, 16 Table 16.3, 18 R401, 19 R421)? -/
def canDispatch (s : State) : Bool :=
  decide (s.dev.quill = 3) && !s.fatal.asserted && decide (s.cmd.waiting.length < 64) && quillRuns s

/-- Number a command as taken now. -/
def newCmd (op : Nat) (q : CmdReq) (s : State) : Cmd × State :=
  ({ op, req := q, seq := s.cmd.nextSeq, tick := s.clk.tick },
   { s with cmd := { s.cmd with nextSeq := s.cmd.nextSeq + 1 } })

/-- Enter a validated AT_TICK command into the pending set (02 R51, R52). -/
def enterPending (c : Cmd) (s : State) : State :=
  if 1048576 < tickDiff c.req.execTick s.clk.tick then replyTo c .badParam true 0 [] s
  else if 512 ≤ (s.cmd.pendingSet.filter (fun e => e.req.atTick)).length then replyTo c .busyRetry true 0 [] s
  else
    let late := decide (tickDiff c.req.execTick s.clk.tick ≤ 0)
    let s := { s with cmd := { s.cmd with pendingSet := s.cmd.pendingSet ++ [{ c with late }] } }
    if c.req.async then replyTo c .accepted false 0 [] s else s

/-! ## The pair, as commands see it (15 R361) -/

/-- The device is the active of an enabled pair. -/
def pairActive (s : State) : Bool := s.pair.enable && decide (s.pair.state = 1)

/-- INTERVAL in force: 2 on a standby (15 R367). -/
def blotInterval (s : State) : Nat := if pairStandby s then 2 else s.mem.interval

/-- The pair is IN_STEP, seen from either device. -/
def pairInStep (s : State) : Bool :=
  (pairActive s && s.pair.mirrorUp && decide (s.pair.partnerState = 3)) || decide (s.pair.state = 3)

/-- Classes 0x02–0x0B, 0x0E and 0x0F. -/
def replicatedClass (op : Nat) : Bool :=
  let c := op / 256
  decide (2 ≤ c ∧ c ≤ 11) || decide (c = 14) || decide (c = 15)

/-- A standby enters STANDBY_RESYNC: the first attempt begins where the mirror link is up (15 R365). -/
def enterResync (s : State) : State :=
  { s with pair := { s.pair with state := 2, attempt := if s.pair.mirrorUp then 1 else 0, pass := 0, kibLeft := 0
                                 matching := false, matchRun := 0, mismatchRun := 0, resyncTick := ownTick s } }

/-! ## The mirror link (15 R357, R358) -/

/-- The lowest-numbered LOCKED mirror lane (15 R357). -/
def mirrorLane (s : State) : Option Nat := [32, 33, 34, 35].find? (fun n => decide ((s.lane n).state = .locked))

/-- The partner's holds on the mirror lanes are revoked: its health has failed, FATAL#, or the link is lost (01 R19, R20, Table 1.4). -/
def revokeMirror (s : State) : State :=
  if s.pair.partnerHolds then
    (List.range 4).foldl (fun s n => raise .holdRevoked 3 (32 + n) s.pair.partnerSlot s)
      { s with pair := { s.pair with partnerHolds := false } }
  else s

/-- The mirror link's number among the link bindings (13 LINK_KEY_BIND). -/
def mirrorLink : Nat := 33

/-- A whole frame on the mirror link, in rotation over its LOCKED lanes (15 R357), sealed under LINK 33 (15 R358); without a loaded
key it is discarded (13 R327, R335). The flag says that it was sent. -/
def sendMirrorFrame (kind : Nat) (data : Bytes) (s : State) : Bool × State :=
  let lanes := [32, 33, 34, 35].filter (fun n => decide ((s.lane n).state = .locked))
  match lanes[s.pair.rotation % lanes.length]? with
  | some n =>
    match frameOut n mirrorLink true s.pair.txCount { kind, data } s with
    | some o => (true, putLane n o { s with pair := { s.pair with rotation := s.pair.rotation + 1, txCount := s.pair.txCount + 1 } })
    | none => (false, count .linkKeyInvalid mirrorLink s)
  | none => (false, s)

/-- A key is written into a slot; the active of a pair in step sends it on as a KIND 3 frame (15 R361). -/
def storeKey (slot : Nat) (k : KeySlot) (s : State) : State :=
  let s : State := { s with cipher := { s.cipher with slots := SMap.set {} s.cipher.slots slot k } }
  if pairActive s && pairInStep s then (sendMirrorFrame 3 (Config.keyFrame slot k.aes256 k.key) s).2 else s

/-- A fibre frame's payload through a CTR engine with the key bound as a KIND (13 R322, R332); the counter block is the standard's, a
free value (log 1307). -/
def fibreCrypt (i kind : Nat) (data : Bytes) (s : State) : Bytes × State :=
  match SMap.get none s.cipher.pon (6 * i + kind) with
  | some n =>
    let (c, s) := takeFree 128 s
    (ctrCrypt ((SMap.get {} s.cipher.slots n).key.take 16) c data, s)
  | none => (data, s)

/-- Replicate a validated command: both devices execute it in tick D + 2, or at its EXEC_TICK where that is not earlier
(15 R361). -/
def replicate (c : Cmd) (s : State) : State :=
  let d2 := s.clk.tick + 2
  if c.req.atTick && decide (1048576 < tickDiff c.req.execTick s.clk.tick) then replyTo c .badParam true 0 [] s
  else if c.req.atTick && decide (512 ≤ (s.cmd.pendingSet.filter (fun e => e.req.atTick)).length) then replyTo c .busyRetry true 0 [] s
  else
    let later := c.req.atTick && decide (0 ≤ tickDiff c.req.execTick d2)
    let c' := { c with due := some (if later then c.req.execTick else d2), late := c.req.atTick && !later }
    let s : State := { s with cmd := { s.cmd with pendingSet := s.cmd.pendingSet ++ [c'] } }
    let s := (sendMirrorFrame 0 (Config.mirrorFrame (.command c.op c.req s.clk.tick)) s).2
    if c.req.async then replyTo c .accepted false 0 [] s else s

/-- Begin a validated command: it is executing, and ACCEPTED is posted where it is asked for (02 R49). A dispatch other
than POWER_QUERY's restarts the idle timer (16 R375). -/
def begin (c : Cmd) (s : State) : State :=
  let s := if c.op = 0x0B04 then s else noteActivity s
  let s := { s with cmd := { s.cmd with executing := s.cmd.executing ++ [c] } }
  if c.req.async then replyTo c .accepted false 0 [] s else s

/-- A validated command goes on: on a standby in step commands of the replicated classes are refused, or with FORCE end the
step; the active replicates what changes state; else the command waits for its tick or begins (02 R51, 15 R361). -/
def acceptCmd (sp : CmdSpec) (c : Cmd) (s : State) : State :=
  let go := fun (s : State) => if c.req.atTick then enterPending c s else begin c s
  if replicatedClass c.op && pairInStep s then
    if pairStandby s then (if c.req.force then go (enterResync s) else replyTo c .busyService true 0 [] s)
    else if sp.reads then go s else replicate c (noteActivity s)
  else go s

/-- Take a command: validate it, refuse it by its status, or let it go on (02 R48, R49). -/
def submit (sp : CmdSpec) (q : CmdReq) (s : State) : State :=
  let (c, s) := newCmd sp.op q s
  match validate sp q s with
  | (some st, t) =>
    let own := (headerCheck sp q s).isNone && decide (sp.check q t = some .badParam) && decide (st = .badParam)
    replyTo c st true (if own then sp.detail q t else 0) [] t
  | (none, s) => acceptCmd sp c s

/-- Of two commands of one source, the one taken earlier; before a fence that AT_TICK dispatched, also every command of its
source dispatched before it (02 R59). -/
def earlier (c e : Cmd) (s : State) : Bool :=
  decide (e.req.src = c.req.src) && decide (e.seq ≠ c.seq) &&
    (decide (e.seq < c.seq) ||
      (c.req.atTick && (s.cmd.executing.takeWhile (fun x => x.seq ≠ c.seq)).any (fun x => decide (x.seq = e.seq))))

/-- An earlier command that has not completed: dispatched, or on its way to the dispatch of its replication (02 R59, 15 R361). -/
def hasEarlier (c : Cmd) (s : State) : Bool :=
  s.cmd.executing.any (fun e => earlier c e s) || s.cmd.pendingSet.any (fun e => !e.req.atTick && earlier c e s)

/-- Earlier AT_TICK commands of the fence's source that are still pending (02 R59). -/
def earlierPending (c : Cmd) (s : State) : Nat :=
  (s.cmd.pendingSet.filter (fun e => e.req.atTick && decide (e.req.src = c.req.src) && decide (e.seq < c.seq))).length

/-- Complete a NOP: DETAIL[31:8] counts the earlier AT_TICK commands of its ring still pending (02 R59). -/
def completeNop (c : Cmd) (s : State) : State :=
  replyTo c .ok true (earlierPending c s) [] { s with cmd := { s.cmd with executing := s.cmd.executing.filter (fun e => e.seq ≠ c.seq) } }

/-- Complete the fences that no longer wait for an earlier command (02 R59). -/
def sweepNops (s : State) : State :=
  (s.cmd.executing.filter (fun c => decide (c.op = 0x0100) && c.started)).foldl
    (fun s c => if hasEarlier c s then s else completeNop c s) s

/-- A command completes with its final reply; RESTARTED stands for OK where a transfer of it was restarted (02 R49, 14
R351). -/
def complete (c : Cmd) (st : Status) (detail : Nat) (payload : Bytes) (s : State) : State :=
  let s := { s with cmd := { s.cmd with executing := s.cmd.executing.filter (fun e => e.seq ≠ c.seq) } }
  let st := if c.restarted && decide (st = .ok) then .restarted else st
  sweepNops (replyTo c st true detail payload s)

/-- What executing a command comes to: completed now, or later by another row. -/
inductive Res where
  | done (st : Status) (detail : Nat) (payload : Bytes) (s : State)
  | later (s : State)

/-- Completed with a status alone. -/
def Res.fail (st : Status) (s : State) : Res := .done st 0 [] s

/-- Completed with OK and a reply payload. -/
def Res.ok (payload : Bytes) (s : State) : Res := .done .ok 0 payload s

/-- Mark a command as begun. -/
def markStarted (c : Cmd) (s : State) : State :=
  { s with cmd := { s.cmd with executing := s.cmd.executing.map (fun e => if e.seq = c.seq then { e with started := true } else e) } }

/-- Execute a command that has been dispatched: its lease is held still (02 R50), then its own effect. -/
def execute (sp : CmdSpec) (eff : Cmd → State → Res) (c : Cmd) (s : State) : State :=
  match sp.lease c.req s with
  | some st => complete c st 0 [] s
  | none =>
    match eff c (markStarted c s) with
    | .done st detail payload s => complete c st detail payload s
    | .later s => s

/-- A command without ASYNC_REPLY and AT_TICK holds its ring until it completes (R49). -/
def holdsRing (n : Nat) (c : Cmd) : Bool :=
  (match c.req.src with | .ring k => decide (k.val = n) | _ => false) && !c.req.async && !c.req.atTick

/-- The source dispatches nothing now: a ring that a command holds (R49), or the mailbox while a command of it is under way (R66). -/
def sourceHeld (src : Src) (s : State) : Bool :=
  let all := s.cmd.executing ++ s.cmd.pendingSet
  match src with
  | .ring n => all.any (holdsRing n.val)
  | .spi => all.any (fun c => decide (c.req.src = .spi))
  | _ => false

/-- Two commands for one object: of one class and one target. -/
def sameObject (c e : Cmd) : Bool :=
  decide (c.op / 256 = e.op / 256) && decide (c.req.kind = e.req.kind) && decide (c.req.index = e.req.index)

/-- A command must wait for another of the same object that item 1 has dispatched and that has not begun: one without AT_TICK for every such
one, one with AT_TICK for those dispatched before it (R53). -/
def mustFollow (c : Cmd) (s : State) : Bool :=
  let ahead := if c.req.atTick then s.cmd.executing.takeWhile (fun e => e.seq ≠ c.seq) else s.cmd.executing
  ahead.any (fun e => e.req.atTick && !e.started && decide (e.seq ≠ c.seq) && sameObject c e)

/-- The dispatched command of an opcode and header that has not begun. -/
def findDispatched (op : Nat) (q : CmdReq) (s : State) : Option Cmd :=
  s.cmd.executing.find? (fun c => decide (c.op = op) && decide (c.req = q) && !c.started)

/-- Execute a dispatched command, unless a fatal condition stands or it must follow another (18 R401, R53). -/
def executeNow (sp : CmdSpec) (eff : Cmd → State → Res) (c : Cmd) (s : State) : State :=
  if s.fatal.asserted || mustFollow c s then s else execute sp eff c s

/-- The row of a command: a command that COMMAND_DISPATCH or item 1 has dispatched is executed; otherwise the row is the
whole way of the command, its taking and validation included (02 R46–R52). -/
def runCmd (sp : CmdSpec) (eff : Cmd → State → Res) (q : CmdReq) (s : State) : State :=
  match findDispatched sp.op q s with
  | some c => executeNow sp eff c s
  | none =>
    if canDispatch s && !sourceHeld q.src s then
      let s := submit sp q s
      match findDispatched sp.op q s with
      | some c => executeNow sp eff c s
      | none => s
    else s

/-- The executing command of an opcode that has begun, oldest first. -/
def running (op : Nat) (s : State) : Option Cmd := s.cmd.executing.find? (fun c => decide (c.op = op) && c.started)

/-- Complete the running command of an opcode, where there is one. -/
def completeRunning (op : Nat) (st : Status) (detail : Nat) (payload : Bytes) (s : State) : State :=
  match running op s with
  | some c => complete c st detail payload s
  | none => s

/-- The running command of an opcode for a target. -/
def runningAt (op index : Nat) (s : State) : Option Cmd :=
  s.cmd.executing.find? (fun c => decide (c.op = op) && decide (c.req.index = index) && c.started)

/-- Complete the running command of an opcode for a target, where there is one. -/
def completeRunningAt (op index : Nat) (st : Status) (payload : Bytes) (s : State) : State :=
  match runningAt op index s with
  | some c => complete c st 0 payload s
  | none => s

/-- Ticks that have gone by since an own tick (01 R23). -/
def ticksSince (t : Word) (s : State) : Nat := (ownTick s - t).toNat

/-- A timer that is running has run for n ticks. -/
def ranFor (n : Nat) (t : Option Word) (s : State) : Bool :=
  match t with
  | some t => decide (n ≤ ticksSince t s)
  | none => false

/-- The payload has exactly n bytes (Table 2.9 step 7). -/
def lenIs (n : Nat) (q : CmdReq) : Option Status := if q.body.length = n then none else some .badLength

/-- The first check that fails decides. -/
def firstBad : List (Bool × Status) → Option Status
  | [] => none
  | (b, st) :: l => if b then some st else firstBad l

/-- Exactly n bytes, then the parameter conditions, each of which fails with BAD_PARAM. -/
def params (n : Nat) (bad : CmdReq → State → Bool) (q : CmdReq) (s : State) : Option Status :=
  if q.body.length = n then (if bad q s then some .badParam else none) else some .badLength

/-! ## Read latches (00 R460) -/

def State.latch (s : State) : Path → Latch
  | .pcie => s.latchPcie
  | .spi => s.latchSpi
  | .bar4 => s.latchBar4

def State.setLatch (p : Path) (l : Latch) (s : State) : State :=
  match p with
  | .pcie => { s with latchPcie := l }
  | .spi => { s with latchSpi := l }
  | .bar4 => { s with latchBar4 := l }

/-- Answer a read. -/
def answer (p : Path) (addr : Nat) (v : Word) (s : State) : State := emit (.value p addr v) s

/-! ## Bandwidth (18 R410, R411) -/

/-- Count bytes and a frame of a port in the open bandwidth window (18 R410, R411). -/
def bwCount (port bytes : Nat) (s : State) : State :=
  let t := SMap.get {} s.bw.run port
  let n : BwTotal := { bytes := min (2 ^ 40 - 1) (t.bytes + bytes), frames := min (2 ^ 32 - 1) (t.frames + 1) }
  { s with bw := { s.bw with run := SMap.set {} s.bw.run port n } }

/-! ## Asleep, and work that recurs once in a tick (16 R379, 01 Table 1.8) -/

/-- Is the part asleep, a sample included (16 R379)? -/
def asleep (s : State) : Bool := decide (s.pwr.state = .asleep) || decide (s.pwr.state = .sampling)

/-- A register or window write other than DOORBELL, CMD_PUSH and PWR_WAKE: dropped and counted while asleep (16 R379). -/
def hostWrite (f : State → State) (s : State) : State := if asleep s then count .sleepWriteDropped 0 s else f s

/-- A read that is not served while asleep: it answers 0xFFFF_FFFF then (16 R379). -/
def hostRead (p : Path) (addr : Nat) (f : State → State) (s : State) : State :=
  if asleep s then answer p addr 0xFFFFFFFF s else f s

/-- Strokes of the tick before an item's start point (01 Table 1.8). -/
def itemStart : Nat → Nat
  | 5 | 6 => 1
  | 7 => 3
  | 8 | 9 => 4
  | 10 => 6
  | 11 => 7
  | _ => 0

/-- The stroke by whose end an item completes (01 Table 1.8). -/
def itemDeadline : Nat → Nat
  | 4 | 5 => 2
  | 6 => 3
  | 7 => 4
  | 8 => 5
  | 9 => 6
  | 10 => 7
  | 11 => 8
  | _ => 1

/-- The end of stroke k of the present tick; of stroke 0, T0. -/
def strokeEnd (k : Nat) (s : State) : Nat := s.clk.t0Ps + 15625000 * k

/-- The tick to which the oldest carried-over work of an item belongs (01 R34). -/
def carriedTick (k : Nat) (s : State) : Option Word := (s.clk.carried.find? (fun e => e.1 = k)).map (·.2)

/-- An item has work on the tables that it has not done: expired leases (3), the learn queue (6). -/
def itemLeft (k : Nat) (s : State) : Bool :=
  let left := if k = 3 then s.tbl.leases.any (fun l => l.remaining = 0) else decide (k = 6) && !s.tbl.learn.isEmpty
  left && ((carriedTick k s).isSome || !s.clk.itemsDone.contains k)

/-- The items before item k that act on the same objects must act first (01 R30): lease expiry before commits, both before ageing; commands
that item 1 has dispatched to shapers before the refill. -/
def itemWaits (k : Nat) (s : State) : Bool :=
  match k with
  | 5 => s.cmd.executing.any (fun c => c.req.atTick && !c.started && decide (c.op / 256 = 5))
  | 6 => itemLeft 3 s
  | 7 => itemLeft 3 s || itemLeft 6 s
  | _ => false

/-- The work of an item of Table 1.8, done once in a tick from its start point on, and once more before it for each tick that has carried
it over; after its deadline only once its overrun has been reported (01 R29, R30, R33, R34, R461). Asleep, only item 10 is run (16
R379). -/
def itemRow (k : Nat) (f : State → State) (s : State) : State :=
  if (asleep s && decide (k ≠ 10)) || itemWaits k s then s
  else if (carriedTick k s).isSome then f { s with clk := { s.clk with carried := s.clk.carried.eraseP (fun e => e.1 = k) } }
  else if s.clk.itemsDone.contains k || (decide (strokeEnd (itemDeadline k) s < s.clk.nowPs) && !s.clk.overrunNow.contains k) then s
  else f { s with clk := { s.clk with itemsDone := k :: s.clk.itemsDone, nowPs := max s.clk.nowPs (strokeEnd (itemStart k) s) } }

/-- The tick to which the next work of an item belongs. -/
def itemTick (k : Nat) (s : State) : Word := (carriedTick k s).getD s.clk.tick

/-! ## Power and reset, as every step sees them (19 R415, R421; 20 R439) -/

/-- What no step of the part's own reaches: the queue of waiting commands, the supply and RESET#. -/
def keepOuter (s t : State) : State :=
  { t with pending := s.pending, hot := { t.hot with powered := s.hot.powered }, boot := { t.boot with inReset := s.boot.inReset } }

/-- A part without power, or held in reset by RESET#, takes no step of its own. -/
def live (f : State → State) (s : State) : State := if s.hot.powered && !s.boot.inReset then keepOuter s (f s) else s

/-- A step that comes from outside the part: resets, the hot-swap switch, PERST#. It leaves the queue of waiting commands. -/
def outside (f : State → State) (s : State) : State := { f s with pending := s.pending }

/-- Does an access path reach the registers: from step 4 of the boot sequence on, PCIe while PERST# is deasserted (19 Table 19.4,
20 Table 20.5)? -/
def pathUp (p : Path) (s : State) : Bool :=
  decide (s.dev.quill ≠ 0) && (decide (p = .spi) || !s.boot.perst)

/-- An access over whichever path: from step 4 of the boot sequence on. -/
def served (f : State → State) (s : State) : State := live (fun s => if s.dev.quill = 0 then s else f s) s

/-- A step that needs running firmware at least (19 R421). -/
def ready (f : State → State) (s : State) : State := live (fun s => if s.dev.quill = 3 then f s else s) s

/-- An access over a path. -/
def via (p : Path) (f : State → State) (s : State) : State := live (fun s => if pathUp p s then f s else s) s

end Sys2Proof.Machine
end

