-- ==== Sys2Proof/Machine/ClockOps.lean ====
section
/-!
DEFINITION. The tick generator (01 R22–R28, Table 1.7): the tick channel, offsets, first alignment, and the way the present
instant moves to the instant that a row's rule gives it.
-/

namespace Sys2Proof.Machine

/-- The nominal tick period, 125 µs in ps (01 R22). -/
def tickPs : Nat := 125000000

/-- The present instant moves on to an instant that a rule names, and never back (log 3). -/
def advanceTo (ps : Nat) (s : State) : State := { s with clk := { s.clk with nowPs := max s.clk.nowPs ps } }

/-- Time passes. -/
def passPs (n : Nat) (s : State) : State := { s with clk := { s.clk with nowPs := s.clk.nowPs + n } }

/-- The distance from the own T0 to the nearest edge of a reference whose edges recur every 125 µs (below Table 1.7). -/
def offsetTo (refPs : Nat) (s : State) : Int :=
  let d : Int := ((refPs : Int) - (s.clk.t0Ps : Int)) % (tickPs : Int)
  if 62500000 < d then d - tickPs else d

def State.inst (s : State) (i : Nat) : Inst := SMap.get {} s.insts i
def State.setInst (i : Nat) (v : Inst) (s : State) : State := { s with insts := SMap.set {} s.insts i v }
def State.modInst (i : Nat) (f : Inst → Inst) (s : State) : State := s.setInst i (f (s.inst i))

/-- Is an instance in the operation state O5 (03 Table 3.3)? -/
def Inst.inO5 (x : Inst) : Bool := decide (x.st = 0x51) || decide (x.st = 0x52)

/-- The tick channel: the lowest-numbered instance in O5, 7 when there is none (01 R24). -/
def tickChannel (s : State) : Nat := ((List.range 4).find? (fun i => (s.inst i).inO5)).getD 7

/-- The instant F of a first alignment: the first edge of a reference after now (01 R461). -/
def firstEdgeAfter (refPs : Nat) (s : State) : Nat :=
  if s.clk.nowPs < refPs then refPs else refPs + ((s.clk.nowPs - refPs) / tickPs + 1) * tickPs

/-- The state reached when the reference has an offset: LOCKED up to 4 ns, else SLEWING (01 Table 1.7). -/
def lockState (off : Int) : TickState := if off.natAbs ≤ 4000 then .locked else .slewing

/-- Bring the tick channel up to date after the set of instances in O5 has changed (01 R24, R27, Table 1.7). -/
def retick (s : State) : State :=
  let ch := tickChannel s
  if ch = s.clk.channel then s
  else
    let off := offsetTo (s.inst ch).sync.phyPs s
    let set := fun (st : TickState) (off : Int) (s : State) =>
      { s with clk := { s.clk with channel := ch, state := st, offsetPs := off } }
    match s.clk.state with
    | .following => set .following s.clk.offsetPs s
    | .free =>
      if ch = 7 then set .free 0 s
      else
        let f := firstEdgeAfter (s.inst ch).sync.phyPs s
        raise .tickLocked 0 0 0
          (set .locked 0 { s with clk := { s.clk with alignAtPs := if s.clk.aligned then none else some f } })
    | .locked =>
      if ch = 7 then raise .tickHoldover 0 0 0 (set .holdover 0 s)
      else raise .tickChannelMoved 0 0 0 (set (lockState off) off s)
    | .slewing =>
      if ch = 7 then raise .tickHoldover 0 0 0 (set .holdover 0 s)
      else raise .tickChannelMoved 0 0 0 (set .slewing off s)
    | .holdover =>
      if lockState off = .locked then raise .tickLocked 0 0 0 (set .locked off s)
      else set .slewing off s

/-! ## Following (R26, Table 1.7) -/

/-- A TICK block places the followed source's T0 at an instant of the own time. The first one starts following; every one
corrects the offset (R28). -/
def followEdge (srcPs : Nat) (tick : Word) (s : State) : State :=
  let first := decide (s.clk.state ≠ .following)
  let wasFree := decide (s.clk.state = .free)
  let f := firstEdgeAfter srcPs s
  let s : State := { s with clk := { s.clk with
    followPs := srcPs, followTick := tick, offsetPs := offsetTo srcPs s, state := .following
    adopt := s.clk.adopt || first
    alignAtPs := if first && wasFree && !s.clk.aligned then some f else s.clk.alignAtPs } }
  if first && wasFree then raise .tickLocked 0 0 0 s else s

/-- The followed source is lost: towards the tick channel, or holdover (Table 1.7). -/
def followLost (s : State) : State :=
  if s.clk.state ≠ .following then s
  else
    let ch := tickChannel s
    let s : State := { s with clk := { s.clk with channel := ch, adopt := false } }
    if ch = 7 then raise .tickHoldover 0 0 0 { s with clk := { s.clk with state := .holdover } }
    else raise .tickChannelMoved 0 0 0 { s with clk := { s.clk with state := .slewing, offsetPs := offsetTo (s.inst ch).sync.phyPs s } }

end Sys2Proof.Machine
end

