-- ==== Sys2Proof/Machine/LinkOps.lean ====
section
/-!
DEFINITION. Lanes and protected links as other families use them: line rates (09 Table 9.2), link bindings and their keys
(13 R325, R327, R335), and the frame counter of link protection (10 R277).
-/

namespace Sys2Proof.Machine

def State.worker (s : State) (w : Nat) : Worker := SMap.get {} s.workers w
def State.setWorker (w : Nat) (v : Worker) (s : State) : State := { s with workers := SMap.set {} s.workers w v }
def State.modWorker (w : Nat) (f : Worker → Worker) (s : State) : State := s.setWorker w (f (s.worker w))

/-! ## The transmitter of a lane (09 R225, R231, R234–R236) -/

/-- The time of one block on a lane, ps. -/
def blockPs (rate : Nat) : Nat := bitsPs (lineKbps rate) 66

/-- A block's worth of what the transmitter sends by itself (R231, R234): PRBS31, or an idle control block while nothing else is on the
lane. It is put out at each block received, since both directions run at one rate (log 901). -/
def laneFill (n : Nat) (s : State) : State :=
  let x := s.lane n
  if x.state = .down ∨ x.state = .legacy ∨ x.state = .fault then s
  else if x.prbs then
    let (bits, r) := prbsBits 66 x.prbsTx
    if x.loopback = 2 ∨ x.txIdle = true then s else emit (.laneBits n bits) (s.modLane n (fun x => { x with prbsTx := r }))
  else if s.clk.nowPs < SMap.get 0 s.egressFree n then s
  else sendBlock n 0x1E 0 s

/-- n EIDLE blocks on a lane (R235). -/
def sendEidle (lane : Nat) : Nat → State → State
  | 0, s => s
  | n + 1, s => sendEidle lane n (emit (.block lane 0x1E eidleBody) s)

/-- The LANE_IDLE commands that wait on a lane complete (R249). -/
def idleDone (n : Nat) (s : State) : State := completeRunningAt 0x0603 n .ok [] s

/-- What a lane's transmitter has finished by now: the 16 EIDLE blocks, after which it stops driving, or its training burst (R235, R236). -/
def settleIdle (n : Nat) (s : State) : State :=
  let x := s.lane n
  let s := match x.eidleAt with
    | some t =>
      if s.clk.nowPs < t then s
      else idleDone n ((sendEidle n 16 s).modLane n (fun x => { x with eidleAt := none, txIdle := true }))
    | none => s
  match x.burstEnd with
  | some t => if s.clk.nowPs < t then s else idleDone n (s.modLane n (fun x => { x with burstEnd := none }))
  | none => s

/-- All lanes. -/
def settleLanes (s : State) : State := (List.range 32).foldl (fun s n => settleIdle n s) s

/-- An entry request (R235): the transmitter finishes the block it is sending and sends 16 EIDLE blocks. With an exit request in the same
clock, the exit wins (R236). -/
def requestIdle (n : Nat) (s : State) : State :=
  let x := s.lane n
  if x.txIdle || x.eidleAt.isSome || decide (x.exitClock = clockNo s) then s
  else
    let b := blockPs x.rate
    s.modLane n (fun x => { x with eidleAt := some ((s.clk.nowPs + b - 1) / b * b + 16 * b) })

/-- An exit request (R236): among its EIDLE blocks the transmitter stops them and goes on at the next block boundary; from idle it sends
a training burst, but none where an entry to sleep is abandoned (16 R378). -/
def requestWake (burst : Bool) (n : Nat) (s : State) : State :=
  let s := settleIdle n s
  let x := s.lane n
  let s := s.modLane n (fun x => { x with exitClock := clockNo s })
  match x.eidleAt with
  | some t =>
    let b := blockPs x.rate
    let sent := (s.clk.nowPs + 16 * b - t + b - 1) / b
    idleDone n ((sendEidle n (min 16 sent) s).modLane n (fun x => { x with eidleAt := none }))
  | none =>
    if x.txIdle && !burst then idleDone n (s.modLane n (fun x => { x with txIdle := false }))
    else if x.txIdle then
      let stop := s.clk.nowPs + bitsPs (lineKbps x.rate) (if pam4 x.rate then 512 else 256)
      let s := emit (.laneSymbols n (trainingBurst x.rate)) (s.modLane n (fun x => { x with txIdle := false, burstEnd := some stop }))
      { s with egressFree := SMap.set 0 s.egressFree n (max stop (SMap.get 0 s.egressFree n)) }
    else s

/-- May a lane enter electrical idle by its Mapiyn version: with version 2 or 3 where the peer's HELLO has EIDLE_OK; a lane that has no
version yet is not bound by it (10 R256, Table 10.2; log 1014). -/
def idleAllowed (n : Nat) (s : State) : Bool :=
  if s.dev.role = 1 then
    let x := s.worker n
    decide (x.version = 0) || (decide (2 ≤ x.version) && x.eidleOk)
  else if s.dev.role = 2 ∧ n = 0 then decide (s.role.version = 0) || (decide (2 ≤ s.role.version) && s.role.eidleOk)
  else true

/-! ## Frames to and from workers (10 R253, R275, R277) -/

/-- The number of a worker port's link among the link bindings: the manager link in the worker role (13 LINK_KEY_BIND). -/
def linkOf (w : Nat) (s : State) : Nat := if s.dev.role = 2 then 32 else w

/-- Is link protection in force on a worker lane (10 R277)? -/
def linkProtected (w : Nat) (s : State) : Bool := if s.dev.role = 2 then s.role.linkProt else (s.worker w).linkProt

/-- The Mapiyn version of a worker lane; 0 where none is agreed (10 R256). -/
def laneVersion (w : Nat) (s : State) : Nat := if s.dev.role = 2 then s.role.version else (s.worker w).version

/-- A frame goes out on a worker lane, under link protection where it is in force; without its key it is discarded and counted (13 R327).
The flag says that it was sent. -/
def sendOnLane (w : Nat) (c : Carried) (s : State) : Bool × State :=
  let n := if s.dev.role = 2 then s.role.txCount else (s.worker w).txCount
  match frameOut w (linkOf w s) (linkProtected w s) n c s with
  | none => (false, count .linkKeyInvalid (linkOf w s) s)
  | some o =>
    let k := b2n (linkProtected w s)
    (true, putLane w o (if s.dev.role = 2 then { s with role := { s.role with txCount := n + k } }
      else s.modWorker w (fun x => { x with txCount := n + k })))

/-- A tunnelled frame goes out at the lane's next frame boundary, ahead of queued traffic (10 R275). -/
def sendTunnel (w : Nat) (c : Carried) (s : State) : State :=
  match sendOnLane w c s with
  | (true, u) =>
    let free := max u.clk.nowPs (SMap.get 0 u.egressFree w)
    { u with egressFree := SMap.set 0 u.egressFree w (free + framePs w c.data.length (linkProtected w s) s) }
  | (false, u) => u

/-- Pool engines of a direction that serve GCM: 8–11 transmit, 12–15 receive, less the faulted ones and those that took over a
fibre stream (13 R322, R326). -/
def poolEngines (dir : Nat) (s : State) : List Nat :=
  ((List.range 4).map (fun k => 8 + 4 * dir + k)).filter (fun e =>
    s.cipher.enginesOk.getLsbD e && !s.cipher.tookOver.any (fun t => decide (t.2 = some e)))

/-- RESERVE of a transmit binding in kb/s, scaled to the engines that the pool still has (13 R325, R326). -/
def reserveKbps (link : Nat) (s : State) : Nat :=
  match linkBind link 0 (txPhase link s) s with
  | some b => b.reserve * 1000000 * (poolEngines 0 s).length / 4
  | none => 0

/-- The counter that a received COUNTER_LO stands for: the smallest value, not below the one after the last accepted, with
these low 16 bits (10 R277). -/
def rebuildCounter (next lo : Nat) : Nat :=
  let c := next / 65536 * 65536 + lo
  if next ≤ c then c else c + 65536

/-- Does a received frame find its binding's share of the receive engines full (13 R325)? A frame holds the share for the time
that its bytes take at RESERVE (log 40). -/
def rxShare (link phase bytes : Nat) (s : State) : Bool × State :=
  match linkBind link 1 phase s with
  | none => (true, s)
  | some b =>
    let kbps := b.reserve * 1000000 * (poolEngines 1 s).length / 4
    if kbps = 0 ∨ s.clk.nowPs < SMap.get 0 s.cipher.rxFree link then (false, s)
    else (true, { s with cipher := { s.cipher with
      rxFree := SMap.set 0 s.cipher.rxFree link (s.clk.nowPs + bitsPs kbps (8 * bytes)) } })

end Sys2Proof.Machine
end

