-- ==== Sys2Proof/Machine/QueueOps.lean ====
section
/-!
DEFINITION. Queues, shapers and the pick (08 R209–R215): admission, waking, credit, the timing wheel, deficit round robin,
and the return of frames to a queue's head (05 R140).
-/

namespace Sys2Proof.Machine

def State.queue (s : State) (q : Nat) : Queue := SMap.get {} s.queues q
def State.setQueue (q : Nat) (v : Queue) (s : State) : State := { s with queues := SMap.set {} s.queues q v }
def State.shaper (s : State) (n : Nat) : Shaper := SMap.get {} s.shapers n
def State.setShaper (n : Nat) (v : Shaper) (s : State) : State := { s with shapers := SMap.set {} s.shapers n v }

/-- FRAME_LENGTH: the bytes without the FCS (07 R176). -/
def Frame.len (f : Frame) : Nat := f.length.getD f.data.length

/-- Bytes and frames queued. -/
def Queue.bytes (q : Queue) : Nat := (q.frames.map Frame.len).sum

/-- Bytes of Inkwell that hold queued frames. -/
def inkwellUsed (s : State) : Nat := (s.queues.map (fun e => if 12288 ≤ e.1 ∧ e.1 < 12296 then 0 else e.2.bytes)).sum

/-- The shapers a queue names. -/
def QShapers.list (x : QShapers) : List Nat := (if x.aEn then [x.a] else []) ++ (if x.bEn then [x.b] else [])

/-- A shaper is idle while none of the queues that name it holds a frame (08 R215). -/
def shaperIdle (n : Nat) (s : State) : Bool :=
  !s.queues.any (fun e => !e.2.frames.isEmpty && e.2.shapers.list.contains n)

/-- One byte in units of CREDIT (08 R213). -/
def creditUnit : Int := 65536

/-- CREDIT as it has accrued at an instant, stopped at BURST (08 R213). -/
def Shaper.creditAt (sh : Shaper) (ps : Nat) : Int :=
  min (sh.cfg.burst * creditUnit) (sh.credit + (ps - sh.atPs : Nat) * (sh.cfg.rate * 125 * 65536 : Nat) / 1000000000000)

/-- Fold the credit accrued so far. -/
def Shaper.fold (ps : Nat) (sh : Shaper) : Shaper := { sh with credit := sh.creditAt ps, atPs := ps }

/-- Place a shaper on the timing wheel where its CREDIT is below zero: at the instant CREDIT reaches zero, rounded up to
the next 8 ns slot, or the last slot of the horizon of 131,072 slots (08 R213). -/
def Shaper.onWheel (ps : Nat) (sh : Shaper) : Shaper :=
  if 0 ≤ sh.credit then { sh with wheel := none }
  else
    let perPs := sh.cfg.rate * 125 * 65536
    let wait := ((-sh.credit).toNat * 1000000000000 + perPs - 1) / perPs
    let slot := (ps + wait + 7999) / 8000
    { sh with wheel := some (min slot (ps / 8000 + 131072) * 8000) }

/-- Take n bytes of credit at an instant (08 R211, R213). -/
def debitShaper (bytes : Nat) (n : Nat) (s : State) : State :=
  let sh := (s.shaper n).fold s.clk.nowPs
  s.setShaper n (Shaper.onWheel s.clk.nowPs { sh with credit := sh.credit - bytes * creditUnit })

/-- Wake an idle shaper under its MODE (08 R215). -/
def wakeShaper (n : Nat) (s : State) : State :=
  let sh := (s.shaper n).fold s.clk.nowPs
  s.setShaper n { sh with credit := if sh.cfg.mode = 0 then min sh.credit 0 else sh.credit }

/-- Wake those shapers of a queue that are idle; one whose queues a dequeue of this clock has emptied has not gone idle (08 R215). -/
def wakeShapers (l : List Nat) (s : State) : State :=
  l.foldl (fun s n => if shaperIdle n s && decide ((s.shaper n).emptied ≠ clockNo s) then wakeShaper n s else s) s

/-- In the worker role, the cost that waits for a context changes: the 16 µs of an unreported change begin with the first (10 R272). -/
def noteWaiting (q : Nat) (s : State) : State :=
  if s.dev.role = 2 ∧ q < 8192 ∧ SMap.get none s.role.changed (q / 8) = none then
    { s with role := { s.role with changed := SMap.set none s.role.changed (q / 8) (some s.clk.nowPs) } }
  else s

/-- A frame enters a queue's tail. -/
def pushFrame (q : Nat) (f : Frame) (s : State) : State :=
  let s := noteWaiting q (wakeShapers (s.queue q).shapers.list s)
  s.setQueue q { s.queue q with frames := (s.queue q).frames ++ [f] }

/-- The byte limit for a colour: 0 green, 1 yellow, 2 and 3 red (08 R209). -/
def Queue.limit (x : Queue) : Nat → Nat
  | 0 => x.maxBytes
  | 1 => x.yellow
  | _ => x.red

/-- QUEUE_ADMIT: under the colour's limit and with room in Inkwell, or counted and dropped (08 R209). The flag says that
the frame was admitted. -/
def admitFrame (q colour : Nat) (f : Frame) (s : State) : Bool × State :=
  let refused := fun (s : State) => (false, if 12296 ≤ q then count .clsExceptionRefused 0 s else s)
  if (s.queue q).limit colour < (s.queue q).bytes + f.len then refused (addCounter (dropLimitIndex q) 1 s)
  else if Config.inkwellRoom < inkwellUsed s + f.len then refused (count .inkwellFullDrop 0 s)
  else (true, pushFrame q f s)

/-- Frames return to the head of a queue in their former order; that counts as an admission (05 R140, 08 R215). -/
def returnFrames (q : Nat) (fs : List Frame) (s : State) : State :=
  if fs.isEmpty then s
  else
    let s := noteWaiting q (wakeShapers (s.queue q).shapers.list s)
    s.setQueue q { s.queue q with frames := fs ++ (s.queue q).frames }

/-- The head frame leaves: the deficit and each shaper are debited, an emptied queue loses its deficit (08 R211). -/
def dequeue (q : Nat) (s : State) : Option Frame × State :=
  match (s.queue q).frames with
  | [] => (none, s)
  | f :: fs =>
    let x := s.queue q
    let s := noteWaiting q (s.setQueue q { x with frames := fs, deficit := if fs.isEmpty then 0 else x.deficit - f.len })
    let s := x.shapers.list.foldl (fun s n => debitShaper f.len n s) s
    (some f, x.shapers.list.foldl (fun s n =>
      if shaperIdle n s then s.setShaper n { s.shaper n with emptied := clockNo s } else s) s)

/-- A queue is eligible: it holds a frame and every shaper it names is eligible (08 R211). -/
def eligible (q : Nat) (s : State) : Bool :=
  !(s.queue q).frames.isEmpty && (s.queue q).shapers.list.all (fun n => (s.shaper n).wheel.isNone)

/-- The length of a queue's head frame. -/
def headLen (q : Nat) (s : State) : Nat := ((s.queue q).frames.head?.map Frame.len).getD 0

/-- One round of deficit round robin: each queue reached gains its quantum of WEIGHT × 256 bytes; the first whose deficit
covers its head frame is taken (08 R211). -/
def drrRound : List Nat → State → Option Nat × State
  | [], s => (none, s)
  | q :: qs, s =>
    let x := s.queue q
    let s := s.setQueue q { x with deficit := x.deficit + x.weight * 256 }
    if headLen q s ≤ (s.queue q).deficit then (some q, s) else drrRound qs s

/-- Rounds until a queue is taken. -/
def drrRounds (qs : List Nat) : Nat → State → Option Nat × State
  | 0, s => (none, s)
  | n + 1, s =>
    match drrRound qs s with
    | (some q, s) => (some q, s)
    | (none, s) => drrRounds qs n s

/-- The pick of R211 among eligible queues in ascending order, for a scheduler: lowest PRIORITY first; among equals the
queue last served goes on while its deficit covers its head, then the next queues in turn. -/
def pick (sched : Nat) (qs : List Nat) (s : State) : Option Nat × State :=
  match (qs.map (fun q => (s.queue q).priority)).min? with
  | none => (none, s)
  | some p =>
    let level := qs.filter (fun q => decide ((s.queue q).priority = p))
    let key := 8 * sched + p
    let last := SMap.get none s.rrLast key
    let goesOn := match last with
      | some q => level.contains q && decide (headLen q s ≤ (s.queue q).deficit)
      | none => false
    if goesOn then (last, s)
    else
      let order := match last with
        | some q => level.filter (fun x => decide (q < x)) ++ level.filter (fun x => decide (x ≤ q))
        | none => level
      match drrRounds order 256 s with
      | (some q, s) => (some q, { s with rrLast := SMap.set none s.rrLast key (some q) })
      | (none, s) => (none, s)

/-- The queues of an allocation context (05 R129). -/
def ctxQueues (c : Nat) : List Nat := (List.range 8).map (fun k => 8 * c + k)

/-- Bytes that wait in a context's queues. -/
def ctxBytes (c : Nat) (s : State) : Nat := ((ctxQueues c).map (fun q => (s.queue q).bytes)).sum

end Sys2Proof.Machine
end

