-- ==== Sys2Proof/Machine/FibreOps.lean ====
section
/-!
DEFINITION. Operations that the fibre families share: state changes of an instance with all they bring about (03 R73, R74,
R77, R83; 05 R126, R140), the ligature group's members and fragments (03 R88, R89; 04 R108–R113), and upstream PLOAM.
-/

namespace Sys2Proof.Machine

def State.alloc (s : State) (c : Nat) : AllocCtx := SMap.get {} s.allocs c
def State.setAlloc (c : Nat) (v : AllocCtx) (s : State) : State := { s with allocs := SMap.set {} s.allocs c v }

/-- Put a list of numbers' members as the bits of a mask. -/
def maskOf (l : List Nat) : Nat := ((List.range 32).map (fun k => if l.contains k then 2 ^ k else 0)).sum

/-! ## Upstream PLOAM (04 R117) -/

/-- Queue a PLOAM message that the part sends on its own account; these go before the host's. -/
def sendOwn (i : Nat) (u : UpItem) (s : State) : State :=
  s.modInst i (fun x => { x with upOwn := x.upOwn ++ [u] })

/-- An Acknowledge: 0 OK, 1 parameter error (03 Table 3.4). -/
def acknowledge (i code seqno : Nat) (s : State) : State := sendOwn i { msg := .acknowledge code seqno } s

/-! ## Pulls (10 R271) -/

/-- Withdraw one pull: PULL_CANCEL is sent where its PULL was, and the window closes at once; an allocation whose PULL was not sent yet
counts PULL_NOT_ISSUED (10 R266). -/
def withdrawPull (w gid : Nat) (s : State) : State :=
  match (s.worker w).pulls.find? (fun p => decide (p.gid = gid)) with
  | none => s
  | some p =>
    let s := s.modWorker w (fun x =>
      { x with pulls := x.pulls.filter (fun p => p.gid ≠ gid), withdrawn := gid :: x.withdrawn })
    if p.sent then sendBlock w 0x6A gid s else count .pullNotIssued w s

/-! ## Bursts that do not launch (05 R126, R140) -/

/-- How far the number of a returned fragment lies behind the next number of the sequence, modulo 2²⁰: the larger, the older. -/
def Piece.age (next : Nat) (p : Piece) : Nat := (next + 2 ^ 20 - p.seq.getD 0 % 2 ^ 20) % 2 ^ 20

/-- Put a returned bonded fragment at its place in the return list, which is in sequence order modulo 2²⁰ (03 R88, 04 R108). -/
def insertPiece (next : Nat) (p : Piece) : List Piece → List Piece
  | [] => [p]
  | r :: rs => if r.age next < p.age next then p :: r :: rs else r :: insertPiece next p rs

/-- What a prepared allocation took goes back: frames to the heads of their queues, a continuation to its place, bonded
fragments to the return list, OMCI messages to the head of their queue (05 R130, R140, 03 R88). -/
def restoreAlloc (a : Alloc) (s : State) : State :=
  let s := (a.taken.filter (fun t => !t.bonded)).reverse.foldl (fun s t => returnFrames t.queue [t.frame] s) s
  let bonded := a.pieces.filter (fun p => p.seq.isSome)
  let s : State := { s with lig := { s.lig with returns := bonded.foldl (fun l p => insertPiece s.lig.usNext p l) s.lig.returns } }
  let s := if a.omci.isEmpty then s else s.modInst (a.ctx / 256) (fun x => { x with omcc := a.omci ++ x.omcc })
  s.setAlloc a.ctx { s.alloc a.ctx with cont := a.contBefore }

/-- A burst whose P falls in the clock of a state change that forbids launches takes nothing (05 R128): what it has taken as bonded
content goes back with its numbers, where no other burst has taken some since. -/
def untakeBonded (e : Entry) (s : State) : State :=
  if s.lig.usNext = e.bond.after then
    let s := ((e.allocs.flatMap (fun a => a.taken)).filter (fun t => t.bonded)).reverse.foldl
      (fun s t => returnFrames t.queue [t.frame] s) s
    { s with lig := { s.lig with usNext := e.bond.next, returns := e.bond.returns, cont := e.bond.cont } }
  else s

/-- Withdraw the pulls issued for an allocation. -/
def withdrawAlloc (a : Alloc) (s : State) : State :=
  match a.gid with
  | some g => withdrawPull (s.alloc a.ctx).cfg.worker g s
  | none => s

/-- A PLOAM message goes back to the head of the queue it came from, its number to the instance's sequence. -/
def restorePloam (i : Nat) (u : UpItem) (s : State) : State :=
  s.modInst i (fun x =>
    let x := if u.ownSeq then { x with usSeq := u.seqno } else x
    let u := { u with ownSeq := false, wire := [] }
    if u.cmd.isSome then { x with upHost := u :: x.upHost }
    else match u.msg with
      | .none | .serialNumber _ _ => x
      | _ => { x with upOwn := u :: x.upOwn })

/-- A burst that will not launch is discarded; one that has passed its P before the present clock is counted (05 R128, R140). -/
def cancelEntry (i : Nat) (e : Entry) (s : State) : State :=
  let s := e.allocs.reverse.foldl (fun s a => withdrawAlloc a (if e.prepared then restoreAlloc a s else s)) s
  let s := match e.ploam with | some u => restorePloam i u s | none => s
  if !e.prepared then s
  else if e.prepClock = clockNo s then untakeBonded e s
  else count .usBurstCancelled i s

/-- BURST_CANCEL: every burst of an instance that has not launched is discarded, its burst enable deasserted; those launched complete
(05 R140). -/
def cancelBursts (i : Nat) (s : State) : State :=
  let gone := (s.inst i).sched.filter (fun e => !e.launched)
  let s := s.modInst i (fun x => { x with sched := x.sched.filter (fun e => e.launched), laserOn := x.laserOn && x.sched.any (fun e => e.launched) })
  gone.reverse.foldl (fun s e => cancelEntry i e s) s

/-- May an instance in this state launch at all (05 Table 5.2)? -/
def stateLaunches (st : Nat) : Bool := [0x23, 0x40, 0x51, 0x52, 0x90].contains st

/-- The interlock permits light: it does not act while the pair is not enabled; else the device must assert ACT_OUT#
(15 R359). -/
def lightOk (s : State) : Bool := !s.pair.enable || s.pair.actOut

/-! ## Downstream fragments of a group (04 R108–R113) -/

/-- d(a, b) modulo 2²⁰ (04 R108). -/
def seqDiff (a b : Nat) : Int := signed 20 (a + 2 ^ 20 - b % 2 ^ 20)

/-- Hand a whole downstream frame of an instance to the pipeline (04 R94 stage 9), with the FLOW_TAG of the binding under which it was
delineated and its PHY frame's start. -/
def intoPipeline (i portId tag phyPs : Nat) (data : Bytes) (s : State) : State :=
  { s with waitDown := s.waitDown ++ [{ data, ingress := i, tag, port := portId, phyPs }] }

/-- The FLOW_TAG of a Port-ID's binding. -/
def flowTagOf (i portId : Nat) (s : State) : Nat := (SMap.get {} (s.inst i).ports portId).flowTag

/-- Hand over a frame that is not bonded as soon as it is whole. -/
def toDownstream (i portId : Nat) (data : Bytes) (s : State) : State :=
  intoPipeline i portId (flowTagOf i portId s) (s.inst i).sync.phyPs data s

/-- Release one fragment to the frame reassembly of the group. A frame that falls partly in a gap is discarded whole and counted
once, where its last fragment or the first one of the next frame is released (04 R111). -/
def releaseFragment (h : Held) (s : State) : State :=
  let g := s.lig
  if h.first then
    let s := if g.partOpen || g.partLost then count .ligDsFrameIncomplete 0 s else s
    if h.last then intoPipeline h.member h.port h.tag h.phyPs h.data { s with lig := { g with partOpen := false, partLost := false, partData := [] } }
    else { s with lig := { g with partOpen := true, partLost := false, partData := h.data } }
  else if g.partOpen then
    if h.last then
      intoPipeline h.member h.port h.tag h.phyPs (g.partData ++ h.data) { s with lig := { g with partOpen := false, partData := [] } }
    else { s with lig := { g with partData := g.partData ++ h.data } }
  else if h.last then count .ligDsFrameIncomplete 0 { s with lig := { g with partLost := false } }
  else { s with lig := { g with partLost := true } }

/-- The held fragment with the lowest sequence number after NEXT_SEQ. -/
def lowestHeld (g : Lig) : Option Held :=
  g.held.foldl (fun b h => match b with
    | none => some h
    | some c => if seqDiff h.seq g.dsNext < seqDiff c.seq g.dsNext then some h else some c) none

/-- Release held fragments while the lowest equals NEXT_SEQ (04 Table 4.7), at most n of them. -/
def releaseRun : Nat → State → State
  | 0, s => s
  | n + 1, s =>
    match lowestHeld s.lig with
    | none => s
    | some h =>
      if h.seq = s.lig.dsNext then
        let s := { s with lig := { s.lig with held := s.lig.held.filter (fun x => x.seq ≠ h.seq), dsNext := (s.lig.dsNext + 1) % 2 ^ 20 } }
        releaseRun n (releaseFragment h s)
      else s

/-- Close the gap before the lowest held fragment: NEXT_SEQ moves to it, both counters count, a frame begun before the gap
is lost, and the run is released (04 R111). -/
def closeGap (s : State) : State :=
  match lowestHeld s.lig with
  | none => s
  | some h =>
    let skipped := (seqDiff h.seq s.lig.dsNext).toNat
    let s := countN .ligDsGapSeq 0 skipped (count .ligDsGapClosed 0 s)
    let s := { s with lig := { s.lig with dsNext := h.seq, partOpen := false, partLost := s.lig.partOpen || s.lig.partLost, partData := [] } }
    releaseRun s.lig.held.length s

/-- Release everything held in sequence order, closing gaps (04 R112, R113), in at most n gaps. -/
def releaseAll : Nat → State → State
  | 0, s => s
  | n + 1, s =>
    match lowestHeld s.lig with
    | none => s
    | some h => releaseAll n (if h.seq = s.lig.dsNext then releaseRun s.lig.held.length s else closeGap s)

/-! ## The ligature group (03 R86–R90) -/

/-- The anchor: the lowest-numbered member in O5 (03, "Ligature negotiation"). -/
def anchorOf (l : List Nat) (s : State) : Option Nat := (List.range 4).find? (fun i => l.contains i && (s.inst i).inO5)

/-- The index k of an instance among the proposed members. -/
def memberIndex (i : Nat) (s : State) : Nat := (s.lig.proposed.findIdx? (· == i)).getD 0

/-- ACTIVE_MASK of LIG_STATUS: bit k for member k. -/
def activeMask (s : State) : Nat :=
  maskOf ((s.lig.members.filter (fun i => !s.lig.suspended.contains i)).map (fun i => memberIndex i s))

/-- Send a vendor ligature message on an instance. -/
def sendVendor (i subtype : Nat) (body : Bytes) (s : State) : State := sendOwn i { msg := .vendor subtype (fit 32 body) } s

/-- LIG_STATUS on the anchor: 1 suspended, 2 resumed, 3 removed (03 Table 3.9). -/
def sendStatus (change member : Nat) (s : State) : State :=
  match anchorOf (s.lig.members.filter (fun i => !s.lig.suspended.contains i)) s with
  | some a => sendVendor a 0x04 (be 2 s.lig.token ++ le 1 (activeMask s) ++ le 1 change ++ le 1 (memberIndex member s)) s
  | none => s

/-- LIG_RELEASE on the anchor, or on the lowest proposed member in O5 (03 Table 3.9). -/
def sendRelease (reason : Nat) (s : State) : State :=
  match anchorOf (s.lig.members ++ s.lig.proposed) s with
  | some a => sendVendor a 0x05 (be 2 s.lig.token ++ le 1 reason) s
  | none => s

/-- Mark or unmark the bonded ports of a member (04 R104). -/
def markBonded (on : Bool) (i : Nat) (s : State) : State :=
  s.modInst i (fun x => { x with ports := x.ports.map (fun e =>
    (e.1, { e.2 with bonded := on && decide (s.lig.portFirst ≤ e.1 ∧ e.1 < s.lig.portFirst + s.lig.portCount) })) })

/-- The group dissolves: everything held is released in order, bonded fragments are no longer expected; what was taken and
not launched, and the bonded continuation, stay to be completed (03 R89, 04 R113, 05 R139). A bonded frame of which only some
fragments have been released is dropped without a count (DESIGN CHOICE, log 408). -/
def dissolve (s : State) : State :=
  let s := releaseAll (2 * s.lig.held.length) s
  let s := s.lig.members.foldl (fun s i => markBonded false i s) s
  { s with lig := { usNext := s.lig.usNext, returns := s.lig.returns, cont := s.lig.cont } }

/-- The pending LIG_START completes (03 R93): RESULT, ACTIVE_MASK, GROUP_TOKEN, START_TICK. -/
def finishLigStart (result mask token : Nat) (tick : Word) (s : State) : State :=
  completeRunning 0x0205 .ok 0 (le 1 result ++ le 1 mask ++ le 2 token ++ le 4 tick.toNat) s

/-- A proposal that has not been sent is not sent any more, and one prepared starts no wait. -/
def dropProposals (s : State) : State :=
  { s with insts := s.insts.map (fun e => (e.1, { e.2 with
      upOwn := e.2.upOwn.filter (fun u => !u.propose)
      sched := e.2.sched.map (fun b => { b with ploam := b.ploam.map (fun u => { u with propose := false }) }) })) }

/-- A negotiation ends without a group. -/
def endNegotiation (result : Nat) (s : State) : State :=
  let token := s.lig.token
  finishLigStart result 0 token 0
    { dropProposals s with lig := { usNext := s.lig.usNext, returns := s.lig.returns, cont := s.lig.cont } }

/-- Complete every LIG_STOP that waits (03 R90). -/
def finishLigStop (s : State) : State :=
  (s.cmd.executing.filter (fun c => decide (c.op = 0x0206) && c.started)).foldl (fun s c => complete c .ok 0 [] s) s

/-- The active members. -/
def activeMembers (s : State) : List Nat := s.lig.members.filter (fun i => !s.lig.suspended.contains i)

/-- Queue the LIG_RELEASE of a LIG_STOP on the anchor; without an active member its 64 ticks start at once (R90; log 318). -/
def releaseOnAnchor (s : State) : State :=
  match anchorOf (activeMembers s) s with
  | some a => sendOwn a { msg := .vendor 0x05 (fit 32 (be 2 s.lig.token ++ [1])), release := true } s
  | none => { s with lig := { s.lig with stopAt := some (ownTick s) } }

/-- The LIG_RELEASE of a LIG_STOP that still waits on an instance that is no longer the anchor goes to the new one. -/
def passRelease (i : Nat) (s : State) : State :=
  if s.lig.phase = .stopping ∧ s.lig.stopAt = none ∧ (s.inst i).upOwn.any (fun u => u.release) = true then
    releaseOnAnchor (s.modInst i (fun x => { x with upOwn := x.upOwn.filter (fun u => !u.release) }))
  else s

/-- LIG_MEMBER_REMOVE: the member leaves the group; below two members the group dissolves, and a LIG_STOP under way completes (03 R89,
R90). A proposed member that leaves O5 before the group is active ends the negotiation with LIG_RELEASE, REASON 4 (R87). -/
def removeMember (i : Nat) (s : State) : State :=
  match s.lig.phase with
  | .none => s
  | .negotiating | .accepted =>
    if s.lig.proposed.contains i then endNegotiation 4 (sendRelease 4 s) else s
  | .active | .stopping =>
    if s.lig.members.contains i then
      let s := markBonded false i (cancelBursts i s)
      let s := { s with lig := { s.lig with members := s.lig.members.filter (· ≠ i), suspended := s.lig.suspended.filter (· ≠ i),
                                            rejoin := s.lig.rejoin.filter (fun e => e.1 ≠ i) } }
      let s := sendStatus 3 i s
      if s.lig.members.length < 2 then finishLigStop (dissolve (sendRelease 2 s)) else passRelease i s
    else s

/-- The tick in progress is the one in which the accepted group becomes active: the frame START_SFC of the anchor, which may itself
just have left O5, starts in it (03 R88). -/
def activatesNow (s : State) : Bool :=
  match (activeMembers s).min? with
  | some a =>
    let y := (s.inst a).sync
    decide (y.sfc % 2 ^ 32 = s.lig.startSfc) ||
      (decide ((y.sfc + 1) % 2 ^ 32 = s.lig.startSfc) && decide (y.phyPs < s.clk.t0Ps))
  | none => false

/-- LIG_MEMBER_SUSPEND (03 R88). Before activation, a member that leaves O5 ends the negotiation (R87); in the tick of
activation it starts as suspended, which is the activation's own case. -/
def suspendMember (i : Nat) (s : State) : State :=
  match s.lig.phase with
  | .none => s
  | .negotiating => if s.lig.proposed.contains i then endNegotiation 4 (sendRelease 4 s) else s
  | .accepted =>
    if s.lig.members.contains i && activatesNow s then { s with lig := { s.lig with suspended := i :: s.lig.suspended } }
    else if s.lig.proposed.contains i then endNegotiation 4 (sendRelease 4 s) else s
  | .active | .stopping =>
    if s.lig.members.contains i && !s.lig.suspended.contains i then
      passRelease i (sendStatus 1 i
        { s with lig := { s.lig with suspended := i :: s.lig.suspended, rejoin := s.lig.rejoin.filter (fun e => e.1 ≠ i) } })
    else s

/-! ## Instance states (03 R73, R74) -/

/-- The upstream rate code in units of 10 kb/s. -/
def rateUnits : Nat → Nat
  | 1 => 4976640
  | 2 => 2488320
  | 3 => 995328
  | _ => 248832

/-- Duration of n bytes at a rate code, ps. -/
def bytesPs (rate n : Nat) : Nat := n * 8 * 100000000 / rateUnits rate

/-- The runs of grants that still join (05 R123, R127): each starts where the one before it ends. -/
def allocRuns : List Alloc → List (List Alloc)
  | [] => []
  | a :: as =>
    match allocRuns as with
    | (b :: bs) :: rs => if a.endPs = b.startPs then (a :: b :: bs) :: rs else [a] :: (b :: bs) :: rs
    | rs => [a] :: rs

/-- What a burst comes to when the grants of a slot are taken out of it: the grants that no longer join start bursts of their own,
each with its PSBu (05 R127, R129). -/
def Entry.without (c rate : Nat) (e : Entry) : List Entry :=
  (allocRuns (e.allocs.filter (fun g => g.ctx ≠ c))).map (fun run =>
    let first := run.head?
    let same := decide (first.map (fun g => g.startPs) = e.allocs.head?.map (fun g => g.startPs))
    let start := (first.map (fun g => g.startPs)).getD e.atPs
    { e with allocs := run, atPs := if same then e.atPs else start - bytesPs rate e.psbu
             endPs := (run.getLast?.map (fun g => g.endPs)).getD e.endPs, ploamu := (first.map (fun g => g.ploamu)).getD false })

/-- ALLOC_SLOT_RELEASE: a freed slot is released; its entries whose P has not passed are discarded and counted, its
configuration returns to the reset values, ALLOC_RELEASED is raised (05 R129). -/
def releaseSlot (c : Nat) (s : State) : State :=
  let a := s.alloc c
  if a.freed then
    let i := c / 256
    let mine := fun (e : Entry) => !e.prepared && !e.launched && e.allocs.any (fun g => decide (g.ctx = c))
    let gone := ((s.inst i).sched.filter mine).flatMap (fun e => e.allocs.filter (fun g => decide (g.ctx = c)))
    let s := gone.foldl (fun s g => withdrawAlloc g s) s
    let s := s.modInst i (fun x => { x with sched := x.sched.flatMap (fun e => if mine e then e.without c x.usRate else [e]) })
    let s := countN .grantAllocUnknown i gone.length s
    let s := raise .allocReleased 1 i (c % 256 + 256 * a.allocId.getD 0) s
    let recent := fun (x : Inst) => { x with recent := (a.allocId.toList ++ x.recent).take 64 }
    (s.modInst i recent).setAlloc c
      { skipped := a.skipped + gone.length, granted := a.granted, grantedNow := a.grantedNow, mapBytes := a.mapBytes }
  else s

/-- Deliver a PLOAM_RX packet: a TAG is taken for every message, a full queue of 64 refuses it (04 R106, R107). -/
def deliverPloam (i : Nat) (raw : Bytes) (s : State) : State :=
  let x := s.inst i
  let s := s.setInst i { x with ploamTag := (x.ploamTag + 1) % 65536 }
  let q := 12292 + i
  if 64 ≤ (s.queue q).frames.length then count .ploamRxDropped i s
  else
    let payload := le 1 i ++ zeros 3 ++ le 4 (x.sync.sfc % 2 ^ 32) ++ fit 48 raw
    pushFrame q { data := payload, ingress := i, pkt := some { op := 0x0F81, tag := x.ploamTag, tick := s.clk.tick } } s

/-- Deliver an OMCI_RX packet (04 R106, R107, Table 4.5). -/
def deliverOmci (i : Nat) (portId : Nat) (secure : Bool) (msg : Bytes) (s : State) : State :=
  let x := s.inst i
  if 2048 < msg.length then count .omciRxOversize i s
  else
    let s := s.setInst i { x with omciTag := (x.omciTag + 1) % 65536 }
    let q := 12288 + i
    if 64 ≤ (s.queue q).frames.length then count .omciRxDropped i s
    else
      let payload := le 1 i ++ le 1 (b2n secure) ++ le 2 portId ++ le 2 msg.length ++ zeros 2 ++
        le 4 (x.sync.sfc % 2 ^ 32) ++ zeros 4 ++ msg
      pushFrame q { data := payload, ingress := i, pkt := some { op := 0x0F80, tag := x.omciTag, tick := s.clk.tick } } s

/-- Does an instance examine what its receiver brings now: always but in sleep, where only the samples of the tick channel
are examined (16 R379, R380)? -/
def examines (i : Nat) (s : State) : Bool :=
  match s.pwr.state with
  | .asleep | .waking => false
  | .sampling => decide (i = s.clk.channel)
  | _ => true

/-- A received PLOAM message is acted on: it is addressed to the instance or to all, neither the PHY frame's partition nor the message
was lost, which is counted, and its integrity check holds; a failed check is counted (03 R74, R76, 04 R98, Table 4.3). A message to the own
ONU-ID is a wake source (16 Table 16.4). -/
def withPloam (i : Nat) (m : PloamRx) (f : State → State) (s : State) : State :=
  let x := s.inst i
  if x.sync.state ≠ 2 ∨ x.sync.frameLost ∨ !examines i s then s
  else if m.fecLost then count .dsPloamFecLost i s
  else if m.onuId ≠ 0x3FF ∧ x.onuId ≠ some m.onuId then s
  else if m.micOk then f (if x.onuId = some m.onuId then fireWake 2 s else s)
  else count .ploamMicErr i s

/-- The laser goes dark at the fibre, a burst already launching first (03 Table 3.4, 05 R140). -/
def goDark (i : Nat) (s : State) : State := if (s.inst i).laserOn then s else emit (.laserDark i) s

/-- Leave a wavelength and go dark at the fibre. -/
def laserOff (i : Nat) (s : State) : State :=
  goDark i (s.modInst i (fun x => { x with txLocked := false, txGrid := none, fine := 0, fineNext := none }))

/-- Every change of state raises INST_STATE_CHANGE (R73), updates the tick channel (R24), and on a state that forbids
launches cancels what has not launched (05 R126, R140). -/
def enterState (i st : Nat) (s : State) : State :=
  let old := (s.inst i).st
  if old = st then s
  else
    let s := s.modInst i (fun x => { x with st, sleepAllowed := x.sleepAllowed && (decide (st = 0x51) || decide (st = 0x52)) })
    let s := raise .instStateChange 1 i (old + 256 * st) s
    let s := if stateLaunches st then s else cancelBursts i s
    retick s

/-- A slot's Alloc-ID is to be freed at the next tick edge (05 R129). -/
def freeSlots (i : Nat) (s : State) : State :=
  { s with allocs := s.allocs.map (fun e =>
      if e.1 / 256 = i ∧ e.2.allocId.isSome then (e.1, { e.2 with freed := true }) else e) }

/-- What an identity that is lost leaves of a burst's PLOAM message: a host's is not sent, an EqD does not take effect. -/
def Entry.orphaned (e : Entry) : Entry :=
  if e.launched then e
  else { e with ploam := e.ploam.map (fun u => if u.cmd.isSome then { msg := .none } else { u with eqd := none }) }

/-- A PLOAM_TX that has not launched completes with NOT_FOUND when the ONU-ID is lost, one in a prepared burst too (04 R117); nor does an
EqD take effect whose Acknowledge is still to be sent. -/
def failHostPloam (i : Nat) (s : State) : State :=
  let x := s.inst i
  let seqs := (x.upHost ++ (x.sched.filter (fun e => !e.launched)).filterMap (fun e => e.ploam)).filterMap (fun u => u.cmd)
  let s := s.setInst i { x with upHost := [], sched := x.sched.map Entry.orphaned }
  (s.cmd.executing.filter (fun c => seqs.contains c.seq)).foldl (fun s c => complete c .notFound 0 [] s) s

/-- Discard ONU-ID and EqD (03 Table 3.4): the slots are freed, host PLOAM messages cannot be sent. -/
def dropIdentity (i : Nat) (s : State) : State :=
  let s := s.modInst i (fun x => { x with onuId := none, eqd := 0, to1 := none, upOwn := [] })
  failHostPloam i (freeSlots i s)

/-- Discard the stored burst profiles (03 R77). -/
def dropBurstProfiles (i : Nat) (s : State) : State := s.modInst i (fun x => { x with burst := [] })

/-- Discard channel, system and burst profiles. -/
def dropProfiles (i : Nat) (s : State) : State := s.modInst i (fun x => { x with profiles := [], sysProfile := [], burst := [] })

/-- An exit from operation that a later re-entry may count as a flap (03 R83). -/
def noteExit (i : Nat) (s : State) : State := s.modInst i (fun x => { x with flapExit := some (ownTick s) })

/-- ACTIVATION_FLAP: a re-entry to O5 within FLAP_WINDOW of the noted exit counts (03 R83). -/
def noteEntry (i : Nat) (s : State) : State :=
  let x := s.inst i
  match x.flapExit with
  | none => s
  | some t =>
    let s := s.setInst i { x with flapExit := none }
    if ticksSince t s ≤ x.cfg.flapWindow then
      let n := min 255 (x.flapCount + 1)
      let s := count .activationFlaps i (noteRc (2 * (0x10010 + 0x4000 * i)) x.flapCount 1 (s.modInst i (fun y => { y with flapCount := n })))
      if x.cfg.flapThreshold ≤ n && x.flapArmed then
        raise .activationFlap 1 i n (s.modInst i (fun y => { y with flapArmed := false }))
      else s
    else s

/-- The receiver tunes to a grid index: it is not locked until the lock comes (03 R68, R70). -/
def tuneRx (i : Nat) (g : Option Int) (s : State) : State :=
  s.modInst i (fun x => { x with rxGrid := g, rxLocked := false, rxClock := clockNo s })

/-- The laser tunes to a grid index; during tuning its light stays inside (03 R69). -/
def tuneTx (i : Nat) (g : Option Int) (s : State) : State :=
  s.modInst i (fun x => { x with txGrid := g, txLocked := false, fine := 0, fineNext := none, txClock := clockNo s })

/-- Is a receive or transmit wavelength held by another instance (03 R70)? One that a higher-numbered instance began to hold in the
present clock is not: the lower-numbered instance gets it. -/
def rxHeld (i : Nat) (g : Int) (s : State) : Bool :=
  (List.range 4).any (fun j => decide (j ≠ i) && decide ((s.inst j).rxGrid = some g) &&
    !(decide (i < j) && decide ((s.inst j).rxClock = clockNo s)))
def txHeld (i : Nat) (g : Int) (s : State) : Bool :=
  (List.range 4).any (fun j => decide (j ≠ i) && decide ((s.inst j).txGrid = some g) &&
    !(decide (i < j) && decide ((s.inst j).txClock = clockNo s)))

/-- The scan order of R78: even indices −122 to −106, then odd indices −123 to −107. -/
def scanOrder : List Int := (List.range 9).map (fun k => -122 + 2 * (k : Int)) ++ (List.range 9).map (fun k => -123 + 2 * (k : Int))

/-- The next position of the scan, from n on, whose index no other instance holds (03 R78). -/
def nextScan (i n : Nat) (s : State) : Nat :=
  let order := (List.range 18).map (fun k => (n + k) % 18)
  (order.find? (fun k => !rxHeld i (scanOrder.getD k 0) s)).getD n

/-- The line mode in which hunting begins: HS first under AUTO (03 R71). -/
def huntMode (x : Inst) : Nat := if x.cfg.lineMode = 1 then 2 else 1

/-- Another instance loses a receive wavelength of the same clock to a lower-numbered one (R70): a scan moves on to the next index, else
the wavelength stays to be tried again, and US_WL_CONFLICT is raised (Table 3.7). -/
def yieldRx (j : Nat) (s : State) : State :=
  let x := s.inst j
  if x.st = 0x11 ∧ x.cfg.startGrid = none then
    let n := nextScan j ((x.scan + 1) % 18) s
    tuneRx j (some (scanOrder.getD n 0)) (s.modInst j (fun x => { x with scan := n, dwell := ownTick s }))
  else raise .usWlConflict 1 j 0 (tuneRx j none s)

/-- An instance is asked to tune its receiver to an index: it takes it where it is free, and from a higher-numbered instance that took
it in the present clock; else it waits for it, and US_WL_CONFLICT is raised unless this is a re-check (R70, Table 3.7). -/
def takeRx (i : Nat) (g : Int) (quiet : Bool) (s : State) : State :=
  if rxHeld i g s then
    let s := if quiet then s else raise .usWlConflict 1 i 0 s
    if (s.inst i).rxGrid = none then s else tuneRx i none s
  else
    let losers := (List.range 4).filter (fun j => decide (j ≠ i) && decide ((s.inst j).rxGrid = some g))
    losers.foldl (fun s j => yieldRx j s) (tuneRx i (some g) s)

/-- Begin to hunt in O1.1: tune to RX_START_GRID or start the scan, sync machine in HUNT (03 Table 3.4, 04 Table 4.2). A
start index held by another instance is not taken (R70). -/
def startHunt (i : Nat) (s : State) : State :=
  let n := nextScan i 0 s
  let s := s.modInst i (fun x =>
    { x with mode := huntMode x, usRate := 0, scan := n, dwell := ownTick s,
             sync := { x.sync with state := 0, misses := 0, kept := none } })
  takeRx i ((s.inst i).cfg.startGrid.getD (scanOrder.getD n 0)) false s

/-- Forget what an instance has learned and been given, receiver and laser off (03 Table 3.4, INST_STOP). -/
def Inst.stopped (x : Inst) : Inst :=
  { x with mode := 0, usRate := 0, usChId := 0, dsChId := 0, rxGrid := none, rxLocked := false,
           sync := {}, reasm := [], tune := none, to1 := none, to2 := none, to3 := none, to4 := none, to5 := none,
           protPair := none, power := 2, sleepAllowed := false }

/-- Assert or deassert SF; each change raises DS_SF (04 R101). -/
def setSf (i : Nat) (b : Bool) (s : State) : State :=
  if (s.inst i).sync.sf = b then s
  else raise .dsSf 1 i (b2n b) (s.modInst i (fun x => { x with sync := { x.sync with sf := b } }))

/-- Assert or deassert SD; each change raises DS_SD (04 R101). -/
def setSd (i : Nat) (b : Bool) (s : State) : State :=
  if (s.inst i).sync.sd = b then s
  else raise .dsSd 1 i (b2n b) (s.modInst i (fun x => { x with sync := { x.sync with sd := b } }))

/-- Stop an instance as INST_STOP does: held O1.1, bursts not launched cancelled, ligature removal, ONU-ID, EqD and
profiles discarded, the indications cleared (03 Table 3.4, 04 R101). -/
def stopInstance (i : Nat) (s : State) : State :=
  if (s.inst i).st = 0x10 then s
  else
    let s := setSf i false (setSd i false (removeMember i (enterState i 0x10 s)))
    laserOff i ((dropIdentity i (dropProfiles i s)).modInst i Inst.stopped)

/-- Abandon what is partly received from the fibre (04 R98). -/
def abortReassembly (i : Nat) (counted : Bool) (s : State) : State :=
  let n := ((s.inst i).reasm.filter (fun e => e.2.active)).length
  let s := s.modInst i (fun x => { x with reasm := [], sync := { x.sync with mapLost := true } })
  if counted then countN .dsReassemblyAbort i n s else s

/-- Hunting goes on in O1.1: a dwell begins, and the receiver goes back to a fixed start index (03 R71, R78); one that has no wavelength
takes the next of the scan. -/
def resumeHunt (i : Nat) (s : State) : State :=
  let s := s.modInst i (fun x => { x with dwell := ownTick s })
  match (s.inst i).cfg.startGrid with
  | some g => if (s.inst i).rxGrid = some g then s else takeRx i g false s
  | none =>
    if (s.inst i).rxGrid.isSome then s
    else
      let n := nextScan i (s.inst i).scan s
      takeRx i (scanOrder.getD n 0) false (s.modInst i (fun x => { x with scan := n }))

/-- Enter O1.1 from another state: burst profiles discarded (R77), laser dark, launch power at level 2 (21 R458), hunting
or, where the receiver is still in SYNC, profile learning at once. -/
def enterO11 (i : Nat) (s : State) : State :=
  let s := laserOff i (dropBurstProfiles i s)
  let s := s.modInst i (fun x => { x with power := 2, usRate := 0, tune := none, to1 := none, to2 := none, to3 := none, to4 := none, to5 := none })
  let s := enterState i 0x11 s
  if (s.inst i).sync.state = 2 then enterState i 0x12 s else resumeHunt i s

/-- Is a channel profile usable (03 R78)? -/
def profileUsable (x : Inst) (p : Profile) : Bool :=
  !p.offGrid && !p.fixed && decide (-123 ≤ p.dsGrid ∧ p.dsGrid ≤ -106) && decide (22 ≤ p.usGrid ∧ p.usGrid ≤ 72) &&
  (if p.hs then decide (x.mode = 1) else decide (x.mode = 2)) &&
  decide (1 ≤ p.usRate ∧ p.usRate ≤ 4) && bit x.cfg.usRates (p.usRate - 1)

/-- Has a burst profile been learned? -/
def Inst.hasBurst (x : Inst) : Bool := x.burst.any (fun e => e.2.valid)

/-- The usable stored profiles on the downstream wavelength in use, in order of reception. -/
def learnedProfiles (x : Inst) : List Profile :=
  (x.profiles.filter (fun p => p.usable && decide (some p.profile.dsGrid = x.rxGrid))).map (fun p => p.profile)

/-- A higher-numbered instance loses a transmit wavelength of the same clock (R70, Table 3.7): it stays in profile learning, and
US_WL_CONFLICT is raised (log 6). -/
def yieldTx (j : Nat) (s : State) : State :=
  let back := if (s.inst j).st = 0x23 then enterState j 0x12 s else if (s.inst j).st = 0x90 then enterState j 0x82 s else s
  raise .usWlConflict 1 j 0 (laserOff j back)

/-- Tune the laser to an index that no other instance holds. -/
def takeTx (i : Nat) (g : Int) (s : State) : State :=
  let losers := (List.range 4).filter (fun j => decide (j ≠ i) && decide ((s.inst j).txGrid = some g))
  losers.foldl (fun s j => yieldTx j s) (tuneTx i (some g) s)

/-- Take a profile into use: its channel IDs, its upstream rate, and the laser's target (03 Table 3.4, R71). -/
def useProfile (i : Nat) (p : Profile) (s : State) : State :=
  let s := s.modInst i (fun x => { x with usChId := p.usChId, dsChId := p.dsChId, usRate := p.usRate })
  if (s.inst i).txGrid = some p.usGrid then s else takeTx i p.usGrid s

/-- The profiles that may be taken into use now: in O1.2 all usable ones learned, in O8.2 the target's (03 Table 3.4). -/
def candidates (x : Inst) : List Profile :=
  match x.tune with
  | some t => if x.st = 0x82 then (learnedProfiles x).filter (fun p => decide (p.usGrid = t.profile.usGrid)) else learnedProfiles x
  | none => learnedProfiles x

/-- Profile learning begins: what is stored is usable or not under the line mode now in use (03 R78). -/
def refreshProfiles (i : Nat) (s : State) : State :=
  s.modInst i (fun x => { x with profiles := x.profiles.map (fun e => { e with usable := profileUsable x e.profile }) })

/-- PROFILE_LEARNING_COMPLETE: in O1.2 or O8.2, with a usable channel profile and a burst profile learned, the first
profile whose transmit wavelength is free is taken; a held one raises US_WL_CONFLICT, but not on the re-check of each tick
(03 Table 3.4, R70). -/
def tryProfiles (i : Nat) (quiet : Bool) (s : State) : State :=
  let x := s.inst i
  if (x.st = 0x12 ∨ x.st = 0x82) ∧ x.hasBurst then
    let ps := candidates x
    let held := ps.takeWhile (fun p => txHeld i p.usGrid s)
    let s := if held.isEmpty || quiet then s else raise .usWlConflict 1 i 0 s
    match ps.find? (fun p => !txHeld i p.usGrid s) with
    | some p => enterState i (if x.st = 0x12 then 0x23 else 0x90) (useProfile i p s)
    | none => s
  else s

/-- What an instance waits for at each tick: a transmit wavelength that was held in O1.2 or O8.2 (Table 3.4), and, as R84 has a
wavelength wait until it is free, a receive wavelength in O1.1 and O8.1 (DESIGN CHOICE: re-checked at each tick too, log 319). -/
def recheckWavelengths (i : Nat) (s : State) : State :=
  let x := s.inst i
  if x.rxGrid = none ∧ x.st = 0x11 then
    match x.cfg.startGrid with
    | some g => takeRx i g true s
    | none => s
  else if x.rxGrid = none ∧ x.st = 0x81 then
    match x.tune with
    | some t => takeRx i t.profile.dsGrid true s
    | none => s
  else tryProfiles i true s

end Sys2Proof.Machine
end

