-- ==== Sys2Proof/Machine/PairOps.lean ====
section
/-!
DEFINITION. Operations of the protected pair that other families use (15): roles, mirror control blocks, health, and the
triggers of a switchover that the active detects.
-/

namespace Sys2Proof.Machine


/-- A control block on the mirror link. -/
def sendMirror (type body : Nat) (s : State) : State :=
  match mirrorLane s with
  | some n => sendBlock n type body s
  | none => s


/-- A replicated frame counts in the tick's CONFIG (Table 15.3). -/
def noteApplied (d : MirrorData) (s : State) : State :=
  let d := match d with
    | .command op q tick => .command op { q with src := .mirror } tick
    | d => d
  { s with pair := { s.pair with applied := s.pair.applied ++ Config.mirrorFrame d } }

/-- Send data that the active of a pair in step replicates as a KIND 0 frame (R361, R358). -/
def mirrorOut (d : MirrorData) (s : State) : State :=
  if pairActive s && pairInStep s then
    let (sent, s) := sendMirrorFrame 0 (Config.mirrorFrame d) s
    if sent then noteApplied d s else s
  else s

/-- Has a fault been noted within 8,000 ticks? -/
def recentFault (t : Option Word) (s : State) : Bool := match t with | some t => decide (ticksSince t s < 8000) | none => false

/-- The test bits of the own half: on a standby BLOTTER_OK and LANES_OK follow the faults of the last 8,000 ticks; on any other device
all hold their last value (Table 15.4). -/
def testBits (s : State) : Nat :=
  let own := s.pair.own.toNat
  if pairStandby s then withBit (withBit own 0 (!recentFault s.pair.blotterFaultTick s)) 1 (!recentFault s.pair.lanesFaultTick s) else own

/-- The own half of PAIR_HEALTH: the tests' bits with REGIONS_OK and FIBRE_OK as they stand (Table 15.4). -/
def ownHealth (s : State) : Nat :=
  let sf := (List.range 4).any (fun i => (s.inst i).inO5 && (s.inst i).sync.sf)
  withBit (withBit (testBits s) 3 (decide (s.dev.regionOk = 0x3F) && s.dev.lockstepOk)) 5 (!sf)

/-- A device ceases to be standby: its test bits hold their last value (R367). -/
def holdTests (s : State) : State := { s with pair := { s.pair with own := BitVec.ofNat 16 (testBits s) } }

/-- Set a test's bit of the own half. -/
def setHealth (k : Nat) (b : Bool) (s : State) : State :=
  { s with pair := { s.pair with own := BitVec.ofNat 16 (withBit s.pair.own.toNat k b) } }

/-- The partner is STANDBY_IN_STEP and healthy, as its last M_HEALTH reports (R368). -/
def partnerReady (s : State) : Bool :=
  decide (s.pair.partnerState = 3) && decide (s.pair.partner.toNat % 64 = 63) && s.pair.mirrorUp

/-- TICK_COUNT and ns since T0 of an instant of this tick or a later or earlier one. -/
def tickOf (ps : Nat) (s : State) : Word × Nat :=
  let d : Int := (ps : Int) - (s.clk.t0Ps : Int)
  (s.clk.tick + BitVec.ofInt 32 (d / tickPs), (d % tickPs).toNat / 1000)

/-- A trigger of R368 acts on the active: M_SWITCH is sent, the switchover is due 10 µs later, an open loan is cancelled
(R369, R370). -/
def startSwitch (cause replayPs : Nat) (s : State) : State :=
  let at' := s.clk.nowPs + 10000000
  let replay := if cause = 1 ∨ cause = 2 then replayPs else at'
  let (t, ns) := tickOf at' s
  let (rt, rns) := tickOf replay s
  let body := t.toNat % 8 + ns * 2 ^ 3 + rt.toNat % 8 * 2 ^ 20 + rns * 2 ^ 23 + cause * 2 ^ 40
  sendMirror 0x93 body
    { s with pair := { s.pair with switch := some { atPs := at', replayPs := replay, cause }, loan := none } }

/-- A trigger that needs the partner (Table 15.5). -/
def triggerSwitch (cause replayPs : Nat) (s : State) : State :=
  if pairActive s && s.pair.switch.isNone && partnerReady s then startSwitch cause replayPs s else s

/-- The last PHY frame received intact on the tick channel (R369). -/
def lastIntact (ch : Nat) (s : State) : Nat := (s.inst ch).sync.intactPs

/-- Cause 1: an instance of O5 has lost sync, and none is left in O5; `ch` was the tick channel. -/
def checkFibreLoss (ch : Nat) (s : State) : State :=
  if (List.range 4).any (fun i => (s.inst i).inO5) then s else triggerSwitch 1 (lastIntact ch s) s

/-- Cause 2: more own instances with DS_SF than in the partner's SF_MASK. -/
def checkSf (s : State) : State :=
  let own := ((List.range 4).filter (fun i => (s.inst i).sync.sf)).length
  if popcount 4 s.pair.partnerSf.toNat < own then triggerSwitch 2 (lastIntact s.clk.channel s) s else s

/-- Cause 3: own REGIONS_OK or LASERS_OK is 0. -/
def checkHealth (s : State) : State :=
  if bit (ownHealth s) 3 && bit (ownHealth s) 2 then s else triggerSwitch 3 0 s

end Sys2Proof.Machine
end

