-- ==== Sys2Proof/Machine/XferOps.lean ====
section
/-!
DEFINITION. The transfer network as its users see it (14 R350–R352, 16 R373): targets with their domains and freezes, and
requests. Targets are memory groups 0–37, 38 host memory, 39 the mirror link. A transfer that the arbiter can grant at once is over
within its row (log 54).
-/

namespace Sys2Proof.Machine

/-- The power domain of a memory group (14 Table 14.1). -/
def groupDomain (g : Nat) : Nat :=
  if g < 16 then 11 + g / 4 else if g < 24 then 11 + (g - 16) / 2 else if g < 26 then 17
  else if g < 30 then 15 else if g < 34 then 16 else if g = 34 then 22 else if g = 35 then 1 else if g = 36 then 18 else 23

/-- The region that owns a memory group (01 Table 1.1). -/
def groupRegion (g : Nat) : Nat := if g < 26 then 1 else if g < 34 ∨ g = 36 then 2 else 5

/-- A domain that is on and that no power-down has claimed (14 R349). -/
def domainFree (d : Nat) (s : State) : Bool := decide ((SMap.get {} s.pwr.domains d).phase = .on)

/-- From A0 to the end of a wake every memory group is in a domain that sleep does not keep ON (16 Tables 16.1, 16.3). -/
def sleepFreezes (s : State) : Bool :=
  match s.pwr.state with
  | .awake | .decided => false
  | .entering | .asleep | .sampling | .waking => true

/-- New grants to a target are stopped, by TXN_FREEZE, by a power-down of its domain, or by sleep (14 R352, 16 R373, R377). -/
def targetFrozen (t : Nat) (s : State) : Bool :=
  bit s.mem.frozen t || (decide (t < 38) && (sleepFreezes s ||
    (!domainFree (groupDomain t) s && (SMap.get {} s.pwr.domains (groupDomain t)).phase != .requested)))

/-- A rank-5 hold on a domain has ended: a power-down that waited for it gives the open grants 4 µs from here (16 R373). -/
def holdEnded (d : Nat) (s : State) : State :=
  match (SMap.get {} s.pwr.domains d).phase with
  | .stopping => { s with pwr := { s.pwr with domains := SMap.modify {} s.pwr.domains d (fun x => { x with sincePs := s.clk.nowPs }) } }
  | _ => s

/-- A target carries a grant. -/
def targetBusy (t : Nat) (s : State) : Bool := s.mem.grants.any (fun x => x.targets.contains t)

/-- A transfer over these targets cannot begin now. -/
def xferBlocked (ts : List Nat) (s : State) : Bool := ts.any (fun t => targetFrozen t s || targetBusy t s)

/-- A RESTORE, which SAVE's grant has booked (R346). -/
def Xfer.booked (x : Xfer) : Bool := match x.use with | .restore _ => true | _ => false

/-- A waiting request for one of these targets goes before a port's: a booked RESTORE, or one of a port that the rotating order does not
put behind it (R350). -/
def outranked (port : Nat) (ts : List Nat) (s : State) : Bool :=
  s.mem.requests.any (fun x => x.targets.any (fun t => ts.contains t) && !xferBlocked x.targets s &&
    (x.booked || decide (s.mem.order.idxOf x.port ≤ s.mem.order.idxOf port)))

/-- The arbiter would grant a port's request for these targets in this clock (01 R18, R350). -/
def hasTurn (port : Nat) (ts : List Nat) (s : State) : Bool := !xferBlocked ts s && !outranked port ts s

/-- A port that has won drops to the lowest rank (R350). -/
def passXfer (port : Nat) (s : State) : State :=
  { s with mem := { s.mem with order := s.mem.order.filter (· ≠ port) ++ [port] } }

/-- A request of a port would wait on a held target while the port holds a grant of the same rank (R353). -/
def breachesRank (port : Nat) (ts : List Nat) (s : State) : Bool :=
  ts.any (fun t => targetBusy t s) && s.mem.grants.any (fun x => decide (x.port = port))

/-- A wait that would break the rank order is refused at once (R353). -/
def refuseWait (s : State) : Res := .fail .deadlockAvoided (count .deadlockAvoided 0 s)

/-- A request waits for its grant (R350). -/
def requestXfer (port : Nat) (targets : List Nat) (use : XferUse) (s : State) : State :=
  { s with mem := { s.mem with requests := s.mem.requests ++ [{ port, targets, use, sincePs := s.clk.nowPs }] } }

/-- A transfer that a command waits for, whose statuses R57 extends: within the row where the arbiter grants it at once; refused where its
wait would break the rank order; else when its grant has come and it completes. -/
def withXfer (port : Nat) (ts : List Nat) (c : Cmd) (f : State → Res) (s : State) : Res :=
  if hasTurn port ts s then f (passXfer port s)
  else if breachesRank port ts s then refuseWait s
  else .later (requestXfer port ts (.command c.seq) s)

/-- Targets of a read of host memory into Quill's memory. -/
def hostRead_ : List Nat := [35, 38]

/-- A command's data is read from host memory in transfers of at most 4 KiB, one after another (R350); without any it goes on. -/
def fetchData (c : Cmd) (bytes : Nat) (data : Bytes) (s : State) : State :=
  let n := (bytes + 4095) / 4096
  let s : State := { s with mem := { s.mem with fetches := SMap.set none s.mem.fetches c.seq (some { left := n, data }) } }
  if n = 0 then s else requestXfer 0 hostRead_ (.command c.seq) s

/-- What a command reads is all there. -/
def fetched (c : Cmd) (s : State) : Bool := (SMap.get none s.mem.fetches c.seq).all (fun f => decide (f.left = 0))

/-- A command's transfers are gone. -/
def endFetch (n : Nat) (s : State) : State :=
  { s with mem := { s.mem with fetches := SMap.set none s.mem.fetches n none
                               requests := s.mem.requests.filter (fun x => decide (x.use ≠ .command n))
                               grants := s.mem.grants.filter (fun x => decide (x.use ≠ .command n)) } }

end Sys2Proof.Machine
end

