-- ==== Sys2Proof/Machine/TableOps.lean ====
section
/-!
DEFINITION. Operations of the forwarding table (06): entries and their fields, candidate cells, search with its parity and
duplicate rules, writes, leases and staging, insertion by chains of moves, ageing and digests.
-/

namespace Sys2Proof.Machine

/-! ## Entries (R145–R147) -/

/-- An entry of the table. -/
abbrev TEntry := BitVec 128

def entryValid (e : TEntry) : Bool := e.getLsbD 127
def entryType (e : TEntry) : Nat := (e.extractLsb' 124 3).toNat
def entryKey (e : TEntry) : BitVec 64 := e.extractLsb' 60 64
def entryResult (e : TEntry) : BitVec 44 := e.extractLsb' 16 44
def entryAge (e : TEntry) : Nat := (e.extractLsb' 12 4).toNat

/-- Byte n of an entry holds bits [8n + 7 : 8n]. -/
def entryByte (e : TEntry) (n : Nat) : Byte := e.extractLsb' (8 * n) 8
def entryBytes (e : TEntry) : Bytes := (List.range 16).map (entryByte e)
def entryWord (e : TEntry) (k : Nat) : Word := e.extractLsb' (32 * k) 32

/-- Even parity of n bits. -/
def evenParity (n v : Nat) : Bool := popcount n v % 2 == 1

/-- The PARITY byte of an entry (Table 6.1). -/
def parityOf (e : TEntry) : Nat :=
  (List.range 8).foldl (fun a k =>
    let b := if k = 7 then evenParity 8 (entryByte e 15).toNat
      else evenParity 16 ((entryByte e (2 * k + 1)).toNat + 256 * (entryByte e (2 * k + 2)).toNat)
    a + b2n b * 2 ^ k) 0

/-- An entry with its PARITY computed (R146). -/
def withParity (e : TEntry) : TEntry := (e &&& ~~~ 0xFF#128) ||| BitVec.ofNat 128 (parityOf e)

/-- An entry whose reserved PAD reads as zero (Table 6.1, 00 R12). -/
def noPad (e : TEntry) : TEntry := e &&& ~~~ 0xF00#128

def withAge (e : TEntry) (a : Nat) : TEntry := (e &&& ~~~ 0xF000#128) ||| BitVec.ofNat 128 (a * 4096)
def withResult (e : TEntry) (r : BitVec 44) : TEntry :=
  (e &&& ~~~ BitVec.ofNat 128 ((2 ^ 44 - 1) * 65536)) ||| BitVec.ofNat 128 (r.toNat * 65536)
def invalidated (e : TEntry) : TEntry := e &&& ~~~ (BitVec.ofNat 128 (2 ^ 127))

/-- An entry as the part writes it. -/
def makeEntry (ty : Nat) (key : BitVec 64) (result : BitVec 44) (age : Nat) : TEntry :=
  withParity ((BitVec.ofNat 128 (2 ^ 127)) ||| BitVec.ofNat 128 (ty * 2 ^ 124) ||| BitVec.ofNat 128 (key.toNat * 2 ^ 60) |||
    BitVec.ofNat 128 (result.toNat * 65536) ||| BitVec.ofNat 128 (age * 4096))

/-! ## Fields of a result (Table 6.3) -/

def resFlow (r : BitVec 44) : Nat := (r.extractLsb' 24 20).toNat
def resAction (r : BitVec 44) : Nat := (r.extractLsb' 20 4).toNat
def resClass (r : BitVec 44) : Nat := (r.extractLsb' 16 4).toNat
def resColour (r : BitVec 44) : Nat := (r.extractLsb' 14 2).toNat
def resQueue (r : BitVec 44) : Nat := (r.extractLsb' 0 14).toNat

/-! ## Placement (R148) -/

/-- The hash message of a key. -/
def hashMsg (k : TKey) : Bytes :=
  if k.ty = 2 then 0x02 :: (le 2 k.vrf ++ be 8 k.key.toNat ++ be 8 k.lo.toNat)
  else BitVec.ofNat 8 k.ty :: le 8 k.key.toNat

/-- The candidate cells H1 and H2. -/
def cells (k : TKey) : Nat × Nat :=
  let m := hashMsg k
  let h1 := (crc32c m).toNat % 1024
  let h2 := (crc32 m).toNat / 65536 % 1024
  (h1, if h2 = h1 then h1 ^^^ 0x200 else h2)

/-- Is a block isolated (R167), or locked under a lease (R155)? -/
def isolated (b : Nat) (s : State) : Bool := bit s.tbl.isolated b
def leaseOf (b : Nat) (s : State) : Option Lease := s.tbl.leases.find? (fun l => bit l.blocks b)
def locked (b : Nat) (s : State) : Bool := (leaseOf b s).isSome

/-- The current content of entry n = 4096 × cell + index. -/
def State.entry (s : State) (n : Nat) : TEntry := SMap.get 0 s.tbl.entries n

/-- Write an entry of the current contents with its PARITY (R146). -/
def setEntry (n : Nat) (e : TEntry) (s : State) : State :=
  { s with tbl := { s.tbl with entries := SMap.set 0 s.tbl.entries n (if e = 0 then 0 else withParity (noPad e)),
                               corrupt := s.tbl.corrupt.filter (· ≠ n) } }

/-- Clear VALID of an entry. -/
def clearEntry (n : Nat) (s : State) : State := setEntry n (invalidated (s.entry n)) s

/-- The valid entries of a cell in ascending index. -/
def validIn (g : Nat) (s : State) : List (Nat × TEntry) :=
  s.tbl.entries.filter (fun e => decide (e.1 / 4096 = g) && entryValid e.2)

/-- The other half of an IPv6 pair: of an IPV6_HI entry at an even index, its valid IPV6_LO entry at the next. -/
def pairOf (n : Nat) (s : State) : Option Nat :=
  if entryType (s.entry n) = 2 ∧ n % 2 = 0 ∧ entryValid (s.entry (n + 1)) ∧ entryType (s.entry (n + 1)) = 3 then some (n + 1)
  else if entryType (s.entry n) = 3 ∧ n % 2 = 1 ∧ entryValid (s.entry (n - 1)) ∧ entryType (s.entry (n - 1)) = 2 then some (n - 1)
  else none

/-- Invalidate an entry, both halves of an IPv6 pair. -/
def invalidate (n : Nat) (s : State) : State :=
  match pairOf n s with
  | some m => clearEntry m (clearEntry n s)
  | none => clearEntry n s

/-! ## Faults in table blocks (R152, R166, R167) -/

/-- A region isolates a block (18 Table 18.2): the event, and HEALTH.REGION_OK. -/
def isolateBlock (region code : Nat) (s : State) : State :=
  let s := raise .blockIsolated 8 region code s
  { s with dev := { s.dev with regionOk := s.dev.regionOk &&& ~~~ BitVec.ofNat 6 (2 ^ region)
                               isolated := s.dev.isolated ||| BitVec.ofNat 64 (2 ^ code) } }

/-- Isolate a table block: its entries are lost (R167). -/
def isolateTable (b : Nat) (s : State) : State :=
  if isolated b s then s
  else
    let s : State := { s with tbl := { s.tbl with
      isolated := withBit s.tbl.isolated b true
      entries := s.tbl.entries.filter (fun e => decide (e.1 / 262144 ≠ b))
      corrupt := s.tbl.corrupt.filter (fun n => decide (n / 262144 ≠ b)) } }
    raise .tblBlockIsolated 6 b 0 (isolateBlock 1 b s)

/-- One entry that fails its parity check: it is a miss, its VALID bit (both halves' for IPv6) is cleared, and the fault is
counted and recorded (R152). -/
def parityFault (n : Nat) (s : State) : State :=
  let s := invalidate n s
  let s := pushError .tableParity 6 (n / 262144) (n / 4096 % 64 * 4096 + n % 4096) s
  count .tblParityErr 0 { s with tbl := { s.tbl with corrupt := s.tbl.corrupt.filter (· ≠ n) } }

/-- The entries of a cell that fail parity, in ascending index. -/
def corruptIn (g : Nat) (s : State) : List Nat :=
  (s.tbl.corrupt.filter (fun n => decide (n / 4096 = g) && entryValid (s.entry n))).mergeSort (· ≤ ·)

/-- Remap a cell to a spare of its block, where entries that fail parity are not copied but invalidated and reported, or isolate the
block where none is free (R166, R167). Block b is memory group b (14 Table 14.1). -/
def remapCell (g : Nat) (s : State) : State :=
  let b := g / 64
  let detail := b * 2 ^ 24 + g % 64
  if SMap.get 0 s.tbl.spares b < 2 then
    let s := (corruptIn g s).foldl (fun s n => parityFault n s) s
    raise .cellRemapped 8 1 detail
      { s with tbl := { s.tbl with spares := SMap.set 0 s.tbl.spares b (SMap.get 0 s.tbl.spares b + 1)
                                   faultTick := SMap.set none s.tbl.faultTick g none } }
  else isolateTable b (pushError .cellSpareNone 8 1 detail s)

/-- A search reads a cell: entries that fail parity are handled by R152; a second operation with a fault in the same tick
remaps the cell (R166). -/
def checkCell (g : Nat) (s : State) : State :=
  let bad := corruptIn g s
  if bad.isEmpty then s
  else
    let s := bad.foldl (fun s n => parityFault n s) s
    if SMap.get none s.tbl.faultTick g = some (ownTick s) then remapCell g s
    else { s with tbl := { s.tbl with faultTick := SMap.set none s.tbl.faultTick g (some (ownTick s)) } }

/-! ## Search (R150, R151) -/

/-- Does a valid entry match a key (R147, R150)? -/
def entryMatches (k : TKey) (n : Nat) (e : TEntry) (s : State) : Bool :=
  if k.ty = 2 then
    decide (entryType e = 2 ∧ n % 2 = 0 ∧ entryKey e = k.key ∧ (entryResult e).toNat % 65536 = k.vrf) &&
      entryValid (s.entry (n + 1)) && decide (entryType (s.entry (n + 1)) = 3 ∧ entryKey (s.entry (n + 1)) = k.lo)
  else decide (entryType e = k.ty ∧ entryKey e = k.key ∧ k.ty < 6)

/-- The entries of a cell that match, in ascending index. -/
def matchesIn (k : TKey) (g : Nat) (s : State) : List Nat :=
  ((validIn g s).filter (fun e => entryMatches k e.1 e.2 s)).map (·.1)

/-- What a search finds: the entry's number, and whether the key was valid in both candidate cells. -/
structure Hit where
  at_ : Nat
  both : Bool

/-- The content that a search compares and returns: the entry, and its IPV6_LO half. -/
def content (k : TKey) (n : Nat) (s : State) : TEntry × TEntry :=
  (s.entry n, if k.ty = 2 then s.entry (n + 1) else 0)

/-- A search of the current contents (R150–R152). -/
def tblSearch (k : TKey) (s : State) : Option Hit × State :=
  let (h1, h2) := cells k
  let s := checkCell h2 (checkCell h1 s)
  let m1 := matchesIn k h1 s
  let m2 := matchesIn k h2 s
  let differ := match m1, m2 with
    | a :: _, b :: _ => decide (content k a s ≠ content k b s)
    | _, _ => false
  let s := if m1.length > 1 || m2.length > 1 || differ then count .tblDupKey 0 s else s
  match m1, m2 with
  | a :: _, b => (some { at_ := a, both := !b.isEmpty }, s)
  | [], b :: _ => (some { at_ := b, both := false }, s)
  | [], [] => (none, s)

/-- The result that a hit gives: an IPv6 key's lies in its IPV6_LO half (Table 6.2). -/
def hitResult (k : TKey) (h : Hit) (s : State) : BitVec 44 :=
  entryResult (s.entry (if k.ty = 2 then h.at_ + 1 else h.at_))

/-! ## Leases (R155–R160) -/

/-- Staged entries in all leases (R160). -/
def stagedCount (s : State) : Nat := (s.tbl.leases.map (fun l => l.staged.length)).sum

def setLease (l : Lease) (s : State) : State :=
  { s with tbl := { s.tbl with leases := s.tbl.leases.map (fun x => if x.id = l.id then l else x) } }

def dropLease (id : Nat) (s : State) : State :=
  { s with tbl := { s.tbl with leases := s.tbl.leases.filter (fun l => l.id ≠ id) } }

def leaseById (id : Nat) (s : State) : Option Lease := s.tbl.leases.find? (fun l => decide (l.id = id))

/-- An entry as a lease sees it: its staged copy, or the current content (R157). -/
def seenBy (l : Lease) (n : Nat) (s : State) : TEntry := (SMap.get none l.staged n).getD (s.entry n)

/-- The staging area has room for an entry of a lease: it has a copy already, or the area is not full (R160). -/
def stages (id n : Nat) (s : State) : Bool :=
  match leaseById id s with
  | none => false
  | some l => (SMap.get none l.staged n).isSome || decide (stagedCount s < 65536)

/-- Stage a copy of an entry for a lease, or lose it in a full staging area (R157, R160). -/
def stage (id n : Nat) (e : TEntry) (s : State) : State :=
  match leaseById id s with
  | none => s
  | some l =>
    if (SMap.get none l.staged n).isNone ∧ 65536 ≤ stagedCount s then count .tblStageFull 0 (setLease { l with overflowed := true } s)
    else setLease { l with staged := SMap.set none l.staged n (some e) } s

/-- Publish a lease's staged entries in one clock; an isolated block's stay lost (R158, R167). -/
def publish (l : Lease) (s : State) : State :=
  l.staged.foldl (fun s e => match e.2 with
    | some v => if isolated (e.1 / 262144) s then s else setEntry e.1 v s
    | none => s) s

/-- How many entries a publication makes current. -/
def published (l : Lease) (s : State) : Nat := (l.staged.filter (fun e => !isolated (e.1 / 262144) s)).length

/-- The lease check of R50 for a command that writes to table blocks and names its lease in the header. -/
def leaseStatus (id : Nat) (s : State) : Option Status :=
  if (leaseById id s).isSome then none
  else if id = 0 ∨ s.tbl.nextLease ≤ id then some .badParam
  else some .leaseExpired

/-! ## FLUSH_BY_PORT (R175) -/

/-- Does an entry qualify for a flush: type 0, its FLOW that of the template, static only where asked? -/
def flushes (flow : Nat) (static : Bool) (e : TEntry) : Bool :=
  entryValid e && decide (entryType e = 0 ∧ resFlow (entryResult e) = flow) && (static || decide (entryAge e ≠ 15))

/-- Invalidate the qualifying entries of unlocked blocks in scope; how many. -/
def flushUnlocked (mask flow : Nat) (static : Bool) (s : State) : Nat × State :=
  let hit := s.tbl.entries.filter (fun e =>
    bit mask (e.1 / 262144) && !locked (e.1 / 262144) s && flushes flow static e.2)
  (hit.length, hit.foldl (fun s e => clearEntry e.1 s) s)

/-- Stage an invalidation of every entry of the lease's blocks in scope that qualifies as the lease sees it; how many were staged. -/
def flushLeased (l : Lease) (mask flow : Nat) (static : Bool) (s : State) : Nat × State :=
  let seen := (s.tbl.entries.map (·.1) ++ (l.staged.map (·.1)).filter (fun n => decide (s.entry n = 0)))
  let hit := seen.filter (fun n =>
    bit mask (n / 262144) && bit l.blocks (n / 262144) && flushes flow static (seenBy l n s))
  hit.foldl (fun acc n =>
    (acc.1 + b2n (stages l.id n acc.2),
     stage l.id n (invalidated ((SMap.get none ((leaseById l.id acc.2).getD l).staged n).getD (acc.2.entry n))) acc.2)) (0, s)

/-- FLUSH_BY_PORT's scope: 0 for all blocks; and the FLOW of its source's template. -/
def flushMask (p : Bytes) : Nat := if u16 p 2 = 0 then 0xFFFF else u16 p 2
def flushFlow (p : Bytes) (s : State) : Nat := resFlow (SMap.get {} s.tbl.learnCfg (u8 p 0)).template

/-! ## Revocation (R159, R20) -/

/-- A dispatched command under a lease that is being revoked stops: TABLE_RENEW and TABLE_UNLOCK without effect, FLUSH_BY_PORT after the
blocks in scope that are not locked (R159, R175). -/
def stopLeased (id : Nat) (s : State) : State :=
  (s.cmd.executing.filter (fun c => decide (c.req.leaseId.toNat = id))).foldl (fun s c =>
    if c.op = 0x0301 ∨ c.op = 0x0302 then complete c .revoked 0 [] s
    else if c.op = 0x0305 then
      let p := c.req.body
      let (n, s) := flushUnlocked (flushMask p) (flushFlow p s) (bit (u8 p 1) 0) s
      complete c .revoked n [] s
    else s) s

/-- A lease is revoked: its staged writes are discarded, its blocks released, HOLD_REVOKED raised once for each block
(R159). -/
def revokeLease (l : Lease) (s : State) : State :=
  let s := dropLease l.id (stopLeased l.id s)
  (bitsOf 16 l.blocks).foldl (fun s b => raise .holdRevoked 6 b l.id s) s

/-- A domain reset revokes the leases of an owner: 0 PCIe, 1 SPI, 2 tunnel (R159). -/
def revokeOwner (owner : Nat) (s : State) : State :=
  (s.tbl.leases.filter (fun l => decide (l.owner = owner))).foldl (fun s l => revokeLease l s) s

/-! ## Insertion (R163) -/

/-- The lowest free index of a cell that can take an entry, as an entry number. -/
def freeIn (g : Nat) (s : State) : Option Nat :=
  if isolated (g / 64) s || locked (g / 64) s then none
  else
    let used := (validIn g s).map (·.1)
    if 4096 ≤ used.length then none else ((List.range (used.length + 1)).map (4096 * g + ·)).find? (fun n => !used.contains n)

/-- Free entries of a cell; an isolated cell has none to give. -/
def freeCount (g : Nat) (s : State) : Nat := if isolated (g / 64) s then 0 else 4096 - (validIn g s).length

/-- The alternate cell of an entry that hardware may move out of its cell (R153, R154). -/
def alternate (n : Nat) (s : State) : Option Nat :=
  let e := s.entry n
  let k : TKey := { ty := entryType e, key := entryKey e }
  let g := n / 4096
  if ¬ entryValid e ∨ ¬ [0, 1, 4, 5].contains k.ty ∨ entryAge e = 15 then none
  else
    let (h1, h2) := cells k
    let alt := if g = h1 then some h2 else if g = h2 then some h1 else none
    match alt with
    | some a => if isolated (a / 64) s || locked (a / 64) s || isolated (g / 64) s || locked (g / 64) s then none else some a
    | none => none

/-- A chain under construction, its last entry first. -/
abbrev Chain := List Nat

/-- Examine the entries of one cell in ascending index, each extending the chain that led there; a cell examined already
is passed over. Answers the chains examined and, where one's alternate cell has a free index, that chain. -/
def examineCell (g : Nat) (c : Chain) (seen : List Nat) (s : State) : Option Chain × List Chain × List Nat :=
  if seen.contains g then (none, [], seen)
  else
    let movable := ((validIn g s).map (·.1)).filter (fun n => (alternate n s).isSome)
    let free := movable.find? (fun n => ((alternate n s).bind (fun a => freeIn a s)).isSome)
    (free.map (· :: c), movable.map (· :: c), g :: seen)

/-- Examine one level. -/
def examineLevel (todo : List (Nat × Chain)) (seen : List Nat) (s : State) : Option Chain × List Chain × List Nat :=
  todo.foldl (fun acc t =>
    match acc with
    | (some c, l, seen) => (some c, l, seen)
    | (none, l, seen) =>
      let (f, l', seen) := examineCell t.1 t.2 seen s
      (f, l ++ l', seen)) (none, [], seen)

/-- The breadth-first search of R163 over at most n levels. -/
def findChain : Nat → List (Nat × Chain) → List Nat → State → Option Chain
  | 0, _, _, _ => none
  | n + 1, todo, seen, s =>
    match examineLevel todo seen s with
    | (some c, _, _) => some c
    | (none, l, seen) =>
      let next := l.filterMap (fun c => (c.head?.bind (fun e => alternate e s)).map (fun a => (a, c)))
      if next.isEmpty then none else findChain n next seen s

/-- Carry out a chain from its far end: each entry goes to the lowest free index of its alternate cell (R153, R163). -/
def runChain (c : Chain) (s : State) : State :=
  c.foldl (fun s n =>
    match (alternate n s).bind (fun a => freeIn a s) with
    | some d => clearEntry n (setEntry d (s.entry n) s)
    | none => s) s

/-- Insert a learned type 0 entry (R163). The flag says that a place was found. -/
def insertLearned (key : BitVec 64) (result : BitVec 44) (s : State) : Bool × State :=
  let (h1, h2) := cells { ty := 0, key }
  let e := makeEntry 0 key result s.tbl.age.init
  let g := if freeCount h1 s < freeCount h2 s then h2 else h1
  match freeIn g s with
  | some n => (true, setEntry n e s)
  | none =>
    let todo := ([h1, h2].filter (fun g => !isolated (g / 64) s)).map (fun g => (g, ([] : Chain)))
    match findChain 4 todo [] s with
    | some c => (true, setEntry (c.getLast?.getD 0) e (runChain c s))
    | none => (false, count .learnTableFull 0 s)

/-! ## Learning (R161, R162, R164) -/

/-- The learning settings of a source. -/
def State.learnOf (s : State) (k : Nat) : LearnCfg := SMap.get {} s.tbl.learnCfg k

/-- Enter a learn record (R161): a duplicate is suppressed, a full queue refuses. -/
def enterLearn (key : BitVec 64) (source : Nat) (s : State) : State :=
  if s.tbl.learn.any (fun r => decide (r.key = key ∧ r.source = source)) then count .learnDupSuppressed 0 s
  else if 16384 ≤ s.tbl.learn.length then count .learnQueueFull 0 s
  else { s with tbl := { s.tbl with learn := s.tbl.learn ++ [{ key, source, tick := ownTick s }] } }

/-- The source search of a frame and its record (Table 6.6). -/
def learnFrame (key : BitVec 64) (source : Nat) (s : State) : State :=
  let c := s.learnOf source
  if c.en then
    let k : TKey := { ty := 0, key }
    match tblSearch k s with
    | (none, s) => enterLearn key source s
    | (some h, s) =>
      let e := s.entry h.at_
      if entryAge e = 15 then if entryResult e ≠ c.template then count .learnStaticConflict 0 s else s
      else if entryResult e ≠ c.template then enterLearn key source s
      else if entryAge e < s.tbl.age.init then enterLearn key source s else s
  else s

/-- The ticks of a move window (R164). -/
def moveWindow : Nat := 8000

/-- A key's tracker entry whose window has not ended. -/
def tracked (key : BitVec 64) (s : State) : Option Track :=
  s.tbl.tracker.find? (fun t => decide (t.key = key ∧ ticksSince t.opened s < moveWindow))

/-- Take note of a move (R164): the key's window counts it; an untracked key takes a free tracker entry, or evicts the one
whose window opened earliest. -/
def noteMove (key : BitVec 64) (s : State) : State :=
  match tracked key s with
  | some _ => { s with tbl := { s.tbl with
      tracker := s.tbl.tracker.map (fun t => if t.key = key then { t with moves := t.moves + 1 } else t) } }
  | none =>
    let live := s.tbl.tracker.filter (fun t => decide (t.key ≠ key ∧ ticksSince t.opened s < moveWindow))
    let new : Track := { key, opened := ownTick s, moves := 1 }
    if live.length < 256 then { s with tbl := { s.tbl with tracker := live ++ [new] } }
    else
      let first := live.foldl (fun a t => if ticksSince a.opened s < ticksSince t.opened s then t else a) (live.headD new)
      count .moveTrackEvict 0 { s with tbl := { s.tbl with tracker := live.filter (fun t => t.key ≠ first.key) ++ [new] } }

/-- Commit one record against the table as it stands (Table 6.7, R164). -/
def commitRecord (r : LearnRec) (s : State) : State :=
  let template := (s.learnOf r.source).template
  match tblSearch { ty := 0, key := r.key } s with
  | (none, s) =>
    let (ok, s) := insertLearned r.key template s
    if ok then count .learnCommits 0 s else s
  | (some h, s) =>
    let e := s.entry h.at_
    if entryAge e = 15 then count .learnStaticConflict 0 s
    else if entryResult e = template then count .learnRefresh 0 (setEntry h.at_ (withAge e s.tbl.age.init) s)
    else
      match tracked r.key s with
      | some t =>
        if s.tbl.age.moveLimit < t.moves + 1 then
          count .moveFlaps 0 (raise .moveFlap 6 (h.at_ / 262144) (h.at_ / 4096 % 64 * 4096 + h.at_ % 4096)
            (setEntry h.at_ (withAge e 15) s))
        else count .stationMoves 0 (noteMove r.key (setEntry h.at_ (withAge (withResult e template) s.tbl.age.init) s))
      | none => count .stationMoves 0 (noteMove r.key (setEntry h.at_ (withAge (withResult e template) s.tbl.age.init) s))

/-- A record's candidate cells include a cell of a locked block (R162). -/
def deferredNow (r : LearnRec) (s : State) : Bool :=
  let (h1, h2) := cells { ty := 0, key := r.key }
  locked (h1 / 64) s || locked (h2 / 64) s

/-! ## Ageing (R165) -/

/-- One entry in an ageing step: an IPv6 pair by its IPV6_HI half alone; the AGE of an IPV6_LO half that belongs to a pair
has no effect. -/
def ageEntry (n : Nat) (s : State) : State :=
  let e := s.entry n
  if ¬ entryValid e ∨ isolated (n / 262144) s ∨ locked (n / 262144) s then s
  else if entryType e = 3 ∧ (pairOf n s).isSome then s
  else if entryAge e = 15 then s
  else if entryAge e = 0 then count .agedOut 0 (invalidate n s)
  else setEntry n (withAge e (entryAge e - 1)) s

/-! ## Digests (R168) -/

/-- An entry's CRC with AGE and PARITY zero. -/
def entryCrc (e : TEntry) : Nat := (crc64 (entryBytes (e &&& ~~~ 0xF0FF#128))).toNat

/-- The digest of the valid entries with number in [lo, lo + n). -/
def digest (lo n : Nat) (s : State) : Nat :=
  ((s.tbl.entries.filter (fun e => decide (lo ≤ e.1 ∧ e.1 < lo + n) && entryValid e.2)).map (fun e => entryCrc e.2)).sum % 2 ^ 64

end Sys2Proof.Machine
end

