-- ==== Sys2Proof/Machine/Classifier.lean ====
section
/-!
DEFINITION. The classifier (07): rules, comparators and their checks, the winning rule of an image, the end of a pass, the
image transitions of Table 7.9, and the commands of class 0x04.
-/

namespace Sys2Proof.Machine

/-! ## Fields, comparators and terms (R187–R189) -/

/-- The width of a match field; 0 for a number that Table 7.5 does not have. -/
def fieldWidth (f : Nat) : Nat :=
  [0, 6, 16, 8, 48, 48, 2, 12, 3, 12, 16, 3, 20, 3, 16, 4, 32, 32, 64, 64, 64, 64, 8, 6, 16, 16, 8, 24, 14, 2].getD f 0

/-- Fields that a comparator may name (R189). -/
def comparable : List Nat := [0x01, 0x02, 0x07, 0x09, 0x0A, 0x0E, 0x16, 0x17, 0x18, 0x19, 0x1C]

/-- Comparator k's 8 bytes. -/
def compOf (comps : Bytes) (k : Nat) : Bytes := slice comps (8 * k) 8

/-- A comparator is true of a value (R189). -/
def compHolds (c : Bytes) (v : Nat) : Bool := (decide (u16 c 2 ≤ v) && decide (v ≤ u16 c 4)) != bit (u8 c 1) 1

/-- A comparator that CLS_BUILD rejects: reserved bits, or an enabled one on a field it may not name. -/
def compBad (c : Bytes) : Bool :=
  decide (3 < u8 c 1) || decide (u16 c 6 ≠ 0) || (bit (u8 c 1) 0 && !comparable.contains (u8 c 0))

/-- A term that CLS_BUILD rejects (R187, R189). -/
def termBad (comps t : Bytes) : Bool :=
  if u8 t 0 = 0 then !allZero t
  else
    let w := fieldWidth (u8 t 0)
    decide (w = 0) || !allZero (slice t 3 5) ||
    (match u8 t 1 with
      | 0 => decide (u8 t 2 ≠ 0) || decide (2 ^ w ≤ u64 t 8) || decide (2 ^ w ≤ u64 t 16) || decide (u64 t 8 &&& u64 t 16 ≠ u64 t 8)
      | 1 => decide (63 < u8 t 2) || decide (u64 t 8 ≠ 0) || decide (u64 t 16 ≠ 0) ||
          decide (u8 (compOf comps (u8 t 2)) 0 ≠ u8 t 0) || !bit (u8 (compOf comps (u8 t 2)) 1) 0
      | 2 => decide (u8 t 2 ≠ 0) || decide (u64 t 8 ≠ 0) || decide (u64 t 16 ≠ 0)
      | _ => true)

/-- An action (rule bytes 0–31) that CLS_BUILD rejects (R186), and a TO_HOST queue below 12,296 (R200). -/
def actionBad (r : Bytes) : Bool :=
  decide (4 < u8 r 0) || decide (31 < u8 r 1) || decide (5 < u8 r 2) || decide (2 < u8 r 3 / 16) ||
  decide (16384 ≤ u16 r 4) || decide (2 ^ 20 ≤ u32 r 8) || !allZero (slice r 20 12) ||
  (if u8 r 2 = 5 then decide (fieldWidth (u8 r 12) = 0) else decide (u8 r 12 ≠ 0) || decide (u32 r 16 ≠ 0)) ||
  (if u8 r 0 = 4 then decide (u8 r 13 < 2) || decide (8 < u8 r 13) else decide (u8 r 13 ≠ 0)) ||
  (!bit (u8 r 1) 3 && decide (u16 r 14 ≠ 0)) || (decide (u8 r 0 = 3) && decide (u16 r 4 < 12296))

/-- The eight terms of a rule. -/
def termsOf (r : Bytes) : List Bytes := (List.range 8).map (fun k => slice r (32 + 24 * k) 24)

/-- A rule that CLS_BUILD rejects. -/
def ruleBad (comps r : Bytes) : Bool := actionBad r || (termsOf r).any (termBad comps)

/-- A term matches (R187). -/
def termMatches (comps : Bytes) (fields : SMap (Option Nat)) (t : Bytes) : Bool :=
  let v := SMap.get none fields (u8 t 0)
  if u8 t 0 = 0 then true
  else match u8 t 1, v with
    | 0, some v => decide (v &&& u64 t 16 = u64 t 8)
    | 1, some v => compHolds (compOf comps (u8 t 2)) v
    | 2, none => true
    | _, _ => false

/-- The matching rule with the lowest index (R185). -/
def firstMatch (comps : Bytes) (fields : SMap (Option Nat)) : List Bytes → Nat → Option (Nat × Bytes)
  | [], _ => none
  | r :: rs, k => if (termsOf r).all (termMatches comps fields) then some (k, r) else firstMatch comps fields rs (k + 1)

/-- The winning rule of an image, or its default action with index 0xFFFF_FFFE (R185). -/
def classify (im : Image) (fields : SMap (Option Nat)) : Nat × Bytes :=
  (firstMatch im.comps fields im.rules 0).getD (0xFFFFFFFE, im.dflt)

/-! ## Keys and verdicts (R190–R192) -/

/-- The lookup key of a rule (Table 7.7), none where it cannot be formed. -/
def lookupKey (r : Bytes) (fields : SMap (Option Nat)) : Option TKey :=
  let dom := u16 r 6
  let get := SMap.get none fields
  match u8 r 2 with
  | 1 => (get 0x04).map (fun a => { ty := 0, key := BitVec.ofNat 64 (dom * 2 ^ 48 + a) })
  | 2 => (get 0x11).map (fun a => { ty := 1, key := BitVec.ofNat 64 (dom * 2 ^ 48 + a) })
  | 3 => (get 0x14).map (fun a => { ty := 2, key := BitVec.ofNat 64 a, lo := BitVec.ofNat 64 ((get 0x15).getD 0), vrf := dom })
  | 4 => (get 0x0C).map (fun a => { ty := 4, key := BitVec.ofNat 64 (dom * 2 ^ 48 + a) })
  | 5 => (get (u8 r 12)).map (fun a => { ty := 5, key := BitVec.ofNat 64 (u32 r 16 * 2 ^ 32 + a % 2 ^ 32) })
  | _ => none

/-- The lookup key that a pass forms: only a CONTINUE verdict looks one up (Table 7.6). -/
def formedKey (r : Bytes) (fields : SMap (Option Nat)) : Option TKey := if u8 r 0 = 0 then lookupKey r fields else none

/-- What a pass comes to. -/
inductive PassEnd where
  | drop
  /-- A second pass from a byte of the frame; DECAP removes the bytes before it. -/
  | again (start : Nat) (decap : Bool)
  | done (d : Decision)

/-- The outcome of parse and rules for a pass, for forwarding and for CLS_PROBE: its parse, its reason where the frame is
malformed, PASS_FLAGS, and the deciding rule where rules were evaluated. -/
structure Classed where
  parse : Parse
  reason : Option Nat
  /-- MALFORMED_ACTION of the reason. -/
  action : Nat
  flags : Nat
  fields : SMap (Option Nat)
  rule : Option (Nat × Bytes)

/-- Parse a pass and match it against an image (R179–R181, R185). `len` is FRAME_LENGTH, `n` the bytes from the pass's
start, `d` those at hand. -/
def classOf (cfg : ClsCfg) (im : Image) (ingress tag len : Nat) (second : Bool) (n : Nat) (d : Bytes) : Classed :=
  let p := parsePass cfg n d
  let reason := if p.incomplete && cfg.incompleteMode then some 15 else p.reason
  let action := match reason with
    | some r => cfg.malformedAction / 4 ^ r % 4
    | none => 2
  let flags := passFlags second (reason.isSome && decide (action = 2)) p
  let fields := allFields ingress tag len flags p
  { parse := p, reason, action, flags, fields, rule := if action = 2 then some (classify im fields) else none }

/-- The header at which a second pass would start: reached, or the one at which the pass became incomplete (R193). -/
def stripAt (p : Parse) (k : Nat) : Option Nat :=
  (p.hdrs ++ if p.incomplete then [p.off] else [])[k - 1]?

/-- What a rule decides (Table 7.6, R192). -/
def decisionOf (c : Classed) (ingress : Nat) (k : Nat) (r : Bytes) (tick : Word) : Decision :=
  let sets := u8 r 1
  { verdict := u8 r 0
    key := formedKey r c.fields
    queue := u16 r 4, flow := u32 r 8, cls := u8 r 3 % 16, colour := u8 r 3 / 16
    setClass := bit sets 0, setColour := bit sets 1, copy := bit sets 2
    learn := if bit sets 3 && decide (ingress < 40) then
        (SMap.get none c.fields 0x05).map (fun a => BitVec.ofNat 64 (u16 r 14 * 2 ^ 48 + a)) else none
    rule := k, reason := c.reason.getD 0xFF, passFlags := c.flags, tick }

/-- The end of a pass (R181, R190, R193, R194), with what it counts. -/
def endPass (f : Flight) (c : Classed) (s : State) : PassEnd × State :=
  let s := if c.parse.incomplete then count .clsIncomplete 0 s else s
  let s := match c.reason with
    | some r => count (.clsMalformed r) 0 s
    | none => s
  match c.rule with
  | none =>
    if c.action = 1 then
      (.done { verdict := 5, queue := f.cfg.malformedQueue, reason := c.reason.getD 0xFF, passFlags := c.flags, tick := s.clk.tick }, s)
    else (.drop, s)
  | some (k, r) =>
    if u8 r 0 = 2 then (.drop, count .clsRuleDrop 0 s)
    else if u8 r 0 = 4 then
      match stripAt c.parse (u8 r 13) with
      | some o =>
        if f.pass = 2 then (.drop, count .clsRecircLimit 0 s)
        else (.again (f.start + o) (bit (u8 r 1) 4), count .clsRecirculated 0 s)
      | none => (.drop, count .clsRecircLimit 0 s)
    else (.done (decisionOf c f.frame.ingress k r s.clk.tick), s)

/-! ## Images (Table 7.9) -/

/-- Image e: after reset image A is ACTIVE and not valid, image B EMPTY (R196). -/
def State.image (s : State) (e : Nat) : Image := SMap.get { state := if e = 0 then .active else .empty } s.cls.images e

def State.setImage (e : Nat) (im : Image) (s : State) : State :=
  { s with cls := { s.cls with images := SMap.put e im s.cls.images } }

/-- Frames in flight of an epoch: from the first dispatch to the end of the last search (R195). -/
def inFlight (e : Nat) (s : State) : Nat :=
  (s.cls.flights.filter (fun f => decide (f.epoch = e) && (match f.stage with | .done _ => false | _ => true))).length

/-- The old image of a swap, while it drains. -/
def drainingImage (s : State) : Option Nat := [0, 1].find? (fun e => decide ((s.image e).state = .draining))

/-- CLS_DRAIN_COMPLETE (R196): a DRAINING image with no frame in flight becomes READY or EMPTY, and CLS_SWAP completes. -/
def execClsDrainComplete (s : State) : State :=
  match drainingImage s with
  | none => s
  | some e =>
    if inFlight e s ≠ 0 then s
    else
      let im := s.image e
      let s := s.setImage e (if im.valid then { im with state := .ready } else { im with state := .empty })
      completeRunning 0x0402 .ok 0 (le 4 s.cls.swapTick.toNat ++ le 4 s.clk.tick.toNat) s

/-- The swap clock (R197): the image becomes ACTIVE, the other one drains. -/
def swapImages (e : Nat) (s : State) : State :=
  let old := s.cls.epoch
  let s := (s.setImage e { s.image e with state := .active }).setImage old { s.image old with state := .draining }
  raise .clsEpochSwapped 0 0 e
    { s with cls := { s.cls with epoch := e, swapTo := none, swapTick := s.clk.tick } }

/-- Item 2 of Table 1.8: settings and a swap that wait for the swap clock take effect (R197, R199). -/
def swapClock (s : State) : State :=
  let s : State := match s.cls.cfgNext with
    | some c => { s with cls := { s.cls with cfg := c, cfgNext := none } }
    | none => s
  match s.cls.swapTo with
  | some e => swapImages e s
  | none => s

/-! ## CLS_CONFIG (R199) -/

/-- EXTRA_TPID is 0 or a type that the parser does not recognise otherwise. -/
def badTpid (t : Nat) : Bool :=
  decide (t ≠ 0) && (decide (t < 0x600) ||
    [0x0800, 0x86DD, 0x8100, 0x88A8, 0x9100, 0x8847, 0x8848, 0x8864, 0x6558].contains t)

/-- An exception queue number. -/
def exceptionQueue (q : Nat) : Bool := decide (12296 ≤ q) && decide (q < 16384)

def badClsConfig (p : Bytes) : Bool :=
  decide (1 < u8 p 0) || decide (1 < u8 p 1) || badTpid (u16 p 4) || !exceptionQueue (u16 p 6) || !exceptionQueue (u16 p 8) ||
    decide (u16 p 10 ≠ 0) || (List.range 16).any (fun r => decide (u32 p 12 / 4 ^ r % 4 = 3))

def specClsConfig : CmdSpec := { op := 0x0400, check := params 16 (fun q _ => badClsConfig q.body) }

/-- CLS_CONFIG (R199): dispatched under item 1 it applies from the next clock, else from T0 of the next tick. -/
def effClsConfig (c : Cmd) (s : State) : Res :=
  let p := c.req.body
  let cfg : ClsCfg := { incompleteMode := decide (u8 p 0 = 1), checkCsum := decide (u8 p 1 = 1), vxlanPort := u16 p 2
                        extraTpid := u16 p 4, copyQueue := u16 p 6, malformedQueue := u16 p 8, malformedAction := u32 p 12 }
  if c.req.atTick || c.due.isSome then .ok [] { s with cls := { s.cls with cfg := cfg } }
  else .ok [] { s with cls := { s.cls with cfgNext := some cfg } }

def execClsConfig (q : CmdReq) (s : State) : State := runCmd specClsConfig effClsConfig q s

/-! ## CLS_BUILD (R186–R189, R200) -/

/-- DEFAULT or a comparator is one that R186 or R189 rejects. -/
def badDefault (p : Bytes) : Bool :=
  let dflt := slice p 16 32
  actionBad dflt || decide (u8 dflt 0 = 4) || (List.range 64).any (fun k => compBad (compOf (slice p 48 512) k))

/-- The index of the first rule that a build rejects. -/
def ruleFault (comps : Bytes) (rules : List Bytes) : Option Nat := ((rules.zipIdx).find? (fun r => ruleBad comps r.1)).map (·.2)

/-- The image is not ACTIVE, reserved fields are zero, RULE_COUNT is in range and RULE_ADDR aligned. -/
def badBuild (p : Bytes) (s : State) : Bool :=
  decide (1 < u8 p 0) || decide (u24 p 1 ≠ 0) || decide (524288 < u32 p 4) || decide (u8 p 8 % 8 ≠ 0) ||
    decide ((s.image (u8 p 0)).state = .active)

def specClsBuild : CmdSpec :=
  { op := 0x0401, check := params 560 (fun q s => badBuild q.body s || badDefault q.body)
    detail := fun q s => if badBuild q.body s then 0 else 0xFFFFFF }

/-- CLS_BUILD (R200): the content of the image is discarded while it builds; the rules come over the transfer network. -/
def effClsBuild (rules : List Bytes) (c : Cmd) (s : State) : Res :=
  let p := c.req.body
  let e := u8 p 0
  if (s.image e).state = .active then .fail .badParam s
  else if [0, 1].any (fun e => decide ((s.image e).state = .building)) || decide ((s.image e).state = .draining) || s.cls.swapTo.isSome
  then .fail .busyRetry s
  else if !hasTurn 0 hostRead_ s && breachesRank 0 hostRead_ s then refuseWait s
  else
    .later (fetchData c (224 * u32 p 4) [] ({ s with cls := { s.cls with buildTick := ownTick s } }.setImage e
      { state := .building, valid := false, rules := rules.take (u32 p 4), dflt := slice p 16 32, comps := slice p 48 512 }))

def execClsBuild (q : CmdReq) (rules : List Bytes) (s : State) : State := runCmd specClsBuild (effClsBuild rules) q s

/-- The images that build are EMPTY: their build has failed (R196). -/
def failBuild (s : State) : State :=
  [0, 1].foldl (fun s e => if (s.image e).state = .building then s.setImage e { state := .empty } else s) s

/-- CLS_BUILD_COMPLETE (R196): once all rules have been read, the first that a build rejects ends it; the compiled tree's size is a value
that the manual does not give, and one that does not fit 4 MiB leaves the image EMPTY with TABLE_FULL. -/
def execClsBuildComplete (s : State) : State :=
  match [0, 1].find? (fun e => decide ((s.image e).state = .building)), running 0x0401 s with
  | some e, some c =>
    let im := s.image e
    if targetFrozen (24 + e) s || !fetched c s then s
    else match ruleFault im.comps im.rules with
    | some d => completeRunning 0x0401 .badParam d [] (failBuild (endFetch c.seq s))
    | none =>
    let (bytes, s) := takeFree 24 (endFetch c.seq s)
    if 4194304 < bytes then completeRunning 0x0401 .tableFull 0 [] (failBuild s)
    else
      completeRunning 0x0401 .ok 0 (le 4 im.rules.length ++ le 4 bytes ++ le 4 (ticksSince s.cls.buildTick s))
        (s.setImage e { im with state := .ready, valid := true, bytesUsed := bytes })
  | _, _ => s

/-! ## CLS_SWAP (R201) -/

def specClsSwap : CmdSpec :=
  { op := 0x0402, check := params 4 (fun q _ => decide (1 < u8 q.body 0) || decide (u24 q.body 1 ≠ 0)) }

/-- CLS_SWAP (R197, R201). -/
def effClsSwap (c : Cmd) (s : State) : Res :=
  let e := u8 c.req.body 0
  if (s.image e).state = .active then .ok (le 4 0 ++ le 4 0) s
  else if [0, 1].any (fun e => decide ((s.image e).state = .building) || decide ((s.image e).state = .draining)) || s.cls.swapTo.isSome
  then .fail .busyRetry s
  else if (s.image e).state = .empty then .fail .notFound s
  else if c.req.atTick || c.due.isSome then .later (swapImages e s)
  else .later { s with cls := { s.cls with swapTo := some e } }

def execClsSwap (q : CmdReq) (s : State) : State := runCmd specClsSwap effClsSwap q s

/-! ## CLS_PROBE (R202) -/

def checkProbe (q : CmdReq) (_ : State) : Option Status :=
  let p := q.body
  if p.length < 9 ∨ 136 < p.length then some .badLength
  else if 47 < u8 p 0 ∨ 1 < u8 p 1 ∨ u16 p 4 < p.length - 8 ∨ u16 p 6 ≠ 0 then some .badParam else none

def specClsProbe : CmdSpec := { op := 0x0403, check := checkProbe, reads := true }

/-- KEY of a probe's reply: an IPv6 address in network order, any other key's 8 bytes little-endian, zero when none. -/
def probeKey (k : Option TKey) : Bytes :=
  match k with
  | some k => if k.ty = 2 then be 8 k.key.toNat ++ be 8 k.lo.toNat else le 8 k.key.toNat ++ zeros 8
  | none => zeros 16

/-- The reply of a probe whose last pass is `c`. -/
def probeReply (passes : Nat) (first : Nat) (c : Classed) : Bytes :=
  let (k, r) := c.rule.getD (0xFFFFFFFF, zeros 224)
  le 1 (if c.rule.isSome then u8 r 0 else 0xFF) ++ le 1 passes ++ le 1 (c.reason.getD 0xFF) ++ le 1 c.parse.hdrs.length ++
    le 4 k ++ le 4 first ++ le 1 (u8 r 2) ++ le 1 c.flags ++ le 2 (u16 r 4) ++ probeKey (formedKey r c.fields) ++
    le 4 (u32 r 8) ++ le 1 (u8 r 3) ++ zeros 3

/-- CLS_PROBE: parse and match under the settings in force; nothing is counted or forwarded. -/
def effClsProbe (c : Cmd) (s : State) : Res :=
  let p := c.req.body
  let im := s.image (u8 p 1)
  if im.state = .building then .fail .busyRetry s
  else if im.state = .empty ∨ !im.valid then .fail .notFound s
  else
    let d := p.drop 8
    let len := u16 p 4
    let c1 := classOf s.cls.cfg im (u8 p 0) (u16 p 2) len false len d
    match c1.rule with
    | some (k, r) =>
      if u8 r 0 = 4 then
        match stripAt c1.parse (u8 r 13) with
        | some o =>
          let len2 := if bit (u8 r 1) 4 then len - o else len
          .ok (probeReply 2 k (classOf s.cls.cfg im (u8 p 0) (u16 p 2) len2 true (len - o) (d.drop o))) s
        | none => .ok (probeReply 1 0xFFFFFFFF c1) s
      else .ok (probeReply 1 0xFFFFFFFF c1) s
    | none => .ok (probeReply 1 0xFFFFFFFF c1) s

def execClsProbe (q : CmdReq) (s : State) : State := runCmd specClsProbe effClsProbe q s

/-! ## Registers -/

/-- CLS_STATUS, CLS_IMAGE_RULES, CLS_IMAGE_BYTES, CLS_INFLIGHT, CLS_SWAP_TICK. -/
def readCls (off : Nat) (s : State) : Option Nat :=
  let any := fun (st : ImgState) => b2n ([0, 1].any (fun e => decide ((s.image e).state = st)))
  if off = 0 then
    some (s.cls.enginesOk.toNat * 65536 + b2n (s.image 1).valid * 128 + b2n (s.image 0).valid * 64 + any .building * 8 +
      any .draining * 4 + b2n s.cls.swapTo.isSome * 2 + s.cls.epoch)
  else if off = 4 ∨ off = 12 then some (s.image (off / 8)).rules.length
  else if off = 8 ∨ off = 16 then some (s.image (off / 8 - 1)).bytesUsed
  else if off = 20 then some (inFlight 1 s * 65536 + inFlight 0 s)
  else if off = 24 then some s.cls.swapTick.toNat
  else none

end Sys2Proof.Machine
end

