-- ==== Sys2Proof/Machine/Fibre.lean ====
section
/-!
DEFINITION. Channel pairs and activation (03): tuning, hunting and scanning, the downstream PLOAM messages, the activation
timers, and the fibre-instance commands.
-/

namespace Sys2Proof.Machine

/-! ## Tuning (03 R68–R71, R78) -/

/-- TX_TUNE_LOCK: the laser locks to its target (R69). -/
def execTxTuneLock (i : Nat) (s : State) : State :=
  if (s.inst i).txGrid.isSome then s.modInst i (fun x => { x with txLocked := true }) else s

/-- RX_TUNE_LOCK: the receiver reaches demodulator lock (R68). -/
def execRxTuneLock (i : Nat) (s : State) : State :=
  if (s.inst i).rxGrid.isSome then s.modInst i (fun x => { x with rxLocked := true }) else s

/-- LASER_LOCK_LOSS: the laser goes dark at the fibre until it has relocked; the target stays (R69). -/
def execLaserLockLoss (i : Nat) (s : State) : State :=
  if (s.inst i).txLocked then emit (.laserDark i) (s.modInst i (fun x => { x with txLocked := false })) else s

/-- Does the instance hunt in O1.1? -/
def Inst.hunting (x : Inst) : Bool := decide (x.st = 0x11) && decide (x.sync.state < 2)

/-- Hunt in another line mode, or on, from now: the candidate is dropped and a dwell begins. -/
def newDwell (i mode : Nat) (s : State) : State :=
  s.modInst i (fun x => { x with mode, dwell := ownTick s, sync := { x.sync with state := 0, misses := 0, kept := none } })

/-- LINE_MODE_DWELL_EXPIRY (R71): under AUTO, 1,024 ticks on a fixed index, or 64 ticks in HS while scanning, are over, and
the instance hunts in the other mode. -/
def execLineModeDwellExpiry (i : Nat) (s : State) : State :=
  let x := s.inst i
  if x.hunting && decide (x.cfg.lineMode = 2) then
    if x.cfg.startGrid.isSome then
      if 1024 ≤ ticksSince x.dwell s then newDwell i (if x.mode = 1 then 2 else 1) s else s
    else if x.mode = 1 ∧ 64 ≤ ticksSince x.dwell s then newDwell i 2 s else s
  else s

/-- SCAN_DWELL_EXPIRY (R78): the dwell on an index of the scan is over (under AUTO, the one in TW10 mode), and the receiver
moves to the next index that no other instance holds, at the end of the range to the first. -/
def execScanDwellExpiry (i : Nat) (s : State) : State :=
  let x := s.inst i
  if x.hunting && x.cfg.startGrid.isNone && decide (64 ≤ ticksSince x.dwell s) &&
      (decide (x.cfg.lineMode ≠ 2) || decide (x.mode = 2)) then
    let n := nextScan i ((x.scan + 1) % 18) s
    tuneRx i (some (scanOrder.getD n 0)) (newDwell i (huntMode x) (s.modInst i (fun x => { x with scan := n })))
  else s

/-! ## Commands (03 R91–R92) -/

/-- A command of class 0x02 or 0x0F for an instance. -/
def instSpec (op : Nat) (check : CmdReq → State → Option Status) : CmdSpec := { op, kind := 1, check }

/-- RX_START_GRID of a payload: none to scan. -/
def startGridOf (v : Nat) : Option Int := if v = 0x7FFF then none else some (signed 16 v)

/-- The INST_CONFIG parameters of a payload. -/
def instCfgOf (p : Bytes) : InstCfg :=
  { lineMode := u8 p 0, usRates := u8 p 1, to1 := u8 p 2, to2 := u8 p 3, to5 := u8 p 4, flapThreshold := u8 p 5,
    flapWindow := u16 p 6, eqdLimit := u32 p 8, startGrid := startGridOf (u16 p 12) }

/-- The INST_CONFIG parameters as a payload. -/
def InstCfg.bytes (c : InstCfg) : Bytes :=
  le 1 c.lineMode ++ le 1 c.usRates ++ le 1 c.to1 ++ le 1 c.to2 ++ le 1 c.to5 ++ le 1 c.flapThreshold ++
    le 2 c.flapWindow ++ le 4 c.eqdLimit ++
    le 2 (match c.startGrid with | some g => unsigned 16 g | none => 0x7FFF) ++ zeros 2

/-- Is a rate of the line mode enabled? -/
def rateOfMode (mode rates : Nat) : Bool :=
  match mode with
  | 0 => decide (rates % 4 ≠ 0)
  | 1 => decide (rates / 4 ≠ 0)
  | _ => decide (rates ≠ 0)

def badInstConfig (p : Bytes) : Bool :=
  let c := instCfgOf p
  decide (2 < c.lineMode) || decide (15 < c.usRates) || !rateOfMode c.lineMode c.usRates || decide (c.to1 = 0) ||
    decide (c.to2 = 0) || decide (c.to5 = 0) || decide (c.flapThreshold = 0) || decide (c.flapWindow = 0) ||
    decide (800000 < c.eqdLimit) || !allZero (slice p 14 2) ||
    (match c.startGrid with | some g => decide (g < -123 ∨ -106 < g) | none => false)

def specInstConfig : CmdSpec := instSpec 0x0200 (params 16 (fun q _ => badInstConfig q.body))

/-- INST_CONFIG (R92): line mode, rates and start grid only in O1.1 held; the other fields at the next tick edge. -/
def effInstConfig (c : Cmd) (s : State) : Res :=
  let n := instCfgOf c.req.body
  let i := c.req.index
  let x := s.inst i
  if x.st ≠ 0x10 ∧ (n.lineMode ≠ x.cfg.lineMode ∨ n.usRates ≠ x.cfg.usRates ∨ n.startGrid ≠ x.cfg.startGrid) then
    .fail .busyService s
  else
    .ok [] (s.setInst i { x with cfg := { x.cfg with lineMode := n.lineMode, usRates := n.usRates, startGrid := n.startGrid },
                                 cfgNext := some n })

def execInstConfig (q : CmdReq) (s : State) : State := runCmd specInstConfig effInstConfig q s

def specInstStart : CmdSpec := { instSpec 0x0201 (fun q _ => lenIs 0 q) with life := fun _ s => decide (s.lc.state ≠ 4) }

/-- INST_START (R74): from O1.1 held, power the receiver and begin to hunt. -/
def effInstStart (c : Cmd) (s : State) : Res :=
  let i := c.req.index
  if (s.inst i).st = 0x10 then .ok [] (startHunt i (enterState i 0x11 s)) else .ok [] s

def execInstStart (q : CmdReq) (s : State) : State := runCmd specInstStart effInstStart q s

def specInstStop : CmdSpec := instSpec 0x0202 (fun q _ => lenIs 0 q)

/-- INST_STOP (R74): completes when the laser is dark, at the end of a burst already launching. -/
def effInstStop (c : Cmd) (s : State) : Res :=
  let i := c.req.index
  let s := stopInstance i s
  if (s.inst i).laserOn then .later s else .ok [] s

def execInstStop (q : CmdReq) (s : State) : State := runCmd specInstStop effInstStop q s

/-- INST_STATUS.LIG_STATE. -/
def ligState (i : Nat) (s : State) : Nat :=
  match s.lig.phase with
  | .none => 0
  | .negotiating | .accepted => if s.lig.proposed.contains i then 1 else 0
  | .active | .stopping =>
    if !s.lig.members.contains i then 0
    else if s.lig.suspended.contains i then 3
    else if anchorOf (s.lig.members.filter (fun j => !s.lig.suspended.contains j)) s = some i then 4 else 2

/-- INST_STATUS. -/
def instStatus (i : Nat) (s : State) : Nat :=
  let x := s.inst i
  ligState i s * 2 ^ 20 + b2n x.txLocked * 2 ^ 19 + b2n x.rxLocked * 2 ^ 18 + x.mode * 2 ^ 16 +
    b2n x.onuId.isSome * 2 ^ 15 + x.usRate * 2 ^ 12 + x.st

/-- INST_IDS. -/
def instIds (i : Nat) (s : State) : Nat :=
  let x := s.inst i
  x.onuId.getD 0 % 1024 * 2 ^ 16 + x.usChId % 256 * 2 ^ 8 + x.dsChId % 256

/-- A grid index as its 16-bit field; 0x8000 without a target. -/
def gridField (g : Option Int) : Nat := match g with | some g => unsigned 16 g | none => 0x8000

/-- INST_GRID. -/
def instGrid (i : Nat) (s : State) : Nat := gridField (s.inst i).txGrid * 2 ^ 16 + gridField (s.inst i).rxGrid

/-- INST_LIG. -/
def instLig (s : State) : Nat :=
  if s.lig.phase = .active ∨ s.lig.phase = .stopping then
    maskOf (s.lig.members.filter (fun i => !s.lig.suspended.contains i)) * 2 ^ 20 + maskOf s.lig.members * 2 ^ 16 + s.lig.token
  else 0

/-- VSSN of instance i (R72). -/
def vssnOf (i : Nat) (s : State) : Nat := s.fuse.vssnBase.toNat % 2 ^ 30 * 4 + i

def specInstQuery : CmdSpec := { instSpec 0x0203 (fun q _ => lenIs 0 q) with reads := true }

/-- INST_QUERY (R91). -/
def effInstQuery (c : Cmd) (s : State) : Res :=
  let i := c.req.index
  .ok (le 4 (instStatus i s) ++ le 4 (instIds i s) ++ le 4 (instGrid i s) ++ le 4 (s.inst i).eqd ++
    (s.inst i).cfg.bytes ++ le 4 (vssnOf i s)) s

def execInstQuery (q : CmdReq) (s : State) : State := runCmd specInstQuery effInstQuery q s

def specSetRegistrationId : CmdSpec := instSpec 0x0204 (fun q _ => lenIs 36 q)

/-- SET_REGISTRATION_ID (R72). -/
def effSetRegistrationId (c : Cmd) (s : State) : Res :=
  .ok [] (s.modInst c.req.index (fun x => { x with regId := c.req.body }))

def execSetRegistrationId (q : CmdReq) (s : State) : State := runCmd specSetRegistrationId effSetRegistrationId q s

/-! ## Downstream PLOAM (03 R74, R76–R81) -/

/-- BURST_PROFILE (R77): a repeat changes nothing; other content replaces the old. -/
def execBurstProfile (i : Nat) (m : PloamRx) (index psbu : Nat) (fec fits : Bool) (s : State) : State :=
  withPloam i m (fun s =>
    let n : BurstProfile := { stored := true, valid := fits, fec, psbu }
    if SMap.get {} (s.inst i).burst index = n then s
    else tryProfiles i false (s.modInst i (fun x => { x with burst := SMap.set {} x.burst index n }))) s

/-- VENDOR_ID, the ASCII bytes "DNTN" (R72). -/
def vendorId : Word := 0x444E544E

/-- ASSIGN_ONU_ID in O2-3 with the own serial number: the ONU-ID, slot 0 with the default Alloc-ID (05 R129), TO1, O4. -/
def execAssignOnuId (i : Nat) (m : PloamRx) (vendor vssn : Word) (onuId : Nat) (s : State) : State :=
  withPloam i m (fun s =>
    if (s.inst i).st = 0x23 ∧ vendor = vendorId ∧ vssn.toNat = vssnOf i s then
      let s := releaseSlot (256 * i) s
      let s := s.setAlloc (256 * i) { s.alloc (256 * i) with allocId := some onuId }
      enterState i 0x40 (s.modInst i (fun x => { x with onuId := some onuId, to1 := some (ownTick s) }))
    else s) s

/-- The state entered on the way into operation: a re-entry may be a flap (R83). -/
def enterO5 (i sub : Nat) (s : State) : State := noteEntry i (enterState i sub s)

/-- RANGING_TIME (R81, Table 3.4): accepted up to EQD_LIMIT, in force once its Acknowledge has been sent. -/
def execRangingTime (i : Nat) (m : PloamRx) (eqd : Int) (relative : Bool) (s : State) : State :=
  withPloam i m (fun s =>
    let x := s.inst i
    let v : Int := if relative then x.eqd + eqd else eqd
    let good : Bool := decide (0 ≤ v ∧ v ≤ x.cfg.eqdLimit)
    let ack : UpItem := { msg := .acknowledge 0 m.seqno, eqd := some v.toNat }
    if x.st = 0x40 then
      if good then enterO5 i 0x51 (sendOwn i ack (s.modInst i (fun x => { x with to1 := none })))
      else count .eqdRefused i (acknowledge i 1 m.seqno s)
    else if x.inO5 || decide (x.st = 0x90) then
      if good then sendOwn i ack s else count .eqdRefused i s
    else s) s

/-- DEACTIVATE_ONU_ID (Table 3.4). -/
def execDeactivateOnuId (i : Nat) (m : PloamRx) (s : State) : State :=
  withPloam i m (fun s =>
    let x := s.inst i
    if x.st = 0x40 then dropIdentity i (enterState i 0x23 s)
    else if x.inO5 then
      dropIdentity i (removeMember i (noteExit i (enterState i 0x23 (s.modInst i (fun x => { x with to5 := none, tune := none })))))
    else s) s

/-- DISABLE_SERIAL_NUMBER (Table 3.4): disable leads to O7 with the laser dark, enable from O7 to O1.1. -/
def execDisableSerialNumber (i : Nat) (m : PloamRx) (vendor vssn : Word) (enable : Bool) (s : State) : State :=
  withPloam i m (fun s =>
    let x := s.inst i
    if vendor = vendorId ∧ vssn.toNat = vssnOf i s then
      if enable then (if x.st = 0x70 then enterO11 i s else s)
      else if [0x23, 0x40, 0x51, 0x52, 0x60, 0x81, 0x82, 0x90].contains x.st then
        let s := if x.inO5 || decide (x.st = 0x60) then noteExit i s else s
        let s := removeMember i (enterState i 0x70 s)
        laserOff i (dropIdentity i (s.modInst i (fun x =>
          { x with tune := none, to2 := none, to3 := none, to4 := none, to5 := none })))
      else s
    else s) s

/-- CHANNEL_PROFILE (R78, Table 3.7): of two different contents of one index in one tick the first stands; one that is not
usable is counted when it is stored. A System_Profile is stored. -/
def execChannelProfile (i : Nat) (m : PloamRx) (profile : Option Profile) (raw : Bytes) (s : State) : State :=
  withPloam i m (fun s =>
    match profile with
    | none => s.modInst i (fun x => { x with sysProfile := raw })
    | some p =>
      let x := s.inst i
      let n : StoredProfile := { profile := p, usable := profileUsable x p, tick := ownTick s }
      let others := x.profiles.filter (fun e => e.profile.index ≠ p.index)
      match x.profiles.find? (fun e => decide (e.profile.index = p.index)) with
      | some old =>
        if old.profile = p then
          s.setInst i { x with profiles := x.profiles.map (fun e =>
            if e.profile.index = p.index then { e with usable := n.usable, tick := ownTick s } else e) }
        else if old.tick = ownTick s then count .channelProfileConflict i s
        else
          let s := if n.usable then s else count .channelProfileUnusable i s
          tryProfiles i false (s.modInst i (fun x => { x with profiles := others ++ [n] }))
      | none =>
        let s := if n.usable then s else count .channelProfileUnusable i s
        tryProfiles i false (s.modInst i (fun x => { x with profiles := others ++ [n] }))) s

/-- TUNING_CONTROL (R79): in O5.1 an acceptable target leads to O5.2, any other is refused. -/
def execTuningControl (i : Nat) (m : PloamRx) (req : TuneReq) (s : State) : State :=
  withPloam i m (fun s =>
    let x := s.inst i
    if x.st = 0x51 then
      let reason :=
        if !profileUsable x req.profile then 1
        else if rxHeld i req.profile.dsGrid s || txHeld i req.profile.usGrid s then 2 else 0
      if reason = 0 then
        enterState i 0x52 (sendOwn i { msg := .tuningResponse true 0 }
          (s.modInst i (fun x => { x with tune := some req, to5 := some (ownTick s) })))
      else count .tuningNack i (sendOwn i { msg := .tuningResponse false reason } s)
    else s) s

/-- TUNING_EXECUTE (Table 3.4): at the stated superframe upstream stops and receiver and laser tune to the target; one that
another instance has come to hold is not taken (R70). -/
def execTuningExecute (i : Nat) (s : State) : State :=
  let x := s.inst i
  match x.tune with
  | none => s
  | some t =>
    if x.st = 0x52 ∧ x.sync.state = 2 ∧ x.sync.sfc = t.superframe then
      let s := removeMember i (enterState i 0x81 s)
      let s := dropBurstProfiles i (abortReassembly i false s)
      let s := takeRx i t.profile.dsGrid false s
      let s := if txHeld i t.profile.usGrid s then laserOff i (raise .usWlConflict 1 i 0 s) else takeTx i t.profile.usGrid s
      s.modInst i (fun x => { x with to3 := some (ownTick s), to4 := some (ownTick s), to5 := none,
                                     sync := { x.sync with state := 0, misses := 0, kept := none } })
    else s

/-- TUNING_TARGET_PLOAM: in O9, to the own ONU-ID, with the laser locked, tuning is complete (Table 3.4). -/
def execTuningTargetPloam (i : Nat) (m : PloamRx) (s : State) : State :=
  withPloam i m (fun s =>
    let x := s.inst i
    if x.st = 0x90 ∧ x.onuId = some m.onuId ∧ x.txLocked then
      enterO5 i 0x51 (s.modInst i (fun x => { x with to4 := none, tune := none }))
    else s) s

/-- ADJUST_TX_WAVELENGTH (R79): an adjustment in 0.5 GHz, which moves the offset from the grid position in the next tick, after those of
this tick before it; one whose offset lies beyond ±10 GHz is refused. -/
def execAdjustTxWavelength (i : Nat) (m : PloamRx) (halfGhz : Int) (s : State) : State :=
  withPloam i m (fun s =>
    let v := (s.inst i).fineNext.getD (s.inst i).fine + halfGhz
    if v.natAbs ≤ 20 then s.modInst i (fun x => { x with fineNext := some v })
    else count .txAdjustRefused i (acknowledge i 1 m.seqno s)) s

/-- PROTECTION_CONTROL (Tables 3.4, 3.5): in O5.1 the pair is stored and O5.2 entered; always copied to the host. -/
def execProtectionControl (i : Nat) (m : PloamRx) (pair : Nat) (raw : Bytes) (s : State) : State :=
  withPloam i m (fun s =>
    deliverPloam i raw
      (if (s.inst i).st = 0x51 then
        enterState i 0x52 (acknowledge i 0 m.seqno
          (s.modInst i (fun x => { x with protPair := some pair, to5 := some (ownTick s) })))
      else s)) s

/-- REQUEST_REGISTRATION (R72, Table 3.5): Registration; the registration ID is the one set when it is sent, all zero before any was. -/
def execRequestRegistration (i : Nat) (m : PloamRx) (s : State) : State :=
  withPloam i m (fun s =>
    if (s.inst i).onuId.isSome then sendOwn i { msg := .registration (fit 36 (s.inst i).regId) } s else s) s

/-- The contexts of an instance. -/
def ctxsOf (i : Nat) : List Nat := (List.range 256).map (fun k => 256 * i + k)

/-- Is a context named as a reservoir (05 R143)? -/
def namedReservoir (c : Nat) (s : State) : Bool :=
  s.allocs.any (fun e => (decide (e.2.cfg.feed = 2) && decide (e.2.cfg.reservoir = c)) ||
    (match e.2.next with | some n => decide (n.feed = 2) && decide (n.reservoir = c) | none => false))

/-- ASSIGN_ALLOC_ID (05 R129): the lowest free slot that is no reservoir; a full instance refuses; a deallocation frees the
slot at the next tick edge; the default Alloc-ID stays while the ONU-ID does. -/
def execAssignAllocId (i : Nat) (m : PloamRx) (allocId : Nat) (assign : Bool) (s : State) : State :=
  withPloam i m (fun s =>
    let holder := (ctxsOf i).find? (fun c => decide ((s.alloc c).allocId = some allocId) && !(s.alloc c).freed)
    if (s.inst i).onuId.isNone then s
    else if assign then
      match holder with
      | some _ => s
      | none =>
        match (ctxsOf i).find? (fun c => decide ((s.alloc c).allocId = none) && !namedReservoir c s) with
        | some c =>
          raise .allocAssigned 1 i (c % 256 + 256 * allocId) (s.setAlloc c { s.alloc c with allocId := some allocId })
        | none => count .allocNoRoom i (s.modInst i (fun x => { x with recent := (allocId :: x.recent).take 64 }))
    else
      match holder with
      | some c => if c % 256 = 0 then s else s.setAlloc c { s.alloc c with freed := true }
      | none => s) s

/-- The slot bound to a PON key use of an instance (13 R332). -/
def ponSlot (i kind : Nat) (s : State) : Option Nat := SMap.get none s.cipher.pon (6 * i + kind)

/-- The key of a slot. -/
def keySlot (n : Nat) (s : State) : KeySlot := SMap.get {} s.cipher.slots n

/-- Is a PON key loaded: bound to a slot that is not empty (13 R327)? -/
def ponKeyLoaded (i kind : Nat) (s : State) : Bool :=
  match ponSlot i kind s with
  | some n => (keySlot n s).loaded
  | none => false

/-- KEY_CONTROL (13 R333): a new unicast key from the random source into the bound slot, reported encrypted under the KIND 1
key, and taken up at the standard's switch-over point; refused where the index is in upstream use, its slot is unbound or
KIND 1 is empty. The key is a free value; the report is the standard's function of both keys. -/
def execKeyControl (i : Nat) (m : PloamRx) (index : Nat) (s : State) : State :=
  withPloam i m (fun s =>
    match ponSlot i (2 + index) s with
    | some n =>
      if (s.inst i).usKeyIndex = index + 1 ∨ ponKeyLoaded i 1 s = false then
        count .ponKeyRefused i (sendOwn i { msg := .keyReport (index + 1) [] } s)
      else
        let (k, s) := takeFree 128 s
        let kek := ((ponSlot i 1 s).map (fun m => (keySlot m s).key.take 16)).getD []
        let s := storeKey n { loaded := true, aes256 := false, key := le 16 k } s
        let s := sendOwn i { msg := .keyReport (index + 1) (Config.keyReport kek (le 16 k)) }
          (s.modInst i (fun x => { x with usKeyNext := some (index + 1) }))
        raise .ponKeyNew 1 i (index + 1) s
    | none => count .ponKeyRefused i (sendOwn i { msg := .keyReport (index + 1) [] } s)) s

/-- SLEEP_ALLOW (16 R375). -/
def execSleepAllow (i : Nat) (m : PloamRx) (on : Bool) (s : State) : State :=
  withPloam i m (fun s => s.modInst i (fun x => { x with sleepAllowed := on })) s

/-- CHANGE_POWER_LEVEL (21 R458): one level up or down within 0–2, or refused. -/
def execChangePowerLevel (i : Nat) (m : PloamRx) (up : Bool) (s : State) : State :=
  withPloam i m (fun s =>
    let p := (s.inst i).power
    if up && decide (p < 2) then s.modInst i (fun x => { x with power := p + 1 })
    else if !up && decide (0 < p) then s.modInst i (fun x => { x with power := p - 1 })
    else acknowledge i 1 m.seqno s) s

/-- POWER_CONSUMPTION_INQUIRE (Table 3.5): the report's share of present power is a free value. -/
def execPowerConsumptionInquire (i : Nat) (m : PloamRx) (s : State) : State :=
  withPloam i m (fun s =>
    let (v, s) := takeFree 32 s
    sendOwn i { msg := .powerReport v } s) s

/-- PLOAM_RX (R76): a message that the device does not handle goes to the host; a ligature message of an unknown subtype, or of a
LIG_VERSION other than 1 (log 317), is discarded and counted (Table 3.7). -/
def execPloamRx (i : Nat) (m : PloamRx) (raw : Bytes) (s : State) : State :=
  withPloam i m (fun s =>
    if u8 raw 2 = 0xD5 ∧ beNat (slice raw 4 2) = 0x0D5E then count .ligPloamIgnored i s else deliverPloam i raw s) s

/-! ## Timers (03 R75) -/

/-- A timer of n ticks has run out, and the tick of its expiry is over, in which an event that would stop it overrules it (R75). -/
def ranOut (n : Nat) (t : Option Word) (s : State) : Bool :=
  match t with
  | some t => decide (n < ticksSince t s)
  | none => false

/-- TO1_EXPIRY in O4, in units of 100 ms (800 ticks). -/
def execTo1Expiry (i : Nat) (s : State) : State :=
  let x := s.inst i
  if x.st = 0x40 ∧ ranOut (800 * x.cfg.to1) x.to1 s then dropIdentity i (enterState i 0x23 s) else s

/-- TO2_EXPIRY in O6, in units of 10 ms (80 ticks). -/
def execTo2Expiry (i : Nat) (s : State) : State :=
  let x := s.inst i
  if x.st = 0x60 ∧ ranOut (80 * x.cfg.to2) x.to2 s then
    removeMember i (dropIdentity i (enterO11 i (noteExit i s)))
  else s

/-- TO3_TO4_EXPIRY during tuning: TUNING_FAILED and O1.1 (Table 3.4); in O9 only TO4 runs and ONU-ID and EqD are not named. -/
def execTo3To4Expiry (i : Nat) (s : State) : State :=
  let x := s.inst i
  match x.tune with
  | none => s
  | some t =>
    let ended := ranOut t.to3 x.to3 s || ranOut t.to4 x.to4 s
    if (x.st = 0x81 ∨ x.st = 0x82) ∧ ended then
      raise .tuningFailed 1 i 0 (dropIdentity i (enterO11 i s))
    else if x.st = 0x90 ∧ ranOut t.to4 x.to4 s then raise .tuningFailed 1 i 0 (enterO11 i s)
    else s

/-- TO5_EXPIRY in O5.2, in units of 10 ms (80 ticks). -/
def execTo5Expiry (i : Nat) (s : State) : State :=
  let x := s.inst i
  if x.st = 0x52 ∧ ranOut (80 * x.cfg.to5) x.to5 s then
    enterState i 0x51 (s.modInst i (fun x => { x with to5 := none, tune := none }))
  else s

end Sys2Proof.Machine
end

