-- ==== Sys2Proof/Machine/Ligature.lean ====
section
/-!
DEFINITION. Ligature negotiation and the group's life (03 R85–R90, R93).
-/

namespace Sys2Proof.Machine

/-! ## Proposal (R86) -/

/-- BODY of LIG_PROPOSE (Table 3.9). -/
def proposeBody (s : State) : Bytes :=
  be 2 s.lig.token ++ le 1 s.lig.proposed.length ++ [64, 20, 0] ++
    (s.lig.proposed.map (fun i =>
      let x := s.inst i
      be 2 (x.onuId.getD 0) ++ le 1 x.dsChId ++ le 1 x.usChId ++ le 1 x.usRate ++ [0])).flatten

/-- Queue LIG_PROPOSE on the anchor; its wait starts when it is sent. -/
def propose (s : State) : State :=
  match anchorOf s.lig.proposed s with
  | some a =>
    sendOwn a { msg := .vendor 0x01 (fit 32 (proposeBody s)), propose := true }
      { s with lig := { s.lig with proposals := s.lig.proposals + 1, proposedAt := none } }
  | none => s

def badLigStart (p : Bytes) : Bool := decide (15 < u8 p 0) || decide (popcount 4 (u8 p 0) < 2) || !allZero (slice p 1 3)

def specLigStart : CmdSpec := { op := 0x0205, check := params 4 (fun q _ => badLigStart q.body) }

/-- LIG_START (R86, R93). -/
def effLigStart (c : Cmd) (s : State) : Res :=
  let members := bitsOf 4 (u8 c.req.body 0)
  if s.lig.phase ≠ .none ∨ members.all (fun i => (s.inst i).inO5) = false then .fail .busyRetry s
  else
    let (v, s) := takeFree 16 s
    .later (propose { s with lig := { s.lig with phase := .negotiating, token := 1 + v % 65535, proposed := members, proposals := 0 } })

def execLigStart (q : CmdReq) (s : State) : State := runCmd specLigStart effLigStart q s

/-- LIG_PROPOSE_TIMEOUT (R86): after 8,000 ticks without an answer the proposal is sent again, up to three in all. -/
def execLigProposeTimeout (s : State) : State :=
  if s.lig.phase = .negotiating ∧ ranFor 8000 s.lig.proposedAt s then
    if s.lig.proposals < 3 then propose s else endNegotiation 1 (raise .ligatureUnanswered 0 0 0 s)
  else s

/-! ## The head end's answers (R87) -/

/-- A ligature message without meaning is discarded and counted (Table 3.7). -/
def ligIgnored (i : Nat) (s : State) : State := count .ligPloamIgnored i s

/-- The anchor of the negotiation or the group. The head end's ligature messages come on it (Table 3.9); one that comes on another
instance has no meaning there (Table 3.7; DESIGN CHOICE, log 320). -/
def ligAnchor (s : State) : Option Nat :=
  anchorOf ((if s.lig.members.isEmpty then s.lig.proposed else s.lig.members).filter (fun i => !s.lig.suspended.contains i)) s

/-- LIG_ACCEPT (R87): acknowledged; fewer than two members, or a start less than 8 or more than 8,000 frames ahead, ends in
LIG_RELEASE; else the group waits for its start. -/
def execLigAccept (i : Nat) (m : PloamRx) (token mask startSfc first n : Nat) (s : State) : State :=
  withPloam i m (fun s =>
    if s.lig.phase = .negotiating ∧ s.lig.token = token ∧ ligAnchor s = some i then
      let s := acknowledge i 0 m.seqno s
      let members := s.lig.proposed.filter (fun j => bit mask (memberIndex j s))
      let ahead := signed 32 (startSfc + 2 ^ 32 - (s.inst i).sync.sfc % 2 ^ 32)
      if members.length < 2 then endNegotiation 5 (sendRelease 2 s)
      else if ahead < 8 ∨ 8000 < ahead then endNegotiation 3 (sendRelease 3 s)
      else { s with lig := { s.lig with phase := .accepted, members, startSfc, portFirst := first, portCount := n } }
    else ligIgnored i s) s

/-- LIG_GROUP_ACTIVATE (R87): at the anchor's frame whose counter is START_SFC the group becomes active, both sequences
begin at 0 (04 R108, 05 R137), and LIG_START completes. -/
def execLigGroupActivate (s : State) : State :=
  match ligAnchor s with
  | some a =>
    if s.lig.phase = .accepted ∧ (s.inst a).sync.state = 2 ∧ (s.inst a).sync.sfc % 2 ^ 32 = s.lig.startSfc then
      let g := s.lig
      let s : State := { s with lig := { g with phase := .active, usNext := 0, dsNext := 0, held := [], outRun := 0, resync := false,
                                                partOpen := false, partData := [], lastSeq := [],
                                                lastPs := g.members.foldl (fun l i => SMap.set 0 l i s.clk.nowPs) [] } }
      let s := g.members.foldl (fun s i => markBonded true i s) s
      let s := finishLigStart 0 (maskOf g.members) g.token s.clk.tick s
      g.suspended.foldl (fun s i => sendStatus 1 i s) s
    else s
  | none => s

/-- LIG_REJECT (R87). -/
def execLigReject (i : Nat) (m : PloamRx) (token : Nat) (s : State) : State :=
  withPloam i m (fun s =>
    if s.lig.phase = .negotiating ∧ s.lig.token = token ∧ ligAnchor s = some i then endNegotiation 2 (raise .ligatureRejected 0 0 0 s)
    else ligIgnored i s) s

/-- The group dissolves; its members stay in operation and run independently, and bursts that they have prepared launch (R89). -/
def dissolveGroup (s : State) : State := finishLigStop (dissolve s)

/-- LIG_RELEASE from the head end dissolves the group, one that has been formed and is not active yet too (R87, R89); LIG_START then answers
as for a rejection (DESIGN CHOICE, log 321). -/
def execLigRelease (i : Nat) (m : PloamRx) (token : Nat) (s : State) : State :=
  withPloam i m (fun s =>
    if s.lig.token = token ∧ ligAnchor s = some i then
      match s.lig.phase with
      | .active | .stopping => dissolveGroup s
      | .accepted => endNegotiation 2 s
      | _ => ligIgnored i s
    else ligIgnored i s) s

/-- LIG_MEMBER_REJOIN (R88): at the tick edge after its return to O5 a member rejoins; it counts as not past a gap until it
delivers or its timeout runs out (04 R110). -/
def execLigMemberRejoin (i : Nat) (s : State) : State :=
  match s.lig.rejoin.find? (fun e => decide (e.1 = i)) with
  | some (_, t) =>
    if t ≠ ownTick s ∧ (s.inst i).inO5 then
      let g := s.lig
      sendStatus 2 i { s with lig := { g with rejoin := g.rejoin.filter (fun e => e.1 ≠ i), suspended := g.suspended.filter (· ≠ i),
                                              lastSeq := SMap.set none g.lastSeq i none, lastPs := SMap.set 0 g.lastPs i s.clk.nowPs } }
    else s
  | none => s

/-! ## Stop (R90) -/

def specLigStop : CmdSpec := { op := 0x0206, check := fun q _ => lenIs 0 q }

/-- LIG_STOP (R90, R93): LIG_RELEASE with REASON 1; a negotiation ends at once. -/
def effLigStop (_ : Cmd) (s : State) : Res :=
  match s.lig.phase with
  | .none => .fail .notFound s
  | .negotiating | .accepted => .ok [] (endNegotiation 6 (sendRelease 1 s))
  | .stopping => .later s
  | .active =>
    .later (releaseOnAnchor { s with lig := { s.lig with phase := .stopping, stopAt := none, stopBy := none, ackAt := none } })

def execLigStop (q : CmdReq) (s : State) : State := runCmd specLigStop effLigStop q s

/-- LIG_RELEASE_ACK (R90): the head end's Acknowledge, to the instance that sent the release; ligature ends from the next tick on. -/
def execLigReleaseAck (i : Nat) (m : PloamRx) (s : State) : State :=
  withPloam i m (fun s =>
    if s.lig.phase = .stopping ∧ s.lig.stopAt.isSome ∧ s.lig.stopBy = some i then
      { s with lig := { s.lig with ackAt := some (ownTick s) } }
    else s) s

/-- Ligature headers stop: what has been begun is still completed with them (R90). -/
def ligStops (s : State) : State := finishLigStop (dissolve s)

/-- LIG_STOP_TIMEOUT (R90): 64 ticks after the release was sent. -/
def execLigStopTimeout (s : State) : State :=
  if s.lig.phase = .stopping ∧ ranFor 64 s.lig.stopAt s then ligStops s else s

end Sys2Proof.Machine
end

