-- ==== Sys2Proof/Machine/TimeOps.lean ====
section
/-!
DEFINITION. Timebases and what stands on them (12): the value at an instant and the instant of a value, steps and rates,
servo samples, TB0's source and correction, PTP records, and the stamps of PHY frames.
-/

namespace Sys2Proof.Machine

/-! ## Value and instant (R305, R306) -/

/-- Units of 2⁻¹⁶ ns in a nanosecond and in a second; a timebase wraps after 2⁴⁸ seconds. -/
def nsUnits : Nat := 65536
def secUnits : Nat := 65536000000000
def tbWrap : Nat := 2 ^ 48 * secUnits

def State.timebase (s : State) (n : Nat) : Tbase := SMap.get {} s.tb n
def State.setTimebase (n : Nat) (t : Tbase) (s : State) : State := { s with tb := SMap.set {} s.tb n t }

/-- The time clock ticks every 0.8 ns. -/
def clockPs (ps : Nat) : Nat := ps / 800 * 800

/-- RATE as a factor of the nominal speed, in units of 1/256 ppb over 256 × 10⁹. -/
def speedOf (rate : Int) : Nat := (256000000000 + rate).toNat
def Tbase.speed (t : Tbase) : Nat := speedOf t.rate

/-- What a RATE counts in so many picoseconds. -/
def counted (rate : Int) (ps : Nat) : Nat := ps * nsUnits * speedOf rate / 256000000000000

/-- The value at an instant, in units of 2⁻¹⁶ ns. A change of RATE counts from the clock after it, the clocks before by the RATE
they had (R306); the scale after a step is the one it is extended back to. -/
def Tbase.at_ (t : Tbase) (ps : Nat) : Nat :=
  if clockPs ps < t.atPs then (t.base + tbWrap - counted t.rateWas (t.atPs - clockPs ps) % tbWrap) % tbWrap
  else (t.base + counted t.rate (clockPs ps - t.atPs)) % tbWrap

/-- The instant, not before now, at which a timebase reaches a value that lies ahead. -/
def Tbase.instantOf (t : Tbase) (now v : Nat) : Nat :=
  let ahead := v - t.at_ now
  if ahead = 0 then now else now + ((ahead * 256000000000000 + nsUnits * t.speed - 1) / (nsUnits * t.speed) + 799) / 800 * 800

def tbNow (n : Nat) (s : State) : Nat := (s.timebase n).at_ s.clk.nowPs

/-- The clock after the present one. -/
def nextClock (s : State) : Nat := clockPs s.clk.nowPs + 800

/-- Where the time clock takes its frequency from (R306, R307). -/
inductive ClockFrom where
  /-- The downstream line clock of the tick channel. -/
  | line (i : Nat)
  /-- The source that the tick generator follows. -/
  | followed
  /-- The last frequency measured before HOLDOVER. -/
  | measured
  /-- The MEMS reference. -/
  | mems
  /-- REFCLK_IN at the nominal frequency that REFCLK_SEL names. -/
  | refclk (sel : Nat)
  deriving DecidableEq, Repr

def clockFrom (s : State) : ClockFrom :=
  match s.clk.state with
  | .locked | .slewing => .line s.clk.channel
  | .following => .followed
  | .holdover => if s.time.refValid then .refclk s.time.refSel else .measured
  | .free => if s.time.refValid then .refclk s.time.refSel else .mems

/-- A time value (Table 12.1). -/
def timeValue (v : Nat) : Bytes :=
  le 4 (v / nsUnits % 1000000000) ++ le 2 (v % nsUnits) ++ le 6 (v / secUnits)

/-- The value that a time value of a command holds. -/
def timeOf (p : Bytes) (k : Nat) : Nat := u48 p (k + 6) * secUnits + u32 p k * nsUnits + u16 p (k + 4)

/-- NS of a time value is out of range. -/
def badTime (p : Bytes) (k : Nat) : Bool := decide (1000000000 ≤ u32 p k)

/-- The time value beside a TIME_S and TIME_N pair. -/
def timeOfFields (sec ns frac : Nat) : Nat := sec * secUnits + ns * nsUnits + frac

/-! ## Steps and rates (R306, R308) -/

/-- A step of TB0 makes every current performance bin SUSPECT (11 R302). -/
def suspectBins (s : State) : State :=
  { s with pms := s.pms.map (fun e => (e.1, e.2.map (fun p =>
      { p with cur15 := { p.cur15 with suspect := true }, cur24 := { p.cur24 with suspect := true } }))) }

/-- A period of SYNC_OUT in units of 2⁻¹⁶ ns. -/
def syncPeriod : Nat := 40 * nsUnits

/-- How far SYNC_OUT's phase lies ahead of its timebase while that reads v (R317). -/
def syncAhead (v : Nat) (s : State) : Nat := if s.time.syncSec = some (v / secUnits) then s.time.syncSkew else 0

/-- A step of SYNC_OUT's timebase from `old` to `new` leaves the phase as it was until the next whole second (R317). -/
def keepPhase (old new : Nat) (s : State) : State :=
  let ahead := if new % secUnits = 0 then 0
    else (old % syncPeriod + syncAhead old s + (syncPeriod - new % syncPeriod)) % syncPeriod
  { s with time := { s.time with syncSec := some (new / secUnits), syncSkew := ahead } }

/-- An edge and a step of its timebase in the same clock: the record of the edge holds the stepped value (R318). -/
def restamp (n ps v : Nat) (s : State) : State :=
  { s with captures := s.captures.map (fun e =>
      let x := e.2
      if x.timebase = n ∧ x.lastPs.map clockPs = some ps then
        (e.1, { x with queue := x.queue.dropLast ++ (x.queue.getLast?.map (fun r => (v, r.2))).toList })
      else e) }

/-- Step a timebase to the value it has in the clock at an instant (R308). -/
def stepTo (n v ps : Nat) (s : State) : State :=
  let t := s.timebase n
  let v := v % tbWrap
  let s := if (SMap.get {} s.outputs 9).cfg.timebase = n then keepPhase (t.at_ ps) v s else s
  let s := restamp n ps v (if n = 0 then suspectBins s else s)
  raise .timeStepped 5 n 0 (s.setTimebase n { t with base := v, atPs := ps, stepped := t.stepped || decide (n < 2) })

/-- Step a timebase by a signed number of units in the clock at an instant. -/
def stepBy (n : Nat) (d : Int) (ps : Nat) (s : State) : State :=
  stepTo n ((((s.timebase n).at_ ps : Int) + d) % (tbWrap : Int)).toNat ps s

/-- Change RATE, which takes effect in the clock after (R306). -/
def setRate (n : Nat) (r : Int) (s : State) : State :=
  let t := s.timebase n
  s.setTimebase n { t with base := t.at_ (nextClock s), atPs := nextClock s, rate := r, rateWas := t.rate }

/-- Bring a signed value into ± bound. -/
def clampTo (bound v : Int) : Int := max (-bound) (min bound v)

/-- θ in ns, as TB_OFFSET holds it: signed, saturating. -/
def offsetNs (theta : Int) : Int := max (-2147483648) (min 2147483647 (theta / nsUnits))

/-! ## The servo (R311, R312, Table 12.3) -/

/-- A change of SERVO_STATE. -/
def servoState (n st : Nat) (s : State) : State :=
  let t := s.timebase n
  if t.state = st then s
  else raise .servoState 5 n st (s.setTimebase n { t with state := st, inRun := 0, outRun := 0 })

/-- One sample of a servo, θ in units of 2⁻¹⁶ ns. -/
def servoTake (n : Nat) (theta : Int) (s : State) : State :=
  let t := s.timebase n
  if t.state = 0 then s
  else
    let c := t.servo
    let s := s.setTimebase n { t with offset := offsetNs theta, samplePs := s.clk.nowPs }
    if c.stepEn && decide ((c.stepNs * nsUnits : Int) < theta.natAbs) then
      let s := servoState n 1 (stepBy n theta (clockPs s.clk.nowPs) s)
      s.setTimebase n { s.timebase n with inRun := 0 }
    else
      let bound : Int := c.maxPpm * 1000 * 2 ^ 32
      let i := clampTo bound (t.integ + c.ki * theta)
      let rate := clampTo bound (c.kp * theta + i) / 2 ^ 24
      let s := setRate n rate (s.setTimebase n { s.timebase n with integ := i })
      let within := decide (theta.natAbs ≤ c.lockNs * nsUnits)
      let t := s.timebase n
      match t.state with
      | 1 =>
        if within then
          if 8 ≤ t.inRun + 1 then servoState n 2 s else s.setTimebase n { t with inRun := t.inRun + 1 }
        else s.setTimebase n { t with inRun := 0 }
      | 2 =>
        if within then s.setTimebase n { t with outRun := 0 }
        else if 4 ≤ t.outRun + 1 then servoState n 1 s
        else s.setTimebase n { t with outRun := t.outRun + 1 }
      | _ => servoState n 1 s

/-- At each T0 the servos that follow a timebase take θ = TBm − TBn, all read in the same clock (R311). -/
def servoTick (s : State) : State :=
  let samples := [2, 3, 4, 5, 6, 7].filterMap (fun n =>
    let t := s.timebase n
    if t.servo.kind = 3 ∧ t.state ≠ 0 then some (n, (tbNow t.servo.index s : Int) - tbNow n s) else none)
  samples.foldl (fun s e => servoTake e.1 e.2 s) s

/-! ## TB0 (R309) -/

/-- TB0_SOURCE: 0 none, 1 PON, 2 manager, 3 partner. -/
def tb0Source (s : State) : Nat :=
  if s.dev.role = 2 ∧ s.role.delay.isSome then 2
  else if pairStandby s then 3
  else if s.time.ponSeen then 1 else 0

/-- One sample of TB0's source: stepped (0), corrected (1) or rejected (2). -/
def tb0Take (theta : Int) (s : State) : Nat × State :=
  let s := s.setTimebase 0 { s.timebase 0 with offset := offsetNs theta, samplePs := s.clk.nowPs }
  if (s.timebase 0).stepped = false then (0, stepBy 0 theta (clockPs s.clk.nowPs) s)
  else if theta.natAbs ≤ 1000000 * nsUnits then
    let rate := clampTo 2560000 (theta.tdiv 4096)
    let s := setRate 0 rate s
    if rate = 0 then (1, { s with time := { s.time with correcting := false } })
    else
      let wait := theta.natAbs * 256000000000000 / (nsUnits * rate.natAbs)
      (1, { s with time := { s.time with correcting := true, endPs := s.clk.nowPs + wait } })
  else (2, count .tb0OffsetRejected 0 (raise .timeOffsetRejected 5 0 0 s))

/-! ## Time of day from the PON (R310) -/

def State.todOf (s : State) (i : Nat) : Tod := SMap.get {} s.tod i
def State.setTod (i : Nat) (v : Tod) (s : State) : State := { s with tod := SMap.set {} s.tod i v }

/-- Keep the TB0 stamp of a PHY frame's first PSync bit, for PON_TODs that wait for it too; the last 64 are kept. -/
def stampFrame (i : Nat) (sfc : Nat) (s : State) : State :=
  let t := s.todOf i
  let v := tbNow 0 s
  s.setTod i { stamps := ((BitVec.ofNat 32 sfc, v) :: t.stamps).take 64
               waiting := t.waiting.map (fun w => if w.sfcLo = BitVec.ofNat 32 sfc ∧ !w.lost ∧ w.got = none then { w with got := some v } else w) }

/-- Sync is lost before the frames that PON_TODs wait for have arrived (R321). -/
def loseTod (i : Nat) (s : State) : State :=
  let t := s.todOf i
  if t.waiting = [] then s
  else s.setTod i { t with waiting := t.waiting.map (fun w => if w.got = none then { w with lost := true } else w) }

/-! ## PTP on host ports (R314) -/

def State.ptpOf (s : State) (h : Nat) : Ptp := SMap.get {} s.ptp h
def State.setPtp (h : Nat) (v : Ptp) (s : State) : State := { s with ptp := SMap.set {} s.ptp h v }

/-- The two bytes at an offset in network order. -/
def be16 (d : Bytes) (k : Nat) : Nat := u8 d k * 256 + u8 d (k + 1)

/-- Skip at most n VLAN tags: the offset of the EtherType. -/
def pastTags (d : Bytes) : Nat → Nat → Nat
  | 0, k => k
  | n + 1, k => if [0x8100, 0x88A8, 0x9100].contains (be16 d k) then pastTags d n (k + 4) else k

/-- Where a frame's PTP message begins: after EtherType 0x88F7, or UDP port 319 over IPv4 or bare IPv6. -/
def ptpMessage (d : Bytes) : Option Nat :=
  let k := pastTags d 2 12
  let ip := k + 2
  if be16 d k = 0x88F7 then some ip
  else if be16 d k = 0x0800 ∧ u8 d ip / 16 = 4 ∧ u8 d (ip + 9) = 17 ∧ be16 d (ip + 6) % 8192 = 0 ∧
      be16 d (ip + u8 d ip % 16 * 4 + 2) = 319 then some (ip + u8 d ip % 16 * 4 + 8)
  else if be16 d k = 0x86DD ∧ u8 d (ip + 6) = 17 ∧ be16 d (ip + 42) = 319 then some (ip + 48)
  else none

/-- Record a PTP event frame that a host port received, its start-of-frame delimiter at an instant (R313). -/
def ptpReceive (h : Nat) (d : Bytes) (sfdPs : Nat) (s : State) : State :=
  let x := s.ptpOf h
  match (if x.rxEn then ptpMessage d else none) with
  | none => s
  | some m =>
    if d.length < m + 34 ∨ u8 d (m + 1) % 16 ≠ 2 ∨ 3 < u8 d m % 16 then s
    else
      let r : PtpRec := { msg := u8 d m % 16, domain := u8 d (m + 4), seq := be16 d (m + 30), port := slice d (m + 20) 10,
                          time := (s.timebase x.timebase).at_ sfdPs }
      let s := if 64 ≤ x.ring.length then count .ptpRxTsOverwrite h s else s
      s.setPtp h { x with ring := (if 64 ≤ x.ring.length then x.ring.drop 1 else x.ring) ++ [r] }

end Sys2Proof.Machine
end

