-- ==== Sys2Proof/Machine/Downstream.lean ====
section
/-!
DEFINITION. Downstream reception (04): frame sync, FEC results, signal indications, XGEM frames up to the split, the
ligature reorder buffer, and the OMCI-class commands.
-/

namespace Sys2Proof.Machine

/-! ## Frame sync (R95–R98) -/

/-- Change what the sync machine of an instance holds. -/
def modSync (i : Nat) (f : Sync → Sync) (s : State) : State := s.modInst i (fun x => { x with sync := f x.sync })

/-- What LODS brings about in the activation state (03 Table 3.4). -/
def lodsState (i : Nat) (s : State) : State :=
  let x := s.inst i
  if x.st = 0x12 then enterO11 i (dropProfiles i s)
  else if x.st = 0x23 then enterO11 i s
  else if x.st = 0x40 then dropIdentity i (enterO11 i s)
  else if x.inO5 then
    let s := s.modInst i (fun y => { y with prevO5 := x.st, to2 := some (ownTick s) })
    suspendMember i (enterState i 0x60 (goDark i s))
  else s

/-- LODS: hunting again, partial units discarded and counted, SF asserted (R95, R98, R101), the state's own transition, and
the triggers of a switchover (15 R368). -/
def declareLods (i : Nat) (s : State) : State :=
  let ch := s.clk.channel
  let was := (s.inst i).inO5
  let s := modSync i (fun y => { y with state := 0, misses := 0, kept := none, badRun := 0, goodRun := 0, badNow := false }) s
  let s := setSf i true (abortReassembly i true (count .lodsCount i (loseTod i s)))
  let s := lodsState i (if s.pwr.state = .sampling then fireWake 4 s else s)
  checkSf (if was then checkFibreLoss ch s else s)

/-- Downstream sync state reached (03 Table 3.4). -/
def syncReached (i : Nat) (s : State) : State :=
  let x := s.inst i
  let s := if x.st = 0x11 ∨ x.st = 0x81 then refreshProfiles i s else s
  if x.st = 0x11 then tryProfiles i false (enterState i 0x12 s)
  else if x.st = 0x60 ∧ x.to2.isSome then
    let s := enterState i x.prevO5 (s.modInst i (fun y => { y with to2 := none }))
    if s.lig.suspended.contains i then { s with lig := { s.lig with rejoin := s.lig.rejoin ++ [(i, ownTick s)] } } else s
  else if x.st = 0x81 then tryProfiles i false (enterState i 0x82 (s.modInst i (fun y => { y with to3 := none })))
  else s

/-- A new PHY frame: what was lost with the last one no longer matters; a unit that got no fragment in the last FS payload
is discarded (R100, R103). -/
def newFrame (i : Nat) (intact : Bool) (s : State) : State :=
  let x := s.inst i
  let stale := (x.reasm.filter (fun e => e.2.active && !e.2.seen)).length
  let reasm := (x.reasm.filter (fun e => e.2.seen)).map (fun e => (e.1, { e.2 with seen := false }))
  let s := countN .dsReassemblyAbort i stale (s.modInst i (fun x => { x with reasm, mapSeen := true }))
  modSync i (fun y => { y with phyPs := s.clk.nowPs, intactPs := if intact then s.clk.nowPs else y.intactPs,
                               frameLost := false, mapLost := false, payloadLost := false }) s

/-- DS_PHY_FRAME (R95–R97, Table 4.2). -/
def execDsPhyFrame (i : Nat) (psync sfc : Option Nat) (here : Bool) (s : State) : State :=
  let x := s.inst i
  let y := x.sync
  if !x.rxLocked || !examines i s then s
  else if y.state = 0 then
    if psync = some 0 then
      modSync i (fun y => { y with state := 1, kept := sfc.map (· % 2 ^ 51), phyPs := s.clk.nowPs }) s
    else s
  else if y.state = 1 ∧ here then
    let good : Bool := decide (psync = some 0) && (match sfc, y.kept with
      | some v, some k => decide (v % 2 ^ 51 = (k + 1) % 2 ^ 51)
      | some _, none => true
      | none, _ => false)
    if good then
      let s := modSync i (fun y => { y with state := 2, misses := 0, sfc := sfc.getD 0 % 2 ^ 51, kept := none, winCorrected := 0, winBits := 0, winTicks := 0, badRun := 0, goodRun := 0, badNow := false }) s
      syncReached i (stampFrame i (sfc.getD 0) (newFrame i true s))
    else count .dsPsyncFalse i (modSync i (fun y => { y with state := 0, kept := none }) s)
  else if y.state = 2 ∧ here then
    let present : Bool := match psync with | some n => decide (n ≤ 2) | none => false
    let next := (y.sfc + 1) % 2 ^ 51
    let v := match sfc with | some v => v % 2 ^ 51 | none => next
    let s := newFrame i present s
    let s := stampFrame i v (modSync i (fun y => { y with misses := if present then 0 else y.misses + 1, sfc := v }) s)
    let s := if v = next then s else count .dsSfcMismatch i s
    if 3 ≤ (s.inst i).sync.misses then declareLods i s else s
  else s

/-- What of a PHY frame is lost with an uncorrectable codeword (Table 4.3): the HLend with map, partition and payload; the map, once.
A PLOAM message is lost, and counted, where its own row comes, and an XGEM frame likewise. -/
def loseContent (i : Nat) (c : CwContent) (s : State) : State :=
  let y := (s.inst i).sync
  let noMap := fun (s : State) => s.modInst i (fun x => { x with mapSeen := false, sync := { x.sync with mapLost := true } })
  match c with
  | .hlend =>
    if y.frameLost then s
    else count .dsHlendUncorr i (modSync i (fun y => { y with frameLost := true, payloadLost := true }) (noMap s))
  | .map => if y.mapLost then s else count .dsBwmapFecLost i (noMap s)
  | .ploam | .payload => s

/-- DS_CODEWORD (R99, R100): corrections are counted; everything of which a part lies in an uncorrectable codeword is lost by Table
4.3. The ratio of R101 is taken over all bits received, those of uncorrectable codewords included (DESIGN CHOICE, log 409). -/
def execDsCodeword (i : Nat) (corrected : Option Nat) (bits : Nat) (content : List CwContent) (s : State) : State :=
  if (s.inst i).sync.state ≠ 2 ∨ examines i s = false then s
  else
    match corrected with
    | some n =>
      let s := modSync i (fun y => { y with winCorrected := y.winCorrected + n, winBits := y.winBits + bits }) s
      if n = 0 then s else countN .dsBitsCorrected i n (count .dsCwCorrected i s)
    | none =>
      let s := count .dsCwUncorrectable i (modSync i (fun y => { y with badNow := true, winBits := y.winBits + bits }) s)
      content.foldl (fun s c => loseContent i c s) s

/-- DS_SIGNAL_WINDOW_END (R101, Table 4.4): SD at the end of a window of 8,000 ticks, SF after 8 ticks with, or 64 without,
an uncorrectable codeword. -/
def execDsSignalWindowEnd (i : Nat) (s : State) : State :=
  let y := (s.inst i).sync
  if y.state ≠ 2 then s
  else
    let s :=
      if 8000 ≤ y.winTicks then
        let s := if y.winBits < 1000 * y.winCorrected then setSd i true s
          else if 10000 * y.winCorrected < y.winBits then setSd i false s else s
        modSync i (fun y => { y with winTicks := 0, winCorrected := 0, winBits := 0 }) s
      else s
    if 8 ≤ y.badRun then checkSf (setSf i true s) else if 64 ≤ y.goodRun then setSf i false s else s

/-- What an instance's tick leaves for Table 4.4: one more tick of the window, and of the run with or without an
uncorrectable codeword. -/
def signalTick (i : Nat) (s : State) : State :=
  if (s.inst i).sync.state = 2 then
    modSync i (fun y => { y with winTicks := y.winTicks + 1, badRun := if y.badNow then y.badRun + 1 else 0,
                                 goodRun := if y.badNow then 0 else y.goodRun + 1, badNow := false }) s
  else s

/-! ## The reorder buffer (R108–R113) -/

/-- Bytes and fragments held; the buffer is full at 8,192 fragments or 2 MiB (R109). -/
def reorderFull (extra : Nat) (s : State) : Bool :=
  decide (8192 ≤ s.lig.held.length) || decide (2097152 < (s.lig.held.map (fun h => h.data.length)).sum + extra)

/-- Table 4.7, applied again after the gap is closed when the buffer is full, at most n times. -/
def arrive : Nat → Held → State → State
  | 0, _, s => s
  | n + 1, h, s =>
    let d := seqDiff h.seq s.lig.dsNext
    if d = 0 then
      let s := releaseFragment h { s with lig := { s.lig with dsNext := (s.lig.dsNext + 1) % 2 ^ 20, outRun := 0 } }
      releaseRun s.lig.held.length s
    else if d < 0 then count .ligDsLate 0 { s with lig := { s.lig with outRun := 0 } }
    else if d < 8192 then
      let s := { s with lig := { s.lig with outRun := 0 } }
      if s.lig.held.any (fun x => decide (x.seq = h.seq)) then count .ligDsDup 0 s
      else if reorderFull h.data.length s && !s.lig.held.isEmpty then
        arrive n h (closeGap (count .ligDsOverflowSkip 0 s))
      else { s with lig := { s.lig with held := s.lig.held ++ [h] } }
    else
      let s := count .ligDsOutOfWindow 0 { s with lig := { s.lig with outRun := s.lig.outRun + 1 } }
      if s.lig.outRun < 16 then s
      else
        let s := releaseAll (2 * s.lig.held.length) s
        raise .ligDsResync 0 0 0 { s with lig := { s.lig with
          outRun := 0, resync := true, partLost := s.lig.partOpen || s.lig.partLost, partOpen := false, partData := [] } }

/-- A fragment arrives on a bonded port of an active member (R109, R112; 05 R136). -/
def fragmentArrival (i port : Nat) (hd : LigHdr) (data : Bytes) (s : State) : State :=
  if !hd.versionOk then count .ligDsOutOfWindow 0 s
  else
    let seq := hd.seq % 2 ^ 20
    let g := s.lig
    let s : State := { s with lig := { g with lastSeq := SMap.set none g.lastSeq i (some seq), lastPs := SMap.set 0 g.lastPs i s.clk.nowPs,
                                              dsNext := if g.resync then seq else g.dsNext, resync := false } }
    arrive (s.lig.held.length + 2)
      { seq, first := hd.first, last := hd.last, member := i, atPs := s.clk.nowPs, port, data
        tag := flowTagOf i port s, phyPs := (s.inst i).sync.phyPs } s

/-- The group expects bonded fragments from an instance. -/
def expectsBonded (i : Nat) (s : State) : Bool :=
  (decide (s.lig.phase = .active) || decide (s.lig.phase = .stopping)) && s.lig.members.contains i && !s.lig.suspended.contains i

/-- LIG_FRAGMENT_ARRIVAL (R109). -/
def execLigFragmentArrival (i portId : Nat) (hd : LigHdr) (data : Bytes) (s : State) : State :=
  if expectsBonded i s && (SMap.get {} (s.inst i).ports portId).bonded && decide ((s.inst i).sync.state = 2) then
    fragmentArrival i portId hd data s
  else s

/-- The instant from which a member is past the gap (R110): the first of its fragments still held came, all of which lie beyond
NEXT_SEQ; or its last one lay beyond NEXT_SEQ; or it has delivered nothing for 31,250 ns. -/
def pastPs (i : Nat) (s : State) : Nat :=
  let last := SMap.get 0 s.lig.lastPs i
  match ((s.lig.held.filter (fun h => decide (h.member = i))).map (fun h => h.atPs)).min? with
  | some t => t
  | none =>
    match SMap.get none s.lig.lastSeq i with
    | some q => if 0 < seqDiff q s.lig.dsNext then last else last + 31250000
    | none => last + 31250000

/-- The oldest held fragment's instant. -/
def oldestHeld (s : State) : Option Nat := (s.lig.held.map (fun h => h.atPs)).min?

/-- The instant at which the gap closes while no fragment comes (R110): every active member is past it, or the oldest held fragment has been
held 64 µs. -/
def gapPs (oldest : Nat) (s : State) : Nat :=
  min (oldest + 64000000) ((activeMembers s).foldl (fun t i => max t (pastPs i s)) 0)

/-- LIG_GAP_CLOSE (R110, R111): the gap's closing instant is past, and so is its clock, in which a missing fragment that arrives keeps
the gap open. -/
def execLigGapClose (s : State) : State :=
  match oldestHeld s with
  | none => s
  | some t => if gapPs t s / 800 < s.clk.nowPs / 800 then closeGap s else s

/-! ## XGEM frames (R102–R105) -/

/-- The OMCC port of an instance, or the active's of a shadow (R104, 15 R362). -/
def isOmcc (i port : Nat) (s : State) : Bool :=
  decide ((s.inst i).onuId = some port) || (pairStandby s && decide (SMap.get none s.pair.shadowIds (256 * i) = some port))

/-- A Port-ID whose frames pass stage 5 (R104). -/
def portKnown (i port : Nat) (s : State) : Bool := isOmcc i port s || (SMap.get {} (s.inst i).ports port).bound

/-- A frame of a port is discarded, and with it the unit it belongs to: one that was not whole is counted (R103), of an unknown port only
one that had been begun; what follows of it is discarded too. -/
def breakUnit (i port : Nat) (lf : Bool) (s : State) : State :=
  let r := SMap.get {} (s.inst i).reasm port
  let begun := r.active || (!lf && !r.broken && portKnown i port s)
  let s := s.modInst i (fun x => { x with reasm := SMap.set {} x.reasm port (if lf then {} else { broken := true, seen := true }) })
  if begun then count .dsReassemblyAbort i s else s

/-- Stage 8: a whole unit goes to OMCI_RX, the reorder buffer or the pipeline (Table 4.1). What comes on a bonded port of a suspended
member goes to the pipeline as an ordinary frame, header included, as on a former bonded port (DESIGN CHOICE, log 410). -/
def splitUnit (i port : Nat) (secure : Bool) (data : Bytes) (s : State) : State :=
  if isOmcc i port s then deliverOmci i port secure data s
  else if (SMap.get {} (s.inst i).ports port).bonded && expectsBonded i s then
    let v := beNat (data.take 4)
    fragmentArrival i port { seq := v / 2 ^ 12, first := bit v 11, last := bit v 10, versionOk := decide (field v 9 8 = 1) } (data.drop 4) s
  else toDownstream i port data s

/-- Why a bound frame does not pass decryption (R105). -/
def keyFault (i port keyIndex : Nat) (s : State) : Option Ctr :=
  let b := SMap.get {} (s.inst i).ports port
  let omcc := isOmcc i port s
  if keyIndex = 0 then (if b.encrypt && !omcc then some .dsClearOnSecure else none)
  else if keyIndex = 3 then some .dsKeyInvalid
  else
    let kind := (if b.multicast && !omcc then 4 else 2) + (keyIndex - 1)
    match SMap.get none s.cipher.pon (6 * i + kind) with
    | some n => if slotLoaded n s then none else some .dsKeyInvalid
    | none => some .dsKeyInvalid

/-- Reassembly by the LF bit (R103). -/
def reassemble (i port : Nat) (lf secure : Bool) (data : Bytes) (s : State) : State :=
  let r := SMap.get {} (s.inst i).reasm port
  let put := fun (v : Reasm) => s.modInst i (fun x => { x with reasm := SMap.set {} x.reasm port v })
  if r.broken then put (if lf then {} else { r with seen := true })
  else if 16383 < r.data.length + data.length then breakUnit i port lf s
  else if lf then splitUnit i port (r.secure || secure) (r.data ++ data) (put {})
  else put { active := true, data := r.data ++ data, secure := r.secure || secure, seen := true }

/-- Decryption of a payload by its Key_Index: of a multicast port with the broadcast key, of every other with the unicast key (R105, 13
R332). -/
def decrypt (i port keyIndex : Nat) (data : Bytes) (s : State) : Bytes × State :=
  if keyIndex = 0 then (data, s)
  else fibreCrypt i ((if (SMap.get {} (s.inst i).ports port).multicast && !isOmcc i port s then 4 else 2) + (keyIndex - 1)) data s

/-- XGEM_FRAME (R102–R105, Table 4.1 stages 4–8). `data` is the payload as received. Of a header that cannot be corrected, Port-ID and LF as
received name the unit that is discarded (DESIGN CHOICE, log 411). -/
def execXgemFrame (i hec portId keyIndex : Nat) (lf : Bool) (data : Bytes) (fecLost : Bool) (s : State) : State :=
  let y := (s.inst i).sync
  if y.state ≠ 2 ∨ y.frameLost ∨ y.payloadLost ∨ examines i s = false then s
  else if hec = 2 then
    breakUnit i portId lf (count .xgemHecUncorr i (modSync i (fun y => { y with payloadLost := true }) s))
  else
    let s := if hec = 1 then count .xgemHecCorr i s else s
    if portId = 0xFFFF then s
    else if fecLost then breakUnit i portId lf (count .xgemDropFec i s)
    else if !portKnown i portId s then breakUnit i portId lf (count .dsPortUnknown i s)
    else
      match keyFault i portId keyIndex s with
      | some c => breakUnit i portId lf (count c i s)
      | none => let (clear, s) := decrypt i portId keyIndex data s; reassemble i portId lf (decide (keyIndex ≠ 0)) clear s

/-! ## Registers (R114) -/

/-- DS_STATUS. -/
def dsStatus (i : Nat) (s : State) : Nat :=
  let y := (s.inst i).sync
  b2n y.sf * 2 ^ 11 + b2n y.sd * 2 ^ 10 + y.misses % 4 * 2 ^ 4 + y.state

/-- DS_SFC_LO_READ (R114): latches DS_SFC_HI for its path. -/
def execDsSfcLoRead (p : Path) (i : Nat) (s : State) : State :=
  hostRead p (0x10104 + 0x4000 * i) (fun s =>
    let v := (s.inst i).sync.sfc
    let l := s.latch p
    answer p (0x10104 + 0x4000 * i) (BitVec.ofNat 32 v)
      (s.setLatch p { l with dsSfcHi := SMap.set 0 l.dsSfcHi i (BitVec.ofNat 32 (v / 2 ^ 32)) })) s

/-- LIG_DS_NEXT. -/
def ligDsNext (s : State) : Nat := if s.lig.phase = .active ∨ s.lig.phase = .stopping then s.lig.dsNext else 0

/-- LIG_DS_HELD. -/
def ligDsHeld (s : State) : Nat :=
  match oldestHeld s with
  | some t => min 64 ((s.clk.nowPs - t) / 1000000) * 2 ^ 14 + s.lig.held.length
  | none => 0

/-! ## OMCI-class commands (R115–R118) -/

def checkOmciTx (q : CmdReq) : Option Status :=
  let n := u16 q.body 0
  firstBad [(decide (q.body.length < 4) || decide (q.body.length ≠ 4 + n), .badLength),
    (decide (n = 0) || decide (2048 < n) || !allZero (slice q.body 2 2), .badParam)]

def specOmciTx : CmdSpec := instSpec 0x0F00 (fun q _ => checkOmciTx q)

/-- OMCI_TX (R116). A full queue is found before a missing ONU-ID, in the order of the rule's sentences (DESIGN CHOICE, log 412). -/
def effOmciTx (c : Cmd) (s : State) : Res :=
  let i := c.req.index
  if 64 ≤ (s.inst i).omcc.length then .fail .busyRetry s
  else if (s.inst i).onuId.isNone then .fail .notFound s
  else .ok [] (s.modInst i (fun x => { x with omcc := x.omcc ++ [c.req.body.drop 4] }))

def execOmciTx (q : CmdReq) (s : State) : State := runCmd specOmciTx effOmciTx q s

def badPloamTx (p : Bytes) : Bool :=
  (decide (u8 p 0 = 0xD5) && decide (beNat (slice p 4 2) = 0x0D5E)) || decide (1 < u8 p 1) ||
    (decide (u8 p 1 = 0) && decide (u8 p 2 ≠ 0)) || decide (u8 p 3 ≠ 0)

def specPloamTx : CmdSpec := instSpec 0x0F01 (params 40 (fun q _ => badPloamTx q.body))

/-- PLOAM_TX (R117): completes when the carrying burst has launched. SEQNO 256 stands for the instance's own sequence. A missing ONU-ID is
found before a full queue (DESIGN CHOICE, log 412). -/
def effPloamTx (c : Cmd) (s : State) : Res :=
  let i := c.req.index
  let p := c.req.body
  if (s.inst i).onuId.isNone then .fail .notFound s
  else if 4 ≤ (s.inst i).upHost.length then .fail .busyRetry s
  else
    let u : UpItem := { msg := .host (u8 p 0) (if u8 p 1 = 1 then u8 p 2 else 256) (p.drop 4), cmd := some c.seq }
    .later (s.modInst i (fun x => { x with upHost := x.upHost ++ [u] }))

def execPloamTx (q : CmdReq) (s : State) : State := runCmd specPloamTx effPloamTx q s

def specDsPortBind : CmdSpec :=
  instSpec 0x0F02 (params 8 (fun q s => decide (u16 q.body 0 = 0xFFFF) || decide ((s.inst q.index).onuId = some (u16 q.body 0)) ||
    decide (3 < u8 q.body 2) || decide (u8 q.body 3 ≠ 0) || !allZero (slice q.body 6 2)))

/-- DS_PORT_BIND (R118): a binding is made or replaced; while a group is active its ports are marked bonded (R104). -/
def effDsPortBind (c : Cmd) (s : State) : Res :=
  let i := c.req.index
  let p := c.req.body
  let port := u16 p 0
  let x := s.inst i
  if (SMap.get {} x.ports port).bound = false ∧ 4096 ≤ x.ports.length then .fail .tableFull s
  else
    let member := (decide (s.lig.phase = .active) || decide (s.lig.phase = .stopping)) && s.lig.members.contains i
    let b : PortBind := { bound := true, encrypt := bit (u8 p 2) 0, multicast := bit (u8 p 2) 1, flowTag := u16 p 4,
                          bonded := member && decide (s.lig.portFirst ≤ port ∧ port < s.lig.portFirst + s.lig.portCount) }
    .ok [] (s.setInst i { x with ports := SMap.set {} x.ports port b })

def execDsPortBind (q : CmdReq) (s : State) : State := runCmd specDsPortBind effDsPortBind q s

def specDsPortUnbind : CmdSpec := instSpec 0x0F03 (params 4 (fun q _ => !allZero (slice q.body 2 2)))

/-- DS_PORT_UNBIND (R118). -/
def effDsPortUnbind (c : Cmd) (s : State) : Res :=
  let i := c.req.index
  let port := u16 c.req.body 0
  if (SMap.get {} (s.inst i).ports port).bound then
    .ok [] (s.modInst i (fun x => { x with ports := SMap.set {} x.ports port {} }))
  else .fail .notFound s

def execDsPortUnbind (q : CmdReq) (s : State) : State := runCmd specDsPortUnbind effDsPortUnbind q s

def specDsPortQuery : CmdSpec :=
  { instSpec 0x0F04 (params 4 (fun q _ => !allZero (slice q.body 2 2))) with reads := true }

/-- DS_PORT_QUERY (R118): FLAGS bit 7 bonded, bit 6 shadowed by the OMCC port. -/
def effDsPortQuery (c : Cmd) (s : State) : Res :=
  let i := c.req.index
  let port := u16 c.req.body 0
  let b := SMap.get {} (s.inst i).ports port
  if b.bound then
    let flags := b2n b.encrypt + 2 * b2n b.multicast + 64 * b2n (decide ((s.inst i).onuId = some port)) + 128 * b2n b.bonded
    .ok (le 2 port ++ le 1 flags ++ zeros 1 ++ le 2 b.flowTag ++ zeros 2) s
  else .fail .notFound s

def execDsPortQuery (q : CmdReq) (s : State) : State := runCmd specDsPortQuery effDsPortQuery q s

end Sys2Proof.Machine
end

