-- ==== Sys2Proof/Machine/ScratchOps.lean ====
section
/-!
DEFINITION. The secure scratchpad (14 R340–R344): words and atomic operations, the sequence lock, and the wipe.
-/

namespace Sys2Proof

/-- An access that changes the word. -/
def ScratchAcc.changes (a : ScratchAcc) : Bool := decide (a.kind = .write) || a.kind = .add || a.kind = .swap

/-- An atomic operation. -/
def ScratchAcc.atomic (a : ScratchAcc) : Bool := decide (a.kind = .add) || a.kind = .swap

/-- Bytes of an access. -/
def ScratchAcc.size (a : ScratchAcc) : Nat := if a.wide then 8 else 4

/-- The offset of an access, aligned to its width (R340). -/
def ScratchAcc.at_ (a : ScratchAcc) : Nat := a.addr.toNat / a.size * a.size

end Sys2Proof

namespace Sys2Proof.Machine

/-- The first offset of the general area, and its end (Table 14.2). -/
def generalLo : Nat := 0x30000
def generalHi : Nat := 0x40000

/-- The 8-byte word of an offset. -/
def wordOf (addr : Nat) : Nat := addr / 8

/-- The arbitration cycle of the present instant, of 2 core clocks (R341). -/
def arbCycle (s : State) : Nat := s.clk.nowPs / 1600

/-- Port A is served first in the even cycles, port B in the odd ones (R341, log 46). -/
def portAFirst (s : State) : Bool := decide (arbCycle s % 2 = 0)

/-- The value that an access finds. -/
def scratchValue (a : ScratchAcc) (s : State) : Nat := leNat (SMap.bytes 0 s.mem.scratch a.at_ a.size)

/-- Carry an access out: the value from before, and the state after (R340). -/
def scratchDo (a : ScratchAcc) (s : State) : Nat × State :=
  let old := scratchValue a s
  let put := fun (v : Nat) => ({ s with mem := { s.mem with scratch := SMap.setBytes 0 s.mem.scratch a.at_ (le a.size v) } } : State)
  match a.kind with
  | .write => (0, put a.value.toNat)
  | .add => (old, put (old + a.value.toNat))
  | .swap => (old, put a.value.toNat)
  | _ => (old, s)

/-- Has an uncorrectable error struck the word? A write of all its 8 bytes renews it (log 47). -/
def scratchBad (a : ScratchAcc) (s : State) : Bool :=
  s.mem.badWords.contains (wordOf a.addr.toNat) && !(decide (a.kind = .write) && a.wide)

/-- A word written whole is good again. -/
def scratchMend (a : ScratchAcc) (s : State) : State :=
  if decide (a.kind = .write) && a.wide then
    { s with mem := { s.mem with badWords := s.mem.badWords.filter (· ≠ wordOf a.addr.toNat) } }
  else s

/-- Carry an access out and mend the word it writes whole. -/
def scratchRun (a : ScratchAcc) (s : State) : Nat × State := scratchDo a (scratchMend a s)

/-- Must a port's access wait for the sequence lock of the other port (R343)? -/
def seqWaits (port : Nat) (a : ScratchAcc) (s : State) : Bool :=
  decide (s.mem.seqHolder ≠ 0) && decide (s.mem.seqHolder ≠ port) && (a.changes || decide (a.kind = .lock))

/-- An access waits for the lock, for a SCRATCH_OP or for the port itself. -/
def seqQueue (port : Nat) (a : ScratchAcc) (cmd : Option Nat) (s : State) : State :=
  { s with mem := { s.mem with seqWait := s.mem.seqWait ++ [(port, a, cmd)] } }

/-- Take the free lock. -/
def seqTake (port : Nat) (s : State) : State :=
  if s.mem.seqHolder = port then s else { s with mem := { s.mem with seqHolder := port, seqPs := s.clk.nowPs } }

/-- What a served access answers to its port or to the SCRATCH_OP that made it. -/
def scratchAnswer (port : Nat) (a : ScratchAcc) (cmd : Option Nat) (old : Nat) (s : State) : State :=
  match cmd with
  | none => emit (.scratch port (if a.kind = .write ∨ a.kind = .lock ∨ a.kind = .unlock then none else some old) false) s
  | some n =>
    match s.cmd.executing.find? (fun c => decide (c.seq = n)) with
    | some c => if scratchBad a s then complete c .hwFault 0 [] s else complete c .ok 0 (le 8 old) s
    | none => s

/-- Serve the accesses that waited, in order of arrival, until one takes the lock (R343). -/
def seqServe : List (Nat × ScratchAcc × Option Nat) → State → State
  | [], s => s
  | (port, a, cmd) :: rest, s =>
    if seqWaits port a s then seqServe rest (seqQueue port a cmd s)
    else if a.kind = .lock then seqServe rest (scratchAnswer port a cmd 0 (seqTake port s))
    else
      let (old, s) := scratchRun a s
      seqServe rest (scratchAnswer port a cmd old s)

/-- The lock is free. -/
def seqFree (s : State) : State :=
  let waiting := s.mem.seqWait
  seqServe waiting { s with mem := { s.mem with seqHolder := 0, seqWait := [] } }

/-- Zeroise every key slot (13 R327). -/
def zeroiseAll (s : State) : State := { s with cipher := { s.cipher with slots := [] } }

/-- The Blotter's step of a group. -/
def blotStep (g : Nat) (s : State) : Option BlotStep := (SMap.get {} s.mem.groups g).step

/-- A wipe of the secure part clears the save area: a region of the general area that group 37's step has borrowed comes back
as zero (R344). -/
def loseBorrowed (s : State) : State :=
  match blotStep 37 s with
  | some b =>
    let lo := 4096 * b.region
    if b.phase ≠ .waiting ∧ generalLo ≤ lo then
      count .scratchLost 0 { s with mem := { s.mem with scratch := s.mem.scratch.filter (fun e => decide (e.1 < lo ∨ lo + 4096 ≤ e.1)) } }
    else s
  | none => s

/-- Wipe the secure part (R344): the nonces in it end (17 R386), and the key slots are zeroised (13 R327). Causes: 1 lid, 2 voltage, 3 clock, 4 life-cycle
change. -/
def wipeScratch (cause : Nat) (s : State) : State :=
  let s := zeroiseAll (loseBorrowed s)
  let s : State := { s with cmd := { s.cmd with nonceRings := none, nonceSpi := none }, role := { s.role with nonce := none } }
  raise .scratchWiped 0 0 0 { hwSet 0xA001C 31 s with mem := { s.mem with
    scratch := s.mem.scratch.filter (fun e => decide (0x10000 ≤ e.1)), wiped := true, wipeCause := cause } }

/-- A port B write of a byte string, word by word; outside the general area it is not made (R341). -/
def scratchPortB (addr : Nat) (bytes : Bytes) (s : State) : State :=
  if addr < generalLo ∨ generalHi < addr + bytes.length then count .scratchBRefused 0 s
  else if s.mem.seqHolder = 1 then
    (List.range bytes.length).foldl (fun s k =>
      let a := (addr + k) / 8 * 8
      let old := leNat (SMap.bytes 0 s.mem.scratch a 8)
      if (addr + k) % 8 = 7 ∨ k + 1 = bytes.length then
        let new := (List.range 8).map (fun j => if addr ≤ a + j ∧ a + j < addr + bytes.length then bytes.getD (a + j - addr) 0
          else BitVec.ofNat 8 (old / 2 ^ (8 * j)))
        seqQueue 2 { kind := .write, wide := true, addr := BitVec.ofNat 18 a, value := BitVec.ofNat 64 (leNat new) } none s
      else s) s
  else
    let last := (addr + bytes.length - 1) / 8 * 8
    let s : State := { s with mem := { s.mem with scratch := SMap.setBytes 0 s.mem.scratch addr bytes } }
    let v := leNat (SMap.bytes 0 s.mem.scratch last 8)
    { s with mem := { s.mem with lastB := some (arbCycle s,
        { kind := .write, wide := true, addr := BitVec.ofNat 18 last, value := BitVec.ofNat 64 v }) } }

end Sys2Proof.Machine
end

