-- ==== Sys2Proof/Machine/Table.lean ====
section
/-!
DEFINITION. The forwarding table's rows (06): lease expiry, learning and ageing under items 3, 6 and 7, the BAR2 windows
and flow contexts, and the commands of class 0x03.
-/

namespace Sys2Proof.Machine

/-! ## Items 3, 6 and 7 of Table 1.8 -/

/-- Item 3 at T0: REMAINING of every lease falls by 1 (R156). -/
def tickLeases (s : State) : State :=
  { s with tbl := { s.tbl with leases := s.tbl.leases.map (fun l => { l with remaining := l.remaining - 1 }) } }

/-- LEASE_EXPIRY (R156): a lease whose REMAINING has reached 0 and that nothing has released or renewed since expires. -/
def execLeaseExpiry (s : State) : State :=
  itemRow 3 (fun s =>
    (s.tbl.leases.filter (fun l => decide (l.remaining = 0))).foldl (fun s l => revokeLease l s) s) s

/-- LEARN_COMMIT (R162): every record that entered the queue before this tick is committed in queue order, or deferred by a
lock on one of its candidate cells' blocks. -/
def execLearnCommit (s : State) : State :=
  itemRow 6 (fun s =>
    let old := s.tbl.learn.filter (fun r => decide (r.tick ≠ ownTick s))
    old.foldl (fun s r =>
      if deferredNow r s then
        { s with tbl := { s.tbl with learn := s.tbl.learn.map (fun x =>
            if x.key = r.key ∧ x.source = r.source then { x with deferred := true } else x) } }
      else
        commitRecord r { s with tbl := { s.tbl with
          learn := s.tbl.learn.filter (fun x => !decide (x.key = r.key ∧ x.source = r.source)) } }) s) s

/-- A tick's distance from AGE_BASE selects it for an ageing step (R165). -/
def ageDue (tick : Word) (s : State) : Bool :=
  decide (s.tbl.age.interval ≠ 0) && decide (tickDiff tick s.tbl.ageBase % s.tbl.age.interval = 0)

/-- AGEING_STEP (R165): in every tick whose distance from AGE_BASE is a multiple of AGE_INTERVAL. -/
def execAgeingStep (s : State) : State :=
  let tick := itemTick 7 s
  itemRow 7 (fun s =>
    if ageDue tick s then (s.tbl.entries.map (·.1)).foldl (fun s n => ageEntry n s) s else s) s

/-- Settings accepted since the last tick edge take effect at this one (LEARN_CONFIG, AGE_CONFIG). -/
def tableTick (s : State) : State :=
  let cfg := s.tbl.learnNext.foldl (fun m e => match e.2 with | some c => SMap.set {} m e.1 c | none => m) s.tbl.learnCfg
  let s : State := { s with tbl := { s.tbl with learnCfg := cfg, learnNext := [] } }
  match s.tbl.ageNext with
  | some a => { s with tbl := { s.tbl with age := a, ageNext := none, ageBase := s.clk.tick } }
  | none => s

/-! ## Windows and flow contexts (R159, R170–R172) -/

/-- TBL_LEASE_KILL (R159). -/
def execTblLeaseKill (_ : Path) (v : Word) (s : State) : State :=
  hostWrite (fun s => match leaseById v.toNat s with
    | some l => revokeLease l s
    | none => s) s

/-- The entry that a window offset names: window, and entry number where the window is enabled. -/
def windowEntry (addr : Nat) (s : State) : Option Nat :=
  let m := (SMap.get 0 s.tbl.winMap (addr / 0x400000)).toNat
  if bit m 8 then some (m % 16 * 262144 + addr % 0x400000 / 16) else none

/-- An entry with word k replaced; the reserved PAD is not taken (00 R12). -/
def setEntryWord (e : TEntry) (k : Nat) (v : Word) : TEntry :=
  noPad ((e &&& ~~~ BitVec.ofNat 128 ((2 ^ 32 - 1) * 2 ^ (32 * k))) ||| BitVec.ofNat 128 (v.toNat * 2 ^ (32 * k)))

/-- TABLE_WINDOW_WRITE (R157, R160, R171): an aligned word below 0x0200_0000 of BAR2. -/
def execTableWindowWrite (_ : Path) (addr : Nat) (v : Word) (s : State) : State :=
  if addr % 4 ≠ 0 ∨ 0x2000000 ≤ addr then s
  else
    hostWrite (fun s => match windowEntry addr s with
      | none => count .tblWindowUnmapped 0 s
      | some n =>
        match leaseOf (n / 262144) s with
        | none => count .tblWriteUnlocked 0 s
        | some l => stage l.id n (setEntryWord (seenBy l n s) (addr / 4 % 4) v) s) s

/-- What a window read of an entry sees (R157). -/
def windowSees (n : Nat) (s : State) : TEntry :=
  match leaseOf (n / 262144) s with
  | some l => seenBy l n s
  | none => s.entry n

/-- TABLE_WINDOW_READ (R171, R172): a word of an entry; word 0 latches words 1–3 for its window. Above the windows lie the
flow contexts (R170). -/
def execTableWindowRead (p : Path) (addr : Nat) (s : State) : State :=
  if addr % 4 ≠ 0 then s
  else
    hostRead p addr (fun s =>
      if 0x2000000 ≤ addr then
        if addr < 0x4000000 then answer p addr (SMap.get 0 s.tbl.flow ((addr - 0x2000000) / 4)) s else s
      else
        match windowEntry addr s with
        | none => answer p addr 0 (count .tblWindowUnmapped 0 s)
        | some n =>
          let w := addr / 0x400000
          let k := addr / 4 % 4
          let l := s.latch p
          let e := windowSees n s
          if k = 0 then
            let words := [1, 2, 3].foldl (fun m k => SMap.set 0 m (4 * w + k) (entryWord e k)) l.tblWords
            answer p addr (entryWord e 0)
              (s.setLatch p { l with tblWords := words, tblEntry := SMap.set 0 l.tblEntry w (n + 1) })
          else if SMap.get 0 l.tblEntry w = n + 1 then answer p addr (SMap.get 0 l.tblWords (4 * w + k)) s
          else answer p addr (entryWord e k) s) s

/-- Held bytes of another context are discarded (R170). -/
def abandonHeld (f : Nat) (s : State) : State :=
  match s.tbl.held with
  | some a =>
    if a = f then s else count .flowWriteAbandoned 0 { s with tbl := { s.tbl with held := none, heldWords := [] } }
  | none => s

/-- FLOW_CONTEXT_STAGE (R170): a word within bytes 0–27 of a context is held. -/
def execFlowContextStage (_ : Path) (addr : Nat) (v : Word) (s : State) : State :=
  let k := (addr - 0x2000000) / 4
  if addr % 4 ≠ 0 ∨ addr < 0x2000000 ∨ 0x4000000 ≤ addr ∨ k % 8 = 7 then s
  else
    hostWrite (fun s =>
      let s := abandonHeld (k / 8) s
      { s with tbl := { s.tbl with held := some (k / 8)
                                   heldWords := SMap.set none s.tbl.heldWords (k % 8) (some v) } }) s

/-- The policer profile of a number. -/
def State.policer (s : State) (p : Nat) : Policer := SMap.get {} s.policers p

/-- The policer clock: 8 ns periods since cold or warm reset, 48 bits (08 R206). -/
def policerClock (s : State) : Nat := (s.clk.nowPs - s.clk.policerPs) / 8000 % 2 ^ 48

/-- The 32 bytes of a flow context. -/
def flowBytes (f : Nat) (s : State) : Bytes := (List.range 8).flatMap (fun k => le 4 (SMap.get 0 s.tbl.flow (8 * f + k)).toNat)

/-- Make the 32 bytes of a context current. -/
def setFlow (f : Nat) (b : Bytes) (s : State) : State :=
  { s with tbl := { s.tbl with flow := (List.range 8).foldl (fun m k => SMap.set 0 m (8 * f + k) (w32 b (4 * k))) s.tbl.flow } }

/-- The changes that the part makes at the commit clock: LAST is the policer clock, TC and TP are capped (08 R205), reserved fields are
not taken (00 R12). -/
def cappedFlow (b : Bytes) (s : State) : Bytes :=
  let p := s.policer (u16 b 8 % 4096)
  b.take 2 ++ le 2 (u16 b 2 % 8) ++ le 4 (u32 b 4 % 2 ^ 20) ++ slice b 8 2 ++ zeros 2 ++ le 6 (policerClock s) ++ le 3 (min (u24 b 18) p.cbs) ++ le 3 (min (u24 b 21) p.pbs) ++ zeros 8

/-- FLOW_CONTEXT_COMMIT (R170): a write to bytes 28–31 makes all 32 bytes current in one clock. -/
def execFlowContextCommit (_ : Path) (addr : Nat) (v : Word) (s : State) : State :=
  let k := (addr - 0x2000000) / 4
  if addr % 4 ≠ 0 ∨ addr < 0x2000000 ∨ 0x4000000 ≤ addr ∨ k % 8 ≠ 7 then s
  else
    hostWrite (fun s =>
      let f := k / 8
      let s := abandonHeld f s
      let words := (List.range 7).map (fun k => (SMap.get none s.tbl.heldWords k).getD (SMap.get 0 s.tbl.flow (8 * f + k))) ++ [v]
      let b := cappedFlow (words.flatMap (fun w => le 4 w.toNat)) s
      let s := setFlow f b { s with tbl := { s.tbl with held := none, heldWords := [] } }
      mirrorOut (.flow f ((List.range 8).map (fun k => w32 b (4 * k)))) s) s

/-! ## Commands on locks (R155–R160) -/

/-- LEASE_TICKS: 0 stands for 64. -/
def leaseTicks (p : Bytes) (k : Nat) : Nat := if u16 p k = 0 then 64 else u16 p k

/-- The owner domain of a command's source (R155). -/
def ownerOf : Src → Nat
  | .spi => 1
  | .tunnel => 2
  | _ => 0

/-- Is a table block of the mask under BIST (R155, 17 R391)? -/
def underBist (mask : Nat) (s : State) : Bool :=
  match s.bist.run with
  | some r => decide (r.block < 16) && bit mask r.block
  | none => false

def specTableLock : CmdSpec :=
  { op := 0x0300
    check := params 4 (fun q _ => decide (u16 q.body 0 = 0) || decide (q.leaseId ≠ 0)) }

/-- TABLE_LOCK (R155). -/
def effTableLock (c : Cmd) (s : State) : Res :=
  let p := c.req.body
  let mask := u16 p 0
  if (bitsOf 16 mask).any (fun b => isolated b s) then .fail .hwFault s
  else if underBist mask s then .fail .busyRetry s
  else if (bitsOf 16 mask).any (fun b => locked b s) then .fail .lockHeld s
  else if 16 ≤ s.tbl.leases.length then .fail .busyRetry s
  else
    let id := s.tbl.nextLease
    let l : Lease := { id, owner := ownerOf c.req.src, remaining := leaseTicks p 2, taken := ownTick s, blocks := mask }
    .ok (le 4 id ++ le 4 (s.clk.tick.toNat + leaseTicks p 2))
      { s with tbl := { s.tbl with leases := s.tbl.leases ++ [l], nextLease := id % 0xFFFFFFFF + 1 } }

def execTableLock (q : CmdReq) (s : State) : State := runCmd specTableLock effTableLock q s

/-- The lease check of TABLE_RENEW and TABLE_UNLOCK (R50). -/
def namesLease (q : CmdReq) (s : State) : Option Status := leaseStatus q.leaseId.toNat s

def specTableRenew : CmdSpec :=
  { op := 0x0301, check := params 4 (fun q _ => decide (u16 q.body 2 ≠ 0)), lease := namesLease }

/-- TABLE_RENEW (R156). -/
def effTableRenew (c : Cmd) (s : State) : Res :=
  match leaseById c.req.leaseId.toNat s with
  | none => .fail .leaseExpired s
  | some l =>
    let n := leaseTicks c.req.body 0
    .ok (le 4 (s.clk.tick.toNat + n)) (setLease { l with remaining := n, taken := ownTick s } s)

def execTableRenew (q : CmdReq) (s : State) : State := runCmd specTableRenew effTableRenew q s

def specTableUnlock : CmdSpec :=
  { op := 0x0302
    check := params 4 (fun q _ => decide (1 < u8 q.body 0) || decide (u24 q.body 1 ≠ 0)), lease := namesLease }

/-- The memory groups that a lease's publication writes: its table blocks (14 Table 14.1). -/
def leaseGroups (l : Lease) : List Nat := bitsOf 16 l.blocks

/-- TABLE_UNLOCK (R158, R160): publish, or discard; an overflowed lease discards everything and answers TABLE_FULL. -/
def effTableUnlock (c : Cmd) (s : State) : Res :=
  match leaseById c.req.leaseId.toNat s with
  | none => .fail .leaseExpired s
  | some l =>
    if u8 c.req.body 0 = 1 then .ok (le 4 0 ++ le 4 s.clk.tick.toNat) (dropLease l.id s)
    else if l.overflowed then .fail .tableFull (dropLease l.id s)
    else if !hasTurn 2 (leaseGroups l) s then .later (requestXfer 2 (leaseGroups l) (.command c.seq) s)
    else
      let s := passXfer 2 s
      let s := l.staged.foldl (fun s e => match e.2 with
        | some v => mirrorOut (.staged e.1 ((List.range 4).map (entryWord v))) s
        | none => s) s
      .ok (le 4 (published l s) ++ le 4 s.clk.tick.toNat) (dropLease l.id (publish l s))

def execTableUnlock (q : CmdReq) (s : State) : State := runCmd specTableUnlock effTableUnlock q s

/-! ## SEARCH, NEXT, FLUSH_BY_PORT, TABLE_AUDIT -/

/-- SEARCH refuses a type it does not know, and a field that is to be zero. -/
def badSearch (p : Bytes) : Bool :=
  !([0, 1, 2, 4, 5].contains (u8 p 0)) || decide (u8 p 1 ≠ 0) || decide (u32 p 4 ≠ 0) ||
    (decide (u8 p 0 ≠ 2) && (decide (u16 p 2 ≠ 0) || decide (u64 p 16 ≠ 0)))

def specSearch : CmdSpec := { op := 0x0303, check := params 24 (fun q _ => badSearch q.body), reads := true }

/-- SEARCH (R150, R151). -/
def effSearch (c : Cmd) (s : State) : Res :=
  let p := c.req.body
  let k : TKey := { ty := u8 p 0, key := BitVec.ofNat 64 (u64 p 8), lo := BitVec.ofNat 64 (u64 p 16), vrf := u16 p 2 }
  match tblSearch k s with
  | (none, s) => .fail .notFound s
  | (some h, s) =>
    let n := h.at_
    .ok (le 1 (n / 262144) ++ le 1 (n / 4096 % 64) ++ le 2 (n % 4096) ++ le 1 (b2n h.both) ++ zeros 3 ++
      entryBytes (s.entry n) ++ (if k.ty = 2 then entryBytes (s.entry (n + 1)) else zeros 16)) s

def execSearch (q : CmdReq) (s : State) : State := runCmd specSearch effSearch q s

/-- NEXT's parameters. -/
def badNext (p : Bytes) : Bool :=
  decide (15 < u8 p 0) || decide (63 < u8 p 1) || decide (4095 < u16 p 2) || decide (63 < u8 p 4) ||
    decide (u8 p 5 = 0) || decide (200 < u8 p 5) || decide (u16 p 6 ≠ 0)

def specNext : CmdSpec := { op := 0x0304, check := params 8 (fun q _ => badNext q.body), reads := true }

/-- A position in the table: BLOCK, CELL, INDEX. -/
def position (n : Nat) : Bytes := le 1 (n / 262144) ++ le 1 (n / 4096 % 64) ++ le 2 (n % 4096)

/-- NEXT (R174). -/
def effNext (c : Cmd) (s : State) : Res :=
  let p := c.req.body
  let from_ := u8 p 0 * 262144 + u8 p 1 * 4096 + u16 p 2
  let hits := s.tbl.entries.filter (fun e =>
    decide (from_ ≤ e.1) && entryValid e.2 && bit (u8 p 4) (entryType e.2) && !isolated (e.1 / 262144) s)
  let got := hits.take (u8 p 5)
  let after := (got.getLast?.map (fun e => e.1 + 1)).getD 0
  let end_ := got.length < u8 p 5 || 4194304 ≤ after
  .ok (le 2 got.length ++ (if end_ then [0xFF, 0, 0, 0] else position after) ++ zeros 2 ++
    got.flatMap (fun e => position e.1 ++ entryBytes e.2)) s

def execNext (q : CmdReq) (s : State) : State := runCmd specNext effNext q s

/-- R175 with R50: a block in scope locked under another lease than the header's. -/
def flushLease (q : CmdReq) (s : State) : Option Status :=
  let id := q.leaseId.toNat
  let other := (bitsOf 16 (flushMask q.body)).any (fun b => match leaseOf b s with
    | some l => decide (l.id ≠ id)
    | none => false)
  if other then (if id = 0 then some .lockHeld else some ((leaseStatus id s).getD .lockHeld)) else none

def specFlushByPort : CmdSpec :=
  { op := 0x0305, check := params 4 (fun q _ => decide (39 < u8 q.body 0) || decide (1 < u8 q.body 1)), lease := flushLease }

/-- FLUSH_BY_PORT (R175). -/
def effFlushByPort (c : Cmd) (s : State) : Res :=
  let p := c.req.body
  let mask := flushMask p
  let flow := flushFlow p s
  let static := bit (u8 p 1) 0
  let (n, s) := flushUnlocked mask flow static s
  let (m, s) := match leaseById c.req.leaseId.toNat s with
    | some l => flushLeased l mask flow static s
    | none => (0, s)
  .ok (le 4 (n + m)) s

def execFlushByPort (q : CmdReq) (s : State) : State := runCmd specFlushByPort effFlushByPort q s

/-- TABLE_AUDIT takes the device, or a table block. -/
def specTableAudit (q : CmdReq) : CmdSpec :=
  { op := 0x0306, kind := if q.kind = 6 then 6 else 0, check := fun q _ => lenIs 0 q, reads := true }

/-- TABLE_AUDIT (R169): an isolated block's digests are zero, for it has no entries. -/
def effTableAudit (c : Cmd) (s : State) : Res :=
  let head := le 4 s.clk.tick.toNat ++ le 2 s.tbl.isolated ++ zeros 2
  if c.req.kind = 6 then
    .ok (head ++ (List.range 64).flatMap (fun g => le 8 (digest ((64 * c.req.index + g) * 4096) 4096 s))) s
  else .ok (head ++ (List.range 16).flatMap (fun b => le 8 (digest (b * 262144) 262144 s))) s

def execTableAudit (q : CmdReq) (s : State) : State := runCmd (specTableAudit q) effTableAudit q s

/-! ## LEARN_CONFIG, AGE_CONFIG -/

def badLearnConfig (p : Bytes) : Bool :=
  decide (39 < u8 p 0) || decide (1 < u8 p 1) || decide (u16 p 2 ≠ 0) || decide (2 ^ 44 ≤ u64 p 4)

def specLearnConfig : CmdSpec := { op := 0x0307, check := params 12 (fun q _ => badLearnConfig q.body) }

/-- LEARN_CONFIG: from the next tick edge. -/
def effLearnConfig (c : Cmd) (s : State) : Res :=
  let p := c.req.body
  let cfg : LearnCfg := { en := bit (u8 p 1) 0, template := BitVec.ofNat 44 (u64 p 4) }
  .ok [] { s with tbl := { s.tbl with learnNext := SMap.set none s.tbl.learnNext (u8 p 0) (some cfg) } }

def execLearnConfig (q : CmdReq) (s : State) : State := runCmd specLearnConfig effLearnConfig q s

def badAgeConfig (p : Bytes) : Bool :=
  decide (u8 p 2 = 0) || decide (14 < u8 p 2) || decide (u8 p 3 ≠ 0) || decide (u16 p 4 = 0) || decide (u16 p 6 ≠ 0)

def specAgeConfig : CmdSpec := { op := 0x0308, check := params 8 (fun q _ => badAgeConfig q.body) }

/-- AGE_CONFIG: from the next tick edge, which becomes AGE_BASE. -/
def effAgeConfig (c : Cmd) (s : State) : Res :=
  let p := c.req.body
  .ok [] { s with tbl := { s.tbl with ageNext := some { interval := u16 p 0, init := u8 p 2, moveLimit := u16 p 4 } } }

def execAgeConfig (q : CmdReq) (s : State) : State := runCmd specAgeConfig effAgeConfig q s

/-! ## Registers -/

/-- TBL_LEARN, TBL_ENTRIES, TBL_STAGED, TBL_BLOCK_STATE, TBL_LOCK_LEASE, TBL_LOCK_TIME, TBL_WIN_MAP; none at an address that
holds no register to read. -/
def readTable (off : Nat) (s : State) : Option Nat :=
  if off = 0 then
    some ((s.tbl.learn.filter (·.deferred)).length * 65536 + s.tbl.learn.length)
  else if off = 4 then some (s.tbl.entries.filter (fun e => entryValid e.2)).length
  else if off = 8 then some (stagedCount s)
  else if off = 12 then
    some (s.tbl.isolated * 65536 + ((List.range 16).filter (fun b => locked b s)).foldl (fun a b => a + 2 ^ b) 0)
  else if off = 16 then some 0
  else if 0x100 ≤ off ∧ off < 0x140 then some (((leaseOf ((off - 0x100) / 4) s).map (·.id)).getD 0)
  else if 0x140 ≤ off ∧ off < 0x180 then
    some (match leaseOf ((off - 0x140) / 4) s with
      | some l => b2n l.overflowed * 2 ^ 18 + l.owner * 65536 + l.remaining
      | none => 0)
  else if 0x200 ≤ off ∧ off < 0x220 then some (SMap.get 0 s.tbl.winMap ((off - 0x200) / 4)).toNat
  else none

/-- A write to TBL_WIN_MAP: ENABLE and BLOCK. -/
def writeWinMap (w : Nat) (v : Word) (s : State) : State :=
  { s with tbl := { s.tbl with winMap := SMap.set 0 s.tbl.winMap w (v &&& 0x10F) } }

end Sys2Proof.Machine
end

