-- ==== Sys2Proof/Machine/Pipeline.lean ====
section
/-!
DEFINITION. The forwarding pipelines (07 R176–R195, 08 R204–R209): dispatch to a parser engine, the verdict, the second
dispatch, and the release to lookup, learning, copying, policing and admission.
-/

namespace Sys2Proof.Machine

/-! ## Engines and dispatch (R182–R184) -/

/-- The next in-service engine of the rotation from engine k on. -/
def nextEngine (k : Nat) (s : State) : Option Nat :=
  ((List.range 16).map (fun j => (k + j) % 16)).find? (fun e => s.cls.enginesOk.getLsbD e)

/-- The frame that the dispatcher takes next: the upstream pipeline goes before the downstream one; and the state without
it. -/
def takeWaiting (s : State) : Option (Frame × State) :=
  match s.waitUp, s.waitDown with
  | f :: r, _ => some (f, { s with waitUp := r })
  | [], f :: r => some (f, { s with waitDown := r })
  | [], [] => none

/-- Does a flight wait for its second dispatch? -/
def waitsAgain (f : Flight) : Bool :=
  match f.stage with
  | .again _ => true
  | _ => false

/-- FRAME_DISPATCH (R182, R195, R196): recirculated frames are served first; the frame takes the active epoch; without a valid active
image it is discarded. -/
def execFrameDispatch (s : State) : State :=
  if s.cls.flights.any waitsAgain then s
  else match takeWaiting s, nextEngine s.cls.rot s with
  | some (f, s), some e =>
    let s := noteActivity (bwCount f.ingress f.len s)
    let s := { s with cls := { s.cls with rot := (e + 1) % 16 } }
    if (s.image s.cls.epoch).valid then
      { s with cls := { s.cls with flights := s.cls.flights ++ [{ frame := f, epoch := s.cls.epoch, cfg := s.cls.cfg, engine := e }] } }
    else count .clsNoImage 0 s
  | _, _ => s

/-- Change the first flight that satisfies a test, or take it out. -/
def changeFirst (t : Flight → Bool) (f : Flight → Option Flight) : List Flight → List Flight
  | [] => []
  | x :: xs => if t x then (match f x with | some y => y :: xs | none => xs) else x :: changeFirst t f xs

/-- Is a flight's tree search under way? -/
def searching (f : Flight) : Bool := decide (f.stage = .search)

/-- The outcome of a flight's pass. -/
def classFlight (f : Flight) (s : State) : Classed :=
  classOf f.cfg (s.image f.epoch) f.frame.ingress f.frame.tag f.frame.len (decide (f.pass = 2)) (f.frame.len - f.start)
    (f.frame.data.drop f.start)

/-- FRAME_VERDICT (R190): the search of the frame dispatched longest ago ends. -/
def execFrameVerdict (s : State) : State :=
  match s.cls.flights.find? searching with
  | none => s
  | some f =>
    let (e, s) := endPass f (classFlight f s) s
    let set := fun (g : Flight → Option Flight) (s : State) =>
      { s with cls := { s.cls with flights := changeFirst searching g s.cls.flights } }
    match e with
    | .drop => set (fun _ => none) s
    | .again o decap =>
      set (fun f => some (if decap then
          { f with frame := { f.frame with data := f.frame.data.drop o }, stage := .again 0 }
        else { f with stage := .again o })) s
    | .done d => set (fun f => some { f with stage := .done d }) s

/-- RECIRCULATE_DISPATCH (R183, R193): the frame takes a new place in its port's order and a fresh window; without its image it is
discarded (R196). -/
def execRecirculateDispatch (s : State) : State :=
  match s.cls.flights.find? waitsAgain, nextEngine s.cls.rot s with
  | some f, some e =>
    let o := match f.stage with | .again o => o | _ => 0
    let g := { f with pass := 2, start := o, cfg := s.cls.cfg, engine := e, stage := .search }
    let rest := changeFirst waitsAgain (fun _ => none) s.cls.flights
    let s : State := { s with cls := { s.cls with rot := (e + 1) % 16 } }
    if (s.image f.epoch).valid then { s with cls := { s.cls with flights := rest ++ [g] } }
    else count .clsNoImage 0 { s with cls := { s.cls with flights := rest } }
  | _, _ => s

/-- PARSER_ENGINE_FAULT (R184): the frame is parsed again on the next engine; a second fault takes the engine out of the
rotation, and with eight out the block fails. -/
def execParserEngineFault (e : Nat) (s : State) : State :=
  if s.cls.enginesOk.getLsbD e then
    let s := if s.cls.faulted.getLsbD e then
        let s := { s with cls := { s.cls with enginesOk := s.cls.enginesOk &&& ~~~ BitVec.ofNat 16 (2 ^ e) } }
        let s := raise .parserEngineOff 8 1 e (pushError .cellSpareNone 8 1 (0xFF000000 + e) s)
        if popcount 16 s.cls.enginesOk.toNat ≤ 8 ∧ s.dev.isolated.getLsbD 24 = false then isolateBlock 1 24 s else s
      else
        pushError .cellRetry 8 1 (0xFF000000 + e)
          { s with cls := { s.cls with faulted := s.cls.faulted ||| BitVec.ofNat 16 (2 ^ e) } }
    match nextEngine (e + 1) s with
    | some n => { s with cls := { s.cls with flights := s.cls.flights.map (fun f =>
        if f.engine = e && searching f then { f with engine := n } else f) } }
    | none => s
  else s

/-! ## Exceptions (Table 7.8) -/

/-- A frame goes to a host-delivery queue as an exception (R191, R209); below 12,296 it is discarded. -/
def sendException (f : Flight) (d : Decision) (q cause colour : Nat) (s : State) : State :=
  if q < 12296 then count .clsQueueInvalid 0 s
  else
    let data := f.frame.data
    let flags := f.epoch + 2 * (d.passFlags % 4) + 8 * b2n (decide (4080 < data.length)) + 16 * b2n (bit d.passFlags 2)
    let head := le 1 f.frame.ingress ++ le 1 cause ++ le 1 d.reason ++ le 1 flags ++ le 4 d.rule ++
      le 2 f.frame.tag ++ le 2 data.length ++ zeros 4
    let tag := SMap.get 0 s.cls.tags q
    let fr : Frame := { f.frame with data := head ++ data.take 4080, length := some data.length, pkt := some { op := 0x0480, tag, tick := d.tick } }
    let (ok, s) := admitFrame q colour fr s
    if ok then { s with cls := { s.cls with tags := SMap.set 0 s.cls.tags q ((tag + 1) % 65536) } } else s

/-! ## Policing (08 R204–R207) -/

/-- Meter a frame of n bytes with a pre-colour under a flow context: the context's new bytes and the colour (RFC 2698). -/
def meter (b : Bytes) (p : Policer) (clock n pre : Nat) : Bytes × Nat :=
  let e := (clock + 2 ^ 48 - u48 b 12) % 2 ^ 48
  let tc := min p.cbs (u24 b 18 + e * 8 * p.cir / 8000000)
  let tp := min p.pbs (u24 b 21 + e * 8 * p.pir / 8000000)
  let upd := fun (tc tp : Nat) => b.take 12 ++ le 6 clock ++ le 3 tc ++ le 3 tp ++ b.drop 24
  if (p.aware && decide (2 ≤ pre)) || decide (tp < n) then (upd tc tp, 2)
  else if (p.aware && decide (pre = 1)) || decide (tc < n) then (upd tc (tp - n), 1)
  else (upd (tc - n) (tp - n), 0)

/-- A frame under its flow context (R170, R204, 08): discarded without a valid one; counted; policed, but not an exception. Answers the
colour where the frame goes on. -/
def underFlow (flow n pre : Nat) (police : Bool) (s : State) : Option Nat × State :=
  let b := flowBytes flow s
  let flags := u16 b 2
  if !bit flags 0 then (none, count .flowInvalid 0 s)
  else
    let s := if bit flags 2 then addCounter (u32 b 4 % 2 ^ 20) 1 s else s
    if bit flags 1 && police then
      let (b', c) := meter b (s.policer (u16 b 8 % 4096)) (policerClock s) n pre
      let s := setFlow flow b' s
      if c = 2 then (none, count .policerRedDrop 0 s) else (some c, s)
    else (some pre, s)

/-! ## Release (R183, R190–R192) -/

/-- Forward a frame to a queue under a flow context (R191, Table 8.1). -/
def forward (f : Flight) (d : Decision) (q flow cls colour cause : Nat) (s : State) : State :=
  if (f.frame.ingress < 4 ∧ q < 8192) ∨ (12288 ≤ q ∧ q < 12296) then count .clsQueueInvalid 0 s
  else
    match underFlow flow f.frame.len colour true s with
    | (none, s) => s
    | (some c, s) =>
      if 12296 ≤ q then sendException f d q cause c s
      else
        let portId := u16 (flowBytes flow s) 0
        (admitFrame q c { f.frame with port := portId, cls, flow } s).2

/-- Learning and the copy of R192. -/
def sideEffects (f : Flight) (d : Decision) (copy : Bool) (colour : Nat) (s : State) : State :=
  let s := match d.learn with
    | some k => learnFrame k f.frame.ingress s
    | none => s
  if copy then sendException f d f.cfg.copyQueue 2 colour s else s

/-- Where a released frame is forwarded: queue, flow context, CLASS, colour, and the CAUSE of a host delivery. -/
structure Target where
  queue : Nat
  flow : Nat
  cls : Nat
  colour : Nat
  cause : Nat

/-- The lookup of a released frame's decision with learning and copying (Table 7.6, R191, R192): the target where it is
forwarded; a frame for the host or to be dropped has gone its way. -/
def resolve (f : Flight) (d : Decision) (s : State) : Option Target × State :=
  if d.verdict = 5 then (none, sendException f d d.queue 3 0 s)
  else if d.verdict = 3 then (none, sendException f d d.queue 0 d.colour s)
  else
    let (hit, s) := match d.key with
      | some k => (match tblSearch k s with
        | (some h, s) => (some (hitResult k h s), s)
        | (none, s) => (none, s))
      | none => (none, s)
    match hit with
    | none => (some { queue := d.queue, flow := d.flow, cls := d.cls, colour := d.colour, cause := 0 },
        sideEffects f d d.copy d.colour s)
    | some r =>
      let cls := if d.setClass then d.cls else resClass r
      let colour := if d.setColour then d.colour else resColour r
      let s := sideEffects f d (d.copy || decide (resAction r = 3)) colour s
      let dest : Target := { queue := resQueue r, flow := resFlow r, cls, colour, cause := 1 }
      match resAction r with
      | 0 => (some dest, s)
      | 1 => (none, s)
      | 2 => match underFlow (resFlow r) f.frame.len colour false s with
        | (some _, s) => (none, sendException f d (resQueue r) 1 colour s)
        | (none, s) => (none, s)
      | 3 => (some dest, s)
      | _ => (none, count .tblActionReserved 0 s)

/-- What a released frame's decision brings about. -/
def carryOut (f : Flight) (d : Decision) (s : State) : State :=
  match resolve f d s with
  | (some t, s) => forward f d t.queue t.flow t.cls t.colour t.cause s
  | (none, s) => s

/-- A pulled frame passes the pipeline within PATH (10 R273): its one or two passes and the lookup; the queue, flow context,
Port-ID and colour where it is forwarded. -/
def passThrough : Nat → Flight → State → Option (Target × Nat) × State
  | 0, _, s => (none, s)
  | n + 1, f, s =>
    if !(s.image f.epoch).valid then (none, count .clsNoImage 0 s)
    else
      match endPass f (classFlight f s) s with
      | (.drop, s) => (none, s)
      | (.again o decap, s) =>
        let f := if decap then { f with frame := { f.frame with data := f.frame.data.drop o }, pass := 2, start := 0 }
          else { f with pass := 2, start := o }
        passThrough n f s
      | (.done d, s) =>
        match resolve f d s with
        | (none, s) => (none, s)
        | (some t, s) =>
          match underFlow t.flow f.frame.len t.colour true s with
          | (none, s) => (none, s)
          | (some c, s) => (some ({ t with colour := c }, u16 (flowBytes t.flow s) 0), s)

/-- The frame that the reorder stage of a port releases next: in the order of dispatch among frames of the same number of
passes (R183). -/
def nextRelease (port : Nat) : List Flight → List Nat → Option (Flight × Decision)
  | [], _ => none
  | f :: fs, held =>
    if f.frame.ingress ≠ port then nextRelease port fs held
    else match f.stage with
      | .done d => if held.contains f.pass then nextRelease port fs held else some (f, d)
      | .search => nextRelease port fs (f.pass :: held)
      | .again _ => nextRelease port fs held

/-- REORDER_RELEASE (R183). -/
def execReorderRelease (port : Nat) (s : State) : State :=
  match nextRelease port s.cls.flights [] with
  | none => s
  | some (f, d) =>
    carryOut f d { s with cls := { s.cls with flights := changeFirst (fun x => decide (x = f)) (fun _ => none) s.cls.flights } }

end Sys2Proof.Machine
end

