-- ==== Sys2Proof/Machine/Time.lean ====
section
/-!
DEFINITION. Time, outputs, captures and PTP (12): the rows of comparators, outputs, captures, REFCLK, TB0 and the servos,
and the commands of class 0x08.
-/

namespace Sys2Proof.Machine

/-! ## Outputs (R316, R317) -/

def State.output (s : State) (o : Nat) : OutCh := SMap.get {} s.outputs o
def State.setOutput (o : Nat) (v : OutCh) (s : State) : State := { s with outputs := SMap.set {} s.outputs o v }

/-- NS of a value. -/
def nsOf (v : Nat) : Nat := v / nsUnits % 1000000000

/-- d of a comparator, ns: seconds by the signed difference of their low 32 bits, NS by its own (R316). -/
def comparatorD (target now : Nat) : Int :=
  signed 32 ((target / secUnits + 2 ^ 48 - now / secUnits) % 2 ^ 32) * 1000000000 + ((nsOf target : Int) - nsOf now)

/-- The target after one that fired: none with PERIOD_NS 0; the last plus PERIOD_NS; where that is past already, the first
START + k × PERIOD_NS that lies ahead (R317). -/
def nextTarget (c : OutCfg) (last now : Nat) : Option Nat :=
  if c.periodNs = 0 then none
  else
    let p := c.periodNs * nsUnits
    if comparatorD (last + p) now ≤ 0 then some ((c.start + ((now / nsUnits - c.start / nsUnits) / c.periodNs + 1) * p) % tbWrap)
    else some ((last + p) % tbWrap)

/-- The pad of an output drives while its group is enabled (02 R60); latched, it holds its level (16 R381), and neither counts while
the boundary register owns the pads (17 R392). -/
def padDriven (o : Nat) (s : State) : Bool :=
  s.dev.outputs.getLsbD (if o < 8 then 2 else 3) && !s.pwr.padsLatched && !padsOwned s

/-- An output asserts or deasserts: its state, and the edge of its pad where the pad drives (R317). -/
def putOutput (o : Nat) (v : OutCh) (s : State) : State :=
  let u := s.setOutput o v
  if v.asserted = (s.output o).asserted ∨ !padDriven o s then u else emit (.pad o (v.asserted != v.cfg.activeLow)) u

/-- A target fires: the output asserts for WIDTH_NS from it. -/
def fireOutput (o : Nat) (s : State) : State :=
  let x := s.output o
  match x.target with
  | none => s
  | some t =>
    putOutput o { x with asserted := true, endPs := s.clk.nowPs + x.cfg.widthNs * 1000
                         target := nextTarget x.cfg t (tbNow x.cfg.timebase s) } s

/-- COMPARATOR_FIRE (R316): the first clock in which d ≤ 0. -/
def execComparatorFire (o : Nat) (s : State) : State :=
  let x := s.output o
  match x.target with
  | none => s
  | some t =>
    if !x.cfg.enable then s
    else
      let now := tbNow x.cfg.timebase s
      let d := (comparatorD t now).toNat
      let v := if d = 0 then now else now / nsUnits * nsUnits + d * nsUnits
      fireOutput o (advanceTo ((s.timebase x.cfg.timebase).instantOf s.clk.nowPs v) s)

/-- Apply a configuration to an output that is not asserted: TEV arms its comparator, and a target that is past fires at
once (R316, R317). -/
def applyOutput (o : Nat) (c : OutCfg) (s : State) : State :=
  let s := s.setOutput o { s.output o with cfg := c, cfgNext := none, target := if o < 8 ∧ c.enable then some c.start else none }
  if o < 8 ∧ c.enable ∧ comparatorD c.start (tbNow c.timebase s) ≤ 0 then fireOutput o s else s

/-- OUTPUT_PULSE_END (R317): WIDTH_NS after the last target; a configuration that waits takes effect. -/
def execOutputPulseEnd (o : Nat) (s : State) : State :=
  let x := s.output o
  if x.asserted then
    let s := advanceTo x.endPs s
    let s := putOutput o { x with asserted := false } s
    match x.cfgNext with
    | some c => applyOutput o c s
    | none => s
  else s

/-- PPS_OUT_SECOND (R317): PPS_OUT asserts at the next whole second of its timebase. -/
def execPpsOutSecond (s : State) : State :=
  let x := s.output 8
  if x.cfg.enable then
    let t := s.timebase x.cfg.timebase
    let v := t.at_ s.clk.nowPs
    let s := advanceTo (t.instantOf s.clk.nowPs ((v + secUnits - 1) / secUnits * secUnits)) s
    putOutput 8 { x with asserted := true, endPs := s.clk.nowPs + x.cfg.widthNs * 1000 } s
  else s

/-- OUT_STATE: SYNC_OUT is high for the first half of each 40 ns period. -/
def outState (s : State) : Nat :=
  let pads := (List.range 9).foldl (fun a o => a + b2n (s.output o).asserted * 2 ^ o) 0
  let y := (s.output 9).cfg
  let v := tbNow y.timebase s
  pads + b2n (y.enable && decide ((v + syncAhead v s) % syncPeriod < syncPeriod / 2)) * 512

/-! ## Captures (R318) -/

def State.capture (s : State) (k : Nat) : Capture := SMap.get {} s.captures k
def State.setCapture (k : Nat) (v : Capture) (s : State) : State := { s with captures := SMap.set {} s.captures k v }

/-- The offset that a capture gives a servo: to the nearest whole second, plus CABLE_NS (R311). -/
def captureTheta (v : Nat) (cable : Int) : Int := (((v + secUnits / 2) / secUnits * secUnits : Nat) : Int) - v + cable * nsUnits

/-- The servos that take a capture input as their reference. -/
def captureServos (k : Nat) (v : Nat) (s : State) : State :=
  [2, 3, 4, 5, 6, 7].foldl (fun s n =>
    let t := s.timebase n
    if t.servo.kind = 2 ∧ t.servo.index = k then servoTake n (captureTheta v t.servo.cableNs) s else s) s

/-- CAPTURE_EDGE (R318); an edge of a selected TCAP input is a wake source (16 Table 16.4). -/
def execCaptureEdge (k : Nat) (rising : Bool) (s : State) : State :=
  let edge := if rising then 0 else 1
  let s := if k < 8 && bit s.pwr.cfg.wakePinMask k && bit s.pwr.cfg.wakePinEdge edge then fireWake 7 s else s
  let x := s.capture k
  if !bit x.edge edge then s
  else
    let near := match x.lastPs with
      | some ps => decide (s.clk.nowPs < ps + 20000)
      | none => false
    if near then count .tcapMissed k s
    else if 16 ≤ x.queue.length then count .tcapOverflow k (hwSet (0x80200 + 4 * k) 31 (s.setCapture k { x with overflow := true }))
    else
      let v := tbNow x.timebase s
      let s := s.setCapture k { x with queue := x.queue ++ [(v, if rising then 1 else 2)], lastPs := some s.clk.nowPs }
      let s := if x.queue.isEmpty then raise .captureReady 0 0 k s else s
      captureServos k v s

/-! ## REFCLK (R307), TB0 and servo timers -/

/-- REFCLK_LOSS (R307). -/
def execRefclkLoss (s : State) : State :=
  if s.time.refValid then raise .refclkLoss 0 0 0 { s with time := { s.time with refValid := false } } else s

/-- REFCLK_IN_VALID (R307): REFCLK_IN is within range of the nominal frequency that REFCLK_SEL names. -/
def execRefclkInValid (s : State) : State :=
  if s.time.refSel = 0 then s else { s with time := { s.time with refValid := true } }

/-- TB0_CORRECTION_END (R309): the correction applied equals θ, and RATE returns to 0. -/
def execTb0CorrectionEnd (s : State) : State :=
  if s.time.correcting then
    let s := setRate 0 0 (advanceTo s.time.endPs s)
    { s with time := { s.time with correcting := false } }
  else s

/-- SERVO_HOLD_TIMEOUT (Table 12.3): no sample for HOLD_MS. -/
def execServoHoldTimeout (n : Nat) (s : State) : State :=
  let t := s.timebase n
  if 2 ≤ n ∧ (t.state = 1 ∨ t.state = 2) then
    let s := advanceTo (t.samplePs + t.servo.holdMs * 1000000000) s
    servoState n 3 (setRate n (t.integ / 2 ^ 24) s)
  else s

/-! ## PON_TOD (R310) -/

/-- The sample of a PON_TOD against the stamp of its frame: reference time minus TB0. -/
def todTheta (i : Nat) (w : TodWait) (stamp : Nat) (s : State) : Int :=
  let x := s.inst i
  let hs := decide (x.mode = 1)
  (w.stamp : Int) + Config.todDelta hs x.eqd (Config.respNs hs) + w.asymPs * nsUnits / 1000 - stamp

/-- The reply of a sample (Table 12.7). -/
def todReply (theta : Int) (action : Nat) (s : State) : Bytes :=
  le 4 s.clk.tick.toNat ++ le 8 (unsigned 64 theta) ++ le 1 action ++ zeros 3

/-- Use a sample while TB0's source is the PON; otherwise it is unused. -/
def todUse (i : Nat) (w : TodWait) (stamp : Nat) (s : State) : Bytes × State :=
  let theta := todTheta i w stamp s
  if tb0Source s ≤ 1 then
    let (a, s) := tb0Take theta { s with time := { s.time with ponSeen := true } }
    (todReply theta a s, s)
  else (todReply theta 3 s, s)

/-- The stamp of a frame among the last 64. -/
def stampOf (i : Nat) (sfc : Word) (s : State) : Option Nat := ((s.todOf i).stamps.find? (fun e => decide (e.1 = sfc))).map (·.2)

/-- PON_TOD_SAMPLE: frames that PON_TODs wait for have arrived; or sync was lost before they did (R310, R321). -/
def execPonTodSample (i : Nat) (s : State) : State :=
  let t := s.todOf i
  t.waiting.foldl (fun s w =>
    let gone := fun (s : State) => s.setTod i { s.todOf i with waiting := (s.todOf i).waiting.filter (fun x => x.cmd ≠ w.cmd) }
    let finish := fun (st : Status) (p : Bytes) (s : State) =>
      match s.cmd.executing.find? (fun c => decide (c.seq = w.cmd)) with
      | some c => complete c st 0 p s
      | none => s
    match w.got with
    | some v => let (p, s) := todUse i w v (gone s); finish .ok p s
    | none => if w.lost || decide ((s.inst i).sync.state ≠ 2) then finish .notFound [] (gone s) else s) s

def specPonTod : CmdSpec :=
  { op := 0x0804, kind := 1
    check := params 20 (fun q s => badTime q.body 8 ||
      (decide ((s.inst q.index).sync.state = 2) &&
        decide ((2 : Int) ^ 20 < tickDiff (w32 q.body 0) (BitVec.ofNat 32 (s.inst q.index).sync.sfc)))) }

/-- PON_TOD (R310). -/
def effPonTod (c : Cmd) (s : State) : Res :=
  let p := c.req.body
  let i := c.req.index
  if (s.inst i).sync.state ≠ 2 then .fail .busyRetry s
  else
    let w : TodWait := { cmd := c.seq, sfcLo := w32 p 0, asymPs := signed 32 (u32 p 4), stamp := timeOf p 8 }
    match stampOf i w.sfcLo s with
    | some v => let (r, s) := todUse i w v s; .ok r s
    | none =>
      if 0 < tickDiff w.sfcLo (BitVec.ofNat 32 (s.inst i).sync.sfc) then
        .later (s.setTod i { s.todOf i with waiting := (s.todOf i).waiting ++ [w] })
      else .fail .notFound s

def execPonTod (q : CmdReq) (s : State) : State := runCmd specPonTod effPonTod q s

/-! ## TIME_CONFIG, TIME_SET, SERVO_CONFIG, SERVO_SAMPLE -/

def specTimeConfig : CmdSpec :=
  { op := 0x0800, check := params 4 (fun q _ => decide (2 < u8 q.body 0) || decide (u24 q.body 1 ≠ 0)) }

def effTimeConfig (c : Cmd) (s : State) : Res :=
  let sel := u8 c.req.body 0
  .ok [] { s with time := { s.time with refSel := sel, refValid := s.time.refValid && decide (sel = s.time.refSel) } }

def execTimeConfig (q : CmdReq) (s : State) : State := runCmd specTimeConfig effTimeConfig q s

/-- TIME_SET's parameters: unused fields are zero. -/
def badTimeSet (q : CmdReq) : Bool :=
  let p := q.body
  let op := u8 p 0
  let rate := signed 32 (u32 p 24)
  decide (2 < op) || decide (u24 p 1 ≠ 0) || decide (u32 p 28 ≠ 0) ||
  (if op = 0 then badTime p 4 else !allZero (slice p 4 12)) ||
  (decide (op ≠ 1) && decide (u64 p 16 ≠ 0)) ||
  (if op = 2 then decide (q.index = 0) || decide (51200000 < rate.natAbs) else decide (rate ≠ 0))

def specTimeSet : CmdSpec :=
  { op := 0x0801, kind := 5, check := params 32 (fun q _ => badTimeSet q)
    needsAuth := fun q s => decide (u8 q.body 0 ≤ 1) && decide (q.index ≤ 1) && (s.timebase q.index).stepped }

/-- TIME_SET (R308, R321): it takes effect in the clock after its dispatch, and APPLIED is the value in that clock (R320). -/
def effTimeSet (c : Cmd) (s : State) : Res :=
  let p := c.req.body
  let n := c.req.index
  let ps := nextClock s
  let s? : Option State :=
    if u8 p 0 = 0 then some (stepTo n (timeOf p 4) ps s)
    else if u8 p 0 = 1 then some (stepBy n (signed 64 (u64 p 16) * nsUnits) ps s)
    else if 2 ≤ n ∧ (s.timebase n).state ≠ 0 then none
    else some (setRate n (signed 32 (u32 p 24)) s)
  match s? with
  | some u => .ok (timeValue ((u.timebase n).at_ ps)) u
  | none => .fail .busyRetry s

def execTimeSet (q : CmdReq) (s : State) : State := runCmd specTimeSet effTimeSet q s

/-- Does following references from timebase m, at most k steps, reach timebase n (R311)? -/
def refersTo (n : Nat) : Nat → Nat → State → Bool
  | 0, _, _ => false
  | k + 1, m, s =>
    decide (m = n) || (decide ((s.timebase m).servo.kind = 3) && refersTo n k (s.timebase m).servo.index s)

def servoOf (p : Bytes) : ServoCfg :=
  { kind := u8 p 0, index := u8 p 1, stepEn := bit (u8 p 2) 0, kp := u32 p 4, ki := u32 p 8, maxPpm := u16 p 12
    lockNs := u16 p 14, stepNs := u32 p 16, holdMs := u16 p 20, cableNs := signed 32 (u32 p 24) }

/-- SERVO_CONFIG's parameters (R321); with REF_KIND 0 the rest is unused. -/
def badServo (q : CmdReq) (s : State) : Bool :=
  let p := q.body
  let c := servoOf p
  decide (3 < c.kind) || decide (1 < u8 p 2) || decide (u8 p 3 ≠ 0) || decide (u16 p 22 ≠ 0) ||
  (if c.kind = 0 then !allZero p
   else decide (c.maxPpm = 0) || decide (500 < c.maxPpm) || decide (c.holdMs < 10) || decide (60000 < c.holdMs) ||
    (decide (c.kind = 1) && decide (c.index ≠ 0)) ||
    (decide (c.kind ≠ 2) && decide (c.cableNs ≠ 0)) ||
    (decide (c.kind = 2) && (decide (8 < c.index) || decide ((s.capture c.index).timebase ≠ q.index))) ||
    (decide (c.kind = 3) && (decide (7 < c.index) || refersTo q.index 9 c.index s)))

def specServoConfig : CmdSpec :=
  { op := 0x0802, kind := 5, target := fun n => decide (2 ≤ n), force := true, check := params 28 badServo }

/-- SERVO_CONFIG (Table 12.3, R321). -/
def effServoConfig (c : Cmd) (s : State) : Res :=
  let n := c.req.index
  let t := s.timebase n
  let v := servoOf c.req.body
  if t.state = 2 ∧ t.servo.kind ≠ v.kind ∧ c.req.force = false then .fail .busyService s
  else if v.kind = 0 then .ok [] (servoState n 0 (s.setTimebase n { t with servo := v }))
  else if t.state = 0 then .ok [] (servoState n 1 (s.setTimebase n { t with servo := v, integ := 0, samplePs := s.clk.nowPs }))
  else .ok [] (s.setTimebase n { t with servo := v })

def execServoConfig (q : CmdReq) (s : State) : State := runCmd specServoConfig effServoConfig q s

def specServoSample : CmdSpec :=
  { op := 0x0803, kind := 5, target := fun n => decide (2 ≤ n)
    check := params 8 (fun q s => decide ((s.timebase q.index).servo.kind ≠ 1)) }

/-- SERVO_SAMPLE (R311). -/
def effServoSample (c : Cmd) (s : State) : Res := .ok [] (servoTake c.req.index (signed 64 (u64 c.req.body 0)) s)

def execServoSample (q : CmdReq) (s : State) : State := runCmd specServoSample effServoSample q s

/-! ## OUTPUT_CONFIG, CAPTURE_CONFIG, CAPTURE_READ -/

def outOf (p : Bytes) : OutCfg :=
  { timebase := u8 p 1, enable := bit (u8 p 2) 0, activeLow := bit (u8 p 2) 1, start := timeOf p 4
    periodNs := u32 p 16, widthNs := u32 p 20 }

/-- OUTPUT_CONFIG's parameters (Table 12.6, R321). -/
def badOutput (p : Bytes) : Bool :=
  let o := u8 p 0
  let c := outOf p
  decide (9 < o) || decide (7 < c.timebase) || decide (3 < u8 p 2) || decide (u8 p 3 ≠ 0) || badTime p 4 ||
  (if o = 9 then !allZero (slice p 4 20)
   else decide (c.widthNs < 10) ||
    (if o = 8 then decide (500000000 < c.widthNs) || !allZero (slice p 4 16)
     else decide (c.periodNs ≠ 0) && (decide (c.periodNs < 1000) || decide (1000000000 < c.periodNs) ||
       decide (c.periodNs ≤ c.widthNs + 10))))

def specOutputConfig : CmdSpec := { op := 0x0805, check := params 24 (fun q _ => badOutput q.body) }

/-- OUTPUT_CONFIG (R317): one that reaches an asserted output waits for the end of the pulse. -/
def effOutputConfig (c : Cmd) (s : State) : Res :=
  let o := u8 c.req.body 0
  let v := outOf c.req.body
  if (s.output o).asserted then
    .ok (if o < 8 ∧ v.enable then timeValue v.start else zeros 12) (s.setOutput o { s.output o with cfgNext := some v })
  else
    let s := applyOutput o v s
    .ok (if o < 8 then timeValue (((s.output o).target).getD 0) else zeros 12) s

def execOutputConfig (q : CmdReq) (s : State) : State := runCmd specOutputConfig effOutputConfig q s

def specCaptureConfig : CmdSpec :=
  { op := 0x0806, check := params 4 (fun q _ =>
      decide (8 < u8 q.body 0) || decide (7 < u8 q.body 1) || decide (3 < u8 q.body 2) || decide (u8 q.body 3 ≠ 0)) }

/-- CAPTURE_CONFIG: a change of TIMEBASE discards the records that wait. -/
def effCaptureConfig (c : Cmd) (s : State) : Res :=
  let p := c.req.body
  let x := s.capture (u8 p 0)
  .ok [] (s.setCapture (u8 p 0) { x with
    timebase := u8 p 1, edge := u8 p 2, queue := if x.timebase = u8 p 1 then x.queue else [] })

def execCaptureConfig (q : CmdReq) (s : State) : State := runCmd specCaptureConfig effCaptureConfig q s

def specCaptureRead : CmdSpec :=
  { op := 0x0807, check := params 4 (fun q _ =>
      decide (8 < u8 q.body 0) || decide (u8 q.body 1 = 0) || decide (16 < u8 q.body 1) || decide (u16 q.body 2 ≠ 0)) }

/-- CAPTURE_READ: the records read are removed. -/
def effCaptureRead (c : Cmd) (s : State) : Res :=
  let p := c.req.body
  let x := s.capture (u8 p 0)
  let got := x.queue.take (u8 p 1)
  .ok (le 1 got.length ++ zeros 3 ++ got.flatMap (fun e => timeValue e.1 ++ le 1 e.2 ++ zeros 3))
    (s.setCapture (u8 p 0) { x with queue := x.queue.drop (u8 p 1) })

def execCaptureRead (q : CmdReq) (s : State) : State := runCmd specCaptureRead effCaptureRead q s

/-! ## PTP (R314, R315) -/

def State.mac (s : State) (h : Nat) : Mac := SMap.get {} s.macs h
def State.setMac (h : Nat) (v : Mac) (s : State) : State := { s with macs := SMap.set {} s.macs h v }

def specPtpConfig : CmdSpec :=
  { op := 0x0808, check := params 4 (fun q s =>
      decide (3 < u8 q.body 0) || decide (1 < u8 q.body 1) || decide (7 < u8 q.body 2) || decide (u8 q.body 3 ≠ 0) ||
      (decide (u8 q.body 0 ≠ 0) && decide ((s.mac 0).cfg.mode = 2))) }

def effPtpConfig (c : Cmd) (s : State) : Res :=
  let p := c.req.body
  .ok [] (s.setPtp (u8 p 0) { s.ptpOf (u8 p 0) with rxEn := bit (u8 p 1) 0, timebase := u8 p 2 })

def execPtpConfig (q : CmdReq) (s : State) : State := runCmd specPtpConfig effPtpConfig q s

def checkPtpTx (q : CmdReq) (_ : State) : Option Status :=
  let n := q.body.length
  if n < 64 ∨ 4096 < n then some .badLength
  else if 3 < u8 q.body 0 ∨ u24 q.body 1 ≠ 0 then some .badParam else none

def specPtpTx : CmdSpec := { op := 0x0809, check := checkPtpTx }

/-- PTP_TX (R315): the frame waits for the port's next frame boundary, ahead of every queue. -/
def effPtpTx (c : Cmd) (s : State) : Res :=
  let h := u8 c.req.body 0
  let x := s.ptpOf h
  if !(s.mac h).link || decide (4 ≤ x.waiting.length) then .fail .busyRetry s
  else .later (s.setPtp h { x with waiting := x.waiting ++ [(c.seq, c.req.body.drop 4)] })

def execPtpTx (q : CmdReq) (s : State) : State := runCmd specPtpTx effPtpTx q s

def specPtpRxRead : CmdSpec :=
  { op := 0x080A, check := params 4 (fun q _ =>
      decide (3 < u8 q.body 0) || decide (u8 q.body 1 = 0) || decide (64 < u8 q.body 1) || decide (u16 q.body 2 ≠ 0)) }

/-- PTP_RX_READ: the records read are removed. -/
def effPtpRxRead (c : Cmd) (s : State) : Res :=
  let p := c.req.body
  let x := s.ptpOf (u8 p 0)
  let got := x.ring.take (u8 p 1)
  .ok (le 1 got.length ++ zeros 3 ++ got.flatMap (fun r =>
      le 1 r.msg ++ le 1 r.domain ++ le 2 r.seq ++ fit 10 r.port ++ zeros 2 ++ timeValue r.time))
    (s.setPtp (u8 p 0) { x with ring := x.ring.drop (u8 p 1) })

def execPtpRxRead (q : CmdReq) (s : State) : State := runCmd specPtpRxRead effPtpRxRead q s

/-! ## Registers (R319) -/

/-- TB_NS_READ (R319): NS, with TB_SEC_LO and TB_SEC_HI latched. -/
def execTbNsRead (p : Path) (n : Nat) (s : State) : State :=
  hostRead p (0x80000 + 0x20 * n) (fun s =>
    let v := tbNow n s
    let sec := v / secUnits
    let l := s.latch p
    answer p (0x80000 + 0x20 * n) (BitVec.ofNat 32 (v / nsUnits % 1000000000))
      (s.setLatch p { l with
        tbSecLo := SMap.set 0 l.tbSecLo n (BitVec.ofNat 32 sec)
        tbSecHi := SMap.set 0 l.tbSecHi n (BitVec.ofNat 32 (v % nsUnits * 65536 + sec / 2 ^ 32)) })) s

/-- The time registers that no read changes. -/
def readTime (p : Path) (off : Nat) (s : State) : Option Nat :=
  if off < 0x100 then
    let n := off / 0x20
    let t := s.timebase n
    match off % 0x20 with
    | 0x04 => some (SMap.get 0 (s.latch p).tbSecLo n).toNat
    | 0x08 => some (SMap.get 0 (s.latch p).tbSecHi n).toNat
    | 0x0C => some (unsigned 32 t.rate)
    | 0x10 => some (b2n (t.stepped && decide (n < 2)) * 512 + b2n (decide (n < 2)) * 256 + t.servo.kind * 16 + t.state)
    | 0x14 => some (unsigned 32 t.offset)
    | _ => none
  else if off = 0x100 then
    some (b2n s.time.refValid * 128 + s.time.refSel * 32 + tb0Source s * 4 + b2n s.time.correcting * 2)
  else if off = 0x104 then some (outState s)
  else if 0x200 ≤ off ∧ off < 0x224 then
    let x := s.capture ((off - 0x200) / 4)
    some (b2n x.overflow * 2 ^ 31 + x.queue.length)
  else none

/-- CAP_STATUS.OVERFLOW is write-1-to-clear. -/
def writeCapStatus (k : Nat) (v : Word) (s : State) : State :=
  if v.getLsbD 31 then s.setCapture k { s.capture k with overflow := false } else s

end Sys2Proof.Machine
end

