-- ==== Sys2Proof/Machine/Stm.lean ====
section
/-!
DEFINITION. The bits and bytes of an STM-N signal: the samples of a legacy lane and its clock recovery (09 R237, R238), the framing
pattern's hunt (11 R287), the transmitted STM-N frame (11 R285, R286), the VC-12 mapping of an E1 (11 R290), K4 and the shares of a
virtual concatenation group (11 R292, R293), and the K1 codes (11 R299).
-/

namespace Sys2Proof.Machine

/-! ## Bits and parities -/

/-- The bits of a byte string in order of transmission, most significant first. -/
def msbBits (p : Bytes) : List Bool := (p.map (fun b => (List.range 8).map (fun k => b.getLsbD (7 - k)))).flatten

/-- The number of bits, most significant first. -/
def msbNat (l : List Bool) : Nat := l.foldl (fun v b => v * 2 + b2n b) 0

/-- The bytes of bits in order of transmission; the last byte is filled with zeros. -/
def msbBytes (n : Nat) (l : List Bool) : Bytes :=
  (List.range n).map (fun k => BitVec.ofNat 8 (msbNat ((l.drop (8 * k)).take 8 ++ List.replicate (8 - (l.length - 8 * k)) false)))

/-- BIP-8: even parity of each bit position over a byte string. -/
def bip8 (p : Bytes) : Byte := p.foldl (· ^^^ ·) 0

/-- BIP-2 of a VC-12: even parity of the odd bits and of the even bits of its bytes, bit 1 being the most significant (R290). -/
def bip2 (p : Bytes) : Nat :=
  let x := (bip8 p).toNat
  popcount 8 (x &&& 0xAA) % 2 * 2 + popcount 8 (x &&& 0x55) % 2

/-- The value on which at least two of three bits agree (R290). -/
def majority (l : List Bool) : Bool := decide (2 ≤ (l.filter (fun b => b)).length)

/-- Are three bits unanimous (R290)? -/
def unanimous (l : List Bool) : Bool := l.all (fun b => b) || l.all (fun b => !b)

/-! ## Samples and clock recovery (09 R237, R238) -/

/-- Samples of a bit at 9.95328 GS/s: 16 at rate 5, 64 at rate 6. -/
def oversampling (rate : Nat) : Nat := if rate = 5 then 16 else 64

/-- Each bit as identical samples (R238). -/
def samplesOf (times : Nat) (bits : List Bool) : List Bool := (bits.map (List.replicate times)).flatten

/-- The samples that a tributary port has transmitted, from what the part has put out, oldest first. -/
def stmSamples (t : Nat) (out : List Out) : List Bool :=
  (out.map (fun o => match o with
    | .stm k times _ data => if k = t then samplesOf times (msbBits data) else []
    | _ => [])).flatten

/-- One sample at the clock recovery: a transition marks a bit's boundary, and the sample half a bit after a boundary is nearest the
bit's centre (R237). -/
def Trib.sample (times : Nat) (x : Trib) (b : Bool) : Option Bool × Trib :=
  let phase := if b != x.cdrLast then 0 else (x.cdrPhase + 1) % times
  (if phase = times / 2 then some b else none, { x with cdrLast := b, cdrPhase := phase })

/-! ## The hunt for the framing pattern (11 Table 11.1) -/

/-- The number of AU-4s of a port whose lane has a rate code (R285). -/
def auCount (rate : Nat) : Nat := if rate = 5 then 4 else 1

/-- N, the bits of a frame. -/
def frameBits (n : Nat) : Nat := 19440 * n

/-- The framing pattern: three A1 bytes and three A2 bytes. -/
def framing : Nat := 0xF6F6F6282828

/-- The bits from the end of the pattern to the end of the frame's B1 byte, the first byte of its second row. -/
def b1Bits (n : Nat) : Nat := (267 * n - 3) * 8 + 8

/-- One bit of the frame-synchronous scrambler 1 + x⁶ + x⁷, which starts a frame's scrambled part with seven ones. -/
def stmScramble : Nat → Nat → List Bool
  | 0, _ => []
  | k + 1, r => bit r 6 :: stmScramble k (r * 2 % 128 + b2n (bit r 6 != bit r 5))

/-- The scrambler's bits over the B1 byte; the pattern repeats after 127 bits. -/
def b1Scramble (n : Nat) : Nat := msbNat ((stmScramble 135 127).drop (2088 * n % 127) |>.take 8)

/-- What a recovered bit brings about in the hunt. -/
inductive HuntEvent where
  | overflow | falseFrame | locked
  deriving DecidableEq, Repr

/-- A candidate after a bit: the bits since its last hit and the B1 over them. -/
def Cand.push (c : Cand) (b : Bool) : Cand := { c with run := c.run + 1, bip := c.bip ^^^ (b2n b * 2 ^ (7 - c.run % 8)) }

/-- Has the frame's B1 byte just arrived and does it differ from the candidate's? -/
def Cand.falseB1 (n shift : Nat) (c : Cand) : Bool :=
  decide (c.run = b1Bits n) && c.want.any (fun v => decide (shift % 256 ^^^ b1Scramble n ≠ v))

/-- A candidate whose expected position the pattern has reached. -/
def Cand.hit (c : Cand) : Cand :=
  { c with hits := c.hits + 1, run := 0, bip := 0, want := if c.hits = 1 ∧ c.check then some c.bip else none }

/-- One recovered bit of a port that hunts, with n AU-4s. -/
def Trib.huntBit (n : Nat) (x : Trib) (b : Bool) : Trib × List HuntEvent :=
  let pos := (x.bitNo + 1) % frameBits n
  let shift := (x.shift * 2 + b2n b) % 2 ^ 48
  let found := decide (shift = framing)
  let cands := x.cands.map (fun c => c.push b)
  let ev := (cands.filter (Cand.falseB1 n shift)).map (fun _ => HuntEvent.falseFrame)
  let cands := cands.filter (fun c => !c.falseB1 n shift && (found || decide (c.pos ≠ pos)))
  let x := { x with bitNo := pos, shift }
  if !found then ({ x with cands }, ev)
  else match cands.find? (fun c => decide (c.pos = pos)) with
  | some c =>
    if 2 ≤ c.hits then ({ x with align := 2, offset := pos, cands := [], errRun := 0 }, ev ++ [.locked])
    else ({ x with cands := cands.map (fun c => if c.pos = pos then c.hit else c) }, ev)
  | none =>
    if 4 ≤ cands.length then ({ x with cands := cands.drop 1 ++ [({ pos } : Cand)] }, ev ++ [.overflow])
    else ({ x with cands := cands ++ [({ pos } : Cand)] }, ev)

/-- Samples in turn, until the port is in frame. -/
def Trib.hunt (times n : Nat) : Trib → List Bool → Trib × List HuntEvent
  | x, [] => (x, [])
  | x, b :: l =>
    if x.align ≠ 1 then (x, [])
    else
      let (o, x) := x.sample times b
      let (x, ev) := match o with
        | some v => x.huntBit n v
        | none => (x, [])
      let (y, more) := x.hunt times n l
      (y, ev ++ more)

/-! ## The VC-12 (11 R290, R292) -/

/-- A VC-12 of 140 bytes: V5, J2, N2 and K4, each followed by 34 bytes. -/
def vc12 (v5 k4 : Nat) (body : Bytes) : Bytes :=
  le 1 v5 ++ slice body 0 34 ++ zeros 1 ++ slice body 34 34 ++ zeros 1 ++ slice body 68 34 ++ le 1 k4 ++ slice body 102 34

/-- The 136 bytes of a VC-12 beside its overhead. -/
def vcBody (p : Bytes) : Bytes := slice p 1 34 ++ slice p 36 34 ++ slice p 71 34 ++ slice p 106 34

/-- The body that carries 1,024 + d bits of an E1, d from −1 to 1, under the asynchronous mapping of G.707: S1 is a justification bit
unless d is 1, S2 where d is −1; each C triple has its bits alike (R290). -/
def e1Body (d : Int) (l : List Bool) : Bytes :=
  let c1 := decide (d ≠ 1)
  let c2 := decide (d = -1)
  let n1 := b2n !c1
  let c := [c1, c2] ++ List.replicate 6 false
  let s1 := if c1 then [false] else (l.drop 768).take 1
  let s2 := if c2 then [false] else (l.drop (768 + n1)).take 1
  let rest := l.drop (768 + n1 + b2n !c2)
  zeros 1 ++ msbBytes 32 l ++ zeros 1 ++ msbBytes 1 c ++ msbBytes 32 (l.drop 256) ++ zeros 1 ++
    msbBytes 1 c ++ msbBytes 32 (l.drop 512) ++ zeros 1 ++
    msbBytes 1 ([c1, c2] ++ List.replicate 5 false ++ s1) ++ msbBytes 1 (s2 ++ rest.take 7) ++ msbBytes 31 (rest.drop 7) ++ zeros 1

/-- The three C1 bits, or the three C2 bits, of a received VC-12. -/
def cTriple (k : Nat) (p : Bytes) : List Bool := [36, 71, 106].map (fun i => (p.getD i 0).getLsbD (8 - k))

/-- The E1 bits of a received VC-12: S1 and S2 are data where the majority of their triple is 0 (R290). -/
def e1Bits (p : Bytes) : List Bool :=
  let s1 := if majority (cTriple 1 p) then [] else [(p.getD 106 0).getLsbD 0]
  let last := msbBits (slice p 107 32)
  let s2 := if majority (cTriple 2 p) then [] else last.take 1
  msbBits (slice p 2 32 ++ slice p 37 32 ++ slice p 72 32) ++ s1 ++ s2 ++ last.drop 1

/-- The C triples that are not unanimous (R290). -/
def jcVotes (p : Bytes) : Nat := b2n !(unanimous (cTriple 1 p)) + b2n !(unanimous (cTriple 2 p))

/-- The bits of the selected timeslots, where `first` is the first bit of a basic frame of 256 bits (R291). -/
def slotBits (slots first : Nat) (l : List Bool) : List Bool :=
  (l.zipIdx.filter (fun e => bit slots ((e.2 + 256 - first) % 256 / 8))).map (·.1)

/-- A basic frame of a transmitted CESoPSN E1: timeslot 0 with or without the frame alignment signal, the selected timeslots' bytes, and
all ones elsewhere. -/
def e1Frame (slots : Nat) (fas : Bool) (data : Bytes) : Bytes :=
  (List.range 32).map (fun t =>
    if t = 0 then (if fas then 0x9B else 0xDF)
    else if bit slots t then data.getD (popcount t slots) 0xFF else 0xFF)

/-- The basic frames that carry the data of n frames. -/
def e1Frames (slots : Nat) : Nat → Bool → Bytes → Bytes × Bool
  | 0, fas, _ => ([], fas)
  | n + 1, fas, data =>
    let (l, f) := e1Frames slots n (!fas) (data.drop (popcount 32 slots))
    (e1Frame slots fas data ++ l, f)

/-! ## Virtual concatenation (11 R292, R293) -/

/-- K4 bit 2 of multiframe n of a member: five bits of multiframe indicator, six of SQ, then zeros, most significant first. -/
def k4Bit (n sq : Nat) : Bool :=
  let k := n % 32
  if k < 5 then bit (n / 32) (4 - k) else if k < 11 then bit sq (10 - k) else false

/-- The byte interleaved of the members' bytes in ascending SQ (R292). -/
def interleaved (l : List Bytes) : Bytes := ((List.range 136).map (fun k => l.map (fun p => p.getD k 0xFF))).flatten

/-- The share of SQ q among x members. -/
def shareOf (x q : Nat) (p : Bytes) : Bytes := (List.range 136).map (fun k => p.getD (k * x + q) 0xFF)

/-! ## The transmitted STM-N frame (11 R285, R286) -/

/-- The 36 bytes of a TU-12 in a frame at a place of the TU multiframe: the pointer byte V1, V2, V3 or V4 of the fixed pointer 70, then
a quarter of the VC-12, whose V5 follows V4. -/
def tuBytes (place : Nat) (vc : Bytes) : Bytes :=
  let p := if vc.isEmpty then zeros 140 else vc
  (match place with
    | 0 => 0x68 :: slice p 35 35
    | 1 => 0x46 :: slice p 70 35
    | 2 => 0 :: slice p 105 35
    | _ => 0 :: slice p 0 35)

/-- The byte of a VC-4's TUG structure in a row and one of its 258 columns: three TUG-3s interleaved, each of a column with the null
pointer indication, a column of stuff and seven TUG-2s interleaved, each of three TU-12s interleaved. -/
def tugByte (tu : Nat → Bytes) (row col : Nat) : Byte :=
  let c := col / 3
  if c = 0 then (if row = 0 then 0x93 else if row = 1 then 0xE0 else 0)
  else if c = 1 then 0
  else
    let i := (c - 2) / 7
    (tu ((col % 3 + 1) * 64 + ((c - 2) % 7 + 1) * 8 + (i % 3 + 1))).getD (row * 4 + i / 3) 0

/-- A VC-4 of 2,349 bytes: its path overhead J1, B3, C2, G1, F2, H4, F3, K3, N1, two columns of stuff, and the TUG structure. -/
def vc4 (b3 g1 h4 : Nat) (tu : Nat → Bytes) : Bytes :=
  ((List.range 9).map (fun r =>
    let poh : Byte := if r = 1 then BitVec.ofNat 8 b3 else if r = 2 then 2 else if r = 3 then BitVec.ofNat 8 g1
      else if r = 5 then BitVec.ofNat 8 h4 else 0
    poh :: 0 :: 0 :: (List.range 258).map (tugByte tu r))).flatten

/-- The fixed AU-4 pointer 522: H1, Y, Y, H2, two bytes of ones and H3. -/
def auPointer : Bytes := [0x6A, 0x93, 0x93, 0x0A, 0xFF, 0xFF, 0, 0, 0]

/-- The 9N bytes of section overhead and pointers of a row. -/
def sohRow (n b1 : Nat) (b2 : Bytes) (k1 k2 m1 : Nat) : Nat → Bytes
  | 0 => List.replicate (3 * n) 0xF6 ++ List.replicate (3 * n) 0x28 ++ zeros (3 * n)
  | 1 => le 1 b1 ++ zeros (9 * n - 1)
  | 3 => (auPointer.map (List.replicate n)).flatten
  | 4 => fit (3 * n) b2 ++ le 1 k1 ++ zeros (3 * n - 1) ++ le 1 k2 ++ zeros (3 * n - 1)
  | 8 => zeros (3 * n + 2) ++ le 1 m1 ++ zeros (6 * n - 3)
  | _ => zeros (9 * n)

/-- The rows of an STM-N frame before scrambling; the AU-4s are byte-interleaved, and the pointer puts each VC-4's row in the row. -/
def stmRows (n b1 : Nat) (b2 : Bytes) (k1 k2 m1 : Nat) (vcs : List Bytes) : List Bytes :=
  (List.range 9).map (fun r =>
    sohRow n b1 b2 k1 k2 m1 r ++ ((List.range 261).map (fun c => vcs.map (fun v => v.getD (r * 261 + c) 0))).flatten)

/-- B2: BIP-24N over all bytes of a frame but the first three rows of section overhead. -/
def b2Of (n : Nat) (rows : List Bytes) : Bytes :=
  let parts := rows.zipIdx.map (fun e => if e.2 < 3 then zeros (9 * n) ++ e.1.drop (9 * n) else e.1)
  (List.range (3 * n)).map (fun j =>
    (parts.map (fun p => (List.range 90).foldl (fun v k => v ^^^ p.getD (k * 3 * n + j) 0) (0 : Byte))).foldl (· ^^^ ·) 0)

/-- The frame as it is sent: all but the first row's overhead is scrambled. -/
def scrambled (n : Nat) (p : Bytes) : Bytes :=
  let k := p.length - 9 * n
  p.take (9 * n) ++ List.zipWith (· ^^^ ·) (p.drop (9 * n)) (msbBytes k (stmScramble (8 * k) 127))

/-! ## K1 (11 R299) -/

/-- The K1 request code of G.841 and the channel for a request of Table 11.6. -/
def k1Code : Nat → Nat
  | 9 => 0xF0
  | 8 => 0xC0
  | 7 => 0xE1
  | 6 => 0xC1
  | 5 => 0xA0
  | 4 => 0xA1
  | 3 => 0x81
  | 2 => 0x80
  | 1 => 0x61
  | _ => 0

/-- The request of Table 11.6 that a received K1 byte names; the high-priority codes of SF and SD name the same requests. -/
def k1Request (v : Nat) : Nat :=
  let low := if v / 16 = 13 then 12 * 16 + v % 16 else if v / 16 = 11 then 10 * 16 + v % 16 else v
  ((List.range 10).find? (fun r => decide (r ≠ 0 ∧ k1Code r = low))).getD 0

end Sys2Proof.Machine
end

