-- ==== Sys2Proof/Machine/Tributary.lean ====
section
/-!
DEFINITION. Legacy tributaries (11): frame alignment, defects and their consequences, performance seconds and bins, circuit
emulation in both directions, MSP 1+1, and the commands of class 0x07.
-/

namespace Sys2Proof.Machine

def State.trib (s : State) (t : Nat) : Trib := SMap.get {} s.tribs t
def State.setTrib (t : Nat) (v : Trib) (s : State) : State := { s with tribs := SMap.set {} s.tribs t v }
def State.modTrib (t : Nat) (f : Trib → Trib) (s : State) : State := s.setTrib t (f (s.trib t))
def State.tpath (s : State) (p : Nat) : TPath := SMap.get {} s.tpaths p
def State.setTpath (p : Nat) (v : TPath) (s : State) : State := { s with tpaths := SMap.set {} s.tpaths p v }
def State.vcat (s : State) (g : Nat) : Vcat := SMap.get {} s.vcats g
def State.setVcat (g : Nat) (v : Vcat) (s : State) : State := { s with vcats := SMap.set {} s.vcats g v }
def State.circ (s : State) (c : Nat) : Circ := SMap.get {} s.circs c
def State.setCirc (c : Nat) (v : Circ) (s : State) : State := { s with circs := SMap.set {} s.circs c v }
def State.msp (s : State) (k : Nat) : Msp := SMap.get {} s.msps k
def State.setMsp (k : Nat) (v : Msp) (s : State) : State := { s with msps := SMap.set {} s.msps k v }
def Trib.au (x : Trib) (n : Nat) : AuState := SMap.get {} x.aus n

/-! ## Paths, ports and defects (R286, R289, R299) -/

/-- The paths assigned to a port. -/
def pathsOf (t : Nat) (s : State) : List Nat := (s.tpaths.filter (fun e => decide (e.2.mode ≠ 0 ∧ e.2.port = t))).map (·.1)

/-- The port from which a path takes its received signal: the selected one of an enabled MSP pair (R299). -/
def rxPort (t : Nat) (s : State) : Nat :=
  let m := s.msp (t / 2)
  if m.enabled && decide (m.selected = 1) && decide (t % 2 = 0) then t + 1 else t

/-- The paths that take their received signal from a port. -/
def pathsFrom (t : Nat) (s : State) : List Nat :=
  (s.tpaths.filter (fun e => decide (e.2.mode ≠ 0 ∧ rxPort e.2.port s = t))).map (·.1)

/-- The port defects that are declared, by the suppression of R289. -/
def portDefects (x : Trib) : List Nat :=
  if !x.enable then []
  else if x.los then [0]
  else if x.lof then [1]
  else if x.msAis then [2]
  else (if x.exc then [3] else []) ++ (if x.deg then [4] else [])

/-- The declared defects of an AU-4. -/
def auDefects (a : AuState) : List Nat :=
  if a.lop || a.ais then (if a.lop then [5] else []) ++ (if a.ais then [6] else []) else if a.lom then [7] else []

/-- The declared defects of a port as (code, path or AU-4): port, AU-4 and path defects (R289). -/
def defectsOf (t : Nat) (s : State) : List (Nat × Nat) :=
  let x := s.trib t
  let port := (portDefects x).map (fun c => (c, 0))
  if !x.enable || !port.isEmpty then port
  else
    let aus := (List.range 4).flatMap (fun n => (auDefects (x.au n)).map (fun c => (c, n)))
    let tus := (pathsFrom t s).flatMap (fun p =>
      let y := s.tpath p
      if (auDefects (x.au y.au4)).isEmpty then (if y.tuLop then [(8, p)] else []) ++ (if y.tuAis then [(9, p)] else []) else [])
    aus ++ tus

/-- The remote defect indications that a port sends for its defects: their kind and object (Table 11.3). -/
def rdisOf (l : List (Nat × Nat)) : List (Nat × Nat) :=
  (l.filterMap (fun d => if d.1 ≤ 2 then some (0, 0) else if d.1 = 5 ∨ d.1 = 6 then some (1, d.2)
    else if d.1 = 8 ∨ d.1 = 9 then some (2, d.2) else none)).eraseDups

/-- Make a change, raise TRIB_DEFECT for each defect of a port that it declares or clears (R289), and begin or cease the remote
indications. -/
def withDefects (t : Nat) (f : State → State) (s : State) : State :=
  let before := defectsOf t s
  let s := f s
  let after := defectsOf t s
  let s := ((rdisOf before).filter (fun d => !(rdisOf after).contains d)).foldl (fun s d => emit (.rdi t d.1 d.2 false) s) s
  let s := ((rdisOf after).filter (fun d => !(rdisOf before).contains d)).foldl (fun s d => emit (.rdi t d.1 d.2 true) s) s
  let s := (before.filter (fun d => !after.contains d)).foldl (fun s d => raise .tribDefect 4 t (d.1 + d.2 * 256) s) s
  (after.filter (fun d => !before.contains d)).foldl (fun s d => raise .tribDefect 4 t (d.1 + d.2 * 256 + 2 ^ 31) s) s

/-- The AU-4s of a port (R285). -/
def ausOf (t : Nat) (s : State) : Nat := auCount (s.lane (24 + t)).rate

/-- Is a path in trail fail (R289, R291)? A port that is not enabled, or without the path's AU-4, gives it no signal. -/
def pathFails (p : Nat) (s : State) : Bool :=
  let y := s.tpath p
  let r := rxPort y.port s
  let x := s.trib r
  !x.enable || (portDefects x).any (fun c => decide (c ≤ 3)) || decide (ausOf r s ≤ y.au4) || !(auDefects (x.au y.au4)).isEmpty ||
    y.tuLop || y.tuAis || (decide (y.mode = 2) && y.e1Lof)

/-- The configured members of a group, as (SQ, path): SQ is below the group's X (R292). -/
def membersOf (g : Nat) (s : State) : List (Nat × Nat) :=
  (s.tpaths.filter (fun e => decide (e.2.mode = 3 ∧ e.2.group = g ∧ e.2.sq < (s.vcat g).x))).map (fun e => (e.2.sq, e.1))

/-- Is a group in trail fail (R293)? -/
def groupFails (g : Nat) (s : State) : Bool :=
  let v := s.vcat g
  let m := membersOf g s
  v.loa || m.any (fun e => pathFails e.2 s || (s.tpath e.2).lom || (s.tpath e.2).sqm) ||
    (List.range v.x).any (fun q => !m.any (fun e => decide (e.1 = q)))

/-- Is a circuit (path, or 1,024 + group) in trail fail? -/
def circuitFails (c : Nat) (s : State) : Bool := if c < 1024 then pathFails c s else groupFails (c - 1024) s

/-- Does a circuit exist? -/
def circuitOn (c : Nat) (s : State) : Bool :=
  if c < 1008 then decide ((s.tpath c).mode = 1 ∨ (s.tpath c).mode = 2) else if c < 1024 then false else decide ((s.vcat (c - 1024)).x ≠ 0)

/-! ## Performance seconds and bins (R301, R302) -/

/-- Start monitoring an entity: its bins begin with the ones in progress, SUSPECT unless they begin now. -/
def startPm (k : Nat) (s : State) : State :=
  if (SMap.get none s.pms k).isSome then s
  else
    let sec := tbNow 0 s / secUnits
    let p : Pm := { cur15 := { start := sec / 900 * 900, suspect := decide (sec % 900 ≠ 0) }
                    cur24 := { start := sec / 86400 * 86400, suspect := decide (sec % 86400 ≠ 0) } }
    { s with pms := SMap.set none s.pms k (some p) }

/-- An entity that is no longer monitored: its current bins do not cover their whole time. -/
def stopPm (k : Nat) (s : State) : State :=
  match SMap.get none s.pms k with
  | some p => { s with pms := SMap.set none s.pms k (some { p with
      cur15 := { p.cur15 with suspect := true }, cur24 := { p.cur24 with suspect := true } }) }
  | none => s

/-- The entities of a port with n AU-4s: regenerator and multiplex sections and its VC-4s. -/
def portEntities (t n : Nat) : List Nat := [t, 4096 + t] ++ (List.range n).map (fun a => 8192 + 4 * t + a)

/-- Count an errored block of an entity. -/
def pmBlock (k : Nat) (bad : Bool) (s : State) : State :=
  if bad then
    match SMap.get none s.pms k with
    | some p => { s with pms := SMap.set none s.pms k (some { p with blocks := p.blocks + 1 }) }
    | none => s
  else s

/-- A defect at or above an entity is present now (Table 11.7). -/
def pmDefect (k : Nat) (s : State) : Bool :=
  let e := k / 4096
  let i := k % 4096
  let port := fun (t bound : Nat) => (portDefects (s.trib t)).any (fun c => decide (c ≤ bound))
  match e with
  | 0 => port i 1
  | 1 => port i 2
  | 2 => port (i / 4) 2 || (auDefects ((s.trib (i / 4)).au (i % 4))).any (fun c => decide (c ≤ 6))
  | _ =>
    let y := s.tpath i
    let t := rxPort y.port s
    port t 2 || !(auDefects ((s.trib t).au y.au4)).isEmpty || y.tuLop || y.tuAis

/-- Is an entity monitored: its port in service, its path assigned? -/
def monitored (k : Nat) (s : State) : Bool :=
  let i := k % 4096
  if k / 4096 < 2 then (s.trib i).enable else if k / 4096 = 2 then (s.trib (i / 4)).enable else decide ((s.tpath i).mode ≠ 0)

/-- Note defects of the present second. -/
def noteDefects (s : State) : State :=
  { s with pms := s.pms.map (fun e => (e.1, e.2.map (fun p => { p with defect := p.defect || pmDefect e.1 s }))) }

/-- The SES threshold of an entity (Table 11.7). -/
def sesThreshold (k : Nat) : Nat := if k / 4096 < 3 then 2400 else 600

/-- Add a decided second to a bin: unavailable seconds count only in UAS; BBE are the errored blocks outside SES. -/
def PmBin.add (b : PmBin) (x : PmSec) (uas late : Bool) : PmBin :=
  let b := if uas then { b with uas := b.uas + 1 }
    else { b with es := b.es + b2n x.es, ses := b.ses + b2n x.ses, bbe := b.bbe + if x.ses then 0 else x.blocks }
  { b with adjusted := b.adjusted || late }

/-- Add a decided second to the bins it belongs to; a closed bin is ADJUSTED. -/
def Pm.add (p : Pm) (x : PmSec) (uas : Bool) : Pm :=
  let p := if p.cur15.start = x.bin15 then { p with cur15 := p.cur15.add x uas false }
    else { p with hist := p.hist.map (fun b => if b.start = x.bin15 then b.add x uas true else b) }
  if p.cur24.start = x.bin24 then { p with cur24 := p.cur24.add x uas false }
  else { p with prev24 := p.prev24.map (fun b => if b.start = x.bin24 then b.add x uas true else b) }

/-- One second of an entity (R301): unavailable time begins with the first of 10 consecutive SES and ends with the first of
10 consecutive seconds that are not SES; a run that may yet turn out so is undecided. -/
def Pm.second (k : Nat) (p : Pm) : Pm :=
  let ses := decide (sesThreshold k ≤ p.blocks) || p.defect
  let x : PmSec := { bin15 := p.cur15.start, bin24 := p.cur24.start, blocks := p.blocks, ses, es := ses || decide (p.blocks ≠ 0) }
  let p := { p with blocks := 0, defect := false }
  if ses = p.unavailable then
    let p := p.undecided.foldl (fun p y => p.add y p.unavailable) { p with undecided := [] }
    p.add x p.unavailable
  else
    let run := p.undecided ++ [x]
    if 10 ≤ run.length then run.foldl (fun q y => q.add y (!p.unavailable)) { p with undecided := [], unavailable := !p.unavailable }
    else { p with undecided := run }

/-- PM_SECOND (R301): the next whole second of TB0. -/
def execPmSecond (s : State) : State :=
  let sec := tbNow 0 s / secUnits
  let next := if s.pmSec < sec then sec else sec + 1
  let s := advanceTo ((s.timebase 0).instantOf s.clk.nowPs (next * secUnits)) s
  let s := noteDefects s
  { s with pmSec := next, pms := s.pms.map (fun e => (e.1, e.2.map (Pm.second e.1))) }

/-- Close the bins of an entity whose boundary lies in (a, b]; the new ones are SUSPECT where it is not monitored. -/
def Pm.close (a b : Nat) (live : Bool) (p : Pm) : Pm :=
  let p := if a / 900 < b / 900 then
      { p with hist := (p.cur15 :: p.hist).take 16, cur15 := { start := b / 900 * 900, suspect := !live } } else p
  if a / 86400 < b / 86400 then { p with prev24 := some p.cur24, cur24 := { start := b / 86400 * 86400, suspect := !live } } else p

/-- A bin boundary has been passed (R302). -/
def binDue (s : State) : Bool := decide (s.binSec / 900 < tbNow 0 s / secUnits / 900)

/-- PERF_BIN_CLOSE (R302), item 9: bins end when TB0 seconds modulo 900, and 86,400, is 0. -/
def execPerfBinClose (s : State) : State :=
  itemRow 9 (fun s =>
    let sec := tbNow 0 s / secUnits
    { s with binSec := sec, pms := s.pms.map (fun e => (e.1, e.2.map (Pm.close s.binSec sec (monitored e.1 s)))) }) s

/-! ## MSP 1+1 (R299, R300) -/

/-- The near end's requests of a pair, beside commands and WTR: SF and SD of both ports. -/
def mspConditions (k : Nat) (s : State) : List Nat :=
  let sf := fun t => (portDefects (s.trib t)).any (fun c => decide (c ≤ 3))
  let sd := fun t => (portDefects (s.trib t)).contains 4
  (if sf (2 * k + 1) then [8] else []) ++ (if sf (2 * k) then [6] else []) ++
    (if sd (2 * k + 1) then [5] else []) ++ (if sd (2 * k) then [4] else [])

/-- The highest of the active requests. -/
def mspHighest (k : Nat) (s : State) : Nat :=
  let m := s.msp k
  let far := if m.bidir then (s.trib (2 * k + 1)).far else 0
  ((mspConditions k s ++ [m.command, far, b2n m.wtrEnd.isSome]).max?).getD 0

/-- What a request selects (Table 11.6). -/
def mspSelects (r : Nat) (m : Msp) : Nat :=
  if r = 7 ∨ r = 6 ∨ r = 4 ∨ r = 3 ∨ r = 1 then 1
  else if r = 0 then (if m.revertive then 0 else m.selected)
  else 0

/-- Evaluate a pair's requests together (R300). -/
def mspEval (k : Nat) (s : State) : State :=
  let m := s.msp k
  if !m.enabled then s
  else
    let r0 := mspHighest k s
    let starts := m.revertive && (decide (m.request = 6) || decide (m.request = 4)) && decide (r0 = 0)
    let m := if starts then { m with wtrEnd := some (s.clk.nowPs + m.wtrMin * 60000000000000) }
      else if 1 < r0 then { m with wtrEnd := none } else m
    let r := if starts then 1 else r0
    let sel := mspSelects r m
    let s := s.setMsp k { m with request := r, selected := sel }
    let s := if r ≠ m.request ∨ sel ≠ m.selected then emit (.mspRequest k r sel) s else s
    if sel ≠ m.selected then raise .mspSwitch 4 (2 * k) (k + sel * 256 + r * 4096) s else s

/-- MSP_WTR_EXPIRY (R300). -/
def execMspWtrExpiry (k : Nat) (s : State) : State :=
  let m := s.msp k
  match m.wtrEnd with
  | some ps => mspEval k ((advanceTo ps s).setMsp k { m with wtrEnd := none })
  | none => s

/-- Steer the transmit sample clock of a port (09 R238, R298): to TB0, or with TX_TIMING 1 to the received signal but in LOS and LOF. -/
def steerTx (t : Nat) (s : State) : State :=
  s.modTrib t (fun x =>
    { x with txPpm := clampTo 100000 (if x.txTiming = 1 ∧ x.los = false ∧ x.lof = false then x.rxPpm else (s.timebase 0).rate / 256) })

/-- Make a change to a port: its defects are reported, its transmit clock steered and its MSP pair evaluated. -/
def portChange (t : Nat) (f : State → State) (s : State) : State :=
  mspEval (t / 2) (noteDefects (steerTx t (withDefects t f s)))

/-- LOA of a group: its members' delays differ by more than 16 ms (R293). A member's delay is that of the instant at which a multiframe
of the same number came from it, modulo the 512 ms of the multiframe indicator. -/
def memberDelays (g : Nat) (s : State) : List Int :=
  let period : Int := 512000000000
  let starts := (membersOf g s).filterMap (fun e =>
    let y := s.tpath e.2
    y.mfNo.map (fun n => (y.mfPs : Int) - n * 500000000))
  match starts with
  | [] => []
  | a :: _ => starts.map (fun b => (b - a + period / 2) % period - period / 2)

/-- The differential delay of a group in ps. -/
def diffDelay (g : Nat) (s : State) : Nat :=
  let d := memberDelays g s
  ((d.max?).getD 0 - (d.min?).getD 0).toNat

/-- Judge LOA again: each change raises VCAT_LOA (R293). -/
def checkLoa (g : Nat) (s : State) : State :=
  let v := s.vcat g
  let loa := decide (v.x ≠ 0 ∧ 16000000000 < diffDelay g s)
  if v.loa = loa then s else raise .vcatLoa 0 0 g (s.setVcat g { v with loa })

/-- A path that receives nothing: its defects and what it holds of the received signal are cleared. -/
def TPath.quiet (y : TPath) : TPath :=
  { y with
    tuLop := false, tuAis := false, lpRdi := false, e1Lof := decide (y.mode = 2), lom := false, sqm := false, invalidRun := 0
    equalRun := 0, aisRun := 0, validRun := 0, mfiRun := 0, rxBip := none, k4Bits := [], k4Run := 0, mfi := none, mfNo := none
    skew := [], txRei := false }

/-! ## Alignment (R287, R288) -/

/-- The lane of port t samples an STM-N signal. -/
def tribLane (t : Nat) (s : State) : Bool := decide ((s.lane (24 + t)).state = .legacy)

/-- OOF changes at this instant. -/
def setOof (t : Nat) (b : Bool) (s : State) : State :=
  s.modTrib t (fun x => if x.oof = b then x else { x with oof := b, oofPs := s.clk.nowPs })

/-- TRIB_FRAME_PATTERN (09 R237, Table 11.1): the port examines every bit that its lane recovers from the samples. -/
def execTribFramePattern (t : Nat) (samples : List Bool) (s : State) : State :=
  let x := s.trib t
  if !x.enable || decide (x.align ≠ 1) || x.los then s
  else
    let (y, ev) := x.hunt (oversampling (s.lane (24 + t)).rate) (ausOf t s) samples
    let s := (ev.filter (· = .overflow)).foldl (fun s _ => count .tribCandOverflow t s) s
    let s := (ev.filter (· = .falseFrame)).foldl (fun s _ => count .tribFalseFrame t s) s
    if ev.contains .locked then portChange t (fun s => setOof t false (s.setTrib t y)) s else s.setTrib t y

/-- TRIB_LOF_TIMER (R288): OOF, or IN_FRAME, has lasted 3 ms. -/
def execTribLofTimer (t : Nat) (s : State) : State :=
  let x := s.trib t
  if x.enable && (x.oof != x.lof) then
    portChange t (fun s => s.modTrib t (fun x => { x with lof := x.oof })) (advanceTo (x.oofPs + 3000000000) s)
  else s

/-- A port leaves service: DISABLED, all defects cleared, those of the paths that it serves among them (Table 11.1). -/
def disableTrib (t : Nat) (s : State) : State :=
  let mine := pathsFrom t s
  let s := portChange t (fun s =>
    mine.foldl (fun s p => s.setTpath p (s.tpath p).quiet) (s.modTrib t (fun x =>
      { enable := false, txTiming := x.txTiming, sdExp := x.sdExp, rx := x.rx }))) s
  let s := (portEntities t 4).foldl (fun s k => stopPm k s) s
  ((mine.filter (fun p => decide ((s.tpath p).mode = 3))).map (fun p => (s.tpath p).group)).eraseDups.foldl (fun s g => checkLoa g s) s

/-- The lane's signal detect at the legacy rates: LOS (R237, Table 11.3). -/
def tribSignal (t : Nat) (present : Bool) (s : State) : State :=
  if (s.trib t).enable then portChange t (fun s => s.modTrib t (fun x => { x with los := !present })) s else s

/-! ## A received STM-N frame (R289–R293) -/

/-- A flag that is set where errors lie above 10^−up of the bits, and cleared where they lie below 10^−down. -/
def hysteresis (errs bits up down : Nat) (old : Bool) : Bool :=
  if bits < errs * 10 ^ up then true else if errs * 10 ^ down < bits then false else old

/-- The B2 violations of a frame with n AU-4s: MS-EXC over 10 ms, MS-DEG over the standard's window (Table 11.3). -/
def Trib.takeB2 (n errs : Nat) (x : Trib) : Trib :=
  let last := (errs :: x.b2Last).take 80
  let bits := 19224 * n
  let x := { x with m1 := min errs (24 * n), b2Last := last, exc := hysteresis last.sum (80 * bits) 3 4 x.exc,
                    degErrs := x.degErrs + errs, degFrames := x.degFrames + 1 }
  if Config.degWindow x.sdExp ≤ x.degFrames then
    { x with deg := hysteresis x.degErrs (x.degFrames * bits) x.sdExp (x.sdExp + 1) x.deg, degErrs := 0, degFrames := 0 }
  else x

/-- A pointer moves an AU-4's runs and its AU-LOP and AU-AIS (Table 11.3). -/
def AuState.pointer (a : AuState) (p : PtrRx) : AuState :=
  match p with
  | .invalid =>
    let n := a.invalidRun + 1
    { a with invalidRun := n, equalRun := 0, aisRun := 0, validRun := 0, lop := a.lop || decide (8 ≤ n) }
  | .ais =>
    let n := a.aisRun + 1
    { a with aisRun := n, invalidRun := 0, equalRun := 0, validRun := 0, ais := a.ais || decide (3 ≤ n) }
  | .equal =>
    { a with equalRun := a.equalRun + 1, validRun := a.validRun + 1, invalidRun := 0, aisRun := 0
             lop := a.lop && decide (a.equalRun + 1 < 3), ais := a.ais && decide (a.validRun + 1 < 3) }
  | .valid =>
    { a with equalRun := 1, validRun := a.validRun + 1, invalidRun := 0, aisRun := 0, ais := a.ais && decide (a.validRun + 1 < 3) }

/-- H4 of a frame: a multiframe of four frames is correct where each H4 is one more than the last (Table 11.3). -/
def AuState.takeH4 (h : Nat) (a : AuState) : AuState :=
  let good := a.h4Good && decide (h = (a.h4Last + 1) % 4)
  let a := { a with h4Last := h, h4Place := (a.h4Place + 1) % 4, h4Good := good || decide (a.h4Place = 3) }
  if a.h4Place ≠ 0 then a
  else if good then { a with h4GoodRun := a.h4GoodRun + 1, h4BadRun := 0, lom := a.lom && decide (a.h4GoodRun + 1 < 2) }
  else { a with h4BadRun := a.h4BadRun + 1, h4GoodRun := 0, lom := a.lom || decide (8 ≤ a.h4BadRun + 1) }

/-- An AU-4 of a frame. -/
def AuState.take (a : AuState) (r : AuRx) : AuState :=
  ({ a.pointer r.ptr with hpRdi := r.hpRdi, rei := r.b3Errors.val } : AuState).takeH4 r.h4.val

/-- A TU-12 pointer moves a path's runs and its TU-LOP and TU-AIS (Table 11.3). -/
def TPath.pointer (y : TPath) (p : PtrRx) : TPath :=
  let a := ({ lop := y.tuLop, ais := y.tuAis, invalidRun := y.invalidRun, equalRun := y.equalRun, aisRun := y.aisRun
              validRun := y.validRun } : AuState).pointer p
  { y with tuLop := a.lop, tuAis := a.ais, invalidRun := a.invalidRun, equalRun := a.equalRun, aisRun := a.aisRun
           validRun := a.validRun }

/-- K4 bit 2 of a member's multiframe (R293): the multiframe indicator and SQ of each 32-bit string. A 16 ms period without a whole
string, or with an indicator that does not follow the last, has lost the indicator. -/
def TPath.takeK4 (place : Option (Fin 32)) (b : Bool) (y : TPath) : TPath :=
  let l := match place with
    | some k => if k.val = y.k4Bits.length then y.k4Bits ++ [b] else if k.val = 0 then [b] else []
    | none => []
  let y := { y with k4Bits := l, k4Run := y.k4Run + 1, mfNo := y.mfNo.map (fun n => (n + 1) % 1024) }
  if l.length = 32 then
    let m := msbNat (l.take 5)
    let good := y.mfi.all (fun v => decide (m = (v + 1) % 32))
    { y with k4Bits := [], k4Run := 0, mfi := some m, mfNo := some (m * 32 + 31), sqm := decide (msbNat ((l.drop 5).take 6) ≠ y.sq)
             mfiRun := if good then 0 else y.mfiRun + 1, lom := !good && decide (2 ≤ y.mfiRun + 1) }
  else if 32 ≤ y.k4Run then
    { y with k4Run := 0, mfi := none, mfNo := none, mfiRun := y.mfiRun + 1, lom := decide (2 ≤ y.mfiRun + 1) }
  else y

/-- Multiframes that a member's share of the skew reservation holds: 4,608 KiB over 1,008 paths (R293). -/
def skewDepth : Nat := 4608 * 1024 / 1008 / 136

/-- BIP-2 of a multiframe's V5 differs from the parity of the multiframe before it: an errored block (R290). -/
def TPath.bipBad (y : TPath) (r : TuRx) : Bool := y.rxBip.any (fun v => decide (v ≠ u8 r.vc 0 / 64))

/-- A path's multiframe at an instant (R290, R291, R293). -/
def TPath.take (now : Nat) (y : TPath) (r : TuRx) : TPath :=
  let v5 := u8 r.vc 0
  let y : TPath := { y.pointer r.ptr with lpRdi := bit v5 0, e1Lof := decide (y.mode = 2) && r.e1.isNone, rxBip := some (bip2 r.vc),
                                          txRei := y.txRei || y.bipBad r }
  if y.mode ≠ 3 then y
  else
    let y : TPath := { y.takeK4 r.k4 (bit (u8 r.vc 105) 6) with mfPs := now }
    match y.mfNo with
    | some n => let l := y.skew ++ [(n, vcBody r.vc)]; { y with skew := l.drop (l.length - skewDepth) }
    | none => y

/-- Circuit data joins what waits to be sent in packets. -/
def addCircuitBits (c : Nat) (l : List Bool) (s : State) : State :=
  let x := s.circ c
  s.setCirc c { x with rxBits := x.rxBits ++ l }

/-- A group's multiframe that every member holds: all align on the latest, and their bytes are interleaved in ascending SQ (R292, R293). -/
def alignGroup (g : Nat) (s : State) : State :=
  let m := membersOf g s
  let ps := (List.range (s.vcat g).x).filterMap (fun q => (m.find? (fun e => decide (e.1 = q))).map (·.2))
  if groupFails g s then s
  else match ((ps.head?.map (fun p => (s.tpath p).skew)).getD []).find? (fun e =>
      ps.all (fun p => (s.tpath p).skew.any (fun h => decide (h.1 = e.1)))) with
  | none => s
  | some (n, _) =>
    let own := ps.map (fun p => (((s.tpath p).skew.find? (fun h => decide (h.1 = n))).map (·.2)).getD [])
    let s := ps.foldl (fun s p =>
      let y := s.tpath p
      s.setTpath p { y with skew := (y.skew.dropWhile (fun h => decide (h.1 ≠ n))).drop 1 }) s
    addCircuitBits (1024 + g) (msbBits (interleaved own)) s

/-- The data that a path's multiframe adds to its circuit: an E1's bits, or the selected timeslots from the first whole basic frame on
(R290, R291). -/
def extractE1 (p : Nat) (was : TPath) (r : TuRx) (s : State) : State :=
  if was.mode = 1 then addCircuitBits p (e1Bits r.vc) s
  else match r.e1 with
  | some k =>
    if was.e1Lof then
      addCircuitBits p (slotBits was.slots 0 ((e1Bits r.vc).drop k.val)) (s.setCirc p { s.circ p with rxBits := [] })
    else addCircuitBits p (slotBits was.slots k.val (e1Bits r.vc)) s
  | none => s

/-- One path of a frame, where the path takes its signal from this port and the port has its AU-4. -/
def takeTu (t : Nat) (r : TuRx) (s : State) : State :=
  let p := r.path.val
  let y := s.tpath p
  if y.mode = 0 ∨ rxPort y.port s ≠ t ∨ ausOf t s ≤ y.au4 then s
  else
    let z := y.take s.clk.nowPs r
    let s := pmBlock (12288 + p) (y.bipBad r) (s.setTpath p z)
    if y.mode = 3 then alignGroup y.group (checkLoa y.group s)
    else
      let s := addCounter (circuitIndex 0 p) (jcVotes r.vc) s
      let s := if z.e1Lof && !y.e1Lof then addCounter (circuitIndex 1 p) 1 s else s
      extractE1 p y r s

/-- What a frame changes in the state of a port with n AU-4s. A K1 request counts once it has come in three consecutive frames. -/
def Trib.take (n : Nat) (x : Trib) (f : StmFrame) : Trib :=
  let ais := decide (f.k2.toNat % 8 = 7)
  let aisRun := if ais then x.aisRun + 1 else 0
  let notRun := if ais then 0 else x.notAisRun + 1
  let k1 := f.k1.toNat
  let k1Run := if k1 = x.k1Last then x.k1Run + 1 else 1
  ({ x with
    errRun := if f.patternOk then 0 else x.errRun + 1
    aisRun := aisRun, notAisRun := notRun
    msAis := if 3 ≤ aisRun then true else if 3 ≤ notRun then false else x.msAis
    msRdi := decide (f.k2.toNat % 8 = 6), k1Last := k1, k1Run := k1Run, far := if 3 ≤ k1Run then k1Request k1 else x.far
    rxPpm := clampTo 100000 f.ppm
    aus := ((f.aus.take n).zipIdx).foldl (fun m a => SMap.set {} m a.2 ((SMap.get {} m a.2).take a.1)) x.aus } : Trib).takeB2 n f.b2Errors

/-! ## The transmitted frame (R285, R286, R290, R293, R299) -/

/-- A group's next multiframe to transmit: each member takes its share; the bytes that playout has not given are ones. -/
def nextShares (g : Nat) (s : State) : State :=
  let v := s.vcat g
  let x := s.circ (1024 + g)
  let n := v.x * 136
  let own := x.txBits.take (8 * n)
  let p := msbBytes n (own ++ List.replicate (8 * n - own.length) true)
  let s := (s.setCirc (1024 + g) { x with txBits := x.txBits.drop (8 * n) }).setVcat g { v with txNo := (v.txNo + 1) % 1024 }
  (membersOf g s).foldl (fun s e =>
    let y := s.tpath e.2
    s.setTpath e.2 { y with shares := y.shares ++ [(v.txNo, shareOf v.x e.1 p)] }) s

/-- V5 of a transmitted VC-12: BIP-2 over the last one, LP-REI, the signal label 0b010 and LP-RDI (R290, Table 11.3). -/
def v5Of (y : TPath) (rdi : Bool) : Nat := y.txBip * 64 + b2n y.txRei * 32 + 4 + b2n rdi

/-- The E1 bits to transmit beside those that playout has given: ones, and with CESoPSN whole basic frames of ones. -/
def idleE1 (y : TPath) (n : Nat) : List Bool × Bool :=
  if y.mode = 2 then
    let (p, fas) := e1Frames y.slots ((n + 255) / 256) y.e1Fas []
    (msbBits p, fas)
  else (List.replicate n true, y.e1Fas)

/-- Build the next VC-12 of a path. The justification follows the played-out rate against the transmit clock: one bit more or less
than 1,024 once the E1 is a whole bit ahead or behind (R290, R297). -/
def buildVc (p : Nat) (s : State) : State :=
  let y := s.tpath p
  let rdi := (rdisOf (defectsOf (rxPort y.port s) s)).contains (2, p)
  if y.mode = 3 then
    let s := if y.shares.isEmpty then nextShares y.group s else s
    let y := s.tpath p
    let (n, body) := y.shares.headD ((s.vcat y.group).txNo, List.replicate 136 0xFF)
    let vc := vc12 (v5Of y rdi) (b2n (k4Bit n y.sq) * 64) body
    s.setTpath p { y with txVc := vc, txBip := bip2 vc, txRei := false, shares := y.shares.drop 1 }
  else
    let x := s.circ p
    let phase := y.justPhase + 1024 * (x.freq - (s.trib y.port).txPpm)
    let d : Int := if 1000000000 ≤ phase then 1 else if phase ≤ -1000000000 then -1 else 0
    let need := (1024 + d).toNat
    let (more, fas) := if x.txBits.length < need then idleE1 y (need - x.txBits.length) else ([], y.e1Fas)
    let l := x.txBits ++ more
    let vc := vc12 (v5Of y rdi) 0 (e1Body d (l.take need))
    (s.setCirc p { x with txBits := l.drop need }).setTpath p
      { y with txVc := vc, txBip := bip2 vc, txRei := false, justPhase := phase - d * 1000000000, e1Fas := fas }

/-- K1 of a pair (R299): the highest near-end request, or in bidirectional mode a reverse request where the far end's ranks higher. -/
def mspK1 (k : Nat) (s : State) : Nat :=
  let m := s.msp k
  let near := ((mspConditions k s ++ [m.command, b2n m.wtrEnd.isSome]).max?).getD 0
  if !m.enabled then 0
  else if m.bidir && decide (near < (s.trib (2 * k + 1)).far) then 0x20 + m.selected
  else k1Code near

/-- Put out a port's frame with the paths of port `home` at a place of the TU multiframe; an AU-4's remote indications are those of
the port that `home` receives from. -/
def putStm (home place u : Nat) (s : State) : State :=
  let n := ausOf u s
  let x := s.trib u
  let r := rxPort home s
  let rdi := rdisOf (defectsOf r s)
  let m := s.msp (u / 2)
  let vcs := (List.range n).map (fun a =>
    vc4 (x.au a).txB3 (((s.trib r).au a).rei * 16 + b2n (rdi.contains (1, a)) * 8) ((place + 1) % 4)
      (fun klm => tuBytes place (((s.tpaths.find? (fun e =>
        decide (e.2.mode ≠ 0 ∧ e.2.port = home ∧ e.2.au4 = a ∧ e.2.klm = klm))).map (fun e => e.2.txVc)).getD [])))
  let k2 := (if m.enabled then m.selected * 16 else 0) + (if (rdisOf (defectsOf u s)).contains (0, 0) then 6 else 0)
  let rows := stmRows n x.txB1 x.txB2 (mspK1 (u / 2) s) k2 x.m1 vcs
  let data := scrambled n rows.flatten
  let aus := vcs.zipIdx.foldl (fun l e => SMap.set {} l e.2 { (SMap.get {} l e.2 : AuState) with txB3 := (bip8 e.1).toNat }) x.aus
  (if pairStandby s then id else emit (.stm u (oversampling (s.lane (24 + u)).rate) x.txPpm data))
    (s.setTrib u { x with txB1 := (bip8 data).toNat, txB2 := b2Of n rows, m1 := 0, aus, txPlace := (place + 1) % 4 })

/-- The next transmitted frame of a port; both ports of an enabled MSP pair send the working port's paths, with its frame (R299). -/
def sendStm (t : Nat) (s : State) : State :=
  let pair := (s.msp (t / 2)).enabled
  let home := if pair then t / 2 * 2 else t
  if pair && decide (t ≠ home) && (s.trib home).enable then s
  else
    let ports := if pair then [home, home + 1].filter (fun u => (s.trib u).enable) else [t]
    let place := (s.trib t).txPlace
    let s := ports.foldl (fun s u => steerTx u s) s
    let s := if place = 3 then (pathsOf home s).foldl (fun s p => buildVc p s) s else s
    ports.foldl (fun s u => putStm home place u s) s

/-- A received frame of a port in frame (R289). -/
def takeStm (t : Nat) (f : StmFrame) (s : State) : State :=
  let n := ausOf t s
  let s := pmBlock (4096 + t) (decide (f.b2Errors ≠ 0)) (pmBlock t f.b1Bad s)
  let s := ((f.aus.take n).zipIdx).foldl (fun s a => pmBlock (8192 + 4 * t + a.2) (decide (a.1.b3Errors ≠ 0)) s) s
  portChange t (fun s =>
    let s := s.modTrib t (fun x => x.take n f)
    let s := f.tus.foldl (fun s r => takeTu t r s) s
    if 5 ≤ (s.trib t).errRun then
      setOof t true (s.modTrib t (fun x =>
        { x with align := 1, errRun := 0, shift := 0, cands := [{ pos := x.offset, hits := 2, check := false }] }))
    else s) s

/-- TRIB_STM_FRAME (R285, R289): one frame time of an enabled port. Its own frame goes out, and the received one is taken in frame. -/
def execTribStmFrame (t : Nat) (f : StmFrame) (s : State) : State :=
  let x := s.trib t
  if !x.enable then s
  else if x.align ≠ 2 ∨ x.los = true then sendStm t s
  else takeStm t f (sendStm t s)

/-! ## Circuits (R294–R297) -/

/-- A circuit's settings: PAYLOAD_BYTES, JB_DEPTH_US, CLOCK, header, RX_FLOW, and its packet's duration in ps. -/
structure CircCfg where
  payload : Nat
  jb : Nat
  clock : Nat
  hdrLen : Nat
  hdr : Bytes
  flow : Nat
  pktPs : Nat

/-- The settings of a circuit and the duration of one packet's data. -/
def circCfg (c : Nat) (s : State) : CircCfg :=
  if c < 1024 then
    let y := s.tpath c
    let ps := if y.mode = 2 then y.payload * 125000000 / max 1 (popcount 32 y.slots) else y.payload * 3906250
    { payload := y.payload, jb := y.jb, clock := y.clock, hdrLen := y.hdrLen, hdr := y.hdr, flow := y.flow, pktPs := ps }
  else
    let v := s.vcat (c - 1024)
    { payload := v.payload, jb := v.jb, clock := v.clock, hdrLen := v.hdrLen, hdr := v.hdr, flow := v.flow
      pktPs := v.payload * 500000000 / (136 * max 1 v.x) }

/-- The packets that JB_DEPTH_US holds. -/
def jbPackets (k : CircCfg) : Nat := max 1 (k.jb * 1000000 / max 1 k.pktPs)

/-- The RTP header of RFC 4553 (Table 11.4): payload type and SSRC are values that the manual leaves open. -/
def rtpHeader (seq : Nat) (s : State) : Bytes × State :=
  let (pt, s) := takeFree 7 s
  let (ssrc, s) := takeFree 32 s
  let ts := tbNow 0 s * 19440 / (1000000 * nsUnits)
  (le 1 0x80 ++ le 1 pt ++ be 2 seq ++ be 4 ts ++ be 4 ssrc, s)

/-- The port and the FLOW_TAG of a circuit's packets: a group's are those of its SQ 0 member (R292, R294). -/
def circIngress (c : Nat) (s : State) : Nat × Nat :=
  let p := if c < 1024 then c else (((membersOf (c - 1024) s).find? (fun e => decide (e.1 = 0))).map (·.2)).getD 0
  (40 + (s.tpath p).port, p)

/-- A packet of a circuit enters the upstream pipeline with a payload and L; `rest` is the circuit data that stays. -/
def sendCes (c : Nat) (l : Bool) (pay : Bytes) (rest : List Bool) (s : State) : State :=
  let k := circCfg c s
  let x := s.circ c
  let (rtp, s) := if k.clock = 1 then rtpHeader x.txSeq s else ([], s)
  let short := 4 + rtp.length + pay.length
  let control := b2n l * 2 ^ 27 + b2n x.lops * 2 ^ 26 + (if short < 64 then short else 0) * 65536 + x.txSeq
  let (ingress, tag) := circIngress c s
  let f : Frame := { data := k.hdr.take k.hdrLen ++ be 4 control ++ rtp ++ pay, ingress, tag }
  let s := s.setCirc c { x with txSeq := (x.txSeq + 1) % 65536, rxBits := rest, emitPs := s.clk.nowPs }
  { s with waitUp := s.waitUp ++ [f] }

/-- CES_PACKET_EMIT (R294, R295): PAYLOAD_BYTES of circuit data make a packet; in trail fail, without data, one packet of ones follows the
last after its nominal duration. -/
def execCesPacketEmit (c : Nat) (s : State) : State :=
  let k := circCfg c s
  let x := s.circ c
  if !circuitOn c s then s
  else if circuitFails c s then sendCes c true (List.replicate k.payload (0xFF : Byte)) [] (advanceTo (x.emitPs + k.pktPs) s)
  else if x.rxBits.length < 8 * k.payload then s
  else sendCes c false (msbBytes k.payload x.rxBits) (x.rxBits.drop (8 * k.payload)) s

/-- The circuit that a frame belongs to: the one whose RX_FLOW is the frame's flow context (R296). -/
def circuitOfFlow (flow : Nat) (s : State) : Option Nat :=
  match s.tpaths.find? (fun e => decide ((e.2.mode = 1 ∨ e.2.mode = 2) ∧ e.2.flow = flow)) with
  | some e => some e.1
  | none => (s.vcats.find? (fun e => decide (e.2.x ≠ 0 ∧ e.2.flow = flow))).map (fun e => e.1 + 1024)

/-- The run of consecutive held packets from a sequence number, at most n of them. -/
def heldRun (x : Circ) : Nat → Nat → Nat
  | 0, _ => 0
  | n + 1, q => if (SMap.get none x.held q).isSome then 1 + heldRun x n ((q + 1) % 65536) else 0

/-- The packets that fill half of JB_DEPTH_US, rounded up. -/
def halfPackets (k : CircCfg) : Nat := (k.jb * 500000 + k.pktPs - 1) / max 1 k.pktPs

/-- Playout starts when consecutive packets fill half of JB_DEPTH_US (R297): at once with the first of them. The value at which e
starts is one the manual leaves to the steering. -/
def tryStart (c : Nat) (s : State) : State :=
  let x := s.circ c
  let k := circCfg c s
  let half := max 1 (halfPackets k)
  let from_ := x.next.getD 0
  if x.playing then s
  else
    match ((List.range (jbPackets k)).map (fun d => (from_ + d) % 65536)).find? (fun q => decide (half ≤ heldRun x half q)) with
    | some q =>
      let (e, s) := takeFree 17 s
      let held := x.held.filter (fun h => decide (0 ≤ signed 16 (h.1 + 65536 - q)))
      s.setCirc c { x with playing := true, lops := false, next := some q, replaced := 0, held, duePs := s.clk.nowPs
                           freq := (e % 100001 : Nat) - 50000, rtpLast := none, rtpPackets := 0, rtpTicks := 0 }
    | none => s

/-- Steer e as a packet is played out (R297): with CLOCK 0 towards the fill of half of JB_DEPTH_US, by a number of steps that the manual
leaves open; with CLOCK 1 to the rate that the RTP timestamps show since playout started. -/
def steerPlayout (c q stamp : Nat) (s : State) : State :=
  let k := circCfg c s
  let x := s.circ c
  if k.clock = 0 then
    let fill := 2 * x.held.length * k.pktPs
    let (n, s) := takeFree 16 s
    let step : Int := n
    s.setCirc c { x with freq := clampTo 50000 (
      if k.jb * 1000000 < fill then x.freq + step else if fill < k.jb * 1000000 then x.freq - step else x.freq) }
  else
    match x.rtpLast with
    | none => s.setCirc c { x with rtpLast := some (q, stamp) }
    | some (q0, t0) =>
      let packets := x.rtpPackets + (q + 65536 - q0) % 65536
      let ticks := x.rtpTicks + (stamp + 2 ^ 32 - t0) % 2 ^ 32
      let e := if ticks = 0 then x.freq
        else clampTo 50000 (((packets * k.pktPs * 1944 : Nat) - (ticks * 100000000 : Nat) : Int) * 10 / ticks)
      s.setCirc c { x with rtpLast := some (q, stamp), rtpPackets := packets, rtpTicks := ticks, freq := e }

/-- Played-out data, all ones where there is none, sets what the circuit transmits (R290, R293, R297). -/
def playData (c : Nat) (data : Option Bytes) (s : State) : State :=
  let k := circCfg c s
  let x := s.circ c
  let p := data.getD (List.replicate k.payload 0xFF)
  let s := emit (.played c data) s
  if c < 1024 ∧ (s.tpath c).mode = 2 then
    let y := s.tpath c
    let (l, fas) := e1Frames y.slots (k.payload / max 1 (popcount 32 y.slots)) y.e1Fas p
    (s.setTpath c { y with e1Fas := fas }).setCirc c { x with txBits := x.txBits ++ msbBits l }
  else s.setCirc c { x with txBits := x.txBits ++ msbBits p }

/-- Arrival of a packet at a circuit's jitter buffer (Table 11.5). -/
def arriveCes (c : Nat) (l : Bool) (seq stamp : Nat) (data : Bytes) (s : State) : State :=
  let x := s.circ c
  let depth := jbPackets (circCfg c s)
  let next := x.next.getD seq
  let d := signed 16 (seq + 65536 - next)
  if d < 0 then addCounter (circuitIndex 4 c) 1 (s.setCirc c { x with outRun := 0 })
  else if (depth : Int) ≤ d then
    let s := addCounter (circuitIndex 5 c) 1 s
    if 16 ≤ x.outRun + 1 then s.setCirc c { x with held := [], next := none, playing := false, outRun := 0, replaced := 0 }
    else s.setCirc c { x with outRun := x.outRun + 1 }
  else if (SMap.get none x.held seq).isSome then addCounter (circuitIndex 3 c) 1 (s.setCirc c { x with outRun := 0 })
  else
    let s := if l then addCounter (circuitIndex 6 c) 1 s else s
    tryStart c (s.setCirc c { x with
      held := SMap.set none x.held seq (some { l, stamp, data }), next := some next, outRun := 0 })

/-- CES_PACKET_RX (R296). -/
def execCesPacketRx (t : Nat) (s : State) : State :=
  match (s.trib t).rx with
  | [] => s
  | f :: rest =>
    let s := s.modTrib t (fun x => { x with rx := rest })
    match circuitOfFlow f.flow s with
    | none => count .cesRxNoCircuit 0 s
    | some c =>
      let k := circCfg c s
      let d := f.data.drop k.hdrLen
      let control := beNat (d.take 4)
      let skip := if k.clock = 1 then 16 else 4
      let pay := d.drop skip
      let l := bit control 27
      if d.length < skip ∨ (l = false ∧ pay.length ≠ k.payload) then addCounter (circuitIndex 2 c) 1 s
      else
        let s := s.setCirc c { s.circ c with rxL := l, rxR := bit control 26 }
        arriveCes c l (control % 65536) (beNat (slice d 8 4)) pay s

/-- CES_PLAYOUT_DUE (R297): the next packet's first byte is due. A packet of the same clock is still played out, so that one which is
absent is replaced as the clock ends. -/
def execCesPlayoutDue (c : Nat) (s : State) : State :=
  let x := s.circ c
  match x.next with
  | none => s
  | some q =>
    if !circuitOn c s || !x.playing then s
    else
      let next := some ((q + 1) % 65536)
      let duePs := x.duePs + (circCfg c s).pktPs * 1000000000 / (1000000000 + x.freq).toNat
      match SMap.get none x.held q with
      | some p =>
        let s := steerPlayout c q p.stamp (advanceTo x.duePs s)
        let s := s.setCirc c { s.circ c with held := SMap.set none x.held q none, next, replaced := 0, duePs }
        playData c (if p.l then none else some p.data) s
      | none =>
        let s := addCounter (circuitIndex 7 c) 1 (advanceTo ((x.duePs / 800 + 1) * 800) s)
        if 8 ≤ x.replaced + 1 then
          let s := raise .cesLops 0 0 c (s.setCirc c { x with next, playing := false, lops := true, replaced := 0, duePs })
          tryStart c (playData c none s)
        else playData c none (s.setCirc c { x with next, replaced := x.replaced + 1, duePs })

/-! ## TRIB_PORT_CONFIG, TRIB_PATH_CONFIG, VCAT_CONFIG -/

/-- Circuits whose path, or a member of whose group, lies on a port or takes its signal from it. -/
def circuitsOn (t : Nat) (s : State) : List Nat :=
  (pathsOf t s ++ pathsFrom t s).map (fun p => if (s.tpath p).mode = 3 then 1024 + (s.tpath p).group else p)

/-- A circuit that is not in trail fail is carried (R303). -/
def carries (cs : List Nat) (s : State) : Bool := cs.any (fun c => circuitOn c s && !circuitFails c s)

def specTribPortConfig : CmdSpec :=
  { op := 0x0700, kind := 4, force := true
    check := params 4 (fun q _ =>
      decide (1 < u8 q.body 0) || decide (1 < u8 q.body 1) || decide (u8 q.body 2 < 5) || decide (9 < u8 q.body 2) || decide (u8 q.body 3 ≠ 0)) }

/-- TRIB_PORT_CONFIG (R303, Table 11.1). -/
def effTribPortConfig (c : Cmd) (s : State) : Res :=
  let p := c.req.body
  let t := c.req.index
  let x := s.trib t
  let on := decide (u8 p 0 = 1)
  if on && !tribLane t s then .fail .busyRetry s
  else if carries (circuitsOn t s) s && !c.req.force && decide (on ≠ x.enable ∨ u8 p 1 ≠ x.txTiming ∨ u8 p 2 ≠ x.sdExp) then
    .fail .busyService s
  else
    let s := s.setTrib t { x with txTiming := u8 p 1, sdExp := u8 p 2 }
    if on && !x.enable then
      let s := portChange t (fun s => s.modTrib t (fun x =>
        { x with enable := true, align := 1, cands := [], oof := true, oofPs := s.clk.nowPs, los := !(s.lane (24 + t)).signal })) s
      .ok [] ((portEntities t (ausOf t s)).foldl (fun s k => startPm k s) s)
    else if !on && x.enable then .ok [] (disableTrib t s)
    else .ok [] (if x.enable then steerTx t s else s)

def execTribPortConfig (q : CmdReq) (s : State) : State := runCmd specTribPortConfig effTribPortConfig q s

/-- The path that a TRIB_PATH_CONFIG block describes; a MODE 2 path begins without basic-frame alignment (R291). -/
def pathOfBlock (p : Bytes) : TPath :=
  { mode := u8 p 2, port := u8 p 3, au4 := u8 p 4, klm := u8 p 5, group := u8 p 6, sq := u8 p 7, slots := u32 p 8
    payload := u16 p 12, jb := u16 p 14, flow := u32 p 16, clock := u8 p 20, hdrLen := u8 p 21, hdr := slice p 24 64
    e1Lof := decide (u8 p 2 = 2) }

/-- RX_FLOW is used by another circuit. -/
def flowUsed (flow self : Nat) (s : State) : Bool :=
  match circuitOfFlow flow s with
  | some c => decide (c ≠ self)
  | none => false

/-- KLM names a TU-12: K 1–3, L 1–7, M 1–3. -/
def badKlm (v : Nat) : Bool := decide (v / 64 = 0) || decide (v / 8 % 8 = 0) || decide (v % 8 = 0) || decide (3 < v % 8)

/-- TRIB_PATH_CONFIG's parameters (R286, R303): each field is judged in the modes for which the manual gives it a range. -/
def badPath (p : Bytes) (s : State) : Bool :=
  let n := u16 p 0
  let y := pathOfBlock p
  decide (1007 < n) || decide (3 < y.mode) || decide (u16 p 22 ≠ 0) || decide (1 < y.clock) || decide (64 < y.hdrLen) ||
  !allZero (y.hdr.drop y.hdrLen) || (decide (y.mode ≠ 3) && decide (y.group ≠ 0 ∨ y.sq ≠ 0)) ||
  (decide (y.mode ≠ 2) && decide (y.slots ≠ 0)) ||
  (decide (y.mode ≠ 0) &&
    (decide (7 < y.port) || decide (y.port / 2 ≠ n / 252) || ((s.msp (y.port / 2)).enabled && decide (y.port % 2 = 1)) ||
    decide (3 < y.au4) || (tribLane y.port s && decide ((s.lane (24 + y.port)).rate = 6) && decide (y.au4 ≠ 0)) || badKlm y.klm ||
    s.tpaths.any (fun e => decide (e.1 ≠ n ∧ e.2.mode ≠ 0 ∧ e.2.port = y.port ∧ e.2.au4 = y.au4 ∧ e.2.klm = y.klm)))) ||
  (decide (y.mode = 3) &&
    (decide (31 < y.group) || decide (63 < y.sq) ||
      s.tpaths.any (fun e => decide (e.1 ≠ n ∧ e.2.mode = 3 ∧ e.2.group = y.group ∧ e.2.sq = y.sq)))) ||
  (decide (y.mode = 1 ∨ y.mode = 2) &&
    (decide (y.payload < 32) || decide (1024 < y.payload) || decide (y.jb < 500) || decide (32000 < y.jb) ||
      decide (2 ^ 20 ≤ y.flow) || flowUsed y.flow n s)) ||
  (decide (y.mode = 2) && (decide (y.slots = 0) || bit y.slots 0 || decide (y.payload % max 1 (popcount 32 y.slots) ≠ 0)))

def specTribPathConfig : CmdSpec := { op := 0x0701, force := true, check := params 88 (fun q s => badPath q.body s) }

/-- Bytes of Inkwell that a jitter buffer takes (R209). -/
def jbBytes (k : CircCfg) : Nat := jbPackets k * k.payload

/-- Bytes of Inkwell that the jitter buffers of all circuits take. -/
def jbTotal (s : State) : Nat :=
  let ids : List Nat := (s.tpaths.map Prod.fst).append ((s.vcats.map Prod.fst).map (· + 1024))
  ((ids.filter (fun c => circuitOn c s)).map (fun c => jbBytes (circCfg c s))).sum

/-- Do jitter buffers of this total find no room in their reservation? -/
def noJbRoom (bytes : Nat) : Bool := decide (Config.jitterRoom < bytes)

/-- TRIB_PATH_CONFIG (R286, R303): the circuit starts afresh. -/
def effTribPathConfig (c : Cmd) (s : State) : Res :=
  let p := c.req.body
  let n := u16 p 0
  let old := s.tpath n
  let own := if old.mode = 3 then 1024 + old.group else n
  if old.mode ≠ 0 && carries [own] s && !c.req.force then .fail .busyService s
  else
    let y := if u8 p 2 = 0 then {} else pathOfBlock p
    let put := fun (s : State) => (s.setTpath n y).setCirc n (if y.mode = 1 ∨ y.mode = 2 then { emitPs := s.clk.nowPs } else {})
    if (y.mode = 1 ∨ y.mode = 2) && noJbRoom (jbTotal (put s)) then .fail .busyRetry s
    else
      let a := rxPort old.port s
      let b := rxPort y.port s
      let s2 := if old.mode ≠ 0 ∧ a ≠ b then withDefects a (withDefects b put) s else withDefects b put s
      let s2 := if old.mode = 3 then checkLoa old.group s2 else s2
      let s2 := if y.mode = 3 then checkLoa y.group s2 else s2
      .ok [] (if y.mode = 0 then stopPm (12288 + n) s2 else startPm (12288 + n) s2)

def execTribPathConfig (q : CmdReq) (s : State) : State := runCmd specTribPathConfig effTribPathConfig q s

/-- The group that a VCAT_CONFIG block describes; X 0 removes it. -/
def vcatOfBlock (p : Bytes) : Vcat :=
  if u8 p 1 = 0 then {}
  else { x := u8 p 1, payload := u16 p 2, jb := u16 p 4, clock := u8 p 6, hdrLen := u8 p 7, flow := u32 p 8, hdr := slice p 16 64 }

def badVcat (p : Bytes) (s : State) : Bool :=
  let v := vcatOfBlock p
  decide (31 < u8 p 0) || decide (64 < v.x) || decide (u32 p 12 ≠ 0) ||
  (decide (u8 p 1 ≠ 0) &&
    (decide (v.payload < 32) || decide (4096 < v.payload) || decide (v.jb < 500) || decide (32000 < v.jb) || decide (1 < v.clock) ||
      decide (64 < v.hdrLen) || decide (2 ^ 20 ≤ v.flow) || flowUsed v.flow (1024 + u8 p 0) s || !allZero (v.hdr.drop v.hdrLen)))

def specVcatConfig : CmdSpec := { op := 0x0702, force := true, check := params 80 (fun q s => badVcat q.body s) }

/-- VCAT_CONFIG (R292). -/
def effVcatConfig (c : Cmd) (s : State) : Res :=
  let p := c.req.body
  let g := u8 p 0
  if carries [1024 + g] s && !c.req.force then .fail .busyService s
  else
    let v := vcatOfBlock p
    let s1 := (s.setVcat g { v with loa := (s.vcat g).loa }).setCirc (1024 + g) (if v.x = 0 then {} else { emitPs := s.clk.nowPs })
    let all := (s.tpaths.filter (fun e => decide (e.2.mode = 3 ∧ e.2.group = g))).map (·.1)
    if u8 p 1 ≠ 0 && noJbRoom (jbTotal s1) then .fail .busyRetry s
    else .ok [] (checkLoa g (all.foldl (fun s q => s.setTpath q { s.tpath q with shares := [] }) s1))

def execVcatConfig (q : CmdReq) (s : State) : State := runCmd specVcatConfig effVcatConfig q s

/-! ## MSP_CONFIG, MSP_COMMAND, PM_READ -/

def specMspConfig : CmdSpec :=
  { op := 0x0703, kind := 4, target := fun t => decide (t % 2 = 0), force := true
    check := params 4 (fun q s =>
      let p := q.body
      decide (1 < u8 p 0) || decide (1 < u8 p 1) || decide (1 < u8 p 2) || decide (u8 p 3 = 0) || decide (12 < u8 p 3) ||
        (decide (u8 p 0 = 1) && !(pathsOf (q.index + 1) s).isEmpty)) }

/-- MSP_CONFIG (R299). -/
def effMspConfig (c : Cmd) (s : State) : Res :=
  let p := c.req.body
  let k := c.req.index / 2
  let m := s.msp k
  let on := decide (u8 p 0 = 1)
  if carries (circuitsOn c.req.index s) s && !c.req.force && decide (on ≠ m.enabled) then .fail .busyService s
  else
    let m := if on then { m with enabled := true, bidir := decide (u8 p 1 = 1), revertive := decide (u8 p 2 = 1), wtrMin := u8 p 3 }
      else { wtrMin := u8 p 3, bidir := decide (u8 p 1 = 1), revertive := decide (u8 p 2 = 1) }
    .ok [] (mspEval k (s.setMsp k m))

def execMspConfig (q : CmdReq) (s : State) : State := runCmd specMspConfig effMspConfig q s

def specMspCommand : CmdSpec :=
  { op := 0x0704, kind := 4, target := fun t => decide (t % 2 = 0)
    check := params 4 (fun q s => decide (4 < u8 q.body 0) || decide (u24 q.body 1 ≠ 0) ||
      (decide (u8 q.body 0 = 4) && (s.msp (q.index / 2)).enabled && (s.msp (q.index / 2)).revertive)) }

/-- The code of Table 11.6 that a command request has. -/
def mspCode : Nat → Nat
  | 1 => 9
  | 2 => 7
  | 3 => 3
  | 4 => 2
  | _ => 0

/-- MSP_COMMAND (R304). -/
def effMspCommand (c : Cmd) (s : State) : Res :=
  let k := c.req.index / 2
  let m := s.msp k
  let r := mspCode (u8 c.req.body 0)
  if !m.enabled then .fail .notFound s
  else if (r = 3 ∨ r = 2) ∧ r < m.request then .fail .busyRetry s
  else
    let s := mspEval k (s.setMsp k { m with command := r })
    .ok (le 1 (s.msp k).selected ++ le 1 (s.msp k).request ++ zeros 2) s

def execMspCommand (q : CmdReq) (s : State) : State := runCmd specMspCommand effMspCommand q s

/-- INDEX of an entity is in range. -/
def badPm (p : Bytes) : Bool :=
  let e := u8 p 0
  let i := u16 p 2
  decide (3 < e) || decide (18 < u8 p 1) ||
    (if e < 2 then decide (7 < i) else if e = 2 then decide (31 < i) else decide (1007 < i))

def specPmRead : CmdSpec := { op := 0x0705, check := params 4 (fun q _ => badPm q.body), reads := true }

/-- The bin that a BIN code names. -/
def binOf (b : Nat) (p : Pm) : Option PmBin :=
  if b = 0 then some p.cur15 else if b ≤ 16 then p.hist[b - 1]? else if b = 17 then some p.cur24 else p.prev24

/-- PM_READ (R302). -/
def effPmRead (c : Cmd) (s : State) : Res :=
  let p := c.req.body
  match (SMap.get none s.pms (4096 * u8 p 0 + u16 p 2)).bind (binOf (u8 p 1)) with
  | some b =>
    .ok (le 8 b.start ++ le 4 b.es ++ le 4 b.ses ++ le 4 b.bbe ++ le 4 b.uas ++ le 1 (b2n b.suspect + 2 * b2n b.adjusted) ++ zeros 3) s
  | none => .fail .notFound s

def execPmRead (q : CmdReq) (s : State) : State := runCmd specPmRead effPmRead q s

/-! ## Registers -/

/-- TRIB_STATUS. -/
def tribStatus (t : Nat) (s : State) : Nat :=
  let x := s.trib t
  let ports := portDefects x
  let all := defectsOf t s
  let bits := fun (f : Nat → Bool) => (List.range 4).foldl (fun a n => a + b2n (f n) * 2 ^ n) 0
  let rate := if tribLane t s then (if (s.lane (24 + t)).rate = 5 then 2 else 1) else 0
  bits (fun n => all.contains (6, n)) * 2 ^ 28 + bits (fun n => all.contains (5, n)) * 2 ^ 24 + bits (fun n => (x.au n).hpRdi) * 2 ^ 20 +
    bits (fun n => all.contains (7, n)) * 2 ^ 16 + b2n x.msRdi * 2 ^ 15 + b2n (ports.contains 4) * 2 ^ 14 +
    b2n (ports.contains 3) * 2 ^ 13 + b2n (ports.contains 2) * 2 ^ 12 + b2n (ports.contains 1) * 2 ^ 11 + b2n x.oof * 2 ^ 10 +
    b2n (ports.contains 0) * 2 ^ 9 + x.cands.length * 16 + x.align * 4 + rate

/-- MSP_STATUS. -/
def mspStatus (k : Nat) (s : State) : Nat :=
  let m := s.msp k
  let left := match m.wtrEnd with | some ps => (ps - s.clk.nowPs + 999999999999) / 1000000000000 | none => 0
  left * 65536 + m.request * 256 + (if m.bidir then (s.trib (2 * k + 1)).far else 0) * 16 + b2n m.bidir * 4 + m.selected * 2 + b2n m.enabled

/-- The circuit of the path under TRIB_PATH_SEL. -/
def circOfPath (p : Nat) (s : State) : Nat := if (s.tpath p).mode = 3 then 1024 + (s.tpath p).group else p

/-- TRIB_PATH_STATUS. -/
def pathStatus (p : Nat) (s : State) : Nat :=
  let y := s.tpath p
  let c := circOfPath p s
  let x := s.circ c
  let on := circuitOn c s
  let all := defectsOf (rxPort y.port s) s
  b2n x.lops * 2 ^ 31 + b2n (on && !x.playing) * 2 ^ 30 + b2n x.rxL * 2 ^ 29 + b2n x.rxR * 2 ^ 28 + b2n y.lom * 2 ^ 23 +
    b2n y.sqm * 2 ^ 22 + b2n y.lpRdi * 2 ^ 21 + b2n y.e1Lof * 2 ^ 20 + b2n (all.contains (9, p)) * 2 ^ 19 +
    b2n (all.contains (8, p)) * 2 ^ 18 +
    b2n (on && circuitFails c s) * 2 ^ 17 + y.mode

/-- TRIB_PATH_JB. -/
def pathJb (p : Nat) (s : State) : Nat :=
  let c := circOfPath p s
  let x := s.circ c
  unsigned 16 (x.freq.tdiv 10) * 65536 + min 65535 (x.held.length * (circCfg c s).pktPs / 1000000)

/-- TRIB_PATH_STATUS_READ (00 R460): TRIB_PATH_JB is latched. -/
def execTribPathStatusRead (p : Path) (s : State) : State :=
  hostRead p 0x72004 (fun s =>
    answer p 0x72004 (BitVec.ofNat 32 (pathStatus s.tribPathSel s))
      (s.setLatch p { s.latch p with tribJb := BitVec.ofNat 32 (pathJb s.tribPathSel s) })) s

/-- VCAT_STATUS. -/
def vcatStatus (g : Nat) (s : State) : Nat :=
  let v := s.vcat g
  b2n v.loa * 2 ^ 31 + b2n (decide (v.x ≠ 0) && groupFails g s) * 2 ^ 30 +
    min 255 (diffDelay g s / 100000000) * 65536 + (membersOf g s).length

/-- The tributary registers, but TRIB_PATH_STATUS. -/
def readTrib (p : Path) (off : Nat) (s : State) : Option Nat :=
  if off < 0x800 then (if off % 0x100 = 0 then some (tribStatus (off / 0x100) s) else none)
  else if 0x1000 ≤ off ∧ off < 0x1010 then some (mspStatus ((off - 0x1000) / 4) s)
  else if off = 0x2000 then some s.tribPathSel
  else if off = 0x2008 then some (s.latch p).tribJb.toNat
  else if 0x3000 ≤ off ∧ off < 0x3080 then some (vcatStatus ((off - 0x3000) / 4) s)
  else none

end Sys2Proof.Machine
end

