-- ==== Sys2Proof/Machine/PullOps.lean ====
section
/-!
DEFINITION. Pull grants on the manager's side (10 R265–R271): AT, the conditions of a PULL, credit and GRANT_IDs.
-/

namespace Sys2Proof.Machine

/-- PATH of R265, ps. -/
def pathPs : Nat := 200000

/-- D_w of a worker in ps; DELAY is in 1/16 ns. -/
def delayPs (w : Nat) (s : State) : Nat := (s.worker w).delay * 125 / 2

/-- AT in ps: whole ns of the tick, PULL_MARGIN_NS, PATH and D_w before the feed point (R265). -/
def pullAt (w feedPs : Nat) (s : State) : Nat :=
  let t : Int := (feedPs : Int) - (s.worker w).cfg.pullMargin * 1000 - pathPs - delayPs w s - s.clk.t0Ps
  ((s.clk.t0Ps : Int) + t / 1000 * 1000).toNat

/-- The lane rate is at least 1.05 times the instance's upstream rate after 64b/66b (R266). -/
def pullRateOk (w i : Nat) (s : State) : Bool :=
  let r := (s.lane w).rate
  match (s.inst i).usRate with
  | 1 => decide (r = 0)
  | 2 => decide (r ≤ 1)
  | 3 => decide (r ≤ 2)
  | 4 => decide (r ≤ 3)
  | _ => false

/-- The recovery of PULL_CREDIT (R270): one for every whole 64 ticks since the later of the last miss and the last recovery. -/
def recoverCredit (w : Nat) (s : State) : State :=
  let x := s.worker w
  let k := ticksSince x.creditTick s / 64
  if k = 0 then s
  else s.setWorker w { x with credit := min 15 (x.credit + k), creditTick := ownTick s }

/-- GRANT_IDs are given in rotation and reused only after their window has closed (R266). -/
def freeGid (x : Worker) : Option Nat :=
  ((List.range 64).map (fun k => (x.nextGid + k) % 64)).find? (fun g => !x.pulls.any (fun p => decide (p.gid = g)))

/-- Charge an error to a worker: its window is all ticks with the same TICK_COUNT >> 6. The flag says that the budget is
exceeded (R274). -/
def chargeWorker (w : Nat) (s : State) : Bool × State :=
  let x := s.worker w
  let win := s.clk.tick >>> 6
  let n := if x.errWindow = win then x.errCount + 1 else 1
  (decide (x.cfg.errBudget < n), s.setWorker w { x with errWindow := win, errCount := min 255 n })

/-- Issue a PULL for an allocation of a FEED 1 context at its intake, or count PULL_NOT_ISSUED (R266). The answer is the
GRANT_ID. -/
def issuePull (i ctx areaPs endPs budget : Nat) (s : State) : Option Nat × State :=
  let w := (s.alloc ctx).cfg.worker
  let s := recoverCredit w s
  let x := s.worker w
  if x.state = 4 ∧ x.leaving = false ∧ x.version = 3 ∧ 4 ≤ x.credit ∧ x.pulls.length < 64 ∧ pullRateOk w i s then
    match freeGid x with
    | some g =>
      let feed := areaPs - 96000
      let p : Pull := { gid := g, inst := i, ctx, budget, atPs := pullAt w feed s, feedPs := feed, endPs }
      (some g, s.setWorker w { x with pulls := x.pulls ++ [p], nextGid := (g + 1) % 64,
                                      withdrawn := x.withdrawn.filter (· ≠ g) })
    | none => (none, count .pullNotIssued w s)
  else
    let first := x.state = 4 ∧ x.version = 3 ∧ 4 ≤ x.credit ∧ pullRateOk w i s = false ∧ s.rateLow.contains (4 * w + i) = false
    let s := if first then raise .pullRateLow 2 w i { s with rateLow := (4 * w + i) :: s.rateLow } else s
    (none, count .pullNotIssued w s)

/-- The body of PULL (10 Table 10.1). -/
def pullBody (p : Pull) (s : State) : Nat :=
  let (t, ns) := tickOf p.atPs s
  t.toNat % 8 + ns * 2 ^ 3 + p.ctx * 2 ^ 20 + p.gid * 2 ^ 30 + p.budget % 2 ^ 20 * 2 ^ 36

/-- Send a PULL that is due, or not when it would reach the worker later than PULL_LEAD_NS before AT (R266). The flag says
that it was sent. -/
def sendPull (w : Nat) (p : Pull) (s : State) : Bool × State :=
  let x := s.worker w
  if s.clk.nowPs + delayPs w s + x.leadNs * 1000 ≤ p.atPs then
    let s := s.setWorker w { x with pulls := x.pulls.map (fun q => if q.gid = p.gid then { q with sent := true } else q) }
    (true, sendBlock w 0x69 (pullBody p s) s)
  else
    (false, count .pullNotIssued w (s.setWorker w { x with pulls := x.pulls.filter (fun q => q.gid ≠ p.gid) }))

end Sys2Proof.Machine
end

