-- ==== Sys2Proof/Machine/Upstream.lean ====
section
/-!
DEFINITION. Grants and upstream bursts (05): intake, preparation, the content of a burst, launch and end, and the
allocation commands.
-/

namespace Sys2Proof.Machine

/-! ## The launch instant (R121) -/

/-- T_RESP of the line mode in use, ns (R82, US_RESP). -/
def respNs (x : Inst) : Nat := if x.mode = 0 then 0 else Config.respNs (decide (x.mode = 1)) % 65536

/-- U, the start of the upstream PHY frame of a grant: F + T_RESP + EqD. -/
def upFrame (x : Inst) : Nat := x.sync.phyPs + (respNs x + x.eqd) * 1000

/-- The stored burst profile of an index that bursts may use (03 R77). -/
def burstOf (x : Inst) (k : Nat) : Option BurstProfile :=
  let b := SMap.get {} x.burst k
  if b.valid then some b else none

/-! ## Grant errors (Table 5.3) -/

/-- A grant of a slot is skipped or dropped (ALLOC_QUERY GRANTS_SKIPPED). -/
def skipSlot (ctx : Option Nat) (s : State) : State :=
  match ctx with
  | some c => s.setAlloc c { s.alloc c with skipped := (s.alloc c).skipped + 1 }
  | none => s

/-- A counter of a map: it is posted by the closing step (R120). -/
def noteMap (c : Ctr) (i n : Nat) (s : State) : State :=
  { s with maps := { s.maps with counts := s.maps.counts ++ [(c.index i, n)] } }

/-- A grant is dropped or skipped at its intake, and counted. -/
def dropGrant (c : Ctr) (i : Nat) (ctx : Option Nat) (s : State) : State := noteMap c i 1 (skipSlot ctx s)

/-- Every grant of a burst is dropped or skipped; a serial-number grant counts as one. -/
def dropBurst (c : Option Ctr) (i : Nat) (e : Entry) (s : State) : State :=
  let s := e.allocs.foldl (fun s a => skipSlot (some a.ctx) (withdrawAlloc a s)) s
  match c with
  | some c => countN c i (max 1 e.allocs.length) s
  | none => s

/-- A burst is displaced by a grant's intake (Table 5.3). -/
def displaceBurst (i : Nat) (e : Entry) (s : State) : State :=
  noteMap .grantOverlap i (max 1 e.allocs.length) (dropBurst none i e s)

/-! ## Intake (R119, R123, R127) -/

/-- The context that a grant's Alloc-ID matches on an instance: its own, or on a standby the active's, shadowed (R119, 15
R362). -/
def matchAlloc (i allocId : Nat) (s : State) : Option (Nat × Bool) :=
  match (ctxsOf i).find? (fun c => decide ((s.alloc c).allocId = some allocId)) with
  | some c => some (c, false)
  | none =>
    if pairStandby s then
      ((ctxsOf i).find? (fun c => decide (SMap.get none s.pair.shadowIds c = some allocId))).map (fun c => (c, true))
    else none

/-- P of a burst (Table 5.1). -/
def Entry.prepPs (e : Entry) : Nat := e.atPs - 1000000

/-- A burst's P has passed: it is prepared, or P is not later than now. -/
def Entry.fixed (e : Entry) (now : Nat) : Bool := e.prepared || decide (e.prepPs ≤ now)

/-- Two bursts' line intervals intersect. -/
def Entry.meets (e : Entry) (atPs endPs : Nat) : Bool := decide (e.atPs < endPs) && decide (atPs < e.endPs)

/-- Which existing bursts a new one displaces, none where it is itself dropped: the earlier L is kept, with equal L the
first taken in, and a burst whose P has passed is never displaced (Table 5.3). -/
def displaced (sched : List Entry) (atPs endPs now : Nat) : Option (List Entry) :=
  let hit := sched.filter (fun e => e.meets atPs endPs)
  if hit.any (fun e => e.fixed now || decide (e.atPs ≤ atPs)) then none else some hit

/-- The burst that a grant joins: it ends where the grant starts, with the same profile, on the same side (R123). -/
def joins (sched : List Entry) (startPs profile : Nat) (shadow : Bool) : Option Entry :=
  sched.find? (fun e => decide (e.endPs = startPs) && decide (e.profile = profile) && !e.sn && decide (e.shadow = shadow))

/-- Insert a burst into the schedule in order of its launch. -/
def insertEntry (e : Entry) : List Entry → List Entry
  | [] => [e]
  | f :: fs => if e.atPs < f.atPs then e :: f :: fs else f :: insertEntry e fs

/-- A loan is asked for at the intake of a standby's own grant that needs light (15 R360). While one is open its request stands, and the
active refuses another. -/
def askLoan (i : Nat) (e : Entry) (s : State) : State :=
  let x := s.inst i
  if pairStandby s && !e.shadow && ([0x23, 0x40, 0x90].contains x.st || (x.inO5 && e.ploamu)) then
    let (t, ns) := tickOf e.atPs s
    let id := s.pair.nextLoan
    let len := (e.endPs - e.atPs) / 1000
    let mine : Loan := { id, inst := i, atPs := e.atPs, endPs := e.endPs }
    sendMirror 0x8B (i + t.toNat % 8 * 2 ^ 8 + ns * 2 ^ 11 + len % 2 ^ 20 * 2 ^ 28 + id * 2 ^ 48)
      { s with pair := { s.pair with loan := s.pair.loan.orElse (fun _ => some mine), nextLoan := (id + 1) % 256 } }
  else s

/-- Number an allocation's pull at intake where its context is fed by a worker (10 R266). -/
def pullFor (i : Nat) (shadow : Bool) (a : Alloc) (endPs : Nat) (s : State) : Alloc × State :=
  if (s.alloc a.ctx).cfg.feed = 1 && !shadow then
    let (g, s) := issuePull i a.ctx a.areaPs endPs a.payload s
    ({ a with gid := g }, s)
  else (a, s)

/-- Write a launch entry, or join a grant to one (R119 step 5, R123). -/
def writeGrant (i : Nat) (g : Grant) (b : BurstProfile) (ctx : Option Nat) (shadow : Bool) (s : State) : State :=
  let x := s.inst i
  let start := upFrame x + g.startPs
  let endPs := start + g.linePs
  let alloc := ctx.map (fun c => ({ ctx := c, allocId := g.allocId, payload := g.payload, areaPs := start + g.areaPs,
                                          startPs := start, endPs, ploamu := g.ploamu, dbru := g.dbru } : Alloc))
  match joins x.sched start g.profile shadow with
  | some e =>
    if e.fixed s.clk.nowPs then dropGrant .grantTooSoon i ctx s
    else
      match displaced (x.sched.filter (fun f => f.atPs ≠ e.atPs)) e.atPs endPs s.clk.nowPs, alloc with
      | none, _ => dropGrant .grantOverlap i ctx s
      | some _, none => s
      | some gone, some a =>
        let s := gone.foldl (fun s e => displaceBurst i e s) s
        let s := s.modInst i (fun x => { x with sched := x.sched.filter (fun e => !gone.contains e) })
        let (a, s) := pullFor i shadow a (start + g.areaEndPs) s
        s.modInst i (fun x => { x with sched := x.sched.map (fun f => if f.atPs = e.atPs then { f with endPs, allocs := f.allocs ++ [a] } else f) })
  | none =>
    let atPs := start - bytesPs x.usRate b.psbu
    if atPs - 1000000 ≤ s.clk.nowPs then dropGrant .grantTooSoon i ctx s
    else if 2048 ≤ x.sched.length then dropGrant .grantSchedFull i ctx s
    else
      match displaced x.sched atPs endPs s.clk.nowPs with
      | none => dropGrant .grantOverlap i ctx s
      | some gone =>
        let s := gone.foldl (fun s e => displaceBurst i e s) s
        let s := s.modInst i (fun x => { x with sched := x.sched.filter (fun e => !gone.contains e) })
        let e : Entry := { atPs, endPs, profile := g.profile, psbu := b.psbu, fec := b.fec, ploamu := g.ploamu || g.sn, sn := g.sn, shadow }
        match alloc with
        | none => askLoan i e (s.modInst i (fun x => { x with sched := insertEntry e x.sched }))
        | some a =>
          let (a, s) := pullFor i shadow a (start + g.areaEndPs) s
          let e := { e with allocs := [a] }
          askLoan i e (s.modInst i (fun x => { x with sched := insertEntry e x.sched }))

/-- A matched grant: its size and profile are checked, it is entered in the ledger, and written (R119, R120, R127). One found by a
sample wakes the part and is not served (16 R380, below Table 16.6). -/
def takeGrant (i : Nat) (g : Grant) (ctx : Option Nat) (shadow : Bool) (s : State) : State :=
  let s := match ctx with
    | some c => s.setAlloc c { s.alloc c with grantedNow := (s.alloc c).grantedNow + g.payload }
    | none => s
  let s := if ctx.isSome && !shadow then fireWake (if g.fwi then 1 else 3) s else s
  if asleep s then s
  else if g.tooSmall ∨ tickPs < g.startPs + g.linePs then dropGrant .grantBadSize i ctx s
  else
    match burstOf (s.inst i) g.profile with
    | none => dropGrant .burstProfileUnknown i ctx s
    | some b => writeGrant i g b ctx shadow s

/-- GRANT_INTAKE (R119, Table 5.3): whatever the state of the instance, in which the grant is judged at its P (R126); serial-number grants
are matched in O2-3. -/
def execGrantIntake (i : Nat) (g : Grant) (s : State) : State :=
  let x := s.inst i
  if x.sync.state ≠ 2 ∨ x.sync.frameLost ∨ x.sync.mapLost ∨ examines i s = false then s
  else
  let s := s.modInst i (fun x => { x with mapSeen := true })
  if !g.hecOk then noteMap .bwmapAllocHec i 1 s
  else if g.sn then (if x.st = 0x23 then takeGrant i g none false s else s)
  else
    match matchAlloc i g.allocId s with
    | some (c, shadow) =>
      if !shadow || x.inO5 then takeGrant i g (some c) shadow s else s
    | none => if x.recent.contains g.allocId then noteMap .grantAllocUnknown i 1 s else s

/-- PULL_ISSUE (10 R266): the PULL of a context is sent at the later of its intake and AT − 250,000 ns. -/
def execPullIssue (i ctx : Nat) (s : State) : State :=
  let w := (s.alloc ctx).cfg.worker
  match (s.worker w).pulls.find? (fun p => decide (p.ctx = ctx) && decide (p.inst = i) && !p.sent) with
  | none => s
  | some p =>
    let s := advanceTo (p.atPs - 250000000) s
    let (ok, s) := sendPull w p s
    if ok then s
    else s.modInst i (fun x => { x with sched := x.sched.map (fun e =>
      { e with allocs := e.allocs.map (fun a => if a.ctx = ctx ∧ a.gid = some p.gid then { a with gid := none } else a) }) })

/-! ## Burst content (R130–R138) -/

/-- The ligature header of a bonded fragment (R136, Table 5.5). -/
def Piece.header (p : Piece) : Nat := p.seq.getD 0 % 2 ^ 20 * 2 ^ 12 + b2n p.first * 2 ^ 11 + b2n p.last * 2 ^ 10 + 2 ^ 8

/-- A length rounded up, or down, to a multiple of 4. -/
def padUp (n : Nat) : Nat := (n + 3) / 4 * 4
def cut4 (n : Nat) : Nat := n / 4 * 4

/-- Bytes of a payload area that a piece takes: the XGEM header, and the ligature header of a bonded one (R138). -/
def pieceCost (bonded : Bool) (n : Nat) : Nat := if bonded then 8 + padUp (4 + n) else 8 + padUp n

/-- Bytes of a frame that a cut would carry in the room left; cuts start at 64 bytes (R132, R138). -/
def cutAt (bonded : Bool) (room : Nat) : Option Nat :=
  let n := cut4 (room - (if bonded then 12 else 8))
  if 64 ≤ n then some n else none

/-- Key_Index of an upstream Port-ID: none where it must be encrypted and no key is loaded (13 R327, R334). -/
def upKeyIndex (i port : Nat) (s : State) : Option Nat :=
  if SMap.get false (s.inst i).usEncrypt port then
    let k := (s.inst i).usKeyIndex
    if k ≠ 0 && ponKeyLoaded i (k + 1) s && !cipherTested s then some k else none
  else some 0

/-- What a pass has filled so far. -/
structure Fill where
  room : Nat
  pieces : List Piece := []
  taken : List Taken := []
  omci : List Bytes := []

/-- Add a piece. -/
def Fill.add (f : Fill) (p : Piece) (bonded : Bool) : Fill :=
  { f with room := f.room - pieceCost bonded p.data.length, pieces := f.pieces ++ [p] }

/-- Step 1: a continuation owed to the context. The flag says that the pass goes on (R131, R132). -/
def fillCont (i ctx : Nat) (frag : Bool) (f : Fill) (s : State) : Bool × Fill × State :=
  let a := s.alloc ctx
  match a.cont with
  | none => (true, f, s)
  | some p =>
    match upKeyIndex i p.port s with
    | none => (true, f, count .usKeyInvalid i (s.setAlloc ctx { a with cont := none }))
    | some k =>
      if pieceCost false p.data.length ≤ f.room then
        (true, f.add { p with lf := true, keyIndex := k } false, s.setAlloc ctx { a with cont := none })
      else
        match if frag then cutAt false f.room else none with
        | some n =>
          (false, f.add { p with lf := false, keyIndex := k, data := p.data.take n } false,
            s.setAlloc ctx { a with cont := some { p with data := p.data.drop n } })
        | none => (false, f, s)

/-- Step 2: OMCI messages, whole and clear, on the OMCC port (R130). -/
def fillOmcc (i : Nat) : Nat → Fill → State → Fill × State
  | 0, f, s => (f, s)
  | n + 1, f, s =>
    match (s.inst i).omcc with
    | [] => (f, s)
    | m :: ms =>
      if pieceCost false m.length ≤ f.room then
        let f := f.add { port := (s.inst i).onuId.getD 0, data := m } false
        fillOmcc i n { f with omci := f.omci ++ [m] } (s.modInst i (fun x => { x with omcc := ms }))
      else (f, s)

/-- How the frames of a pass are cut and numbered. -/
structure PassKind where
  inst : Nat
  /-- The context whose queues are read, and whose continuation a cut leaves. -/
  ctx : Nat
  frag : Bool
  /-- An active group takes the frames as bonded (R137). -/
  bonded : Bool

/-- A Port-ID lies in the group's bonded range (R139). -/
def inBondRange (port : Nat) (s : State) : Bool :=
  decide (s.lig.portFirst ≤ port) && decide (port < s.lig.portFirst + s.lig.portCount)

/-- Leave the rest of a cut frame as the continuation. -/
def leaveRest (k : PassKind) (rest : Piece) (s : State) : State :=
  if k.bonded then { s with lig := { s.lig with cont := some rest } }
  else s.setAlloc k.ctx { s.alloc k.ctx with cont := some rest }

/-- Take the next number of the group's sequence (R137). -/
def nextSeq (bonded : Bool) (s : State) : Option Nat × State :=
  if bonded then (some s.lig.usNext, { s with lig := { s.lig with usNext := (s.lig.usNext + 1) % 2 ^ 20 } }) else (none, s)

/-- Step 3: frames of the queues of `src`, in the order of R211, until one does not fit; a cut frame ends the pass (R131,
R132, R137–R139). -/
def fillQueues (k : PassKind) (src : Nat) : Nat → Fill → State → Fill × State
  | 0, f, s => (f, s)
  | n + 1, f, s =>
    let (q, s) := pick src ((ctxQueues src).filter (fun q => eligible q s)) s
    match q with
    | none => (f, s)
    | some q =>
      match (s.queue q).frames.head? with
      | none => (f, s)
      | some fr =>
        let bonded := k.bonded && inBondRange fr.port s
        match upKeyIndex k.inst fr.port s with
        | none => fillQueues k src n f (count .usKeyInvalid k.inst (dequeue q s).2)
        | some key =>
          if pieceCost bonded fr.len ≤ f.room then
            let s := if k.bonded && !bonded then count .ligUsPortMismatch 0 s else s
            let s := (dequeue q s).2
            let (seq, s) := nextSeq bonded s
            let f := f.add { port := fr.port, seq, keyIndex := key, data := fr.data } bonded
            fillQueues k src n { f with taken := f.taken ++ [{ queue := q, frame := fr, bonded }] } s
          else
            match if k.frag && (bonded || !k.bonded) then cutAt bonded f.room else none with
            | none => (f, s)
            | some len =>
              let s := (dequeue q s).2
              let (seq, s) := nextSeq bonded s
              let p : Piece := { port := fr.port, lf := bonded, seq, last := false, keyIndex := key, data := fr.data.take len }
              let f := f.add p bonded
              ({ f with taken := f.taken ++ [{ queue := q, frame := fr, bonded }] },
                leaveRest { k with bonded } { port := fr.port, first := false, data := fr.data.drop len } s)

/-- The return list, in sequence order, whole (R137 step 1), each piece under the present key of the instance that sends it (R131). The
flag says that the pass goes on. -/
def fillReturns (i : Nat) : List Piece → Fill → State → Bool × Fill × State
  | [], f, s => (true, f, { s with lig := { s.lig with returns := [] } })
  | p :: ps, f, s =>
    match upKeyIndex i p.port s with
    | none => fillReturns i ps f (count .usKeyInvalid i s)
    | some k =>
      if pieceCost true p.data.length ≤ f.room then fillReturns i ps (f.add { p with keyIndex := k } true) s
      else (false, f, { s with lig := { s.lig with returns := p :: ps } })

/-- The bonded continuation (R137 step 2), cut again where it does not fit (R138), under the present key of the instance (R131). -/
def fillBondCont (i : Nat) (f : Fill) (s : State) : Bool × Fill × State :=
  match s.lig.cont with
  | none => (true, f, s)
  | some p =>
    match upKeyIndex i p.port s with
    | none => (true, f, count .usKeyInvalid i { s with lig := { s.lig with cont := none } })
    | some k =>
      if pieceCost true p.data.length ≤ f.room then
        let (seq, s) := nextSeq true s
        (true, f.add { p with seq, lf := true, keyIndex := k } true, { s with lig := { s.lig with cont := none } })
      else
        match cutAt true f.room with
        | some n =>
          let (seq, s) := nextSeq true s
          (false, f.add { p with seq, lf := true, keyIndex := k, last := false, data := p.data.take n } true,
            { s with lig := { s.lig with cont := some { p with first := false, data := p.data.drop n } } })
        | none => (false, f, s)

/-- Frames that a pass may take at most: all that wait. -/
def passFuel (ctx : Nat) (s : State) : Nat := ((ctxQueues ctx).map (fun q => (s.queue q).frames.length)).sum + 1

/-- The pass of a FEED 0 context (R131), or of a FEED 1 context that the Nib fills from step 2 (R133). There a continuation that the
context owes stays owed, and no frame is cut beside it (DESIGN CHOICE, log 512). -/
def fillLocal (i ctx : Nat) (withCont : Bool) (f : Fill) (s : State) : Fill × State :=
  let frag := (s.alloc ctx).cfg.frag && (withCont || (s.alloc ctx).cont.isNone)
  let (on, f, s) := if withCont then fillCont i ctx frag f s else (true, f, s)
  if on then
    let (f, s) := if ctx % 256 = 0 then fillOmcc i (s.inst i).omcc.length f s else (f, s)
    fillQueues { inst := i, ctx, frag, bonded := false } ctx (passFuel ctx s) f s
  else (f, s)

/-- The group takes bonded content on this instance (R137). -/
def bondedHere (i : Nat) (s : State) : Bool :=
  decide (s.lig.phase = .active ∨ s.lig.phase = .stopping) && s.lig.members.contains i && !s.lig.suspended.contains i

/-- The pass of a FEED 2 context (R137, R139): returned fragments and the bonded continuation first, then the reservoir, as
bonded frames on an active member, as ordinary frames while there is no active group. On another instance nothing is taken while a group
is active (DESIGN CHOICE, log 513). -/
def fillBonded (i ctx : Nat) (f : Fill) (s : State) : Fill × State :=
  let src := (s.alloc ctx).cfg.reservoir
  let group : Bool := decide (s.lig.phase = .active ∨ s.lig.phase = .stopping)
  if group && !bondedHere i s then (f, s)
  else
    let (on, f, s) := fillReturns i s.lig.returns f s
    let (on, f, s) := if on then fillBondCont i f s else (false, f, s)
    if !on then (f, s)
    else if group then fillQueues { inst := i, ctx, frag := true, bonded := true } src (passFuel src s) f s
    else
      let (on, f, s) := fillCont i ctx true f s
      if on then fillQueues { inst := i, ctx, frag := true, bonded := false } src (passFuel src s) f s else (f, s)

/-- Bytes that the DBRu of an allocation reports (R134), sampled after the burst's own dequeue. -/
def dbruBytes (i ctx : Nat) (s : State) : Nat :=
  let a := s.alloc ctx
  let contLen := (a.cont.map (fun p => p.data.length)).getD 0
  match a.cfg.feed with
  | 0 => ctxBytes ctx s + contLen + (if ctx % 256 = 0 then ((s.inst i).omcc.map List.length).sum else 0)
  | 1 => a.mapBytes + ctxBytes ctx s
  | _ =>
    let members := s.lig.members.filter (fun j => !s.lig.suspended.contains j)
    if bondedHere i s && decide (anchorOf members s = some i) then
      let src := a.cfg.reservoir
      let frames := ((ctxQueues src).map (fun q => (s.queue q).frames.length)).sum
      let pieces := s.lig.returns ++ s.lig.cont.toList
      ctxBytes src s + (pieces.map (fun p => p.data.length)).sum + 12 * (frames + pieces.length)
    else 0

/-- Fix the content of one allocation at P (R131). -/
def fillAlloc (i : Nat) (a : Alloc) (s : State) : Alloc × State :=
  let x := s.alloc a.ctx
  let (f, s) := match x.cfg.feed with
    | 0 => fillLocal i a.ctx true { room := a.payload } s
    | 1 => ({ room := a.payload }, s)
    | _ => fillBonded i a.ctx { room := a.payload } s
  ({ a with pieces := f.pieces, taken := f.taken, omci := f.omci, contBefore := x.cont, filled := decide (x.cfg.feed ≠ 1) }, s)

/-- Fix the content of all allocations in order. -/
def fillAllocs (i : Nat) : List Alloc → State → List Alloc × State
  | [], s => ([], s)
  | a :: as, s =>
    let (a, s) := fillAlloc i a s
    let (as, s) := fillAllocs i as s
    (a :: as, s)

/-- A byte count in the report unit of a line mode, rounded up and saturating (R134). -/
def dbruUnits (hs : Bool) (bytes : Nat) : Nat :=
  min (Config.dbruMax hs) ((bytes + (Config.dbruUnit hs - 1)) / max 1 (Config.dbruUnit hs))

/-- Sample the flagged DBRu values (R134). -/
def sampleDbru (i : Nat) (s : State) (a : Alloc) : Alloc :=
  if a.dbru then { a with dbruValue := some (dbruUnits (decide ((s.inst i).mode = 1)) (dbruBytes i a.ctx s)) } else a

/-- Frames in a burst's allocations that are not idle. -/
def Entry.busy (e : Entry) : Bool := e.allocs.any (fun a => !a.pieces.isEmpty)

/-- The 48 bytes of a message whose layout the manual gives: ONU-ID, type, sequence number, content, integrity check under the PLOAM
integrity key, or the default key where none is loaded (03 Table 3.8, 04 R117). -/
def ploamWire (i type seq : Nat) (content : Bytes) (s : State) : Bytes :=
  let m := be 2 ((s.inst i).onuId.getD 0x3FF % 1024) ++ le 1 type ++ le 1 seq ++ fit 36 content
  let key := match ponSlot i 0 s with | some n => if (keySlot n s).loaded then (keySlot n s).key else [] | none => []
  m ++ be 8 (Config.ploamMic key m)

/-- A message is formed at its P: it takes its sequence number, given or the instance's own next (04 R117), and a Registration the
registration ID (03 R72). -/
def formPloam (i : Nat) (u : UpItem) (s : State) : UpItem × State :=
  let x := s.inst i
  let given := match u.msg with
    | .host _ n _ => if n = 256 then none else some n
    | .acknowledge _ n => some n
    | _ => none
  let seq := given.getD x.usSeq
  let msg := match u.msg with | .registration _ => .registration (fit 36 x.regId) | m => m
  let wire := match u.msg with
    | .vendor subtype body => ploamWire i 0xD5 seq (be 2 0x0D5E ++ le 1 subtype ++ [1] ++ body) s
    | .host type _ content => ploamWire i type seq content s
    | _ => []
  ({ u with msg, seqno := seq, ownSeq := given.isNone, wire },
    if given.isNone then s.setInst i { x with usSeq := (seq + 1) % 256 } else s)

/-- The PLOAM message a burst carries: own messages first, then the host's, else the one the standard prescribes (R135, 04
R117); a serial-number grant carries Serial_Number_ONU (03 Table 3.4). -/
def takePloam (i : Nat) (e : Entry) (s : State) : Option UpItem × State :=
  let x := s.inst i
  let form := fun (u : UpItem) (s : State) => let (u, s) := formPloam i u s; (some u, s)
  if e.shadow || !e.ploamu then (none, s)
  else if e.sn then form { msg := .serialNumber vendorId (BitVec.ofNat 32 (vssnOf i s)) } s
  else
    match x.upOwn, x.upHost with
    | u :: us, _ => form u (s.setInst i { x with upOwn := us })
    | [], u :: us => form u (s.setInst i { x with upHost := us })
    | [], [] => form { msg := .none } s

/-! ## Preparation, launch and end (R124–R126) -/

/-- Change the burst of a schedule that launches at an instant. -/
def modEntry (i atPs : Nat) (f : Entry → Entry) (s : State) : State :=
  s.modInst i (fun x => { x with sched := x.sched.map (fun e => if e.atPs = atPs then f e else e) })

/-- Does the state permit this burst (Table 5.2)? A shadow burst needs no permission of the standby's own. -/
def statePermits (x : Inst) (e : Entry) : Bool :=
  if e.shadow then x.inO5
  else if x.st = 0x23 then e.sn
  else if x.st = 0x40 then !e.sn && (e.ploamu || e.allocs.any (fun a => decide (a.ctx % 256 = 0)))
  else if x.st = 0x90 then !e.sn && e.ploamu
  else x.inO5 && !e.sn

/-- A serial-number or ranging grant (03 R80). -/
def isRanging (x : Inst) : Bool := decide (x.st = 0x23) || decide (x.st = 0x40)

/-- The interlock permits light for this burst: on a standby only under the loan granted for it (15 R359, R360); in quiesce, after
a fatal condition and in sleep none does (20 R443, 18 R401, 16 R379). -/
def lightFor (i : Nat) (e : Entry) (s : State) : Bool :=
  if e.shadow then true
  else if quiesceNow s || s.fatal.asserted || !quillRuns s then false
  else if pairStandby s then
    match s.pair.loan with
    | some l => l.granted && decide (l.inst = i) && decide (l.atPs = e.atPs) && lightOk s
    | none => false
  else lightOk s && (match s.pair.switch with | some w => decide (e.prepPs < w.atPs) | none => true)

/-- The next BURST_SEQ of an instance's shadow schedule, and M_LAUNCH from the active (15 Table 15.2). -/
def reportLaunch (i : Nat) (launched : Bool) (s : State) : State :=
  if pairInStep s && pairActive s then
    let n := SMap.get 0 s.pair.burstSeq i
    sendMirror 0x88 (i + n % 2 ^ 24 * 2 ^ 8 + b2n launched * 2 ^ 32)
      { s with pair := { s.pair with burstSeq := SMap.set 0 s.pair.burstSeq i ((n + 1) % 2 ^ 24) } }
  else s


/-- ACT_OUT# changes its level (15 R359). -/
def setActOut (b : Bool) (s : State) : State :=
  { s with pair := { s.pair with actOut := b, actOutPs := s.clk.nowPs } }

/-- The loan open for a burst of a standby. -/
def lentFor (i : Nat) (e : Entry) (s : State) : Bool :=
  pairStandby s && (match s.pair.loan with | some l => decide (l.inst = i) && decide (l.atPs = e.atPs) | none => false)

/-- A loan is over: the light goes back (15 R360). -/
def endLoan (s : State) : State :=
  let s : State := { s with pair := { s.pair with loan := none } }
  if s.pair.actOut then setActOut false s else s

/-- Skip a whole burst at its P. -/
def skipBurst (c : Option Ctr) (i : Nat) (e : Entry) (s : State) : State :=
  let s := if lentFor i e s then endLoan s else s
  reportLaunch i false (dropBurst c i e (s.modInst i (fun x => { x with sched := x.sched.filter (fun f => f.atPs ≠ e.atPs) })))

/-- The standard's switch-over to a new upstream key falls before this P or not: a free value says which (13 R333). -/
def keySwitch (i : Nat) (s : State) : State :=
  match (s.inst i).usKeyNext with
  | none => s
  | some k =>
    let (v, s) := takeFree 1 s
    if v = 1 then s.modInst i (fun x => { x with usKeyIndex := k, usKeyNext := none }) else s

/-- Bytes in the replay hold, of 12 MiB (15 R363). -/
def holdBytes (s : State) : Nat := (s.pair.hold.map (fun h => h.frame.len)).sum

/-- Keep a frame in the replay hold, or release it when the hold is full (15 R363). -/
def holdFrame (h : HoldFrame) (s : State) : State :=
  if 12582912 < holdBytes s + h.frame.len then
    count .replayHoldFull 0 { s with pair := { s.pair with gapTick := some (ownTick s) } }
  else { s with pair := { s.pair with hold := s.pair.hold ++ [h] } }

/-- Keep what a shadow burst dequeued. -/
def holdBurst (i : Nat) (e : Entry) (s : State) : State :=
  (e.allocs.flatMap (fun a => a.taken)).foldl (fun s t =>
    holdFrame { queue := t.queue, frame := t.frame, atPs := e.atPs, tick := ownTick s, burst := some (i, e.seq) } s) s

/-- The burst takes from the reservoir (R139). -/
def Entry.bonds (e : Entry) (s : State) : Bool := e.allocs.any (fun a => decide ((s.alloc a.ctx).cfg.feed = 2))

/-- A lower-numbered instance takes bonded content first where its P falls in the same clock (R137). -/
def lowerFirst (i : Nat) (e : Entry) (s : State) : Bool :=
  e.bonds s && (List.range i).any (fun j => match (s.inst j).sched.find? (fun f => !f.prepared) with
    | some f => f.bonds s && decide (f.prepPs / 800 = e.prepPs / 800)
    | none => false)

/-- BURST_PREPARATION at P (R124–R126, R128). -/
def execBurstPreparation (i : Nat) (s : State) : State :=
  match (s.inst i).sched.find? (fun e => !e.prepared) with
  | none => s
  | some e =>
    if lowerFirst i e s then s
    else
    let s := advanceTo e.prepPs s
    let x := s.inst i
    if !statePermits x e then skipBurst none i e s
    else if 2 ≤ (x.sched.filter (fun f => f.prepared && !f.launched)).length then skipBurst (some .grantTooSoon) i e s
    else if !e.shadow && !x.txLocked then skipBurst (some (if isRanging x then .rangingDeferred else .grantLaserNotReady)) i e s
    else if !lightFor i e s then
      let s := if pairStandby s && (e.ploamu || isRanging x) then count .loanRefused 0 s else s
      skipBurst (some (if isRanging x && pairStandby s then .rangingDeferred else .grantLaserInhibited)) i e s
    else
      let s := keySwitch i s
      let g := s.lig
      let (allocs, s) := if e.shadow then fillAllocs i (e.allocs.filter (fun a => decide ((s.alloc a.ctx).cfg.feed ≠ 1))) s
        else fillAllocs i e.allocs s
      let allocs := allocs.map (sampleDbru i s)
      let (ploam, s) := takePloam i e s
      let seq := SMap.get 0 s.pair.burstSeq i
      let bond : BondMark := { next := g.usNext, returns := g.returns, cont := g.cont, after := s.lig.usNext }
      let e' := { e with prepared := true, allocs, ploam, power := x.power, seq, prepClock := clockNo s, bond }
      let s := modEntry i e.atPs (fun _ => e') s
      if e.shadow then
        holdBurst i e' { s with pair := { s.pair with burstSeq := SMap.set 0 s.pair.burstSeq i ((seq + 1) % 2 ^ 24) } }
      else s

/-- BURST_ENABLE at L − 12.8 ns (Table 5.1). -/
def execBurstEnable (i : Nat) (s : State) : State :=
  match (s.inst i).sched.find? (fun e => e.prepared && !e.enabled && !e.shadow) with
  | none => s
  | some e =>
    modEntry i e.atPs (fun e => { e with enabled := true }) ((advanceTo (e.atPs - 12800) s).modInst i (fun x => { x with laserOn := true }))

/-- What the sending of a PLOAM message brings about: an EqD takes effect (03 R81), the ligature's waits begin (03 R86,
R90), a PLOAM_TX completes (04 R117). -/
def ploamSent (i : Nat) (u : UpItem) (s : State) : State :=
  let s := match u.eqd with | some v => s.modInst i (fun x => { x with eqd := v }) | none => s
  let s : State := if u.propose then { s with lig := { s.lig with proposedAt := some (ownTick s) } } else s
  let s : State := if u.release ∧ s.lig.phase = .stopping then { s with lig := { s.lig with stopAt := some (ownTick s), stopBy := some i } } else s
  let s : State := match u.msg with
    | .sleepRequest true => { s with pwr := { s.pwr with indicating := s.pwr.indicating.filter (· ≠ i) } }
    | _ => s
  match u.cmd with
  | none => s
  | some n =>
    match s.cmd.executing.find? (fun c => decide (c.seq = n)) with
    | some c => complete c .ok 0 (le 1 u.seqno ++ zeros 3 ++ le 4 s.clk.tick.toNat) s
    | none => s

/-- The XGEM payload of a piece on the line: a bonded one's ligature header first, encrypted under its Key_Index (R131, R136, 13 R334). -/
def payloadOnLine (i : Nat) (p : Piece) (s : State) : Bytes × State :=
  let d := (if p.seq.isSome then be 4 p.header else []) ++ p.data
  if p.keyIndex = 0 then (d, s) else fibreCrypt i (p.keyIndex + 1) d s

/-- The payloads of pieces on the line, in order. -/
def payloadsOnLine (i : Nat) : List Piece → State → List Bytes × State
  | [], s => ([], s)
  | p :: ps, s =>
    let (d, s) := payloadOnLine i p s
    let (ds, s) := payloadsOnLine i ps s
    (d :: ds, s)

/-- Pieces go out in an allocation of a context: what the line carries of each (R133). -/
def putPieces (i ctx : Nat) (ps : List Piece) (s : State) : State :=
  let (ds, s) := payloadsOnLine i ps s
  emit (.fed i ctx ps ds) s

/-- A burst goes out: its entry, and for each piece of its allocations in order what the line carries of it (R121). -/
def putBurst (i : Nat) (e : Entry) (s : State) : State :=
  let (ds, s) := payloadsOnLine i (e.allocs.flatMap (fun a => a.pieces)) s
  emit (.burst i e ds) s

/-- Pieces leave on the fibre: bandwidth and bonded fragments are counted. -/
def piecesSent (i : Nat) (ps : List Piece) (s : State) : State :=
  let s := ps.foldl (fun s p => bwCount (48 + i) p.data.length s) s
  countN .ligUsFragments 0 (ps.filter (fun p => p.seq.isSome)).length s

/-- BURST_LAUNCH at L (Table 5.1). -/
def execBurstLaunch (i : Nat) (s : State) : State :=
  match (s.inst i).sched.find? (fun e => e.prepared && !e.launched && (e.enabled || e.shadow)) with
  | none => s
  | some e =>
    let s := modEntry i e.atPs (fun e => { e with launched := true }) (advanceTo e.atPs s)
    if e.shadow then s
    else
      let s := if (s.inst i).txLocked then putBurst i e s else s
      let s := countN .usGrants i (max 1 e.allocs.length) (count .usBursts i s)
      let s := piecesSent i (e.allocs.flatMap (fun a => a.pieces)) s
      let s := if e.busy then noteActivity s else s
      let s := match e.ploam with | some u => ploamSent i u s | none => s
      reportLaunch i true s

/-- Place the Nib's own filling of a FEED 1 allocation, from step 2 of R131 on, into the room that is left (R133). -/
def nibFill (i : Nat) (e : Entry) (a : Alloc) (room : Nat) (s : State) : State :=
  let (f, s) := fillLocal i a.ctx false { room } s
  let s := modEntry i e.atPs (fun e => { e with allocs := e.allocs.map (fun b =>
    if b.areaPs = a.areaPs then
      { b with filled := true, pieces := b.pieces ++ f.pieces, taken := b.taken ++ f.taken, omci := b.omci ++ f.omci } else b) }) s
  if e.launched then piecesSent i f.pieces (putPieces i a.ctx f.pieces s) else s

/-- The pull of an allocation, where it is open. -/
def pullOf (a : Alloc) (s : State) : Option Pull :=
  match a.gid with
  | some g => (s.worker (s.alloc a.ctx).cfg.worker).pulls.find? (fun p => decide (p.gid = g))
  | none => none

/-- Bytes of an allocation that its pull has taken so far. -/
def pulledBytes (a : Alloc) (s : State) : Nat := ((pullOf a s).map (fun p => p.used)).getD 0

/-- PULL_FEED_DEADLINE (R133): the next pulled frame of a FEED 1 allocation has not begun by the instant its first byte is due at the Nib,
96 ns before its place on the line: the Nib fills the rest. -/
def execPullFeedDeadline (i : Nat) (s : State) : State :=
  let waits := fun (a : Alloc) => !a.filled
  match (s.inst i).sched.find? (fun e => e.prepared && e.allocs.any waits) with
  | none => s
  | some e =>
    match e.allocs.find? waits with
    | none => s
    | some a =>
      let used := pulledBytes a s
      nibFill i e a (a.payload - used) (advanceTo (a.areaPs + bytesPs (s.inst i).usRate used - 96000) s)

/-- No burst of the device's own has passed its P without having ended. -/
def fibreDark (s : State) : Bool := (List.range 4).all (fun j => (s.inst j).sched.all (fun e => !e.prepared || e.shadow))

/-- After a burst: a standby gives the lent light back, and a former active leaves once its last burst has ended (15 R360,
R369). -/
def lightAfter (i : Nat) (e : Entry) (s : State) : State :=
  if lentFor i e s then endLoan s
  else if pairStandby s && s.pair.actOut && fibreDark s then setActOut false s
  else s

/-- What is left of a burst's FEED 1 allocations at its end has been filled when it was due (R133). -/
def fillRests (i : Nat) (e : Entry) (s : State) : State :=
  (e.allocs.filter (fun a => !a.filled)).foldl (fun s a => nibFill i e a (a.payload - pulledBytes a s) s) s

/-- BURST_END (Table 5.1): burst enable is deasserted, the pull windows close, and an INST_STOP that waited completes. -/
def execBurstEnd (i : Nat) (s : State) : State :=
  match (s.inst i).sched.find? (fun e => e.launched) with
  | none => s
  | some e =>
    let s := advanceTo e.endPs (fillRests i e s)
    let s := e.allocs.foldl (fun s a => match a.gid with
      | some g => s.modWorker (s.alloc a.ctx).cfg.worker (fun w => { w with pulls := w.pulls.filter (fun p => p.gid ≠ g) })
      | none => s) s
    let s := s.modInst i (fun x => { x with sched := x.sched.filter (fun f => f.atPs ≠ e.atPs),
                                            laserOn := (x.sched.filter (fun f => f.atPs ≠ e.atPs)).any (fun f => f.enabled) })
    let s := lightAfter i e s
    let s := if stateLaunches (s.inst i).st then s else goDark i s
    if (s.inst i).laserOn then s else completeRunningAt 0x0202 i .ok [] s

/-- ALLOC_SLOT_RELEASE at the tick edge (R129). -/
def execAllocSlotRelease (ctx : Nat) (s : State) : State := releaseSlot ctx s

/-! ## Registers (R141) -/

/-- US_STATUS. -/
def usStatus (i : Nat) (s : State) : Nat :=
  let x := s.inst i
  ((List.range 4).map (fun k => b2n (SMap.get {} x.burst k).valid * 2 ^ (16 + k))).sum +
    b2n (stateLaunches x.st && lightOk s) * 2 ^ 15 + b2n x.laserOn * 2 ^ 14 + x.sched.length

/-- US_PROFILE[k]. -/
def usProfile (i k : Nat) (s : State) : Nat :=
  let b := SMap.get {} (s.inst i).burst k
  b2n b.valid * 2 ^ 31 + b2n b.fec * 2 ^ 16 + b.psbu % 2 ^ 16

/-- The next L in the schedule. -/
def nextLaunch (i : Nat) (s : State) : Option Nat := ((s.inst i).sched.find? (fun e => !e.launched)).map (fun e => e.atPs)

/-- US_NEXT_TICK_READ (R141): latches US_NEXT_NS for its path. -/
def execUsNextTickRead (p : Path) (i : Nat) (s : State) : State :=
  hostRead p (0x10208 + 0x4000 * i) (fun s =>
    let (t, ns) := match nextLaunch i s with | some ps => tickOf ps s | none => (0, 0)
    let l := s.latch p
    answer p (0x10208 + 0x4000 * i) t (s.setLatch p { l with usNextNs := SMap.set 0 l.usNextNs i (BitVec.ofNat 32 ns) })) s

/-- LIG_US_STATUS: the reservoir that the FEED 2 contexts name, and the return list. -/
def ligUsStatus (s : State) : Nat :=
  if s.lig.phase = .active ∨ s.lig.phase = .stopping then
    let r := (s.allocs.find? (fun e => decide (e.2.cfg.feed = 2))).map (fun e => e.2.cfg.reservoir)
    r.getD 0 * 2 ^ 16 + s.lig.returns.length % 2 ^ 14
  else 0

/-- LIG_US_NEXT. -/
def ligUsNext (s : State) : Nat := if s.lig.phase = .active ∨ s.lig.phase = .stopping then s.lig.usNext else 0

/-! ## Commands (R142–R144) -/

/-- The ALLOC_CONFIG parameters of a payload, from its byte 1 on. -/
def allocCfgOf (p : Bytes) : AllocCfg := { feed := u8 p 1, frag := bit (u8 p 2) 0, worker := u8 p 3, reservoir := u16 p 4 }

/-- A context that has, or takes up at the next edge, FEED 2 names another reservoir; the slot's own too (R143). -/
def otherReservoir (r : Nat) (s : State) : Bool :=
  s.allocs.any (fun e => (decide (e.2.cfg.feed = 2) && decide (e.2.cfg.reservoir ≠ r)) ||
    (match e.2.next with | some n => decide (n.feed = 2) && decide (n.reservoir ≠ r) | none => false))

def badAllocConfig (q : CmdReq) (s : State) : Bool :=
  let p := q.body
  let n := allocCfgOf p
  let ctx := 256 * q.index + u8 p 0
  decide (2 < n.feed) || decide (1 < u8 p 2) || !allZero (slice p 6 2) ||
    (if n.feed = 1 then decide (31 < n.worker) || decide (s.dev.role ≠ 1) else decide (n.worker ≠ 0)) ||
    (if n.feed = 2 then decide (1023 < n.reservoir) || (s.alloc n.reservoir).allocId.isSome || decide (n.reservoir = ctx) ||
        otherReservoir n.reservoir s || decide (u8 p 0 = 0)
      else decide (n.reservoir ≠ 0))

def specAllocConfig : CmdSpec := instSpec 0x0210 (params 8 badAllocConfig)

/-- ALLOC_CONFIG (R143): in force from the next tick edge. -/
def effAllocConfig (c : Cmd) (s : State) : Res :=
  let ctx := 256 * c.req.index + u8 c.req.body 0
  .ok [] (s.setAlloc ctx { s.alloc ctx with next := some (allocCfgOf c.req.body) })

def execAllocConfig (q : CmdReq) (s : State) : State := runCmd specAllocConfig effAllocConfig q s

/-- The ALLOC_CONFIG parameters in force as a payload. -/
def AllocCfg.bytes (slot : Nat) (c : AllocCfg) : Bytes :=
  le 1 slot ++ le 1 c.feed ++ le 1 (b2n c.frag) ++ le 1 c.worker ++ le 2 c.reservoir ++ zeros 2

def specAllocQuery : CmdSpec :=
  { instSpec 0x0211 (params 4 (fun q _ => !allZero (slice q.body 1 3))) with reads := true }

/-- ALLOC_QUERY (R144): reads a slot and clears GRANTS_SKIPPED. -/
def effAllocQuery (c : Cmd) (s : State) : Res :=
  let slot := u8 c.req.body 0
  let ctx := 256 * c.req.index + slot
  let a := s.alloc ctx
  .ok (le 2 (a.allocId.getD 0xFFFF) ++ le 2 (8 * ctx) ++ a.cfg.bytes slot ++ le 4 a.granted ++ le 4 a.skipped)
    (s.setAlloc ctx { a with skipped := 0 })

def execAllocQuery (q : CmdReq) (s : State) : State := runCmd specAllocQuery effAllocQuery q s

/-- Item 4: the bookkeeping of the maps received in the previous tick: the ledgers, and the maps' counters (R120). -/
def closeMaps (s : State) : State :=
  let ledger := fun (e : Nat × AllocCtx) =>
    (e.1, if (s.inst (e.1 / 256)).mapSeen then { e.2 with granted := e.2.grantedNow, grantedNow := 0, grantedWas := e.2.granted }
      else { e.2 with grantedWas := e.2.granted })
  let s : State := { s with allocs := (s.allocs.map ledger).filter (fun e => e.2 ≠ {}), clk := { s.clk with mapsClosed := true } }
  let s := (List.range 4).foldl (fun s i => s.modInst i (fun x => { x with mapSeen := false })) s
  s.maps.counts.foldl (fun s e => addCounter e.1 e.2 s) { s with maps := { counts := [], posted := s.maps.counts } }

/-- Take n back from a counter that the closing step has posted too early. -/
def unpost (e : Nat × Nat) (c : Cnt) : Cnt :=
  let low := SMap.get 0 c.value e.1
  let value := SMap.set 0 c.value e.1 (low - BitVec.ofNat 32 e.2)
  if SMap.get false c.chained e.1 && decide (low.toNat < e.2) then
    { c with value := SMap.set 0 value (e.1 + 1) (SMap.get 0 value (e.1 + 1) - 1) }
  else { c with value }

/-- Item 4 has overrun: the ledgers stand as before this tick's closing step, and its counters wait, for the next edge (R120, 01 R33, R34; log 105). -/
def reopenMaps (s : State) : State :=
  { s with
    allocs := (s.allocs.map (fun e => (e.1, { e.2 with granted := e.2.grantedWas }))).filter (fun e => e.2 ≠ {})
    cnt := s.maps.posted.foldl (fun c e => unpost e c) s.cnt
    maps := { counts := s.maps.posted ++ s.maps.counts, posted := [] }
    clk := { s.clk with mapsClosed := false } }

/-- ALLOC_CONFIG settings that wait for the tick edge (R143). -/
def applyAllocConfigs (s : State) : State :=
  { s with allocs := (s.allocs.map (fun e =>
      (e.1, match e.2.next with | some n => { e.2 with cfg := n, next := none } | none => e.2))).filter (fun e => e.2 ≠ {}) }

end Sys2Proof.Machine
end

