-- ==== Sys2Proof/Machine/Sched.lean ====
section
/-!
DEFINITION. Egress scheduling (08 R210–R223): the pick of each egress port with its gates, the timing wheel, the shapers'
refill, gate lists, and the scheduler's commands and registers. Egress ports are numbered 0–31 worker, 32–35 host, 36–43
tributary.
-/

namespace Sys2Proof.Machine

/-! ## Gates (R216–R219) -/

def State.gate (s : State) (p : Nat) : Gate := SMap.get {} s.gates p
def State.setGate (p : Nat) (v : Gate) (s : State) : State := { s with gates := SMap.set {} s.gates p v }

/-- A list's base and cycle in units of its timebase (12 Table 12.1). -/
def GateList.base (g : GateList) : Nat := g.baseSec * secUnits + g.baseNs * nsUnits
def GateList.cycle (g : GateList) : Nat := g.cycleNs * nsUnits

/-- The entry in force at an offset into the cycle: its number, its gates and the units left of it. -/
def entryAt : List (Nat × Nat) → Nat → Nat → Nat × Nat × Nat
  | [], k, _ => (k, 0xFF, 0)
  | (gates, dur) :: es, k, off =>
    if off < dur * nsUnits then (k, gates, dur * nsUnits - off) else entryAt es (k + 1) (off - dur * nsUnits)

/-- The offset into the cycle at a value of the timebase. -/
def GateList.offset (g : GateList) (v : Nat) : Nat := (((v : Int) - g.base) % (g.cycle : Int)).toNat

/-- The current entry of a port's operating list: its number, its gates and the units left of it; every gate is open
without a list (R216). -/
def gateNow (p : Nat) (s : State) : Nat × Nat × Nat :=
  match (s.gate p).oper with
  | none => (0, 0xFF, 0)
  | some g => entryAt g.entries 0 (g.offset (tbNow g.timebase s))

/-- The last value of a list's timebase in the clock of an instant: what happens in one clock happens before a frame starts in it
(R218). -/
def GateList.clockEnd (g : GateList) (ps : Nat) (s : State) : Nat := (s.timebase g.timebase).at_ (ps + 800) - 1

/-- The list that operates on a port at the end of the clock of an instant: a pending one from its start on (R217, R218). -/
def operAt (p ps : Nat) (s : State) : Option GateList :=
  let x := s.gate p
  match x.pending with
  | some g => if x.startAt ≤ g.clockEnd ps s then (if g.entries.isEmpty then none else some g) else x.oper
  | none => x.oper

/-- The units for which a gate stays open over the entries that follow; none where no entry of a whole cycle closes it. -/
def openRun (bitNo : Nat) : List (Nat × Nat) → Option Nat
  | [] => none
  | (gates, dur) :: es => if bit gates bitNo then (openRun bitNo es).map (· + dur * nsUnits) else some 0

/-- The windows of a gate in a list, ns each, from an entry at which it is closed on. -/
def windowsFrom (bitNo : Nat) : List (Nat × Nat) → Nat → List Nat
  | [], acc => [acc]
  | (gates, dur) :: es, acc => if bit gates bitNo then windowsFrom bitNo es (acc + dur) else acc :: windowsFrom bitNo es 0

/-- A list's entries from entry k on, once around. -/
def rotate (k : Nat) (es : List (Nat × Nat)) : List (Nat × Nat) := es.drop k ++ es.take k

/-- The longest window of a gate in ns; none where the gate never closes (R219). -/
def longestWindow (bitNo : Nat) (g : GateList) : Option Nat :=
  match g.entries.findIdx? (fun e => !bit e.1 bitNo) with
  | none => none
  | some k => some ((windowsFrom bitNo (rotate k g.entries) 0).foldl max 0)

/-- Does a transmission of this length that starts at an instant fit the window of its gate (R218, R219)? -/
def gateFits (p bitNo ps start : Nat) (s : State) : Bool :=
  match operAt p start s with
  | none => true
  | some g =>
    let v := g.clockEnd start s
    let (k, gates, left) := entryAt g.entries 0 (g.offset v)
    bit gates bitNo && (match openRun bitNo (rotate (k + 1) g.entries) with
      | none => true
      | some more => decide (start + ps ≤ (s.timebase g.timebase).instantOf start (v + left + more)))

/-- A transmission longer than every window of its gate; a gate without a window holds its frames (R219). -/
def gateTooLong (p bitNo ps start : Nat) (s : State) : Bool :=
  match operAt p start s with
  | none => false
  | some g =>
    match longestWindow bitNo g with
    | none => false
    | some w => decide (0 < w) && decide (w * 1000 < ps)

/-! ## Egress ports (R210, R212, Table 8.1) -/

/-- The first queue of an egress port and their number. -/
def portQueues (p : Nat) : Nat × Nat :=
  if p < 32 then (8192 + 64 * p, 64) else if p < 36 then (10240 + 256 * (p - 32), 256) else (11264 + 128 * (p - 36), 128)

/-- The number of an egress port in the bandwidth numbering (18 R410). -/
def bwEgress (p : Nat) : Nat := if p < 32 then 56 + p else if p < 36 then 52 + (p - 32) else 88 + (p - 36)

/-- MODE of a host port as MAC_STATUS reads it: 3 absent while port 0 is in MODE 2 (09 R239). -/
def macMode (h : Nat) (s : State) : Nat := if h ≠ 0 ∧ (s.mac 0).cfg.mode = 2 then 3 else (s.mac h).cfg.mode


/-- Can an egress port transmit: its lane carries traffic, its worker is in W4, its MAC has link, its tributary port is in
service (R210, 09 R233, 10 R274)? A standby has no worker in W4: its LOCKED lanes count (15 R362, log 41). -/
def portUp (p : Nat) (s : State) : Bool :=
  if quiesceNow s then false
  else if p < 32 then
    let locked := decide ((s.lane p).state = .locked) && !(s.lane p).txIdle && (s.lane p).eidleAt.isNone && !(s.lane p).prbs
    if s.dev.role = 2 then decide (p = 0) && locked && s.role.delay.isSome && decide (s.role.version ≠ 0)
    else locked && decide (s.dev.role = 1) && (decide ((s.worker p).state = 4) || pairStandby s)
  else if p < 36 then
    let m := macMode (p - 32) s
    (decide (m = 1) || decide (m = 2)) && ((s.mac (p - 32)).link || pairStandby s)
  else (s.trib (p - 36)).enable && decide ((s.lane (p - 12)).state = .legacy)

/-- The time of one byte on a host port, ps. -/
def macBytePs (h : Nat) (s : State) : Nat := if macMode h s = 2 then 20 else 80

/-- The transmission time of a frame on its port, ps: R219 on a host port, where a short frame counts as 60 bytes (09 R244); R255 on a
worker port; the manual gives a tributary port none. -/
def txPs (p n : Nat) (s : State) : Nat :=
  if p < 32 then framePs p n (linkProtected p s) s
  else if p < 36 then (max 60 n + 24) * macBytePs (p - 32) s
  else 0

/-- The time for which a frame holds its port: under link protection a worker port is paced to RESERVE (13 R325). -/
def holdPs (p n : Nat) (s : State) : Nat :=
  if p < 32 ∧ linkProtected p s = true then max (txPs p n s) (bitsPs (max 1 (reserveKbps (linkOf p s) s)) (8 * n)) else txPs p n s

/-- The instant at which the first byte of a frame that is picked now would start on the line: on a host port when the transmit buffer has
its TX_THRESHOLD bytes, `fill` later, and the preamble has gone (09 R244, R245). -/
def firstByte (p fill : Nat) (s : State) : Nat :=
  s.clk.nowPs + (if 32 ≤ p ∧ p < 36 then fill + 8 * macBytePs (p - 32) s else 0)

/-- The gate fit of a queue's head frame on its port. Worker and host ports are gated. -/
def headFits (p q fill : Nat) (s : State) : Bool :=
  decide (36 ≤ p) || gateFits p (s.queue q).priority (txPs p (headLen q s) s) (firstByte p fill s) s

/-- The head frame of a queue fits no window of its gate (R219). -/
def headTooLong (p q fill : Nat) (s : State) : Bool :=
  gateTooLong p (s.queue q).priority (txPs p (headLen q s) s) (firstByte p fill s) s

/-- The non-empty queues of a port, ascending. -/
def portBusy (p : Nat) (s : State) : List Nat :=
  let (a, n) := portQueues p
  (s.queues.filter (fun e => decide (a ≤ e.1 ∧ e.1 < a + n) && !e.2.frames.isEmpty)).map (·.1)

/-- Discard the head frames that fit no window of their gate (R219). -/
def dropOversize (p fill : Nat) : Nat → State → State
  | 0, s => s
  | n + 1, s =>
    match (portBusy p s).find? (fun q => headTooLong p q fill s) with
    | none => s
    | some q =>
      let x := s.queue q
      let fs := x.frames.drop 1
      dropOversize p fill n (count .gateOversize p (s.setQueue q { x with frames := fs, deficit := if fs.isEmpty then 0 else x.deficit }))

/-- Frames of a port's queues: a bound on the head frames to discard. -/
def portFrames (p : Nat) (s : State) : Nat := ((portBusy p s).map (fun q => (s.queue q).frames.length)).sum

/-! ## Host transmission (09 R244, R245; 12 R315) -/

/-- A frame that a host port has sent to its end is counted, and the PTP_TX it belongs to completes with its timestamp. -/
def macSettle (h : Nat) (s : State) : State :=
  let m := s.mac h
  match m.sending with
  | none => s
  | some _ =>
    if s.clk.nowPs < SMap.get 0 s.egressFree (32 + h) then s
    else
      let s := count .macTxFrames h (s.setMac h { m with sending := none, sendCmd := none })
      match m.sendCmd with
      | none => s
      | some (seq, stamp) =>
        let s := count .ptpTxFrames h s
        match s.cmd.executing.find? (fun c => decide (c.seq = seq)) with
        | some c => complete c .ok 0 (timeValue stamp) s
        | none => s

/-- All host ports. -/
def settleMacs (s : State) : State := (List.range 4).foldl (fun s h => macSettle h s) s

/-- The instant from which a port is free: in the worker role, tunnelled frames and event frames go before queued traffic (10 R275). -/
def portFree (p : Nat) (s : State) : Nat :=
  max (SMap.get 0 s.egressFree p) (if s.dev.role = 2 ∧ p = 0 then s.role.busyPs else 0)

/-- A port is taken for a time. -/
def occupy (p ps : Nat) (s : State) : State := { s with egressFree := SMap.set 0 s.egressFree p (s.clk.nowPs + ps) }

/-- A frame as the MAC sends it: padded with zero bytes to 60 (09 R244). -/
def Frame.padded (f : Frame) : Bytes := f.data ++ zeros (60 - f.data.length)

/-- The bytes on a host port's line: preamble, start delimiter, frame, FCS (09 R244). -/
def macLine (p : Bytes) : Bytes := List.replicate 7 0x55 ++ [0xD5] ++ p ++ le 4 (crc32 p).toNat

/-- Begin a host transmission, of which a standby's MAC sends nothing but idle (15 R362): its preamble starts when the transmit buffer is filled, `fill` from now (09 R245). -/
def hostSend (h fill : Nat) (f : Frame) (cmd : Option (Nat × Nat)) (s : State) : State :=
  let s := s.setMac h { s.mac h with sending := some f, sendCmd := cmd }
  (if pairStandby s then id else emit (.line h (macLine f.padded))) (bwCount (52 + h) f.len (occupy (32 + h) (fill + txPs (32 + h) f.len s) s))

/-! ## The pick (R211, R212) -/

/-- A picked frame leaves at its port. On a standby it is transmitted dry and goes into the replay hold (15 R362, R363). -/
def sendAt (p q fill : Nat) (f : Frame) (s : State) : State :=
  let s := noteActivity s
  if pairStandby s then
    holdFrame { queue := q, frame := f, atPs := s.clk.nowPs, tick := ownTick s } (occupy p (holdPs p f.len s) s)
  else if p < 32 then
    match sendOnLane p { sub := if 2 ≤ laneVersion p s then f.tag else 0, data := f.data } s with
    | (true, u) => bwCount (bwEgress p) f.len (occupy p (holdPs p f.len s) u)
    | (false, u) => u
  else if p < 36 then hostSend (p - 32) fill f none s
  else
    let t := p - 36
    emit (.frame (40 + t) f) (bwCount (bwEgress p) f.len (s.modTrib t (fun x => { x with rx := x.rx ++ [f] })))

/-- The waiting PTP_TX of a host port goes ahead of every queue, without gates (12 R315). -/
def sendPtp (p fill : Nat) (s : State) : Option State :=
  if p < 32 ∨ 36 ≤ p then none
  else
    let h := p - 32
    match (s.ptpOf h).waiting with
    | [] => none
    | (seq, data) :: rest =>
      let x := s.ptpOf h
      let sfd := s.clk.nowPs + fill + 7 * macBytePs h s
      some (hostSend h fill { data } (some (seq, (s.timebase x.timebase).at_ sfd)) (s.setPtp h { x with waiting := rest }))

/-- At SWITCH the active starts no further egress frame (15 R369). -/
def pairHalts (s : State) : Bool :=
  pairActive s && (match s.pair.switch with | some w => decide (w.atPs ≤ s.clk.nowPs) | none => false)

/-- A worker in the worker role sends no traffic frame between the first block of a pull and its PULL_DONE (10 R267); the
serving of a pull is one row, so nothing stands between. EGRESS_PICK (R211, R212): the port takes one frame; `fill` is the time that a host
port's transmit buffer takes to hold what its transmission starts with (09 R245). -/
def execEgressPick (p fill : Nat) (s : State) : State :=
  if !portUp p s || schedTested s then s
  else
    let s1 := advanceTo (portFree p s) s
    let s1 := if 32 ≤ p ∧ p < 36 then macSettle (p - 32) s1 else s1
    if pairHalts s1 || quiesceNow s1 then s else
    match sendPtp p fill s1 with
    | some s2 => s2
    | none =>
      let s1 := dropOversize p fill (portFrames p s1) s1
      match pick (1024 + p) ((portBusy p s1).filter (fun q => eligible q s1 && headFits p q fill s1)) s1 with
      | (some q, s2) =>
        match dequeue q s2 with
        | (some f, s2) => sendAt p q fill f s2
        | (none, s2) => s2
      | (none, s2) => s2

/-! ## The timing wheel and the refill (R213–R215) -/

/-- SHAPER_WHEEL_SLOT (R213): the slot's instant comes; the shaper is eligible, or is entered again beyond the horizon. -/
def execShaperWheelSlot (n : Nat) (s : State) : State :=
  match (s.shaper n).wheel with
  | none => s
  | some slot =>
    let s := advanceTo slot s
    s.setShaper n (Shaper.onWheel s.clk.nowPs ((s.shaper n).fold s.clk.nowPs))

/-- The SHAPER_CONFIG settings that this tick's refill applies: those accepted before the start of S2 (R214). -/
def dueSettings (sh : Shaper) (s2Ps : Nat) : List (Nat × ShCfg) × List (Nat × ShCfg) :=
  sh.next.partition (fun e => decide (e.1 < s2Ps))

/-- Refill one shaper: fold, cap, apply, and recompute its wheel entry (R214). -/
def refillShaper (n : Nat) (s : State) : State :=
  let sh := (s.shaper n).fold s.clk.nowPs
  let (due, later) := dueSettings sh (s.clk.t0Ps + 15625000)
  let cfg := match due.getLast? with | some e => e.2 | none => sh.cfg
  let sh := { sh with cfg, next := later, credit := min sh.credit (cfg.burst * creditUnit) }
  s.setShaper n (Shaper.onWheel s.clk.nowPs sh)

/-- The first k SHAPER_CONFIG commands that wait for a shaper's refill complete. -/
def shaperCommands (n k : Nat) (s : State) : State :=
  ((s.cmd.executing.filter (fun c => decide (c.op = 0x0502) && c.started && decide (u16 c.req.body 0 = n))).take k).foldl
    (fun s c => complete c .ok 0 [] s) s

/-- SHAPER_REFILL, item 5 of Table 1.8 (R214): every shaper is refilled, shaper fields of queues apply, and the commands
complete. -/
def execShaperRefill (s : State) : State :=
  itemRow 5 (fun s =>
    let s2 := s.clk.t0Ps + 15625000
    let applied := s.shapers.map (fun e => (e.1, (dueSettings e.2 s2).1.length))
    let s := (s.shapers.map (·.1)).foldl (fun s n => refillShaper n s) s
    let qs := s.queues.map (fun e =>
      (e.1, match e.2.nextShapers with | some x => { e.2 with shapers := x, nextShapers := none } | none => e.2))
    let s : State := { s with queues := qs.filter (fun e => e.2 ≠ {}) }
    applied.foldl (fun s e => shaperCommands e.1 e.2 s) s) s

/-! ## Gate lists (R217) -/

/-- GATE_ENTRY_BOUNDARY (R218): the instant of the next entry boundary of a port's operating list. -/
def execGateEntryBoundary (p : Nat) (s : State) : State :=
  match (s.gate p).oper with
  | none => s
  | some g =>
    let (_, _, left) := gateNow p s
    advanceTo ((s.timebase g.timebase).instantOf s.clk.nowPs (tbNow g.timebase s + left)) s

/-- The start of a list dispatched now: the first BASE + k × CYCLE not earlier; for a list without entries BASE, or now
where BASE is earlier (R217). -/
def gateStart (g : GateList) (now : Nat) : Nat :=
  if now ≤ g.base then g.base
  else if g.entries.isEmpty then now
  else g.base + (now - g.base + g.cycle - 1) / g.cycle * g.cycle

/-- The pending list of a port becomes operating, and GATE_LIST completes with the instant (R217). -/
def startGates (p : Nat) (s : State) : State :=
  match (s.gate p).pending with
  | none => s
  | some g =>
    let v := (s.gate p).startAt
    let s := s.setGate p { oper := if g.entries.isEmpty then none else some g }
    match s.cmd.executing.find? (fun c => decide (c.op = 0x0505) && c.started && decide (u8 c.req.body 0 = p)) with
    | some c => complete c .ok 0 (le 8 (v / secUnits) ++ le 4 (v / nsUnits % 1000000000) ++ le 4 s.clk.tick.toNat) s
    | none => s

/-- GATE_LIST_START (R217): the start instant of a port's pending list comes. -/
def execGateListStart (p : Nat) (s : State) : State :=
  match (s.gate p).pending with
  | none => s
  | some g => startGates p (advanceTo ((s.timebase g.timebase).instantOf s.clk.nowPs (s.gate p).startAt) s)

/-! ## Commands (R221–R223) -/

/-- The QUEUE_CONFIG parameters of a payload, and a queue's settings as one. -/
def qShapersOf (p : Bytes) : QShapers := { aEn := bit (u8 p 4) 0, bEn := bit (u8 p 4) 1, a := u16 p 6, b := u16 p 8 }

def queueBlock (q : Nat) (x : Queue) : Bytes :=
  let drained := decide (12288 ≤ q ∧ q < 12296)
  let lim := fun (n : Nat) => le 4 (if drained then 0 else n)
  le 2 q ++ le 1 (if drained then 0 else x.priority) ++ le 1 x.weight ++ le 1 (b2n x.shapers.aEn + 2 * b2n x.shapers.bEn) ++
    zeros 1 ++ le 2 x.shapers.a ++ le 2 x.shapers.b ++ zeros 2 ++ lim x.maxBytes ++ lim x.yellow ++ lim x.red

def badQueueConfig (p : Bytes) : Bool :=
  decide (16383 < u16 p 0) || decide (12288 ≤ u16 p 0 ∧ u16 p 0 < 12296) || decide (7 < u8 p 2) || decide (u8 p 3 = 0) ||
    decide (3 < u8 p 4) || decide (u8 p 5 ≠ 0) || decide (u16 p 10 ≠ 0) || decide (50331648 < u32 p 12) ||
    decide (u32 p 12 < u32 p 16) || decide (u32 p 16 < u32 p 20) || (bit (u8 p 4) 1 && decide (u16 p 6 = u16 p 8))

def specQueueConfig : CmdSpec := { op := 0x0500, check := params 24 (fun q _ => badQueueConfig q.body) }

/-- QUEUE_CONFIG (R222). -/
def effQueueConfig (c : Cmd) (s : State) : Res :=
  let p := c.req.body
  let x := s.queue (u16 p 0)
  .ok [] (s.setQueue (u16 p 0) { x with priority := u8 p 2, weight := u8 p 3, maxBytes := u32 p 12, yellow := u32 p 16,
                                        red := u32 p 20, nextShapers := some (qShapersOf p) })

def execQueueConfig (q : CmdReq) (s : State) : State := runCmd specQueueConfig effQueueConfig q s

def specQueueQuery : CmdSpec :=
  { op := 0x0501, check := params 4 (fun q _ => decide (16383 < u16 q.body 0) || decide (u16 q.body 2 ≠ 0)), reads := true }

def effQueueQuery (c : Cmd) (s : State) : Res :=
  let q := u16 c.req.body 0
  let x := s.queue q
  .ok (queueBlock q x ++ le 4 x.bytes ++ le 4 x.frames.length) s

def execQueueQuery (q : CmdReq) (s : State) : State := runCmd specQueueQuery effQueueQuery q s

def specShaperConfig : CmdSpec :=
  { op := 0x0502, check := params 12 (fun q _ =>
      let p := q.body
      decide (1 < u8 p 2) || decide (u8 p 3 ≠ 0) || decide (u32 p 4 < 64) || decide (400000000 < u32 p 4) ||
        decide (16777215 < u32 p 8)) }

/-- SHAPER_CONFIG (R214): applied by the next refill if accepted before S2, an AT_TICK one by the refill of its own tick; it
completes there. -/
def effShaperConfig (c : Cmd) (s : State) : Res :=
  let p := c.req.body
  let x := s.shaper (u16 p 0)
  .later (s.setShaper (u16 p 0) { x with next := x.next ++ [(if c.req.atTick || c.due.isSome then s.clk.t0Ps else s.clk.nowPs, { mode := u8 p 2, rate := u32 p 4, burst := u32 p 8 })] })

def execShaperConfig (q : CmdReq) (s : State) : State := runCmd specShaperConfig effShaperConfig q s

/-- STATE of a shaper: 0 idle, 1 eligible, 2 waiting on the wheel. -/
def shaperState (n : Nat) (s : State) : Nat :=
  if (s.shaper n).wheel.isSome then 2 else if shaperIdle n s then 0 else 1

/-- Whole bytes of CREDIT. -/
def shaperCredit (n : Nat) (s : State) : Int := (s.shaper n).creditAt s.clk.nowPs / creditUnit

def specShaperQuery : CmdSpec := { op := 0x0503, check := params 4 (fun q _ => decide (u16 q.body 2 ≠ 0)), reads := true }

def effShaperQuery (c : Cmd) (s : State) : Res :=
  let n := u16 c.req.body 0
  let x := s.shaper n
  let (t, ns) := match x.wheel with | some ps => tickOf ps s | none => (0, 0)
  .ok (le 2 n ++ le 1 x.cfg.mode ++ zeros 1 ++ le 4 x.cfg.rate ++ le 4 x.cfg.burst ++ le 4 (unsigned 32 (shaperCredit n s)) ++
    le 1 (shaperState n s) ++ zeros 3 ++ le 4 t.toNat ++ le 4 ns) s

def execShaperQuery (q : CmdReq) (s : State) : State := runCmd specShaperQuery effShaperQuery q s

def specPolicerProfile : CmdSpec :=
  { op := 0x0504, check := params 20 (fun q _ =>
      let p := q.body
      decide (4095 < u16 p 0) || decide (1 < u8 p 2) || decide (u8 p 3 ≠ 0) || decide (u32 p 4 < 64) ||
        decide (u32 p 8 < u32 p 4) || decide (400000000 < u32 p 8) || decide (16777215 < u32 p 12) ||
        decide (16777215 < u32 p 16)) }

/-- POLICER_PROFILE (R208). -/
def effPolicerProfile (c : Cmd) (s : State) : Res :=
  let p := c.req.body
  let v : Policer := { aware := bit (u8 p 2) 0, cir := u32 p 4, pir := u32 p 8, cbs := u32 p 12, pbs := u32 p 16 }
  .ok [] { s with policers := SMap.set {} s.policers (u16 p 0) v }

def execPolicerProfile (q : CmdReq) (s : State) : State := runCmd specPolicerProfile effPolicerProfile q s

/-- The list of a GATE_LIST payload. -/
def gateListOf (p : Bytes) : GateList :=
  { timebase := u8 p 1, baseSec := u48 p 8, baseNs := u32 p 4, cycleNs := u32 p 16
    entries := (List.range (u16 p 2)).map (fun k => (u8 p (24 + 8 * k), u32 p (28 + 8 * k))) }

/-- R216 and the fields' ranges. -/
def badGateList (p : Bytes) : Bool :=
  let g := gateListOf p
  decide (35 < u8 p 0) || decide (7 < g.timebase) || decide (256 < u16 p 2) || decide (1000000000 ≤ g.baseNs) ||
    decide (u16 p 14 ≠ 0) || decide (u32 p 20 ≠ 0) || decide (g.cycleNs ≠ (g.entries.map (·.2)).sum) ||
    decide (1000000000 < g.cycleNs) || g.entries.any (fun e => decide (e.2 = 0) || decide (1000000000 < e.2)) ||
    (List.range (u16 p 2)).any (fun k => decide (u24 p (25 + 8 * k) ≠ 0))

/-- R223: any LENGTH other than 24 + 8 × COUNT is BAD_PARAM. -/
def checkGateList (q : CmdReq) (_ : State) : Option Status :=
  if q.body.length ≠ 24 + 8 * u16 q.body 2 ∨ badGateList q.body = true then some .badParam else none

def specGateList : CmdSpec := { op := 0x0505, check := checkGateList }

/-- GATE_LIST (R217, R223): pending until its start; a list that starts at dispatch starts at once. -/
def effGateList (c : Cmd) (s : State) : Res :=
  let p := u8 c.req.body 0
  let x := s.gate p
  if x.pending.isSome then .fail .busyRetry s
  else
    let g := gateListOf c.req.body
    let now := tbNow g.timebase s
    let v := gateStart g now
    let s := s.setGate p { x with pending := some g, startAt := v }
    if v = now then .later (startGates p s) else .later s

def execGateList (q : CmdReq) (s : State) : State := runCmd specGateList effGateList q s

/-! ## Registers (R220) -/

/-- Q_BYTES_READ (R220): latches Q_FRAMES for its path. -/
def execQBytesRead (p : Path) (s : State) : State :=
  hostRead p 0x40008 (fun s =>
    let x := s.queue s.qSel
    answer p 0x40008 (BitVec.ofNat 32 x.bytes) (s.setLatch p { s.latch p with qFrames := BitVec.ofNat 32 x.frames.length })) s

/-- INKWELL_FREE: KiB free for queues (R209). -/
def inkwellFree (s : State) : Nat := min 65535 ((Config.inkwellRoom - inkwellUsed s) / 1024)

/-- The scheduler registers that no read changes, at offsets from 0x0004_0000. -/
def readSched (p : Path) (off : Nat) (s : State) : Option Nat :=
  if off = 0 then some (inkwellFree s)
  else if off = 4 then some s.qSel
  else if off = 0xC then some (s.latch p).qFrames.toNat
  else if off = 0x10 then some s.shSel
  else if off = 0x14 then some (shaperState s.shSel s * 2 ^ 30 + unsigned 25 (shaperCredit s.shSel s))
  else if 0x100 ≤ off ∧ off < 0x190 then
    let g := s.gate ((off - 0x100) / 4)
    let (k, gates, _) := gateNow ((off - 0x100) / 4) s
    some (b2n g.pending.isSome * 2 ^ 31 + b2n g.oper.isSome * 2 ^ 30 + k * 256 + gates)
  else none

end Sys2Proof.Machine
end

