-- ==== Sys2Proof/Machine/WorkerOps.lean ====
section
/-!
DEFINITION. What the manager does with a worker (10 R257–R281): states with their cleanup, ranging results, the HELLO and
TICK blocks, pull windows, and charged errors. Records 32–35 of the workers hold the ranging of the mirror lanes (15 R357).
-/

namespace Sys2Proof.Machine

/-! ## Pull windows (R268–R271) -/

/-- The burst and allocation that a pull feeds. -/
def pullAlloc (p : Pull) (s : State) : Option (Entry × Alloc) :=
  (s.inst p.inst).sched.findSome? (fun e =>
    (e.allocs.find? (fun a => decide (a.gid = some p.gid) && decide (a.ctx = p.ctx))).map (fun a => (e, a)))

/-- The rest of an allocation whose pull has begun is filled by the Nib (R268, 05 R133). -/
def fillRest (p : Pull) (s : State) : State :=
  match (if p.begun then pullAlloc p s else none) with
  | some (e, a) => if e.prepared && !a.filled then nibFill p.inst e a (a.payload - p.used) s else s
  | none => s

/-- An open pull of a worker. -/
def findPull (w gid : Nat) (s : State) : Option Pull := (s.worker w).pulls.find? (fun p => decide (p.gid = gid))

/-- A pull's window closes. -/
def closePull (w : Nat) (p : Pull) (s : State) : State :=
  fillRest p (s.modWorker w (fun x => { x with pulls := x.pulls.filter (fun q => q.gid ≠ p.gid) }))

/-- A pull's window is revoked (01 R19, Table 1.4; 18 R403). -/
def revokePull (w : Nat) (p : Pull) (s : State) : State := raise .holdRevoked 2 w p.gid (closePull w p s)

/-- Withdraw every open pull of a worker (R271). -/
def withdrawAll (w : Nat) (s : State) : State :=
  (s.worker w).pulls.foldl (fun s p => fillRest p (withdrawPull w p.gid s)) s

/-! ## States (R258, R259, Table 10.3) -/

/-- A WORKER_IMAGE to a worker ends with a status (19 R428). -/
def endImage (w : Nat) (st : Status) (s : State) : State :=
  match SMap.get none s.boot.images w with
  | none => s
  | some r =>
    let s : State := endFetch r.cmd { s with boot := { s.boot with images := SMap.set none s.boot.images w none } }
    match s.cmd.executing.find? (fun c => decide (c.seq = r.cmd)) with
    | some c => complete c st 0 (if st = .ok then le 4 (ticksSince r.startTick s) else []) s
    | none => s

/-- A change of a worker's state with its event; an image under way to a worker that leaves W1 has failed. -/
def setWorkerState (w st : Nat) (s : State) : State :=
  let old := (s.worker w).state
  if old = st then s
  else
    let s := if old = 1 then endImage w .peerAbsent s else s
    raise .workerStateChange 2 w (old + 256 * st) (s.modWorker w (fun x => { x with state := st }))

/-- Start ranging (R260). -/
def startRanging (w : Nat) (again : Bool) (s : State) : State :=
  s.modWorker w (fun x => { x with ranging := true, rtts := [], asked := [], rangeNextPs := s.clk.nowPs, backoff := none
                                   rerange := again, asymNow := x.cfg.asym, maxDelayNow := x.cfg.maxDelay })

/-- Does a worker in W2–W5 other than w have its SLOT_ID and have entered W2 in an earlier clock, or in the same one on a lower lane
(R259)? -/
def dupOf (w : Nat) (s : State) : Bool :=
  let x := s.worker w
  (List.range 32).any (fun v => decide (v ≠ w) && (let y := s.worker v
    decide (2 ≤ y.state) && decide (y.slotId = x.slotId) &&
      (decide (y.w2Clock < x.w2Clock) || (decide (y.w2Clock = x.w2Clock) && decide (v < w)))))

/-- Check the held workers again after one has left W2–W5 (R259); one in W2 is ranged now. -/
def recheckHeld (s : State) : State :=
  (List.range 32).foldl (fun s w =>
    if (s.worker w).dupHeld && !dupOf w s then
      let s := s.modWorker w (fun x => { x with dupHeld := false })
      if (s.worker w).state = 2 then startRanging w false s else s
    else s) s

/-- Hold the workers in W2 whose SLOT_ID one that entered before them has (R259): their ranging ends. -/
def holdDups (s : State) : State :=
  (List.range 32).foldl (fun s w =>
    if (s.worker w).state = 2 && !(s.worker w).dupHeld && dupOf w s then
      raise .workerDupId 2 w 0 (s.modWorker w (fun x => { x with dupHeld := true, ranging := false, rtts := [], asked := [], backoff := none }))
    else s) s

/-- Complete the outstanding tunnelled commands with PEER_ABSENT (R280, R284). -/
def failTunnel (w : Nat) (s : State) : State :=
  let cmds := s.cmd.executing.filter (fun c => (s.worker w).tunnel.contains c.seq)
  cmds.foldl (fun s c => complete c .peerAbsent 0 [] s) (s.modWorker w (fun x => { x with tunnel := [] }))

/-- A command that waits on a worker completes. -/
def failWaiting (op w : Nat) (st : Status) (s : State) : State := completeRunningAt op w st [] s

/-- The cleanup of R280: pulls withdrawn, MAP values 0, WORKER_CMDs completed. A rerange and a release under way end: they
cannot get a result any more (log 42). -/
def workerCleanup (w : Nat) (s : State) : State :=
  let s := withdrawAll w s
  let s : State := { s with allocs := (s.allocs.map (fun e =>
      (e.1, if e.2.cfg.feed = 1 ∧ e.2.cfg.worker = w then { e.2 with mapBytes := 0 } else e.2))).filter (fun e => e.2 ≠ {}) }
  let s := failTunnel w (s.modWorker w (fun x => { x with leaving := false, leaveSent := false, slewTo := none }))
  let s := if (s.worker w).rerange then failWaiting 0x0613 w .busyRetry (s.modWorker w (fun x => { x with rerange := false, ranging := false })) else s
  failWaiting 0x0614 w .ok s

/-- What identification and ranging learned is forgotten. -/
def Worker.forget (x : Worker) : Worker :=
  { x with version := 0, slotId := 0, following := false, linkProt := false, helloSeen := false, ackSeen := false
           dupHeld := false, leadNs := 0, credit := 0, delay := 0, aligned := false, ranging := false, rtts := []
           asked := [], backoff := none, rerange := false, slewTo := none }

/-- Enter W1 to identify (again). -/
def workerToW1 (w : Nat) (s : State) : State :=
  let s := setWorkerState w 1 (workerCleanup w s)
  recheckHeld { s.modWorker w Worker.forget with helloAt := SMap.set 0 s.helloAt w 0 }

/-- Enter W0: the lane has left LOCKED. -/
def workerToW0 (w : Nat) (s : State) : State :=
  let s := setWorkerState w 0 (workerCleanup w s)
  recheckHeld (s.modWorker w (fun x => { x.forget with w0Tick := some (ownTick s), flushed := false }))

/-- Enter W5: quarantined (R274). Its open pulls are revoked, its ranging ends. -/
def workerToW5 (w : Nat) (s : State) : State :=
  let s := (s.worker w).pulls.foldl (fun s p => raise .holdRevoked 2 w p.gid s) s
  let s := setWorkerState w 5 (workerCleanup w s)
  s.modWorker w (fun x => { x with ranging := false, rtts := [], asked := [], backoff := none })

/-- The pulls of a worker whose windows have opened are revoked (R268, R269). -/
def revokeOpen (w : Nat) (s : State) : State :=
  ((s.worker w).pulls.filter (fun p => p.begun || decide (p.atPs + delayPs w s ≤ s.clk.nowPs + 24000))).foldl (fun s p => revokePull w p s) s

/-- Charge an error to a worker: its pull windows are revoked (R269, 01 Table 1.4), and it is quarantined where its budget is exceeded
(R274). -/
def workerError (w : Nat) (s : State) : State :=
  let (passed, s) := chargeWorker w (revokeOpen w s)
  if passed && decide (2 ≤ (s.worker w).state ∧ (s.worker w).state ≤ 4) then workerToW5 w s else s

/-! ## The lane (Table 10.3, R278–R280) -/

/-- What a worker-role device knows of its manager goes with the lane; its tick follows no more (01 Table 1.7), and the leases
that tunnelled commands took are revoked (06 R159). -/
def roleLost (s : State) : State :=
  let s := revokeOwner 2 (followLost s)
  { s with role := { helloSeen := false } }

/-- A worker or manager lane enters LOCKED. -/
def workerLocked (w : Nat) (s : State) : State :=
  if s.dev.role = 1 ∧ w < 32 ∧ (s.worker w).state = 0 then workerToW1 w s
  else if s.dev.role = 2 ∧ w = 0 then { s with helloAt := SMap.set 0 s.helloAt 0 0 }
  else s

/-- A worker or manager lane leaves LOCKED. -/
def workerUnlocked (w : Nat) (s : State) : State :=
  if s.dev.role = 1 ∧ 1 ≤ (s.worker w).state ∧ (s.worker w).state ≤ 4 then workerToW0 w s
  else if s.dev.role = 2 ∧ w = 0 then roleLost s
  else s

/-! ## Blocks sent (Table 10.1) -/

/-- LINK_PROT of the own HELLO: LINK_PROTECT on the manager's side; a worker offers protection when it holds bindings of the
manager link in both directions (log 43). -/
def ownLinkProt (lane : Nat) (s : State) : Bool :=
  if s.dev.role = 2 then (linkBind 32 0 0 s).isSome && (linkBind 32 1 0 s).isSome else (s.worker lane).cfg.linkProtect

/-- A HELLO has been received on a lane. -/
def helloHeard (lane : Nat) (s : State) : Bool :=
  if 32 ≤ lane then decide (s.pair.helloPs ≠ 0) else if s.dev.role = 2 then s.role.helloSeen else (s.worker lane).helloSeen

/-- BODY of HELLO. -/
def helloBody (lane : Nat) (s : State) : Nat :=
  let worker := decide (s.dev.role = 2 ∧ lane < 32)
  (if s.dev.quill = 3 then 7 else 0) + b2n (helloHeard lane s) * 2 ^ 8 + b2n (decide (s.clk.state = .following)) * 2 ^ 9 + b2n (ownLinkProt lane s) * 2 ^ 10 +
    b2n (decide ((s.lane lane).rate ≤ 3)) * 2 ^ 11 + (if worker then 2 else 1) * 2 ^ 12 + s.dev.slotId.toNat * 2 ^ 16 +
    (if worker then Config.pullLeadNs.toNat else 0) * 2 ^ 40

/-- Is a Mapiyn lane in use: worker lanes of a manager, lane 0 of a worker, mirror lanes (R251, 15 R357)? -/
def mapiynLane (lane : Nat) (s : State) : Bool :=
  decide ((s.lane lane).state = .locked) &&
    (decide (32 ≤ lane) || decide (s.dev.role = 1) || (decide (s.dev.role = 2) && decide (lane = 0)))

/-- The time from one HELLO to the next on a lane, ps: 1 µs while identifying, 64 µs after (R257). -/
def helloPeriod (lane : Nat) (s : State) : Nat :=
  let identifying := decide (s.dev.quill ≠ 3) || if 32 ≤ lane then !s.pair.helloAck
    else if s.dev.role = 2 then !s.role.ackSeen else decide ((s.worker lane).state ≤ 1)
  if identifying then 1000000 else 64000000

/-- BODY of TICK: TX_OFFSET is the wait for the first block position at or after T0, which the manual leaves to the lane's
phase: a free value (R262). -/
def sendTick (lane : Nat) (s : State) : State :=
  let (off, s) := takeFree 16 s
  let hold := decide (s.clk.state = .free) || decide (s.clk.state = .holdover)
  sendBlock lane 0x55 (s.clk.tick.toNat + off * 2 ^ 32 + b2n hold * 2 ^ 48) s

/-- TIME_S and TIME_N: TB0 at T0 of this tick (R263). -/
def sendTime (lane : Nat) (s : State) : State :=
  let v := (s.timebase 0).at_ s.clk.t0Ps
  let tag := s.clk.tick.toNat % 256
  sendBlock lane 0x57 (tag + v / nsUnits % 1000000000 * 2 ^ 8 + v % nsUnits * 2 ^ 38)
    (sendBlock lane 0x56 (tag + v / secUnits * 2 ^ 8) s)

/-- Work bound to T0 on the lanes (01 Table 1.9): TICK to every worker in W1–W5 and to the standby, then TIME_S and TIME_N in
every eighth tick to those of versions 2 and 3. -/
def tickBlocks (s : State) : State :=
  let eighth := decide (s.clk.tick.toNat % 8 = 0)
  let s := if s.dev.role = 1 then
      (List.range 32).foldl (fun s w =>
        if 1 ≤ (s.worker w).state && decide ((s.lane w).state = .locked) then
          let s := sendTick w s
          if eighth && decide (2 ≤ (s.worker w).version) then sendTime w s else s
        else s) s
    else s
  match (if pairActive s then mirrorLane s else none) with
  | some n => (let s := sendTick n s; if eighth then sendTime n s else s)
  | none => s

/-! ## Ranging results (R260, R261, R264) -/

/-- The one-way delay of eight round trips in 1/16 ns, rounded, before ASYM (R260). -/
def meanDelay (rtts : List Int) : Int := (rtts.sum + 1000) / 2000

/-- The spread of the round trips, 0.5 ps. -/
def rttSpread (rtts : List Int) : Int := rtts.foldl max (rtts.headD 0) - rtts.foldl min (rtts.headD 0)

/-- A ranging has its result: D in 1/16 ns within bounds, or out of bounds (none). -/
def rangingResult (w : Nat) (d : Option Nat) (s : State) : State :=
  let x := s.worker w
  let s := s.modWorker w (fun x => { x with ranging := false, rtts := [], asked := [], rerange := false })
  match d with
  | some d =>
    let s := s.modWorker w (fun x => { x with alignDelay := d, retries := 0, backoff := none })
    let s := if x.rerange then completeRunningAt 0x0613 w .ok [] s
      else if w < 32 then setWorkerState w 3 (s.modWorker w (fun x => { x with aligned := false })) else s
    sendBlock w 0x4D d s
  | none =>
    let s := if w < 32 then count .rangeRetry w s else s
    if x.rerange then
      match runningAt 0x0613 w s with
      | some c => complete c .ok 1 [] s
      | none => s
    else
      let k := x.retries + 1
      s.modWorker w (fun x => { x with retries := min 255 k, backoff := some (ownTick s, min 8192 (64 * 2 ^ (min k 8 - 1))) })

/-- The delay in force moves towards a new one at each tick edge, as the worker's tick does (R264, 01 R25): 8 ns a tick. -/
def slewDelays (s : State) : State :=
  (List.range 36).foldl (fun s w =>
    match (s.worker w).slewTo with
    | none => s
    | some d =>
      let cur := (s.worker w).delay
      let next := if cur + 128 < d then cur + 128 else if d + 128 < cur then cur - 128 else d
      s.modWorker w (fun x => { x with delay := next, slewTo := if next = d then none else some d })) s

/-- WORKER_CONFIG fields that wait for the tick edge (R283). -/
def applyWorkerConfigs (s : State) : State :=
  (List.range 32).foldl (fun s w =>
    match (s.worker w).cfgNext with
    | some c => s.modWorker w (fun x => { x with cfg := c, cfgNext := none })
    | none => s) s

end Sys2Proof.Machine
end

