-- ==== Sys2Proof/Machine/Pair.lean ====
section
/-!
DEFINITION. The protected pair (15): digests and resynchronisation, loans, the ACT interlock, health, switchover, what a
standby takes from the mirror link, and the commands of class 0x0C.
-/

namespace Sys2Proof.Machine

/-! ## Times on the mirror link -/

/-- The instant that a tick number's low three bits and ns since its T0 name: the nearest such tick (Table 15.2). -/
def psOfTag (tag ns : Nat) (s : State) : Nat :=
  let d := signed 3 (tag + 8 - s.clk.tick.toNat % 8)
  ((s.clk.t0Ps : Int) + d * (tickPs : Int) + ns * 1000).toNat

/-- The latest tick number with these low eight bits. -/
def tickOfTag (tag : Nat) (s : State) : Word := s.clk.tick - BitVec.ofNat 32 ((s.clk.tick.toNat + 256 - tag) % 256)

/-! ## Digests (R364) -/

/-- The sum over every flow context of its CRC-64, bytes 12–23 taken as zero (Table 15.3 FLOWS). -/
def flowsSum (s : State) : Nat :=
  let used := (s.tbl.flow.map (fun e => e.1 / 8)).eraseDups
  let crcOf := fun (b : Bytes) => (crc64 (b.take 12 ++ zeros 12 ++ b.drop 24)).toNat
  ((used.map (fun f => crcOf (flowBytes f s))).sum + (1048576 - used.length) * crcOf (zeros 32)) % 2 ^ 64

/-- Frames held in queues 0–12,287. -/
def queuedFrames (s : State) : Nat := ((s.queues.filter (fun e => decide (e.1 < 12288))).map (fun e => e.2.frames.length)).sum

/-- The 64 bytes of the tick summary (Table 15.3), with this tick's CONFIG. -/
def summary (s : State) : Bytes :=
  le 4 s.clk.tick.toNat ++ le 4 (queuedFrames s) ++ le 8 (digest 0 4194304 s) ++ le 8 (flowsSum s) ++
    le 8 s.pair.config.toNat ++ le 4 (ligUsNext s % 2 ^ 20 + s.lig.dsNext % 2 ^ 12 * 2 ^ 20) ++ le 1 s.cls.epoch ++ zeros 27

/-- At T0 of each tick of a pair: CONFIG takes in the frames applied, and the digest of the summary is captured. -/
def captureDigest (s : State) : State :=
  if !s.pair.enable then s
  else
    let s : State := { s with pair := { s.pair with config := crc64 (le 8 s.pair.config.toNat ++ s.pair.applied), applied := [] } }
    { s with pair := { s.pair with digests := ((s.clk.tick, crc64 (summary s)) :: s.pair.digests).take 8 } }

/-- DIGEST_EXCHANGE (R364): under item 11 the digest of this tick is sent in two M_DIGEST blocks. -/
def execDigestExchange (s : State) : State :=
  if !s.pair.enable then s
  else
    let tick := itemTick 11 s
    itemRow 11 (fun s =>
      match s.pair.digests.find? (fun d => decide (d.1 = tick)) with
      | some (t, d) =>
        let body := fun (half : Nat) (w : Nat) => t.toNat % 256 + half * 2 ^ 8 + w * 2 ^ 16
        sendMirror 0x87 (body 1 (d.toNat / 2 ^ 32)) (sendMirror 0x87 (body 0 (d.toNat % 2 ^ 32)) s)
      | none => s) s

/-- A resynchronisation succeeds: STANDBY_IN_STEP (Table 15.6). -/
def resyncDone (s : State) : State :=
  let ticks := ticksSince s.pair.resyncTick s
  let s : State := { s with pair := { s.pair with
    state := 3, attempt := 0, pass := 0, kibLeft := 0, matching := false, matchRun := 0, mismatchRun := 0
    burstSeq := [], launched := [] } }
  completeRunning 0x0C02 .ok 0 (le 4 ticks) (raise .pairInStep 0 0 0 s)

/-- An attempt fails: the next one starts, or after the third the standby has failed (R365). -/
def attemptFailed (s : State) : State :=
  if s.pair.attempt < 3 then
    { s with pair := { s.pair with attempt := s.pair.attempt + 1, pass := 0, kibLeft := 0, matching := false, matchRun := 0
                                   resyncTick := ownTick s } }
  else
    raise .pairResyncFailed 0 0 0 { s with pair := { s.pair with state := 4, matching := false, matchRun := 0 } }

/-- Every instance that the active has in O5 is in O5 here too (R362); whether the channels are the same is an operand of no row
(log 1509). -/
def shadowsInStep (s : State) : Bool := (List.range 4).all (fun i => !s.pair.partnerO5.getLsbD i || (s.inst i).inO5)

/-- Two digests of one tick have been compared (R364, R365). -/
def compared (same : Bool) (s : State) : State :=
  if same then
    let s : State := { s with pair := { s.pair with mismatchRun := 0, matchRun := s.pair.matchRun + 1 } }
    if s.pair.state = 2 && s.pair.matching && decide (8 ≤ s.pair.matchRun) && shadowsInStep s then resyncDone s else s
  else
    let s := count .digestMismatch 0 s
    let s : State := { s with pair := { s.pair with mismatchRun := min 255 (s.pair.mismatchRun + 1), matchRun := 0 } }
    if s.pair.state = 2 && s.pair.matching then attemptFailed s
    else if s.pair.state = 3 && decide (3 ≤ s.pair.mismatchRun) then enterResync (raise .pairDiverged 0 0 0 s)
    else s

/-- M_DIGEST_RX (R364): the second half completes the partner's digest of a tick, which is compared with the own one of that
tick; from a trigger to the switchover nothing is compared. -/
def execMDigestRx (half : Bool) (tag : Nat) (word : Word) (s : State) : State :=
  if !s.pair.enable then s
  else
    let t := tickOfTag tag s
    if !half then { s with pair := { s.pair with low := some (t, word) } }
    else
      match s.pair.low with
      | none => s
      | some (t', lo) =>
        let s : State := { s with pair := { s.pair with low := none } }
        if t' ≠ t then s
        else
          let s : State := { s with pair := { s.pair with
            lastDigestPs := s.clk.t0Ps - (s.clk.tick - t).toNat * tickPs } }
          if s.pair.switch.isSome then s
          else
            match s.pair.digests.find? (fun d => decide (d.1 = t)) with
            | some (_, d) => compared (decide (d = word ++ lo)) s
            | none => s

/-! ## Resynchronisation (R365) -/

/-- The groups that the first pass copies (R365): forwarding table, flow contexts, images, Inkwell, counters, queue descriptors. -/
def bulkGroups : List Nat := List.range 35 ++ [36]

/-- KiB of a memory group (14 Table 14.1). -/
def groupKib (g : Nat) : Nat := if g < 26 ∨ g = 34 then 4096 else if g < 34 then 6144 else 1792

/-- The byte of a memory group that a bulk copy reads; the counterpart of what the standby writes (log 44). -/
def bulkRead (g a : Nat) (s : State) : Byte :=
  if g < 16 then BitVec.ofNat 8 ((s.entry (262144 * g + a / 16)).toNat / 2 ^ (8 * (a % 16)))
  else if g < 24 then BitVec.ofNat 8 ((SMap.get 0 s.tbl.flow (((g - 16) * 4194304 + a) / 4)).toNat / 2 ^ (8 * (a % 4)))
  else if g = 34 then BitVec.ofNat 8 ((SMap.get 0 s.cnt.value (a / 4)).toNat / 2 ^ (8 * (a % 4)))
  else SMap.get 0 s.mem.raw (g * 2 ^ 24 + a)

/-- The bulk copy's next request: 4 KiB of a group to the mirror link, through port 5 (R365). -/
def requestBulk (s : State) : State :=
  match s.pair.bulkAt with
  | some p => requestXfer 5 [p / 2 ^ 24, 39] .bulk s
  | none => s

/-- The bulk copy ends: nothing of it is requested any more. -/
def stopBulk (s : State) : State :=
  { s with
    pair := { s.pair with bulkAt := none }
    mem := { s.mem with requests := s.mem.requests.filter (fun x => decide (x.use ≠ .bulk)) } }

/-- The active copies while its partner is in STANDBY_RESYNC and the link is up. -/
def followBulk (s : State) : State :=
  if pairActive s && s.pair.mirrorUp && decide (s.pair.partnerState = 2) then
    if s.pair.bulkAt.isSome then s
    else requestBulk { s with pair := { s.pair with bulkAt := some 0, pass := 0, kibLeft := ((bulkGroups.map groupKib).sum) } }
  else if s.pair.bulkAt.isSome then stopBulk s else s

/-- The place after a chunk of the first pass; none at its end. -/
def nextBulk (p : Nat) : Option Nat :=
  let g := p / 2 ^ 24
  let a := p % 2 ^ 24 + 4096
  if a < groupKib g * 1024 then some (g * 2 ^ 24 + a)
  else (bulkGroups.find? (fun h => decide (g < h))).map (· * 2 ^ 24)

/-- A chunk of the bulk copy has been read: it goes out as a KIND 1 frame, and the next is requested while the pass has more to copy.
The manual does not say which 4 KiB a later pass finds written: a free value (log 44). -/
def copyChunk (s : State) : State :=
  match s.pair.bulkAt with
  | none => s
  | some p =>
    let g := p / 2 ^ 24
    let a := p % 2 ^ 24
    let data := (List.range 4096).map (fun k => bulkRead g (a + k) s)
    let (_, s) := sendMirrorFrame 1 (Config.bulkFrame g a data) s
    let (v, s) := takeFree 16 s
    let h := bulkGroups.getD (v % 36) 0
    let next := if s.pair.pass = 0 then (nextBulk p).getD 0 else h * 2 ^ 24 + v / 64 % (groupKib h / 4) * 4096
    let s : State := { s with pair := { s.pair with bulkAt := some next, kibLeft := s.pair.kibLeft - 4 } }
    if s.pair.kibLeft = 0 then s else requestBulk s

/-- RESYNC_PASS_END (R365): a pass is complete. With less than 4 MiB left for the next one, both devices go on in lockstep from
this tick edge, and their digests must match; CONFIG starts from 0 there (log 48). -/
def execResyncPassEnd (left : Nat) (s : State) : State :=
  let active := pairActive s && s.pair.mirrorUp && decide (s.pair.partnerState = 2)
  if (decide (s.pair.state = 2) && s.pair.enable && s.pair.mirrorUp && !s.pair.matching) || active then
    let s : State := { s with pair := { s.pair with pass := min 63 (s.pair.pass + 1), kibLeft := min (2 ^ 24 - 1) ((left + 1023) / 1024) } }
    let s := if active && s.pair.bulkAt.isSome && !s.mem.requests.any (fun x => decide (x.use = .bulk)) && decide (0 < s.pair.kibLeft) then
      requestBulk s else s
    if left < 4194304 then
      { s with pair := { s.pair with config := 0, applied := [], kibLeft := 0, matching := decide (s.pair.state = 2), matchRun := 0 } }
    else s
  else s

/-- The mirror link comes up (R357, Table 15.6): a failed standby tries again. -/
def mirrorLinkUp (s : State) : State :=
  if s.pair.mirrorUp then s
  else
    let s := setHealth 4 true { s with pair := { s.pair with mirrorUp := true, partnerHolds := true } }
    if pairStandby s && s.pair.state ≠ 3 then enterResync s else s

/-- MIRROR_LINK_LOSS (R357): no LOCKED mirror lane is left, or no HELLO has arrived for 256 µs. -/
def execMirrorLinkLoss (s : State) : State :=
  if !s.pair.mirrorUp then s
  else
    let s := if (mirrorLane s).isNone then s else advanceTo (s.pair.helloPs + 256000000) s
    let s := setHealth 4 false { s with pair := { s.pair with mirrorUp := false, helloAck := false, helloPs := 0, low := none } }
    let s := revokeMirror (stopBulk s)
    if pairStandby s then
      let s := followLost s
      if s.pair.actIn then { s with pair := { s.pair with state := 4, matching := false } } else s
    else s

/-! ## Loans (R360) -/

/-- M_LAUNCH_RX (R362, R369): what the active skipped, the standby returns to its queues' heads; launched bursts are noted. -/
def execMLaunchRx (i : Nat) (seq : Nat) (launched : Bool) (s : State) : State :=
  if !pairStandby s then s
  else if launched then
    { s with pair := { s.pair with launched := SMap.modify [] s.pair.launched i (fun l => (seq :: l).take 64) } }
  else
    let mine := s.pair.hold.filter (fun h => decide (h.burst = some (i, seq)))
    let queues := (mine.map (fun h => h.queue)).eraseDups
    let s : State := { s with pair := { s.pair with hold := s.pair.hold.filter (fun h => decide (h.burst ≠ some (i, seq))) } }
    queues.foldl (fun s q => returnFrames q ((mine.filter (fun h => h.queue = q)).map (fun h => h.frame)) s) s

/-- A burst of the device's own has a part, from its P to its end, in a span of time. -/
def burstIn (fromPs toPs : Nat) (s : State) : Bool :=
  (List.range 4).any (fun i => (s.inst i).sched.any (fun e => !e.shadow && decide (e.prepPs ≤ toPs) && decide (fromPs ≤ e.endPs)))

/-- M_LOAN_REQ_RX (R360): the active grants a loan when all conditions hold; a trigger refuses it (R370). -/
def execMLoanReqRx (i : Nat) (tag ns len id : Nat) (s : State) : State :=
  if !pairActive s then s
  else
    let l := psOfTag tag ns s
    let e := l + len * 1000
    let ok := decide (s.clk.nowPs + 10000000 + 3500000 ≤ l) && s.pair.loan.isNone && s.pair.switch.isNone &&
      !burstIn (l - 3500000) (e + 2200000) s
    let s : State := if ok then { s with pair := { s.pair with loan := some { id, inst := i, atPs := l, endPs := e, granted := true } } } else s
    sendMirror 0x8C (id + b2n ok * 2 ^ 8) s

/-- M_LOAN_ACK_RX (R360). -/
def execMLoanAckRx (id : Nat) (granted : Bool) (s : State) : State :=
  match s.pair.loan with
  | some l =>
    if pairStandby s && decide (l.id = id) then
      { s with pair := { s.pair with loan := if granted then some { l with granted := true } else none } }
    else s
  | none => s

/-- LOAN_ACT_RELEASE (R360): at L − 3,500 ns the active deasserts ACT_OUT# and waits to claim it again. -/
def execLoanActRelease (s : State) : State :=
  match s.pair.loan with
  | some l =>
    if pairActive s && s.pair.actOut then
      let s := advanceTo (l.atPs - 3500000) s
      let s := setActOut false s
      { s with pair := { s.pair with claiming := true } }
    else s
  | none => s

/-- ACT_IN# has been deasserted without a break for 2 µs. -/
def actInQuiet (s : State) : Bool := !s.pair.actIn && decide (s.pair.actInOffPs + 2000000 ≤ s.clk.nowPs)

/-- LOAN_ACT_CLAIM (R360): at L − 1,200 ns the standby asserts ACT_OUT# for its burst; a loan whose burst has gone ends. -/
def execLoanActClaim (s : State) : State :=
  match s.pair.loan with
  | some l =>
    if pairStandby s && l.granted && !s.pair.actOut then
      if (s.inst l.inst).sched.any (fun e => !e.shadow && decide (e.atPs = l.atPs)) then
        let s := advanceTo (l.atPs - 1200000) s
        if actInQuiet s then setActOut true s else s
      else { s with pair := { s.pair with loan := none } }
    else s
  | none => s

/-! ## The interlock (R359) -/

/-- ACT_OUT_CLAIM (R359): once ACT_IN# has been deasserted for 2 µs, a device that waits to claim light asserts ACT_OUT#: one that
enables pairing becomes ACTIVE, a lender closes its loan (after the lent burst, log 49), a new active reports its switchover. -/
def execActOutClaim (s : State) : State :=
  if !s.pair.enable || !s.pair.claiming || s.pair.actIn then s
  else
    let lentEnd := match s.pair.loan with | some l => l.endPs | none => 0
    let s := advanceTo (max s.pair.actInOffPs lentEnd + 2000000) s
    if quiesceNow s || s.fatal.asserted then s
    else
      let detail := s.pair.claimDetail
      let s := setActOut true { s with pair := { s.pair with claiming := false, loan := none, claimDetail := none } }
      let s : State := if s.pair.state = 0 then { s with pair := { s.pair with state := 1 } } else s
      match detail with
      | some d => raise .pairSwitchover 0 0 d s
      | none => s

/-- ACT_IN_CHANGE (R359, Table 15.6): within 2 µs of the own claim the device with the higher SLOT_ID withdraws. -/
def execActInChange (asserted : Bool) (s : State) : State :=
  if asserted = s.pair.actIn then s
  else if !asserted then { s with pair := { s.pair with actIn := false, actInOffPs := s.clk.nowPs } }
  else
    let s : State := { s with pair := { s.pair with actIn := true } }
    if !s.pair.enable then s
    else if s.pair.actOut then
      if decide (s.clk.nowPs ≤ s.pair.actOutPs + 2000000) && decide (s.pair.partnerSlot < s.dev.slotId.toNat) then
        let s := setActOut false s
        if s.pair.state = 1 then enterResync s else endLoan s
      else s
    else if s.pair.state = 0 then enterResync { s with pair := { s.pair with claiming := false } }
    else s

/-! ## Health (R367, R368) -/

/-- M_HEALTH at T0 (Table 15.2). -/
def sendHealth (s : State) : State :=
  if !s.pair.enable then s
  else
    let mask := fun (f : Inst → Bool) => maskOf ((List.range 4).filter (fun i => f (s.inst i)))
    sendMirror 0x8E (ownHealth s + mask (fun x => x.sync.sf) * 2 ^ 16 + mask Inst.inO5 * 2 ^ 20 + s.pair.state * 2 ^ 24) s

/-- The partner's health bits 5:0 are all 1: it holds the mirror lanes; else the holds are revoked (01 Table 1.4). -/
def judgePartner (s : State) : State :=
  if s.pair.partner.toNat % 64 = 63 then { s with pair := { s.pair with partnerHolds := s.pair.partnerHolds || s.pair.mirrorUp } }
  else revokeMirror s

/-- M_HEALTH_RX (R368): the partner's half, its SF and O5 masks and its state. A partner newly in step starts BURST_SEQ at 0
(Table 15.2); to one in STANDBY_RESYNC the active copies its state (R365). -/
def execMHealthRx (half : Nat) (sf o5 : BitVec 4) (state : Nat) (s : State) : State :=
  if !s.pair.enable then s
  else
    let fresh := decide (state = 3) && decide (s.pair.partnerState ≠ 3)
    let s : State := { s with pair := { s.pair with
      partner := BitVec.ofNat 16 half, partnerSf := sf, partnerO5 := o5, partnerState := state
      burstSeq := if fresh && pairActive s then [] else s.pair.burstSeq } }
    followBulk (checkHealth (checkSf (judgePartner s)))


/-- A lane in use has lost lock, or a test of one has failed, on a standby (Table 15.4 LANES_OK). -/
def noteLaneFault (s : State) : State :=
  if pairStandby s then { s with pair := { s.pair with lanesFaultTick := some (ownTick s) } } else s

/-- A BLOTTER_FAULT on a standby (Table 15.4 BLOTTER_OK). -/
def noteBlotterFault (s : State) : State :=
  if pairStandby s then { s with pair := { s.pair with blotterFaultTick := some (ownTick s) } } else s

/-- The laser of an instance is not tested: a loan for it is open (Table 15.4). -/
def laserLent (i : Nat) (s : State) : Bool := s.pair.loan.any (fun l => decide (l.inst = i))

/-- STANDBY_HEALTH_TEST (01 R32, R367, Table 15.4): every 8,000 ticks the lanes not in use, and each laser in turn. -/
def execStandbyHealthTest (lanesOk : Bool) (lasersOk : BitVec 4) (s : State) : State :=
  if !pairStandby s || !(s.pair.testTick.isNone || ranFor 8000 s.pair.testTick s) then s
  else
    let s : State := { s with pair := { s.pair with testTick := some (ownTick s) } }
    let s := if lanesOk then s else noteLaneFault s
    setHealth 2 ((List.range 4).all (fun i => lasersOk.getLsbD i || laserLent i s)) s

/-! ## Switchover (R368–R370) -/

/-- M_SWITCH_RX (R369): the standby prepares; an open loan is cancelled (R370). -/
def takeMSwitch (tag ns rtag rns cause : Nat) (s : State) : State :=
  if !pairStandby s then s
  else
    let s := if s.pair.loan.isSome && fibreDark s then endLoan s else s
    { s with pair := { s.pair with loan := none, switch := some { atPs := psOfTag tag ns s, replayPs := psOfTag rtag rns s, cause } } }

def execMSwitchRx (tag ns rtag rns cause : Nat) (s : State) : State := takeMSwitch tag ns rtag rns cause s

/-- Does a held frame go back at a switchover (R369)? -/
def replays (w : Switch) (s : State) (h : HoldFrame) : Bool :=
  match h.burst with
  | some (i, n) => decide (w.replayPs ≤ h.atPs) || !(SMap.get [] s.pair.launched i).contains n
  | none => decide (w.replayPs ≤ h.frame.phyPs) || (decide (w.cause = 6) && decide (w.replayPs ≤ h.atPs))

/-- The held frames return to the heads of their queues in their former order; a context some of whose frames return owes no
continuation of them (log 50). -/
def replay (w : Switch) (s : State) : State :=
  let back := s.pair.hold.filter (replays w s)
  let queues := (back.map (fun h => h.queue)).eraseDups
  let s := queues.foldl (fun s q =>
    let s := if q < 8192 then s.setAlloc (q / 8) { s.alloc (q / 8) with cont := none } else s
    returnFrames q ((back.filter (fun h => h.queue = q)).map (fun h => h.frame)) s) s
  { s with pair := { s.pair with hold := [], launched := [], burstSeq := [] } }

/-- The shadow schedules and the shadowed Alloc-IDs end. -/
def endShadows (s : State) : State :=
  let s := (List.range 4).foldl (fun s i => s.modInst i (fun x => { x with sched := x.sched.filter (fun e => !e.shadow) })) s
  { s with pair := { s.pair with shadowIds := [] } }

/-- The standby takes over: its egresses transmit from now on, held frames return, and it waits to claim light (R369). -/
def takeOver (w : Switch) (s : State) : State :=
  let gap := match s.pair.gapTick with | some t => decide (ticksSince t s < 4) | none => false
  let detail := w.cause + 256 * b2n (decide (s.pair.state ≠ 3)) + 512 * b2n gap
  let s := endShadows (replay w (holdTests s))
  let s := completeRunning 0x0C02 .notFound 0 []
    { s with pair := { s.pair with state := 1, attempt := 0, matching := false, switch := none, loan := none, mismatchRun := 0
                                   claiming := true, claimDetail := some detail } }
  followLost s

/-- SWITCHOVER_AT_SWITCH (R369). A recognised eject, also one of this clock, keeps the standby from taking over (20 R442). -/
def execSwitchoverAtSwitch (eject : Bool) (s : State) : State :=
  match s.pair.switch with
  | none => s
  | some w =>
    if !s.pair.enable then s
    else
      let s := advanceTo w.atPs s
      let tick := (tickOf w.atPs s).1
      let s : State := { s with pair := { s.pair with lastSwitch := tick } }
      if pairActive s then
        let s := enterResync { s with pair := { s.pair with switch := none, claiming := false, partnerState := 1 } }
        let s := if fibreDark s && s.pair.actOut then setActOut false s else s
        completeRunning 0x0C01 .ok 0 (le 4 tick.toNat) s
      else if pairStandby s then
        (if s.hot.recognised || eject then { s with pair := { s.pair with switch := none } } else takeOver w s)
      else s

/-- PARTNER_GONE (R368, cause 6): ACT_IN# deasserted for 20 µs outside a loan; an M_SWITCH of the same clock wins (R370). A device whose
eject is recognised, also in this clock, does not take over (20 R442). -/
def execPartnerGone (met : Option MSwitch) (eject : Bool) (s : State) : State :=
  if pairStandby s && !s.pair.actIn && !s.pair.actOut && s.pair.loan.isNone && s.pair.switch.isNone && !s.hot.recognised && !eject then
    let s := advanceTo (max s.pair.actInOffPs s.pair.actOutPs + 20000000) s
    match met with
    | some m => takeMSwitch m.tag.val m.ns.toNat m.rtag.val m.rns.toNat m.cause.toNat s
    | none =>
      let s : State := { s with pair := { s.pair with lastSwitch := s.clk.tick } }
      takeOver { atPs := s.clk.nowPs, replayPs := s.pair.lastDigestPs, cause := 6 } (revokeMirror s)
  else s

/-! ## What the mirror link brings (R358, R361, R365) -/

/-- The protection that a received mirror frame claims: the key of its KEY_PHASE, and the counter of its COUNTER_LO (10 R277). -/
def mirrorSeal (f : FrameFields) (s : State) : Option Seal :=
  linkSeal mirrorLink 1 (b2n f.keyPhase) (rebuildCounter s.pair.rxCount f.counterLo.toNat) s

/-- A received mirror frame is taken only under a loaded key, with room in its share of the engines, and with a tag that holds (R358,
13 R325, R327). What the opened bytes stand for, whose layout the manual does not give, the row says beside them (log 45). -/
def mirrorRx (f : FrameFields) (field : Bytes) (act : State → State) (s : State) : State :=
  match mirrorSeal f s with
  | none => count .linkKeyInvalid mirrorLink s
  | some k =>
    match rxShare mirrorLink (b2n f.keyPhase) f.length.toNat s with
    | (false, s) => count .cipherRxOverrun mirrorLink s
    | (true, s) =>
      match openField (bodyOf f) f.length.toNat field (some k) with
      | none => count .linkAuthFail mirrorLink s
      | some _ => act { s with pair := { s.pair with rxCount := k.counter + 1 } }

/-- A replicated command waits for tick D + 2, or for its EXEC_TICK where that is not earlier (R361). -/
def takeReplicated (op : Nat) (q : CmdReq) (tick : Word) (s : State) : State :=
  let d2 := tick + 2
  let later := q.atTick && decide (0 ≤ tickDiff q.execTick d2)
  let (c, s) := newCmd op { q with src := .mirror } s
  { s with cmd := { s.cmd with pendingSet := s.cmd.pendingSet ++
    [{ c with due := some (if later then q.execTick else d2), late := q.atTick && !later, origin := some q.src }] } }

/-- MIRROR_REPLICATED_RX (R361): a command is executed in its tick; data is applied at once. -/
def execMirrorReplicatedRx (f : FrameFields) (field : Bytes) (r : MirrorData) (s : State) : State :=
  mirrorRx f field (fun s =>
    if !pairStandby s then s
    else
      match r with
      | .command op q tick => takeReplicated op q tick s
      | .flow f words => noteApplied r (setFlow f (words.flatMap (fun w => le 4 w.toNat)) s)
      | .staged n words =>
        noteApplied r (if isolated (n / 262144) s then s else setEntry n (BitVec.ofNat 128 (leNat (words.flatMap (fun w => le 4 w.toNat)))) s)
      | .allocId c id => noteApplied r { s with pair := { s.pair with shadowIds := SMap.set none s.pair.shadowIds c.val id } }) s

/-- Write one byte of a memory group as a bulk copy brings it: table entries, flow contexts and counters are the part's own;
of the other groups the manual gives no layout, and the bytes are kept as they come (log 44). -/
def bulkByte (group addr : Nat) (b : Byte) (s : State) : State :=
  let place := fun (old : Nat) (k : Nat) => old - old / 2 ^ (8 * k) % 256 * 2 ^ (8 * k) + b.toNat * 2 ^ (8 * k)
  if group < 16 then
    let n := 262144 * group + addr / 16
    setEntry n (BitVec.ofNat 128 (place (s.entry n).toNat (addr % 16))) s
  else if group < 24 then
    let k := ((group - 16) * 4194304 + addr) / 4
    { s with tbl := { s.tbl with flow := SMap.modify 0 s.tbl.flow k (fun w => BitVec.ofNat 32 (place w.toNat (addr % 4))) } }
  else if group = 34 then
    { s with cnt := { s.cnt with value := SMap.modify 0 s.cnt.value (addr / 4) (fun w => BitVec.ofNat 32 (place w.toNat (addr % 4))) } }
  else { s with mem := { s.mem with raw := SMap.set 0 s.mem.raw (group * 2 ^ 24 + addr) b } }

/-- MIRROR_BULK_COPY_RX (R365): while the standby resynchronises, a KIND 1 frame is written to the named group. -/
def execMirrorBulkCopyRx (f : FrameFields) (field : Bytes) (group addr : Nat) (bytes : Bytes) (s : State) : State :=
  mirrorRx f field (fun s =>
    if pairStandby s && decide (s.pair.state = 2) then
      (bytes.zipIdx).foldl (fun s e => bulkByte group (addr + e.2) e.1 s) s
    else s) s

/-- MIRROR_SCRATCH_WRITE_RX (R358): a KIND 2 frame is written through port B. -/
def execMirrorScratchWriteRx (f : FrameFields) (field : Bytes) (addr : Nat) (bytes : Bytes) (s : State) : State :=
  mirrorRx f field (fun s => if s.pair.enable then scratchPortB addr bytes s else s) s

/-- MIRROR_KEY_TRANSFER_RX (R358, R361): a KIND 3 frame is written straight into the named slot. -/
def execMirrorKeyTransferRx (f : FrameFields) (field : Bytes) (slot : Nat) (key : Bytes) (aes256 : Bool) (s : State) : State :=
  mirrorRx f field (fun s =>
    if pairStandby s then
      { s with cipher := { s.cipher with slots := SMap.set {} s.cipher.slots slot { loaded := true, aes256, key := fit 32 key } } }
    else s) s

/-! ## Commands (R371) -/

/-- Every redundancy command is refused in RETIRED. -/
def pairSpec (op : Nat) (n : Nat) (bad : CmdReq → State → Bool) (force : Bool) : CmdSpec :=
  { op, life := fun _ s => decide (s.lc.state ≠ 4), force, check := params n bad }

def specPairConfig : CmdSpec :=
  pairSpec 0x0C00 4 (fun q s =>
    decide (1 < u8 q.body 0) || !allZero (slice q.body 1 3) ||
      (decide (u8 q.body 0 = 1) && decide (s.pair.helloPs ≠ 0) && decide (s.pair.partnerSlot = s.dev.slotId.toNat))) true

/-- LINK 33 has a binding in both directions. -/
def mirrorBound (s : State) : Bool :=
  (List.range 2).all (fun dir => (linkBind mirrorLink dir 0 s).isSome || (linkBind mirrorLink dir 1 s).isSome)

/-- ENABLE 1 of an unpaired device (Table 15.6). -/
def enablePair (s : State) : State :=
  let s : State := { s with pair := { s.pair with enable := true } }
  if s.pair.actIn then enterResync s
  else if actInQuiet s then setActOut true { s with pair := { s.pair with state := 1 } }
  else { s with pair := { s.pair with claiming := true } }

/-- ENABLE 0: ALONE, ACT_OUT# not-active, shadows and replication end (Table 15.6). -/
def disablePair (s : State) : State :=
  let s := stopBulk (holdTests s)
  let s := if pairStandby s then followLost s else s
  let s := endShadows s
  let s := setActOut false { s with pair := { s.pair with
    enable := false, state := 0, testTick := none, partnerHolds := false, claiming := false, claimDetail := none, loan := none
    switch := none, hold := [], launched := []
    burstSeq := [], attempt := 0, pass := 0, kibLeft := 0, matching := false, matchRun := 0, mismatchRun := 0, digests := [], low := none
    applied := [], config := 0, gapTick := none } }
  completeRunning 0x0C02 .notFound 0 [] (completeRunning 0x0C01 .notFound 0 [] s)

/-- PAIR_CONFIG (R371). -/
def effPairConfig (c : Cmd) (s : State) : Res :=
  let on := decide (u8 c.req.body 0 = 1)
  let reply := fun (s : State) => Res.ok (le 1 s.pair.state ++ zeros 3) s
  if on && !mirrorBound s then .fail .notFound s
  else if on = s.pair.enable then reply s
  else if on then reply (enablePair s)
  else if pairActive s && pairInStep s && !c.req.force then .fail .busyService s
  else reply (disablePair s)

def execPairConfig (q : CmdReq) (s : State) : State := runCmd specPairConfig effPairConfig q s

def specPairSwitch : CmdSpec := pairSpec 0x0C01 4 (fun q _ => !allZero q.body) true

/-- PAIR_SWITCH (R371): completes at SWITCH. -/
def effPairSwitch (c : Cmd) (s : State) : Res :=
  if !pairActive s then .fail .notFound s
  else if !s.pair.mirrorUp then .fail .peerAbsent s
  else if !partnerReady s && !c.req.force then .fail .busyService s
  else if s.pair.switch.isSome then .later s
  else .later (startSwitch 4 0 s)

def execPairSwitch (q : CmdReq) (s : State) : State := runCmd specPairSwitch effPairSwitch q s

def specPairResync : CmdSpec := pairSpec 0x0C02 4 (fun q _ => !allZero q.body) false

/-- PAIR_RESYNC (R371): completes when the resynchronisation succeeds. -/
def effPairResync (_ : Cmd) (s : State) : Res :=
  if !pairStandby s then .fail .notFound s
  else if !s.pair.mirrorUp then .fail .peerAbsent s
  else .later (enterResync s)

def execPairResync (q : CmdReq) (s : State) : State := runCmd specPairResync effPairResync q s

def specPairQuery : CmdSpec := { pairSpec 0x0C03 0 (fun _ _ => false) false with reads := true }

/-! ## Registers -/

/-- R359 permits light: the interlock does not restrict an unpaired device. -/
def pairStatus (s : State) : Nat :=
  let lanes := ((List.range 4).map (fun n => b2n (decide ((s.lane (32 + n)).state = .locked)) * 2 ^ (28 + n))).sum
  let gap := match s.pair.gapTick with | some t => decide (ticksSince t s < 4) | none => false
  lanes + s.pair.partnerSlot % 64 * 2 ^ 22 + b2n s.pair.loan.isSome * 2 ^ 21 + b2n s.pair.actIn * 2 ^ 20 + b2n s.pair.actOut * 2 ^ 19 +
    b2n (s.pair.enable && s.pair.actOut) * 2 ^ 18 + b2n gap * 2 ^ 16 + min 255 s.pair.mismatchRun * 2 ^ 8 + s.pair.state

def pairHealth (s : State) : Nat := s.pair.partner.toNat * 2 ^ 16 + ownHealth s
def pairResyncWord (s : State) : Nat := s.pair.attempt * 2 ^ 30 + s.pair.pass * 2 ^ 24 + s.pair.kibLeft

/-- PAIR_QUERY (R371). -/
def effPairQuery (_ : Cmd) (s : State) : Res :=
  .ok (le 4 (pairStatus s) ++ le 4 (pairHealth s) ++ le 4 (pairResyncWord s) ++ le 4 s.pair.lastSwitch.toNat) s

def execPairQuery (q : CmdReq) (s : State) : State := runCmd specPairQuery effPairQuery q s

/-- The redundancy registers, by their offsets from 0x000B_0000. -/
def readPair (off : Nat) (s : State) : Option Nat :=
  if off = 0 then some (pairStatus s)
  else if off = 4 then some (pairHealth s)
  else if off = 8 then some (pairResyncWord s)
  else if off = 12 then some s.pair.lastSwitch.toNat
  else none

end Sys2Proof.Machine
end

