-- ==== Sys2Proof/Machine/Manager.lean ====
section
/-!
DEFINITION. Manager and workers (10): HELLO and identification, ranging, the tick and time blocks, the grant relay on both sides,
frames, removal, and the commands and registers of the worker class.
-/

namespace Sys2Proof.Machine

/-! ## HELLO (R256–R259) -/

/-- HELLO_TIMER (R257): the next HELLO of a lane falls due. -/
def execHelloTimer (lane : Nat) (s : State) : State :=
  if !mapiynLane lane s then s
  else
    let s := advanceTo (SMap.get 0 s.helloAt lane) s
    sendBlock lane 0x33 (helloBody lane s) { s with helloAt := SMap.set 0 s.helloAt lane (s.clk.nowPs + helloPeriod lane s) }

/-- The highest common version; 0 where there is none (R256). -/
def commonVersion (versions : Nat) : Nat := if bit versions 2 then 3 else if bit versions 1 then 2 else if bit versions 0 then 1 else 0

/-- The version of a lane: version 1 runs at rates 2–4 only (Table 10.2). -/
def agreedVersion (w versions : Nat) (s : State) : Nat :=
  let v := commonVersion versions
  if v = 1 ∧ (s.lane w).rate < 2 then 0 else v

/-- Identification of a worker is complete (Table 10.3, R259). -/
def identify (w : Nat) (f : HelloFields) (s : State) : State :=
  let v := agreedVersion w f.versions.toNat s
  if v = 0 then count .workerVersionMismatch w s
  else
    let prot := (s.worker w).cfg.linkProtect && f.linkProt && decide (2 ≤ v)
    let s := s.modWorker w (fun x => { x with
      version := v, slotId := f.slot.toNat, leadNs := f.lead.toNat, linkProt := prot, txCount := 0, rxCount := 0
      w2Clock := clockNo s, retries := 0, aligned := false })
    let s := holdDups (setWorkerState w 2 s)
    if (s.worker w).dupHeld then s else startRanging w false s

/-- A worker's HELLO at the manager (Table 10.3). -/
def managerHello (w : Nat) (f : HelloFields) (s : State) : State :=
  let s := s.modWorker w (fun x => { x with helloSeen := true, ackSeen := x.ackSeen || f.ack, following := f.following
                                            eidleOk := f.eidleOk, peerVersions := f.versions.toNat })
  let s := if f.versions = 0 then s else endImage w .ok s
  let x := s.worker w
  if x.state = 1 then (if f.versions ≠ 0 && f.ack then identify w f s else s)
  else if 2 ≤ x.state ∧ x.state ≤ 4 then
    if x.slotId ≠ f.slot.toNat ∨ agreedVersion w f.versions.toNat s ≠ x.version then workerToW1 w s
    else if x.state = 3 && f.following && x.aligned && x.cfg.admitEn then
      setWorkerState w 4 (s.modWorker w (fun x => { x with credit := 15, creditTick := ownTick s }))
    else s
  else s

/-- The manager's HELLO at a worker. One with ACK clear after identification says that the manager identifies again: so does the worker
(R257, Table 10.3; log 1011). -/
def workerHello (f : HelloFields) (s : State) : State :=
  let again := decide (s.role.version ≠ 0) && !f.ack
  let s : State := if again then
      { s with role := { s.role with version := 0, ackSeen := false, linkProt := false }, helloAt := SMap.set 0 s.helloAt 0 0 }
    else s
  let r : Role := { s.role with helloSeen := true, ackSeen := s.role.ackSeen || f.ack, eidleOk := f.eidleOk }
  let v := agreedVersion 0 f.versions.toNat s
  if f.ack && decide (r.version = 0) && decide (v ≠ 0) && decide (s.dev.quill = 3) then
    { s with role := { r with version := v, mgrSlot := f.slot.toNat, txCount := 0, rxCount := 0
                              linkProt := ownLinkProt 0 s && f.linkProt && decide (2 ≤ v) } }
  else { s with role := r }

/-- The chunks of an image: at most 4,096 bytes each (19 R425). -/
def chunksOf : Nat → Bytes → List Bytes
  | 0, _ => []
  | n + 1, b => if b.isEmpty then [] else b.take 4096 :: chunksOf n (b.drop 4096)

/-- Send an image in numbered chunks on a lane, ahead of queued traffic; the last chunk leaves when the lane has carried all of
them (19 R425, R428). -/
def sendImage (lane cmd : Nat) (image : Bytes) (s : State) : State :=
  let chunks := chunksOf (image.length / 4096 + 1) image
  let s := (chunks.zipIdx).foldl (fun s c => putLane lane (plainFrame lane { kind := 1, sub := c.2, data := c.1 }) s) s
  let line := (chunks.map (fun c => bitsPs (lineKbps (s.lane lane).rate) ((1 + (c.length + 11) / 8) * 66))).sum
  let start := ((SMap.get none s.boot.images lane).map (·.startTick)).getD (ownTick s)
  let run : ImageRun := { cmd, lastPs := s.clk.nowPs + line, startTick := start }
  { s with boot := { s.boot with images := SMap.set none s.boot.images lane (some run) } }

/-- The partner's HELLO on a mirror lane (15 R357). A booting partner's is answered by an active with the image it keeps; while
one is on its way, and for 1 ms after, it is not sent again (19 R426). -/
def mirrorHello (lane : Nat) (f : HelloFields) (s : State) : State :=
  if f.versions = 0 then
    let sent := match SMap.get none s.boot.images lane with
      | some r => decide (s.clk.nowPs < r.lastPs + 1000000000)
      | none => false
    if pairActive s && !s.boot.image.isEmpty && !sent then sendImage lane 0 s.boot.image s else s
  else
    let s : State := { s with
      boot := { s.boot with images := SMap.set none s.boot.images lane none }
      pair := { s.pair with helloPs := s.clk.nowPs, partnerSlot := f.slot.toNat, helloAck := s.pair.helloAck || f.ack } }
    if f.ack && bit f.versions.toNat 2 then mirrorLinkUp s else s

/-- HELLO_RX (R257). -/
def execHelloRx (lane : Nat) (f : HelloFields) (s : State) : State :=
  if !mapiynLane lane s then s
  else if 32 ≤ lane then mirrorHello lane f s
  else if s.dev.role = 1 then managerHello lane f s
  else workerHello f s

/-! ## Ranging (R260–R264) -/

/-- Does this side range a lane: the manager its workers, the active the lowest LOCKED mirror lane once the link is up (R260,
15 R357)? -/
def rangesLane (w : Nat) (s : State) : Bool :=
  if w < 32 then decide (s.dev.role = 1) && (s.worker w).ranging && !pairStandby s
  else pairActive s && s.pair.mirrorUp && decide (mirrorLane s = some w) && !(s.worker w).aligned && (s.worker w).backoff.isNone

/-- RANGING_EXCHANGE (R260): the next RANGE_REQ leaves, 1 µs after the one before. -/
def execRangingExchange (w : Nat) (s : State) : State :=
  if !rangesLane w s || !mapiynLane w s || decide (8 ≤ (s.worker w).rtts.length + (s.worker w).asked.length) then s
  else
    let s := advanceTo (s.worker w).rangeNextPs s
    let seq := ((s.worker w).rangeSeq + 1) % 256
    sendBlock w 0x4B seq (s.modWorker w (fun x => { x with
      ranging := true, rangeSeq := seq, asked := x.asked ++ [(seq, s.clk.nowPs)], rangeNextPs := s.clk.nowPs + 1000000 }))

/-- Does this side take the worker's part on a lane: a device in the worker role on L0, a standby on its mirror lanes? -/
def workerPart (lane : Nat) (s : State) : Bool :=
  mapiynLane lane s && (if lane < 32 then decide (s.dev.role = 2) else pairStandby s)

/-- RANGE_REQ_RX (R260): the answer carries the time that it took, which the manual leaves to the part: a free value. -/
def execRangeReqRx (lane : Nat) (seq : Byte) (s : State) : State :=
  if workerPart lane s then
    let (turn, s) := takeFree 24 s
    sendBlock lane 0x4C (seq.toNat + turn * 2 ^ 8) s
  else s

/-- RANGE_RSP_RX (R260, R261): the arrival t4 less t1 of the request of its SEQ and less TURN is a round trip; the eighth gives the
result. -/
def execRangeRspRx (lane : Nat) (seq : Byte) (turn t4Ps : Nat) (s : State) : State :=
  let x := s.worker lane
  match (if mapiynLane lane s && x.ranging then x.asked.find? (fun a => decide (a.1 = seq.toNat)) else none) with
  | none => s
  | some (_, t1) =>
    let s := advanceTo t4Ps s
    let rtts := x.rtts ++ [2 * ((t4Ps : Int) - t1) - 125 * (turn : Int)]
    let s := s.modWorker lane (fun x => { x with rtts, asked := x.asked.filter (fun a => a.1 ≠ seq.toNat) })
    if rtts.length < 8 then s
    else
      let spread := rttSpread rtts
      let s := s.modWorker lane (fun x => { x with spread := min 65535 (spread.toNat / 125) })
      let d := meanDelay rtts + x.asymNow
      rangingResult lane (if 0 ≤ d ∧ d ≤ 16 * (x.maxDelayNow : Int) ∧ spread ≤ 4000 then some d.toNat else none) s

/-- RANGE_RSP_TIMEOUT (R261): no response within 10 µs. -/
def execRangeRspTimeout (w : Nat) (s : State) : State :=
  match (s.worker w).asked with
  | (_, t) :: _ => if (s.worker w).ranging then rangingResult w none (advanceTo (t + 10000000) s) else s
  | [] => s

/-- RANGING_BACKOFF_EXPIRY (R261). -/
def execRangingBackoffExpiry (w : Nat) (s : State) : State :=
  match (s.worker w).backoff with
  | some (t, n) =>
    if ticksSince t s < n then s
    else
      let s := s.modWorker w (fun x => { x with backoff := none })
      if w < 32 then (if (s.worker w).state = 2 && !(s.worker w).dupHeld then startRanging w false s else s) else s
  | none => s

/-- ALIGN_RX (R262, R264): the worker takes the delay and echoes it; at the manager the ACK puts the delay in force, or starts
the slew to it after a WORKER_RERANGE. -/
def execAlignRx (lane : Nat) (delay : Nat) (ack : Bool) (s : State) : State :=
  if workerPart lane s then
    if ack then s
    else
      let s : State := if lane < 32 then { s with role := { s.role with delay := some delay } }
        else s.modWorker lane (fun x => { x with delay, aligned := true })
      sendBlock lane 0x4D (delay + 2 ^ 20) s
  else if !mapiynLane lane s || !ack || (s.worker lane).alignDelay ≠ delay then s
  else if (s.worker lane).aligned then s.modWorker lane (fun x => { x with slewTo := some delay })
  else s.modWorker lane (fun x => { x with aligned := true, delay })

/-! ## Tick and time (R262, R263) -/

/-- The delay that a follower has taken from ALIGN on a lane. -/
def takenDelay (lane : Nat) (s : State) : Option Nat :=
  if lane < 32 then s.role.delay else if (s.worker lane).aligned then some (s.worker lane).delay else none

/-- TICK_BLOCK_RX (R262): T0 lies DELAY and TX_OFFSET before the arrival. -/
def execTickBlockRx (lane : Nat) (tick : Word) (offset : Nat) (s : State) : State :=
  match (if workerPart lane s then takenDelay lane s else none) with
  | some d =>
    let s := followEdge (s.clk.nowPs - d * 125 / 2 - offset * 125 / 8) tick s
    if lane < 32 then { s with role := { s.role with following := true } } else s
  | none => s

/-- T0 of the tick that a TICK_TAG of 8 bits names: the nearest one (below Table 10.1). -/
def tagT0 (tag : Nat) (s : State) : Nat :=
  ((s.clk.t0Ps : Int) + signed 8 (tag + 256 - s.clk.tick.toNat % 256) * (tickPs : Int)).toNat

/-- TIME_N_RX (R263): a pair of one TICK_TAG gives TB0's sample; version 1 has no such block. -/
def execTimeNRx (lane : Nat) (timeS : Option (Byte × BitVec 48)) (tag : Byte) (ns frac : Nat) (s : State) : State :=
  if !workerPart lane s then s
  else if lane < 32 ∧ s.role.version < 2 then count .mapiynUnknownBlock 32 s
  else
    match timeS with
    | some (t, sec) =>
      if t = tag ∧ tb0Source s = (if lane < 32 then 2 else 3) then
        let theta := (timeOfFields sec.toNat ns frac : Int) - (s.timebase 0).at_ (tagT0 tag.toNat s)
        (tb0Take theta s).2
      else s
    | none => s

/-! ## Occupancy (R272) -/

/-- XGEM cost of a frame: LENGTH + 8, rounded up to a multiple of 4 (R267). -/
def xgemCost (n : Nat) : Nat := padUp (n + 8)

/-- XGEM cost that waits for a context. -/
def ctxCost (c : Nat) (s : State) : Nat := ((ctxQueues c).map (fun q => ((s.queue q).frames.map (fun f => xgemCost f.len)).sum)).sum

/-- MAP_RX (R272): the manager keeps the last value of a context that the worker feeds in W4. -/
def execMapRx (w ctx bytes : Nat) (s : State) : State :=
  let x := s.worker w
  if s.dev.role ≠ 1 ∨ mapiynLane w s = false then s
  else if x.version < 2 then count .mapiynUnknownBlock w s
  else if x.state = 4 ∧ (s.alloc ctx).cfg.feed = 1 ∧ (s.alloc ctx).cfg.worker = w then s.setAlloc ctx { s.alloc ctx with mapBytes := bytes }
  else s

/-- A context's waiting cost has been reported, in MAP or PULL_DONE. -/
def reportDone (ctx cost : Nat) (s : State) : State :=
  { s with role := { s.role with reported := SMap.set 0 s.role.reported ctx cost, changed := SMap.set none s.role.changed ctx none } }

/-- MAP_REPORT (R272): the cost that waits for a context has changed by 1,024 bytes or more since its last report, or a change has
gone unreported for 16 µs. -/
def execMapReport (ctx : Nat) (s : State) : State :=
  let cost := ctxCost ctx s
  let last := SMap.get 0 s.role.reported ctx
  if s.dev.role ≠ 2 ∨ mapiynLane 0 s = false ∨ s.role.version < 2 then s
  else
    match (if last + 1024 ≤ cost ∨ cost + 1024 ≤ last then some s.clk.nowPs else (SMap.get none s.role.changed ctx).map (· + 16000000)) with
    | none => s
    | some t =>
      let s := advanceTo t s
      sendBlock 0 0x66 (ctx + cost % 2 ^ 32 * 2 ^ 16 + s.clk.tick.toNat % 256 * 2 ^ 48) (reportDone ctx cost s)

/-! ## Pulls at the worker (R267, R271) -/

/-- PULL_RX (R267): scheduled for AT; one that arrives after its AT is not served. -/
def execPullRx (tag atNs ctx gid budget : Nat) (s : State) : State :=
  if s.dev.role ≠ 2 ∨ mapiynLane 0 s = false then s
  else if s.role.version < 3 then count .mapiynUnknownBlock 32 s
  else
    let at' := psOfTag tag atNs s
    if at' < s.clk.nowPs then s
    else { s with role := { s.role with pulls := s.role.pulls.filter (fun p => p.gid ≠ gid) ++ [{ gid, ctx, atPs := at', budget }] } }

/-- The whole frames of a context that a pull carries: picked under 08 R211 until the next one does not fit. Answers the cost
of those carried; one without its key is discarded and not carried (13 R327). -/
def serveFrames (gid ctx : Nat) : Nat → Nat → Nat → State → Nat × State
  | 0, _, sent, s => (sent, s)
  | n + 1, room, sent, s =>
    match pick ctx ((ctxQueues ctx).filter (fun q => eligible q s)) s with
    | (some q, s') =>
      let cost := xgemCost (headLen q s')
      if room < cost then (sent, s)
      else
        match dequeue q s' with
        | (some f, s') =>
          match sendUp { gid := some gid, sub := f.tag, data := f.data } s' with
          | (true, s') => serveFrames gid ctx n (room - cost) (sent + cost) (bwCount 56 f.len s')
          | (false, s') => serveFrames gid ctx n room sent s'
        | (none, s') => (sent, s')
    | (none, s') => (sent, s')

/-- PULL_SERVE (R267): at AT the worker sends the frames, none in quiesce (20 R443), and PULL_DONE, whose LEFT is a report (R272). -/
def execPullServe (gid : Nat) (s : State) : State :=
  match s.role.pulls.find? (fun p => decide (p.gid = gid)) with
  | some p =>
    if s.dev.role ≠ 2 ∨ mapiynLane 0 s = false then s
    else
      let s := advanceTo p.atPs { s with role := { s.role with pulls := s.role.pulls.filter (fun q => q.gid ≠ gid) } }
      let fuel := if quiesceNow s then 0 else ((ctxQueues p.ctx).map (fun q => (s.queue q).frames.length)).sum
      let (sent, s) := serveFrames gid p.ctx fuel p.budget 0 s
      let left := ctxCost p.ctx s
      sendBlock 0 0x6B (gid + sent % 2 ^ 20 * 2 ^ 8 + min left (2 ^ 28 - 1) * 2 ^ 28) (reportDone p.ctx left s)
  | none => s

/-- PULL_CANCEL_RX (R271): before AT the pull is dropped and its frames stay. -/
def execPullCancelRx (gid : Nat) (s : State) : State :=
  if s.dev.role ≠ 2 ∨ mapiynLane 0 s = false then s
  else if s.role.version < 3 then count .mapiynUnknownBlock 32 s
  else { s with role := { s.role with pulls := s.role.pulls.filter (fun p => p.gid ≠ gid || decide (p.atPs ≤ s.clk.nowPs)) } }

/-! ## Pulls at the manager (R268–R271) -/

/-- Does a pull's first block arrive in its window, or a later one in it (R268)? -/
def inWindow (w : Nat) (p : Pull) (s : State) : Bool :=
  decide (p.atPs + delayPs w s ≤ s.clk.nowPs + 24000) &&
    (if p.begun then decide (s.clk.nowPs ≤ p.endPs) else decide (s.clk.nowPs + pathPs ≤ p.feedPs))

/-- Change an open pull. -/
def modPull (w gid : Nat) (f : Pull → Pull) (s : State) : State :=
  s.modWorker w (fun x => { x with pulls := x.pulls.map (fun p => if p.gid = gid then f p else p) })

/-- The first block of a pull has arrived in its window (R270). -/
def beginPull (w : Nat) (p : Pull) (s : State) : State :=
  if p.begun then s
  else (modPull w p.gid (fun p => { p with begun := true }) s).modWorker w (fun x => { x with
    credit := min 15 (x.credit + 1) })

/-- Revoke the window of a GRANT_ID, where one is open. -/
def revokeGid (w gid : Nat) (s : State) : State :=
  match findPull w gid s with
  | some p => revokePull w p s
  | none => s

/-- Pulled data outside its window is discarded, counted and charged; an open window is revoked (Table 10.4). -/
def outOfWindow (w gid : Nat) (s : State) : State := workerError w (count .pullOutOfWindow w (revokeGid w gid s))

/-- Place pieces of a pulled frame into the allocation that it feeds (05 R133). -/
def placePulled (p : Pull) (piece : Option Piece) (cost : Nat) (w : Nat) (s : State) : State :=
  let s := modPull w p.gid (fun p => { p with used := p.used + cost }) s
  match pullAlloc p s, piece with
  | some (e, _), some x =>
    let s := modEntry p.inst e.atPs (fun e => { e with allocs := e.allocs.map (fun b =>
      if b.gid = some p.gid ∧ b.ctx = p.ctx then { b with pieces := b.pieces ++ [x] } else b) }) s
    if e.launched then bwCount (48 + p.inst) x.data.length (putPieces p.inst p.ctx [x] s) else s
  | _, _ => s

/-- A pulled frame in its window passes the upstream pipeline within PATH and is placed under its flow context's Port-ID, or its
cost is filled with idle frames (R273). -/
def takePulled (w : Nat) (p : Pull) (f : FrameFields) (data : Bytes) (s : State) : State :=
  let n := f.length.toNat
  let cost := xgemCost n
  let s := beginPull w p s
  let frame : Frame := { data := fit n data, ingress := 8 + w, tag := f.subPort.toNat }
  let s := noteActivity (bwCount (8 + w) n s)
  let (t, s) := match nextEngine s.cls.rot s with
    | some e => passThrough 2 { frame, epoch := s.cls.epoch, cfg := s.cls.cfg, engine := e }
        { s with cls := { s.cls with rot := (e + 1) % 16 } }
    | none => (none, s)
  let ok := match t with
    | some (t, _) => decide (t.queue / 8 = p.ctx) && decide (t.queue < 8192) && decide (t.colour < 2)
    | none => false
  match (if ok then t else none) with
  | some (_, portId) =>
    match upKeyIndex p.inst portId s with
    | some k => placePulled p (some { port := portId, data := fit n data, keyIndex := k }) cost w s
    | none => placePulled p none cost w (count .usKeyInvalid p.inst s)
  | none => placePulled p none cost w (count .pullMisdirected w s)

/-- A later frame of a pull whose first byte would reach the Nib after it is due: the Nib fills the rest (05 R133). -/
def latePulled (p : Pull) (s : State) : Bool :=
  p.begun && decide (p.feedPs + bytesPs (s.inst p.inst).usRate p.used < s.clk.nowPs + pathPs)

/-- Does an open pull take a frame that arrives now: in its window, in time, and with room for it (R268)? -/
def pullTakes (w : Nat) (p : Pull) (f : FrameFields) (s : State) : Bool :=
  inWindow w p s && !latePulled p s && decide (p.used + xgemCost f.length.toNat ≤ p.budget)

/-- A pulled frame arrives (R268–R271). -/
def pulledFrame (w : Nat) (f : FrameFields) (data : Bytes) (s : State) : State :=
  let gid := f.gid.val
  match findPull w gid s with
  | none => if (s.worker w).withdrawn.contains gid then count .pullWithdrawnDrop w s else outOfWindow w gid s
  | some p =>
    if pullTakes w p f s then takePulled w p f data s else outOfWindow w gid s

/-- A pulled frame that a FRAME_START interrupts (R254, Table 10.4; 05 R133): the Nib, which has begun it, sends a zero byte for each byte
that is missing. It is malformed, and one that stops part-way: both are counted and charged. -/
def cutPulled (w : Nat) (p : Pull) (f : FrameFields) (data : Bytes) (s : State) : State :=
  let s := takePulled w p f data s
  workerError w (workerError w (count .nibPullUnderrun p.inst (count .workerRxFormat w (revokeGid w p.gid s))))

/-- PULL_DONE_RX (R268): the window closes and the Nib fills the rest; LEFT is a report (R272). -/
def execPullDoneRx (w gid left : Nat) (s : State) : State :=
  if s.dev.role ≠ 1 ∨ mapiynLane w s = false then s
  else
    match findPull w gid s with
    | none =>
      if (s.worker w).version < 3 then count .mapiynUnknownBlock w s
      else if (s.worker w).withdrawn.contains gid then s else outOfWindow w gid s
    | some p =>
      if !inWindow w p s then outOfWindow w gid s
      else
        let s := beginPull w p s
        let s := s.setAlloc p.ctx { s.alloc p.ctx with mapBytes := left }
        match findPull w gid s with
        | some p => closePull w p s
        | none => s

/-- PULL_WINDOW_MISSED (R269, R270): no first block by F_P − PATH. -/
def execPullWindowMissed (w gid : Nat) (s : State) : State :=
  match findPull w gid s with
  | some p =>
    if p.begun || !p.sent then s
    else
      let s := advanceTo (p.feedPs - pathPs) s
      let s := s.modWorker w (fun x => { x with credit := x.credit - 4, creditTick := ownTick s })
      workerError w (count .pullMissed w (revokePull w p s))
  | none => s

/-! ## Frames (R253, R254, R273, R275–R277) -/

/-- The worker number that counters of a lane carry: 32 for the manager link in the worker role (18 Table 18.7). -/
def laneObj (lane : Nat) (s : State) : Nat := if s.dev.role = 2 then 32 else lane

/-- Charge an error to a worker; the manager is not charged. -/
def chargeLane (lane : Nat) (s : State) : State := if s.dev.role = 1 then workerError lane s else s

/-- A tunnelled reply completes the WORKER_CMD whose inner command has its opcode and TAG (R275, R284). -/
def tunnelReply (w : Nat) (data : Bytes) (s : State) : State :=
  let mine := fun (c : Cmd) => (s.worker w).tunnel.contains c.seq && decide (c.req.body.take 4 = data.take 4)
  match s.cmd.executing.find? mine with
  | some c => complete c .ok 0 data (s.modWorker w (fun x => { x with tunnel := x.tunnel.filter (· ≠ c.seq) }))
  | none => s

/-- A worker's event goes to the host (R276, Table 10.5). -/
def workerEvent (w : Nat) (data : Bytes) (s : State) : State :=
  let x := s.worker w
  if x.cfg.eventsEn then
    let f : Frame := { data := le 1 w ++ zeros 3 ++ fit 16 data, pkt := some { op := 0x0681, tag := x.eventTag, tick := s.clk.tick } }
    let (ok, s) := admitFrame x.cfg.eventQueue 0 f s
    if ok then s.modWorker w (fun x => { x with eventTag := (x.eventTag + 1) % 65536 }) else s
  else s

/-- A good frame by its KIND. -/
def takeMapiyn (lane : Nat) (f : FrameFields) (data : Bytes) (s : State) : State :=
  let kind := f.kind.val
  if s.dev.role = 2 then
    if kind = 0 then
      { s with waitUp := s.waitUp ++ [{ data, ingress := 8, tag := if 2 ≤ s.role.version then f.subPort.toNat else 0 }] }
    else if s.role.version = 0 then s
    else { s with cmd := { s.cmd with tunnelMail := s.cmd.tunnelMail ++ [data] } }
  else
    let x := s.worker lane
    if kind = 0 then
      if f.pulled && (decide (x.state = 4) || (findPull lane f.gid.val s).isSome || x.withdrawn.contains f.gid.val) then pulledFrame lane f data s
      else if x.state ≠ 4 then count .workerRxNotOper lane s
      else { s with waitUp := s.waitUp ++ [{ data, ingress := 8 + lane, tag := if 2 ≤ x.version then f.subPort.toNat else 0 }] }
    else if x.state < 2 then s
    else if kind = 2 then tunnelReply lane data s
    else workerEvent lane data s

/-- Is a frame malformed (R254)? KIND 0 goes both ways, 1 to a worker, 2 and 3 to the manager. -/
def malformedFrame (f : FrameFields) (cut : Bool) (s : State) : Bool :=
  cut || decide (f.length = 0) || (if s.dev.role = 2 then decide (2 ≤ f.kind.val) else decide (f.kind.val = 1))

/-- The counter of link protection that the next frame received on a lane may have at least: one more than the last accepted. -/
def rxNext (lane : Nat) (s : State) : Nat := if s.dev.role = 2 then s.role.rxCount else (s.worker lane).rxCount

/-- The protection that a received frame claims: the key of its KEY_PHASE, and the counter of its COUNTER_LO (R277). -/
def rxSeal (lane : Nat) (f : FrameFields) (s : State) : Option Seal :=
  linkSeal (linkOf lane s) 1 (b2n f.keyPhase) (rebuildCounter (rxNext lane s) f.counterLo.toNat) s

/-- A received frame's counter is accepted. -/
def acceptCounter (lane n : Nat) (s : State) : State :=
  if s.dev.role = 2 then { s with role := { s.role with rxCount := n + 1 } } else s.modWorker lane (fun x => { x with rxCount := n + 1 })

/-- A frame whose blocks are complete: its check field is tested, under link protection with its key and share of the engines (R253, R277,
13 R325). -/
def wholeFrame (lane : Nat) (f : FrameFields) (field : Bytes) (s : State) : State :=
  let link := linkOf lane s
  if linkProtected lane s then
    match rxSeal lane f s with
    | none => count .linkKeyInvalid link s
    | some k =>
      match rxShare link (b2n f.keyPhase) f.length.toNat s with
      | (false, s) => count .cipherRxOverrun link s
      | (true, s) =>
        match openField (bodyOf f) f.length.toNat field (some k) with
        | none => chargeLane lane (count .linkAuthFail link s)
        | some data => takeMapiyn lane f data (acceptCounter lane k.counter s)
  else
    match openField (bodyOf f) f.length.toNat field none with
    | none => chargeLane lane (count .workerRxCrc (laneObj lane s) s)
    | some data => takeMapiyn lane f data s

/-- The open pull whose frame a FRAME_START interrupts. -/
def cutPull (lane : Nat) (f : FrameFields) (s : State) : Option Pull :=
  if s.dev.role = 1 ∧ f.pulled = true ∧ f.kind.val = 0 ∧ f.length ≠ 0 then findPull lane f.gid.val s else none

/-- MAPIYN_FRAME_RX (R253, R254, R277, Table 10.4). -/
def execMapiynFrameRx (lane : Nat) (f : FrameFields) (field : Bytes) (cut : Bool) (s : State) : State :=
  if !mapiynLane lane s || asleep s then s
  else if malformedFrame f cut s then
    match cutPull lane f s with
    | some p =>
      if !pullTakes lane p f s then outOfWindow lane f.gid.val s
      else
        let part := field.take f.length.toNat
        cutPulled lane p f (if linkProtected lane s then ((rxSeal lane f s).map (fun k => gcmCrypt k.key k.iv part)).getD [] else part) s
    | none => chargeLane lane (count .workerRxFormat (laneObj lane s) s)
  else wholeFrame lane f field s

/-! ## Removal (R278–R281) -/

/-- The next instant at which a gate of a port changes or a shaper of its queues becomes eligible: what may let a held frame start. -/
def nextOpening (p : Nat) (s : State) : Option Nat :=
  let wheels := (portBusy p s).flatMap (fun q => (s.queue q).shapers.list.filterMap (fun n => (s.shaper n).wheel))
  let gate := match (s.gate p).oper with
    | some g => [(s.timebase g.timebase).instantOf s.clk.nowPs (tbNow g.timebase s + (gateNow p s).2.2)]
    | none => []
  let list := match (s.gate p).pending with
    | some g => [(s.timebase g.timebase).instantOf s.clk.nowPs (s.gate p).startAt]
    | none => []
  (wheels ++ gate ++ list).min?

/-- The shapers of a port's queues whose wheel slots have come. -/
def openShapers (p : Nat) (s : State) : State :=
  ((portBusy p s).flatMap (fun q => (s.queue q).shapers.list)).foldl (fun s n =>
    match (s.shaper n).wheel with
    | some t => if t ≤ s.clk.nowPs then execShaperWheelSlot n s else s
    | none => s) s

/-- Send what a worker's egress queues hold and can start within 100 µs (R281): a frame that its gate or shaper holds waits for the next
opening before then. -/
def drainWorker (w untilPs : Nat) : Nat → State → State
  | 0, s => s
  | n + 1, s =>
    if untilPs < max s.clk.nowPs (portFree w s) || decide (portFrames w s = 0) then s
    else
      let t := execEgressPick w 0 s
      if portFrames w t < portFrames w s then drainWorker w untilPs n t
      else
        match nextOpening w t with
        | some ps => if untilPs < ps ∨ ps ≤ t.clk.nowPs then t else drainWorker w untilPs n (openShapers w (advanceTo ps t))
        | none => t

/-- The drain of R281 from now on: as many turns as there are frames, and openings of gates and wheel slots within 100 µs. -/
def drainLeaving (w : Nat) (s : State) : State := drainWorker w (s.clk.nowPs + 100000000) (2 * portFrames w s + 1024) s

/-- The pulls of a worker whose AT has passed stay open, the rest are withdrawn (R281). -/
def withdrawLater (w : Nat) (s : State) : State :=
  ((s.worker w).pulls.filter (fun p => decide (s.clk.nowPs < p.atPs))).foldl (fun s p => withdrawPull w p.gid s) s

/-- A leaving worker enters W1; the pulls whose AT has passed stay open, with what their windows and frames go by (R281). -/
def leaveToW1 (w : Nat) (s : State) : State :=
  let old := s.worker w
  let s := workerToW1 w (s.modWorker w (fun x => { x with pulls := [] }))
  if old.pulls.isEmpty then s
  else s.modWorker w (fun x => { x with
    pulls := old.pulls, delay := old.delay, linkProt := old.linkProt, rxCount := old.rxCount, txCount := old.txCount })

/-- LEAVE_RX (R281). -/
def execLeaveRx (lane : Nat) (s : State) : State :=
  if !mapiynLane lane s then s
  else if s.dev.role = 2 then sendBlock 0 0x79 0 (roleLost s)
  else if (s.worker lane).state ≠ 4 then s
  else
    let s := withdrawLater lane (s.modWorker lane (fun x => { x with leaving := true }))
    leaveToW1 lane (sendBlock lane 0x79 0 (drainLeaving lane s))

/-- LEAVE_ACK_RX (R281): the release is complete; a worker may go dark. -/
def execLeaveAckRx (lane : Nat) (s : State) : State :=
  if !mapiynLane lane s then s
  else if s.dev.role = 2 then { s with role := { s.role with leaving := none } }
  else if (s.worker lane).leaveSent then leaveToW1 lane s
  else s

/-- REMOVAL_HOLD_EXPIRY (R280): the egress queues of a worker that has stayed in W0, since reset or since it entered W0, are flushed. -/
def execRemovalHoldExpiry (w : Nat) (s : State) : State :=
  let x := s.worker w
  if s.dev.role = 1 && decide (x.state = 0) && !x.flushed && decide (x.cfg.removalHold ≤ ticksSince (x.w0Tick.getD 0) s) then
    let (a, n) := portQueues w
    let mine := fun (q : Nat) => decide (a ≤ q ∧ q < a + n)
    let flushed := portFrames w s
    let s : State := { s with queues := (s.queues.map (fun e =>
      (e.1, if mine e.1 then { e.2 with frames := [], deficit := 0 } else e.2))).filter (fun e => e.2 ≠ {}) }
    countN .workerQueueFlushed w flushed (s.modWorker w (fun x => { x with flushed := true }))
  else s

/-- WORKER_CMD_TIMEOUT (R284). -/
def execWorkerCmdTimeout (w seq : Nat) (s : State) : State :=
  match s.cmd.executing.find? (fun c => decide (c.seq = seq)) with
  | some c =>
    if (s.worker w).tunnel.contains seq && decide (16000 ≤ (s.clk.tick - c.tick).toNat) then
      complete c .peerAbsent 1 [] (s.modWorker w (fun x => { x with tunnel := x.tunnel.filter (· ≠ seq) }))
    else s
  | none => s

/-! ## Registers -/

/-- Workers in a range of states. -/
def workersIn (p : Nat → Bool) (s : State) : List Nat := (List.range 32).filter (fun w => p (s.worker w).state)

def mgrStatus (s : State) : Nat :=
  s.dev.role.toNat * 2 ^ 24 + (workersIn (fun n => decide (n = 4)) s).length * 2 ^ 8 + (workersIn (fun n => decide (n ≠ 0)) s).length

def wrkStatus (w : Nat) (s : State) : Nat :=
  let x := s.worker w
  x.slotId * 2 ^ 24 + x.credit * 2 ^ 20 + b2n x.following * 2 ^ 19 + b2n x.linkProt * 2 ^ 18 +
    b2n x.dupHeld * 2 ^ 17 + x.version * 2 ^ 8 + x.state

def wrkRange (w : Nat) (s : State) : Nat := (s.worker w).retries * 2 ^ 24 + (s.worker w).spread

/-- WRK_ERR: the current window's count. -/
def wrkErr (w : Nat) (s : State) : Nat :=
  let win := s.clk.tick >>> 6
  win.toNat % 2 ^ 24 * 2 ^ 8 + (if (s.worker w).errWindow = win then (s.worker w).errCount else 0)

def wrkPull (w : Nat) (s : State) : Nat := (s.worker w).pulls.length * 2 ^ 16 + (s.worker w).leadNs

/-- The manager registers, by their offsets from 0x0006_0000. -/
def readManager (off : Nat) (s : State) : Option Nat :=
  if off = 0 then some (mgrStatus s)
  else if off = 4 then some (maskOf (workersIn (fun n => decide (n ≠ 0)) s))
  else if off = 8 then some (maskOf (workersIn (fun n => decide (n = 5)) s))
  else if off = 12 then some 200
  else if 0x1000 ≤ off ∧ off < 0x1800 then
    let w := (off - 0x1000) / 0x40
    match (off - 0x1000) % 0x40 with
    | 0 => some (wrkStatus w s)
    | 4 => some ((s.worker w).delay % 2 ^ 20)
    | 8 => some (wrkRange w s)
    | 12 => some (wrkErr w s)
    | 16 => some (wrkPull w s)
    | _ => none
  else none

/-! ## Commands (R282–R284, 19 R428) -/

/-- Worker opcodes target a worker and need the manager role. -/
def workerSpec (op : Nat) (check : CmdReq → State → Option Status) (s : State) : CmdSpec :=
  { op, kind := 2, target := fun _ => decide (s.dev.role = 1), check }

def wrkCfgOf (p : Bytes) : WrkCfg :=
  { admitEn := bit (u8 p 0) 0, linkProtect := bit (u8 p 0) 1, eventsEn := bit (u8 p 0) 2, errBudget := u8 p 1
    asym := signed 16 (u16 p 2), maxDelay := u16 p 4, pullMargin := u16 p 6, removalHold := u16 p 8, eventQueue := u16 p 10 }

def badWrkCfg (p : Bytes) : Bool :=
  let c := wrkCfgOf p
  decide (7 < u8 p 0) || decide (c.errBudget = 0) || decide (1600 < c.asym.natAbs) || decide (c.maxDelay = 0) || decide (4000 < c.maxDelay) ||
    decide (c.pullMargin < 8) || decide (1000 < c.pullMargin) || !exceptionQueue c.eventQueue

def WrkCfg.bytes (c : WrkCfg) : Bytes :=
  le 1 (b2n c.admitEn + 2 * b2n c.linkProtect + 4 * b2n c.eventsEn) ++ le 1 c.errBudget ++ le 2 (unsigned 16 c.asym) ++ le 2 c.maxDelay ++
    le 2 c.pullMargin ++ le 2 c.removalHold ++ le 2 c.eventQueue

def specWorkerConfig (s : State) : CmdSpec := { workerSpec 0x0610 (params 12 (fun q _ => badWrkCfg q.body)) s with force := true }

/-- WORKER_CONFIG (R283). -/
def effWorkerConfig (c : Cmd) (s : State) : Res :=
  let w := c.req.index
  let x := s.worker w
  let n := wrkCfgOf c.req.body
  let drops := decide (x.state = 4) && !n.admitEn
  let relinks := decide (2 ≤ x.state) && (x.cfg.linkProtect != n.linkProtect)
  if (drops || relinks) && !c.req.force then .fail .busyService s
  else
    let s := s.modWorker w (fun x => { x with cfgNext := some n, cfg := { x.cfg with
      admitEn := n.admitEn, linkProtect := n.linkProtect, asym := n.asym, maxDelay := n.maxDelay, pullMargin := n.pullMargin } })
    .ok [] (if relinks then (if (s.lane w).state = .locked then workerToW1 w s else workerToW0 w s) else if drops then setWorkerState w 3 (workerCleanup w s) else s)

def execWorkerConfig (q : CmdReq) (s : State) : State := runCmd (specWorkerConfig s) effWorkerConfig q s

def specWorkerQuery (s : State) : CmdSpec := { workerSpec 0x0611 (fun q _ => lenIs 0 q) s with reads := true }

/-- WORKER_QUERY (R282). -/
def effWorkerQuery (c : Cmd) (s : State) : Res :=
  let w := c.req.index
  .ok (le 4 (wrkStatus w s) ++ le 4 ((s.worker w).delay % 2 ^ 20) ++ le 4 (wrkRange w s) ++ le 4 (wrkErr w s) ++ le 4 (wrkPull w s) ++
    (s.worker w).cfg.bytes) s

def execWorkerQuery (q : CmdReq) (s : State) : State := runCmd (specWorkerQuery s) effWorkerQuery q s

def specWorkerRecover (s : State) : CmdSpec := workerSpec 0x0612 (fun q _ => lenIs 0 q) s

/-- WORKER_RECOVER (R258). -/
def effWorkerRecover (c : Cmd) (s : State) : Res :=
  let w := c.req.index
  if (s.worker w).state ≠ 5 then .fail .notFound s
  else
    let s := s.modWorker w (fun x => { x with errCount := 0 })
    .ok [] (if (s.lane w).state = .locked then workerToW1 w s else workerToW0 w s)

def execWorkerRecover (q : CmdReq) (s : State) : State := runCmd (specWorkerRecover s) effWorkerRecover q s

def specWorkerRerange (s : State) : CmdSpec := workerSpec 0x0613 (fun q _ => lenIs 0 q) s

/-- WORKER_RERANGE (R264): completes with the result. One that finds a ranging under way is told to come again (log 51). -/
def effWorkerRerange (c : Cmd) (s : State) : Res :=
  let x := s.worker c.req.index
  if (x.state = 3 ∨ x.state = 4) ∧ x.ranging = false then .later (startRanging c.req.index true s) else .fail .busyRetry s

def execWorkerRerange (q : CmdReq) (s : State) : State := runCmd (specWorkerRerange s) effWorkerRerange q s

def specWorkerRelease (s : State) : CmdSpec := workerSpec 0x0614 (fun q _ => lenIs 0 q) s

/-- WORKER_RELEASE (R281): completes at LEAVE_ACK. -/
def effWorkerRelease (c : Cmd) (s : State) : Res :=
  let w := c.req.index
  if (s.worker w).state ≠ 4 then .fail .notFound s
  else
    let s := withdrawLater w (s.modWorker w (fun x => { x with leaving := true }))
    .later (sendBlock w 0x78 2 ((drainLeaving w s).modWorker w (fun x => { x with leaveSent := true })))

def execWorkerRelease (q : CmdReq) (s : State) : State := runCmd (specWorkerRelease s) effWorkerRelease q s

/-- The inner command is whole and not asynchronous (R284). -/
def checkWorkerCmd (q : CmdReq) (_ : State) : Option Status :=
  let p := q.body
  if p.length < 32 ∨ 4096 < p.length then some .badLength
  else if bit (u8 p 8) 0 ∨ p.length ≠ 32 + u16 p 4 then some .badParam
  else none

def specWorkerCmd (s : State) : CmdSpec := workerSpec 0x0615 checkWorkerCmd s

/-- WORKER_CMD (R275, R284): sent as a frame of KIND 1; completes with the reply. -/
def effWorkerCmd (c : Cmd) (s : State) : Res :=
  let w := c.req.index
  let x := s.worker w
  if x.state < 2 then .fail .peerAbsent s
  else if 4 ≤ x.tunnel.length then .fail .busyRetry s
  else
    let s := s.modWorker w (fun x => { x with tunnel := x.tunnel ++ [c.seq] })
    .later (sendTunnel w { kind := 1, data := c.req.body } s)

/-- The tunnelled command's transfer, through port 6 (14 Table 14.5); until it is granted the command waits. -/
def effWorkerCmdXfer (c : Cmd) (s : State) : Res :=
  if (s.worker c.req.index).state < 2 ∨ 4 ≤ (s.worker c.req.index).tunnel.length ∨ hasTurn 6 [35] s = true then
    effWorkerCmd c (passXfer 6 s)
  else .later (requestXfer 6 [35] (.command c.seq) s)

def execWorkerCmd (q : CmdReq) (s : State) : State := runCmd (specWorkerCmd s) effWorkerCmdXfer q s

def specWorkerImage (s : State) : CmdSpec :=
  workerSpec 0x0620 (params 16 (fun q _ => decide (u32 q.body 8 < 4288) || decide (786624 < u32 q.body 8) || !allZero (slice q.body 12 4))) s

/-- The image of a WORKER_IMAGE has been read: it is sent (19 R425, R428). -/
def imageFetched (c : Cmd) (s : State) : State :=
  match SMap.get none s.mem.fetches c.seq with
  | some f => sendImage c.req.index c.seq f.data (endFetch c.seq s)
  | none => s

/-- WORKER_IMAGE (19 R428): the image is read from host memory, then sent in chunks to a worker whose ROM waits for it. -/
def effWorkerImage (image : Bytes) (c : Cmd) (s : State) : Res :=
  let w := c.req.index
  let x := s.worker w
  if x.state ≠ 1 ∨ x.helloSeen = false ∨ x.peerVersions ≠ 0 then .fail .notFound s
  else if (SMap.get none s.boot.images w).isSome then .fail .busyRetry s
  else if !hasTurn 0 hostRead_ s && breachesRank 0 hostRead_ s then refuseWait s
  else
    let n := u32 c.req.body 8
    let run : ImageRun := { cmd := c.seq, lastPs := 0, startTick := ownTick s }
    .later (fetchData c n (fit n image) { s with boot := { s.boot with images := SMap.set none s.boot.images w (some run) } })

def execWorkerImage (q : CmdReq) (image : Bytes) (s : State) : State := runCmd (specWorkerImage s) (effWorkerImage image) q s

/-- WORKER_IMAGE_TIMEOUT (19 R428): no firmware HELLO within 50 ms of the last chunk. -/
def execWorkerImageTimeout (w : Nat) (s : State) : State :=
  match SMap.get none s.boot.images w with
  | some r =>
    if w < 32 ∧ (SMap.get none s.mem.fetches r.cmd).isNone then endImage w .peerAbsent (advanceTo (r.lastPs + 50000000000) s) else s
  | none => s

end Sys2Proof.Machine
end

