-- ==== Sys2Proof/Machine/Lanes.lean ====
section
/-!
DEFINITION. Backplane lanes and host ports (09): lane states and block alignment, electrical idle, the lane setting table,
received and transmitted frames of the host MACs, their commands and registers.
-/

namespace Sys2Proof.Machine

/-! ## Leaving and entering states (Table 9.5) -/

/-- What follows when a worker, manager or mirror lane leaves LOCKED (R233, 10 Table 10.3). -/
def lostLock (n : Nat) (s : State) : State := if n < 32 then workerUnlocked n s else s

/-- A lane leaves whatever state it is in, for DOWN or FAULT. -/
def leaveState (n : Nat) (st : LaneState) (s : State) : State :=
  let old := (s.lane n).state
  let s := completeRunningAt 0x0603 n .busyRetry [] s
  let s := s.modLane n (fun x => { x with
    state := st, signal := false, txIdle := false, eidleAt := none, burstEnd := none, validRun := 0, eidle := [], idlePs := none })
  if old = .locked ∨ old = .rxIdle then lostLock n s
  else if old = .legacy then disableTrib (n - 24) s
  else s

/-- A lane goes to DOWN: transmitter quiet, no settings. -/
def laneDown (n : Nat) (s : State) : State :=
  let s := leaveState n .down s
  s.modLane n (fun x => { hdrErr := x.hdrErr, prbsErr := x.prbsErr })

/-- LOCKED: the first window of 64 headers begins (R231, R232). -/
def laneLocked (n : Nat) (s : State) : State :=
  let s := raise .laneUp 3 n 0 (s.modLane n (fun x => { x with state := .locked, winCount := 0, winBad := 0, eidle := [] }))
  if n < 32 then workerLocked n s else { s with helloAt := SMap.set 0 s.helloAt n 0 }

/-- Back to HUNT with LANE_DOWN and LANE_LOCK_LOSS. -/
def lockLoss (n : Nat) (s : State) : State :=
  let s := s.modLane n (fun x => { x with state := .hunt, validRun := 0, idlePs := none, eidle := [] })
  lostLock n (count .laneLockLoss n (raise .laneDown 3 n 0 s))

/-- WAIT_SIGNAL is entered: the receiver's decoder and the transmitter's precoder start from 0 (R227). -/
def waitSignal (n : Nat) (s : State) : State :=
  let x := s.lane n
  emit (.laneStarts n x.rate (x.settings.getD {}).flags)
    (s.modLane n (fun x => { x with state := .waitSignal, validRun := 0, eidle := [], rxLast := 0 }))

/-- HUNT is entered on a signal: the candidate is the position at which the received bits begin (R231, log 902). -/
def Lane.hunts (x : Lane) : Lane := { x with state := .hunt, validRun := 0, candidate := 0, slip := 0, rxBits := [] }

/-- EIDLE is announced: at least 8 EIDLE blocks among the last 16 headers (R235). -/
def Lane.announced (x : Lane) : Bool := decide (8 ≤ (x.eidle.filter id).length)

/-- LANE_SIGNAL_DETECT (R231, R237): after 1 µs of signal, in RX_IDLE within 10 ns (wake cause 5, 16 Table 16.4). -/
def execLaneSignalDetect (n : Nat) (s : State) : State :=
  let x := s.lane n
  match x.state with
  | .waitSignal => s.modLane n (fun x => { (if n < 36 then x.hunts else x) with signal := true, validRun := 0 })
  | .rxIdle =>
    if x.signal then s
    else
      let s := s.modLane n (fun x => { x with signal := true, idlePs := some s.clk.nowPs })
      if n < 32 then fireWake 5 s else s
  | .legacy => if x.signal then s else tribSignal (n - 24) true (s.modLane n (fun x => { x with signal := true }))
  | _ => s.modLane n (fun y => { y with signal := decide (x.state ≠ .down ∧ x.state ≠ .fault) })

/-- LANE_SIGNAL_LOSS (R231, R237). -/
def execLaneSignalLoss (n : Nat) (s : State) : State :=
  let x := s.lane n
  let quiet := s.modLane n (fun x => { x with signal := false })
  match x.state with
  | .hunt => waitSignal n quiet
  | .locked =>
    if 36 ≤ n then quiet
    else if x.announced then quiet.modLane n (fun x => { x with state := .rxIdle, idlePs := none })
    else lostLock n (raise .laneDown 3 n 0 (waitSignal n quiet))
  | .rxIdle => quiet.modLane n (fun x => { x with idlePs := none })
  | .legacy => if x.signal then tribSignal (n - 24) false quiet else s
  | _ => quiet

/-- The address of a lane's LANE_HDR_ERR. -/
def hdrErrAddr (n : Nat) : Nat := 0x50004 + 0x400 * n

/-- Invalid headers and PRBS31 bit errors are added to LANE_HDR_ERR, each noted with its clock (R232, R234, R246). -/
def addHdrErr (n k : Nat) (s : State) : State :=
  let x := s.lane n
  noteRc (2 * hdrErrAddr n) x.hdrErr k (s.modLane n (fun x => { x with hdrErr := satAdd 65535 x.hdrErr k }))

def addPrbsErr (n k : Nat) (s : State) : State :=
  let x := s.lane n
  noteRc (2 * hdrErrAddr n + 1) x.prbsErr k (s.modLane n (fun x => { x with prbsErr := satAdd 65535 x.prbsErr k }))

/-- What arrives at a lane's receiver: in near-end loopback what its own transmitter has sent and the receiver not yet taken, a block's
worth at most (R234); else the symbols from the board. -/
def arriving (n : Nat) (symbols : List (Fin 4)) (s : State) : List (Fin 4) × State :=
  let x := s.lane n
  if x.loopback = 1 then
    let l := ((lineOf n {} s.out.reverse).drop x.looped).take (if pam4 x.rate then 33 else 66)
    (l, s.modLane n (fun x => { x with looped := x.looped + l.length }))
  else (symbols, s)

/-- The receiver takes symbols and cuts the next block of 66 bits at the candidate position, or at its alignment, where it has that many
(R225–R227, R231): the bits of the sync header, the 64 descrambled bits. -/
def Lane.nextBlock (x : Lane) (l : List (Fin 4)) : Option (Bool × Bool × Nat) × Lane :=
  let (bits, rxLast) := decodeSymbols x.rate (x.settings.getD {}).flags x.rxLast l
  let all := x.rxBits ++ bits
  let rest := all.drop x.slip
  let x := { x with rxLast, slip := x.slip - all.length, rxBits := rest }
  if rest.length < 66 then (none, x)
  else
    let (p, rxScr) := throughBits descrambleBit x.rxScr ((rest.drop 2).take 64)
    (some (rest.getD 0 false, rest.getD 1 false, ofBits p), { x with rxScr, rxBits := rest.drop 66 })

/-- A control block that a receiver ignores and counts: its type is not in Table 10.1, or it is TIME_S, which has no row of its own,
on a lane of version 1 (10 R252). -/
def ignoredBlock (n type : Nat) (s : State) : Bool :=
  !mapiynTypes.contains type || (decide (type = 0x56) && decide ((if s.dev.role = 2 then s.role.version else (s.worker n).version) < 2))

/-- A lane in HUNT has a header at its candidate (Table 9.5): the 64th valid one in a row locks it, an invalid one slips the candidate by
one bit. -/
def huntHeader (n : Nat) (valid : Bool) (s : State) : State :=
  let x := s.lane n
  if !valid then s.modLane n (fun x => { x with validRun := 0, slip := 1, candidate := (x.candidate + 1) % 66 })
  else if 64 ≤ x.validRun + 1 then laneLocked n (s.modLane n (fun x => { x with validRun := 0 }))
  else s.modLane n (fun x => { x with validRun := x.validRun + 1 })

/-- A lane in LOCKED has a block (R232, R235): its header is counted in the window, the 16th invalid one of a window loses the lock. -/
def lockedHeader (n : Nat) (valid eidle : Bool) (s : State) : State :=
  let x := s.lane n
  let bad := x.winBad + b2n !valid
  let last := decide (64 ≤ x.winCount + 1)
  let s := s.modLane n (fun x => { x with
    winCount := if last then 0 else x.winCount + 1, winBad := if last then 0 else bad, eidle := (eidle :: x.eidle).take 16 })
  let s := if valid then s else count .laneHdrErr n (addHdrErr n 1 s)
  if 16 ≤ bad then lockLoss n s else s

/-- A block at the receiver. EIDLE blocks are not passed to Mapiyn, unknown control blocks are ignored and counted (10 R252); what the other
blocks carry comes with rows of its own. -/
def takeBlock (n : Nat) (b : Bool × Bool × Nat) (s : State) : State :=
  let valid := b.1 != b.2.1
  let control := b.1 && !b.2.1
  let eidle := control && decide (b.2.2 = (controlBlock 0x1E eidleBody).2)
  match (s.lane n).state with
  | .hunt => huntHeader n valid s
  | .locked =>
    let s := if control && !eidle && decide (n < 32) && mapiynLane n s && ignoredBlock n (b.2.2 % 256) s then
        count .mapiynUnknownBlock (if s.dev.role = 2 then 32 else n) s
      else s
    lockedHeader n valid eidle s
  | _ => s

/-- Symbols at a lane whose state listens (R231, R234): PRBS31 is checked bit by bit, else a block may be complete. -/
def takeSymbols (n : Nat) (l : List (Fin 4)) (s : State) : State :=
  let x := s.lane n
  if x.state ≠ .hunt ∧ x.state ≠ .locked then s
  else if x.prbs then
    let (bits, rxLast) := decodeSymbols x.rate (x.settings.getD {}).flags x.rxLast l
    let (errs, seen, r) := bits.foldl prbsCheck (0, x.prbsSeen, x.prbsRx)
    countN .lanePrbsErr n errs (addPrbsErr n errs (s.modLane n (fun x => { x with rxLast, prbsSeen := seen, prbsRx := r })))
  else
    let (b, y) := x.nextBlock l
    let s := s.setLane n y
    match b with
    | some b => takeBlock n b s
    | none => s

/-- LANE_BLOCK_RECEIVED (R232, R234). Far-end loopback sends the received symbols back. -/
def execLaneBlockReceived (n : Nat) (symbols : List (Fin 4)) (s : State) : State :=
  let (l, s) := arriving n symbols (laneFill n (settleIdle n s))
  let x := s.lane n
  takeSymbols n l (if x.loopback = 2 ∧ x.state ≠ .down ∧ x.state ≠ .fault then emit (.laneSymbols n l) s else s)

/-- LANE_TRAINING_MARKER (R236): the end marker of a training burst; the alignment is the first bit after it, and the headers are checked in
a new window. A worker that lost W1–W5 meanwhile begins again (10 Table 10.3). -/
def execLaneTrainingMarker (n : Nat) (s : State) : State :=
  if (s.lane n).state = .rxIdle ∧ (s.lane n).signal then
    workerLocked n (s.modLane n (fun x => { x with
      state := .locked, winCount := 0, winBad := 0, eidle := [], idlePs := none, candidate := 0, slip := 0, rxBits := [] }))
  else s

/-- LANE_IDLE_EXIT_TIMEOUT (R231): signal present in RX_IDLE, and no end marker within 200 ns. -/
def execLaneIdleExitTimeout (n : Nat) (s : State) : State :=
  match (s.lane n).state, (s.lane n).idlePs with
  | .rxIdle, some ps => lockLoss n (advanceTo (ps + 200000) s)
  | _, _ => s

/-- A host port's link changes (MAC_STATUS). -/
def setMacLink (h : Nat) (up : Bool) (s : State) : State :=
  let m := s.mac h
  if m.link = up then s
  else raise .macLink 3 (36 + h) (b2n up) (s.setMac h { m with link := up })

/-- The lanes that a host port uses in a mode (R239). -/
def hostLanes (h mode : Nat) : List Nat := if mode = 2 then [36, 37, 38, 39] else if mode = 1 then [36 + h] else []

/-- The host port that a host lane serves. -/
def portOfLane (n : Nat) (s : State) : Nat := if (s.mac 0).cfg.mode = 2 then 0 else n - 36

/-- LANE_CELL_FAULT (R17, Table 9.5). -/
def execLaneCellFault (n : Nat) (s : State) : State :=
  if (s.lane n).state = .fault then s
  else
    let s := noteLaneFault (raise .laneFault 3 n 0 (leaveState n .fault s))
    if n < 36 then s else setMacLink (portOfLane n s) false s

/-! ## Registers (R246) -/

/-- USE of a lane. -/
def laneUse (n : Nat) (s : State) : Nat :=
  if 36 ≤ n then 3 else if 32 ≤ n then 2 else if (s.lane n).state = .legacy then 1 else 0

/-- STATE of a lane; a host lane reads 3 while its PCS is locked. -/
def laneState (n : Nat) (s : State) : Nat :=
  match (s.lane n).state with
  | .down => 0
  | .fault => 6
  | st =>
    if 36 ≤ n then (if (s.mac (portOfLane n s)).link then 3 else 1)
    else match st with
      | .waitSignal => 1
      | .hunt => 2
      | .locked => 3
      | .rxIdle => 4
      | _ => 5

/-- The settings in force; nothing in DOWN. -/
def laneSet (n : Nat) (s : State) : LaneSet := (s.lane n).settings.getD {}

/-- LANE_STATUS. -/
def laneStatus (n : Nat) (s : State) : Nat :=
  let x := s.lane n
  let f := (laneSet n s).flags
  x.rate * 2 ^ 20 + x.loopback * 2 ^ 16 + b2n x.prbs * 2 ^ 15 + b2n x.txIdle * 2 ^ 14 + b2n x.signal * 2 ^ 13 +
    b2n (bit f 1) * 2 ^ 12 + b2n (bit f 0) * 2 ^ 11 + laneUse n s * 2 ^ 8 + laneState n s

/-- LANE_HDR_ERR_READ (R246): both fields are returned and cleared; an error of the same clock is counted after the read (00 R11). -/
def execLaneHdrErrRead (p : Path) (n : Nat) (same : Bool) (s : State) : State :=
  let addr := hdrErrAddr n
  hostRead p addr (fun s =>
    let x := s.lane n
    let (h, hLeft) := rcRead same (2 * addr) x.hdrErr s
    let (e, eLeft) := rcRead same (2 * addr + 1) x.prbsErr s
    answer p addr (BitVec.ofNat 32 (e * 65536 + h))
      (s.modLane n (fun x => { x with hdrErr := min 65535 hLeft, prbsErr := min 65535 eLeft }))) s

/-- MAC_STATUS. -/
def macStatus (h : Nat) (s : State) : Nat :=
  let m := s.mac h
  m.threshold * 65536 + macMode h s * 4 + b2n m.link * 2 + b2n m.link

/-- Bytes held in a host port's receive buffer (R240). -/
def macHeld (h : Nat) (s : State) : Nat := ((s.waitUp.filter (fun f => decide (f.ingress = 4 + h))).map Frame.len).sum

/-- The lane and host-port registers that no read changes, at offsets from 0x0005_0000. -/
def readLanes (off : Nat) (s : State) : Option Nat :=
  if off < 0xA000 then
    let n := off / 0x400
    let x := laneSet n s
    match off % 0x400 with
    | 0 => some (laneStatus n s)
    | 8 => some (x.flags * 2 ^ 24 + unsigned 8 x.txPost * 2 ^ 16 + x.txMain * 2 ^ 8 + unsigned 8 x.txPre)
    | 12 => some (unsigned 8 x.dfe3 * 2 ^ 24 + unsigned 8 x.dfe2 * 2 ^ 16 + unsigned 8 x.dfe1 * 2 ^ 8 + x.ctle)
    | _ => none
  else if 0xC000 ≤ off ∧ off < 0xC400 then
    let h := (off - 0xC000) / 0x100
    match off % 0x100 with
    | 0 => some (macStatus h s)
    | 4 => some (macHeld h s)
    | _ => none
  else match off, s.laneTable with
    | 0xF000, some t => some (2 ^ 31 + t.entries.length * 65536 + t.revision)
    | 0xF000, none => some 0
    | 0xF004, some t => some t.board.toNat
    | 0xF004, none => some 0
    | _, _ => none

/-! ## The lane setting table (R228–R230) -/

/-- May a lane run a rate (Table 9.1)? -/
def rateAllowed (lane rate : Nat) : Bool :=
  decide (rate ≤ if lane < 24 then 4 else if lane < 32 then 6 else if lane < 36 then 1 else 0)

/-- Table 9.6. -/
def builtinSet (lane rate : Nat) : LaneSet :=
  match rate with
  | 0 => { lane, rate, txPre := -6, txMain := 48, txPost := -10, ctle := 18 }
  | 1 => { lane, rate, txPre := -4, txMain := 52, txPost := -8, ctle := 14 }
  | 2 => { lane, rate, txPre := -2, txMain := 54, txPost := -8, ctle := 12 }
  | 3 => { lane, rate, txMain := 56, txPost := -8, ctle := 8 }
  | 5 => { lane, rate, txMain := 63, ctle := 4 }
  | _ => { lane, rate, txMain := 63 }

/-- The settings for a lane and rate, and whether they are built in (R228, R230). -/
def findSettings (lane rate : Nat) (s : State) : Option (LaneSet × Bool) :=
  match s.laneTable with
  | none => some (builtinSet lane rate, true)
  | some t => (t.entries.find? (fun e => decide (e.lane = lane ∧ e.rate = rate))).map (fun e => (e, false))

/-- An entry (Table 9.4) and its bytes. -/
def entryOf (p : Bytes) : LaneSet :=
  { lane := u8 p 0, rate := u8 p 1, flags := u8 p 2, txPre := signed 8 (u8 p 4), txMain := u8 p 5, txPost := signed 8 (u8 p 6)
    ctle := u8 p 7, dfe1 := signed 8 (u8 p 8), dfe2 := signed 8 (u8 p 9), dfe3 := signed 8 (u8 p 10) }

def LaneSet.bytes (x : LaneSet) : Bytes :=
  le 1 x.lane ++ le 1 x.rate ++ le 1 x.flags ++ zeros 1 ++ le 1 (unsigned 8 x.txPre) ++ le 1 x.txMain ++
    le 1 (unsigned 8 x.txPost) ++ le 1 x.ctle ++ le 1 (unsigned 8 x.dfe1) ++ le 1 (unsigned 8 x.dfe2) ++ le 1 (unsigned 8 x.dfe3) ++
    zeros 5

/-- An entry fails R229 beside the order of entries. -/
def badLaneEntry (p : Bytes) : Bool :=
  let x := entryOf p
  decide (39 < x.lane) || !rateAllowed x.lane x.rate || decide (15 < x.flags) || decide (u8 p 3 ≠ 0) || !allZero (slice p 11 5) ||
    decide (x.txPre < -16 ∨ 0 < x.txPre) || decide (x.txMain < 16 ∨ 63 < x.txMain) || decide (x.txPost < -24 ∨ 0 < x.txPost) ||
    decide (64 < x.txPre.natAbs + x.txMain + x.txPost.natAbs) || decide (31 < x.ctle) ||
    (decide (1 < x.rate) && decide (x.flags % 4 ≠ 0)) || decide (x.dfe1 < -32 ∨ 31 < x.dfe1) ||
    decide (x.dfe2 < -16 ∨ 15 < x.dfe2) || decide (x.dfe3 < -16 ∨ 15 < x.dfe3) ||
    (decide (5 ≤ x.rate) && decide (x.dfe1 ≠ 0 ∨ x.dfe2 ≠ 0 ∨ x.dfe3 ≠ 0))

/-- The header of a table fails R229. -/
def badTableHeader (p : Bytes) : Bool :=
  let n := u16 p 6
  decide (u32 p 0 ≠ 0x4254534C) || decide (u8 p 4 ≠ 1) || decide (u8 p 5 ≠ 0) || decide (188 < n) ||
    decide (u16 p 14 ≠ 0) || decide (p.length ≠ 32 + 16 * n) ||
    decide ((crc32 (p.take 16 ++ zeros 4 ++ p.drop 20)).toNat ≠ u32 p 16) || !allZero (slice p 20 12)

/-- The first entry that fails, from entry k on. -/
def firstBadEntry : Nat → Option (Nat × Nat) → Bytes → Nat → Option Nat
  | 0, _, _, _ => none
  | n + 1, prev, p, k =>
    let e := entryOf p
    let rising := match prev with
      | none => true
      | some (l, r) => decide (l < e.lane) || (decide (l = e.lane) && decide (r < e.rate))
    if badLaneEntry p || !rising then some k else firstBadEntry n (some (e.lane, e.rate)) (p.drop 16) (k + 1)

def specLaneTableLoad : CmdSpec :=
  { op := 0x0600
    check := fun q _ => if q.body.length < 32 ∨ 3040 < q.body.length then some .badLength else none }

/-- LANE_TABLE_LOAD (R229, R230). -/
def effLaneTableLoad (c : Cmd) (s : State) : Res :=
  let p := c.req.body
  if badTableHeader p then .done .badParam 0xFFFFFF [] s
  else match firstBadEntry (u16 p 6) none (p.drop 32) 0 with
    | some k => .done .badParam k [] s
    | none =>
      let es := (List.range (u16 p 6)).map (fun k => entryOf (slice p (32 + 16 * k) 16))
      .ok (le 2 es.length ++ slice p 12 2 ++ slice p 8 4)
        { s with laneTable := some { board := w32 p 8, revision := u16 p 12, entries := es } }

def execLaneTableLoad (q : CmdReq) (s : State) : State := runCmd specLaneTableLoad effLaneTableLoad q s

/-! ## Lane commands (R247–R249) -/

/-- A lane is in use (R247). -/
def laneInUse (n : Nat) (s : State) : Bool :=
  if 36 ≤ n then (s.mac (portOfLane n s)).link
  else if 32 ≤ n then s.pair.mirrorUp && decide ((s.lane n).state = .locked)
  else decide (1 ≤ (s.worker n).state) ||
    (decide (24 ≤ n) && decide ((s.lane n).state = .legacy) && (s.trib (n - 24)).enable)

/-- The power domain of a lane (16 Table 16.1). -/
def laneDomain (n : Nat) : Nat := 7 + n / 10

def specLaneConfig : CmdSpec :=
  { op := 0x0601, kind := 3, target := fun n => decide (n < 36), force := true
    check := params 4 (fun q _ =>
      let p := q.body
      decide (1 < u8 p 0) || decide (u8 p 0 = 0 ∧ u8 p 1 ≠ 0) || decide (2 < u8 p 2) || decide (1 < u8 p 3) ||
        (decide (u8 p 0 = 1) && !rateAllowed q.index (u8 p 1)) ||
        (decide (5 ≤ u8 p 1) && decide (u8 p 2 ≠ 0 ∨ u8 p 3 ≠ 0))) }

/-- Enable a lane from DOWN at a rate with its settings (Table 9.5): the transmitter runs and puts out its first block (R231). -/
def enableLane (n rate loopback : Nat) (prbs : Bool) (x : LaneSet) (builtin : Bool) (s : State) : State :=
  let s := emit (.laneStarts n rate x.flags) (s.modLane n (fun l => { l with
    state := if 5 ≤ rate then .legacy else .waitSignal, rate, loopback, prbs, settings := some x, builtin
    looped := if loopback = 1 then (lineOf n {} s.out.reverse).length else 0 }))
  if n < 36 ∧ rate < 5 then laneFill n s else s

/-- What Quill holds of LANE_CONFIG of a lane. -/
def laneNote (n : Nat) (s : State) : Nat × Nat × Nat × Bool :=
  let x := s.lane n
  (n, x.rate, x.loopback, x.prbs)

/-- Lanes that have gone down are enabled again as they were. -/
def reenable (l : List (Nat × Nat × Nat × Bool)) (s : State) : State :=
  l.foldl (fun s (n, rate, loopback, prbs) =>
    if (s.lane n).state = .down then
      match findSettings n rate s with
      | some (e, b) => enableLane n rate loopback prbs e b s
      | none => s
    else s) s

/-- LANE_CONFIG (R248). -/
def effLaneConfig (c : Cmd) (s : State) : Res :=
  let p := c.req.body
  let n := c.req.index
  let x := s.lane n
  let on := decide (u8 p 0 = 1)
  let disturbs := !on || decide (u8 p 1 ≠ x.rate) || decide (u8 p 2 ≠ 0) || decide (u8 p 3 ≠ 0)
  if x.state = .fault then .fail .hwFault s
  else if !domainOn (laneDomain n) s then .fail .busyRetry s
  else if laneInUse n s && disturbs && !c.req.force then .fail .busyService s
  else if !on then .ok (zeros 20) (laneDown n s)
  else match findSettings n (u8 p 1) s with
    | none => .fail .notFound s
    | some (e, b) =>
      .ok (e.bytes ++ le 1 (b2n b) ++ zeros 3)
        (enableLane n (u8 p 1) (u8 p 2) (bit (u8 p 3) 0) e b (laneDown n s))

def execLaneConfig (q : CmdReq) (s : State) : State := runCmd specLaneConfig effLaneConfig q s

def specLaneQuery : CmdSpec := { op := 0x0602, kind := 3, check := fun q _ => lenIs 0 q, reads := true }

/-- LANE_QUERY. -/
def effLaneQuery (c : Cmd) (s : State) : Res :=
  let n := c.req.index
  let set := match (s.lane n).settings with | some x => x.bytes | none => zeros 16
  .ok (le 4 (laneStatus n s) ++ set ++ le 1 (b2n (s.lane n).builtin) ++ zeros 3) s

def execLaneQuery (q : CmdReq) (s : State) : State := runCmd specLaneQuery effLaneQuery q s

def specLaneIdle : CmdSpec :=
  { op := 0x0603, kind := 3, target := fun n => decide (n < 32), force := true
    check := params 4 (fun q s =>
      let r := (s.lane q.index).rate
      decide (1 < u8 q.body 0) || !allZero (q.body.drop 1) || decide (4 ≤ r ∧ r ≤ 6)) }

/-- LANE_IDLE (R235, R236, R249): completes when the transmitter has stopped driving or has sent its end marker. A lane whose version
lets it not idle answers as one that is not LOCKED (log 1014); an entry that an exit of the same clock overrules has no effect. -/
def effLaneIdle (c : Cmd) (s : State) : Res :=
  let n := c.req.index
  let s := settleIdle n s
  let x := s.lane n
  let enter := decide (u8 c.req.body 0 = 1)
  if x.state ≠ .locked ∧ x.state ≠ .rxIdle then .fail .busyRetry s
  else if enter && !idleAllowed n s then .fail .busyRetry s
  else if enter = (x.txIdle || x.eidleAt.isSome) then .ok [] (if enter then s else s.modLane n (fun x => { x with exitClock := clockNo s }))
  else if enter && decide ((s.worker n).state = 4) && !c.req.force then .fail .busyService s
  else if enter then
    (if x.exitClock = clockNo s then .ok [] s else .later (requestIdle n s))
  else if x.txIdle then .later (requestWake true n s)
  else .ok [] (requestWake true n s)

def execLaneIdle (q : CmdReq) (s : State) : State := runCmd specLaneIdle effLaneIdle q s

/-! ## Host ports: receive (R240–R243) -/

/-- Room of a host port's receive buffer. -/
def macRoom (h : Nat) (s : State) : Nat := if macMode h s = 2 then 1048576 else 262144

/-- The address filter (R242). -/
def macPasses (m : MacCfg) (da : Bytes) : Bool :=
  bit m.flags 1 || (List.range 16).any (fun k => bit m.filterEn k && decide (m.filters.getD k [] = da)) ||
    (decide (da = List.replicate 6 0xFF) && bit m.flags 2) || (bit (u8 da 0) 0 && bit m.flags 3)

/-- Does a frame's FCS hold: the CRC-32 of the bytes before it? -/
def fcsHolds (data : Bytes) : Bool :=
  let n := data.length - 4
  decide (le 4 (crc32 (data.take n)).toNat = data.drop n)

/-- The errors of a frame as bits of ERRORS (Table 9.8): FCS, RUNT, OVERSIZE, CODE. -/
def macErrors (m : MacCfg) (len : Nat) (fcsOk codeErr : Bool) : Nat :=
  b2n !fcsOk + 2 * b2n (decide (len < 64)) + 4 * b2n (decide (m.maxFrame + 4 < len)) + 8 * b2n codeErr

/-- The counter of a bad frame: the first of CODE, RUNT, OVERSIZE and FCS (R241). -/
def macErrCounter (errs : Nat) : Ctr :=
  if bit errs 3 then .macRxCodeErr else if bit errs 1 then .macRxRunt else if bit errs 2 then .macRxOversize else .macRxFcsErr

/-- MAC_BAD_RX (R243, Table 9.8; FRAME_LENGTH: log 911). -/
def deliverBad (h errs : Nat) (data : Bytes) (s : State) : State :=
  let m := s.mac h
  let stored := data.take (min (m.cfg.maxFrame + 4) 4088)
  let f : Frame := { data := le 1 h ++ le 1 errs ++ le 2 (min 65535 data.length) ++ zeros 4 ++ stored, length := some (data.length - 4), ingress := 4 + h
                     pkt := some { op := 0x0680, tag := m.badTag, tick := s.clk.tick } }
  let (ok, s) := admitFrame m.cfg.badQueue 0 f (count .macRxBadDelivered h s)
  if ok then s.setMac h { s.mac h with badTag := (m.badTag + 1) % 65536 } else s

/-- With HOST_KEEP the bytes that a host port receives in a tick can wake the part, or end its falling asleep (16 Table 16.4, cause
6); frames received asleep are discarded and counted. -/
def macWake (h : Nat) (data : Bytes) (s : State) : State :=
  if s.pwr.cfg.hostKeep then
    let n := (s.mac h).wakeBytes + data.length
    let s := s.setMac h { s.mac h with wakeBytes := n }
    if s.pwr.cfg.wakeBytes ≠ 0 ∧ s.pwr.cfg.wakeBytes < n then fireWake 6 s else s
  else s

/-- A frame that reaches a port while the part is asleep. -/
def macAsleep (h : Nat) (data : Bytes) (s : State) : State :=
  if s.pwr.cfg.hostKeep then count .macRxOverflow h (macWake h data s) else s

/-- MAC_FRAME_RECEIVED (R241, Table 9.7). -/
def execMacFrameReceived (h : Nat) (data : Bytes) (codeErr : Bool) (s : State) : State :=
  let fcsOk := fcsHolds data
  let m := (s.mac h).cfg
  let mode := macMode h s
  if (mode ≠ 1 ∧ mode ≠ 2) ∨ !(s.mac h).link then s
  else if asleep s || decide (s.pwr.state = .waking) then macAsleep h data s
  else
  let s := if s.pwr.state = .awake then s else macWake h data s
  if macRoom h s < macHeld h s + m.maxFrame + 4 then count .macRxOverflow h s
  else if data.length < 6 then
    let s := count .macRxRunt h s
    if bit m.flags 0 then deliverBad h (macErrors m data.length fcsOk codeErr) data s else s
  else if !macPasses m (data.take 6) then count .macRxFiltered h s
  else
    let errs := macErrors m data.length fcsOk codeErr
    if errs ≠ 0 then
      let s := count (macErrCounter errs) h s
      if bit m.flags 0 then deliverBad h errs data s else s
    else if be16 data 12 = 0x8808 then count .macRxControl h s
    else
      let d := data.take (data.length - 4)
      let s := count .macRxFrames h (ptpReceive h d (s.clk.nowPs - (data.length + 1) * macBytePs h s) s)
      { s with waitUp := s.waitUp ++ [{ data := d, ingress := 4 + h }] }

/-! ## Host ports: transmit and link (R245) -/

/-- What a host port sends at an underrun: the bytes of the frame sent by now, and the complement of their FCS (R245). -/
def underrunEnd (h : Nat) (s : State) : Out :=
  let p := ((s.mac h).sending.map Frame.padded).getD []
  let b := macBytePs h s
  let left := (SMap.get 0 s.egressFree (32 + h) - s.clk.nowPs) / b
  let sent := p.take (p.length + 16 - left)
  .txEnded h sent (le 4 (~~~ crc32 sent).toNat)

/-- MAC_TX_UNDERRUN (R245): the frame in transmission needs a byte that has not arrived; the line is free again after the
FCS and the minimum gap. -/
def execMacTxUnderrun (h : Nat) (s : State) : State :=
  let m := s.mac h
  if m.sending.isNone || decide (m.threshold = 0xFFFF) || decide (SMap.get 0 s.egressFree (32 + h) ≤ s.clk.nowPs) then s
  else
    let t := if m.cfg.maxFrame ≤ m.threshold + 128 then 0xFFFF else m.threshold + 128
    let s := emit (underrunEnd h s) (s.setMac h { m with sending := none, sendCmd := none, threshold := if m.cfgClock = clockNo s then 256 else t })
    let s := count .macTxUnderrun h s
    let s := if m.cfgClock = clockNo s then s else raise .macTxThreshold 3 (36 + h) t s
    let s : State := { s with egressFree := SMap.set 0 s.egressFree (32 + h) (s.clk.nowPs + (if macMode h s = 2 then 320 else 1280)) }
    match m.sendCmd with
    | some (seq, stamp) =>
      match s.cmd.executing.find? (fun c => decide (c.seq = seq)) with
      | some c => complete c .ok 0 (timeValue stamp) s
      | none => s
    | none => s

/-- MAC_LINK_CHANGE: the PCS and FEC lock is won or lost. -/
def execMacLinkChange (h : Nat) (up : Bool) (s : State) : State :=
  let mode := macMode h s
  if !up then setMacLink h false s
  else if (mode = 1 ∨ mode = 2) ∧ domainOn 10 s ∧ (hostLanes h mode).all (fun n => decide ((s.lane n).state = .waitSignal)) then
    setMacLink h true s
  else s

/-! ## MAC commands (R250) -/

/-- The MAC_CONFIG block. -/
def macBlock (m : MacCfg) : Bytes :=
  le 1 m.mode ++ le 1 m.flags ++ le 2 m.maxFrame ++ le 2 m.badQueue ++ le 2 m.filterEn ++
    (m.filters.map (fun a => fit 6 a ++ zeros 2)).flatten

def macOfBlock (p : Bytes) : MacCfg :=
  { mode := u8 p 0, flags := u8 p 1, maxFrame := u16 p 2, badQueue := u16 p 4, filterEn := u16 p 6
    filters := (List.range 16).map (fun k => slice p (8 + 8 * k) 6) }

def badMac (h : Nat) (p : Bytes) (s : State) : Bool :=
  decide (2 < u8 p 0) || decide (15 < u8 p 1) || decide (u16 p 2 < 1514 ∨ 16383 < u16 p 2) ||
    decide (u16 p 4 < 12296 ∨ 16383 < u16 p 4) || (List.range 16).any (fun k => decide (u16 p (14 + 8 * k) ≠ 0)) ||
    (decide (h ≠ 0) && decide (u8 p 0 = 2)) || (decide (h ≠ 0) && decide (u8 p 0 ≠ 0) && decide ((s.mac 0).cfg.mode = 2)) ||
    (decide (u8 p 0 = 2) && [1, 2, 3].any (fun k => decide ((s.mac k).cfg.mode ≠ 0)))

def specMacConfig : CmdSpec :=
  { op := 0x0604, kind := 3, target := fun n => decide (36 ≤ n), force := true
    check := params 136 (fun q s => badMac (q.index - 36) q.body s) }

/-- A change of MODE: the port down, the settings applied, the PHY restarted (R250). -/
def restartMac (h mode : Nat) (s : State) : State :=
  let s := setMacLink h false s
  let s := (hostLanes h (s.mac h).cfg.mode).foldl (fun s n => if (s.lane n).state = .fault then s else laneDown n s) s
  (hostLanes h mode).foldl (fun s n =>
    match findSettings n 0 s with
    | some (e, b) => enableLane n 0 0 false e b s
    | none => s) s

/-- MAC_CONFIG (R250). -/
def effMacConfig (c : Cmd) (s : State) : Res :=
  let h := c.req.index - 36
  let m := macOfBlock c.req.body
  let old := (s.mac h).cfg.mode
  let changes := decide (m.mode ≠ old)
  if (hostLanes h m.mode).any (fun n => decide ((s.lane n).state = .fault)) then .fail .hwFault s
  else if changes && (s.mac h).link && !c.req.force then .fail .busyService s
  else if (hostLanes h m.mode).any (fun n => (findSettings n 0 s).isNone) then .fail .notFound s
  else
    let s := if changes then restartMac h m.mode s else s
    .ok [] (s.setMac h { s.mac h with cfg := m, threshold := 256, cfgClock := clockNo s })

def execMacConfig (q : CmdReq) (s : State) : State := runCmd specMacConfig effMacConfig q s

def specMacQuery : CmdSpec := { op := 0x0605, kind := 3, target := fun n => decide (36 ≤ n), check := fun q _ => lenIs 0 q, reads := true }

def effMacQuery (c : Cmd) (s : State) : Res :=
  let h := c.req.index - 36
  .ok (macBlock (s.mac h).cfg ++ le 4 (macStatus h s) ++ zeros 4) s

def execMacQuery (q : CmdReq) (s : State) : State := runCmd specMacQuery effMacQuery q s

end Sys2Proof.Machine
end

