-- ==== Sys2Proof/Machine/Cipher.lean ====
section
/-!
DEFINITION. The cipher block (13): the key window, bindings, the upstream encrypt list, faults of AES engines, and the
commands and registers of class 0x09.
-/

namespace Sys2Proof.Machine

/-! ## Slots and bindings (R327, R331) -/

/-- The KCV of a slot: bytes 0–2 of the AES of the zero block, byte 0 in bits 23:16; 0 for an empty slot (R329). -/
def kcvOf (k : KeySlot) : Nat :=
  if k.loaded then beNat ((aesEncrypt (k.key.take (if k.aes256 then 32 else 16)) (zeros 16)).take 3) else 0

/-- The use that a slot is bound to, as KEY_QUERY's USE gives it. -/
def slotUse (slot : Nat) (s : State) : Option Nat :=
  match s.cipher.pon.find? (fun e => decide (e.2 = some slot)) with
  | some (k, _) => some (k % 6 + 256 * (k / 6))
  | none =>
    match s.cipher.link.find? (fun e => decide (e.2.map LinkBind.slot = some slot)) with
    | some (k, _) => some (0x10 + k / 2 % 2 + 256 * (k / 4) + 65536 * (k % 2))
    | none => none

/-- The slot is bound as a unicast payload key (R329). -/
def unicastBound (slot : Nat) (s : State) : Bool :=
  match slotUse slot s with
  | some u => decide (u % 256 = 2) || decide (u % 256 = 3)
  | none => false

/-! ## The key window (R328–R330) -/

/-- A write of the key window: ignored and counted while BUSY (R330). -/
def windowWrite (f : State → State) (s : State) : State :=
  hostWrite (fun s => if s.cipher.busy then count .keyWindowBusy 0 s else f s) s

/-- Bits of a write that fall on fields (00 R12). -/
def setKeySlot (v : Word) (s : State) : State :=
  windowWrite (fun s => { s with cipher := { s.cipher with slotReg := v.setWidth 12, sizeReg := v.getLsbD 16 } }) s

/-- KEY_DATA_WRITE (R328). -/
def execKeyDataWrite (_ : Path) (n : Nat) (v : Word) (s : State) : State :=
  windowWrite (fun s => { s with cipher := { s.cipher with data := SMap.set 0 s.cipher.data n v, stageTick := some (ownTick s) } }) s

/-- The staged key's bytes. -/
def stagedKey (s : State) : Bytes := ((List.range 8).map (fun k => le 4 (SMap.get 0 s.cipher.data k).toNat)).flatten

/-- The staging words are cleared. -/
def clearStaging (s : State) : State := { s with cipher := { s.cipher with data := [], stageTick := none } }

/-- The operation of a KEY_CTRL write fails with a code of Table 13.2, in the order 4, 5, then its own (log 52). -/
def windowError (commit zeroise : Bool) (s : State) : Nat :=
  let slot := s.cipher.slotReg.toNat
  if commit && zeroise then 4
  else if s.lc.state = 4 then 5
  else if zeroise then (if (slotUse slot s).isSome then 2 else 0)
  else if unicastBound slot s then 1
  else if !s.cipher.sizeReg && !allZero ((stagedKey s).drop 16) then 3
  else 0

/-- The staged key is written into its slot. -/
def commitKey (s : State) : State :=
  storeKey s.cipher.slotReg.toNat { loaded := true, aes256 := s.cipher.sizeReg, key := stagedKey s } s

/-- A write of KEY_CTRL (R328–R330): COMMIT or ZEROISE acts, then ABORT clears the staging words. -/
def keyCtrl (commit zeroise abort : Bool) (s : State) : State :=
  windowWrite (fun s =>
    let s := if commit || zeroise then
        let e := windowError commit zeroise s
        let s : State := { s with cipher := { s.cipher with error := BitVec.ofNat 3 e } }
        if e ≠ 0 then s
        else if commit then
          let s := commitKey s
          { s with cipher := { s.cipher with busy := true, committing := true, stageTick := none } }
        else
          { s with cipher := { s.cipher with busy := true, committing := false
                                             slots := SMap.set {} s.cipher.slots s.cipher.slotReg.toNat {} } }
      else s
    if abort && !s.cipher.busy then clearStaging s else s) s

def execKeyCommit (_ : Path) (s : State) : State := keyCtrl true false false s
def execKeyZeroise (_ : Path) (s : State) : State := keyCtrl false true false s
def execKeyAbort (_ : Path) (s : State) : State := keyCtrl false false true s

/-- KEY_COMMIT_COMPLETE (R328): the staging words are cleared after a commit, KCV is set, BUSY falls. -/
def execKeyCommitComplete (s : State) : State :=
  if !s.cipher.busy then s
  else
    let s : State := { s with cipher := { s.cipher with busy := false } }
    if s.cipher.committing then
      clearStaging { s with cipher := { s.cipher with committing := false
                                                      kcv := kcvOf (SMap.get {} s.cipher.slots s.cipher.slotReg.toNat) } }
    else s

/-- KEY_STAGING_TIMEOUT (R328): 64 ticks after the last KEY_DATA write without a commit. -/
def execKeyStagingTimeout (s : State) : State := if ranFor 64 s.cipher.stageTick s then clearStaging s else s

/-! ## AES engines (R326) -/

/-- Move the stream of a fibre engine to the lowest engine left in its direction's pool. -/
def moveStream (stream : Nat) (s : State) : State :=
  let dir := if stream % 2 = 0 then 1 else 0
  { s with cipher := { s.cipher with tookOver := SMap.set none s.cipher.tookOver stream ((poolEngines dir s).head?) } }

/-- An AES engine is taken out of service: a fibre engine's stream moves to the pool; a pool engine that carried one hands it on
(R326). -/
def engineOff (e : Nat) (s : State) : State :=
  let bit := BitVec.ofNat 16 (2 ^ e)
  let s : State := { s with cipher := { s.cipher with enginesOk := s.cipher.enginesOk &&& ~~~ bit, faulted := s.cipher.faulted &&& ~~~ bit } }
  let s := raise .cipherEngineOff 8 2 e s
  if e < 8 then moveStream e s
  else match s.cipher.tookOver.find? (fun t => decide (t.2 = some e)) with
    | some (stream, _) => moveStream stream s
    | none => s

/-- CIPHER_ENGINE_FAULT (R326): an engine is a cell of its block, so the operation is retried once; a second fault, for which there is no
spare, takes the engine out of service (01 Table 1.3). -/
def execCipherEngineFault (e : Nat) (s : State) : State :=
  if s.cipher.enginesOk.getLsbD e then
    if s.cipher.faulted.getLsbD e then engineOff e (pushError .cellSpareNone 8 2 (255 * 2 ^ 24 + e) s)
    else
      pushError .cellRetry 8 2 (255 * 2 ^ 24 + e)
        { s with cipher := { s.cipher with faulted := s.cipher.faulted ||| BitVec.ofNat 16 (2 ^ e) } }
  else s

/-! ## Commands (R337) -/

/-- What every command of the class shares: refused in RETIRED. -/
def keySpec (op n : Nat) (bad : CmdReq → State → Bool) : CmdSpec :=
  { op, life := fun _ s => decide (s.lc.state ≠ 4), check := params n bad }

def specCipherConfig : CmdSpec :=
  { keySpec 0x0900 4 (fun q _ => decide (1 < u8 q.body 0) || !allZero (q.body.drop 1)) with
    life := fun q s => decide (s.lc.state ≠ 4) && !(decide (s.lc.state = 2) && decide (u8 q.body 0 % 2 = 0)) }

/-- CIPHER_CONFIG (R336). -/
def effCipherConfig (c : Cmd) (s : State) : Res :=
  .ok [] { s with cipher := { s.cipher with cmOn := bit (u8 c.req.body 0) 0 } }

def execCipherConfig (q : CmdReq) (s : State) : State := runCmd specCipherConfig effCipherConfig q s

/-- PON_KEY_BIND: a slot carries at most one binding (R331). -/
def badPonBind (p : Bytes) (s : State) : Bool :=
  decide (3 < u8 p 0) || decide (5 < u8 p 1) || decide (1 < u8 p 2) || decide (u8 p 3 ≠ 0) || decide (4095 < u16 p 4) ||
    decide (u16 p 6 ≠ 0) || (decide (u8 p 2 = 0) && (slotUse (u16 p 4) s).isSome)

def specPonKeyBind : CmdSpec := keySpec 0x0901 8 (fun q s => badPonBind q.body s)

/-- PON_KEY_BIND (R331, R332). -/
def effPonKeyBind (c : Cmd) (s : State) : Res :=
  let p := c.req.body
  let k := 6 * u8 p 0 + u8 p 1
  let put := fun (v : Option Nat) => { s with cipher := { s.cipher with pon := SMap.set none s.cipher.pon k v } }
  if u8 p 2 = 0 then
    if (slotUse (u16 p 4) s).isSome then .fail .badParam s else .ok [] (put (some (u16 p 4)))
  else if SMap.get none s.cipher.pon k ≠ some (u16 p 4) then .fail .notFound s
  else if (u8 p 1 = 2 ∨ u8 p 1 = 3) ∧ (s.inst (u8 p 0)).usKeyIndex + 1 = u8 p 1 then .fail .busyService s
  else .ok [] (put none)

def execPonKeyBind (q : CmdReq) (s : State) : State := runCmd specPonKeyBind effPonKeyBind q s

def specUsEncrypt : CmdSpec := keySpec 0x0902 4 (fun q _ => decide (3 < u8 q.body 0) || decide (1 < u8 q.body 1))

/-- US_ENCRYPT (R334): up to 1,024 Port-IDs. -/
def effUsEncrypt (c : Cmd) (s : State) : Res :=
  let p := c.req.body
  let i := u8 p 0
  let port := u16 p 2
  let l := (s.inst i).usEncrypt
  let put := fun (b : Bool) => s.modInst i (fun x => { x with usEncrypt := SMap.set false x.usEncrypt port b })
  let on := SMap.get false l port
  if u8 p 1 = 0 then
    if on then .ok [] s else if 1024 ≤ l.length then .fail .tableFull s else .ok [] (put true)
  else if on then .ok [] (put false) else .fail .notFound s

def execUsEncrypt (q : CmdReq) (s : State) : State := runCmd specUsEncrypt effUsEncrypt q s

/-- The key of the binding that a LINK_KEY_BIND names. -/
def linkOfBlock (p : Bytes) : Nat := linkKey (u8 p 0) (u8 p 1) (u8 p 2)

def badLinkBind (p : Bytes) (s : State) : Bool :=
  decide (33 < u8 p 0) || decide (1 < u8 p 1) || decide (1 < u8 p 2) || decide (1 < u8 p 3) || decide (4095 < u16 p 4) ||
    decide (u8 p 6 < 1 ∨ 200 < u8 p 6) || decide (u8 p 7 ≠ 0) || (decide (u8 p 3 = 0) && (slotUse (u16 p 4) s).isSome)

def specLinkKeyBind : CmdSpec := keySpec 0x0903 12 (fun q s => badLinkBind q.body s)

/-- The sum of RESERVE of the bindings of a direction but one (R325). -/
def reserveSum (dir except : Nat) (s : State) : Nat :=
  ((s.cipher.link.filter (fun e => decide (e.1 / 2 % 2 = dir ∧ e.1 ≠ except))).map (fun e => (e.2.map LinkBind.reserve).getD 0)).sum

/-- LINK_KEY_BIND (R325, R335); an unbind of no binding matches the state in force (log 53). -/
def effLinkKeyBind (c : Cmd) (s : State) : Res :=
  let p := c.req.body
  let k := linkOfBlock p
  let put := fun (v : Option LinkBind) => { s with cipher := { s.cipher with link := SMap.set none s.cipher.link k v } }
  if u8 p 3 = 0 then
    if (slotUse (u16 p 4) s).isSome then .fail .badParam s
    else if 200 < reserveSum (u8 p 1) k s + u8 p 6 then .fail .busyRetry s
    else .ok [] (put (some { slot := u16 p 4, reserve := u8 p 6, salt := w32 p 8 }))
  else .ok [] (put none)

def execLinkKeyBind (q : CmdReq) (s : State) : State := runCmd specLinkKeyBind effLinkKeyBind q s

def specPhaseSelect : CmdSpec :=
  keySpec 0x0904 4 (fun q _ => decide (33 < u8 q.body 0) || decide (1 < u8 q.body 1) || decide (u16 q.body 2 ≠ 0))

/-- PHASE_SELECT (R335). -/
def effPhaseSelect (c : Cmd) (s : State) : Res :=
  let l := u8 c.req.body 0
  let ph := u8 c.req.body 1
  if (linkBind l 0 ph s).isNone then .fail .notFound s
  else .ok [] { s with cipher := { s.cipher with phase := SMap.set 0 s.cipher.phase l ph } }

def execPhaseSelect (q : CmdReq) (s : State) : State := runCmd specPhaseSelect effPhaseSelect q s

def specKeyQuery : CmdSpec :=
  { keySpec 0x0905 4 (fun q _ => decide (4095 < u16 q.body 0) || decide (u16 q.body 2 ≠ 0)) with reads := true }

/-- KEY_QUERY: the KCV as a field of three bytes (00 R9). -/
def effKeyQuery (c : Cmd) (s : State) : Res :=
  let n := u16 c.req.body 0
  let k := SMap.get {} s.cipher.slots n
  let use := slotUse n s
  .ok (le 3 (kcvOf k) ++ le 1 (b2n k.loaded + 2 * b2n k.aes256 + 4 * b2n use.isSome) ++ le 4 (use.getD 0)) s

def execKeyQuery (q : CmdReq) (s : State) : State := runCmd specKeyQuery effKeyQuery q s

/-! ## Registers -/

/-- The cipher registers, at offsets from 0x0009_0000. -/
def readCipher (off : Nat) (s : State) : Option Nat :=
  if off < 0x20 then some 0
  else match off with
  | 0x20 => some (b2n s.cipher.sizeReg * 65536 + s.cipher.slotReg.toNat)
  | 0x24 => some 0
  | 0x28 => some (b2n s.cipher.busy * 2 ^ 31 + s.cipher.error.toNat * 2 ^ 28 + s.cipher.kcv)
  | 0x30 => some (b2n s.cipher.cmOn * 2 ^ 24 + s.cipher.enginesOk.toNat)
  | _ => none

end Sys2Proof.Machine
end

