-- ==== Sys2Proof/Machine/Counters.lean ====
section
/-!
DEFINITION. Counters as software reaches them (18 R404–R414): reads with their latches, the user page, bandwidth windows,
and the commands of class 0x0E.
-/

namespace Sys2Proof.Machine

/-! ## Reads (R408, R411, R412) -/

/-- The value that a read of counter k returns on a path: the odd half of a chained pair is the latched one (R408). -/
def counterSeen (p : Path) (k : Nat) (s : State) : Word :=
  if k % 2 = 1 ∧ SMap.get false s.cnt.chained (k - 1) then SMap.get 0 (s.latch p).cntHigh k else SMap.get 0 s.cnt.value k

/-- A read of counter k latches k + 1 for its path (R408). -/
def readCounter (p : Path) (addr k : Nat) (s : State) : State :=
  let v := counterSeen p k s
  let s := if k % 2 = 0 then
      let l := s.latch p
      s.setLatch p { l with cntHigh := SMap.set 0 l.cntHigh (k + 1) (SMap.get 0 s.cnt.value (k + 1)) }
    else s
  answer p addr v s

/-- The first counter of a path's window (R412, CNT_WIN_BASE), how many it shows, and the window's address. -/
def counterWindow (p : Path) (s : State) : Nat × Nat × Nat :=
  match p with
  | .bar4 => (16384 * s.cnt.userBase.toNat, 16384, 0)
  | _ => (4096 * s.cnt.winBase.toNat, 4096, 0xE4000)

/-- COUNTER_READ (R408, R412): counter k through its path's window; the user page reads zero while it is closed. -/
def execCounterRead (p : Path) (k : Nat) (s : State) : State :=
  let (base, n, at_) := counterWindow p s
  if k < base ∨ base + n ≤ k then s
  else
    let addr := at_ + 4 * (k - base)
    hostRead p addr (fun s =>
      if p = .bar4 ∧ s.dev.ctrl.getLsbD 2 = false then answer p addr 0 s else readCounter p addr k s) s

/-- A port's totals in the last closed window. -/
def bwClosed (n : Nat) (s : State) : BwTotal := SMap.get {} s.bw.closed n

/-- BW_BYTES_LO_READ (R411): the other three words of the port are latched for the path. -/
def execBwBytesLoRead (p : Path) (n : Nat) (s : State) : State :=
  let addr := 0xE1000 + 0x10 * n
  hostRead p addr (fun s =>
    let t := bwClosed n s
    let l := s.latch p
    let l := { l with bwHi := SMap.set 0 l.bwHi n (BitVec.ofNat 32 (min 65535 s.bw.closedTicks * 65536 + t.bytes / 2 ^ 32))
                      bwFrames := SMap.set 0 l.bwFrames n (BitVec.ofNat 32 t.frames)
                      bwEnd := SMap.set 0 l.bwEnd n s.bw.closedAt }
    answer p addr (BitVec.ofNat 32 t.bytes) (s.setLatch p l)) s

/-- OVF bits of counters 4,096 × BASE + 32 j to + 31 (CNT_OVF). -/
def ovfWord (j : Nat) (s : State) : Nat :=
  let base := 4096 * s.cnt.winBase.toNat + 32 * j
  ((List.range 32).map (fun b => b2n (SMap.get false s.cnt.ovf (base + b)) * 2 ^ b)).sum

/-- A write of CNT_OVF clears the bits written as 1 (R409). -/
def clearOvf (j : Nat) (v : Word) (same : Bool) (s : State) : State :=
  let base := 4096 * s.cnt.winBase.toNat + 32 * j
  let held := fun (k : Nat) => same && decide (SMap.get 0 s.stamps (32 * ovfStamps + k) = clockNo s)
  { s with cnt := { s.cnt with ovf := (List.range 32).foldl (fun m b =>
      if v.getLsbD b && !held (base + b) then SMap.set false m (base + b) false else m) s.cnt.ovf } }

/-- The counter registers that no read changes, at offsets from 0x000E_0000. -/
def readCounters (p : Path) (off : Nat) (s : State) : Option Nat :=
  if off = 0 then some s.cnt.winBase.toNat
  else if off = 4 then some s.cnt.userBase.toNat
  else if 0x1000 ≤ off ∧ off < 0x1600 then
    let n := (off - 0x1000) / 0x10
    let l := s.latch p
    match off % 0x10 with
    | 4 => some (SMap.get 0 l.bwHi n).toNat
    | 8 => some (SMap.get 0 l.bwFrames n).toNat
    | 0xC => some (SMap.get 0 l.bwEnd n).toNat
    | _ => none
  else if 0x8000 ≤ off ∧ off < 0x8200 then some (ovfWord ((off - 0x8000) / 4) s)
  else none

/-! ## Bandwidth windows (R411) -/

/-- The present tick ends a window (R411). -/
def windowEnds (b : Bw) (s : State) : Bool := decide (tickDiff s.clk.tick b.base % (max 1 b.windowTicks : Nat) = 0)

/-- COUNTER_WINDOW_CLOSE, item 8 of Table 1.8 (R411): a window that ended during sleep closes now (16 R379). -/
def execCounterWindowClose (s : State) : State :=
  let tick := itemTick 8 s
  itemRow 8 (fun s =>
    if windowEnds s.bw s || s.bw.ended then
      { s with bw := { s.bw with
          closed := s.bw.run, run := [], closedTicks := s.bw.elapsed, closedAt := tick, elapsed := 0, ended := false } }
    else s) s

/-- At a tick edge a BW_CONFIG takes effect, and the open window grows by a tick (R411). -/
def tickBw (s : State) : State :=
  let b := { s.bw with elapsed := s.bw.elapsed + 1 }
  let b := match b.nextTicks with
    | some n => { b with windowTicks := n, nextTicks := none, base := s.clk.tick }
    | none => b
  { s with bw := { b with ended := b.ended || windowEnds b s } }

/-! ## Commands (R413, R414) -/

def specCounterConfig : CmdSpec :=
  { op := 0x0E00, check := params 4 (fun q _ => decide (63 < u8 q.body 0) || !allZero (q.body.drop 1)) }

/-- COUNTER_CONFIG. -/
def effCounterConfig (c : Cmd) (s : State) : Res :=
  .ok [] { s with cnt := { s.cnt with userBase := BitVec.ofNat 6 (u8 c.req.body 0) } }

def execCounterConfig (q : CmdReq) (s : State) : State := runCmd specCounterConfig effCounterConfig q s

def specCounterChain : CmdSpec :=
  { op := 0x0E01, check := params 8 (fun q _ =>
      decide (u32 q.body 0 % 2 = 1) || decide (1048576 ≤ u32 q.body 0) || decide (1 < u8 q.body 4) || !allZero (q.body.drop 5)) }

/-- COUNTER_CHAIN (R407): chaining sets the partner to 0. -/
def effCounterChain (c : Cmd) (s : State) : Res :=
  let k := u32 c.req.body 0
  let on := SMap.get false s.cnt.chained k
  if u8 c.req.body 4 = 0 then
    if on then .ok [] s
    else .ok [] { s with cnt := { s.cnt with chained := SMap.set false s.cnt.chained k true, value := SMap.set 0 s.cnt.value (k + 1) 0 } }
  else .ok [] { s with cnt := { s.cnt with chained := SMap.set false s.cnt.chained k false } }

def execCounterChain (q : CmdReq) (s : State) : State := runCmd specCounterChain effCounterChain q s

/-- Zero a range of counters and their OVF bits; the increments of the same clock are kept, for the clear acts first (R409). -/
def clearCounters (same : Bool) (a n : Nat) (s : State) : State :=
  let kept := s.notes.filter (fun e => same && decide (incrementNotes + a ≤ e.1 ∧ e.1 < incrementNotes + a + n) &&
    decide (e.2.clock = clockNo s))
  { s with cnt := { s.cnt with value := kept.foldl (fun m e => SMap.set 0 m (e.1 - incrementNotes) (BitVec.ofNat 32 e.2.added))
                                 (s.cnt.value.filter (fun e => decide (e.1 < a ∨ a + n ≤ e.1)))
                               ovf := s.cnt.ovf.filter (fun e => decide (e.1 < a ∨ a + n ≤ e.1)) } }

/-- A transfer out of counter memory, target 34, by the counter engine (14 Table 14.5). -/
def withCounterMemory (c : Cmd) (f : State → Res) (s : State) : Res := withXfer 3 [34] c f s

def specCounterClear : CmdSpec :=
  { op := 0x0E02, check := params 8 (fun q _ => decide (1048576 < u32 q.body 0 + u32 q.body 4)) }

/-- COUNTER_CLEAR (R409). -/
def effCounterClear (same : Bool) (c : Cmd) (s : State) : Res :=
  withCounterMemory c (fun s => .ok [] (clearCounters same (u32 c.req.body 0) (u32 c.req.body 4) s)) s

def execCounterClear (q : CmdReq) (same : Bool) (s : State) : State := runCmd specCounterClear (effCounterClear same) q s

def specSnapshot (q : CmdReq) : CmdSpec :=
  { op := 0x0E03, reads := !bit (u8 q.body 6) 0
    check := params 8 (fun q _ =>
      decide (u16 q.body 4 < 1 ∨ 1020 < u16 q.body 4) || decide (1048576 < u32 q.body 0 + u16 q.body 4) ||
        decide (1 < u8 q.body 6) || decide (u8 q.body 7 ≠ 0)) }

/-- SNAPSHOT (R414): captured in one clock, and cleared in the same one. -/
def effSnapshot (c : Cmd) (s : State) : Res :=
  let p := c.req.body
  withCounterMemory c (fun s =>
    let values := ((List.range (u16 p 4)).map (fun k => le 4 (SMap.get 0 s.cnt.value (u32 p 0 + k)).toNat)).flatten
    .ok (le 4 s.clk.tick.toNat ++ le 4 (tickNs s) ++ zeros 8 ++ values)
      (if bit (u8 p 6) 0 then clearCounters false (u32 p 0) (u16 p 4) s else s)) s

def execSnapshot (q : CmdReq) (s : State) : State := runCmd (specSnapshot q) effSnapshot q s

def specBwConfig : CmdSpec :=
  { op := 0x0E04, check := params 4 (fun q _ => decide (u16 q.body 0 = 0) || decide (u16 q.body 2 ≠ 0)) }

/-- BW_CONFIG (R411): at the next tick edge; the length in force has no effect (R413). -/
def effBwConfig (c : Cmd) (s : State) : Res :=
  let n := u16 c.req.body 0
  .ok [] (if s.bw.windowTicks = n then s else { s with bw := { s.bw with nextTicks := some n } })

def execBwConfig (q : CmdReq) (s : State) : State := runCmd specBwConfig effBwConfig q s

end Sys2Proof.Machine
end

