-- ==== Sys2Proof/Machine/FaultOps.lean ====
section
/-!
DEFINITION. Fault handling by level (01 R16, Table 1.3; 18 R399–R401): cell faults with their retries and spares, the
isolation of blocks, and fatal conditions.
-/

namespace Sys2Proof.Machine

/-! ## Fatal conditions (18 R400, R401) -/

/-- The first fatal condition: lasers dark, ACT_OUT# not active, FATAL# while its output group is enabled, the record and the
event; one within the millisecond to the chip reset is not recorded. -/
def fatalNow (cause region : Nat) (s : State) : State :=
  if s.fatal.asserted then s
  else
    let region := if cause ≤ 2 then region else 0
    let s := (List.range 4).foldl (fun s i =>
      if (s.inst i).laserOn then emit (.laserDark i) (s.modInst i (fun x => { x with laserOn := false })) else s) s
    let s : State := setActOut false { s with fatal := { asserted := true, valid := true, region, cause, tick := s.clk.tick, atPs := s.clk.nowPs } }
    let s := if s.dev.outputs.getLsbD 0 && !padsOwned s then emit (.fatal cause) s else s
    let s := if cause ≤ 2 then raise .fatal 8 region cause s else raise .fatal 0 0 cause s
    fireWake 10 (revokeMirror s)

/-- FATAL_CONDITION (18 R400, Table 18.3). The shutdown limit has been exceeded once readings above it have stood for 100 µs
(21 R459). -/
def execFatalCondition (cause region : Nat) (s : State) : State :=
  if cause = 0 then s
  else if cause = 4 then
    match s.hotPs with
    | some p => fatalNow 4 0 (advanceTo (p + 100000000) s)
    | none => s
  else fatalNow cause region s

/-! ## Isolation -/

/-- The region of a block code (17 Table 17.3). -/
def blockRegion (b : Nat) : Nat :=
  if b < 26 then 1 else if b < 36 then 2 else if b < 40 then 0 else if b < 44 then 3 else if b < 48 then 4 else 5

/-- Discard the queued frames that lie in an Inkwell bank group, and count them. The manual does not say which bank group a
frame lies in: a free value for each frame (log 55). -/
def loseBankFrames (k : Nat) (c : Ctr) (s : State) : State :=
  (s.queues.map (·.1)).foldl (fun s q =>
    let (keep, s) := (s.queue q).frames.foldl (fun (acc : List Frame × State) f =>
      let (g, s) := takeFree 3 acc.2
      if g = k then (acc.1, count c 0 s) else (acc.1 ++ [f], s)) ([], s)
    s.setQueue q { s.queue q with frames := keep, deficit := if keep.isEmpty then 0 else (s.queue q).deficit }) s

/-- Every flow context of a flow-context block is gone. -/
def loseFlows (b : Nat) (s : State) : State :=
  { s with tbl := { s.tbl with flow := s.tbl.flow.filter (fun e => decide (e.1 / 2 ^ 20 ≠ b)) } }

/-- Every lane of a lane group goes to DOWN. -/
def groupDown (k : Nat) (s : State) : State :=
  (List.range 10).foldl (fun s j =>
    let n := 10 * k + j
    let s := if (s.lane n).state = .down ∨ (s.lane n).state = .fault then s else laneDown n s
    if 36 ≤ n then setMacLink (n - 36) false s else s) s

/-- A region isolates a block: it takes no work any more (01 Table 1.3; what a block without a rule of its own loses follows
from its taking no traffic, log 56). -/
def isolateUnit (b : Nat) (s : State) : State :=
  if b < 16 then isolateTable b s
  else if s.dev.isolated.getLsbD b then s
  else
    let s := isolateBlock (blockRegion b) b s
    if b < 24 then loseFlows (b - 16) s
    else if 26 ≤ b ∧ b < 34 then loseBankFrames (b - 26) .inkwellEccDrop s
    else if 36 ≤ b ∧ b < 40 then stopInstance (b - 36) s
    else if 40 ≤ b ∧ b < 44 then groupDown (b - 40) s
    else if 44 ≤ b ∧ b < 48 then disableTrib (2 * (b - 44) + 1) (disableTrib (2 * (b - 44)) s)
    else s

/-! ## Cell faults (R16, R17) -/

/-- A bank of an Inkwell group is remapped to the group's spare, or the group is isolated (Table 14.1). -/
def remapBank (k detail : Nat) (s : State) : State :=
  if SMap.get false s.mem.bankSpare k then isolateUnit (26 + k) (pushError .cellSpareNone 8 2 detail s)
  else raise .cellRemapped 8 2 detail { s with mem := { s.mem with bankSpare := SMap.set false s.mem.bankSpare k true } }

/-- A search cell faults: a second faulting operation in the same tick remaps it (06 R166). -/
def tableCellFault (g : Nat) (s : State) : State :=
  if SMap.get none s.tbl.faultTick g = some (ownTick s) then remapCell g s
  else { s with tbl := { s.tbl with faultTick := SMap.set none s.tbl.faultTick g (some (ownTick s)) } }

/-- A unit's fault (R16, Table 1.3): one retry, then a spare or the region. Search cells follow R166, parser engines 07 R184, AES
engines 13 R326, lanes R17. -/
def unitFault (u : FaultUnit) (s : State) : State :=
  let cell := u.cell % 65536
  let detail := u.group % 256 * 2 ^ 24 + cell
  if u.block < 16 then (if isolated u.block s then s else tableCellFault (64 * u.block + cell % 64) s)
  else if u.block = 24 then execParserEngineFault (cell % 16) s
  else if u.block = 35 then execCipherEngineFault (cell % 16) s
  else if 40 ≤ u.block ∧ u.block < 44 then execLaneCellFault (10 * (u.block - 40) + cell % 10) s
  else if s.dev.isolated.getLsbD (u.block % 64) then s
  else
    let key := (u.region.val * 64 + u.block % 64) * 2 ^ 32 + detail
    if s.dev.faulted.contains key then
      if 26 ≤ u.block ∧ u.block < 34 then
        remapBank (u.block - 26) detail { s with dev := { s.dev with faulted := s.dev.faulted.filter (· ≠ key) } }
      else
        let s := pushError .cellSpareNone 8 u.region.val detail s
        if u.block < 50 then isolateUnit u.block s else isolateBlock u.region.val (u.block % 64) s
    else pushError .cellRetry 8 u.region.val detail { s with dev := { s.dev with faulted := key :: s.dev.faulted } }

end Sys2Proof.Machine
end

