-- ==== Sys2Proof/Machine/DomainOps.lean ====
section
/-!
DEFINITION. Power domains as the families that hold one see them (16 R372–R374): what a domain loses when it goes off, the holds
on it, and the end of a power-down.
-/

namespace Sys2Proof.Machine

/-- The block code of a memory group where the group is of a block (17 Table 17.3). -/
def groupBlock (g : Nat) : Nat := if g < 24 then g else if g < 26 then 25 else if g < 34 then g else if g = 34 then 48 else if g = 36 then 34 else 0x3F

def State.domain (s : State) (d : Nat) : Domain := SMap.get {} s.pwr.domains d
def State.setDomain (d : Nat) (v : Domain) (s : State) : State := { s with pwr := { s.pwr with domains := SMap.set {} s.pwr.domains d v } }

/-- The memory groups of a domain. -/
def groupsOf (d : Nat) : List Nat := (List.range 38).filter (fun g => decide (groupDomain g = d))

/-- The instance as a domain that has lost its state brings it back: O1.1 held, with what Quill holds of its configuration
(19 Table 19.2; log 59). -/
def Inst.fresh (x : Inst) : Inst :=
  { cfg := x.cfg, cfgNext := x.cfgNext, regId := x.regId, ports := x.ports, usEncrypt := x.usEncrypt, omciTag := x.omciTag, ploamTag := x.ploamTag }

/-- A domain loses its state (R374). -/
def wipeDomain (d : Nat) (s : State) : State :=
  if 3 ≤ d ∧ d ≤ 6 then (stopInstance (d - 3) s).modInst (d - 3) Inst.fresh
  else if 7 ≤ d ∧ d ≤ 10 then groupDown (d - 7) s
  else if 11 ≤ d ∧ d ≤ 14 then
    let k := d - 11
    let s : State := { s with tbl := { s.tbl with entries := s.tbl.entries.filter (fun e => decide (e.1 / 2 ^ 20 ≠ k))
                                                  corrupt := s.tbl.corrupt.filter (fun n => decide (n / 2 ^ 20 ≠ k)) } }
    loseFlows (2 * k + 1) (loseFlows (2 * k) s)
  else if d = 19 then
    let s := (List.range 8).foldl (fun s t => if (s.trib t).enable then disableTrib t s else s) s
    { s with circs := [] }
  else s

/-- A rank-5 hold on a domain: a Blotter step past its grant, or a BIST (R373, 17 R389). -/
def domainHeld (d : Nat) (s : State) : Bool :=
  (groupsOf d).any (fun g => match blotStep g s with | some b => decide (b.phase ≠ .waiting) | none => false) ||
    (match s.bist.run with
     | some r => decide (r.block < 50) &&
         (if r.block < 36 then (groupsOf d).any (fun g => decide (groupBlock g = r.block))
          else if r.block < 40 then decide (d = r.block - 33) else if r.block < 44 then decide (d = r.block - 33)
          else if r.block < 48 then decide (d = 19) else false)
     | none => false)

/-- Open grants on the targets of a domain, or of a requester inside it: the mirror link's port is in D10 (R373). -/
def domainGrants (d : Nat) (s : State) : List Xfer :=
  s.mem.grants.filter (fun x => x.targets.any (fun t => (groupsOf d).contains t) || (decide (d = 10) && decide (x.port = 5)))

/-- The domain is isolated and switched off; DOMAIN_POWER answers the transfers it revoked. -/
def switchOff (d : Nat) (s : State) : State :=
  let n := (s.domain d).revoked
  let s := wipeDomain d (s.setDomain d { phase := .off })
  completeRunningAt 0x0B01 d .ok (le 4 n) s

/-- Steps 2 to 4 of R373, as far as they have come. -/
def tryOff (d : Nat) (s : State) : State :=
  if (s.domain d).phase = .stopping ∧ !domainHeld d s ∧ (domainGrants d s).isEmpty then switchOff d s else s

end Sys2Proof.Machine
end

