-- ==== Sys2Proof/Machine/Memory.lean ====
section
/-!
DEFINITION. Memories (14): errors, the secure scratchpad's ports, the Blotter, the transfer network, and the commands and
registers of class 0x0A.
-/

namespace Sys2Proof.Machine

/-! ## Errors in use (R338, R339) -/

/-- A frame that an uncorrectable error strikes is discarded: the manual names no frame, so the one dispatched longest ago
whose pass uses the memory is meant (log 57). -/
def dropFlight (t : Flight → Bool) (c : Ctr) (s : State) : State :=
  count c 0 { s with cls := { s.cls with flights := changeFirst t (fun _ => none) s.cls.flights } }

/-- A queued frame, chosen by a free value, is discarded (log 57). -/
def dropQueued (c : Ctr) (s : State) : State :=
  let busy := (s.queues.filter (fun e => !e.2.frames.isEmpty)).map (·.1)
  let (v, s) := takeFree 32 s
  match busy[v % busy.length]? with
  | none => count c 0 s
  | some q =>
    let fs := (s.queue q).frames.drop 1
    count c 0 (s.setQueue q { s.queue q with frames := fs, deficit := if fs.isEmpty then 0 else (s.queue q).deficit })

/-- The frames of a queue, chosen by a free value, are discarded (log 57). -/
def dropQueue (s : State) : State :=
  let (q, s) := takeFree 14 s
  count .queueDescLost 0 (s.setQueue q { s.queue q with frames := [], deficit := 0 })

/-- A counter, one of the word's two by a free value, is cleared and its OVF set (Table 14.1, log 57). -/
def loseCounter (word : Nat) (s : State) : State :=
  let (b, s) := takeFree 1 s
  let k := 2 * (word % 2 ^ 19) + b
  let was := SMap.get false s.cnt.ovf k
  let s : State := { s with cnt := { s.cnt with value := SMap.set 0 s.cnt.value k 0, ovf := SMap.set false s.cnt.ovf k true } }
  if was then s else raiseOvf k s

/-- What an uncorrectable error does to its group (Table 14.1). -/
def uncorrectable (g word : Nat) (s : State) : State :=
  if g < 24 then dropFlight (fun _ => true) .flowEccDrop s
  else if g < 26 then dropFlight (fun f => searching f && decide (f.epoch = g - 24)) .clsTreeEccDrop s
  else if g < 34 then dropQueued .inkwellEccDrop s
  else if g = 34 then loseCounter word s
  else if g = 35 then fatalNow 2 5 s
  else if g = 36 then dropQueue s
  else if 0x10000 ≤ 8 * word ∧ 8 * word < 0x30000 then
    { s with cipher := { s.cipher with slots := SMap.set {} s.cipher.slots ((8 * word - 0x10000) / 32) {} } }
  else { s with mem := { s.mem with badWords := (word :: s.mem.badWords.filter (· ≠ word)) } }

/-- An uncorrected, or a corrected, error counts in MEM_ECC (R355). -/
def countEcc (corrected : Bool) (s : State) : State :=
  if corrected then noteRc (2 * 0xA0000 + 1) s.mem.corrected 1 { s with mem := { s.mem with corrected := satAdd 65535 s.mem.corrected 1 } }
  else noteRc (2 * 0xA0000) s.mem.uncorrected 1 { s with mem := { s.mem with uncorrected := satAdd 65535 s.mem.uncorrected 1 } }

/-- MEM_ERROR (R339): a single-bit error is corrected; table blocks have parity only and take R152. -/
def execMemError (g word : Nat) (correctable : Bool) (s : State) : State :=
  if !domainOn (groupDomain g) s then s
  else if g < 16 then
    let n := 262144 * g + word / 2 % 262144
    if isolated g s || !entryValid (s.entry n) then s
    else
      tableCellFault (n / 4096) (parityFault n (countEcc false s))
  else if correctable then
    count .memEccCorrected g (countEcc true s)
  else uncorrectable g word (pushError .memUncorrectable 8 (groupRegion g) (g * 2 ^ 24 + word % 2 ^ 24) (countEcc false s))

/-- MEM_ECC_READ (R355; 00 R11): both fields are returned and cleared. -/
def execMemEccRead (p : Path) (same : Bool) (s : State) : State :=
  hostRead p 0xA0000 (fun s =>
    let (c, cLeft) := rcRead same (2 * 0xA0000 + 1) s.mem.corrected s
    let (u, uLeft) := rcRead same (2 * 0xA0000) s.mem.uncorrected s
    answer p 0xA0000 (BitVec.ofNat 32 (c * 65536 + u)) { s with mem := { s.mem with corrected := cLeft, uncorrected := uLeft } }) s

/-- TAMPER (R344). -/
def execTamper (t : Tamper) (s : State) : State :=
  wipeScratch (match t with | .lid => 1 | .voltage => 2 | .clock => 3) s

/-! ## The scratchpad's ports (R341–R343) -/

/-- SCRATCH_STATUS with a number of collisions. -/
def scratchStatus (collisions : Nat) (s : State) : Nat :=
  b2n s.mem.wiped * 2 ^ 31 + s.mem.wipeCause * 2 ^ 28 + s.mem.seqHolder * 2 ^ 16 + collisions

/-- SCRATCH_STATUS_READ (00 R11): COLLISIONS is cleared by the read. -/
def execScratchStatusRead (p : Path) (same : Bool) (s : State) : State :=
  hostRead p 0xA001C (fun s =>
    let (c, left) := rcRead same (2 * 0xA001C) s.mem.collisions s
    answer p 0xA001C (BitVec.ofNat 32 (scratchStatus c s)) { s with mem := { s.mem with collisions := left } }) s

/-- May a port reach an offset (Table 14.2)? Key slots belong to the cipher block, the save area to the Blotter. -/
def portReaches (port : Nat) (a : ScratchAcc) : Bool :=
  if port = 2 then decide (generalLo ≤ a.at_ ∧ a.at_ < generalHi)
  else decide (a.at_ < 0xF000) || decide (generalLo ≤ a.at_ ∧ a.at_ < generalHi)

/-- A lock or unlock of a port. -/
def seqOp (port : Nat) (a : ScratchAcc) (s : State) : State :=
  if a.kind = .unlock then
    let s := scratchAnswer port a none 0 s
    if s.mem.seqHolder = port then seqFree s else s
  else if seqWaits port a s then seqQueue port a none s
  else scratchAnswer port a none 0 (seqTake port s)

/-- One access alone. -/
def scratchOne (port : Nat) (a : ScratchAcc) (s : State) : State :=
  if a.kind = .lock ∨ a.kind = .unlock then seqOp port a s
  else if !portReaches port a then (if port = 2 then count .scratchBRefused 0 s else s)
  else if seqWaits port a s then seqQueue port a none s
  else if scratchBad a s then emit (.scratch port none false) s
  else
    let (old, s) := scratchRun a s
    let s : State := if port = 2 then { s with mem := { s.mem with lastB := some (arbCycle s, a) } } else s
    scratchAnswer port a none old s

/-- A collision is counted (R342). -/
def collide (s : State) : State :=
  count .scratchCollision 0 (noteRc (2 * 0xA001C) s.mem.collisions 1
    { s with mem := { s.mem with collisions := satAdd 65535 s.mem.collisions 1 } })

/-- A read that meets a change of its word: the change takes effect, the read returns undefined data, and the port served
second receives SCRATCH_BUSY (R342). -/
def scratchMeet (reader : Nat) (r : ScratchAcc) (writer : Nat) (w : ScratchAcc) (s : State) : State :=
  let second := if portAFirst s then 2 else 1
  let (v, s) := takeFree (8 * r.size) s
  let (old, s) := scratchRun w s
  let s := emit (.scratch reader (some v) (decide (reader = second))) s
  collide (emit (.scratch writer (if w.kind = .write then none else some old) (decide (writer = second))) s)

/-- Both accesses are plain ones that are made now and meet on one word. -/
def meets (a b : ScratchAcc) (s : State) : Bool :=
  decide (a.kind ≠ .lock) && decide (a.kind ≠ .unlock) && decide (b.kind ≠ .lock) && decide (b.kind ≠ .unlock) &&
    portReaches 1 a && portReaches 2 b && !seqWaits 1 a s && !seqWaits 2 b s && decide (wordOf a.at_ = wordOf b.at_) &&
    !scratchBad a s && !scratchBad b s

/-- SCRATCH_PORT_ACCESS (R341, R342): two accesses in the order in which the ports are served; atomic operations on one word
in the order of their ports (R340). -/
def execScratchPortAccess (a b : Option ScratchAcc) (s : State) : State :=
  match a, b with
  | some a, some b =>
    if meets a b s && (a.changes != b.changes) then
      if a.changes then scratchMeet 2 b 1 a s else scratchMeet 1 a 2 b s
    else if portAFirst s || (meets a b s && a.atomic && b.atomic) then scratchOne 2 b (scratchOne 1 a s)
    else scratchOne 1 a (scratchOne 2 b s)
  | some a, none => scratchOne 1 a s
  | none, some b => scratchOne 2 b s
  | none, none => s

/-- SEQ_LOCK_REVOKE (R343): a sequence lock held for more than 1 µs; the former holder's port is named. -/
def execSeqLockRevoke (s : State) : State :=
  if s.mem.seqHolder = 0 then s
  else
    let s := advanceTo (s.mem.seqPs + 1000000) s
    seqFree (raise .holdRevoked 8 5 s.mem.seqHolder s)

/-! ## The Blotter (R345–R349) -/

def State.blot (s : State) (g : Nat) : BlotGroup := SMap.get {} s.mem.groups g
def State.setBlot (g : Nat) (v : BlotGroup) (s : State) : State := { s with mem := { s.mem with groups := SMap.set {} s.mem.groups g v } }

/-- Regions of 4 KiB of a group (Table 14.1). -/
def regionCount (g : Nat) : Nat :=
  if 26 ≤ g ∧ g < 34 then 1536 else if g = 35 then 512 else if g = 36 then 448 else if g = 37 then 64 else 1024

/-- The region after one, and whether the sweep has ended; group 37 skips its save area (R345). -/
def nextRegion (g r : Nat) : Nat × Bool :=
  let r := r + 1
  let r := if g = 37 ∧ r = 15 then 16 else r
  if regionCount g ≤ r then (0, true) else (r, false)

/-- The number of the present stroke (R345). -/
def strokeNo (s : State) : Nat := s.clk.tick.toNat * 8 + stroke s

/-- A group is stepped (R348, R349). -/
def blotFree (g : Nat) (s : State) : Bool :=
  bit s.mem.enabled g && domainFree (groupDomain g) s && !(decide (groupBlock g < 50) && s.dev.isolated.getLsbD (groupBlock g))

/-- A group's turn falls in the present stroke, and it may be stepped (R345). -/
def blotDue (g : Nat) (s : State) : Bool :=
  decide (strokeNo s % blotInterval s = g % blotInterval s) && decide ((s.blot g).lastStroke ≠ some (strokeNo s)) && blotFree g s

/-- The group's block is under test (17 R391). -/
def underTest (g : Nat) (s : State) : Bool := match s.bist.run with | some r => decide (r.block = groupBlock g) | none => false

/-- A group begins a step: it requests SAVE holding nothing (R346). -/
def startStep (g : Nat) (s : State) : State :=
  if underTest g s then count .blotterSkipped g s
  else
    let start := s.clk.t0Ps + 15625000 * stroke s
    let b : BlotStep := { region := (s.blot g).region, startPs := start, endPs := start + 15625000 }
    requestXfer 4 [g] (.save g) (s.setBlot g { s.blot g with step := some b })

/-- A step that a first alignment has cut away, or that waited for the one before it, is taken before the group's own (01 R461, R349). -/
def owedStep (g : Nat) (s : State) : State :=
  if s.mem.owed.contains g && blotFree g s && (s.blot g).step.isNone then startStep g { s with mem := { s.mem with owed := s.mem.owed.erase g } } else s

/-- The group's step of this stroke; it waits for a step that goes on past the end of its own stroke (R349). -/
def turnStep (g : Nat) (s : State) : State :=
  if blotDue g s then
    let s := s.setBlot g { s.blot g with lastStroke := some (strokeNo s) }
    if (s.blot g).step.isSome then { s with mem := { s.mem with owed := if s.mem.owed.contains g then s.mem.owed else s.mem.owed ++ [g] } }
    else startStep g s
  else s

/-- BLOTTER_STEP, item 12 of Table 1.8 (R345, R346): the groups whose turn falls in this stroke. After a decision to sleep no
new step is taken (16 below Table 16.2). -/
def execBlotterStep (s : State) : State :=
  if s.pwr.state ≠ .awake then s else (List.range 38).foldl (fun s g => turnStep g (owedStep g s)) s

/-- The requests and grants of a group's step are gone. -/
def dropXfers (g : Nat) (s : State) : State :=
  let mine := fun (x : Xfer) => decide (x.use ≠ .save g) && decide (x.use ≠ .restore g)
  { s with mem := { s.mem with requests := s.mem.requests.filter mine, grants := s.mem.grants.filter mine } }

/-- A step ends; `done`: its region has been covered. -/
def endStep (g : Nat) (covered : Bool) (s : State) : State :=
  let s := holdEnded (groupDomain g) (dropXfers g s)
  let x := s.blot g
  let (r, swept) := nextRegion g x.region
  tryOff (groupDomain g) (s.setBlot g { x with
    step := none, region := if covered then r else x.region
    sweeps := if covered && swept then satAdd 65535 x.sweeps 1 else x.sweeps })

/-- A step is abandoned before its borrow clock (R349). -/
def abandonStep (g : Nat) (s : State) : State := count .blotterSkipped g (endStep g false s)

/-- BLOTTER_SAVE_TIMEOUT (R349): SAVE has not been granted before S + 2 µs. -/
def execBlotterSaveTimeout (g : Nat) (s : State) : State :=
  match blotStep g s with
  | some b => if b.phase = .waiting then abandonStep g (advanceTo (b.startPs + 2000000) s) else s
  | none => s

/-- BLOTTER_BORROW (R346): SAVE ends, and accesses go to the save copy. The copy's contents are the region's, so that no read
or write of the model sees the difference (R347). -/
def execBlotterBorrow (g : Nat) (s : State) : State :=
  match blotStep g s with
  | some b =>
    if b.phase = .save then (dropXfers g s).setBlot g { (dropXfers g s).blot g with step := some { b with phase := .test } } else s
  | none => s

/-- RESTORE runs on its booked grant: at once where the target is free, and before every other request (R346, R350). -/
def startRestore (g : Nat) (s : State) : State :=
  let x : Xfer := { port := 4, targets := [g], use := .restore g, sincePs := s.clk.nowPs }
  if targetBusy g s then { s with mem := { s.mem with requests := x :: s.mem.requests } }
  else { s with mem := { s.mem with grants := s.mem.grants ++ [x] } }

/-- A failing TEST in a group with spares: the region revokes the Blotter's hold and the cell or bank is remapped (R348). -/
def remapTested (g region : Nat) (s : State) : State :=
  let s := raise .holdRevoked 8 (groupRegion g) 0 s
  if g < 16 then remapCell (64 * g + region / 16) s
  else remapBank (g - 26) (g * 2 ^ 24 + region / 96) s

/-- BLOTTER_TEST_END (R348). -/
def execBlotterTestEnd (g : Nat) (fail : Bool) (s : State) : State :=
  match blotStep g s with
  | none => s
  | some b =>
    if b.phase ≠ .test then s
    else if fail then
      let s := s.setBlot g { s.blot g with faultSeen := true, lastRegion := some b.region, lastTick := s.clk.tick }
      let s := noteBlotterFault (raise .blotterFault 0 0 (g + b.region * 256) s)
      if g < 16 ∨ (26 ≤ g ∧ g < 34) then endStep g true (remapTested g b.region s)
      else startRestore g (s.setBlot g { s.blot g with step := some { b with phase := .restore } })
    else startRestore g (s.setBlot g { s.blot g with step := some { b with phase := .restore } })

/-- BLOTTER_RESTORE_END (R346): the region, the booking and the domain hold are released. -/
def execBlotterRestoreEnd (g : Nat) (s : State) : State :=
  match blotStep g s with
  | some b =>
    if b.phase = .restore && s.mem.grants.any (fun x => decide (x.use = .restore g)) then endStep g true s else s
  | none => s

/-! ## The transfer network (R350–R354) -/

/-- May a request be granted now? A booked RESTORE only waits for a grant on its target; a SAVE must come before S + 2 µs. -/
def grantable (x : Xfer) (s : State) : Bool :=
  match x.use with
  | .restore _ => !x.targets.any (fun t => targetBusy t s)
  | .save g => !xferBlocked x.targets s &&
      (match blotStep g s with | some b => decide (s.clk.nowPs < b.startPs + 2000000) | none => false)
  | _ => !xferBlocked x.targets s

/-- The request that the arbiter grants next: a booked RESTORE, else by the rotating order of the ports (R350). -/
def nextGrant (s : State) : Option Xfer :=
  let ready := s.mem.requests.filter (fun x => grantable x s)
  match ready.find? Xfer.booked with
  | some x => some x
  | none => s.mem.order.findSome? (fun p => ready.find? (fun x => decide (x.port = p)))

/-- Remove the first of a list that is equal to an element. -/
def eraseXfer (x : Xfer) (l : List Xfer) : List Xfer := l.erase x

/-- The opcodes whose statuses include RESTARTED (02 R57). -/
def waitsForGrants (op : Nat) : Bool := [0x0401, 0x0620, 0x0B01, 0x0E02, 0x0E03].contains op

/-- TXN_GRANT (R350): the winning port drops to the lowest rank; a step whose domain a power-down has claimed is abandoned
(R349); a transfer that was revoked starts again (R351). -/
def execTxnGrant (s : State) : State :=
  match nextGrant s with
  | none => s
  | some x =>
    let order := if x.booked then s.mem.order else s.mem.order.filter (· ≠ x.port) ++ [x.port]
    let s : State := { s with mem := { s.mem with requests := eraseXfer x s.mem.requests, order
                                                  grants := s.mem.grants ++ [{ x with sincePs := s.clk.nowPs }] } }
    let s := if x.again then count .txnRestarts x.port s else s
    match x.use with
    | .save g =>
      match blotStep g s with
      | some b =>
        if domainFree (groupDomain g) s then s.setBlot g { s.blot g with step := some { b with phase := .save } } else abandonStep g s
      | none => s
    | .command n =>
      if x.again then
        { s with cmd := { s.cmd with executing := s.cmd.executing.map (fun c =>
            if c.seq = n && waitsForGrants c.op then { c with restarted := true } else c) } }
      else s
    | _ => s

/-- The reply of TXN_FREEZE: the mask in force. -/
def frozenMask (s : State) : Nat := ((List.range 40).map (fun t => b2n (targetFrozen t s) * 2 ^ t)).sum

/-- A TXN_FREEZE that waits completes when no grant to a target it froze remains (R352). -/
def settleFreezes (s : State) : State :=
  (s.cmd.executing.filter (fun c => decide (c.op = 0x0A02) && c.started)).foldl (fun s c =>
    if (SMap.get [] s.mem.freezing c.seq).any (fun t => targetBusy t s) then s
    else complete c .ok 0 (le 8 (frozenMask s)) { s with mem := { s.mem with freezing := SMap.set [] s.mem.freezing c.seq [] } }) s

/-- One transfer of what a command reads from host memory is complete: the next is requested, or the command goes on. -/
def fetchedPart (c : Cmd) (s : State) : Res :=
  match SMap.get none s.mem.fetches c.seq with
  | none => .later s
  | some f =>
    let s : State := { s with mem := { s.mem with fetches := SMap.set none s.mem.fetches c.seq (some { f with left := f.left - 1 }) } }
    if 1 < f.left then
      if !hasTurn 0 hostRead_ s && breachesRank 0 hostRead_ s then
        let s := if c.op = 0x0401 then failBuild s else { s with boot := { s.boot with images := SMap.set none s.boot.images c.req.index none } }
        refuseWait (endFetch c.seq s)
      else .later (requestXfer 0 hostRead_ (.command c.seq) s)
    else .later (if c.op = 0x0620 then imageFetched c s else s)

/-- A command whose transfer has failed or been revoked completes so; what it was building or sending ends with it. -/
def failXfer (n : Nat) (st : Status) (s : State) : State :=
  match s.cmd.executing.find? (fun c => decide (c.seq = n)) with
  | none => s
  | some c =>
    let s := endFetch n s
    let s := if c.op = 0x0401 then failBuild s
      else if c.op = 0x0620 then { s with boot := { s.boot with images := SMap.set none s.boot.images c.req.index none } }
      else s
    complete c st 0 [] s

/-- What a command's transfer was for goes on once it is complete. -/
def finishXfer (n : Nat) (s : State) : State :=
  match s.cmd.executing.find? (fun c => decide (c.seq = n)) with
  | none => s
  | some c =>
    let r := match c.op with
      | 0x0302 => effTableUnlock c s
      | 0x0615 => effWorkerCmdXfer c s
      | 0x0E02 => effCounterClear false c s
      | 0x0E03 => effSnapshot c s
      | _ => fetchedPart c s
    match r with
    | .done st detail payload s => complete c st detail payload s
    | .later s => s

/-- TXN_COMPLETE (R351): the oldest grant of a port ends; a SAVE's end is the borrow clock, a RESTORE's the step's end. -/
def execTxnComplete (port : Nat) (s : State) : State :=
  match s.mem.grants.find? (fun x => decide (x.port = port)) with
  | none => s
  | some x =>
    match x.use with
    | .save g => settleFreezes (execBlotterBorrow g s)
    | .restore g => settleFreezes (execBlotterRestoreEnd g s)
    | .command n => settleFreezes (finishXfer n { s with mem := { s.mem with grants := eraseXfer x s.mem.grants } })
    | .bulk => settleFreezes (copyChunk { s with mem := { s.mem with grants := eraseXfer x s.mem.grants } })

/-- The block that serves a requester port (R351); 0x3F where Table 17.3 has no code for it (log 58). -/
def portBlock (p : Nat) : Nat × Nat := if p = 3 then (5, 48) else if p = 5 then (3, 43) else if p = 2 then (1, 0x3F) else if p = 6 then (3, 0x3F) else (5, 0x3F)

/-- A grant is revoked: the event names the region of its first target, or Control, and the port (18 R403). -/
def revokeGrant (x : Xfer) (s : State) : State :=
  let t := x.targets.headD 38
  let region := if t < 38 then groupRegion t else if t = 39 then 3 else 5
  raise .holdRevoked 8 region x.port { s with mem := { s.mem with grants := eraseXfer x s.mem.grants } }

/-- A revoked transfer waits to start again (R351). -/
def requeue (x : Xfer) (s : State) : State :=
  { s with mem := { s.mem with requests := s.mem.requests ++ [{ x with again := true, sincePs := s.clk.nowPs }] } }

/-- TXN_LIMIT_REVOKE (R351): a grant held for 8 µs; the fourth time in a row is a block fault. -/
def execTxnLimitRevoke (port : Nat) (s : State) : State :=
  match s.mem.grants.find? (fun x => decide (x.port = port)) with
  | none => s
  | some x =>
    let s := revokeGrant x (advanceTo (x.sincePs + 8000000) s)
    let s := if x.revoked + 1 < 4 then requeue { x with revoked := x.revoked + 1 } s
      else
        let (r, b) := portBlock port
        let s := isolateBlock r b s
        match x.use with
        | .command n => failXfer n .hwFault s
        | _ => requeue { x with revoked := 0 } s
    settleFreezes s

/-- The instant of the earliest hold of the party behind a transfer: a Blotter step past its grant holds since its stroke's
start; a waiter otherwise holds nothing (R354). -/
def heldSince (x : Xfer) (waiting : Bool) (s : State) : Option Nat :=
  match x.use with
  | .save g | .restore g =>
    match blotStep g s with
    | some b => if b.phase = .waiting then none else some b.startPs
    | none => none
  | _ => if waiting then none else some x.sincePs

/-- Every hold of a party is revoked (R354): its command answers REVOKED, a Blotter step ends with its region's contents
kept. -/
def revokeParty (x : Xfer) (s : State) : State :=
  let s := revokeGrant x s
  let s : State := { s with mem := { s.mem with requests := eraseXfer x s.mem.requests } }
  match x.use with
  | .save g | .restore g => endStep g false s
  | .command n => failXfer n .revoked s
  | .bulk => requeue x s

/-- The request that has waited longest. -/
def longestWait : List Xfer → Option Xfer
  | [] => none
  | x :: l => match longestWait l with
    | some y => some (if y.sincePs < x.sincePs then y else x)
    | none => some x

/-- WAIT_TICK_REVOKE (R354): the oldest request that waits for a grant, on a target that is not frozen, has waited one tick. -/
def execWaitTickRevoke (s : State) : State :=
  match longestWait (s.mem.requests.filter
      (fun x => x.targets.any (fun t => targetBusy t s) && !x.targets.any (fun t => targetFrozen t s))) with
  | none => s
  | some w =>
    match s.mem.grants.find? (fun h => w.targets.any (fun t => h.targets.contains t)) with
    | none => s
    | some h =>
      let s := advanceTo (w.sincePs + tickPs) s
      let younger := match heldSince w true s, heldSince h false s with
        | none, _ => h
        | some _, none => w
        | some a, some b => if b < a then w else if a < b then h else if h.port < w.port then w else h
      settleFreezes (revokeParty younger s)

/-- The targets whose freeze has run out (R352). -/
def expiredFreezes (s : State) : List Nat :=
  (List.range 40).filter (fun t => match SMap.get none s.mem.freezeEnd t with
    | some (from_, n) => decide (n ≤ ticksSince from_ s)
    | none => false)

/-- Targets are released. -/
def thaw (ts : List Nat) (s : State) : State :=
  { s with mem := { s.mem with frozen := ts.foldl (fun m t => withBit m t false) s.mem.frozen
                               freezeEnd := ts.foldl (fun m t => SMap.set none m t none) s.mem.freezeEnd } }

/-- TXN_FREEZE_EXPIRY (R352). -/
def execTxnFreezeExpiry (s : State) : State := thaw (expiredFreezes s) s

/-! ## Commands (R356) -/

def specBlotterConfig : CmdSpec :=
  { op := 0x0A00, check := params 12 (fun q _ =>
      decide (2 ^ 38 ≤ u64 q.body 0) || decide (u8 q.body 8 < 1 ∨ 64 < u8 q.body 8) || !allZero (q.body.drop 9)) }

/-- BLOTTER_CONFIG: from the next tick edge. -/
def effBlotterConfig (c : Cmd) (s : State) : Res :=
  .ok [] { s with mem := { s.mem with blotNext := some (u64 c.req.body 0, u8 c.req.body 8) } }

def execBlotterConfig (q : CmdReq) (s : State) : State := runCmd specBlotterConfig effBlotterConfig q s

/-- At a tick edge (BLOTTER_CONFIG). -/
def tickBlotter (s : State) : State :=
  match s.mem.blotNext with
  | some (m, n) => { s with mem := { s.mem with enabled := m, interval := n, blotNext := none } }
  | none => s

/-- BLOTTER_GROUP. -/
def blotterGroup (g : Nat) (s : State) : Nat :=
  let x := s.blot g
  b2n (bit s.mem.enabled g) * 2 ^ 31 + b2n x.faultSeen * 2 ^ 30 + x.region * 2 ^ 16 + x.sweeps

def specBlotterQuery : CmdSpec :=
  { op := 0x0A01, reads := true, check := params 4 (fun q _ => decide (37 < u8 q.body 0) || !allZero (q.body.drop 1)) }

def effBlotterQuery (c : Cmd) (s : State) : Res :=
  let g := u8 c.req.body 0
  let x := s.blot g
  .ok (le 4 (blotterGroup g s) ++ le 2 (x.lastRegion.getD 0xFFFF) ++ zeros 2 ++ le 4 x.lastTick.toNat) s

def execBlotterQuery (q : CmdReq) (s : State) : State := runCmd specBlotterQuery effBlotterQuery q s

def specTxnFreeze : CmdSpec :=
  { op := 0x0A02, check := params 20 (fun q _ =>
      let a := u64 q.body 0
      let b := u64 q.body 8
      decide (2 ^ 40 ≤ a) || decide (2 ^ 40 ≤ b) || (List.range 40).any (fun t => bit a t && bit b t) ||
        decide (u16 q.body 18 ≠ 0)) }

/-- TXN_FREEZE (R352). -/
def effTxnFreeze (c : Cmd) (s : State) : Res :=
  let p := c.req.body
  let set := bitsOf 40 (u64 p 0)
  let n := u16 p 16
  let anew := set.filter (fun t => !targetFrozen t s)
  let s := thaw (bitsOf 40 (u64 p 8)) s
  let fin : Option (Word × Nat) := if n = 0 then none else some (ownTick s, n)
  let s : State := { s with mem := { s.mem with frozen := set.foldl (fun m t => withBit m t true) s.mem.frozen
                                                freezeEnd := set.foldl (fun m t => SMap.set none m t fin) s.mem.freezeEnd } }
  if anew.any (fun t => targetBusy t s) then .later { s with mem := { s.mem with freezing := SMap.set [] s.mem.freezing c.seq anew } }
  else .ok (le 8 (frozenMask s)) s

def execTxnFreeze (q : CmdReq) (s : State) : State := runCmd specTxnFreeze effTxnFreeze q s

/-- The access of a SCRATCH_OP. -/
def scratchAcc (p : Bytes) : ScratchAcc :=
  { kind := match u8 p 0 with | 0 => .read | 1 => .write | 2 => .add | _ => .swap
    wide := decide (u8 p 1 = 8), addr := BitVec.ofNat 18 (u32 p 4), value := BitVec.ofNat 64 (u64 p 8) }

def specScratchOp : CmdSpec :=
  { op := 0x0A03, check := params 16 (fun q _ =>
      let p := q.body
      decide (3 < u8 p 0) || decide (u8 p 1 ≠ 4 ∧ u8 p 1 ≠ 8) || decide (u16 p 2 ≠ 0) ||
        decide (u32 p 4 < 0x30000 ∨ 0x40000 ≤ u32 p 4) || decide (u32 p 4 % u8 p 1 ≠ 0) ||
        (decide (u8 p 1 = 4) && decide (u32 p 12 ≠ 0))) }

/-- SCRATCH_OP (R340, R342): an access of port B to the same word in this arbitration cycle makes a collision. -/
def effScratchOp (c : Cmd) (s : State) : Res :=
  let a := scratchAcc c.req.body
  let b := s.mem.lastB.filter (fun e => decide (e.1 = arbCycle s) && decide (wordOf e.2.at_ = wordOf a.at_))
  if seqWaits 1 a s then .later (seqQueue 1 a (some c.seq) s)
  else if scratchBad a s then .fail .hwFault s
  else match b with
    | some (_, e) =>
      if a.changes = e.changes then
        let (old, s) := scratchRun a s
        .ok (le 8 old) (if a.kind = .write ∧ e.kind = .write ∧ portAFirst s then (scratchRun e s).2 else s)
      else
        let (v, s) := takeFree (8 * a.size) s
        let (old, s) := scratchRun a s
        let s := collide s
        if portAFirst s then .ok (le 8 (if a.changes then old else v)) s else .done .busyRetry 1 [] s
    | none => let (old, s) := scratchRun a s; .ok (le 8 old) s

def execScratchOp (q : CmdReq) (s : State) : State := runCmd specScratchOp effScratchOp q s

/-! ## Registers -/

/-- Regions borrowed now. -/
def borrowed (s : State) : Nat :=
  ((List.range 38).filter (fun g => match blotStep g s with | some b => decide (b.phase ≠ .waiting) | none => false)).length

/-- PCIe waits: a ring with something to fetch or a reply to post finds host memory or Quill's memory taken. -/
def pcieWaits (s : State) : Bool :=
  let some_ := fun (n : Nat) => let r := s.ring n; r.enable && !r.stopped && !r.blocked && decide (r.prod ≠ r.cons)
  !s.boot.perst && !hasTurn 1 hostRead_ s && ([0, 1, 2, 3].any some_ || (some_ 4 && !s.cmd.waiting.isEmpty))

/-- A mask of requester ports. -/
def portMask (l : List Xfer) : Nat := ((List.range 7).map (fun p => b2n (l.any (fun x => decide (x.port = p))) * 2 ^ p)).sum

/-- The memory registers that no read changes, at offsets from 0x000A_0000. -/
def readMemory (off : Nat) (s : State) : Option Nat :=
  match off with
  | 0x4 => some (b2n (decide (s.mem.enabled ≠ 0)) * 2 ^ 31 + blotInterval s * 2 ^ 24 + borrowed s)
  | 0x8 => some s.mem.sel
  | 0xC => some (blotterGroup s.mem.sel s)
  | 0x10 => some (portMask s.mem.grants * 256 + (portMask s.mem.requests ||| (b2n (pcieWaits s) * 2)))
  | 0x14 => some (frozenMask s % 2 ^ 32)
  | 0x18 => some (frozenMask s / 2 ^ 32)
  | _ => none

end Sys2Proof.Machine
end

