-- ==== Sys2Proof/Machine/Power.lean ====
section
/-!
DEFINITION. Rings as doorbells reach them (02 R42, R43), power domains, and the one sleep state (16).
-/

namespace Sys2Proof.Machine

/-! ## Rings (02 R42, R43) -/

/-- A DOORBELL as it takes effect (02 R43). -/
def applyBell (n prod : Nat) (s : State) : State :=
  let r := s.ring n
  if !r.enable || r.stopped then s
  else
    let size := max 1 r.size.toNat
    if r.size.toNat ≤ prod ∨ (prod + size - r.cons) % size < (r.prod + size - r.cons) % size then ringError n 2 s
    else s.setRing n { r with prod, blocked := false }

/-- DOORBELL (02 R43): held while asleep; a wake source (16 R379, Table 16.4 cause 8). -/
def execDoorbell (n prod : Nat) (s : State) : State :=
  if asleep s || decide (s.pwr.state = .waking) then
    fireWake 8 { s with pwr := { s.pwr with heldBells := s.pwr.heldBells ++ [(n, prod)] } }
  else applyBell n prod (fireWake 8 s)

/-- The SIZE of a ring is valid (02 R42). -/
def ringSizeOk (n : Nat) : Bool := [16, 32, 64, 128, 256, 512, 1024, 2048, 4096].contains n

/-- ENABLE is set (02 R42): CONS starts at 0; a SIZE that is not valid stops the ring with code 1. -/
def execRingEnable (n : Nat) (s : State) : State :=
  hostWrite (fun s =>
    let r := s.ring n
    if r.enable then s
    else if ringSizeOk r.size.toNat then s.setRing n { r with enable := true, stopped := false, cons := 0, prod := 0, blocked := false }
    else ringError n 1 (s.setRing n { r with cons := 0, prod := 0, blocked := false })) s

/-- ENABLE is cleared: commands already taken complete normally (02 R43). -/
def execRingDisable (n : Nat) (s : State) : State :=
  hostWrite (fun s => s.setRing n { s.ring n with enable := false, stopped := false }) s

/-! ## Domains (16 R372–R374) -/

/-- A domain carries service (Table 16.1). -/
def carriesService (d : Nat) (s : State) : Bool :=
  if 3 ≤ d ∧ d ≤ 6 then decide ((s.inst (d - 3)).st ≠ 0x10)
  else if 7 ≤ d ∧ d ≤ 10 then (List.range 10).any (fun j => laneInUse (10 * (d - 7) + j) s)
  else if 11 ≤ d ∧ d ≤ 14 then
    s.tbl.entries.any (fun e => decide (e.1 / 2 ^ 20 = d - 11) && entryValid e.2) ||
      s.tbl.flow.any (fun e => decide (e.1 / 2 ^ 21 = d - 11) && decide (e.1 % 8 = 0) && e.2.getLsbD 16)
  else if d = 19 then (List.range 8).any (fun t => (s.trib t).enable)
  else false

/-- DOMAIN_POWER off is never permitted (Table 16.1). -/
def neverOff (d : Nat) : Bool := !(decide (3 ≤ d ∧ d ≤ 14) || decide (d = 19))

/-- What FORCE does first (R384). -/
def stopService (d : Nat) (s : State) : State :=
  if 3 ≤ d ∧ d ≤ 6 then stopInstance (d - 3) s
  else if 7 ≤ d ∧ d ≤ 10 then groupDown (d - 7) s
  else if d = 19 then wipeDomain 19 s
  else s

/-- A table block of the domain is locked. -/
def domainLocked (d : Nat) (s : State) : Bool :=
  decide (11 ≤ d ∧ d ≤ 14) && (List.range 4).any (fun j => locked (4 * (d - 11) + j) s)

/-- At item 10 the sequences of accepted DOMAIN_POWERs start (R373), and those that nothing holds any more end. -/
def startOffs (s : State) : State :=
  (List.range 24).foldl (fun s d =>
    let s := if (s.domain d).phase = .requested then s.setDomain d { phase := .stopping, sincePs := s.clk.nowPs } else s
    tryOff d s) s

/-- DOMAIN_OFF_GRANT_TIMEOUT (R373): grants still open after 4 µs are revoked, and the domain is switched off. -/
def execDomainOffGrantTimeout (d : Nat) (s : State) : State :=
  let x := s.domain d
  if x.phase ≠ .stopping ∨ domainHeld d s then s
  else
    let open_ := domainGrants d s
    if open_.isEmpty then tryOff d s
    else
      let s := advanceTo (x.sincePs + 4000000) s
      let s := open_.foldl (fun s g => requeue g (revokeGrant g s)) s
      switchOff d (s.setDomain d { x with revoked := open_.length })

/-- DOMAIN_POWER_UP_COMPLETE (R374). -/
def execDomainPowerUpComplete (d : Nat) (s : State) : State :=
  if (s.domain d).phase = .powering then completeRunningAt 0x0B01 d .ok (le 4 0) (s.setDomain d {}) else s

def specDomainPower : CmdSpec :=
  { op := 0x0B01, kind := 7, force := true
    check := params 4 (fun q _ => decide (1 < u8 q.body 0) || !allZero (q.body.drop 1) || neverOff q.index) }

/-- DOMAIN_POWER (R373, R374, R384). -/
def effDomainPower (c : Cmd) (s : State) : Res :=
  let d := c.req.index
  let x := s.domain d
  if u8 c.req.body 0 = 0 then
    if x.phase ≠ .on ∧ x.phase ≠ .powering then .ok (le 4 0) s
    else if carriesService d s && !c.req.force then .fail .busyService s
    else if domainLocked d s then .fail .lockHeld s
    else .later ((stopService d s).setDomain d { phase := .requested })
  else match x.phase with
    | .off => .later (s.setDomain d { phase := .powering, sincePs := s.clk.nowPs })
    | _ => .ok (le 4 0) s

def execDomainPower (q : CmdReq) (s : State) : State := runCmd specDomainPower effDomainPower q s

/-! ## The decision to sleep (R375, R376) -/

/-- A worker does not keep the part awake (Table 16.2). -/
def workerSleeps (w : Nat) (s : State) : Bool :=
  let x := s.worker w
  decide (x.state = 0) || (decide (x.state = 4) && x.eidleOk && decide ((s.lane w).rate ≤ 3))

/-- Table 16.2. -/
def maySleep (s : State) : Bool :=
  let insts := (List.range 4).map (fun i => s.inst i)
  s.pwr.cfg.enable &&
    insts.all (fun x => decide (x.st = 0x10) || (decide (x.st = 0x51) && x.sleepAllowed)) && insts.any (fun x => decide (x.st = 0x51)) &&
    decide (s.pair.state = 0) && (List.range 8).all (fun t => !(s.trib t).enable) && (List.range 32).all (fun w => workerSleeps w s) &&
    s.tbl.leases.isEmpty && s.cmd.pendingSet.isEmpty && s.cmd.executing.isEmpty &&
    [0, 1].all (fun e => decide ((s.image e).state ≠ .building) && decide ((s.image e).state ≠ .draining)) &&
    (List.range 36).all (fun p => (s.gate p).pending.isNone) && s.bist.run.isNone && !s.fatal.asserted

/-- Quill queues the sleep indication on every instance in O5.1. -/
def decideSleep (s : State) : State :=
  let on := (List.range 4).filter (fun i => decide ((s.inst i).st = 0x51))
  let s := on.foldl (fun s i => sendOwn i { msg := .sleepRequest true } s) s
  { s with pwr := { s.pwr with state := .decided, decidedTick := ownTick s, fired := none, indicating := on } }

/-- MAX_SLEEP_TICKS is reached (Table 16.4, cause 9). -/
def slept (s : State) : Bool := decide (s.pwr.cfg.maxSleepTicks ≠ 0) && decide (s.pwr.cfg.maxSleepTicks ≤ ticksSince s.pwr.asleepTick s)

/-- A queue of 0–12,287 holds a frame (R375). -/
def queuesBusy (s : State) : Bool := s.queues.any (fun e => decide (e.1 < 12288) && !e.2.frames.isEmpty)

/-- Is a source watched now (Table 16.4)? During entry the receivers run up to A1. -/
def watched (cause : Nat) (s : State) : Bool :=
  match cause with
  | 0 => false
  | 1 | 2 | 3 => decide (s.pwr.state ≠ .asleep) && !(decide (s.pwr.state = .entering) && decide (2 ≤ s.pwr.abortPoint))
  | 4 => decide (s.pwr.state = .sampling)
  | 6 => s.pwr.cfg.hostKeep
  | 9 => asleep s && slept s
  | _ => true

/-- POWER_DECISION, item 10 of Table 1.8 (R373, R375, R376). A wake source that fires in the clock of the decision wins: the first abort
point sees it (R378). -/
def execPowerDecision (met : Option Nat) (s : State) : State :=
  itemRow 10 (fun s =>
    let s := startOffs s
    if asleep s then (if slept s then fireWake 9 s else s)
    else if s.pwr.state ≠ .awake then s
    else
      let s : State := { s with pwr := { s.pwr with idleLeft := s.pwr.idleLeft - 1, active := s.pwr.active || queuesBusy s } }
      if s.pwr.idleLeft = 0 ∧ maySleep s then
        let s := decideSleep s
        match met with
        | some k => if watched k s then fireWake k s else s
        | none => s
      else s) s

/-- At a tick edge: what happened in the tick before restarts the idle timer, and a SLEEP_CONFIG applies (R375, R384). -/
def tickPower (s : State) : State :=
  let s : State := match s.pwr.cfgNext with
    | some c => { s with pwr := { s.pwr with cfg := c, cfgNext := none, idleLeft := c.idleTicks } }
    | none => s
  let s : State := if s.pwr.active then { s with pwr := { s.pwr with active := false, idleLeft := s.pwr.cfg.idleTicks } } else s
  if s.pwr.state = .sampling then { s with pwr := { s.pwr with sampleLeft := s.pwr.sampleLeft - 1 } } else s

/-- SLEEP_INDICATION_TIMEOUT (R376): the decision lapses and the idle timer restarts. -/
def execSleepIndicationTimeout (s : State) : State :=
  if s.pwr.state = .decided ∧ s.pwr.indicating ≠ [] ∧ 64 ≤ ticksSince s.pwr.decidedTick s then
    count .sleepIndicationTimeout 0
      { s with pwr := { s.pwr with state := .awake, indicating := [], fired := none, idleLeft := s.pwr.cfg.idleTicks } }
  else s

/-! ## Entry (R377, R378) -/

/-- IRQ# is asserted (02 R64). -/
def irqAsserted (s : State) : Bool :=
  s.dev.ctrl.getLsbD 3 && s.dev.outputs.getLsbD 0 && decide (intCause s &&& s.evt.pinMask ≠ 0)

/-- HEALTH_OK is driven high (15 R367). -/
def healthOk (s : State) : Bool := s.dev.outputs.getLsbD 0 && decide (ownHealth s % 64 = 63)

/-- The level of the pad of a TEV output or of PPS_OUT while it drives (12 R317). -/
def outLevel (o : Nat) (s : State) : Bool := (s.output o).asserted != (s.output o).cfg.activeLow

/-- The levels that the pads hold from A0 on (R381): 0 FATAL#, 1 IRQ#, 2 ACT_OUT#, 3 HEALTH_OK, 8 + k output k, SYNC_OUT the last. -/
def padLevels (s : State) : List (Nat × Bool) :=
  [(0, s.fatal.asserted), (1, irqAsserted s), (2, s.pair.actOut), (3, healthOk s)] ++
    (List.range 9).map (fun o => (8 + o, outLevel o s)) ++ [(17, bit (outState s) 9)]

/-- Pads are released: those of outputs that drive take the levels that their states give them (R378, R384). -/
def releasePads (s : State) : State :=
  let held := s.pwr.latched
  let s : State := { s with pwr := { s.pwr with padsLatched := false, latched := [] } }
  (List.range 9).foldl (fun s o =>
    if padDriven o s && held.contains (8 + o, !outLevel o s) then emit (.pad o (outLevel o s)) s else s) s

/-- Entry is abandoned at an abort point: every step passed is undone (R378). -/
def abandonSleep (n cause : Nat) (s : State) : State :=
  let s := s.pwr.idled.foldl (fun s l => requestWake false l s) s
  let s : State := { s with pwr := { s.pwr with state := .awake, wakeCause := cause, lastAbort := n, fired := none, active := true, idled := [] } }
  let s := if n ≠ 0 ∧ s.pwr.ownLatch then releasePads s else s
  raise .sleepAbandoned 0 0 (n + cause * 256) (count .wakeDuringEntry 0 s)

/-- A lane that sleep keeps, in electrical idle: one in use, or the link of a worker to its manager (R372; log 1605). -/
def keptLane (n : Nat) (s : State) : Bool := laneInUse n s || (decide (s.dev.role = 2) && decide (n = 0) && decide (s.role.version ≠ 0))

/-- Grants that are still open 4 µs after A0 are revoked, and wait until the wake (R373 step 3, Table 16.3). -/
def revokeLate (s : State) : State :=
  (s.mem.grants.filter (fun x => x.targets.any (fun t => decide (t < 38)))).foldl (fun s g => requeue g (revokeGrant g s)) s

/-- Lanes in use enter electrical idle (A1): those that carry Mapiyn at rates 0–3. -/
def idleLanes (s : State) : State :=
  let l := (List.range 32).filter (fun w => keptLane w s && decide ((s.lane w).state = .locked) &&
    !(s.lane w).txIdle && decide ((s.lane w).rate ≤ 3) && idleAllowed w s)
  let s := l.foldl (fun s w => requestIdle w s) s
  { s with pwr := { s.pwr with idled := l } }

/-- Every other lane of the groups is switched off (R372); D10 stays ON with HOST_KEEP. -/
def darkenLanes (s : State) : State :=
  let l := (List.range (if s.pwr.cfg.hostKeep then 30 else 36)).filter (fun n =>
    !keptLane n s && decide ((s.lane n).state ≠ .down) && decide ((s.lane n).state ≠ .fault))
  let notes := l.map (fun n => laneNote n s)
  let s := l.foldl (fun s n => laneDown n s) s
  { s with pwr := { s.pwr with darkened := notes } }

/-- A3: domains are switched off or to retention, asleep by E + 20 µs (Table 16.3). D3–D6 of an instance in O1.1 held and D19
lose their state, and lanes not in use go off (Table 16.1). -/
def fallAsleep (s : State) : State :=
  let tick := ownTick s
  let s := darkenLanes (settleLanes (advanceTo (s.pwr.entryPs + 20000000) s))
  let s := (List.range 4).foldl (fun s i => if (s.inst i).st = 0x10 then wipeDomain (3 + i) s else s) s
  let s := wipeDomain 19 s
  let s : State := { s with pwr := { s.pwr with state := .asleep, asleepTick := tick, fired := none, sampleLeft := 0 } }
  raise .sleepEntered 0 0 0 (count .sleepEntries 0 s)

/-- An abort point is checked, and passed where no wake source has fired (Table 16.3). -/
def abortPoint (n : Nat) (s : State) : State :=
  match s.pwr.fired with
  | some cause => abandonSleep n cause s
  | none =>
    let s : State := { s with pwr := { s.pwr with abortPoint := n + 1 } }
    match n with
    | 0 => { s with pwr := { s.pwr with
        state := .entering, padsLatched := true, ownLatch := !s.pwr.padsLatched
        latched := if s.pwr.padsLatched then s.pwr.latched else padLevels s } }
    | 1 => idleLanes (revokeLate s)
    | 3 => fallAsleep s
    | _ => s

/-- SLEEP_ENTRY_START (R376): E, when no Blotter step is in progress and the indications have been sent; A0. -/
def execSleepEntryStart (s : State) : State :=
  if s.pwr.state = .decided ∧ s.pwr.indicating = [] ∧ s.mem.groups.all (fun e => e.2.step.isNone) then
    abortPoint 0 { s with pwr := { s.pwr with entryPs := s.clk.nowPs } }
  else s

/-- SLEEP_ABORT_POINT (Table 16.3): A1–A3 at E + 5, 6 and 7 µs. -/
def execSleepAbortPoint (n : Nat) (s : State) : State :=
  if s.pwr.state = .entering ∧ n = s.pwr.abortPoint ∧ 1 ≤ n then
    abortPoint n (advanceTo (s.pwr.entryPs + (4 + n) * 1000000) s)
  else s

/-! ## Asleep (R379, R380) -/

/-- SLEEP_SAMPLE_START (R380): 10 µs before T0 of a tick s with s − A a positive multiple of SAMPLE_PERIOD. -/
def execSleepSampleStart (s : State) : State :=
  let n := ticksSince s.pwr.asleepTick s + 1
  if asleep s ∧ n % max 1 s.pwr.cfg.samplePeriod = 0 ∧ s.clk.channel < 4 ∧ s.pwr.sampleLeft < 3 then
    let s := advanceTo (s.clk.t0Ps + 115000000) s
    count .sleepSamples 0 { s with pwr := { s.pwr with state := .sampling, sampleLeft := 3 } }
  else s

/-- SLEEP_SAMPLE_END (R380): T0 of s + 2; with SAMPLE_PERIOD 1 or 2 the receiver stays on. -/
def execSleepSampleEnd (s : State) : State :=
  if s.pwr.state = .sampling ∧ s.pwr.sampleLeft = 0 ∧ 2 < s.pwr.cfg.samplePeriod then
    { s with pwr := { s.pwr with state := .asleep } }
  else s

/-- WAKE_EVENT (R382): a source of Table 16.4 fires; asleep it is the wake event W. -/
def execWakeEvent (cause : Nat) (s : State) : State := if watched cause s then fireWake cause s else s

/-- PWR_WAKE: cause 8. -/
def execPwrWake (_ : Path) (v : Word) (s : State) : State := if v.getLsbD 0 then fireWake 8 s else s

/-! ## Wake (R382, Table 16.5) -/

/-- What a wake resumes: lanes leave idle, each instance in O5 queues its awake indication, host ports without HOST_KEEP
restart their PHY, held doorbells and the held command are applied. -/
def resume (s : State) : State :=
  let s := s.pwr.idled.foldl (fun s l => requestWake true l s) s
  let s := reenable s.pwr.darkened s
  let s := (List.range 4).foldl (fun s i => if (s.inst i).inO5 then sendOwn i { msg := .sleepRequest false } s else s) s
  let s := if s.pwr.cfg.hostKeep then s else (List.range 4).foldl (fun s h => setMacLink h false s) s
  let bells := s.pwr.heldBells
  let s : State := { s with pwr := { s.pwr with heldBells := [], idled := [], darkened := [] } }
  let s := bells.foldl (fun s b => applyBell b.1 b.2 s) s
  match s.pwr.heldPush with
  | some d => { s with pwr := { s.pwr with heldPush := none }, spi := { s.spi with mail := some d, cmdFree := false } }
  | none => s

/-- WAKE_COMPLETE (Table 16.5): W + 250 µs. -/
def execWakeComplete (s : State) : State :=
  if s.pwr.state = .waking then
    let s := advanceTo (s.pwr.wakePs + 250000000) s
    let s : State := { s with pwr := { s.pwr with state := .awake, fired := none, idleLeft := s.pwr.cfg.idleTicks, sampleLeft := 0 } }
    raise .sleepWoken 0 0 s.pwr.wakeCause (resume s)
  else s

/-! ## Commands (R383, R384) -/

def specSleepConfig : CmdSpec :=
  { op := 0x0B00, check := params 16 (fun q _ =>
      let p := q.body
      decide (3 < u8 p 0) || decide (u16 p 2 = 0) || decide (u16 p 4 < 1 ∨ 800 < u16 p 4) || decide (u8 p 6 < 1 ∨ 3 < u8 p 6) ||
        decide (u8 p 7 ≠ 0)) }

/-- SLEEP_CONFIG (Table 16.7): at the next tick edge. -/
def effSleepConfig (c : Cmd) (s : State) : Res :=
  let p := c.req.body
  let v : SleepCfg := { enable := bit (u8 p 0) 0, hostKeep := bit (u8 p 0) 1, wakePinMask := u8 p 1, idleTicks := u16 p 2
                        samplePeriod := u16 p 4, wakePinEdge := u8 p 6, wakeBytes := u32 p 8, maxSleepTicks := u32 p 12 }
  .ok [] { s with pwr := { s.pwr with cfgNext := some v } }

def execSleepConfig (q : CmdReq) (s : State) : State := runCmd specSleepConfig effSleepConfig q s

def specClockSwitch : CmdSpec := { op := 0x0B02, check := fun q _ => lenIs 0 q }

/-- CLOCK_SWITCH (R382, R384). -/
def effClockSwitch (_ : Cmd) (s : State) : Res :=
  if s.pwr.clockFast then .ok [] { s with pwr := { s.pwr with clockFast := false } } else .fail .notFound s

def execClockSwitch (q : CmdReq) (s : State) : State := runCmd specClockSwitch effClockSwitch q s

def specPadRelease : CmdSpec := { op := 0x0B03, check := fun q _ => lenIs 0 q }

/-- PAD_RELEASE (R381, R384). -/
def effPadRelease (_ : Cmd) (s : State) : Res :=
  if s.pwr.padsLatched then .ok [] (releasePads s) else .fail .notFound s

def execPadRelease (q : CmdReq) (s : State) : State := runCmd specPadRelease effPadRelease q s

/-- PWR_STATUS. -/
def pwrStatus (s : State) : Nat :=
  let st := match s.pwr.state with
    | .awake => 0 | .decided => 1 | .entering => 2 | .asleep => 3 | .sampling => 4 | .waking => 5
  s.pwr.wakeCause * 2 ^ 20 + s.pwr.lastAbort * 2 ^ 18 + b2n s.pwr.padsLatched * 2 ^ 17 + b2n s.pwr.clockFast * 2 ^ 16 + st * 2 ^ 12 +
    ((List.range 4).map (fun i => b2n (s.inst i).sleepAllowed * 2 ^ (8 + i))).sum

/-- PWR_DOMAIN_ON: asleep, the domains that Table 16.1 keeps ON, with the channel pair of a sample. -/
def domainsOn (s : State) : Nat :=
  ((List.range 24).map (fun d =>
    let on := if asleep s then
        [0, 2, 21].contains d || (decide (d = 10) && s.pwr.cfg.hostKeep) ||
          (decide (s.pwr.state = .sampling) && decide (d = 3 + s.clk.channel))
      else domainOn d s
    b2n on * 2 ^ d)).sum

def specPowerQuery : CmdSpec := { op := 0x0B04, reads := true, check := fun q _ => lenIs 0 q }

def effPowerQuery (_ : Cmd) (s : State) : Res :=
  .ok (le 4 (pwrStatus s) ++ le 4 (domainsOn s) ++ le 4 s.pwr.idleLeft ++ le 4 s.pwr.sleepTicks.toNat) s

def execPowerQuery (q : CmdReq) (s : State) : State := runCmd specPowerQuery effPowerQuery q s

/-- The power registers, at offsets from 0x000C_0000; they are served asleep (R379). -/
def readPower (off : Nat) (s : State) : Option Nat :=
  match off with
  | 0 => some (pwrStatus s)
  | 4 => some (domainsOn s)
  | 8 => some s.pwr.idleLeft
  | 0xC => some s.pwr.sleepTicks.toNat
  | 0x10 => some 0
  | _ => none

end Sys2Proof.Machine
end

