-- ==== Sys2Proof/Machine/SelfTest.lean ====
section
/-!
DEFINITION. Life cycle, self-test and boundary scan (17).
-/

namespace Sys2Proof.Machine

/-! ## The TAP (R392) -/

/-- JTAG is open (Table 17.2). -/
def jtagOpen (s : State) : Bool := decide (s.lc.state = 0) || decide (s.lc.state = 3)

/-- The word of IDCODE (Table 17.4). -/
def idcode (s : State) : Nat := s.fuse.siliconStep.toNat % 16 * 2 ^ 28 + 0x0880 * 4096 + 0x6AF * 2 + 1

/-- An instruction comes into force. Where the boundary register gave the pads back, the outputs that drive take the levels that
their states give them. -/
def setJtag (n : Nat) (s : State) : State :=
  let t : State := { s with jtag := n }
  if padsOwned s && !padsOwned t then
    (List.range 9).foldl (fun t o => if padDriven o t then emit (.pad o (outLevel o t)) t else t) t
  else t

/-- TRST_ASSERT: Test-Logic-Reset. -/
def execTrstAssert (s : State) : State := setJtag 1 s

/-- JTAG_INSTRUCTION_UPDATE (Table 17.4): a code that is not open, or not defined, acts as BYPASS; IDCODE gives its word to be shifted
out. -/
def execJtagInstructionUpdate (code : Nat) (s : State) : State :=
  let open_ := [2, 3, 4, 5, 6, 7].contains code && jtagOpen s
  let s := setJtag (if code = 1 ∨ open_ then code else 0xFF) s
  if code = 1 then emit (.idcode (idcode s)) s else s

/-! ## Life cycle (R385–R387) -/

/-- The authentication that a transition needs (Table 17.1). -/
def lcNeedsAuth (state target : Nat) : Bool :=
  (decide (state = 1) && decide (target = 2)) || (decide (state = 2) && decide (target = 3)) ||
    ((decide (state = 1) || decide (state = 2)) && decide (target = 4))

/-- A transition of Table 17.1. -/
def lcAllowed (state target : Nat) : Bool :=
  (decide (state < 3) && decide (target = state + 1)) || (decide (state < 4) && decide (target = 4))

def specLcAdvance : CmdSpec :=
  { op := 0x0D00, force := true
    needsAuth := fun q s => lcNeedsAuth s.lc.state (u8 q.body 0)
    check := params 8 (fun q s =>
      let p := q.body
      let t := u8 p 0
      decide (t < 1 ∨ 4 < t) || decide (1 < u8 p 1) || decide (u16 p 2 ≠ 0) || decide (u32 p 4 ≠ 0xA5A5A500 + t) ||
        !lcAllowed s.lc.state t || (decide (u8 p 1 = 1) != decide (s.lc.state = 0 ∧ t = 1)) ||
        (decide (t = 1) && allZero (stagedKey s))) }

/-- The part carries service (R387). -/
def carriesAny (s : State) : Bool :=
  (List.range 4).any (fun i => decide ((s.inst i).st ≠ 0x10)) || pairActive s || (List.range 8).any (fun t => (s.trib t).enable)

/-- What FORCE does first (R387). -/
def stopEverything (s : State) : State :=
  let s := (List.range 4).foldl (fun s i => stopInstance i s) s
  let s := if s.pair.enable then disablePair s else s
  (List.range 8).foldl (fun s t => if (s.trib t).enable then disableTrib t s else s) s

/-- LC_ADVANCE (R386, R387): the staging words are taken as the key to be fused. -/
def effLcAdvance (c : Cmd) (s : State) : Res :=
  let t := u8 c.req.body 0
  if s.bist.run.isSome || s.lc.programming.isSome then .fail .busyRetry s
  else if (t = 3 ∨ t = 4) ∧ carriesAny s ∧ !c.req.force then .fail .busyService s
  else
    let s := if (t = 3 ∨ t = 4) ∧ carriesAny s then stopEverything s else s
    let s : State := if t = 1 then { s with fuse := { s.fuse with key := stagedKey s } } else s
    .later { s with lc := { s.lc with programming := some { target := t } } }

def execLcAdvance (q : CmdReq) (s : State) : State := runCmd specLcAdvance effLcAdvance q s

/-- The programmed copies of a row are n. -/
def setCopies (row n : Nat) (s : State) : State :=
  let copies := SMap.set 0 s.fuse.copies row n
  { s with fuse := { s.fuse with copies }, lc := { s.lc with fuseWeak := fuseWeak copies } }

/-- The effective clock of a transition (R386, Table 17.1). -/
def enterLife (t : Nat) (s : State) : State :=
  let old := s.lc.state
  let s := setCopies t 3 s
  let s : State := setJtag 1 { s with lc := { s.lc with state := t, programming := none } }
  let s : State := match t with
    | 1 => clearStaging { s with fuse := { s.fuse with keyFused := true } }
    | 2 => { s with cipher := { s.cipher with cmOn := true } }
    | 4 => { s with fuse := { s.fuse with key := List.replicate 32 0xFF } }
    | _ => s
  raise .lifecycleChanged 0 0 (old + 256 * t) (wipeScratch 4 s)

/-- LC_FUSE_VERIFIED (R386, R395): the second copy verifies; or the programming fails, with at most one copy programmed, whether
one is a free value. -/
def execLcFuseVerified (ok : Bool) (s : State) : State :=
  match s.lc.programming with
  | none => s
  | some r =>
    if ok then
      let s := enterLife r.target s
      let kcv := if r.target = 1 then kcvOf { loaded := true, aes256 := true, key := s.fuse.key } else 0
      completeRunning 0x0D00 .ok 0 (le 1 r.target ++ zeros 3 ++ le 4 kcv) s
    else
      let (b, s) := takeFree 1 s
      let s := setCopies r.target (max (SMap.get 0 s.fuse.copies r.target) b) s
      completeRunning 0x0D00 .hwFault 0 [] { s with lc := { s.lc with programming := none } }


/-! ## BIST (R388–R391) -/

/-- A block may be tested without FORCE (Table 17.3). -/
def testable (b : Nat) (s : State) : Bool :=
  if b < 16 then decide (SMap.get 0 s.tbl.spares b < 2) && !locked b s
  else if b < 24 then !s.tbl.flow.any (fun e => decide (e.1 / 2 ^ 20 = b - 16) && decide (e.1 % 8 = 0) && e.2.getLsbD 16)
  else if b = 24 then true
  else if b = 25 then false
  else if b < 34 then !SMap.get false s.mem.bankSpare (b - 26)
  else if b = 34 then false
  else if b = 35 then (List.range 4).all (fun i => decide ((s.inst i).st = 0x10)) && (List.range 32).all (fun w => !(s.worker w).linkProt) &&
    !s.role.linkProt && !s.pair.mirrorUp
  else if b < 40 then decide ((s.inst (b - 36)).st = 0x10)
  else if b < 44 then (List.range 10).all (fun j => !laneInUse (10 * (b - 40) + j) s)
  else if b < 48 then !(s.trib (2 * (b - 44))).enable && !(s.trib (2 * (b - 44) + 1)).enable
  else false

/-- Every queued frame is discarded; configuration stays. -/
def dropAllQueued (s : State) : State :=
  { s with queues := (s.queues.map (fun e => (e.1, { e.2 with frames := [], deficit := 0 }))).filter (fun e => e.2 ≠ {}) }

/-- A shaper as it restarts: full at BURST (08 R213). -/
def Shaper.restarted (now : Nat) (sh : Shaper) : Shaper :=
  { sh with credit := sh.cfg.burst * creditUnit, atPs := now, wheel := none }

/-- Both images EMPTY and image A ACTIVE, not valid (07 R196): frames of a pass are discarded, a build cannot complete, a DRAINING ends
with its frames, and a swap that waits for its clock names an EMPTY image (07 R201, log 713). -/
def dropImages (s : State) : State :=
  let lost := s.cls.flights.filter (fun f => searching f || waitsAgain f)
  let drained := (drainingImage s).isSome
  let s : State := { s with cls := { s.cls with
    images := [], epoch := 0, swapTo := none, flights := s.cls.flights.filter (fun f => !(searching f || waitsAgain f)) } }
  let s := lost.foldl (fun s _ => count .clsNoImage 0 s) s
  let s := match running 0x0401 s with
    | some c => completeRunning 0x0401 .hwFault 0 [] (endFetch c.seq s)
    | none => s
  if drained then completeRunning 0x0402 .ok 0 (le 4 s.cls.swapTick.toNat ++ le 4 s.clk.tick.toNat) s
  else completeRunning 0x0402 .notFound 0 [] s

/-- The disruption of a block that is tested with FORCE (Table 17.3). -/
def disrupt (b : Nat) (s : State) : State :=
  if b < 16 then
    { s with tbl := { s.tbl with isolated := withBit s.tbl.isolated b true
                                 entries := s.tbl.entries.filter (fun e => decide (e.1 / 262144 ≠ b))
                                 corrupt := s.tbl.corrupt.filter (fun n => decide (n / 262144 ≠ b)) } }
  else if b < 24 then loseFlows (b - 16) s
  else if b = 25 then dropImages s
  else if 26 ≤ b ∧ b < 34 then loseBankFrames (b - 26) .bistFramesDropped s
  else if b = 34 then
    let s := dropAllQueued s
    let shapers := s.shapers.map (fun e => (e.1, e.2.restarted s.clk.nowPs))
    { s with shapers := shapers.filter (fun e => e.2 ≠ {}), rrLast := [] }
  else if 36 ≤ b ∧ b < 40 then stopInstance (b - 36) s
  else if 40 ≤ b ∧ b < 44 then groupDown (b - 40) s
  else if 44 ≤ b ∧ b < 48 then disableTrib (2 * (b - 44) + 1) (disableTrib (2 * (b - 44)) s)
  else if b = 48 then { s with cnt := { s.cnt with value := [], ovf := [] } }
  else if b = 49 then
    { s with outputs := s.outputs.map (fun e => (e.1, { e.2 with target := none }))
             captures := s.captures.map (fun e => (e.1, { e.2 with queue := [] })), evt := { s.evt with fifo := [] } }
  else s

/-- A block that is tested unit by unit, its load kept: through a free spare, or engine by engine (R389). -/
def unitwise (b : Nat) (s : State) : Bool := (decide (b < 16) || decide (b = 24) || decide (26 ≤ b ∧ b < 34)) && testable b s

/-- The test of a block begins, the part of it that its row has: `r` is the run, at the block. -/
def startTest (r : BistRun) (s : State) : State :=
  let whole := !unitwise r.block s
  let s := if testable r.block s then s else disrupt r.block s
  { s with bist := { s.bist with run := some { r with whole }, unit := 0xFF, level := if r.full then 2 else 1, block := r.block } }

/-- The blocks that a BIST_RUN names. -/
def blocksOf (b : Nat) : List Nat := if b = 0xFF then List.range 50 else [b]

def specBistRun : CmdSpec :=
  { op := 0x0D01, force := true
    life := fun q s => decide (s.lc.state ≠ 4) &&
      (jtagOpen s || !(decide (u8 q.body 1 = 2) || decide (u8 q.body 0 = 0xFF)))
    needsAuth := fun _ s => decide (s.lc.state = 2)
    check := params 4 (fun q _ =>
      let p := q.body
      decide (49 < u8 p 0 ∧ u8 p 0 ≠ 0xFF) || decide (u8 p 1 < 1 ∨ 2 < u8 p 1) || decide (u16 p 2 ≠ 0)) }

/-- BIST_RUN (R389, R391, R396). -/
def effBistRun (c : Cmd) (s : State) : Res :=
  let p := c.req.body
  let bs := blocksOf (u8 p 0)
  if s.bist.run.isSome then .fail .busyRetry s
  else if bs.any (fun b => s.dev.isolated.getLsbD b) then .fail .hwFault s
  else if bs.any (fun b => decide (b < 16) && locked b s) then .fail .lockHeld s
  else if bs.any (fun b => !testable b s) && !c.req.force then .fail .busyService s
  else match bs with
    | [] => .ok [] s
    | b :: rest =>
      let r : BistRun := { block := b, full := decide (u8 p 1 = 2), rest, force := c.req.force, startTick := ownTick s }
      .later (startTest r s)

def execBistRun (q : CmdReq) (s : State) : State := runCmd specBistRun effBistRun q s

/-- The block comes back (R389): one that was tested whole is re-initialised, so that what was done to it during the test is lost as
what it held before (log 1704); a table block is no longer treated as isolated (Table 17.3). The power-downs that waited for the
test go on (R391). -/
def endTest (r : BistRun) (s : State) : State :=
  let b := r.block
  let s := (List.range 24).foldl (fun s d => if domainHeld d s then holdEnded d s else s) s
  let s := if r.whole then disrupt b s else s
  if b < 16 ∧ s.dev.isolated.getLsbD b = false then { s with tbl := { s.tbl with isolated := withBit s.tbl.isolated b false } } else s

/-- No BIST runs any more; a power-down that waited for its hold, and for no grant, ends (16 R373). -/
def clearBist (s : State) : State :=
  (List.range 24).foldl (fun s d => tryOff d s) { s with bist := { s.bist with run := none, unit := 0, level := 0, block := 0x3F } }

/-- BIST_COMPLETE (R390, R396): the signature against the one in ROM, a failure's report, and the next block or the reply. -/
def execBistComplete (sig : Word) (s : State) : State :=
  match s.bist.run with
  | none => s
  | some r =>
    let expected := Config.bistSignature r.block (if r.full then 2 else 1)
    let pass := decide (sig = expected)
    let s := endTest r s
    let s : State := { s with bist := { s.bist with lastPass := pass
                                                    fail := if pass then s.bist.fail else s.bist.fail ||| BitVec.ofNat 50 (2 ^ r.block) } }
    let s := if pass then s else raise .bistFail 0 0 r.block (hwSet (0xD0008 + r.block / 32 * 4) (r.block % 32) s)
    let s := if !pass && decide (s.lc.state = 1 ∨ s.lc.state = 2) then isolateUnit r.block s else s
    let r := { r with passed := r.passed + 1, failed := if pass then r.failed else withBit r.failed r.block true }
    match r.rest with
    | b :: rest => startTest { r with block := b, rest } s
    | [] =>
      completeRunning 0x0D01 .ok 0
        (le 1 (b2n (decide (r.failed ≠ 0))) ++ le 1 r.passed ++ zeros 2 ++ le 4 sig.toNat ++ le 4 expected.toNat ++
          le 4 (ticksSince r.startTick s) ++ le 8 r.failed) (clearBist s)

/-- A reset of the block's region ends the test: REVOKED (R391). -/
def revokeBist (s : State) : State :=
  match s.bist.run with
  | some r => completeRunning 0x0D01 .revoked 0 [] (clearBist (endTest r s))
  | none => s

/-- The fault of a spare that stands in for a unit of the block under test ends the test (R391): the unit has its contents back, the
spare is used up, and the command replies HW_FAULT. -/
def spareFault (u : FaultUnit) (r : BistRun) (s : State) : State :=
  let s := clearBist (endTest r s)
  let s : State :=
    if r.block < 16 then { s with tbl := { s.tbl with spares := SMap.set 0 s.tbl.spares r.block (SMap.get 0 s.tbl.spares r.block + 1) } }
    else { s with mem := { s.mem with bankSpare := SMap.set false s.mem.bankSpare (r.block - 26) true } }
  completeRunning 0x0D01 .hwFault 0 []
    (raise .cellRemapped 8 (blockRegion r.block) (u.group % 256 * 2 ^ 24 + u.cell % 65536) s)

/-- CELL_FAULT (01 R16, Table 1.3; R391): of a unit, or of the spare of a block under test. -/
def execCellFault (u : FaultUnit) (s : State) : State :=
  if u.spare then
    match s.bist.run with
    | some r => if r.block = u.block ∧ !r.whole ∧ r.block ≠ 24 then spareFault u r s else s
    | none => s
  else unitFault u s

/-! ## Registers -/

/-- LC_STATUS. -/
def lcStatus (s : State) : Nat :=
  b2n s.lc.fuseWeak * 2 ^ 15 + b2n s.authKeyFused * 2 ^ 14 + b2n s.lc.programming.isSome * 2 ^ 13 + s.lc.state

/-- BIST_STATUS. -/
def bistStatus (s : State) : Nat :=
  b2n s.bist.run.isSome * 2 ^ 31 + b2n s.bist.lastPass * 2 ^ 30 + s.bist.unit * 2 ^ 16 + s.bist.level * 2 ^ 14 + s.bist.block

/-- The life-cycle and self-test registers, at offsets from 0x000D_0000. -/
def readLife (off : Nat) (s : State) : Option Nat :=
  match off with
  | 0 => some (lcStatus s)
  | 4 => some (bistStatus s)
  | 8 => some (s.bist.fail.toNat % 2 ^ 32)
  | 0xC => some (s.bist.fail.toNat / 2 ^ 32)
  | 0x10 => some (b2n (jtagOpen s) * 256 + s.jtag)
  | _ => none

end Sys2Proof.Machine
end

