-- ==== Sys2Proof/Machine/Sign.lean ====
section
/-!
DEFINITION. The hash and the signature of an image (19 R422, R423): SHA-384 (FIPS 180-4) and the verification of ECDSA over
P-384 (FIPS 186-5). The public key that ROM holds is not in the manual (log 1909).
-/

namespace Sys2Proof.Machine

/-! ## SHA-384 -/

/-- The 80 round constants of FIPS 180-4, constant t in bits 64t + 63 : 64t. -/
def shaRounds : Nat :=
  0x6c44198c4a4758175fcb6fab3ad6faec597f299cfc657e2a4cc5d4becb3e42b6431d67c49c100d4c3c9ebe0a15c9bebc32caab7b40c7249328db77f523047d841b710b35131c471b113f9804bef90dae0a637dc5a2c898a606f067aa72176fbaf57d4f7fee6ed178eada7dd6cde0eb1ed186b8c721c0c207ca273eceea26619cc67178f2e372532bbef9a3f7b2c67915a4506cebde82bde990befffa23631e288cc702081a6439ec84c87814a1f0ab7278a5636f43172f60748f82ee5defb2fc682e6ff3d6b2b8a35b9cca4f7763e3734ed8aa4ae3418acb391c0cb3c5c95a6334b0bcb5e19b48a82748774cdf8eeb991e376c085141ab5319a4c116b8d2d0c8106aa07032bbd1b8f40e35855771202ad69906245565a910d192e819d6ef5218c76c51a30654be30c24b8b70d0f89791a81a664bbc423001a2bfe8a14cf1036492722c851482353b81c2c92e47edaee6766a0abb3c77b2a8650a73548baf63de53380d139d95b3df4d2c6dfc5ac42aed2e1b21385c26c92627b70a8546d22ffc142929670a0e6e7006ca6351e003826fd5a79147930aa725c6e00bf33da88fc2bf597fc7beef0ee4b00327c898fb213fa831c66d2db43210983e5152ee66dfab76f988da831153b55cb0a9dcbd41fbd44a7484aa6ea6e4832de92c6f592b0275240ca1cc77ac9c650fc19dc68b8cd5b5efbe4786384f25e3e49b69c19ef14ad2c19bf174cf6926949bdc06a725c7123580deb1fe3b1696b172be5d74f27b896f550c7dc3d5ffb4e2243185be4ee4b28c12835b0145706fbed807aa98a3030242ab1c5ed5da6d8118923f82a4af194f9b59f111f1b605d0193956c25bf348b538e9b5dba58189dbbcb5c0fbcfec4d3b2f7137449123ef65cd428a2f98d728ae22

/-- The initial hash value of SHA-384, word k in bits 64k + 63 : 64k. -/
def sha384Start : Nat :=
  0x47b5481dbefa4fa4db0c2e0d64f98fa78eb44a876858151167332667ffc00b31152fecd8f70e59399159015a3070dd17629a292a367cd507cbbb9d5dc1059ed8

/-- The working variables a to h of FIPS 180-4. -/
structure ShaVars where
  a : BitVec 64
  b : BitVec 64
  c : BitVec 64
  d : BitVec 64
  e : BitVec 64
  f : BitVec 64
  g : BitVec 64
  h : BitVec 64
  deriving DecidableEq, Repr

/-- The next word of the message schedule, from the words before it, newest first. -/
def shaNext (w : List (BitVec 64)) : BitVec 64 :=
  let x := w.getD 1 0
  let y := w.getD 14 0
  (x.rotateRight 19 ^^^ x.rotateRight 61 ^^^ (x >>> 6)) + w.getD 6 0 +
    (y.rotateRight 1 ^^^ y.rotateRight 8 ^^^ (y >>> 7)) + w.getD 15 0

/-- The 80 words of the message schedule of a block's 16. -/
def shaSchedule (w : List (BitVec 64)) : List (BitVec 64) :=
  ((List.range 64).foldl (fun w _ => shaNext w :: w) w.reverse).reverse

/-- One round with its constant and its word of the schedule. -/
def shaRound (v : ShaVars) (k w : BitVec 64) : ShaVars :=
  let t1 := v.h + (v.e.rotateRight 14 ^^^ v.e.rotateRight 18 ^^^ v.e.rotateRight 41) + ((v.e &&& v.f) ^^^ (~~~ v.e &&& v.g)) + k + w
  let t2 := (v.a.rotateRight 28 ^^^ v.a.rotateRight 34 ^^^ v.a.rotateRight 39) + ((v.a &&& v.b) ^^^ (v.a &&& v.c) ^^^ (v.b &&& v.c))
  { a := t1 + t2, b := v.a, c := v.b, d := v.c, e := v.d + t1, f := v.e, g := v.f, h := v.g }

/-- One block of 128 bytes into the hash value. -/
def shaBlock (v : ShaVars) (p : Bytes) : ShaVars :=
  let words := (List.range 16).map (fun k => BitVec.ofNat 64 (beNat (slice p (8 * k) 8)))
  let r := ((shaSchedule words).zipIdx).foldl (fun v x => shaRound v (BitVec.ofNat 64 (shaRounds >>> (64 * x.2))) x.1) v
  { a := v.a + r.a, b := v.b + r.b, c := v.c + r.c, d := v.d + r.d, e := v.e + r.e, f := v.f + r.f, g := v.g + r.g, h := v.h + r.h }

/-- A number of blocks in turn. -/
def shaBlocks : Nat → ShaVars → Bytes → ShaVars
  | 0, v, _ => v
  | n + 1, v, p => shaBlocks n (shaBlock v (p.take 128)) (p.drop 128)

/-- The message with its padding to whole blocks. -/
def shaPad (m : Bytes) : Bytes := m ++ [0x80] ++ zeros ((239 - m.length % 128) % 128) ++ be 16 (8 * m.length)

/-- SHA-384. -/
def sha384 (m : Bytes) : Bytes :=
  let w := fun (k : Nat) => BitVec.ofNat 64 (sha384Start >>> (64 * k))
  let p := shaPad m
  let v := shaBlocks (p.length / 128) { a := w 0, b := w 1, c := w 2, d := w 3, e := w 4, f := w 5, g := w 6, h := w 7 } p
  [v.a, v.b, v.c, v.d, v.e, v.f].flatMap (fun x => be 8 x.toNat)

/-! ## P-384 -/

/-- The prime of the field of P-384. -/
def p384 : Nat := 0xfffffffffffffffffffffffffffffffffffffffffffffffffffffffffffffffeffffffff0000000000000000ffffffff

/-- The order of the base point. -/
def n384 : Nat := 0xffffffffffffffffffffffffffffffffffffffffffffffffc7634d81f4372ddf581a0db248b0a77aecec196accc52973

/-- A point in Jacobian coordinates; Z = 0 is the point at infinity. -/
structure EcPoint where
  x : Nat
  y : Nat
  z : Nat
  deriving DecidableEq, Repr

/-- The base point of P-384. -/
def g384 : EcPoint where
  x := 0xaa87ca22be8b05378eb1c71ef320ad746e1d3b628ba79b9859f741e082542a385502f25dbf55296c3a545e3872760ab7
  y := 0x3617de4a96262c6f5d9e98bf9292dc29f8f41dbd289a147ce9da3113b5f0b8c00a60b1ce1d7e819d7a431d7c90ea0e5f
  z := 1

/-- A difference modulo m. -/
def subMod (m a b : Nat) : Nat := (a + (m - b % m)) % m

/-- A power modulo m, by the exponent's 384 bits. -/
def powMod (m a e : Nat) : Nat :=
  (List.range 384).foldl (fun r k => let r := r * r % m; if bit e (383 - k) then r * a % m else r) 1

/-- A point doubled (a = −3). -/
def ecDouble (q : EcPoint) : EcPoint :=
  if q.z = 0 ∨ q.y = 0 then { x := 1, y := 1, z := 0 }
  else
    let zz := q.z * q.z % p384
    let yy := q.y * q.y % p384
    let s := 4 * q.x * yy % p384
    let m := 3 * subMod p384 q.x zz * (q.x + zz) % p384
    let x := subMod p384 (m * m) (2 * s)
    { x, y := subMod p384 (m * subMod p384 s x) (8 * yy * yy), z := 2 * q.y * q.z % p384 }

/-- The sum of two points. -/
def ecAdd (q r : EcPoint) : EcPoint :=
  if q.z = 0 then r
  else if r.z = 0 then q
  else
    let qq := q.z * q.z % p384
    let rr := r.z * r.z % p384
    let u1 := q.x * rr % p384
    let u2 := r.x * qq % p384
    let s1 := q.y * rr % p384 * r.z % p384
    let s2 := r.y * qq % p384 * q.z % p384
    if u1 = u2 then (if s1 = s2 then ecDouble q else { x := 1, y := 1, z := 0 })
    else
      let h := subMod p384 u2 u1
      let w := subMod p384 s2 s1
      let hh := h * h % p384
      let hhh := h * hh % p384
      let v := u1 * hh % p384
      let x := subMod p384 (w * w) (hhh + 2 * v)
      { x, y := subMod p384 (w * subMod p384 v x) (s1 * hhh), z := h * q.z % p384 * r.z % p384 }

/-- A multiple of a point, by the factor's 384 bits. -/
def ecMul (k : Nat) (q : EcPoint) : EcPoint :=
  (List.range 384).foldl (fun r j => let r := ecDouble r; if bit k (383 - j) then ecAdd r q else r) { x := 1, y := 1, z := 0 }

/-- A signature, r then s in network order, over a message under a public key (FIPS 186-5). -/
def ecdsaVerify (key : Nat × Nat) (m sig : Bytes) : Bool :=
  let r := beNat (slice sig 0 48)
  let s := beNat (slice sig 48 48)
  let w := powMod n384 s (n384 - 2)
  let q := ecAdd (ecMul (beNat (sha384 m) * w % n384) g384) (ecMul (r * w % n384) { x := key.1, y := key.2, z := 1 })
  decide (1 ≤ r ∧ r < n384 ∧ 1 ≤ s ∧ s < n384) && decide (q.z ≠ 0) &&
    decide (q.x * powMod p384 (q.z * q.z % p384) (p384 - 2) % p384 % n384 = r)

end Sys2Proof.Machine
end

