-- ==== Sys2Proof/Machine/Reset.lean ====
section
/-!
DEFINITION. Resets, boot and live insertion (19; 20 R438–R445), the failure of regions (01 R16, R35), and the commands and
registers that belong to them.
-/

namespace Sys2Proof.Machine

/-! ## Region resets (01 R16; 19 R418, R419, Table 19.2) -/

/-- Fibre: every instance stops and loses what it learned; what Quill holds of its configuration stays (Table 19.2). -/
def wipeFibre (s : State) : State :=
  let on := (List.range 4).filter (fun i => decide ((s.inst i).st ≠ 0x10))
  let s := if s.lig.phase = .stopping then dissolveGroup s else s
  let s := on.foldl (fun s i => completeRunningAt 0x0202 i .ok [] (stopInstance i s)) s
  let s := on.foldl (fun s i => s.modInst i Inst.fresh) s
  let allocs := s.allocs.map (fun e => (e.1, ({ cfg := e.2.cfg, next := e.2.next } : AllocCtx)))
  { s with allocs := allocs.filter (fun e => e.2 ≠ {}), lig := {}, dev := { s.dev with restart := on } }

/-- Forwarding: table, flow contexts, leases, learn queue, move tracker and images (Table 19.2, 07 R196). -/
def wipeForwarding (s : State) : State :=
  let s := s.tbl.leases.foldl (fun s l => revokeLease l s) s
  dropImages { s with
    tbl := { nextLease := s.tbl.nextLease, learnCfg := s.tbl.learnCfg, learnNext := s.tbl.learnNext, age := s.tbl.age
             ageNext := s.tbl.ageNext, ageBase := s.tbl.ageBase }
    cls := { s.cls with enginesOk := 0xFFFF, faulted := 0, rot := 0 } }

/-- A burst that has not launched has nothing staged any more. -/
def unstage (e : Entry) : Entry :=
  if e.launched then e else { e with allocs := e.allocs.map (fun a => { a with pieces := [], taken := [], contBefore := none }) }


/-- Buffer: every frame in Inkwell, shaper credits and the units taken out of service (Table 19.2). -/
def wipeBuffer (s : State) : State :=
  let s := (List.range 4).foldl (fun s i => s.modInst i (fun x =>
    { x with omcc := [], reasm := [], sched := x.sched.map unstage })) (dropAllQueued s)
  let allocs := s.allocs.map (fun e => (e.1, ({ e.2 with cont := none } : AllocCtx)))
  let shapers := s.shapers.map (fun e => (e.1, e.2.restarted s.clk.nowPs))
  { s with
    allocs := allocs.filter (fun e => e.2 ≠ {}), shapers := shapers.filter (fun e => e.2 ≠ {}), rrLast := []
    waitUp := [], waitDown := [], cls := { s.cls with flights := [] }
    lig := { s.lig with held := [], returns := [], cont := none, partOpen := false, partData := [] }
    circs := (s.circs.map (fun e => (e.1, ({ e.2 with held := [], playing := false, next := none } : Circ)))).filter (fun e => e.2 ≠ {})
    tribs := (s.tribs.map (fun e => (e.1, ({ e.2 with rx := [] } : Trib)))).filter (fun e => e.2 ≠ {})
    pair := { s.pair with hold := [] }
    mem := { s.mem with bankSpare := [] }, cipher := { s.cipher with enginesOk := 0xFFFF, faulted := 0, tookOver := [] } }

/-- Policer buckets restart full under each context's profile, LAST at the policer clock (Table 19.2). -/
def fillPolicers (s : State) : State :=
  ((s.tbl.flow.map (fun e => e.1 / 8)).eraseDups).foldl (fun s f =>
    let b := flowBytes f s
    let p := s.policer (u16 b 8 % 4096)
    setFlow f (b.take 12 ++ le 6 (policerClock s) ++ le 3 p.cbs ++ le 3 p.pbs ++ b.drop 24) s) s

/-- Backplane: every lane through DOWN, every worker to W0, every MAC link lost; what Quill holds of LANE_CONFIG is noted
(Table 19.2). -/
def wipeBackplane (s : State) : State :=
  let on := ((List.range 36).filter (fun n => decide ((s.lane n).rate ≠ 15))).map (fun n => laneNote n s)
  let s := (List.range 40).foldl (fun s n => if (s.lane n).state = .down then s else laneDown n s) s
  let s := (List.range 32).foldl (fun s w => if (s.worker w).state = 0 then s else workerToW0 w s) s
  let s := (List.range 4).foldl (fun s h => setMacLink h false s) s
  { s with dev := { s.dev with relane := on } }

/-- An entity's current bins are SUSPECT (11 R302). -/
def suspectAll (s : State) : State := (s.pms.map (·.1)).foldl (fun s k => stopPm k s) s

/-- Tributary: alignment, defects, MSP selection and circuit SEQ (Table 19.2). -/
def wipeTributary (s : State) : State :=
  let s := (List.range 8).foldl (fun s t => portChange t (fun s => s.modTrib t (fun x =>
    { enable := x.enable, txTiming := x.txTiming, sdExp := x.sdExp })) s) s
  suspectAll { s with
    tpaths := (s.tpaths.map (fun e => (e.1, { e.2.quiet with txVc := [], justPhase := 0, shares := [] }))).filter (fun e => e.2 ≠ {})
    vcats := (s.vcats.map (fun e => (e.1, ({ e.2 with loa := false } : Vcat)))).filter (fun e => e.2 ≠ {})
    circs := []
    msps := (s.msps.map (fun e => (e.1, ({ enabled := e.2.enabled, bidir := e.2.bidir, revertive := e.2.revertive, wtrMin := e.2.wtrMin } : Msp)))).filter
      (fun e => e.2 ≠ {}) }

/-- What a region loses (Table 19.2). -/
def wipeRegion (r : Nat) (s : State) : State :=
  match r with
  | 0 => wipeFibre s
  | 1 => wipeForwarding s
  | 2 => wipeBuffer s
  | 3 => wipeBackplane s
  | 4 => wipeTributary s
  | _ => s

/-- The region that owns an item of Table 1.8. -/
def itemRegion (k : Nat) : Nat :=
  match k with
  | 2 | 3 | 6 | 7 => 1
  | 4 => 0
  | 5 => 2
  | 9 => 4
  | _ => 5

/-- A region reset begins: RESET_CAUSE.REGION and the event (18 Table 18.2: 1 escalation, 2 command, 3 overrun with its item), a
BIST of a block of the region ends with REVOKED (17 R391), the region's units count as new. -/
def beginRegion (r detail : Nat) (s : State) : State :=
  let bit := BitVec.ofNat 6 (2 ^ r)
  let s : State := { s with
    dev := { s.dev with resetting := s.dev.resetting ||| bit, regionOk := s.dev.regionOk &&& ~~~ bit, resetCause := s.dev.resetCause ||| 8
                        faulted := s.dev.faulted.filter (fun k => decide (k / 2 ^ 38 ≠ r)) }
    clk := { s.clk with overrunRun := s.clk.overrunRun.filter (fun e => decide (itemRegion e.1 ≠ r)) } }
  let s := match s.bist.run with
    | some b => if blockRegion b.block = r then revokeBist s else s
    | none => s
  checkHealth (wipeRegion r (raise .regionReset 8 r detail (hwSet 0x1018 3 s)))

/-- A region fails (01 R16, R35): Control is fatal cause 2, a second failure within 64 ticks of the reset cause 1, else the chip
resets the region. -/
def regionFails (r detail : Nat) (s : State) : State :=
  if r = 5 then fatalNow 2 5 s
  else
    let again := match SMap.get none s.dev.resetAt r with
      | some t => decide (ticksSince t s ≤ 64)
      | none => false
    if again then fatalNow 1 r s
    else beginRegion r detail { s with dev := { s.dev with resetAt := SMap.set none s.dev.resetAt r (some (ownTick s)) } }

/-- Every block of a region is out of service: the region itself fails (01 Table 1.3; log 62). -/
def regionLost (r : Nat) (s : State) : Bool :=
  !s.dev.resetting.getLsbD r && (List.range 50).all (fun b => decide (blockRegion b ≠ r) || s.dev.isolated.getLsbD b)

/-- What the chip does after a fault has been handled below it (01 Table 1.3), and the switchover that REGIONS_OK 0 calls for
(15 R368). -/
def escalate (f : State → State) (s : State) : State :=
  let s := f s
  checkHealth ((List.range 6).foldl (fun s r => if regionLost r s then regionFails r 1 s else s) s)

/-- Re-apply the configuration that Quill holds (Table 19.2). -/
def reapply (r : Nat) (s : State) : State :=
  match r with
  | 0 =>
    let on := s.dev.restart
    on.foldl (fun s i => if (s.inst i).st = 0x10 then startHunt i (enterState i 0x11 s) else s) { s with dev := { s.dev with restart := [] } }
  | 1 => { s with tbl := { s.tbl with ageBase := s.clk.tick } }
  | 2 => fillPolicers s
  | 3 =>
    let s := reenable s.dev.relane { s with dev := { s.dev with relane := [] } }
    (List.range 4).foldl (fun s h => restartMac h (s.mac h).cfg.mode s) s
  | 4 => (List.range 8).foldl (fun s t =>
      if (s.trib t).enable then
        portChange t (fun s => s.modTrib t (fun x =>
          { x with align := 1, oof := true, oofPs := s.clk.nowPs, los := !(s.lane (24 + t)).signal })) s
      else s) s
  | _ => s

/-- REGION_RESET_COMPLETE (19 R418, R419): service resumes; the commands that wait for it reply with TICKS from their dispatch. -/
def execRegionResetComplete (r : Nat) (s : State) : State :=
  if !s.dev.resetting.getLsbD r then s
  else
    let bit := BitVec.ofNat 6 (2 ^ r)
    let mine := ((List.range 50).filter (fun b => decide (blockRegion b = r))).foldl (fun m b => m ||| BitVec.ofNat 64 (2 ^ b)) 0
    let s : State := { s with dev := { s.dev with
      resetting := s.dev.resetting &&& ~~~ bit, regionOk := s.dev.regionOk ||| bit, isolated := s.dev.isolated &&& ~~~ mine } }
    let s := reapply r s
    (s.cmd.executing.filter (fun c => decide (c.op = 0x0103) && c.started && decide (u8 c.req.body 0 = r))).foldl
      (fun s c => complete c .ok 0 (le 4 (s.clk.tick - c.tick).toNat) s) s

def specRegionReset : CmdSpec :=
  { op := 0x0103, force := true, check := params 4 (fun q _ => decide (4 < u8 q.body 0) || !allZero (q.body.drop 1)) }

/-- REGION_RESET (02 R62, 19 R419): a region that is resetting already goes on with that reset. -/
def effRegionReset (c : Cmd) (s : State) : Res :=
  let r := u8 c.req.body 0
  let serves := pairActive s || (List.range 4).any (fun i => (s.inst i).inO5)
  if serves && !c.req.force then .fail .busyService s
  else if s.dev.resetting.getLsbD r then .later s
  else .later (beginRegion r 2 s)

def execRegionReset (q : CmdReq) (s : State) : State := runCmd specRegionReset effRegionReset q s

/-! ## Whole-device resets (19 R415, R416, R420, R421) -/

/-- The life cycle as fuse load reads it (17 R385). -/
def lifeAtBoot (s : State) : Lc := { state := lifeOf s.fuse.copies, fuseWeak := fuseWeak s.fuse.copies }

/-- A programming that a reset or a loss of power interrupts leaves the old state or the new one (17 R386): how many copies of the
row read as programmed afterwards is a free value. -/
def settleFuses (s : State) : State :=
  match s.lc.programming with
  | none => s
  | some r =>
    let (n, s) := takeFree 2 s
    let n := max (SMap.get 0 s.fuse.copies r.target) n
    let took := decide (2 ≤ n)
    { s with fuse := { s.fuse with
        copies := SMap.set 0 s.fuse.copies r.target n, keyFused := s.fuse.keyFused || (took && decide (r.target = 1))
        key := if took && decide (r.target = 4) then List.replicate 32 0xFF else s.fuse.key } }

/-- Every register of the part at its Reset column; what is no register of it stays: the waiting steps and the history, the fuses,
levels that others drive, and the hot-swap controller. -/
def blank (s : State) : State :=
  let s := settleFuses s
  { State.reset with
    pending := s.pending, out := s.out, freeCtr := s.freeCtr, fuse := s.fuse, lc := lifeAtBoot s, tempC := s.tempC, hotPs := s.hotPs
    hot := { s.hot with held := [] }
    boot := { perst := s.boot.perst }, clk := { nowPs := s.clk.nowPs, t0Ps := s.clk.nowPs, policerPs := s.clk.nowPs }
    tb := (List.range 8).foldl (fun m n => SMap.set {} m n { atPs := s.clk.nowPs }) []
    pair := { actIn := s.pair.actIn, actInOffPs := s.pair.actInOffPs } }

/-- May an image come over a path (19 Table 19.3)? The manager's path is a worker's. -/
def pathPermitted (k : ImgPath) (s : State) : Bool :=
  let b := s.dev.bootSrc
  match k with
  | .pcie => decide (b = 0) || decide (b = 3) || (decide (b = 1) && decide (s.dev.role ≠ 2))
  | .manager => decide (s.dev.role = 2) && (decide (b = 1) || decide (b = 3))
  | .partner => decide (b = 2) || decide (b = 3)

/-- Step 4 of Table 19.4: the ROM loader runs, and the lanes of the permitted paths are enabled (R425, R426). -/
def romRuns (s : State) : State :=
  let on := fun (n rate : Nat) (s : State) => enableLane n rate 0 false (builtinSet n rate) true s
  let s := if pathPermitted .manager s then on 0 2 s else s
  let s := if pathPermitted .partner s then [32, 33, 34, 35].foldl (fun s n => on n 0 s) s else s
  { s with dev := { s.dev with quill := 1 } }

/-- Straps as sampled at step 3 (R420). -/
def sampled (x : Straps) (s : State) : State := { s with dev := { s.dev with slotId := x.slotId, role := x.role, bootSrc := x.bootSrc } }

/-- COLD_RESET (R416): power good, T_R of Table 19.4. -/
def execColdReset (x : Straps) (s : State) : State :=
  if !s.hot.powered then s
  else
    let h := s.hot
    romRuns (sampled x { blank s with hot := { trips := h.trips, tripPs := h.tripPs, lastTrip := h.lastTrip, ejectReq := h.ejectReq } })

/-- What a warm and a chip reset keep (Table 19.1). -/
def keepCauses (cause : BitVec 6) (s t : State) : State :=
  { t with
    dev := { t.dev with resetCause := s.dev.resetCause ||| cause, slotId := s.dev.slotId, role := s.dev.role, bootSrc := s.dev.bootSrc }
    fatal := { s.fatal with asserted := false } }

/-- WARM_RESET (R416): RESET# has been asserted for 1 µs; a worker says LEAVE, REASON 3, and does not go dark before 200 µs after it
(10 R281, log 1013). The part stays in reset until RESET# is deasserted. -/
def execWarmReset (s : State) : State :=
  if !s.hot.powered then s
  else
    let s := if s.dev.role = 2 ∧ s.role.version ≠ 0 ∧ mapiynLane 0 s then advanceTo (s.clk.nowPs + 200000000) (sendBlock 0 0x78 3 s) else s
    let s := (List.range 4).foldl (fun s i => if (s.inst i).laserOn then emit (.laserDark i) s else s) s
    let t := keepCauses 2 s (blank s)
    { t with boot := { t.boot with inReset := true } }

/-- RESET_DEASSERT (R421): T_R of a warm reset; the tick and the clocks start from 0, the straps are sampled. -/
def execResetDeassert (x : Straps) (s : State) : State :=
  if !s.hot.powered || !s.boot.inReset then s
  else romRuns (sampled x (keepCauses 0 s (blank s)))

/-- FATAL_CHIP_RESET (18 R401): a chip reset 1 ms after the fatal condition. The tick generator, the policer clock and the
timebases go on (Table 19.1). -/
def execFatalChipReset (s : State) : State :=
  if !s.fatal.asserted then s
  else
    let s := advanceTo (s.fatal.atPs + 1000000000) s
    let cause : BitVec 6 := if s.fatal.cause = 3 then 0x30 else 0x10
    let t := keepCauses cause s (blank s)
    let tb := s.tb.map (fun e => (e.1, ({ base := e.2.base, atPs := e.2.atPs, rate := e.2.rate, rateWas := e.2.rateWas, stepped := e.2.stepped } : Tbase)))
    let t : State := { t with
      clk := { s.clk with overrunRun := [], overrunNow := [], carried := [], mapsClosed := false }, tb := tb.filter (fun e => e.2 ≠ {}), jtag := s.jtag
      pwr := { t.pwr with padsLatched := s.pwr.padsLatched, latched := s.pwr.latched } }
    romRuns (retick (followLost t))

/-! ## The PCIe endpoint (19 R417) -/

/-- A command of a ring whose replies go nowhere any more. -/
def Cmd.fromRing (c : Cmd) : Bool := match c.req.src with | .ring _ => true | _ => false

/-- PERST_ASSERT (R417). -/
def execPerstAssert (s : State) : State :=
  let mute := fun (c : Cmd) => if c.fromRing then { c with mute := true } else c
  let s : State := { s with
    boot := { s.boot with perst := true, addrLo := 0, addrHi := 0, length := 0, fetching := false }
    dev := { s.dev with resetCause := s.dev.resetCause ||| 4 }
    evt := { s.evt with mask := 0, vec := [] }
    cmd := { s.cmd with nonceRings := none, waiting := [], stalled := false, executing := s.cmd.executing.map mute
                        pendingSet := (s.cmd.pendingSet.filter (fun c => !(c.fromRing && c.req.atTick))).map mute } }
  let s := (List.range 5).foldl (fun s n => s.setRing n { s.ring n with enable := false, stopped := false }) (hwSet 0x1018 2 s)
  let s := revokeOwner 0 s
  let open_ := s.mem.grants.filter (fun x => x.targets.contains 38)
  settleFreezes (open_.foldl (fun s x => requeue x (revokeGrant x s)) s)

/-- PERST_DEASSERT (R421). -/
def execPerstDeassert (s : State) : State := { s with boot := { s.boot with perst := false } }

/-- FUNCTION_LEVEL_RESET (06 R159). -/
def execFunctionLevelReset (s : State) : State := revokeOwner 0 s

/-! ## Images (19 R422–R427) -/

/-- A write of BOOT_CTRL, GO included (R424): LENGTH is stored; the boot registers are ignored from command-ready on. -/
def writeBootCtrl (v : Word) (s : State) : State :=
  if s.dev.quill = 3 then s
  else
    let s : State := { s with boot := { s.boot with length := v.toNat % 2 ^ 20 } }
    if v.getLsbD 31 && decide (s.dev.quill ≠ 2) && pathPermitted .pcie s && !s.boot.fetching then
      { s with boot := { s.boot with fetching := true } }
    else s

/-- BOOT_GO (R424). -/
def execBootGo (_ : Path) (v : Word) (s : State) : State := hostWrite (writeBootCtrl v) s

/-- PATH codes of BOOT_STATUS. -/
def imgCode : ImgPath → Nat
  | .pcie => 1 | .manager => 2 | .partner => 3

/-- A rejected image (R423). -/
def reject (k : ImgPath) (code : Nat) (s : State) : State :=
  { s with dev := { s.dev with quill := 4 }, boot := { s.boot with reject := code, path := imgCode k } }

/-- A chunked delivery of a path. -/
def delivery (k : ImgPath) (s : State) : Option Delivery :=
  match k with
  | .manager => s.boot.manager
  | .partner => s.boot.partner
  | .pcie => none

def setDelivery (k : ImgPath) (d : Option Delivery) (s : State) : State :=
  match k with
  | .manager => { s with boot := { s.boot with manager := d } }
  | .partner => { s with boot := { s.boot with partner := d } }
  | .pcie => s

/-- Quill waits for an image: in ROM, or after a rejection. -/
def awaitsImage (s : State) : Bool := decide (s.dev.quill = 1) || decide (s.dev.quill = 4)

/-- A lane that a path's frames come on is LOCKED. -/
def pathLocked (k : ImgPath) (s : State) : Bool :=
  match k with
  | .pcie => false
  | .manager => mapiynLane 0 s
  | .partner => [32, 33, 34, 35].any (fun n => mapiynLane n s)

/-- IMAGE_CHUNK_RX (R425, R426): a frame of KIND 1 under the CRC, its SUB_PORT the chunk's number; a check that fails, or a gap in the
numbers, ends the delivery with REJECT 6. -/
def execImageChunkRx (k : ImgPath) (f : FrameFields) (last : Bool) (field : Bytes) (s : State) : State :=
  if !pathLocked k s || !pathPermitted k s || !awaitsImage s || decide (f.kind.val ≠ 1) then s
  else
    let d : Delivery := match delivery k s with | some d => d | none => {}
    match openField (bodyOf f) f.length.toNat field none with
    | some data =>
      if f.subPort.toNat ≠ d.next ∨ d.complete then reject k 6 (setDelivery k none s)
      else setDelivery k (some { next := d.next + 1, data := d.data ++ data, complete := last }) s
    | none => reject k 6 (setDelivery k none s)

/-- The hash that an image's header gives is that of its body (Table 19.5). -/
def hashHolds (p : Bytes) : Bool := decide (slice p 16 48 = sha384 (p.drop 192))

/-- The signature of an image's header verifies under the key in ROM (R423). -/
def signatureHolds (p : Bytes) : Bool := ecdsaVerify Config.romKey (p.take 64) (slice p 64 96)

/-- The first check of Table 19.6 that an image fails. -/
def imageFault (p : Bytes) : Option Nat :=
  if u32 p 0 ≠ 0x4D495A55 ∨ u16 p 6 ≠ 1 ∨ allZero (slice p 160 32) = false then some 1
  else if u16 p 4 ≠ 0x0880 then some 2
  else if u32 p 12 < 4096 ∨ 786432 < u32 p 12 ∨ u32 p 12 % 16 ≠ 0 ∨ u32 p 12 + 192 ≠ p.length then some 3
  else if !hashHolds p then some 4
  else if !signatureHolds p then some 5
  else none

/-- The delivery of a path can complete: a PCIe fetch through transfer port 1, or all chunks are there. -/
def delivered (k : ImgPath) (s : State) : Bool :=
  match k with
  | .pcie => s.boot.fetching && hasTurn 1 hostRead_ s
  | _ => (match delivery k s with | some d => d.complete | none => false)

/-- IMAGE_DELIVERED (R423, R427): the delivery that completes is verified, those still in progress are abandoned. Of one that `met` it in
its clock, the one of the path that goes first is taken. -/
def execImageDelivered (k : ImgPath) (met : Option ImgPath) (image : Option Bytes) (s : State) : State :=
  let k := match met with
    | some j => if imgCode j < imgCode k ∧ delivered j s then j else k
    | none => k
  if !delivered k s || !awaitsImage s then s
  else
    let data := match k with
      | .pcie => image.map (fit s.boot.length)
      | _ => (delivery k s).map Delivery.data
    let s : State := { s with boot := { s.boot with fetching := false, manager := none, partner := none } }
    let s := match k with
      | .pcie => passXfer 1 s
      | _ => s
    match data with
    | none => reject k 6 s
    | some p =>
      match imageFault p with
      | some code => reject k code s
      | none => { s with dev := { s.dev with quill := 2 }, boot := { s.boot with image := p, path := imgCode k } }

/-- COMMAND_READY (R421, R423): the firmware has started. -/
def execCommandReady (s : State) : State :=
  if s.dev.quill = 2 then { s with dev := { s.dev with quill := 3, fwVersion := w32 s.boot.image 8 } } else s

/-! ## Live insertion (20 R438–R445) -/

/-- HOTSWAP_CLOSE (R438, R439): the switch closes; after an overcurrent opening not for 1 s, and the row stands for the supply
conditions that three such openings call for (log 63). -/
def execHotswapClose (s : State) : State :=
  if s.hot.powered then s
  else
    let s := if s.hot.lastTrip = some .current then advanceTo (s.hot.tripPs + 1000000000000) s else s
    { s with hot := { s.hot with powered := true, ejectReq := false, trips := if 3 ≤ s.hot.trips then 0 else s.hot.trips } }

/-- HOTSWAP_TRIP (R439): the switch opens, every laser goes dark, the part is unpowered. -/
def execHotswapTrip (c : Trip) (s : State) : State :=
  if !s.hot.powered then s
  else
    let s := (List.range 4).foldl (fun s i => if (s.inst i).laserOn then emit (.laserDark i) s else s) s
    { blank s with hot := { powered := false, trips := s.hot.trips + b2n (decide (c = .current)), tripPs := s.clk.nowPs, lastTrip := some c
                            ejectReq := s.hot.ejectReq } }

/-- EJECT_RECOGNISED (R441, R442, R445): a command-ready part that is awake hands over what it can. -/
def execEjectRecognised (s : State) : State :=
  if !s.hot.powered || s.hot.recognised then s
  else
    let s : State := { hwSet 0x1200 1 s with hot := { s.hot with ejectReq := true, recognised := true, seen := true, tick := s.clk.tick, atPs := s.clk.nowPs } }
    if s.dev.quill ≠ 3 ∨ !quillRuns s ∨ s.boot.inReset then s
    else
      let s := triggerSwitch 5 0 s
      if s.dev.role = 2 ∧ s.role.version ≠ 0 ∧ mapiynLane 0 s then
        sendBlock 0 0x78 1 { s with role := { s.role with leaving := some 1 } }
      else s

/-- QUIESCE_START (R443): 4 ms after recognition. -/
def execQuiesceStart (s : State) : State :=
  if s.hot.recognised && !s.hot.quiesced then
    let s := advanceTo (s.hot.atPs + 4000000000) s
    let s := if s.pair.actOut then setActOut false s else s
    { s with hot := { s.hot with quiesced := true } }
  else s

/-- EJECT_END (R441, R443): quiesce is lifted and what it kept queued goes out; a device that is still ACTIVE waits to claim light again.
Where quiesce began in this clock, the end wins: ACT_OUT# stays as it was. -/
def execEjectEnd (s : State) : State :=
  let held := s.hot.held
  let undo := s.hot.quiesced && decide ((s.hot.atPs + 4000000000) / 800 + 1 = clockNo s) && decide (s.pair.actOutPs / 800 + 1 = clockNo s)
  let s : State := { s with hot := { s.hot with ejectReq := false, recognised := false, quiesced := false, held := [] } }
  let s := held.foldl (fun s x => putLane x.1 (.mapiyn x.1 x.2.1 x.2.2) s) s
  if pairActive s && !s.pair.actOut && s.pair.switch.isNone then
    if undo then setActOut true s else { s with pair := { s.pair with claiming := true } }
  else s

/-! ## Registers -/

/-- HOTPLUG_STATUS. -/
def hotplugStatus (s : State) : Nat :=
  b2n (quiesceNow s) * 8 + b2n s.hot.recognised * 4 + b2n s.hot.seen * 2 + b2n s.hot.ejectReq

/-- The boot and hot-plug registers, at their BAR0 addresses. -/
def readBoot (addr : Nat) (s : State) : Option Nat :=
  match addr with
  | 0x1100 => some s.boot.addrLo.toNat
  | 0x1104 => some s.boot.addrHi.toNat
  | 0x1108 => some s.boot.length
  | 0x110C => some (s.boot.path * 256 + s.boot.reject)
  | 0x1200 => some (hotplugStatus s)
  | 0x1204 => some s.hot.tick.toNat
  | _ => none

end Sys2Proof.Machine
end

