-- ==== Sys2Proof/Machine/Tick.lean ====
section
/-!
DEFINITION. TICK_EDGE (01 R22–R35): the tick generator's step, TICK_COUNT, the work of Table 1.9 that is bound to T0, settings
that take effect at the edge, and items 1, 2 and 4 of Table 1.8.
-/

namespace Sys2Proof.Machine

/-! ## The tick generator (R25–R28, R461) -/

/-- The reference that the tick generator tracks: the followed T0, or the PHY frame start of the tick channel. -/
def tickRef (s : State) : Option Nat :=
  match s.clk.state with
  | .following => some s.clk.followPs
  | .locked | .slewing => if s.clk.channel < 4 then some (s.inst s.clk.channel).sync.phyPs else none
  | _ => none

/-- A phase correction of one tick: at most 8 ns (R25). -/
def slewStep (off : Int) : Int := max (-8000) (min 8000 off)

/-- The next T0: the first alignment's F where it falls within the tick (R461), else 125 µs on with the correction; asleep only
a sample corrects (16 R379). The flag says that the tick ends at F. -/
def nextEdge (s : State) : Nat × Bool :=
  let nominal := s.clk.t0Ps + tickPs
  match s.clk.alignAtPs with
  | some f => if f ≤ nominal then (max f s.clk.t0Ps, true) else (nominal, false)
  | none =>
    if s.pwr.state = .asleep then (nominal, false)
    else match tickRef s with
      | some r => (((nominal : Int) + slewStep (offsetTo r s)).toNat, false)
      | none => (nominal, false)

/-- Items whose work has not been done when a first alignment ends the tick early run at the start of the next (R461); so does
work that has overrun and not been done (R34), behind what is carried over already. -/
def carryOver (short : Bool) (s : State) : List (Nat × Word) :=
  s.clk.carried ++ (([3, 5, 6, 7, 8, 9, 10, 11] : List Nat).filter (fun k =>
    !s.clk.itemsDone.contains k && (short || s.clk.overrunNow.contains k))).map (fun k => (k, s.clk.tick))

/-- Item 12 in a tick that is cut at an instant: steps in progress go on in the first stroke of the next tick, and the groups whose
turn falls in a stroke that the cut takes away are owed their step there (R461). -/
def carrySteps (cut : Nat) (s : State) : State :=
  let next := fun (x : BlotGroup) => match x.step with
    | some b => { x with step := some (if cut < b.endPs then { b with endPs := cut + 15625000 } else b) }
    | none => x
  let s : State := { s with mem := { s.mem with groups := s.mem.groups.map (fun e => (e.1, next e.2)) } }
  let lost := (List.range 8).filter (fun k => decide (cut ≤ s.clk.t0Ps + 15625000 * k))
  let owed := (List.range 38).filter (fun g => bit s.mem.enabled g && lost.any (fun k =>
    decide ((s.clk.tick.toNat * 8 + k) % blotInterval s = g % blotInterval s)))
  { s with mem := { s.mem with owed := s.mem.owed ++ owed } }

/-- The offset as it stands after the edge, and SLEWING's end (Table 1.7). -/
def settleOffset (s : State) : State :=
  match tickRef s with
  | none => s
  | some r =>
    let off := offsetTo r s
    let s : State := { s with clk := { s.clk with offsetPs := off } }
    if s.clk.state = .slewing ∧ off.natAbs ≤ 4000 then raise .tickLocked 0 0 0 { s with clk := { s.clk with state := .locked } }
    else s

/-- The own count goes on by one, or the followed source's is adopted at the first followed edge (R23). -/
def countTick (s : State) : State :=
  let own := s.clk.tick + 1
  if s.clk.adopt && decide (s.clk.state = .following) && s.clk.alignAtPs.isNone then
    let gone : Int := (s.clk.t0Ps : Int) - s.clk.followPs + 62500000
    let new := s.clk.followTick + BitVec.ofInt 32 (gone / tickPs)
    let s : State := { s with clk := { s.clk with tick := new, shift := s.clk.shift + (new - own), adopt := false } }
    if new = own then s else raise .tickRenumbered 0 0 (new - own).toNat s
  else { s with clk := { s.clk with tick := own } }

/-- The edge itself. -/
def stepEdge (s : State) : State :=
  let (t0, short) := nextEdge s
  let carried := carryOver short s
  let runs := s.clk.overrunRun.filter (fun e => s.clk.overrunNow.contains e.1)
  let s := if short then carrySteps t0 s else s
  let s : State := { s with clk := { s.clk with
    t0Ps := t0, nowPs := max s.clk.nowPs t0, alignAtPs := if short then none else s.clk.alignAtPs, aligned := s.clk.aligned || short
    itemsDone := [], carried, overrunNow := [], overrunRun := runs } }
  settleOffset (countTick s)

/-! ## Work bound to T0 (Table 1.9) and settings that take effect at it -/

/-- An instance asleep keeps its sync machine in SYNC: the frame that starts in the tick is counted, not examined (16 R379). -/
def sleepFrame (i : Nat) (s : State) : State :=
  if (s.inst i).sync.state = 2 && !(decide (s.pwr.state = .sampling) && decide (s.clk.channel = i)) then
    modSync i (fun y => { y with sfc := (y.sfc + 1) % 2 ^ 51, phyPs := y.phyPs + tickPs }) s
  else s

/-- Settings of an instance that wait for the edge: INST_CONFIG, and the laser's fine adjustment (03 R79, R92). -/
def applyInst (i : Nat) (s : State) : State :=
  s.modInst i (fun x => { x with
    cfg := x.cfgNext.getD x.cfg, cfgNext := none, fine := x.fineNext.getD x.fine, fineNext := none })

/-- Configuration that takes effect at the tick edge. -/
def applySettings (s : State) : State :=
  let s := (List.range 4).foldl (fun s i => applyInst i s) s
  slewDelays (tickBlotter (tableTick (applyWorkerConfigs (applyAllocConfigs s))))

/-- Frames of the replay hold are kept for 4 ticks (15 R363). -/
def expireHold (s : State) : State :=
  { s with pair := { s.pair with hold := s.pair.hold.filter (fun h => decide (ticksSince h.tick s < 4)) } }

/-- Ligature headers stop from the tick after the head end's Acknowledge (03 R90). -/
def ligAcked (s : State) : State :=
  match s.lig.ackAt with
  | some t => if s.lig.phase = .stopping ∧ t ≠ ownTick s then ligStops s else s
  | none => s

/-! ## Item 1 of Table 1.8: the pending set (02 R52, 15 R361) -/

/-- Is a pending command due in this tick? -/
def dueNow (c : Cmd) (s : State) : Bool :=
  match c.due with
  | some d => decide (tickDiff d s.clk.tick ≤ 0)
  | none => decide (tickDiff c.req.execTick s.clk.tick ≤ 0)

/-- The rank of a command's source: ring 0, SPI and tunnel 0–2, rings 1–3 after them. -/
def sourceRank (c : Cmd) : Nat :=
  match c.origin.getD c.req.src with
  | .ring n => if n = 0 then 0 else 2 + n.val
  | .spi => 1
  | .tunnel => 2
  | .mirror => 0

/-- Ring 0, SPI and tunnel one command at a time in rotation, at most n rounds. -/
def interleave : Nat → List Cmd → List Cmd → List Cmd → List Cmd
  | 0, a, b, c => a ++ b ++ c
  | n + 1, a, b, c => a.take 1 ++ b.take 1 ++ c.take 1 ++ interleave n (a.drop 1) (b.drop 1) (c.drop 1)

/-- The due commands in the order of R52. -/
def dispatchOrder (l : List Cmd) : List Cmd :=
  let of := fun (k : Nat) => l.filter (fun c => decide (sourceRank c = k))
  interleave l.length (of 0) (of 1) (of 2) ++ of 3 ++ of 4 ++ of 5

/-- Dispatch one pending command; a replicated one counts in the tick's CONFIG of both devices (15 Table 15.3). -/
def dispatchPending (c : Cmd) (s : State) : State :=
  let past := match c.due with
    | some _ => false
    | none => decide (tickDiff c.req.execTick s.clk.tick < 0)
  let s := match c.due with
    | some d => noteApplied (.command c.op { c.req with src := c.origin.getD c.req.src } (d - 2)) s
    | none => s
  noteActivity { s with cmd := { s.cmd with executing := s.cmd.executing ++ [{ c with late := c.late || past, tick := s.clk.tick }] } }

/-- A shaper, gate or epoch change that item 1 has dispatched takes effect in this tick (R53): it is executed at once. -/
def executeDue (c : Cmd) (s : State) : State :=
  match s.cmd.executing.find? (fun e => decide (e.seq = c.seq)) with
  | none => s
  | some e =>
    if e.op = 0x0502 then executeNow specShaperConfig effShaperConfig e s
    else if e.op = 0x0505 then executeNow specGateList effGateList e s
    else if e.op = 0x0402 then executeNow specClsSwap effClsSwap e s
    else s

/-- Item 1: every due command is dispatched; after a fatal condition none is (18 R401). A pending command whose EXEC_TICK a renumbering
puts into the past is dispatched at the renumbering edge itself, the first T0 that finds it past (DESIGN CHOICE, log 104). -/
def dispatchDue (s : State) : State :=
  if s.fatal.asserted || decide (s.dev.quill ≠ 3) || !quillRuns s then s
  else
    let due := dispatchOrder (s.cmd.pendingSet.filter (fun c => dueNow c s))
    let s := due.foldl (fun s c => dispatchPending c s)
      { s with cmd := { s.cmd with pendingSet := s.cmd.pendingSet.filter (fun c => !dueNow c s) } }
    due.foldl (fun s c => executeDue c s) s

/-! ## TICK_OVERRUN (R33–R35) -/

/-- An item of Table 1.8, not 12, has work in this tick that has not completed. TICK_EDGE does items 1, 2 and 4 whole: of item 1 only what
Quill could not dispatch is left, and item 4 counts as late where it is reported (log 105). -/
def itemOpen (k : Nat) (s : State) : Bool :=
  match k with
  | 1 => s.cmd.pendingSet.any (fun c => dueNow c s)
  | 2 => false
  | 4 => s.clk.mapsClosed
  | k => (carriedTick k s).isSome || (!s.clk.itemsDone.contains k &&
      (if k = 7 then ageDue s.clk.tick s else if k = 9 then binDue s else true))

/-- An overrun of an item in this tick (R33): the event with its detail, the count; and where it is the 16th tick in a row, the failure of
the region that owns it (R35). -/
def noteOverrun (item detail : Nat) (s : State) : State :=
  let r := itemRegion item
  let s := raise .tickOverrun 8 r detail (count .tickOverrunCount 0 s)
  if s.clk.overrunNow.contains item then s
  else
    let n := SMap.get 0 s.clk.overrunRun item + 1
    let s : State := { s with clk := { s.clk with overrunNow := item :: s.clk.overrunNow, overrunRun := SMap.set 0 s.clk.overrunRun item n } }
    if 16 ≤ n then
      let s : State := { s with clk := { s.clk with overrunRun := SMap.set 0 s.clk.overrunRun item 0 } }
      regionFails r (3 + 256 * item) s
    else s

/-- The step of the Blotter whose stroke ends first and whose overrun has not been reported. -/
def lateStep (s : State) : Option BlotStep :=
  ((s.mem.groups.filterMap (fun e => e.2.step)).filter (fun b => !b.late)).foldl (fun m b =>
    match m with
    | some x => if b.endPs < x.endPs then some b else some x
    | none => some b) none

/-- TICK_OVERRUN (R33, R35): at the end of its deadline stroke an item has not completed, once a tick; item 12 once for each stroke whose
steps go on at its end. The work is carried over where it is not done by T0 (R34). -/
def execTickOverrun (k : Nat) (s : State) : State :=
  let item := k + 1
  if item = 12 then
    match lateStep s with
    | none => s
    | some b =>
      let s := advanceTo b.endPs s
      let mark := fun (x : BlotGroup) =>
        { x with step := x.step.map (fun y => if y.endPs = b.endPs then { y with late := true } else y) }
      let s : State := { s with mem := { s.mem with groups := s.mem.groups.map (fun e => (e.1, mark e.2)) } }
      noteOverrun 12 (12 + 256 * ((b.endPs - 1 - s.clk.t0Ps) / 15625000 % 8)) s
  else if itemOpen item s && !s.clk.overrunNow.contains item then
    let s := noteOverrun item item (advanceTo (strokeEnd (itemDeadline item) s) s)
    if item = 4 then reopenMaps s else s
  else s

/-! ## TICK_EDGE -/

/-- The work at T0 of a part that is awake: what it takes at T0 is the state at the edge, before any item (R32). -/
def edgeWork (s : State) : State :=
  let s := sendHealth (captureDigest s)
  let s := tickBlocks (servoTick s)
  let s := (List.range 4).foldl (fun s i => signalTick i s) s
  let s := (List.range 4).foldl (fun s i => recheckWavelengths i s) (ligAcked (applySettings s))
  closeMaps (tickLeases (swapClock (dispatchDue s)))

/-- TICK_EDGE (R22). The junction temperature is read once per tick; where readings have been above 120 °C for 100 µs, it is fatal
(21 R459, 18 R400; log 1910). -/
def execTickEdge (temp : Int) (s : State) : State :=
  let s := settleLanes (settleMacs (stepEdge s))
  let hotPs := if 120 < temp then some (s.hotPs.getD s.clk.nowPs) else none
  let s : State := { s with
    tempC := temp, hotPs, macs := (s.macs.map (fun e => (e.1, ({ e.2 with wakeBytes := 0 } : Mac)))).filter (fun e => e.2 ≠ {}) }
  let s := expireHold (tickPower (tickBw s))
  let s := if asleep s then (List.range 4).foldl (fun s i => sleepFrame i s) s else edgeWork s
  let s := if hotPs.any (fun p => decide (p + 100000000 ≤ s.clk.nowPs)) then fatalNow 4 0 s else s
  setCause 5 (checkHealth s)

end Sys2Proof.Machine
end

