-- ==== Sys2Proof/Machine/Commands.lean ====
section
/-!
DEFINITION. The command transport (02 R42–R66): the opcodes with what validation needs of each, COMMAND_DISPATCH, replies and
unsolicited packets on the reply ring, the SPI mailbox, and the device-class commands of Table 2.12 but REGION_RESET.
-/

namespace Sys2Proof.Machine

/-! ## Device-class commands (02 R58–R63) -/

def specNop : CmdSpec := { op := 0x0100, check := fun q _ => lenIs 0 q }

/-- NOP (R59): it completes now where nothing of its ring is ahead of it. -/
def effNop (c : Cmd) (s : State) : Res :=
  if hasEarlier c s then .later s else .done .ok (earlierPending c s) [] s

def execNop (q : CmdReq) (s : State) : State := runCmd specNop effNop q s

def specAuthNonce : CmdSpec := { op := 0x0101, check := fun q _ => lenIs 0 q }

/-- AUTH_NONCE (R55): twelve random bytes, then the TICK_COUNT of issue; it replaces the source's nonce. -/
def effAuthNonce (c : Cmd) (s : State) : Res :=
  let (r, s) := takeFree 96 s
  let value := le 12 r ++ le 4 s.clk.tick.toNat
  .ok value (s.setNonce c.req.src (some { value, tick := ownTick s }))

def execAuthNonce (q : CmdReq) (s : State) : State := runCmd specAuthNonce effAuthNonce q s

/-- A nonce that has not reached 512 ticks. -/
def liveNonce (s : State) (n : Option Nonce) : Option Nonce :=
  match n with
  | some x => if 512 ≤ ticksSince x.tick s then none else some x
  | none => none

/-- NONCE_EXPIRY (R55): nonces end 512 ticks after their issue. -/
def execNonceExpiry (s : State) : State :=
  { s with
    cmd := { s.cmd with nonceRings := liveNonce s s.cmd.nonceRings, nonceSpi := liveNonce s s.cmd.nonceSpi }
    role := { s.role with nonce := liveNonce s s.role.nonce } }

def specOutputsEnable : CmdSpec :=
  { op := 0x0102, check := params 8 (fun q _ =>
      let on := u32 q.body 0
      let off := u32 q.body 4
      decide (16 ≤ on) || decide (16 ≤ off) || decide (on &&& off ≠ 0)) }

/-- OUTPUTS_ENABLE (R60, R61); BUSY_RETRY while pads are latched (16 R381). -/
def effOutputsEnable (c : Cmd) (s : State) : Res :=
  if s.pwr.padsLatched then .fail .busyRetry s
  else
    let on := (s.dev.outputs ||| BitVec.ofNat 4 (u32 c.req.body 0)) &&& ~~~ BitVec.ofNat 4 (u32 c.req.body 4)
    .ok (le 4 on.toNat) { s with dev := { s.dev with outputs := on } }

def execOutputsEnable (q : CmdReq) (s : State) : State := runCmd specOutputsEnable effOutputsEnable q s

/-- Nothing of the mailbox is under way: CMD_FREE returns to 1 (R66). -/
def freeMailbox (s : State) : State :=
  let spiCmd := fun (c : Cmd) => decide (c.req.src = .spi)
  if s.spi.mail.isNone && s.spi.replies.isEmpty && !s.cmd.executing.any spiCmd && !s.cmd.pendingSet.any spiCmd then
    { s with spi := { s.spi with cmdFree := true } }
  else s

def specCancel : CmdSpec := { op := 0x0104, check := params 4 (fun q _ => decide (4 < u8 q.body 2) || decide (u8 q.body 3 ≠ 0)) }

/-- SOURCE of CANCEL: 0–3 command ring, 4 SPI. -/
def fromSource (k : Nat) (c : Cmd) : Bool :=
  match c.req.src with
  | .ring n => decide (n.val = k)
  | .spi => decide (k = 4)
  | _ => false

/-- CANCEL (R63): the earliest-entered pending command of the TAG and source goes, without a reply. -/
def effCancel (c : Cmd) (s : State) : Res :=
  let mine := fun (e : Cmd) => e.req.atTick && decide (e.req.tag = u16 c.req.body 0) && fromSource (u8 c.req.body 2) e
  match s.cmd.pendingSet.find? mine with
  | none => .fail .notFound s
  | some e => .ok [] (freeMailbox { s with cmd := { s.cmd with pendingSet := s.cmd.pendingSet.filter (fun x => x.seq ≠ e.seq) } })

def execCancel (q : CmdReq) (s : State) : State := runCmd specCancel effCancel q s

/-! ## The opcodes (02 Table 2.8) -/

/-- Classes 0x01–0x04: device, fibre, forwarding table, classifier. -/
def specs1 (q : CmdReq) : List CmdSpec :=
  [specNop, specAuthNonce, specOutputsEnable, specRegionReset, specCancel,
   specInstConfig, specInstStart, specInstStop, specInstQuery, specSetRegistrationId, specLigStart, specLigStop,
   specAllocConfig, specAllocQuery,
   specTableLock, specTableRenew, specTableUnlock, specSearch, specNext, specFlushByPort, specTableAudit q, specLearnConfig,
   specAgeConfig, specClsConfig, specClsBuild, specClsSwap, specClsProbe]

/-- Classes 0x05–0x08: queues, lanes and workers, tributaries, time. -/
def specs2 (s : State) : List CmdSpec :=
  [specQueueConfig, specQueueQuery, specShaperConfig, specShaperQuery, specPolicerProfile, specGateList,
   specLaneTableLoad, specLaneConfig, specLaneQuery, specLaneIdle, specMacConfig, specMacQuery,
   specWorkerConfig s, specWorkerQuery s, specWorkerRecover s, specWorkerRerange s, specWorkerRelease s, specWorkerCmd s,
   specWorkerImage s,
   specTribPortConfig, specTribPathConfig, specVcatConfig, specMspConfig, specMspCommand, specPmRead,
   specTimeConfig, specTimeSet, specServoConfig, specServoSample, specPonTod, specOutputConfig, specCaptureConfig, specCaptureRead,
   specPtpConfig, specPtpTx, specPtpRxRead]

/-- Classes 0x09–0x0F: cipher, memories, power, redundancy, life cycle, counters, OMCI. -/
def specs3 (q : CmdReq) : List CmdSpec :=
  [specCipherConfig, specPonKeyBind, specUsEncrypt, specLinkKeyBind, specPhaseSelect, specKeyQuery,
   specBlotterConfig, specBlotterQuery, specTxnFreeze, specScratchOp,
   specSleepConfig, specDomainPower, specClockSwitch, specPadRelease, specPowerQuery,
   specPairConfig, specPairSwitch, specPairResync, specPairQuery, specLcAdvance, specBistRun,
   specCounterConfig, specCounterChain, specCounterClear, specSnapshot q, specBwConfig,
   specOmciTx, specPloamTx, specDsPortBind, specDsPortUnbind, specDsPortQuery]

/-- What validation needs of an opcode; none where it is undefined. -/
def specOf (op : Nat) (q : CmdReq) (s : State) : Option CmdSpec :=
  (specs1 q ++ specs2 s ++ specs3 q).find? (fun sp => decide (sp.op = op))

/-! ## Taking a command (02 R46–R49) -/

/-- A command as its bytes give it (Table 2.5): its opcode and the rest; LENGTH bytes of payload. -/
def parseCmd (src : Src) (data : Bytes) : Nat × CmdReq :=
  (u16 data 0,
   { src, tag := u16 data 2, kind := u8 data 6, index := u8 data 7, flags := w32 data 8, execTick := w32 data 12
     leaseId := w32 data 16, reserved := BitVec.ofNat 96 (leNat (slice data 20 12)), payload := fit (u16 data 4) (data.drop 32) })

/-- Refuse a command by a status that needs no opcode. -/
def refuse (op : Nat) (q : CmdReq) (st : Status) (s : State) : State :=
  let (c, s) := newCmd op q s
  replyTo c st true 0 [] s

/-- Steps 1 to 3 of Table 2.9, then the opcode's own validation: `size` is the descriptor's LENGTH or the bytes pushed. -/
def takeCommand (src : Src) (size : Nat) (data : Bytes) (s : State) : State :=
  let (op, q) := parseCmd src data
  if size ≠ 32 + u16 data 4 ∨ 4096 < u16 data 4 then refuse op q .badLength s
  else
    match specOf op q s with
    | some sp => submit sp q s
    | none =>
      if q.reserved ≠ 0 ∨ 16 ≤ q.flags.toNat ∨ (!q.atTick && decide (q.execTick ≠ 0)) = true then refuse op q .badParam s
      else refuse op q .badOpcode s

/-- A ring whose base is enabled, that has not stopped, and that holds a descriptor which PCIe can read. -/
def ringOpen (n : Nat) (s : State) : Bool :=
  let r := s.ring n
  r.enable && !r.stopped && !r.blocked && decide (r.prod ≠ r.cons) && !s.boot.perst && hasTurn 1 hostRead_ s

/-- A command ring from which Quill can take a command (R44, R46, R49). -/
def ringReady (n : Nat) (s : State) : Bool :=
  ringOpen n s && s.dev.ctrl.getLsbD 0 && !s.cmd.executing.any (holdsRing n) && !s.cmd.pendingSet.any (holdsRing n)

/-- The source that Quill serves next: ring 0, mailbox and tunnel in rotation (0–2), then rings 1–3 (3–5) (R46, 10 R275). -/
def nextSource (s : State) : Option Nat :=
  let ready := fun (k : Nat) =>
    match k with
    | 0 => ringReady 0 s
    | 1 => s.spi.mail.isSome
    | 2 => !s.cmd.tunnelMail.isEmpty && hasTurn 6 [35] s
    | k => ringReady (k - 2) s
  ([s.cmd.turn % 3, (s.cmd.turn + 1) % 3, (s.cmd.turn + 2) % 3, 3, 4, 5] : List Nat).find? ready

/-- The descriptor at CONS is consumed; PCIe's transfer has taken its turn (14 R350). -/
def consume (n : Nat) (s : State) : State :=
  let s := passXfer 1 s
  let r := s.ring n
  s.setRing n { r with cons := (r.cons + 1) % max 1 r.size.toNat }

/-- Take a command of a ring: its descriptor as PCIe reads it, the copy of the command, OWNER cleared before it executes (R44). -/
def takeFromRing (n : Nat) (desc : Desc) (data : Bytes) (s : State) : State :=
  if !desc.fetched then ringError n 3 s
  else if !desc.owner then s.setRing n { s.ring n with blocked := true }
  else
    let s := emit (.ownerCleared n (s.ring n).cons) s
    takeCommand (.ring (Fin.ofNat 4 n)) desc.length (fit (min desc.length 4128) data) (consume n s)

/-- COMMAND_DISPATCH (R46): one command is taken, where Quill may dispatch and a source holds one. -/
def execCommandDispatch (desc : Desc) (data : Bytes) (s : State) : State :=
  if !canDispatch s then s
  else
    match nextSource s with
    | none => s
    | some k =>
      let s : State := if k < 3 then { s with cmd := { s.cmd with turn := (k + 1) % 3 } } else s
      match k with
      | 1 =>
        let d := s.spi.mail.getD []
        takeCommand .spi d.length d { s with spi := { s.spi with mail := none } }
      | 2 =>
        let d := s.cmd.tunnelMail.headD []
        takeCommand .tunnel d.length d (passXfer 6 { s with cmd := { s.cmd with tunnelMail := s.cmd.tunnelMail.drop 1 } })
      | k => takeFromRing (k - 2) desc data s

/-! ## The reply ring (02 R44–R47, 08 R212) -/

/-- May the reply ring be written now? -/
def replyReady (s : State) : Bool := ringOpen 4 s && !asleep s

/-- Write bytes into the next reply buffer (R44, R45). `long` is the text where the buffer is too short for it. -/
def postTo (desc : Desc) (data long : Bytes) (out : Nat → Bytes → Out) (done_ : State → State) (s : State) : State :=
  if !desc.fetched then ringError 4 3 s
  else if !desc.owner then s.setRing 4 { s.ring 4 with blocked := true }
  else if desc.length < 32 then ringError 4 4 s
  else
    let bytes := if desc.length < data.length then long.take desc.length else data
    setCause 0 (done_ (consume 4 (emit (out (s.ring 4).cons bytes) s)))

/-- REPLY_POST (R44–R46): the reply that fell due first; fewer than 64 waiting ends a stall. -/
def execReplyPost (desc : Desc) (s : State) : State :=
  match s.cmd.waiting with
  | [] => s
  | r :: rest =>
    if replyReady s then
      postTo desc r.bytes { r with detail := r.detail + 2 }.bytes (fun i d => .reply i desc.addr d)
        (fun s => { s with cmd := { s.cmd with waiting := rest, stalled := s.cmd.stalled && decide (64 ≤ rest.length) } }) s
    else s

/-- The host-delivery queue to serve: 12,288–12,295 in ascending number, then the pick over the others (08 R212). -/
def hostQueue (s : State) : Option Nat × State :=
  let busy := (s.queues.filter (fun e => decide (12288 ≤ e.1) && !e.2.frames.isEmpty)).map (·.1)
  match busy.find? (fun q => decide (q < 12296)) with
  | some q => (some q, s)
  | none => pick 1068 (busy.filter (fun q => eligible q s)) s

/-- An unsolicited packet: a reply header, then the payload (04 R107). -/
def packetBytes (f : Frame) (truncated : Bool) : Bytes :=
  let p := f.pkt.getD { op := 0x0480, tag := 0, tick := 0 }
  le 2 p.op ++ le 2 p.tag ++ le 2 f.data.length ++ le 2 0 ++ le 4 (2 * b2n truncated) ++ le 4 p.tick.toNat ++ zeros 16 ++ f.data

/-- HOST_DELIVERY (08 R212): a packet is posted where a descriptor is free and no command reply waits for one. -/
def execHostDelivery (desc : Desc) (s : State) : State :=
  if s.cmd.waiting ≠ [] ∨ replyReady s = false then s
  else
    match hostQueue s with
    | (none, _) => s
    | (some q, s1) =>
      match (s1.queue q).frames with
      | [] => s
      | f :: _ =>
        if desc.fetched && desc.owner && decide (32 ≤ desc.length) then
          postTo desc (packetBytes f false) (packetBytes f true) (fun i d => .packet i desc.addr d) (fun s => (dequeue q s).2) s1
        else postTo desc [] [] (fun i d => .packet i desc.addr d) id s

/-! ## Popping records (02 R65, 18 R398) -/

/-- The record that the full event FIFO has turned away in this clock enters it after all, for a POP of the same clock has made room;
OVERFLOW stays where another was turned away (R65). -/
def letIn (s : State) : State :=
  match s.evt.turned with
  | [] => s
  | r :: rest => enterEvent r { s with evt := { s.evt with turned := rest, overflow := s.evt.overflowWas || !rest.isEmpty } }

/-- EVT_POP (R65). -/
def execEvtPop (v : Word) (same : Bool) (s : State) : State :=
  hostWrite (fun s =>
    if v.getLsbD 0 then
      let meets := same && decide (s.evt.turnedAt = clockNo s)
      let s : State := { s with evt := { s.evt with fifo := s.evt.fifo.drop 1 } }
      if meets then letIn s else s
    else s) s

/-- The same for the error FIFO: the record was not lost after all (18 R398). -/
def letErrorIn (s : State) : State :=
  match s.evt.errTurned with
  | [] => s
  | r :: rest => { s with
      cnt := { s.cnt with value := SMap.modify 0 s.cnt.value (Ctr.errorFifoLost.index 0) (· - 1) }
      evt := { s.evt with
        errFifo := s.evt.errFifo ++ [r], errTurned := rest, errOverflow := s.evt.errOverflowWas || !rest.isEmpty } }

/-- ERR_POP (18 R398). -/
def execErrPop (v : Word) (same : Bool) (s : State) : State :=
  hostWrite (fun s =>
    if v.getLsbD 0 then
      let meets := same && decide (s.evt.errTurnedAt = clockNo s)
      let s : State := { s with evt := { s.evt with errFifo := s.evt.errFifo.drop 1 } }
      if meets then letErrorIn s else s
    else s) s

/-! ## The SPI mailbox (02 R66) -/

/-- SPI STATUS (Table 2.15); CMD_FREE is 0 until command-ready (19 R421). -/
def execSpiStatus (s : State) : State :=
  let v := b2n (s.spi.cmdFree && decide (s.dev.quill = 3)) + 2 * b2n (!s.spi.replies.isEmpty) + 4 * b2n (decide (s.dev.quill = 3))
  emit (.spiOut (le 1 v)) s

/-- CMD_PUSH (R66): taken into the mailbox, or ignored and counted; held while asleep, and a wake source (16 R379, Table 16.4
cause 8). -/
def execSpiCmdPush (data : Bytes) (s : State) : State :=
  if !s.spi.cmdFree || !s.dev.ctrl.getLsbD 1 || decide (s.dev.quill ≠ 3) then count .spiCmdDropped 0 s
  else if asleep s || decide (s.pwr.state = .waking) then
    fireWake 8 { s with pwr := { s.pwr with heldPush := some data }, spi := { s.spi with cmdFree := false } }
  else fireWake 8 { s with spi := { s.spi with mail := some data, cmdFree := false } }

/-- REPLY_PULL of n bytes (R66): a whole pull frees the reply, a shorter one leaves it in place. -/
def execSpiReplyPull (n : Nat) (s : State) : State :=
  match s.spi.replies with
  | [] => emit (.spiOut (zeros n)) s
  | r :: rest =>
    let s := emit (.spiOut (fit n r.bytes)) s
    if n < r.bytes.length then s
    else
      let s := freeMailbox { s with spi := { s.spi with replies := rest } }
      if rest.isEmpty then s else setCause 4 s

end Sys2Proof.Machine
end

