-- ==== Sys2Proof/Machine/Registers.lean ====
section
/-!
DEFINITION. BAR0, BAR2 and BAR4 as access paths reach them (02 R36–R41, Tables 2.1, 2.2; 00 R9–R12): reads, with those that
latch or clear, writes by their access codes, and the SPI READ and WRITE operations.
-/

namespace Sys2Proof.Machine

/-! ## Capability list (02 R40, Table 2.2) -/

/-- The words of Table 2.2 that are not zero, at their byte offsets; UNIT_SERIAL and SILICON_STEP come from the fuses. -/
def capWords (s : State) : List (Nat × Nat) :=
  [(0x000, 0x00200101), (0x004, 0x08800D5E), (0x008, s.fuse.siliconStep.toNat), (0x00C, s.fuse.serial.toNat % 2 ^ 32),
   (0x010, s.fuse.serial.toNat / 2 ^ 32),
   (0x020, 0x00400102), (0x024, 4 + 3 * 2 ^ 4 + 2 ^ 8 + 4 * 2 ^ 12), (0x028, 1024 + 256 * 2 ^ 16), (0x02C, 15960 + 16036 * 2 ^ 16),
   (0x030, 15240 + 15440 * 2 ^ 16), (0x034, 50),
   (0x040, 0x00600103), (0x044, 4194304), (0x048, 16 + 64 * 2 ^ 8 + 2 * 2 ^ 16), (0x04C, 4096 + 16384 * 2 ^ 16), (0x050, 1048576),
   (0x054, 65535 + 64 * 2 ^ 16),
   (0x060, 0x00800104), (0x064, 16 + 128 * 2 ^ 8 + 8 * 2 ^ 16 + 2 ^ 20 + 64 * 2 ^ 24), (0x068, 524288), (0x06C, 1 + 15 * 2 ^ 4),
   (0x080, 0x00A00105), (0x084, 16384), (0x088, 65536), (0x08C, 131072), (0x090, 8 + 256 * 2 ^ 16)] ++
  [(0x0A0, 0x00C00106), (0x0A4, 40 + 24 * 2 ^ 8 + 8 * 2 ^ 16), (0x0A8, 0x7F + 2 ^ 8), (0x0AC, 4 + 2 ^ 8),
   (0x0C0, 0x00E00107), (0x0C4, 32 + 7 * 2 ^ 8 + 2 ^ 16 + 2 ^ 17), (0x0E0, 0x01000108), (0x0E4, 3 * 2 ^ 8),
   (0x100, 0x01200109), (0x104, 8 + 3 * 2 ^ 8 + 1008 * 2 ^ 16), (0x108, 32 + 16 * 2 ^ 16),
   (0x120, 0x0140010A), (0x124, 8 + 8 * 2 ^ 8 + 8 * 2 ^ 12 + 2 ^ 16), (0x140, 0x0160010B), (0x144, 16 + 4096 * 2 ^ 16),
   (0x148, 3 + 3 * 2 ^ 8), (0x160, 0x0180010C), (0x164, 4 + 2 ^ 8), (0x180, 0x01A0010D), (0x184, 24 + 2 ^ 8 + 250 * 2 ^ 16),
   (0x1A0, 0x01C0010E), (0x1A4, 7), (0x1C0, 0x0000010F), (0x1C4, 1048576), (0x1C8, 65535 + 2 ^ 16)]

/-! ## Device registers (02) -/

/-- TICK_STATE codes (01 Table 1.7). -/
def TickState.code : TickState → Nat
  | .free => 0 | .locked => 1 | .slewing => 2 | .holdover => 3 | .following => 4

/-- DEV_STATUS; ACTIVE from the completion of a switchover's claim on (15 R369). -/
def devStatus (s : State) : Nat :=
  b2n s.fatal.asserted * 2 ^ 23 + b2n (pairActive s && s.pair.claimDetail.isNone) * 2 ^ 22 + s.clk.channel * 2 ^ 16 +
    s.clk.state.code * 2 ^ 12 + s.dev.quill * 2 ^ 8 + s.lc.state

/-- TICK_PHASE as it is now. -/
def tickPhase (s : State) : Nat := stroke s * 2 ^ 20 + tickNs s % 2 ^ 17

/-- TICK_COUNT_READ (R41): TICK_PHASE is latched in the same clock for the path. Served asleep too (16 R379). -/
def execTickCountRead (p : Path) (s : State) : State :=
  answer p 0x1004 s.clk.tick (s.setLatch p { s.latch p with tickPhase := BitVec.ofNat 32 (tickPhase s) })

def readDevice (p : Path) (addr : Nat) (s : State) : Option Nat :=
  match addr with
  | 0x1000 => some (devStatus s)
  | 0x1008 => some (s.latch p).tickPhase.toNat
  | 0x100C => some (if s.dev.quill = 3 then s.dev.fwVersion.toNat else 0)
  | 0x1010 => some s.dev.ctrl.toNat
  | 0x1014 => some (s.dev.bootSrc.toNat * 2 ^ 12 + s.dev.role.toNat * 2 ^ 8 + s.dev.slotId.toNat)
  | 0x1018 => some s.dev.resetCause.toNat
  | 0x101C => some (b2n s.dev.lockstepOk * 2 ^ 8 + s.dev.regionOk.toNat)
  | 0x1020 => some s.dev.hostScratch.toNat
  | a => readBoot a s

/-- A ring register set: at offsets from 0x0000_2000. -/
def readRing (off : Nat) (s : State) : Option Nat :=
  if 0x140 ≤ off then none
  else
    let r := s.ring (off / 0x40)
    match off % 0x40 with
    | 0x00 => some r.baseLo.toNat
    | 0x04 => some r.baseHi.toNat
    | 0x08 => some r.size.toNat
    | 0x0C => some (r.errorCode.toNat * 2 ^ 16 + b2n r.error * 2 + b2n r.enable)
    | 0x10 => some r.cons
    | 0x14 => some 0
    | _ => none

/-- Word k of the oldest record of a FIFO; zero where it is empty. -/
def recWord (k : Nat) (l : List Rec) : Nat :=
  match l with
  | [] => 0
  | r :: _ => u32 r.bytes (4 * k)

/-- Events, interrupts, errors and the fatal registers, at their BAR0 addresses. -/
def readEvents (addr : Nat) (s : State) : Option Nat :=
  if addr = 0x3000 then some (intCause s).toNat
  else if addr = 0x3004 then some s.evt.mask.toNat
  else if addr = 0x3008 then some s.evt.pinMask.toNat
  else if addr = 0x300C then some (b2n s.evt.overflow * 2 ^ 31 + s.evt.fifo.length)
  else if 0x3010 ≤ addr ∧ addr < 0x3020 then some (recWord ((addr - 0x3010) / 4) s.evt.fifo)
  else if addr = 0x3020 ∨ addr = 0x3114 then some 0
  else if 0x3040 ≤ addr ∧ addr < 0x30C0 then some (SMap.get 0 s.evt.vec ((addr - 0x3040) / 4)).toNat
  else if addr = 0x3100 then some (b2n s.evt.errOverflow * 2 ^ 31 + s.evt.errFifo.length)
  else if 0x3104 ≤ addr ∧ addr < 0x3114 then some (recWord ((addr - 0x3104) / 4) s.evt.errFifo)
  else if addr = 0x3120 then some (b2n s.fatal.valid * 2 ^ 7 + s.fatal.region * 2 ^ 4 + s.fatal.cause)
  else if addr = 0x3124 then some s.fatal.tick.toNat
  else none

/-- INST_FLAP_READ (03 R83; 00 R11): FLAP_COUNT is returned and cleared, and ACTIVATION_FLAP may be raised again. -/
def execInstFlapRead (p : Path) (i : Nat) (same : Bool) (s : State) : State :=
  let a := 0x10010 + 0x4000 * i
  hostRead p a (fun s =>
    let (v, left) := rcRead same (2 * a) (s.inst i).flapCount s
    answer p a (BitVec.ofNat 32 v) (s.modInst i (fun x => { x with flapCount := left, flapArmed := true }))) s

/-- The fibre registers that no read changes, at offsets from 0x0001_0000. -/
def readFibre (p : Path) (off : Nat) (s : State) : Option Nat :=
  let i := off / 0x4000
  match off % 0x4000 with
  | 0x000 => some (instStatus i s)
  | 0x004 => some (instIds i s)
  | 0x008 => some (instGrid i s)
  | 0x00C => some (s.inst i).eqd
  | 0x014 => some (instLig s)
  | 0x100 => some (dsStatus i s)
  | 0x108 => some (SMap.get 0 (s.latch p).dsSfcHi i).toNat
  | 0x110 => some (ligDsNext s)
  | 0x114 => some (ligDsHeld s)
  | 0x200 => some (usStatus i s)
  | 0x204 => some (respNs (s.inst i))
  | 0x20C => some (SMap.get 0 (s.latch p).usNextNs i).toNat
  | 0x210 => some (usProfile i 0 s)
  | 0x214 => some (usProfile i 1 s)
  | 0x218 => some (usProfile i 2 s)
  | 0x21C => some (usProfile i 3 s)
  | 0x220 => some (ligUsNext s)
  | 0x224 => some (ligUsStatus s)
  | _ => none

/-! ## Reads -/

/-- What an aligned read of BAR0 answers where reading changes nothing; none where no chapter defines a register there, or where
the read latches or clears. -/
def readPlain (p : Path) (addr : Nat) (s : State) : Option Nat :=
  let off := addr % 0x10000
  match addr / 0x10000 with
  | 0 =>
    if addr < 0x1000 then some (((capWords s).lookup addr).getD 0)
    else if addr < 0x2000 then readDevice p addr s
    else if addr < 0x3000 then readRing (addr - 0x2000) s
    else if addr < 0x4000 then readEvents addr s
    else none
  | 1 => readFibre p off s
  | 2 => readTable off s
  | 3 => readCls off s
  | 4 => readSched p off s
  | 5 => readLanes off s
  | 6 => readManager off s
  | 7 => readTrib p off s
  | 8 => readTime p off s
  | 9 => readCipher off s
  | 0xA => readMemory off s
  | 0xB => readPair off s
  | 0xC => readPower off s
  | 0xD => readLife off s
  | 0xE => readCounters p off s
  | _ => none

/-- The reads of BAR0 that latch or clear, each by its own row. -/
def readSpecial (p : Path) (addr : Nat) (s : State) : Option State :=
  let off := addr % 0x10000
  match addr / 0x10000 with
  | 0 => if addr = 0x1004 then some (execTickCountRead p s) else none
  | 1 =>
    let i := off / 0x4000
    match off % 0x4000 with
    | 0x010 => some (execInstFlapRead p i false s)
    | 0x104 => some (execDsSfcLoRead p i s)
    | 0x208 => some (execUsNextTickRead p i s)
    | _ => none
  | 4 => if off = 8 then some (execQBytesRead p s) else none
  | 5 => if off < 0xA000 ∧ off % 0x400 = 4 then some (execLaneHdrErrRead p (off / 0x400) false s) else none
  | 7 => if off = 0x2004 then some (execTribPathStatusRead p s) else none
  | 8 => if off < 0x100 ∧ off % 0x20 = 0 then some (execTbNsRead p (off / 0x20) s) else none
  | 0xA => if off = 0 then some (execMemEccRead p false s) else if off = 0x1C then some (execScratchStatusRead p false s) else none
  | 0xE =>
    if 0x4000 ≤ off ∧ off < 0x8000 then some (execCounterRead p (4096 * s.cnt.winBase.toNat + (off - 0x4000) / 4) s)
    else if 0x1000 ≤ off ∧ off < 0x1600 ∧ off % 0x10 = 0 then some (execBwBytesLoRead p ((off - 0x1000) / 0x10) s)
    else none
  | _ => none

/-- Does a chapter define an aligned word of BAR0? -/
def bar0Defined (addr : Nat) (s : State) : Bool := (readPlain .pcie addr s).isSome || (readSpecial .pcie addr s).isSome

/-- Does a chapter define the word at an address of a BAR (Table 2.1)? BAR2 is all windows, BAR4 all user counter page. -/
def addrDefined (bar : Bar) (addr : Nat) (s : State) : Bool :=
  let word := addr / 4 * 4
  match bar with
  | .bar0 => bar0Defined word s
  | .bar2 => decide (word < 0x4000000)
  | .bar4 => decide (word < 0x10000)

/-- Registers that are readable while asleep (16 R379). -/
def servedAsleep (addr : Nat) : Bool := decide (addr ≤ 0x1000) || decide (addr = 0x1008) || decide (addr / 0x10000 = 0xC)

/-- An aligned read of a 32-bit word of BAR0 (R36, R67). -/
def readWord (p : Path) (addr : Nat) (s : State) : State :=
  match readSpecial p addr s with
  | some s' => s'
  | none =>
    match readPlain p addr s with
    | some v =>
      if servedAsleep addr then answer p addr (BitVec.ofNat 32 v) s else hostRead p addr (answer p addr (BitVec.ofNat 32 v)) s
    | none => hostRead p addr (fun s => answer p addr 0 (count .unmappedAccess 0 s)) s

/-- UNMAPPED_ACCESS (R36): a read returns zero, a write is ignored, both are counted. -/
def execUnmappedAccess (p : Path) (write : Bool) (bar : Bar) (addr : Nat) (s : State) : State :=
  if addrDefined bar addr s ∨ addr % 4 ≠ 0 then s
  else if write then hostWrite (count .unmappedAccess 0) s
  else hostRead p addr (fun s => answer p addr 0 (count .unmappedAccess 0 s)) s

/-- UNALIGNED_ACCESS (R37): not an aligned 32-bit word. A read returns 0xFFFF_FFFF, a write has no effect; at an undefined address it
is counted (R36). -/
def execUnalignedAccess (p : Path) (write : Bool) (bar : Bar) (addr : Nat) (s : State) : State :=
  let tally := fun (s : State) => if addrDefined bar addr s then s else count .unmappedAccess 0 s
  if write then hostWrite tally s else hostRead p addr (fun s => answer p addr 0xFFFFFFFF (tally s)) s

/-! ## Writes (00 R10–R12) -/

/-- A ring's registers: RING_CTRL.ERROR is write-1-to-clear, ENABLE starts and stops the ring (R42, R43). ERROR_CODE keeps the code of
the last error, also after ERROR is cleared and the ring is enabled again (DESIGN CHOICE, log 212). -/
def writeRing (n off : Nat) (v : Word) (same : Bool) (s : State) : State :=
  let r := s.ring n
  match off with
  | 0x00 => hostWrite (State.setRing n { r with baseLo := v &&& 0xFFFFFFF0 }) s
  | 0x04 => hostWrite (State.setRing n { r with baseHi := v }) s
  | 0x08 => hostWrite (State.setRing n { r with size := v.setWidth 13 }) s
  | 0x0C =>
    let s := hostWrite (State.setRing n { r with error := r.error && !(clears same (0x200C + 0x40 * n) v s).getLsbD 1 }) s
    if asleep s then s
    else if v.getLsbD 0 then execRingEnable n s else execRingDisable n s
  | 0x14 => execDoorbell n (v.toNat % 4096) s
  | _ => hostWrite id s

/-- A write of CTRL: clearing SPI_CMD_EN revokes the leases of the SPI owner domain (06 R159). -/
def writeCtrl (v : Word) (s : State) : State :=
  let cleared := s.dev.ctrl.getLsbD 1 && !v.getLsbD 1
  let s : State := { s with dev := { s.dev with ctrl := v.setWidth 4 } }
  if cleared then revokeOwner 1 s else s

/-- Device, boot and hot-plug registers. -/
def writeDevice (p : Path) (addr : Nat) (v : Word) (same : Bool) (s : State) : State :=
  match addr with
  | 0x1108 => execBootGo p v s
  | _ => hostWrite (fun s =>
    match addr with
    | 0x1010 => writeCtrl v s
    | 0x1018 => { s with dev := { s.dev with resetCause := s.dev.resetCause &&& ~~~ (clears same addr v s).setWidth 6 } }
    | 0x1020 => { s with dev := { s.dev with hostScratch := v } }
    | 0x1100 => if s.dev.quill = 3 then s else { s with boot := { s.boot with addrLo := v &&& 0xFFFFFFF8 } }
    | 0x1104 => if s.dev.quill = 3 then s else { s with boot := { s.boot with addrHi := v } }
    | 0x1200 => if (clears same addr v s).getLsbD 1 then { s with hot := { s.hot with seen := false } } else s
    | _ => s) s

/-- Events, interrupts and errors: INT_CAUSE bits 0, 3, 4 and 5 and the OVERFLOW bits are write-1-to-clear. -/
def writeEvents (addr : Nat) (v : Word) (same : Bool) (s : State) : State :=
  if addr = 0x3020 then execEvtPop v same s
  else if addr = 0x3114 then execErrPop v same s
  else
    hostWrite (fun s =>
      let w := clears same addr v s
      if addr = 0x3000 then { s with evt := { s.evt with cause := s.evt.cause &&& ~~~ (w.setWidth 6 &&& 0b111001) } }
      else if addr = 0x3004 then { s with evt := { s.evt with mask := v.setWidth 6 } }
      else if addr = 0x3008 then { s with evt := { s.evt with pinMask := v.setWidth 6 } }
      else if addr = 0x300C then { s with evt := { s.evt with overflow := s.evt.overflow && !w.getLsbD 31 } }
      else if 0x3040 ≤ addr ∧ addr < 0x30C0 then { s with evt := { s.evt with vec := SMap.set 0 s.evt.vec ((addr - 0x3040) / 4) (v &&& 0x13F) } }
      else if addr = 0x3100 then { s with evt := { s.evt with errOverflow := s.evt.errOverflow && !w.getLsbD 31 } }
      else s) s

/-- KEY_DATA, KEY_SLOT and KEY_CTRL (13 R328–R330): a write of several KEY_CTRL bits is one write. -/
def writeKeys (p : Path) (off : Nat) (v : Word) (s : State) : State :=
  if off < 0x20 then execKeyDataWrite p (off / 4) v s
  else if off = 0x20 then setKeySlot v s
  else if off = 0x24 then keyCtrl (v.getLsbD 0) (v.getLsbD 1) (v.getLsbD 2) s
  else hostWrite id s

/-- The other ranges, at offsets from their start. -/
def writeOther (p : Path) (range off : Nat) (v : Word) (same : Bool) (s : State) : State :=
  let w := clears same (0x10000 * range + off) v s
  match range with
  | 2 =>
    if off = 0x10 then execTblLeaseKill p v s
    else if 0x200 ≤ off ∧ off < 0x220 then hostWrite (writeWinMap ((off - 0x200) / 4) v) s
    else hostWrite id s
  | 4 => hostWrite (fun s => if off = 4 then { s with qSel := v.toNat % 2 ^ 14 } else if off = 0x10 then { s with shSel := v.toNat % 2 ^ 16 } else s) s
  | 7 => hostWrite (fun s => if off = 0x2000 then { s with tribPathSel := v.toNat % 2 ^ 10 } else s) s
  | 8 => hostWrite (fun s => if 0x200 ≤ off ∧ off < 0x224 then writeCapStatus ((off - 0x200) / 4) w s else s) s
  | 9 => writeKeys p off v s
  | 0xA => hostWrite (fun s =>
      if off = 8 then { s with mem := { s.mem with sel := v.toNat % 2 ^ 6 } }
      else if off = 0x1C then { s with mem := { s.mem with wiped := s.mem.wiped && !w.getLsbD 31 } }
      else s) s
  | 0xC => if off = 0x10 then execPwrWake p v s else hostWrite id s
  | 0xD => hostWrite (fun s =>
      if off = 8 then { s with bist := { s.bist with fail := s.bist.fail &&& ~~~ w.setWidth 50 } }
      else if off = 0xC then { s with bist := { s.bist with fail := s.bist.fail &&& ~~~ (w.setWidth 50 <<< 32) } }
      else s) s
  | 0xE => hostWrite (fun s =>
      if off = 0 then { s with cnt := { s.cnt with winBase := v.setWidth 8 } }
      else if 0x8000 ≤ off ∧ off < 0x8200 then clearOvf ((off - 0x8000) / 4) v same s
      else s) s
  | _ => hostWrite id s

/-- An aligned write of a 32-bit word of BAR0: by the field access codes, or by its own row (R36, R67; 00 R10). -/
def writeWord (p : Path) (addr : Nat) (v : Word) (same : Bool) (s : State) : State :=
  if addr % 4 ≠ 0 then s
  else if !bar0Defined addr s then hostWrite (count .unmappedAccess 0) s
  else
    match addr / 0x10000 with
    | 0 =>
      if addr < 0x1000 then hostWrite id s
      else if addr < 0x2000 then writeDevice p addr v same s
      else if addr < 0x3000 then writeRing ((addr - 0x2000) / 0x40) (addr % 0x40) v same s
      else writeEvents addr v same s
    | r => writeOther p r (addr % 0x10000) v same s

/-- REGISTER_WRITE (R36, R67; 00 R10, R11). An SPI write of the same register in the same clock, served from command-ready on (19 Table
19.4), takes effect after a PCIe write; of two to KEY_CTRL it alone acts, the other being counted as busy (13 R330). -/
def execRegisterWrite (p : Path) (addr : Nat) (v : Word) (m : Meet) (s : State) : State :=
  match m.spi with
  | some w =>
    if p = .pcie ∧ s.dev.quill = 3 then
      if addr = 0x90024 then writeWord .spi addr w m.before (hostWrite (count .keyWindowBusy 0) s)
      else writeWord .spi addr w m.before (writeWord p addr v m.before s)
    else writeWord p addr v m.before s
  | none => writeWord p addr v m.before s

/-! ## SPI (02 R67, Table 2.15) -/

/-- SPI READ (R67): n words from ascending addresses, each answered as PCIe would be. -/
def execSpiRead (addr : Nat) : Nat → State → State
  | 0, s => s
  | n + 1, s =>
    let s := if addr % 4 = 0 then readWord .spi addr s else execUnalignedAccess .spi false .bar0 addr s
    execSpiRead (addr + 4) n s

/-- SPI WRITE (R67), served from command-ready on (19 Table 19.4). -/
def execSpiWrite (addr : Nat) : List Word → State → State
  | [], s => s
  | v :: vs, s =>
    let s := if addr % 4 = 0 then writeWord .spi addr v false s else execUnalignedAccess .spi true .bar0 addr s
    execSpiWrite (addr + 4) vs s

end Sys2Proof.Machine
end

