-- ==== Sys2Proof/Machine/RowsDevice.lean ====
section
/-!
DEFINITION. The meaning of each row of the opcode table for the device, its commands, registers, faults, counters and resets (chapters 1, 2, 18–20).
-/

namespace Sys2Proof.Machine

/-- TICK_EDGE (R22). At each tick edge T0, TICK_COUNT increments and the work bound to T0 runs. -/
def rowTickEdge (temp : Int) (s : State) : Host.Outcome State Fault Refusal :=
  .next (live (execTickEdge temp) s)

/-- COUNTER_WINDOW_CLOSE (R411). Under item 8, the per-port bandwidth window closes and its totals are published. -/
def rowCounterWindowClose (s : State) : Host.Outcome State Fault Refusal :=
  .next (live execCounterWindowClose s)

/-- TICK_OVERRUN (R33). Work not complete at the end of its deadline stroke raises TICK_OVERRUN; a run of 16 ticks escalates. -/
def rowTickOverrun (item : Fin 12) (s : State) : Host.Outcome State Fault Refusal :=
  .next (live (execTickOverrun item.val) s)

/-- UNMAPPED_ACCESS (R36). An access to an undefined address reads zero, is ignored on write, and is counted. -/
def rowUnmappedAccess (path : Path) (write : Bool) (bar : Bar) (addr : Nat) (s : State) : Host.Outcome State Fault Refusal :=
  .next (via path (execUnmappedAccess path write bar addr) s)

/-- UNALIGNED_ACCESS (R37). A register access that is not an aligned 32-bit word has no write effect and reads 0xFFFF_FFFF. -/
def rowUnalignedAccess (path : Path) (write : Bool) (bar : Bar) (addr : Nat) (s : State) : Host.Outcome State Fault Refusal :=
  .next (via path (execUnalignedAccess path write bar addr) s)

/-- REGISTER_WRITE (R10). A write to a register without its own row acts by its field access codes. -/
def rowRegisterWrite (path : Path) (addr : Nat) (v : Word) (meet : Meet) (s : State) : Host.Outcome State Fault Refusal :=
  .next (via path (execRegisterWrite path addr v meet) s)

/-- TICK_COUNT_READ (R41). A read of TICK_COUNT latches TICK_PHASE for the access path. -/
def rowTickCountRead (path : Path) (s : State) : Host.Outcome State Fault Refusal :=
  .next (via path (execTickCountRead path) s)

/-- COMMAND_DISPATCH (R46). Quill takes the next command by ring priority, copies it, clears OWNER and validates it. -/
def rowCommandDispatch (desc : Desc) (data : Bytes) (s : State) : Host.Outcome State Fault Refusal :=
  .next (live (execCommandDispatch desc data) s)

/-- REPLY_POST (R44). A reply is written to a free reply descriptor, OWNER is cleared and INT_CAUSE.REPLY is set. -/
def rowReplyPost (desc : Desc) (s : State) : Host.Outcome State Fault Refusal :=
  .next (live (execReplyPost desc) s)

/-- HOST_DELIVERY (R212). An unsolicited packet of a host-delivery queue is posted to the reply ring when a descriptor is free.
-/
def rowHostDelivery (desc : Desc) (s : State) : Host.Outcome State Fault Refusal :=
  .next (live (execHostDelivery desc) s)

/-- EVT_POP (R65). A write of EVT_POP discards the oldest event record. -/
def rowEvtPop (v : Word) (same : Bool) (s : State) : Host.Outcome State Fault Refusal :=
  .next (served (execEvtPop v same) s)

/-- ERR_POP (R398). A write of ERR_POP discards the oldest error record. -/
def rowErrPop (v : Word) (same : Bool) (s : State) : Host.Outcome State Fault Refusal :=
  .next (served (execErrPop v same) s)

/-- SPI_STATUS (R66). An SPI STATUS operation returns CMD_FREE, REPLY_READY and QUILL_READY. -/
def rowSpiStatus (s : State) : Host.Outcome State Fault Refusal :=
  .next (served execSpiStatus s)

/-- SPI_READ (R67). An SPI READ returns BAR0 words at ascending addresses. -/
def rowSpiRead (addr : Nat) (n : Nat) (s : State) : Host.Outcome State Fault Refusal :=
  .next (served (execSpiRead addr n) s)

/-- SPI_WRITE (R67). An SPI WRITE writes BAR0 words with the same effects as PCIe. -/
def rowSpiWrite (addr : Nat) (words : List Word) (s : State) : Host.Outcome State Fault Refusal :=
  .next (ready (execSpiWrite addr words) s)

/-- SPI_CMD_PUSH (R66). An SPI CMD_PUSH places one command in the SPI mailbox, or is dropped. -/
def rowSpiCmdPush (data : Bytes) (s : State) : Host.Outcome State Fault Refusal :=
  .next (served (execSpiCmdPush data) s)

/-- SPI_REPLY_PULL (R66). An SPI REPLY_PULL clocks out the waiting reply; a whole pull frees it. -/
def rowSpiReplyPull (n : Nat) (s : State) : Host.Outcome State Fault Refusal :=
  .next (served (execSpiReplyPull n) s)

/-- NOP (R59). NOP completes after every earlier command of its ring has completed. -/
def rowNop (q : CmdReq) (s : State) : Host.Outcome State Fault Refusal :=
  .next (live (execNop q) s)

/-- AUTH_NONCE (R55). AUTH_NONCE issues a new nonce for the command source. -/
def rowAuthNonce (q : CmdReq) (s : State) : Host.Outcome State Fault Refusal :=
  .next (live (execAuthNonce q) s)

/-- NONCE_EXPIRY (R55). A nonce expires 512 ticks after issue. -/
def rowNonceExpiry (s : State) : Host.Outcome State Fault Refusal :=
  .next (live execNonceExpiry s)

/-- OUTPUTS_ENABLE (R61). OUTPUTS_ENABLE enables or returns to high impedance low-speed output groups. -/
def rowOutputsEnable (q : CmdReq) (s : State) : Host.Outcome State Fault Refusal :=
  .next (live (execOutputsEnable q) s)

/-- REGION_RESET (R62). REGION_RESET resets one region other than Control. -/
def rowRegionReset (q : CmdReq) (s : State) : Host.Outcome State Fault Refusal :=
  .next (live (execRegionReset q) s)

/-- REGION_RESET_COMPLETE (R418). A region reset completes, its configuration is re-applied and service resumes. -/
def rowRegionResetComplete (r : Fin 5) (s : State) : Host.Outcome State Fault Refusal :=
  .next (live (execRegionResetComplete r.val) s)

/-- CANCEL (R63). CANCEL removes the earliest matching pending AT_TICK command. -/
def rowCancel (q : CmdReq) (s : State) : Host.Outcome State Fault Refusal :=
  .next (live (execCancel q) s)

/-- COUNTER_READ (R408). A read of counter k latches k + 1 for the access path. -/
def rowCounterRead (path : Path) (k : Nat) (s : State) : Host.Outcome State Fault Refusal :=
  .next (via path (execCounterRead path k) s)

/-- BW_BYTES_LO_READ (R411). A read of BW_BYTES_LO latches the port's other bandwidth words. -/
def rowBwBytesLoRead (path : Path) (p : Fin 96) (s : State) : Host.Outcome State Fault Refusal :=
  .next (via path (execBwBytesLoRead path p.val) s)

/-- INST_FLAP_READ (R83). A read of INST_FLAP returns and clears FLAP_COUNT. -/
def rowInstFlapRead (path : Path) (i : Fin 4) (same : Bool) (s : State) : Host.Outcome State Fault Refusal :=
  .next (via path (execInstFlapRead path i.val same) s)

/-- COUNTER_CONFIG (R412). COUNTER_CONFIG sets the user page base block. -/
def rowCounterConfig (q : CmdReq) (s : State) : Host.Outcome State Fault Refusal :=
  .next (live (execCounterConfig q) s)

/-- COUNTER_CHAIN (R407). COUNTER_CHAIN chains or unchains an even counter with the next. -/
def rowCounterChain (q : CmdReq) (s : State) : Host.Outcome State Fault Refusal :=
  .next (live (execCounterChain q) s)

/-- COUNTER_CLEAR (R409). COUNTER_CLEAR zeroes a range of counters and their OVF bits. -/
def rowCounterClear (q : CmdReq) (same : Bool) (s : State) : Host.Outcome State Fault Refusal :=
  .next (live (execCounterClear q same) s)

/-- SNAPSHOT (R414). SNAPSHOT captures counters in one clock, and clears them with CLEAR. -/
def rowSnapshot (q : CmdReq) (s : State) : Host.Outcome State Fault Refusal :=
  .next (live (execSnapshot q) s)

/-- BW_CONFIG (R411). BW_CONFIG sets the bandwidth window length. -/
def rowBwConfig (q : CmdReq) (s : State) : Host.Outcome State Fault Refusal :=
  .next (live (execBwConfig q) s)

/-- FATAL_CONDITION (R401). A fatal condition darkens lasers, asserts FATAL#, records FATAL_INFO and stops dispatch. -/
def rowFatalCondition (cause : Fin 6) (region : Fin 6) (s : State) : Host.Outcome State Fault Refusal :=
  .next (live (execFatalCondition cause.val region.val) s)

/-- FATAL_CHIP_RESET (R401). One millisecond after a fatal condition, the device performs a chip reset. -/
def rowFatalChipReset (s : State) : Host.Outcome State Fault Refusal :=
  .next (live execFatalChipReset s)

/-- COLD_RESET (R416). Power good starts a cold reset and the boot sequence. -/
def rowColdReset (straps : Straps) (s : State) : Host.Outcome State Fault Refusal :=
  .next (outside (execColdReset straps) s)

/-- WARM_RESET (R416). RESET# asserted for 1 µs resets the whole device and restarts the boot sequence. -/
def rowWarmReset (s : State) : Host.Outcome State Fault Refusal :=
  .next (outside execWarmReset s)

/-- PERST_ASSERT (R417). PERST# resets the PCIe endpoint, rings, interrupts, boot registers and the PCIe domain's leases. -/
def rowPerstAssert (s : State) : Host.Outcome State Fault Refusal :=
  .next (outside execPerstAssert s)

/-- BOOT_GO (R424). A write of BOOT_CTRL.GO starts the PCIe image fetch. -/
def rowBootGo (path : Path) (v : Word) (s : State) : Host.Outcome State Fault Refusal :=
  .next (via path (execBootGo path v) s)

/-- IMAGE_CHUNK_RX (R425). An image chunk arrives over Mapiyn or the mirror lanes and is stored, or ends the delivery. -/
def rowImageChunkRx (kind : ImgPath) (f : FrameFields) (last : Bool) (field : Bytes) (s : State) : Host.Outcome State Fault Refusal :=
  .next (live (execImageChunkRx kind f last field) s)

/-- IMAGE_DELIVERED (R423). A complete image is verified and accepted or rejected. -/
def rowImageDelivered (kind : ImgPath) (met : Option ImgPath) (image : Option Bytes) (s : State) : Host.Outcome State Fault Refusal :=
  .next (live (execImageDelivered kind met image) s)

/-- COMMAND_READY (R421). Verified firmware starts, QUILL_STATE becomes 3 and held doorbells are served. -/
def rowCommandReady (s : State) : Host.Outcome State Fault Refusal :=
  .next (live execCommandReady s)

/-- HOTSWAP_CLOSE (R438). The hot-swap switch closes after 10 ms of good VIN12 with EJECT_REQ# deasserted. -/
def rowHotswapClose (s : State) : Host.Outcome State Fault Refusal :=
  .next (outside execHotswapClose s)

/-- HOTSWAP_TRIP (R439). Undervoltage, overvoltage or overcurrent opens the switch and darkens the lasers. -/
def rowHotswapTrip (cause : Trip) (s : State) : Host.Outcome State Fault Refusal :=
  .next (outside (execHotswapTrip cause) s)

/-- EJECT_RECOGNISED (R442). EJECT_REQ# held for 100 µs is recognised and the device hands over its roles. -/
def rowEjectRecognised (s : State) : Host.Outcome State Fault Refusal :=
  .next (outside execEjectRecognised s)

/-- QUIESCE_START (R443). 4 ms after recognition, quiesce stops bursts, ACT and new egress frames. -/
def rowQuiesceStart (s : State) : Host.Outcome State Fault Refusal :=
  .next (outside execQuiesceStart s)

/-- EJECT_END (R441). EJECT_REQ# deasserted for 10 ms ends the eject and lifts quiesce. -/
def rowEjectEnd (s : State) : Host.Outcome State Fault Refusal :=
  .next (outside execEjectEnd s)

/-- PERST_DEASSERT (R421). PERST# is deasserted and the PCIe endpoint leaves reset and becomes ready for link training. -/
def rowPerstDeassert (s : State) : Host.Outcome State Fault Refusal :=
  .next (outside execPerstDeassert s)

/-- RESET_DEASSERT (R421). RESET# is deasserted, which is T_R of a warm reset, and the boot sequence runs from step 2, sampling
the straps. -/
def rowResetDeassert (straps : Straps) (s : State) : Host.Outcome State Fault Refusal :=
  .next (outside (execResetDeassert straps) s)

/-- FUNCTION_LEVEL_RESET (R159). A PCIe function-level reset resets the PCIe owner domain, revoking its leases and discarding
their staged writes. -/
def rowFunctionLevelReset (s : State) : Host.Outcome State Fault Refusal :=
  .next (live execFunctionLevelReset s)

end Sys2Proof.Machine
end

