-- ==== Sys2Proof/Machine/RowsFibre.lean ====
section
/-!
DEFINITION. The meaning of each row of the opcode table for the channel pairs: activation, ligature, downstream and upstream (chapters 3–5).
-/

namespace Sys2Proof.Machine

/-- TX_TUNE_LOCK (R69). A laser locks to its target wavelength and may light toward the fibre. -/
def rowTxTuneLock (i : Fin 4) (s : State) : Host.Outcome State Fault Refusal :=
  .next (live (execTxTuneLock i.val) s)

/-- RX_TUNE_LOCK (R68). A receiver reaches demodulator lock on its target wavelength. -/
def rowRxTuneLock (i : Fin 4) (s : State) : Host.Outcome State Fault Refusal :=
  .next (live (execRxTuneLock i.val) s)

/-- LASER_LOCK_LOSS (R69). A laser that loses lock goes dark at the fibre within 100 ns. -/
def rowLaserLockLoss (i : Fin 4) (s : State) : Host.Outcome State Fault Refusal :=
  .next (live (execLaserLockLoss i.val) s)

/-- LINE_MODE_DWELL_EXPIRY (R71). Under AUTO, the dwell in one line mode ends and the instance hunts in the other. -/
def rowLineModeDwellExpiry (i : Fin 4) (s : State) : Host.Outcome State Fault Refusal :=
  .next (live (execLineModeDwellExpiry i.val) s)

/-- SCAN_DWELL_EXPIRY (R78). The 64-tick scan dwell ends and the receiver moves to the next grid index. -/
def rowScanDwellExpiry (i : Fin 4) (s : State) : Host.Outcome State Fault Refusal :=
  .next (live (execScanDwellExpiry i.val) s)

/-- INST_CONFIG (R92). INST_CONFIG sets an instance's line mode, rates, timers, flap settings, EqD limit and start grid. -/
def rowInstConfig (q : CmdReq) (s : State) : Host.Outcome State Fault Refusal :=
  .next (live (execInstConfig q) s)

/-- INST_START (R74). INST_START powers the receiver and starts activation from O1.1 held. -/
def rowInstStart (q : CmdReq) (s : State) : Host.Outcome State Fault Refusal :=
  .next (live (execInstStart q) s)

/-- INST_STOP (R74). INST_STOP darkens the laser, switches the receiver off and discards ONU-ID, EqD and profiles. -/
def rowInstStop (q : CmdReq) (s : State) : Host.Outcome State Fault Refusal :=
  .next (live (execInstStop q) s)

/-- INST_QUERY (R91). INST_QUERY returns the instance status, IDs, grid, EqD, configuration and VSSN. -/
def rowInstQuery (q : CmdReq) (s : State) : Host.Outcome State Fault Refusal :=
  .next (live (execInstQuery q) s)

/-- SET_REGISTRATION_ID (R72). SET_REGISTRATION_ID sets the registration ID for the next Registration message. -/
def rowSetRegistrationId (q : CmdReq) (s : State) : Host.Outcome State Fault Refusal :=
  .next (live (execSetRegistrationId q) s)

/-- BURST_PROFILE (R77). A received Burst_Profile message stores or replaces the profile of its index. -/
def rowBurstProfile (i : Fin 4) (m : PloamRx) (index : Fin 4) (psbu : Nat) (fec : Bool) (fits : Bool) (s : State) : Host.Outcome State Fault Refusal :=
  .next (live (execBurstProfile i.val m index.val psbu fec fits) s)

/-- ASSIGN_ONU_ID (R74). An Assign_ONU-ID message matching the instance's serial number stores the ONU-ID and moves it to O4. -/
def rowAssignOnuId (i : Fin 4) (m : PloamRx) (vendor : BitVec 32) (vssn : Word) (onuId : BitVec 10) (s : State) : Host.Outcome State Fault Refusal :=
  .next (live (execAssignOnuId i.val m vendor vssn onuId.toNat) s)

/-- RANGING_TIME (R81). A Ranging_Time message sets the EqD if it is within EQD_LIMIT, moving O4 to O5.1. -/
def rowRangingTime (i : Fin 4) (m : PloamRx) (eqd : Int) (relative : Bool) (s : State) : Host.Outcome State Fault Refusal :=
  .next (live (execRangingTime i.val m eqd relative) s)

/-- DEACTIVATE_ONU_ID (R74). A Deactivate_ONU-ID message discards ONU-ID and EqD and returns the instance to O2-3. -/
def rowDeactivateOnuId (i : Fin 4) (m : PloamRx) (s : State) : Host.Outcome State Fault Refusal :=
  .next (live (execDeactivateOnuId i.val m) s)

/-- DISABLE_SERIAL_NUMBER (R74). A Disable_Serial_Number message moves the instance into or out of O7. -/
def rowDisableSerialNumber (i : Fin 4) (m : PloamRx) (vendor : BitVec 32) (vssn : Word) (enable : Bool) (s : State) : Host.Outcome State Fault Refusal :=
  .next (live (execDisableSerialNumber i.val m vendor vssn enable) s)

/-- CHANNEL_PROFILE (R78). A Channel_Profile or System_Profile message is stored, marked usable or unusable. -/
def rowChannelProfile (i : Fin 4) (m : PloamRx) (profile : Option Profile) (raw : Bytes) (s : State) : Host.Outcome State Fault Refusal :=
  .next (live (execChannelProfile i.val m profile raw) s)

/-- TUNING_CONTROL (R79). A Tuning_Control request is acknowledged or refused, moving O5.1 to O5.2. -/
def rowTuningControl (i : Fin 4) (m : PloamRx) (req : TuneReq) (s : State) : Host.Outcome State Fault Refusal :=
  .next (live (execTuningControl i.val m req) s)

/-- TUNING_EXECUTE (R74). At the superframe stated by Tuning_Control, the instance stops upstream and tunes to the target. -/
def rowTuningExecute (i : Fin 4) (s : State) : Host.Outcome State Fault Refusal :=
  .next (live (execTuningExecute i.val) s)

/-- TUNING_TARGET_PLOAM (R74). In O9, a PLOAM message on the target channel to the own ONU-ID completes tuning to O5.1. -/
def rowTuningTargetPloam (i : Fin 4) (m : PloamRx) (s : State) : Host.Outcome State Fault Refusal :=
  .next (live (execTuningTargetPloam i.val m) s)

/-- ADJUST_TX_WAVELENGTH (R79). An Adjust_Tx_Wavelength message applies a fine laser adjustment in the next tick, or is refused.
-/
def rowAdjustTxWavelength (i : Fin 4) (m : PloamRx) (halfGhz : Int) (s : State) : Host.Outcome State Fault Refusal :=
  .next (live (execAdjustTxWavelength i.val m halfGhz) s)

/-- PROTECTION_CONTROL (R74). A Protection_Control message stores the protection pair, moves to O5.2 and is copied to the host.
-/
def rowProtectionControl (i : Fin 4) (m : PloamRx) (pair : Nat) (raw : Bytes) (s : State) : Host.Outcome State Fault Refusal :=
  .next (live (execProtectionControl i.val m pair raw) s)

/-- REQUEST_REGISTRATION (R76). A Request_Registration message is answered with Registration carrying the registration ID. -/
def rowRequestRegistration (i : Fin 4) (m : PloamRx) (s : State) : Host.Outcome State Fault Refusal :=
  .next (live (execRequestRegistration i.val m) s)

/-- ASSIGN_ALLOC_ID (R129). An Assign_Alloc-ID message assigns or deallocates an allocation slot. -/
def rowAssignAllocId (i : Fin 4) (m : PloamRx) (allocId : BitVec 14) (assign : Bool) (s : State) : Host.Outcome State Fault Refusal :=
  .next (live (execAssignAllocId i.val m allocId.toNat assign) s)

/-- KEY_CONTROL (R333). A Key_Control message makes Quill generate a unicast payload key and report it encrypted. -/
def rowKeyControl (i : Fin 4) (m : PloamRx) (index : Fin 2) (s : State) : Host.Outcome State Fault Refusal :=
  .next (live (execKeyControl i.val m index.val) s)

/-- SLEEP_ALLOW (R375). A Sleep_Allow message sets or clears the instance's SLEEP_ALLOWED. -/
def rowSleepAllow (i : Fin 4) (m : PloamRx) (on : Bool) (s : State) : Host.Outcome State Fault Refusal :=
  .next (live (execSleepAllow i.val m on) s)

/-- CHANGE_POWER_LEVEL (R458). A Change_Power_Level message steps the launch power one level, or is refused. -/
def rowChangePowerLevel (i : Fin 4) (m : PloamRx) (up : Bool) (s : State) : Host.Outcome State Fault Refusal :=
  .next (live (execChangePowerLevel i.val m up) s)

/-- POWER_CONSUMPTION_INQUIRE (R76). A Power_Consumption_Inquire message is answered with a Power_Consumption_Report. -/
def rowPowerConsumptionInquire (i : Fin 4) (m : PloamRx) (s : State) : Host.Outcome State Fault Refusal :=
  .next (live (execPowerConsumptionInquire i.val m) s)

/-- PLOAM_RX (R76). A PLOAM message that the device does not handle is delivered to the host as a PLOAM_RX record. -/
def rowPloamRx (i : Fin 4) (m : PloamRx) (raw : Bytes) (s : State) : Host.Outcome State Fault Refusal :=
  .next (live (execPloamRx i.val m raw) s)

/-- TO1_EXPIRY (R74). Expiry of TO1 in O4 discards ONU-ID and EqD and returns the instance to O2-3. -/
def rowTo1Expiry (i : Fin 4) (s : State) : Host.Outcome State Fault Refusal :=
  .next (live (execTo1Expiry i.val) s)

/-- TO2_EXPIRY (R74). Expiry of TO2 in O6 discards ONU-ID and EqD, goes to O1.1 and removes the ligature member. -/
def rowTo2Expiry (i : Fin 4) (s : State) : Host.Outcome State Fault Refusal :=
  .next (live (execTo2Expiry i.val) s)

/-- TO3_TO4_EXPIRY (R74). Expiry of TO3 or TO4 during tuning raises TUNING_FAILED and goes to O1.1. -/
def rowTo3To4Expiry (i : Fin 4) (s : State) : Host.Outcome State Fault Refusal :=
  .next (live (execTo3To4Expiry i.val) s)

/-- TO5_EXPIRY (R74). Expiry of TO5 in O5.2 returns the instance to O5.1. -/
def rowTo5Expiry (i : Fin 4) (s : State) : Host.Outcome State Fault Refusal :=
  .next (live (execTo5Expiry i.val) s)

/-- LIG_START (R86). LIG_START draws a GROUP_TOKEN and sends LIG_PROPOSE on the anchor. -/
def rowLigStart (q : CmdReq) (s : State) : Host.Outcome State Fault Refusal :=
  .next (live (execLigStart q) s)

/-- LIG_PROPOSE_TIMEOUT (R86). An unanswered 8,000-tick wait resends LIG_PROPOSE, or after three raises LIGATURE_UNANSWERED. -/
def rowLigProposeTimeout (s : State) : Host.Outcome State Fault Refusal :=
  .next (live execLigProposeTimeout s)

/-- LIG_ACCEPT (R87). A received LIG_ACCEPT is acknowledged and forms the group, or is answered by LIG_RELEASE. -/
def rowLigAccept (i : Fin 4) (m : PloamRx) (token : BitVec 16) (mask : BitVec 8) (startSfc : Word) (portFirst : BitVec 16) (portCount : BitVec 16) (s : State) : Host.Outcome State Fault Refusal :=
  .next (live (execLigAccept i.val m token.toNat mask.toNat startSfc.toNat portFirst.toNat portCount.toNat) s)

/-- LIG_GROUP_ACTIVATE (R87). The group becomes active at the anchor frame whose superframe counter equals START_SFC. -/
def rowLigGroupActivate (s : State) : Host.Outcome State Fault Refusal :=
  .next (live execLigGroupActivate s)

/-- LIG_REJECT (R87). A received LIG_REJECT raises LIGATURE_REJECTED and the members run independently. -/
def rowLigReject (i : Fin 4) (m : PloamRx) (token : BitVec 16) (_reason : Byte) (s : State) : Host.Outcome State Fault Refusal :=
  .next (live (execLigReject i.val m token.toNat) s)

/-- LIG_RELEASE (R89). A LIG_RELEASE from the head end dissolves the group. -/
def rowLigRelease (i : Fin 4) (m : PloamRx) (token : BitVec 16) (_reason : Byte) (s : State) : Host.Outcome State Fault Refusal :=
  .next (live (execLigRelease i.val m token.toNat) s)

/-- LIG_MEMBER_REJOIN (R88). A member back in O5 rejoins at the next tick edge and LIG_STATUS is sent. -/
def rowLigMemberRejoin (i : Fin 4) (s : State) : Host.Outcome State Fault Refusal :=
  .next (live (execLigMemberRejoin i.val) s)

/-- LIG_STOP (R90). LIG_STOP sends LIG_RELEASE and ends bonding or negotiation. -/
def rowLigStop (q : CmdReq) (s : State) : Host.Outcome State Fault Refusal :=
  .next (live (execLigStop q) s)

/-- LIG_RELEASE_ACK (R90). The head end's Acknowledge of the release ends ligature headers from the next tick. -/
def rowLigReleaseAck (i : Fin 4) (m : PloamRx) (s : State) : Host.Outcome State Fault Refusal :=
  .next (live (execLigReleaseAck i.val m) s)

/-- LIG_STOP_TIMEOUT (R90). Without an Acknowledge, ligature headers stop 64 ticks after the release was sent. -/
def rowLigStopTimeout (s : State) : Host.Outcome State Fault Refusal :=
  .next (live execLigStopTimeout s)

/-- DS_PHY_FRAME (R95). At a downstream frame boundary, the sync machine checks PSync and SFC, reaching SYNC or declaring LODS.
-/
def rowDsPhyFrame (i : Fin 4) (psync : Option Nat) (sfc : Option (BitVec 51)) (here : Bool) (s : State) : Host.Outcome State Fault Refusal :=
  .next (live (execDsPhyFrame i.val psync (sfc.map BitVec.toNat) here) s)

/-- DS_CODEWORD (R99). A downstream FEC codeword is decoded and marked good or uncorrectable. -/
def rowDsCodeword (i : Fin 4) (corrected : Option Nat) (bits : Nat) (content : List CwContent) (s : State) : Host.Outcome State Fault Refusal :=
  .next (live (execDsCodeword i.val corrected bits content) s)

/-- DS_SIGNAL_WINDOW_END (R101). At the end of an 8,000-tick window or a tick count, SD or SF is asserted or deasserted. -/
def rowDsSignalWindowEnd (i : Fin 4) (s : State) : Host.Outcome State Fault Refusal :=
  .next (live (execDsSignalWindowEnd i.val) s)

/-- XGEM_FRAME (R102). An XGEM frame is delineated, filtered by port, decrypted, reassembled and split to its destination. -/
def rowXgemFrame (i : Fin 4) (hec : Fin 3) (portId : BitVec 16) (keyIndex : BitVec 2) (lf : Bool) (data : Bytes) (fecLost : Bool) (s : State) : Host.Outcome State Fault Refusal :=
  .next (live (execXgemFrame i.val hec.val portId.toNat keyIndex.toNat lf data fecLost) s)

/-- LIG_FRAGMENT_ARRIVAL (R109). A bonded downstream fragment is released, held or discarded by its sequence difference. -/
def rowLigFragmentArrival (i : Fin 4) (portId : BitVec 16) (hdr : LigHdr) (data : Bytes) (s : State) : Host.Outcome State Fault Refusal :=
  .next (live (execLigFragmentArrival i.val portId.toNat hdr data) s)

/-- LIG_GAP_CLOSE (R111). A reorder gap closes when every member is past it or the 64 µs skew window ends. -/
def rowLigGapClose (s : State) : Host.Outcome State Fault Refusal :=
  .next (live execLigGapClose s)

/-- DS_SFC_LO_READ (R114). A read of DS_SFC_LO latches DS_SFC_HI. -/
def rowDsSfcLoRead (path : Path) (i : Fin 4) (s : State) : Host.Outcome State Fault Refusal :=
  .next (via path (execDsSfcLoRead path i.val) s)

/-- OMCI_TX (R116). OMCI_TX places one OMCI message in the instance's OMCC queue. -/
def rowOmciTx (q : CmdReq) (s : State) : Host.Outcome State Fault Refusal :=
  .next (live (execOmciTx q) s)

/-- PLOAM_TX (R117). PLOAM_TX queues a host PLOAM message for the next upstream PLOAM opportunity. -/
def rowPloamTx (q : CmdReq) (s : State) : Host.Outcome State Fault Refusal :=
  .next (live (execPloamTx q) s)

/-- DS_PORT_BIND (R118). DS_PORT_BIND binds or rebinds a downstream Port-ID. -/
def rowDsPortBind (q : CmdReq) (s : State) : Host.Outcome State Fault Refusal :=
  .next (live (execDsPortBind q) s)

/-- DS_PORT_UNBIND (R118). DS_PORT_UNBIND removes a Port-ID binding. -/
def rowDsPortUnbind (q : CmdReq) (s : State) : Host.Outcome State Fault Refusal :=
  .next (live (execDsPortUnbind q) s)

/-- DS_PORT_QUERY (R118). DS_PORT_QUERY returns a Port-ID binding with its bonded and shadowed marks. -/
def rowDsPortQuery (q : CmdReq) (s : State) : Host.Outcome State Fault Refusal :=
  .next (live (execDsPortQuery q) s)

/-- GRANT_INTAKE (R119). An allocation structure is checked, matched, given its launch instant and written as a launch entry. -/
def rowGrantIntake (i : Fin 4) (g : Grant) (s : State) : Host.Outcome State Fault Refusal :=
  .next (live (execGrantIntake i.val g) s)

/-- PULL_ISSUE (R266). A PULL is sent to the worker at the later of intake and AT − 250,000 ns. -/
def rowPullIssue (i : Fin 4) (ctx : Fin 1024) (s : State) : Host.Outcome State Fault Refusal :=
  .next (live (execPullIssue i.val ctx.val) s)

/-- BURST_PREPARATION (R126). At P, the Nib checks launch permission, fixes burst content, dequeues frames and samples DBRu. -/
def rowBurstPreparation (i : Fin 4) (s : State) : Host.Outcome State Fault Refusal :=
  .next (live (execBurstPreparation i.val) s)

/-- BURST_ENABLE (R124). At L − 12.8 ns, the Nib asserts burst enable. -/
def rowBurstEnable (i : Fin 4) (s : State) : Host.Outcome State Fault Refusal :=
  .next (live (execBurstEnable i.val) s)

/-- BURST_LAUNCH (R124). At L, the burst's PSBu starts on the fibre, followed by header, PLOAM and payload. -/
def rowBurstLaunch (i : Fin 4) (s : State) : Host.Outcome State Fault Refusal :=
  .next (live (execBurstLaunch i.val) s)

/-- PULL_FEED_DEADLINE (R133). If no pulled data is at the Nib by the feed point or the window's due time, the Nib fills the
allocation itself. -/
def rowPullFeedDeadline (i : Fin 4) (s : State) : Host.Outcome State Fault Refusal :=
  .next (live (execPullFeedDeadline i.val) s)

/-- BURST_END (R124). At the end of the trailer, burst enable is deasserted and the pull window closes. -/
def rowBurstEnd (i : Fin 4) (s : State) : Host.Outcome State Fault Refusal :=
  .next (live (execBurstEnd i.val) s)

/-- ALLOC_SLOT_RELEASE (R129). A freed slot is released at the next tick edge, its entries discarded and its configuration
reset. -/
def rowAllocSlotRelease (ctx : Fin 1024) (s : State) : Host.Outcome State Fault Refusal :=
  .next (live (execAllocSlotRelease ctx.val) s)

/-- ALLOC_CONFIG (R143). ALLOC_CONFIG sets the feed, fragmentation, worker and reservoir of one slot. -/
def rowAllocConfig (q : CmdReq) (s : State) : Host.Outcome State Fault Refusal :=
  .next (live (execAllocConfig q) s)

/-- ALLOC_QUERY (R144). ALLOC_QUERY reads a slot and clears its GRANTS_SKIPPED. -/
def rowAllocQuery (q : CmdReq) (s : State) : Host.Outcome State Fault Refusal :=
  .next (live (execAllocQuery q) s)

/-- US_NEXT_TICK_READ (R141). A read of US_NEXT_TICK latches US_NEXT_NS for the access path. -/
def rowUsNextTickRead (path : Path) (i : Fin 4) (s : State) : Host.Outcome State Fault Refusal :=
  .next (via path (execUsNextTickRead path i.val) s)

end Sys2Proof.Machine
end

