-- ==== Sys2Proof/Machine/RowsForward.lean ====
section
/-!
DEFINITION. The meaning of each row of the opcode table for the forwarding table, classifier, queues, shapers and gates (chapters 6–8).
-/

namespace Sys2Proof.Machine

/-- LEASE_EXPIRY (R159). A lease whose REMAINING reaches 0 expires; its staged writes are discarded and HOLD_REVOKED is raised
for each block. -/
def rowLeaseExpiry (s : State) : Host.Outcome State Fault Refusal :=
  .next (live execLeaseExpiry s)

/-- SHAPER_REFILL (R214). Under item 5, every shaper is refilled and accepted SHAPER_CONFIG changes are applied. -/
def rowShaperRefill (s : State) : Host.Outcome State Fault Refusal :=
  .next (live execShaperRefill s)

/-- LEARN_COMMIT (R162). Under item 6, records of the learn queue are committed in queue order. -/
def rowLearnCommit (s : State) : Host.Outcome State Fault Refusal :=
  .next (live execLearnCommit s)

/-- AGEING_STEP (R165). Under item 7, the AGE of every entry in unlocked blocks is decremented, and entries at 0 are
invalidated. -/
def rowAgeingStep (s : State) : Host.Outcome State Fault Refusal :=
  .next (live execAgeingStep s)

/-- TABLE_LOCK (R155). TABLE_LOCK takes all named table blocks under a new lease, or none of them. -/
def rowTableLock (q : CmdReq) (s : State) : Host.Outcome State Fault Refusal :=
  .next (live (execTableLock q) s)

/-- TABLE_RENEW (R156). TABLE_RENEW sets a lease's REMAINING to a new value. -/
def rowTableRenew (q : CmdReq) (s : State) : Host.Outcome State Fault Refusal :=
  .next (live (execTableRenew q) s)

/-- TABLE_UNLOCK (R158). TABLE_UNLOCK publishes the lease's staged writes in one clock, or discards them, and releases the
blocks. -/
def rowTableUnlock (q : CmdReq) (s : State) : Host.Outcome State Fault Refusal :=
  .next (live (execTableUnlock q) s)

/-- SEARCH (R150). SEARCH looks up a key in both candidate cells. -/
def rowSearch (q : CmdReq) (s : State) : Host.Outcome State Fault Refusal :=
  .next (live (execSearch q) s)

/-- NEXT (R174). NEXT returns valid entries in ascending order from a start position. -/
def rowNext (q : CmdReq) (s : State) : Host.Outcome State Fault Refusal :=
  .next (live (execNext q) s)

/-- FLUSH_BY_PORT (R175). FLUSH_BY_PORT invalidates the type 0 entries learned from a source. -/
def rowFlushByPort (q : CmdReq) (s : State) : Host.Outcome State Fault Refusal :=
  .next (live (execFlushByPort q) s)

/-- TABLE_AUDIT (R169). TABLE_AUDIT captures the block or cell digests in one clock. -/
def rowTableAudit (q : CmdReq) (s : State) : Host.Outcome State Fault Refusal :=
  .next (live (execTableAudit q) s)

/-- LEARN_CONFIG (R161). LEARN_CONFIG sets a learning source's LEARN_EN and template. -/
def rowLearnConfig (q : CmdReq) (s : State) : Host.Outcome State Fault Refusal :=
  .next (live (execLearnConfig q) s)

/-- AGE_CONFIG (R165). AGE_CONFIG sets the ageing interval, initial age and move limit. -/
def rowAgeConfig (q : CmdReq) (s : State) : Host.Outcome State Fault Refusal :=
  .next (live (execAgeConfig q) s)

/-- TBL_LEASE_KILL (R159). Writing a current LEASE_ID to TBL_LEASE_KILL revokes that lease. -/
def rowTblLeaseKill (path : Path) (v : Word) (s : State) : Host.Outcome State Fault Refusal :=
  .next (via path (execTblLeaseKill path v) s)

/-- TABLE_WINDOW_WRITE (R157). A BAR2 window write to a locked block is staged for the block's lease. -/
def rowTableWindowWrite (path : Path) (addr : Nat) (v : Word) (s : State) : Host.Outcome State Fault Refusal :=
  .next (via path (execTableWindowWrite path addr v) s)

/-- TABLE_WINDOW_READ (R172). A window read of an entry's word 0 latches words 1–3. -/
def rowTableWindowRead (path : Path) (addr : Nat) (s : State) : Host.Outcome State Fault Refusal :=
  .next (via path (execTableWindowRead path addr) s)

/-- FLOW_CONTEXT_STAGE (R170). A write to bytes 0–27 of a flow context is held in the assembly buffer. -/
def rowFlowContextStage (path : Path) (addr : Nat) (v : Word) (s : State) : Host.Outcome State Fault Refusal :=
  .next (via path (execFlowContextStage path addr v) s)

/-- FLOW_CONTEXT_COMMIT (R170). A write to bytes 28–31 makes all 32 bytes of a flow context current in one clock. -/
def rowFlowContextCommit (path : Path) (addr : Nat) (v : Word) (s : State) : Host.Outcome State Fault Refusal :=
  .next (via path (execFlowContextCommit path addr v) s)

/-- FRAME_DISPATCH (R182). The dispatcher gives a waiting frame to the next in-service parser engine for its first pass. -/
def rowFrameDispatch (s : State) : Host.Outcome State Fault Refusal :=
  .next (live execFrameDispatch s)

/-- FRAME_VERDICT (R190). At the end of a pass's tree search, the winning rule decides the frame's verdict. -/
def rowFrameVerdict (s : State) : Host.Outcome State Fault Refusal :=
  .next (live execFrameVerdict s)

/-- RECIRCULATE_DISPATCH (R193). A recirculated frame is dispatched for its second pass. -/
def rowRecirculateDispatch (s : State) : Host.Outcome State Fault Refusal :=
  .next (live execRecirculateDispatch s)

/-- REORDER_RELEASE (R183). The reorder stage releases a frame in first-dispatch order to lookup, policing and queue admission.
-/
def rowReorderRelease (port : Fin 48) (s : State) : Host.Outcome State Fault Refusal :=
  .next (live (execReorderRelease port.val) s)

/-- PARSER_ENGINE_FAULT (R184). A faulting parser engine reparses the frame elsewhere and goes out of service on a second fault.
-/
def rowParserEngineFault (e : Fin 16) (s : State) : Host.Outcome State Fault Refusal :=
  .next (live (escalate (execParserEngineFault e.val)) s)

/-- CLS_BUILD_COMPLETE (R196). A rule build completes and the image becomes READY or EMPTY. -/
def rowClsBuildComplete (s : State) : Host.Outcome State Fault Refusal :=
  .next (live execClsBuildComplete s)

/-- CLS_DRAIN_COMPLETE (R196). A DRAINING image whose in-flight count reaches 0 becomes READY or EMPTY, and CLS_SWAP completes.
-/
def rowClsDrainComplete (s : State) : Host.Outcome State Fault Refusal :=
  .next (live execClsDrainComplete s)

/-- CLS_CONFIG (R199). CLS_CONFIG sets the parser and exception settings from the swap clock. -/
def rowClsConfig (q : CmdReq) (s : State) : Host.Outcome State Fault Refusal :=
  .next (live (execClsConfig q) s)

/-- CLS_BUILD (R200). CLS_BUILD compiles a rule list into the inactive image. -/
def rowClsBuild (q : CmdReq) (rules : List Bytes) (s : State) : Host.Outcome State Fault Refusal :=
  .next (live (execClsBuild q rules) s)

/-- CLS_SWAP (R201). CLS_SWAP makes an image active at the swap clock. -/
def rowClsSwap (q : CmdReq) (s : State) : Host.Outcome State Fault Refusal :=
  .next (live (execClsSwap q) s)

/-- CLS_PROBE (R202). CLS_PROBE classifies supplied bytes without forwarding. -/
def rowClsProbe (q : CmdReq) (s : State) : Host.Outcome State Fault Refusal :=
  .next (live (execClsProbe q) s)

/-- EGRESS_PICK (R211). When an egress port can take a frame, its scheduler picks an eligible queue and debits deficit and
shapers. -/
def rowEgressPick (port : Fin 44) (fill : Nat) (s : State) : Host.Outcome State Fault Refusal :=
  .next (live (execEgressPick port.val fill) s)

/-- SHAPER_WHEEL_SLOT (R213). A shaper's slot on the timing wheel comes round and it becomes eligible. -/
def rowShaperWheelSlot (n : Fin 65536) (s : State) : Host.Outcome State Fault Refusal :=
  .next (live (execShaperWheelSlot n.val) s)

/-- GATE_ENTRY_BOUNDARY (R218). A gate list entry boundary opens and closes gates at its exact instant. -/
def rowGateEntryBoundary (p : Fin 36) (s : State) : Host.Outcome State Fault Refusal :=
  .next (live (execGateEntryBoundary p.val) s)

/-- GATE_LIST_START (R217). A pending gate list becomes operating at its start instant. -/
def rowGateListStart (p : Fin 36) (s : State) : Host.Outcome State Fault Refusal :=
  .next (live (execGateListStart p.val) s)

/-- Q_BYTES_READ (R220). A read of Q_BYTES latches Q_FRAMES. -/
def rowQBytesRead (path : Path) (s : State) : Host.Outcome State Fault Refusal :=
  .next (via path (execQBytesRead path) s)

/-- QUEUE_CONFIG (R222). QUEUE_CONFIG sets a queue's priority, weight, shapers and limits. -/
def rowQueueConfig (q : CmdReq) (s : State) : Host.Outcome State Fault Refusal :=
  .next (live (execQueueConfig q) s)

/-- QUEUE_QUERY (R221). QUEUE_QUERY returns a queue's configuration and occupancy. -/
def rowQueueQuery (q : CmdReq) (s : State) : Host.Outcome State Fault Refusal :=
  .next (live (execQueueQuery q) s)

/-- SHAPER_CONFIG (R214). SHAPER_CONFIG sets a shaper's rate, burst and wake mode at the next refill. -/
def rowShaperConfig (q : CmdReq) (s : State) : Host.Outcome State Fault Refusal :=
  .next (live (execShaperConfig q) s)

/-- SHAPER_QUERY (R221). SHAPER_QUERY returns a shaper's configuration, credit and state. -/
def rowShaperQuery (q : CmdReq) (s : State) : Host.Outcome State Fault Refusal :=
  .next (live (execShaperQuery q) s)

/-- POLICER_PROFILE (R208). POLICER_PROFILE sets one policer profile. -/
def rowPolicerProfile (q : CmdReq) (s : State) : Host.Outcome State Fault Refusal :=
  .next (live (execPolicerProfile q) s)

/-- GATE_LIST (R223). GATE_LIST loads a pending gate control list for a port. -/
def rowGateList (q : CmdReq) (s : State) : Host.Outcome State Fault Refusal :=
  .next (live (execGateList q) s)

end Sys2Proof.Machine
end

