-- ==== Sys2Proof/Machine/RowsLink.lean ====
section
/-!
DEFINITION. The meaning of each row of the opcode table for lanes, host ports, the manager and workers (chapters 9 and 10).
-/

namespace Sys2Proof.Machine

/-- LANE_SIGNAL_DETECT (R231). A lane declares signal detect and starts hunting for block alignment. -/
def rowLaneSignalDetect (n : Fin 40) (s : State) : Host.Outcome State Fault Refusal :=
  .next (live (execLaneSignalDetect n.val) s)

/-- LANE_SIGNAL_LOSS (R231). Signal detect is withdrawn; the lane goes to WAIT_SIGNAL or, if EIDLE was announced, to RX_IDLE. -/
def rowLaneSignalLoss (n : Fin 40) (s : State) : Host.Outcome State Fault Refusal :=
  .next (live (execLaneSignalLoss n.val) s)

/-- LANE_BLOCK_RECEIVED (R232). A received 64b/66b block is checked; valid runs lock the lane and invalid headers can lose lock.
-/
def rowLaneBlockReceived (n : Fin 36) (symbols : List (Fin 4)) (s : State) : Host.Outcome State Fault Refusal :=
  .next (live (execLaneBlockReceived n.val symbols) s)

/-- LANE_TRAINING_MARKER (R236). The end marker of a training burst re-aligns an RX_IDLE lane to LOCKED. -/
def rowLaneTrainingMarker (n : Fin 32) (s : State) : Host.Outcome State Fault Refusal :=
  .next (live (execLaneTrainingMarker n.val) s)

/-- LANE_IDLE_EXIT_TIMEOUT (R231). Signal present in RX_IDLE without an end marker within 200 ns drops the lane to HUNT. -/
def rowLaneIdleExitTimeout (n : Fin 32) (s : State) : Host.Outcome State Fault Refusal :=
  .next (live (execLaneIdleExitTimeout n.val) s)

/-- LANE_CELL_FAULT (R17). A lane cell fault takes the lane out of service into FAULT. -/
def rowLaneCellFault (n : Fin 40) (s : State) : Host.Outcome State Fault Refusal :=
  .next (live (execLaneCellFault n.val) s)

/-- LANE_HDR_ERR_READ (R246). A read of LANE_HDR_ERR returns and clears both of its fields. -/
def rowLaneHdrErrRead (path : Path) (n : Fin 40) (same : Bool) (s : State) : Host.Outcome State Fault Refusal :=
  .next (via path (execLaneHdrErrRead path n.val same) s)

/-- MAC_FRAME_RECEIVED (R241). A host-port frame is filtered, checked and delivered, discarded or passed to the pipeline. -/
def rowMacFrameReceived (h : Fin 4) (data : Bytes) (codeErr : Bool) (s : State) : Host.Outcome State Fault Refusal :=
  .next (live (execMacFrameReceived h.val data codeErr) s)

/-- MAC_TX_UNDERRUN (R245). A needed transmit byte that has not arrived ends the frame with a bad FCS and raises TX_THRESHOLD.
-/
def rowMacTxUnderrun (h : Fin 4) (s : State) : Host.Outcome State Fault Refusal :=
  .next (live (execMacTxUnderrun h.val) s)

/-- MAC_LINK_CHANGE (R225). A host port's IEEE 802.3 link comes up or goes down and MAC_LINK is raised. -/
def rowMacLinkChange (h : Fin 4) (up : Bool) (s : State) : Host.Outcome State Fault Refusal :=
  .next (live (execMacLinkChange h.val up) s)

/-- LANE_TABLE_LOAD (R229). LANE_TABLE_LOAD validates and loads a lane setting table. -/
def rowLaneTableLoad (q : CmdReq) (s : State) : Host.Outcome State Fault Refusal :=
  .next (live (execLaneTableLoad q) s)

/-- LANE_CONFIG (R248). LANE_CONFIG takes a lane to DOWN and enables it with fresh settings. -/
def rowLaneConfig (q : CmdReq) (s : State) : Host.Outcome State Fault Refusal :=
  .next (live (execLaneConfig q) s)

/-- LANE_QUERY (R247). LANE_QUERY returns a lane's status and settings. -/
def rowLaneQuery (q : CmdReq) (s : State) : Host.Outcome State Fault Refusal :=
  .next (live (execLaneQuery q) s)

/-- LANE_IDLE (R249). LANE_IDLE requests electrical-idle entry or exit on a worker lane. -/
def rowLaneIdle (q : CmdReq) (s : State) : Host.Outcome State Fault Refusal :=
  .next (live (execLaneIdle q) s)

/-- MAC_CONFIG (R250). MAC_CONFIG sets a host port's mode, flags, frame size, bad queue and filters. -/
def rowMacConfig (q : CmdReq) (s : State) : Host.Outcome State Fault Refusal :=
  .next (live (execMacConfig q) s)

/-- MAC_QUERY (R247). MAC_QUERY returns a host port's configuration and status. -/
def rowMacQuery (q : CmdReq) (s : State) : Host.Outcome State Fault Refusal :=
  .next (live (execMacQuery q) s)

/-- MAPIYN_FRAME_RX (R254). A Mapiyn frame is received whole, checked and passed on by its KIND. -/
def rowMapiynFrameRx (lane : Fin 32) (f : FrameFields) (field : Bytes) (cut : Bool) (s : State) : Host.Outcome State Fault Refusal :=
  .next (live (execMapiynFrameRx lane.val f field cut) s)

/-- HELLO_TIMER (R257). HELLO is sent every 1 µs in W1 and every 64 µs afterwards. -/
def rowHelloTimer (lane : Fin 36) (s : State) : Host.Outcome State Fault Refusal :=
  .next (live (execHelloTimer lane.val) s)

/-- HELLO_RX (R257). A received HELLO advances identification, or re-identifies on a changed SLOT_ID or version. -/
def rowHelloRx (lane : Fin 36) (f : HelloFields) (s : State) : Host.Outcome State Fault Refusal :=
  .next (live (execHelloRx lane.val f) s)

/-- RANGING_EXCHANGE (R260). The manager sends RANGE_REQ in each of eight exchanges 1 µs apart. -/
def rowRangingExchange (w : Fin 36) (s : State) : Host.Outcome State Fault Refusal :=
  .next (live (execRangingExchange w.val) s)

/-- RANGE_REQ_RX (R260). A worker answers RANGE_REQ with RANGE_RSP carrying its TURN. -/
def rowRangeReqRx (lane : Fin 36) (seq : Byte) (s : State) : Host.Outcome State Fault Refusal :=
  .next (live (execRangeReqRx lane.val seq) s)

/-- RANGE_RSP_RX (R261). A RANGE_RSP is recorded; after eight, the delay is computed and judged. -/
def rowRangeRspRx (lane : Fin 36) (seq : Byte) (turn : BitVec 24) (t4Ps : Nat) (s : State) : Host.Outcome State Fault Refusal :=
  .next (live (execRangeRspRx lane.val seq turn.toNat t4Ps) s)

/-- RANGE_RSP_TIMEOUT (R261). An exchange without a response in 10 µs counts as out of bounds. -/
def rowRangeRspTimeout (w : Fin 36) (s : State) : Host.Outcome State Fault Refusal :=
  .next (live (execRangeRspTimeout w.val) s)

/-- RANGING_BACKOFF_EXPIRY (R261). After the backoff of an out-of-bounds result, ranging is started again. -/
def rowRangingBackoffExpiry (w : Fin 36) (s : State) : Host.Outcome State Fault Refusal :=
  .next (live (execRangingBackoffExpiry w.val) s)

/-- ALIGN_RX (R262). A worker takes the delay of ALIGN and echoes it with ACK; the manager records the ACK. -/
def rowAlignRx (lane : Fin 36) (delay : BitVec 20) (ack : Bool) (s : State) : Host.Outcome State Fault Refusal :=
  .next (live (execAlignRx lane.val delay.toNat ack) s)

/-- TICK_BLOCK_RX (R262). A worker places its T0 from a received TICK block and follows the manager's tick. -/
def rowTickBlockRx (lane : Fin 36) (tick : Word) (offset : BitVec 16) (_holdover : Bool) (s : State) : Host.Outcome State Fault Refusal :=
  .next (live (execTickBlockRx lane.val tick offset.toNat) s)

/-- TIME_N_RX (R263). A TIME_S and TIME_N pair gives a TB0 sample to the worker. -/
def rowTimeNRx (lane : Fin 36) (timeS : Option (Byte × BitVec 48)) (tag : Byte) (ns : BitVec 30) (frac : BitVec 16) (s : State) : Host.Outcome State Fault Refusal :=
  .next (live (execTimeNRx lane.val timeS tag ns.toNat frac.toNat) s)

/-- MAP_RX (R272). A MAP block updates the manager's record of a worker context's occupancy. -/
def rowMapRx (w : Fin 32) (ctx : Fin 1024) (bytes : Word) (_tag : Byte) (s : State) : Host.Outcome State Fault Refusal :=
  .next (live (execMapRx w.val ctx.val bytes.toNat) s)

/-- MAP_REPORT (R272). A worker sends MAP when occupancy changes by 1,024 bytes, or 16 µs after an unreported change. -/
def rowMapReport (ctx : Fin 1024) (s : State) : Host.Outcome State Fault Refusal :=
  .next (live (execMapReport ctx.val) s)

/-- PULL_RX (R267). A worker receives a PULL and schedules it for its AT instant. -/
def rowPullRx (tag : Fin 8) (atNs : Fin 125000) (ctx : Fin 1024) (gid : Fin 64) (budget : BitVec 20) (s : State) : Host.Outcome State Fault Refusal :=
  .next (live (execPullRx tag.val atNs.val ctx.val gid.val budget.toNat) s)

/-- PULL_SERVE (R267). At AT, the worker sends pulled frames within BUDGET and then PULL_DONE. -/
def rowPullServe (gid : Fin 64) (s : State) : Host.Outcome State Fault Refusal :=
  .next (live (execPullServe gid.val) s)

/-- PULL_CANCEL_RX (R271). A worker receiving PULL_CANCEL before AT sends nothing for that pull. -/
def rowPullCancelRx (gid : Fin 64) (s : State) : Host.Outcome State Fault Refusal :=
  .next (live (execPullCancelRx gid.val) s)

/-- PULL_DONE_RX (R268). PULL_DONE closes the pull window and the Nib fills the rest of the allocation. -/
def rowPullDoneRx (w : Fin 32) (gid : Fin 64) (_sent : BitVec 20) (left : BitVec 28) (s : State) : Host.Outcome State Fault Refusal :=
  .next (live (execPullDoneRx w.val gid.val left.toNat) s)

/-- PULL_WINDOW_MISSED (R269). With no first block by F_P − PATH, the window is missed and PULL_CREDIT falls by 4. -/
def rowPullWindowMissed (w : Fin 32) (gid : Fin 64) (s : State) : Host.Outcome State Fault Refusal :=
  .next (live (execPullWindowMissed w.val gid.val) s)

/-- LEAVE_RX (R281). On LEAVE, the manager stops pulls, sends queued frames, sends LEAVE_ACK and enters W1. -/
def rowLeaveRx (lane : Fin 32) (_reason : Byte) (s : State) : Host.Outcome State Fault Refusal :=
  .next (live (execLeaveRx lane.val) s)

/-- LEAVE_ACK_RX (R281). A received LEAVE_ACK completes a worker release. -/
def rowLeaveAckRx (lane : Fin 32) (s : State) : Host.Outcome State Fault Refusal :=
  .next (live (execLeaveAckRx lane.val) s)

/-- REMOVAL_HOLD_EXPIRY (R280). A worker in W0 for REMOVAL_HOLD ticks has its egress queues flushed. -/
def rowRemovalHoldExpiry (w : Fin 32) (s : State) : Host.Outcome State Fault Refusal :=
  .next (live (execRemovalHoldExpiry w.val) s)

/-- WORKER_CMD_TIMEOUT (R284). A tunnelled command without a reply for 16,000 ticks returns PEER_ABSENT. -/
def rowWorkerCmdTimeout (w : Fin 32) (seq : Nat) (s : State) : Host.Outcome State Fault Refusal :=
  .next (live (execWorkerCmdTimeout w.val seq) s)

/-- WORKER_CONFIG (R283). WORKER_CONFIG sets a worker's admission, protection, budgets and timings. -/
def rowWorkerConfig (q : CmdReq) (s : State) : Host.Outcome State Fault Refusal :=
  .next (live (execWorkerConfig q) s)

/-- WORKER_QUERY (R282). WORKER_QUERY returns a worker's status words and configuration. -/
def rowWorkerQuery (q : CmdReq) (s : State) : Host.Outcome State Fault Refusal :=
  .next (live (execWorkerQuery q) s)

/-- WORKER_RECOVER (R258). WORKER_RECOVER takes a worker out of W5. -/
def rowWorkerRecover (q : CmdReq) (s : State) : Host.Outcome State Fault Refusal :=
  .next (live (execWorkerRecover q) s)

/-- WORKER_RERANGE (R264). WORKER_RERANGE ranges a worker in W3 or W4 again. -/
def rowWorkerRerange (q : CmdReq) (s : State) : Host.Outcome State Fault Refusal :=
  .next (live (execWorkerRerange q) s)

/-- WORKER_RELEASE (R281). WORKER_RELEASE sends LEAVE and releases the worker. -/
def rowWorkerRelease (q : CmdReq) (s : State) : Host.Outcome State Fault Refusal :=
  .next (live (execWorkerRelease q) s)

/-- WORKER_CMD (R284). WORKER_CMD tunnels one command to a worker and returns its reply. -/
def rowWorkerCmd (q : CmdReq) (s : State) : Host.Outcome State Fault Refusal :=
  .next (live (execWorkerCmd q) s)

/-- WORKER_IMAGE (R428). WORKER_IMAGE delivers a firmware image to a worker over Mapiyn. -/
def rowWorkerImage (q : CmdReq) (image : Bytes) (s : State) : Host.Outcome State Fault Refusal :=
  .next (live (execWorkerImage q image) s)

/-- WORKER_IMAGE_TIMEOUT (R428). No firmware HELLO within 50 ms of the last chunk ends WORKER_IMAGE with PEER_ABSENT. -/
def rowWorkerImageTimeout (w : Fin 32) (s : State) : Host.Outcome State Fault Refusal :=
  .next (live (execWorkerImageTimeout w.val) s)

end Sys2Proof.Machine
end

