-- ==== Sys2Proof/Machine/RowsMemory.lean ====
section
/-!
DEFINITION. The meaning of each row of the opcode table for keys, memories and arbitration (chapters 13 and 14).
-/

namespace Sys2Proof.Machine

/-- BLOTTER_STEP (R346). Under item 12, a group whose turn falls in the stroke requests SAVE of its next region. -/
def rowBlotterStep (s : State) : Host.Outcome State Fault Refusal :=
  .next (live execBlotterStep s)

/-- KEY_DATA_WRITE (R328). A KEY_DATA write stages key bytes in the key window. -/
def rowKeyDataWrite (path : Path) (n : Fin 8) (v : Word) (s : State) : Host.Outcome State Fault Refusal :=
  .next (via path (execKeyDataWrite path n.val v) s)

/-- KEY_COMMIT (R328). KEY_CTRL.COMMIT writes the staged key into the slot, clears staging and sets the KCV. -/
def rowKeyCommit (path : Path) (s : State) : Host.Outcome State Fault Refusal :=
  .next (via path (execKeyCommit path) s)

/-- KEY_ZEROISE (R329). KEY_CTRL.ZEROISE empties the selected slot. -/
def rowKeyZeroise (path : Path) (s : State) : Host.Outcome State Fault Refusal :=
  .next (via path (execKeyZeroise path) s)

/-- KEY_ABORT (R328). KEY_CTRL.ABORT clears the staging words. -/
def rowKeyAbort (path : Path) (s : State) : Host.Outcome State Fault Refusal :=
  .next (via path (execKeyAbort path) s)

/-- KEY_STAGING_TIMEOUT (R328). Staging words are cleared 64 ticks after the last uncommitted KEY_DATA write. -/
def rowKeyStagingTimeout (s : State) : Host.Outcome State Fault Refusal :=
  .next (live execKeyStagingTimeout s)

/-- CIPHER_ENGINE_FAULT (R326). A faulting AES engine is taken out and its fibre stream moved to the GCM pool. -/
def rowCipherEngineFault (e : Fin 16) (s : State) : Host.Outcome State Fault Refusal :=
  .next (live (escalate (execCipherEngineFault e.val)) s)

/-- CIPHER_CONFIG (R336). CIPHER_CONFIG sets or clears the countermeasures. -/
def rowCipherConfig (q : CmdReq) (s : State) : Host.Outcome State Fault Refusal :=
  .next (live (execCipherConfig q) s)

/-- PON_KEY_BIND (R332). PON_KEY_BIND binds or unbinds a slot to a PON key use. -/
def rowPonKeyBind (q : CmdReq) (s : State) : Host.Outcome State Fault Refusal :=
  .next (live (execPonKeyBind q) s)

/-- US_ENCRYPT (R334). US_ENCRYPT adds or removes a Port-ID on the upstream encrypt list. -/
def rowUsEncrypt (q : CmdReq) (s : State) : Host.Outcome State Fault Refusal :=
  .next (live (execUsEncrypt q) s)

/-- LINK_KEY_BIND (R335). LINK_KEY_BIND binds a slot to a link direction and phase. -/
def rowLinkKeyBind (q : CmdReq) (s : State) : Host.Outcome State Fault Refusal :=
  .next (live (execLinkKeyBind q) s)

/-- PHASE_SELECT (R335). PHASE_SELECT switches a link's transmit key phase at a frame boundary. -/
def rowPhaseSelect (q : CmdReq) (s : State) : Host.Outcome State Fault Refusal :=
  .next (live (execPhaseSelect q) s)

/-- KEY_QUERY (R337). KEY_QUERY returns a slot's KCV, flags and use. -/
def rowKeyQuery (q : CmdReq) (s : State) : Host.Outcome State Fault Refusal :=
  .next (live (execKeyQuery q) s)

/-- TAMPER (R344). A tamper wipes the secure scratchpad and zeroises the key slots. -/
def rowTamper (cause : Tamper) (s : State) : Host.Outcome State Fault Refusal :=
  .next (live (execTamper cause) s)

/-- MEM_ERROR (R339). A memory access corrects a single-bit error or reports an uncorrectable one. -/
def rowMemError (group : Fin 38) (word : Nat) (correctable : Bool) (s : State) : Host.Outcome State Fault Refusal :=
  .next (live (escalate (execMemError group.val word correctable)) s)

/-- MEM_ECC_READ (R355). A read of MEM_ECC returns and clears both fields. -/
def rowMemEccRead (path : Path) (same : Bool) (s : State) : Host.Outcome State Fault Refusal :=
  .next (via path (execMemEccRead path same) s)

/-- SCRATCH_STATUS_READ (R342). A read of SCRATCH_STATUS returns and clears COLLISIONS. -/
def rowScratchStatusRead (path : Path) (same : Bool) (s : State) : Host.Outcome State Fault Refusal :=
  .next (via path (execScratchStatusRead path same) s)

/-- SCRATCH_PORT_ACCESS (R342). A scratchpad access is served in its arbitration cycle, with collisions resolved. -/
def rowScratchPortAccess (a : Option ScratchAcc) (b : Option ScratchAcc) (s : State) : Host.Outcome State Fault Refusal :=
  .next (live (execScratchPortAccess a b) s)

/-- SEQ_LOCK_REVOKE (R343). Control revokes a scratchpad sequence lock held for more than 1 µs. -/
def rowSeqLockRevoke (s : State) : Host.Outcome State Fault Refusal :=
  .next (live execSeqLockRevoke s)

/-- BLOTTER_BORROW (R346). At the end of SAVE, accesses to the region move to the save copy and TEST begins. -/
def rowBlotterBorrow (g : Fin 38) (s : State) : Host.Outcome State Fault Refusal :=
  .next (live (execBlotterBorrow g.val) s)

/-- BLOTTER_TEST_END (R348). At the end of TEST, the region is restored, or remapped on a failure. -/
def rowBlotterTestEnd (g : Fin 38) (fail : Bool) (s : State) : Host.Outcome State Fault Refusal :=
  .next (live (escalate (execBlotterTestEnd g.val fail)) s)

/-- BLOTTER_RESTORE_END (R346). At the end of RESTORE, the region, booking and domain hold are released. -/
def rowBlotterRestoreEnd (g : Fin 38) (s : State) : Host.Outcome State Fault Refusal :=
  .next (live (execBlotterRestoreEnd g.val) s)

/-- BLOTTER_SAVE_TIMEOUT (R349). A step whose SAVE is not granted by S + 2 µs is abandoned. -/
def rowBlotterSaveTimeout (g : Fin 38) (s : State) : Host.Outcome State Fault Refusal :=
  .next (live (execBlotterSaveTimeout g.val) s)

/-- TXN_GRANT (R350). The arbiter grants a free target to a waiting request. -/
def rowTxnGrant (s : State) : Host.Outcome State Fault Refusal :=
  .next (live execTxnGrant s)

/-- TXN_COMPLETE (R351). A transfer completes and its grant is released. -/
def rowTxnComplete (port : Fin 7) (s : State) : Host.Outcome State Fault Refusal :=
  .next (live (execTxnComplete port.val) s)

/-- TXN_LIMIT_REVOKE (R351). A grant held for TXN_LIMIT is revoked and its transfer restarts later. -/
def rowTxnLimitRevoke (port : Fin 7) (s : State) : Host.Outcome State Fault Refusal :=
  .next (live (escalate (execTxnLimitRevoke port.val)) s)

/-- WAIT_TICK_REVOKE (R354). A wait that reaches one tick revokes every hold of the younger party. -/
def rowWaitTickRevoke (s : State) : Host.Outcome State Fault Refusal :=
  .next (live execWaitTickRevoke s)

/-- TXN_FREEZE_EXPIRY (R352). A freeze ends FREEZE_TICKS after it was set. -/
def rowTxnFreezeExpiry (s : State) : Host.Outcome State Fault Refusal :=
  .next (live execTxnFreezeExpiry s)

/-- BLOTTER_CONFIG (R345). BLOTTER_CONFIG enables groups and sets INTERVAL. -/
def rowBlotterConfig (q : CmdReq) (s : State) : Host.Outcome State Fault Refusal :=
  .next (live (execBlotterConfig q) s)

/-- BLOTTER_QUERY (R356). BLOTTER_QUERY returns one group's Blotter state. -/
def rowBlotterQuery (q : CmdReq) (s : State) : Host.Outcome State Fault Refusal :=
  .next (live (execBlotterQuery q) s)

/-- TXN_FREEZE (R352). TXN_FREEZE freezes or releases transfer targets. -/
def rowTxnFreeze (q : CmdReq) (s : State) : Host.Outcome State Fault Refusal :=
  .next (live (execTxnFreeze q) s)

/-- SCRATCH_OP (R342). SCRATCH_OP reads, writes or atomically changes a word of the general area. -/
def rowScratchOp (q : CmdReq) (s : State) : Host.Outcome State Fault Refusal :=
  .next (live (execScratchOp q) s)

/-- KEY_COMMIT_COMPLETE (R328). A key commit or zeroise finishes within 1 µs: the staging words are cleared, KCV is set and
KEY_STATUS.BUSY falls. -/
def rowKeyCommitComplete (s : State) : Host.Outcome State Fault Refusal :=
  .next (live execKeyCommitComplete s)

end Sys2Proof.Machine
end

