-- ==== Sys2Proof/Machine/RowsPower.lean ====
section
/-!
DEFINITION. The meaning of each row of the opcode table for the protected pair, power, self-test and life cycle (chapters 15–17).
-/

namespace Sys2Proof.Machine

/-- POWER_DECISION (R376). Under item 10, the idle timer is decremented and sleep is decided when every condition holds. -/
def rowPowerDecision (met : Option (Fin 11)) (s : State) : Host.Outcome State Fault Refusal :=
  .next (live (execPowerDecision (met.map Fin.val)) s)

/-- DIGEST_EXCHANGE (R364). Under item 11, the state digest is sent to the partner in M_DIGEST. -/
def rowDigestExchange (s : State) : Host.Outcome State Fault Refusal :=
  .next (live execDigestExchange s)

/-- CELL_FAULT (R16). A block retries an operation after a cell fault and remaps the cell to a spare on a second fault. -/
def rowCellFault (u : FaultUnit) (s : State) : Host.Outcome State Fault Refusal :=
  .next (live (escalate (execCellFault u)) s)

/-- RING_ENABLE (R42). Setting RING_CTRL.ENABLE resets CONS and starts the ring, or stops it with error 1 for a bad SIZE. -/
def rowRingEnable (n : Fin 5) (s : State) : Host.Outcome State Fault Refusal :=
  .next (served (execRingEnable n.val) s)

/-- RING_DISABLE (R43). Clearing RING_CTRL.ENABLE stops the ring. -/
def rowRingDisable (n : Fin 5) (s : State) : Host.Outcome State Fault Refusal :=
  .next (served (execRingDisable n.val) s)

/-- DOORBELL (R43). A DOORBELL write hands descriptors from CONS up to PROD to the device, or stops the ring with error 2. -/
def rowDoorbell (n : Fin 5) (prod : BitVec 12) (s : State) : Host.Outcome State Fault Refusal :=
  .next (served (execDoorbell n.val prod.toNat) s)

/-- M_DIGEST_RX (R364). A partner digest is compared; three consecutive mismatches are a divergence. -/
def rowMDigestRx (half : Bool) (tag : Byte) (word : Word) (s : State) : Host.Outcome State Fault Refusal :=
  .next (live (execMDigestRx half tag.toNat word) s)

/-- M_LAUNCH_RX (R369). The standby records whether a shadow burst was launched or skipped. -/
def rowMLaunchRx (i : Fin 4) (seq : BitVec 24) (launched : Bool) (s : State) : Host.Outcome State Fault Refusal :=
  .next (live (execMLaunchRx i.val seq.toNat launched) s)

/-- M_LOAN_REQ_RX (R360). The active grants or refuses a standby's request for light. -/
def rowMLoanReqRx (i : Fin 4) (tag : Fin 8) (ns : BitVec 17) (len : BitVec 20) (id : Byte) (s : State) : Host.Outcome State Fault Refusal :=
  .next (live (execMLoanReqRx i.val tag.val ns.toNat len.toNat id.toNat) s)

/-- M_LOAN_ACK_RX (R360). The standby receives the answer to its loan request. -/
def rowMLoanAckRx (id : Byte) (granted : Bool) (s : State) : Host.Outcome State Fault Refusal :=
  .next (live (execMLoanAckRx id.toNat granted) s)

/-- LOAN_ACT_RELEASE (R360). At L − 3,500 ns of a granted loan, the active deasserts ACT_OUT#. -/
def rowLoanActRelease (s : State) : Host.Outcome State Fault Refusal :=
  .next (live execLoanActRelease s)

/-- LOAN_ACT_CLAIM (R360). At L − 1,200 ns, the standby asserts ACT_OUT# for its loaned burst. -/
def rowLoanActClaim (s : State) : Host.Outcome State Fault Refusal :=
  .next (live execLoanActClaim s)

/-- M_HEALTH_RX (R368). A received M_HEALTH updates the partner's health half, SF mask and pair state. -/
def rowMHealthRx (half : BitVec 16) (sf : BitVec 4) (o5 : BitVec 4) (state : BitVec 3) (s : State) : Host.Outcome State Fault Refusal :=
  .next (live (execMHealthRx half.toNat sf o5 state.toNat) s)

/-- M_SWITCH_RX (R369). The standby receives M_SWITCH and prepares to take over at SWITCH. -/
def rowMSwitchRx (tag : Fin 8) (ns : BitVec 17) (rtag : Fin 8) (rns : BitVec 17) (cause : Byte) (s : State) : Host.Outcome State Fault Refusal :=
  .next (live (execMSwitchRx tag.val ns.toNat rtag.val rns.toNat cause.toNat) s)

/-- SWITCHOVER_AT_SWITCH (R369). At SWITCH, the active stops egress and bursts and the standby requeues held frames and starts
egress. -/
def rowSwitchoverAtSwitch (eject : Bool) (s : State) : Host.Outcome State Fault Refusal :=
  .next (live (execSwitchoverAtSwitch eject) s)

/-- PARTNER_GONE (R368). ACT_IN# deasserted outside a loan for 20 µs makes the standby take over (cause 6). -/
def rowPartnerGone (met : Option MSwitch) (eject : Bool) (s : State) : Host.Outcome State Fault Refusal :=
  .next (live (execPartnerGone met eject) s)

/-- ACT_IN_CHANGE (R359). A change of ACT_IN# updates the light interlock and resolves a claim conflict by SLOT_ID. -/
def rowActInChange (asserted : Bool) (s : State) : Host.Outcome State Fault Refusal :=
  .next (live (execActInChange asserted) s)

/-- ACT_OUT_CLAIM (R359). Once ACT_IN# has been deasserted without a break for 2 µs, a device waiting to claim light (ALONE
enabling, after a loan, or the new active at switchover) asserts ACT_OUT#. -/
def rowActOutClaim (s : State) : Host.Outcome State Fault Refusal :=
  .next (live execActOutClaim s)

/-- MIRROR_REPLICATED_RX (R361). A replicated command or data frame is executed on the standby in tick D + 2. -/
def rowMirrorReplicatedRx (f : FrameFields) (field : Bytes) (r : MirrorData) (s : State) : Host.Outcome State Fault Refusal :=
  .next (live (execMirrorReplicatedRx f field r) s)

/-- MIRROR_BULK_COPY_RX (R365). A bulk-copy mirror frame is written to the named memory group. -/
def rowMirrorBulkCopyRx (f : FrameFields) (field : Bytes) (group : Fin 38) (addr : Nat) (bytes : Bytes) (s : State) : Host.Outcome State Fault Refusal :=
  .next (live (execMirrorBulkCopyRx f field group.val addr bytes) s)

/-- MIRROR_SCRATCH_WRITE_RX (R358). A scratchpad-write mirror frame is written through port B into the journal half. -/
def rowMirrorScratchWriteRx (f : FrameFields) (field : Bytes) (addr : Nat) (bytes : Bytes) (s : State) : Host.Outcome State Fault Refusal :=
  .next (live (execMirrorScratchWriteRx f field addr bytes) s)

/-- MIRROR_KEY_TRANSFER_RX (R361). A key-transfer mirror frame is written straight into the named key slot. -/
def rowMirrorKeyTransferRx (f : FrameFields) (field : Bytes) (slot : BitVec 12) (key : Bytes) (aes256 : Bool) (s : State) : Host.Outcome State Fault Refusal :=
  .next (live (execMirrorKeyTransferRx f field slot.toNat key aes256) s)

/-- RESYNC_PASS_END (R365). A resynchronisation pass completes; the next pass starts or lockstep resumes. -/
def rowResyncPassEnd (left : Nat) (s : State) : Host.Outcome State Fault Refusal :=
  .next (live (execResyncPassEnd left) s)

/-- MIRROR_LINK_LOSS (R357). No LOCKED mirror lane, or no HELLO for 256 µs, loses the mirror link. -/
def rowMirrorLinkLoss (s : State) : Host.Outcome State Fault Refusal :=
  .next (live execMirrorLinkLoss s)

/-- STANDBY_HEALTH_TEST (R367). Every 8,000 ticks, the standby tests its lanes and lasers and updates PAIR_HEALTH. -/
def rowStandbyHealthTest (lanesOk : Bool) (lasersOk : BitVec 4) (s : State) : Host.Outcome State Fault Refusal :=
  .next (live (execStandbyHealthTest lanesOk lasersOk) s)

/-- PAIR_CONFIG (R371). PAIR_CONFIG enables or disables the protected pair. -/
def rowPairConfig (q : CmdReq) (s : State) : Host.Outcome State Fault Refusal :=
  .next (live (execPairConfig q) s)

/-- PAIR_SWITCH (R371). PAIR_SWITCH requests a switchover from the active. -/
def rowPairSwitch (q : CmdReq) (s : State) : Host.Outcome State Fault Refusal :=
  .next (live (execPairSwitch q) s)

/-- PAIR_RESYNC (R371). PAIR_RESYNC starts resynchronisation of the standby. -/
def rowPairResync (q : CmdReq) (s : State) : Host.Outcome State Fault Refusal :=
  .next (live (execPairResync q) s)

/-- PAIR_QUERY (R371). PAIR_QUERY returns the pair status, health, resync and last switch. -/
def rowPairQuery (q : CmdReq) (s : State) : Host.Outcome State Fault Refusal :=
  .next (live (execPairQuery q) s)

/-- SLEEP_ENTRY_START (R376). At E, entry to sleep begins with abort point A0. -/
def rowSleepEntryStart (s : State) : Host.Outcome State Fault Refusal :=
  .next (live execSleepEntryStart s)

/-- SLEEP_ABORT_POINT (R377). At abort points A1–A3, entry is abandoned on a wake source or proceeds. -/
def rowSleepAbortPoint (n : Fin 4) (s : State) : Host.Outcome State Fault Refusal :=
  .next (live (execSleepAbortPoint n.val) s)

/-- SLEEP_INDICATION_TIMEOUT (R376). A sleep indication not sent within 64 ticks makes the decision lapse. -/
def rowSleepIndicationTimeout (s : State) : Host.Outcome State Fault Refusal :=
  .next (live execSleepIndicationTimeout s)

/-- SLEEP_SAMPLE_START (R380). The tick channel's receiver is powered 10 µs before T0 of a sample tick. -/
def rowSleepSampleStart (s : State) : Host.Outcome State Fault Refusal :=
  .next (live execSleepSampleStart s)

/-- SLEEP_SAMPLE_END (R380). After two examined frames, the receiver is switched off. -/
def rowSleepSampleEnd (s : State) : Host.Outcome State Fault Refusal :=
  .next (live execSleepSampleEnd s)

/-- WAKE_EVENT (R382). A wake source ends sleep and the wake sequence begins. -/
def rowWakeEvent (cause : Fin 11) (s : State) : Host.Outcome State Fault Refusal :=
  .next (live (execWakeEvent cause.val) s)

/-- WAKE_COMPLETE (R382). At W + 250 µs, the data plane is ready and SLEEP_WOKEN is raised. -/
def rowWakeComplete (s : State) : Host.Outcome State Fault Refusal :=
  .next (live execWakeComplete s)

/-- PWR_WAKE (R380). A write of 1 to PWR_WAKE is wake cause 8. -/
def rowPwrWake (path : Path) (v : Word) (s : State) : Host.Outcome State Fault Refusal :=
  .next (via path (execPwrWake path v) s)

/-- DOMAIN_OFF_GRANT_TIMEOUT (R373). 4 µs into a power-down, grants still open are revoked and the domain is switched off. -/
def rowDomainOffGrantTimeout (d : Fin 24) (s : State) : Host.Outcome State Fault Refusal :=
  .next (live (execDomainOffGrantTimeout d.val) s)

/-- DOMAIN_POWER_UP_COMPLETE (R374). A domain powered on comes back re-initialised within 50 µs. -/
def rowDomainPowerUpComplete (d : Fin 24) (s : State) : Host.Outcome State Fault Refusal :=
  .next (live (execDomainPowerUpComplete d.val) s)

/-- SLEEP_CONFIG (R384). SLEEP_CONFIG sets the sleep enable, keep, idle, sample and wake settings. -/
def rowSleepConfig (q : CmdReq) (s : State) : Host.Outcome State Fault Refusal :=
  .next (live (execSleepConfig q) s)

/-- DOMAIN_POWER (R384). DOMAIN_POWER switches a power domain off or on. -/
def rowDomainPower (q : CmdReq) (s : State) : Host.Outcome State Fault Refusal :=
  .next (live (execDomainPower q) s)

/-- CLOCK_SWITCH (R384). CLOCK_SWITCH moves Quill back to the core clock. -/
def rowClockSwitch (q : CmdReq) (s : State) : Host.Outcome State Fault Refusal :=
  .next (live (execClockSwitch q) s)

/-- PAD_RELEASE (R381). PAD_RELEASE releases the latched pads. -/
def rowPadRelease (q : CmdReq) (s : State) : Host.Outcome State Fault Refusal :=
  .next (live (execPadRelease q) s)

/-- POWER_QUERY (R384). POWER_QUERY returns the power registers. -/
def rowPowerQuery (q : CmdReq) (s : State) : Host.Outcome State Fault Refusal :=
  .next (live (execPowerQuery q) s)

/-- LC_ADVANCE (R386). LC_ADVANCE starts programming the fuse row of a new life-cycle state. -/
def rowLcAdvance (q : CmdReq) (s : State) : Host.Outcome State Fault Refusal :=
  .next (live (execLcAdvance q) s)

/-- LC_FUSE_VERIFIED (R386). When the second copy verifies, the new state takes effect, the scratchpad is wiped and keys
zeroised. -/
def rowLcFuseVerified (ok : Bool) (s : State) : Host.Outcome State Fault Refusal :=
  .next (live (execLcFuseVerified ok) s)

/-- BIST_RUN (R389). BIST_RUN starts self-test of a block, or of every block. -/
def rowBistRun (q : CmdReq) (s : State) : Host.Outcome State Fault Refusal :=
  .next (live (execBistRun q) s)

/-- BIST_COMPLETE (R390). A block's BIST ends, its signature is compared and a failure is reported. -/
def rowBistComplete (sig : Word) (s : State) : Host.Outcome State Fault Refusal :=
  .next (live (escalate (execBistComplete sig)) s)

/-- TRST_ASSERT (R392). TRST# low puts the TAP in Test-Logic-Reset. -/
def rowTrstAssert (s : State) : Host.Outcome State Fault Refusal :=
  .next (live execTrstAssert s)

/-- JTAG_INSTRUCTION_UPDATE (R392). A new TAP instruction takes effect, decoded according to whether JTAG is open. -/
def rowJtagInstructionUpdate (code : Byte) (s : State) : Host.Outcome State Fault Refusal :=
  .next (live (execJtagInstructionUpdate code.toNat) s)

end Sys2Proof.Machine
end

