-- ==== Sys2Proof/Machine/RowsTime.lean ====
section
/-!
DEFINITION. The meaning of each row of the opcode table for tributaries and time (chapters 11 and 12).
-/

namespace Sys2Proof.Machine

/-- PERF_BIN_CLOSE (R302). Under item 9, performance bins close at 15-minute and 24-hour boundaries. -/
def rowPerfBinClose (s : State) : Host.Outcome State Fault Refusal :=
  .next (live execPerfBinClose s)

/-- TRIB_FRAME_PATTERN (R287). A framing pattern or a candidate's expected position updates the STM-N alignment candidates. -/
def rowTribFramePattern (t : Fin 8) (samples : List Bool) (s : State) : Host.Outcome State Fault Refusal :=
  .next (live (execTribFramePattern t.val samples) s)

/-- TRIB_STM_FRAME (R289). A received STM-N frame is checked for defects, pointers and errors, with consequent actions. -/
def rowTribStmFrame (t : Fin 8) (f : StmFrame) (s : State) : Host.Outcome State Fault Refusal :=
  .next (live (execTribStmFrame t.val f) s)

/-- TRIB_LOF_TIMER (R288). LOF is declared after 3 ms of OOF, and cleared after 3 ms in frame. -/
def rowTribLofTimer (t : Fin 8) (s : State) : Host.Outcome State Fault Refusal :=
  .next (live (execTribLofTimer t.val) s)

/-- CES_PACKET_EMIT (R294). A circuit emits a packet into the upstream pipeline for each PAYLOAD_BYTES of data. -/
def rowCesPacketEmit (c : Fin 1056) (s : State) : Host.Outcome State Fault Refusal :=
  .next (live (execCesPacketEmit c.val) s)

/-- CES_PACKET_RX (R296). A frame drained from a tributary egress queue enters its circuit's jitter buffer. -/
def rowCesPacketRx (t : Fin 8) (s : State) : Host.Outcome State Fault Refusal :=
  .next (live (execCesPacketRx t.val) s)

/-- CES_PLAYOUT_DUE (R297). When a packet's first byte is due, it is played out or replaced with all ones, possibly entering
LOPS. -/
def rowCesPlayoutDue (c : Fin 1056) (s : State) : Host.Outcome State Fault Refusal :=
  .next (live (execCesPlayoutDue c.val) s)

/-- MSP_WTR_EXPIRY (R300). The wait-to-restore timer expires and the selection reverts. -/
def rowMspWtrExpiry (k : Fin 4) (s : State) : Host.Outcome State Fault Refusal :=
  .next (live (execMspWtrExpiry k.val) s)

/-- PM_SECOND (R301). At each whole TB0 second, each entity's second is classified as ES, SES, BBE or UAS. -/
def rowPmSecond (s : State) : Host.Outcome State Fault Refusal :=
  .next (live execPmSecond s)

/-- TRIB_PATH_STATUS_READ (R460). A read of TRIB_PATH_STATUS latches TRIB_PATH_JB. -/
def rowTribPathStatusRead (path : Path) (s : State) : Host.Outcome State Fault Refusal :=
  .next (via path (execTribPathStatusRead path) s)

/-- TRIB_PORT_CONFIG (R303). TRIB_PORT_CONFIG enables a tributary port and sets its timing and SD threshold. -/
def rowTribPortConfig (q : CmdReq) (s : State) : Host.Outcome State Fault Refusal :=
  .next (live (execTribPortConfig q) s)

/-- TRIB_PATH_CONFIG (R303). TRIB_PATH_CONFIG assigns a VC-12 path and sets its circuit. -/
def rowTribPathConfig (q : CmdReq) (s : State) : Host.Outcome State Fault Refusal :=
  .next (live (execTribPathConfig q) s)

/-- VCAT_CONFIG (R292). VCAT_CONFIG sets up or removes a VC-12-Xv group. -/
def rowVcatConfig (q : CmdReq) (s : State) : Host.Outcome State Fault Refusal :=
  .next (live (execVcatConfig q) s)

/-- MSP_CONFIG (R299). MSP_CONFIG enables MSP 1+1 on a port pair. -/
def rowMspConfig (q : CmdReq) (s : State) : Host.Outcome State Fault Refusal :=
  .next (live (execMspConfig q) s)

/-- MSP_COMMAND (R304). MSP_COMMAND places or clears a command request on a pair. -/
def rowMspCommand (q : CmdReq) (s : State) : Host.Outcome State Fault Refusal :=
  .next (live (execMspCommand q) s)

/-- PM_READ (R302). PM_READ returns one performance bin. -/
def rowPmRead (q : CmdReq) (s : State) : Host.Outcome State Fault Refusal :=
  .next (live (execPmRead q) s)

/-- COMPARATOR_FIRE (R316). A comparator fires when its target time is reached and asserts its output. -/
def rowComparatorFire (o : Fin 8) (s : State) : Host.Outcome State Fault Refusal :=
  .next (live (execComparatorFire o.val) s)

/-- OUTPUT_PULSE_END (R317). An output deasserts WIDTH_NS after its assertion. -/
def rowOutputPulseEnd (o : Fin 9) (s : State) : Host.Outcome State Fault Refusal :=
  .next (live (execOutputPulseEnd o.val) s)

/-- PPS_OUT_SECOND (R317). PPS_OUT asserts at each whole second of its timebase. -/
def rowPpsOutSecond (s : State) : Host.Outcome State Fault Refusal :=
  .next (live execPpsOutSecond s)

/-- CAPTURE_EDGE (R318). A selected edge on a capture input is captured on its timebase, or missed. -/
def rowCaptureEdge (k : Fin 9) (rising : Bool) (s : State) : Host.Outcome State Fault Refusal :=
  .next (live (execCaptureEdge k.val rising) s)

/-- REFCLK_LOSS (R307). REFCLK_IN leaving its range makes the time clock fall back. -/
def rowRefclkLoss (s : State) : Host.Outcome State Fault Refusal :=
  .next (live execRefclkLoss s)

/-- REFCLK_IN_VALID (R307). REFCLK_IN comes back within ±50 ppm, REFCLK_VALID is set and the time clock again takes its
frequency from it in FREE and HOLDOVER. -/
def rowRefclkInValid (s : State) : Host.Outcome State Fault Refusal :=
  .next (live execRefclkInValid s)

/-- TB0_CORRECTION_END (R309). When the applied correction equals θ, TB0's RATE returns to 0. -/
def rowTb0CorrectionEnd (s : State) : Host.Outcome State Fault Refusal :=
  .next (live execTb0CorrectionEnd s)

/-- SERVO_HOLD_TIMEOUT (R312). A servo without a sample for HOLD_MS enters HOLDOVER. -/
def rowServoHoldTimeout (n : Fin 8) (s : State) : Host.Outcome State Fault Refusal :=
  .next (live (execServoHoldTimeout n.val) s)

/-- PON_TOD_SAMPLE (R310). When the frame named by PON_TOD arrives, a TB0 sample is formed and PON_TOD completes. -/
def rowPonTodSample (i : Fin 4) (s : State) : Host.Outcome State Fault Refusal :=
  .next (live (execPonTodSample i.val) s)

/-- TB_NS_READ (R319). A read of TB_NS latches TB_SEC_LO and TB_SEC_HI. -/
def rowTbNsRead (path : Path) (n : Fin 8) (s : State) : Host.Outcome State Fault Refusal :=
  .next (via path (execTbNsRead path n.val) s)

/-- TIME_CONFIG (R307). TIME_CONFIG selects REFCLK_IN. -/
def rowTimeConfig (q : CmdReq) (s : State) : Host.Outcome State Fault Refusal :=
  .next (live (execTimeConfig q) s)

/-- TIME_SET (R308). TIME_SET steps a timebase, offsets it or sets its rate. -/
def rowTimeSet (q : CmdReq) (s : State) : Host.Outcome State Fault Refusal :=
  .next (live (execTimeSet q) s)

/-- SERVO_CONFIG (R311). SERVO_CONFIG sets the reference and loop of a timebase servo. -/
def rowServoConfig (q : CmdReq) (s : State) : Host.Outcome State Fault Refusal :=
  .next (live (execServoConfig q) s)

/-- SERVO_SAMPLE (R312). SERVO_SAMPLE supplies one software offset sample to a servo. -/
def rowServoSample (q : CmdReq) (s : State) : Host.Outcome State Fault Refusal :=
  .next (live (execServoSample q) s)

/-- PON_TOD (R310). PON_TOD passes a head-end time-of-day announcement for a superframe. -/
def rowPonTod (q : CmdReq) (s : State) : Host.Outcome State Fault Refusal :=
  .next (live (execPonTod q) s)

/-- OUTPUT_CONFIG (R317). OUTPUT_CONFIG sets a TEV, PPS or SYNC output. -/
def rowOutputConfig (q : CmdReq) (s : State) : Host.Outcome State Fault Refusal :=
  .next (live (execOutputConfig q) s)

/-- CAPTURE_CONFIG (R318). CAPTURE_CONFIG selects a capture input's timebase and edges. -/
def rowCaptureConfig (q : CmdReq) (s : State) : Host.Outcome State Fault Refusal :=
  .next (live (execCaptureConfig q) s)

/-- CAPTURE_READ (R318). CAPTURE_READ returns and removes capture records. -/
def rowCaptureRead (q : CmdReq) (s : State) : Host.Outcome State Fault Refusal :=
  .next (live (execCaptureRead q) s)

/-- PTP_CONFIG (R314). PTP_CONFIG enables PTP receive timestamps on a host port. -/
def rowPtpConfig (q : CmdReq) (s : State) : Host.Outcome State Fault Refusal :=
  .next (live (execPtpConfig q) s)

/-- PTP_TX (R315). PTP_TX sends one frame ahead of every queue and returns its transmit timestamp. -/
def rowPtpTx (q : CmdReq) (s : State) : Host.Outcome State Fault Refusal :=
  .next (live (execPtpTx q) s)

/-- PTP_RX_READ (R314). PTP_RX_READ returns and removes PTP receive records. -/
def rowPtpRxRead (q : CmdReq) (s : State) : Host.Outcome State Fault Refusal :=
  .next (live (execPtpRxRead q) s)

end Sys2Proof.Machine
end

