-- ==== Sys2Proof/Machine/Dispatch.lean ====
section
/-!
DEFINITION. exec: one arm per row of the opcode table, each a direct call of the row's meaning.
-/

namespace Sys2Proof.Machine

def exec (instr : Instr) (s : State) : Host.Outcome State Fault Refusal :=
  match instr with
  | .tickEdge temp => Sys2Proof.Machine.rowTickEdge temp s
  | .leaseExpiry => Sys2Proof.Machine.rowLeaseExpiry s
  | .shaperRefill => Sys2Proof.Machine.rowShaperRefill s
  | .learnCommit => Sys2Proof.Machine.rowLearnCommit s
  | .ageingStep => Sys2Proof.Machine.rowAgeingStep s
  | .counterWindowClose => Sys2Proof.Machine.rowCounterWindowClose s
  | .perfBinClose => Sys2Proof.Machine.rowPerfBinClose s
  | .powerDecision met => Sys2Proof.Machine.rowPowerDecision met s
  | .digestExchange => Sys2Proof.Machine.rowDigestExchange s
  | .blotterStep => Sys2Proof.Machine.rowBlotterStep s
  | .tickOverrun item => Sys2Proof.Machine.rowTickOverrun item s
  | .cellFault u => Sys2Proof.Machine.rowCellFault u s
  | .unmappedAccess path write bar addr => Sys2Proof.Machine.rowUnmappedAccess path write bar addr s
  | .unalignedAccess path write bar addr => Sys2Proof.Machine.rowUnalignedAccess path write bar addr s
  | .registerWrite path addr v meet => Sys2Proof.Machine.rowRegisterWrite path addr v meet s
  | .tickCountRead path => Sys2Proof.Machine.rowTickCountRead path s
  | .ringEnable n => Sys2Proof.Machine.rowRingEnable n s
  | .ringDisable n => Sys2Proof.Machine.rowRingDisable n s
  | .doorbell n prod => Sys2Proof.Machine.rowDoorbell n prod s
  | .commandDispatch desc data => Sys2Proof.Machine.rowCommandDispatch desc data s
  | .replyPost desc => Sys2Proof.Machine.rowReplyPost desc s
  | .hostDelivery desc => Sys2Proof.Machine.rowHostDelivery desc s
  | .evtPop v same => Sys2Proof.Machine.rowEvtPop v same s
  | .errPop v same => Sys2Proof.Machine.rowErrPop v same s
  | .spiStatus => Sys2Proof.Machine.rowSpiStatus s
  | .spiRead addr n => Sys2Proof.Machine.rowSpiRead addr n s
  | .spiWrite addr words => Sys2Proof.Machine.rowSpiWrite addr words s
  | .spiCmdPush data => Sys2Proof.Machine.rowSpiCmdPush data s
  | .spiReplyPull n => Sys2Proof.Machine.rowSpiReplyPull n s
  | .nop q => Sys2Proof.Machine.rowNop q s
  | .authNonce q => Sys2Proof.Machine.rowAuthNonce q s
  | .nonceExpiry => Sys2Proof.Machine.rowNonceExpiry s
  | .outputsEnable q => Sys2Proof.Machine.rowOutputsEnable q s
  | .regionReset q => Sys2Proof.Machine.rowRegionReset q s
  | .regionResetComplete r => Sys2Proof.Machine.rowRegionResetComplete r s
  | .cancel q => Sys2Proof.Machine.rowCancel q s
  | .txTuneLock i => Sys2Proof.Machine.rowTxTuneLock i s
  | .rxTuneLock i => Sys2Proof.Machine.rowRxTuneLock i s
  | .laserLockLoss i => Sys2Proof.Machine.rowLaserLockLoss i s
  | .lineModeDwellExpiry i => Sys2Proof.Machine.rowLineModeDwellExpiry i s
  | .scanDwellExpiry i => Sys2Proof.Machine.rowScanDwellExpiry i s
  | .instConfig q => Sys2Proof.Machine.rowInstConfig q s
  | .instStart q => Sys2Proof.Machine.rowInstStart q s
  | .instStop q => Sys2Proof.Machine.rowInstStop q s
  | .instQuery q => Sys2Proof.Machine.rowInstQuery q s
  | .setRegistrationId q => Sys2Proof.Machine.rowSetRegistrationId q s
  | .burstProfile i m index psbu fec fits => Sys2Proof.Machine.rowBurstProfile i m index psbu fec fits s
  | .assignOnuId i m vendor vssn onuId => Sys2Proof.Machine.rowAssignOnuId i m vendor vssn onuId s
  | .rangingTime i m eqd relative => Sys2Proof.Machine.rowRangingTime i m eqd relative s
  | .deactivateOnuId i m => Sys2Proof.Machine.rowDeactivateOnuId i m s
  | .disableSerialNumber i m vendor vssn enable => Sys2Proof.Machine.rowDisableSerialNumber i m vendor vssn enable s
  | .channelProfile i m profile raw => Sys2Proof.Machine.rowChannelProfile i m profile raw s
  | .tuningControl i m req => Sys2Proof.Machine.rowTuningControl i m req s
  | .tuningExecute i => Sys2Proof.Machine.rowTuningExecute i s
  | .tuningTargetPloam i m => Sys2Proof.Machine.rowTuningTargetPloam i m s
  | .adjustTxWavelength i m halfGhz => Sys2Proof.Machine.rowAdjustTxWavelength i m halfGhz s
  | .protectionControl i m pair raw => Sys2Proof.Machine.rowProtectionControl i m pair raw s
  | .requestRegistration i m => Sys2Proof.Machine.rowRequestRegistration i m s
  | .assignAllocId i m allocId assign => Sys2Proof.Machine.rowAssignAllocId i m allocId assign s
  | .keyControl i m index => Sys2Proof.Machine.rowKeyControl i m index s
  | .sleepAllow i m on => Sys2Proof.Machine.rowSleepAllow i m on s
  | .changePowerLevel i m up => Sys2Proof.Machine.rowChangePowerLevel i m up s
  | .powerConsumptionInquire i m => Sys2Proof.Machine.rowPowerConsumptionInquire i m s
  | .ploamRx i m raw => Sys2Proof.Machine.rowPloamRx i m raw s
  | .to1Expiry i => Sys2Proof.Machine.rowTo1Expiry i s
  | .to2Expiry i => Sys2Proof.Machine.rowTo2Expiry i s
  | .to3To4Expiry i => Sys2Proof.Machine.rowTo3To4Expiry i s
  | .to5Expiry i => Sys2Proof.Machine.rowTo5Expiry i s
  | .ligStart q => Sys2Proof.Machine.rowLigStart q s
  | .ligProposeTimeout => Sys2Proof.Machine.rowLigProposeTimeout s
  | .ligAccept i m token mask startSfc portFirst portCount => Sys2Proof.Machine.rowLigAccept i m token mask startSfc portFirst portCount s
  | .ligGroupActivate => Sys2Proof.Machine.rowLigGroupActivate s
  | .ligReject i m token reason => Sys2Proof.Machine.rowLigReject i m token reason s
  | .ligRelease i m token reason => Sys2Proof.Machine.rowLigRelease i m token reason s
  | .ligMemberRejoin i => Sys2Proof.Machine.rowLigMemberRejoin i s
  | .ligStop q => Sys2Proof.Machine.rowLigStop q s
  | .ligReleaseAck i m => Sys2Proof.Machine.rowLigReleaseAck i m s
  | .ligStopTimeout => Sys2Proof.Machine.rowLigStopTimeout s
  | .dsPhyFrame i psync sfc here => Sys2Proof.Machine.rowDsPhyFrame i psync sfc here s
  | .dsCodeword i corrected bits content => Sys2Proof.Machine.rowDsCodeword i corrected bits content s
  | .dsSignalWindowEnd i => Sys2Proof.Machine.rowDsSignalWindowEnd i s
  | .xgemFrame i hec portId keyIndex lf data fecLost => Sys2Proof.Machine.rowXgemFrame i hec portId keyIndex lf data fecLost s
  | .ligFragmentArrival i portId hdr data => Sys2Proof.Machine.rowLigFragmentArrival i portId hdr data s
  | .ligGapClose => Sys2Proof.Machine.rowLigGapClose s
  | .dsSfcLoRead path i => Sys2Proof.Machine.rowDsSfcLoRead path i s
  | .omciTx q => Sys2Proof.Machine.rowOmciTx q s
  | .ploamTx q => Sys2Proof.Machine.rowPloamTx q s
  | .dsPortBind q => Sys2Proof.Machine.rowDsPortBind q s
  | .dsPortUnbind q => Sys2Proof.Machine.rowDsPortUnbind q s
  | .dsPortQuery q => Sys2Proof.Machine.rowDsPortQuery q s
  | .grantIntake i g => Sys2Proof.Machine.rowGrantIntake i g s
  | .pullIssue i ctx => Sys2Proof.Machine.rowPullIssue i ctx s
  | .burstPreparation i => Sys2Proof.Machine.rowBurstPreparation i s
  | .burstEnable i => Sys2Proof.Machine.rowBurstEnable i s
  | .burstLaunch i => Sys2Proof.Machine.rowBurstLaunch i s
  | .pullFeedDeadline i => Sys2Proof.Machine.rowPullFeedDeadline i s
  | .burstEnd i => Sys2Proof.Machine.rowBurstEnd i s
  | .allocSlotRelease ctx => Sys2Proof.Machine.rowAllocSlotRelease ctx s
  | .allocConfig q => Sys2Proof.Machine.rowAllocConfig q s
  | .allocQuery q => Sys2Proof.Machine.rowAllocQuery q s
  | .usNextTickRead path i => Sys2Proof.Machine.rowUsNextTickRead path i s
  | .tableLock q => Sys2Proof.Machine.rowTableLock q s
  | .tableRenew q => Sys2Proof.Machine.rowTableRenew q s
  | .tableUnlock q => Sys2Proof.Machine.rowTableUnlock q s
  | .search q => Sys2Proof.Machine.rowSearch q s
  | .next q => Sys2Proof.Machine.rowNext q s
  | .flushByPort q => Sys2Proof.Machine.rowFlushByPort q s
  | .tableAudit q => Sys2Proof.Machine.rowTableAudit q s
  | .learnConfig q => Sys2Proof.Machine.rowLearnConfig q s
  | .ageConfig q => Sys2Proof.Machine.rowAgeConfig q s
  | .tblLeaseKill path v => Sys2Proof.Machine.rowTblLeaseKill path v s
  | .tableWindowWrite path addr v => Sys2Proof.Machine.rowTableWindowWrite path addr v s
  | .tableWindowRead path addr => Sys2Proof.Machine.rowTableWindowRead path addr s
  | .flowContextStage path addr v => Sys2Proof.Machine.rowFlowContextStage path addr v s
  | .flowContextCommit path addr v => Sys2Proof.Machine.rowFlowContextCommit path addr v s
  | .frameDispatch => Sys2Proof.Machine.rowFrameDispatch s
  | .frameVerdict => Sys2Proof.Machine.rowFrameVerdict s
  | .recirculateDispatch => Sys2Proof.Machine.rowRecirculateDispatch s
  | .reorderRelease port => Sys2Proof.Machine.rowReorderRelease port s
  | .parserEngineFault e => Sys2Proof.Machine.rowParserEngineFault e s
  | .clsBuildComplete => Sys2Proof.Machine.rowClsBuildComplete s
  | .clsDrainComplete => Sys2Proof.Machine.rowClsDrainComplete s
  | .clsConfig q => Sys2Proof.Machine.rowClsConfig q s
  | .clsBuild q rules => Sys2Proof.Machine.rowClsBuild q rules s
  | .clsSwap q => Sys2Proof.Machine.rowClsSwap q s
  | .clsProbe q => Sys2Proof.Machine.rowClsProbe q s
  | .egressPick port fill => Sys2Proof.Machine.rowEgressPick port fill s
  | .shaperWheelSlot n => Sys2Proof.Machine.rowShaperWheelSlot n s
  | .gateEntryBoundary p => Sys2Proof.Machine.rowGateEntryBoundary p s
  | .gateListStart p => Sys2Proof.Machine.rowGateListStart p s
  | .qBytesRead path => Sys2Proof.Machine.rowQBytesRead path s
  | .queueConfig q => Sys2Proof.Machine.rowQueueConfig q s
  | .queueQuery q => Sys2Proof.Machine.rowQueueQuery q s
  | .shaperConfig q => Sys2Proof.Machine.rowShaperConfig q s
  | .shaperQuery q => Sys2Proof.Machine.rowShaperQuery q s
  | .policerProfile q => Sys2Proof.Machine.rowPolicerProfile q s
  | .gateList q => Sys2Proof.Machine.rowGateList q s
  | .laneSignalDetect n => Sys2Proof.Machine.rowLaneSignalDetect n s
  | .laneSignalLoss n => Sys2Proof.Machine.rowLaneSignalLoss n s
  | .laneBlockReceived n symbols => Sys2Proof.Machine.rowLaneBlockReceived n symbols s
  | .laneTrainingMarker n => Sys2Proof.Machine.rowLaneTrainingMarker n s
  | .laneIdleExitTimeout n => Sys2Proof.Machine.rowLaneIdleExitTimeout n s
  | .laneCellFault n => Sys2Proof.Machine.rowLaneCellFault n s
  | .laneHdrErrRead path n same => Sys2Proof.Machine.rowLaneHdrErrRead path n same s
  | .macFrameReceived h data codeErr => Sys2Proof.Machine.rowMacFrameReceived h data codeErr s
  | .macTxUnderrun h => Sys2Proof.Machine.rowMacTxUnderrun h s
  | .macLinkChange h up => Sys2Proof.Machine.rowMacLinkChange h up s
  | .laneTableLoad q => Sys2Proof.Machine.rowLaneTableLoad q s
  | .laneConfig q => Sys2Proof.Machine.rowLaneConfig q s
  | .laneQuery q => Sys2Proof.Machine.rowLaneQuery q s
  | .laneIdle q => Sys2Proof.Machine.rowLaneIdle q s
  | .macConfig q => Sys2Proof.Machine.rowMacConfig q s
  | .macQuery q => Sys2Proof.Machine.rowMacQuery q s
  | .mapiynFrameRx lane f field cut => Sys2Proof.Machine.rowMapiynFrameRx lane f field cut s
  | .helloTimer lane => Sys2Proof.Machine.rowHelloTimer lane s
  | .helloRx lane f => Sys2Proof.Machine.rowHelloRx lane f s
  | .rangingExchange w => Sys2Proof.Machine.rowRangingExchange w s
  | .rangeReqRx lane seq => Sys2Proof.Machine.rowRangeReqRx lane seq s
  | .rangeRspRx lane seq turn t4Ps => Sys2Proof.Machine.rowRangeRspRx lane seq turn t4Ps s
  | .rangeRspTimeout w => Sys2Proof.Machine.rowRangeRspTimeout w s
  | .rangingBackoffExpiry w => Sys2Proof.Machine.rowRangingBackoffExpiry w s
  | .alignRx lane delay ack => Sys2Proof.Machine.rowAlignRx lane delay ack s
  | .tickBlockRx lane tick offset holdover => Sys2Proof.Machine.rowTickBlockRx lane tick offset holdover s
  | .timeNRx lane timeS tag ns frac => Sys2Proof.Machine.rowTimeNRx lane timeS tag ns frac s
  | .mapRx w ctx bytes tag => Sys2Proof.Machine.rowMapRx w ctx bytes tag s
  | .mapReport ctx => Sys2Proof.Machine.rowMapReport ctx s
  | .pullRx tag atNs ctx gid budget => Sys2Proof.Machine.rowPullRx tag atNs ctx gid budget s
  | .pullServe gid => Sys2Proof.Machine.rowPullServe gid s
  | .pullCancelRx gid => Sys2Proof.Machine.rowPullCancelRx gid s
  | .pullDoneRx w gid sent left => Sys2Proof.Machine.rowPullDoneRx w gid sent left s
  | .pullWindowMissed w gid => Sys2Proof.Machine.rowPullWindowMissed w gid s
  | .leaveRx lane reason => Sys2Proof.Machine.rowLeaveRx lane reason s
  | .leaveAckRx lane => Sys2Proof.Machine.rowLeaveAckRx lane s
  | .removalHoldExpiry w => Sys2Proof.Machine.rowRemovalHoldExpiry w s
  | .workerCmdTimeout w seq => Sys2Proof.Machine.rowWorkerCmdTimeout w seq s
  | .workerConfig q => Sys2Proof.Machine.rowWorkerConfig q s
  | .workerQuery q => Sys2Proof.Machine.rowWorkerQuery q s
  | .workerRecover q => Sys2Proof.Machine.rowWorkerRecover q s
  | .workerRerange q => Sys2Proof.Machine.rowWorkerRerange q s
  | .workerRelease q => Sys2Proof.Machine.rowWorkerRelease q s
  | .workerCmd q => Sys2Proof.Machine.rowWorkerCmd q s
  | .workerImage q image => Sys2Proof.Machine.rowWorkerImage q image s
  | .tribFramePattern t samples => Sys2Proof.Machine.rowTribFramePattern t samples s
  | .tribStmFrame t f => Sys2Proof.Machine.rowTribStmFrame t f s
  | .tribLofTimer t => Sys2Proof.Machine.rowTribLofTimer t s
  | .cesPacketEmit c => Sys2Proof.Machine.rowCesPacketEmit c s
  | .cesPacketRx t => Sys2Proof.Machine.rowCesPacketRx t s
  | .cesPlayoutDue c => Sys2Proof.Machine.rowCesPlayoutDue c s
  | .mspWtrExpiry k => Sys2Proof.Machine.rowMspWtrExpiry k s
  | .pmSecond => Sys2Proof.Machine.rowPmSecond s
  | .tribPathStatusRead path => Sys2Proof.Machine.rowTribPathStatusRead path s
  | .tribPortConfig q => Sys2Proof.Machine.rowTribPortConfig q s
  | .tribPathConfig q => Sys2Proof.Machine.rowTribPathConfig q s
  | .vcatConfig q => Sys2Proof.Machine.rowVcatConfig q s
  | .mspConfig q => Sys2Proof.Machine.rowMspConfig q s
  | .mspCommand q => Sys2Proof.Machine.rowMspCommand q s
  | .pmRead q => Sys2Proof.Machine.rowPmRead q s
  | .comparatorFire o => Sys2Proof.Machine.rowComparatorFire o s
  | .outputPulseEnd o => Sys2Proof.Machine.rowOutputPulseEnd o s
  | .ppsOutSecond => Sys2Proof.Machine.rowPpsOutSecond s
  | .captureEdge k rising => Sys2Proof.Machine.rowCaptureEdge k rising s
  | .refclkLoss => Sys2Proof.Machine.rowRefclkLoss s
  | .refclkInValid => Sys2Proof.Machine.rowRefclkInValid s
  | .tb0CorrectionEnd => Sys2Proof.Machine.rowTb0CorrectionEnd s
  | .servoHoldTimeout n => Sys2Proof.Machine.rowServoHoldTimeout n s
  | .ponTodSample i => Sys2Proof.Machine.rowPonTodSample i s
  | .tbNsRead path n => Sys2Proof.Machine.rowTbNsRead path n s
  | .timeConfig q => Sys2Proof.Machine.rowTimeConfig q s
  | .timeSet q => Sys2Proof.Machine.rowTimeSet q s
  | .servoConfig q => Sys2Proof.Machine.rowServoConfig q s
  | .servoSample q => Sys2Proof.Machine.rowServoSample q s
  | .ponTod q => Sys2Proof.Machine.rowPonTod q s
  | .outputConfig q => Sys2Proof.Machine.rowOutputConfig q s
  | .captureConfig q => Sys2Proof.Machine.rowCaptureConfig q s
  | .captureRead q => Sys2Proof.Machine.rowCaptureRead q s
  | .ptpConfig q => Sys2Proof.Machine.rowPtpConfig q s
  | .ptpTx q => Sys2Proof.Machine.rowPtpTx q s
  | .ptpRxRead q => Sys2Proof.Machine.rowPtpRxRead q s
  | .keyDataWrite path n v => Sys2Proof.Machine.rowKeyDataWrite path n v s
  | .keyCommit path => Sys2Proof.Machine.rowKeyCommit path s
  | .keyZeroise path => Sys2Proof.Machine.rowKeyZeroise path s
  | .keyAbort path => Sys2Proof.Machine.rowKeyAbort path s
  | .keyStagingTimeout => Sys2Proof.Machine.rowKeyStagingTimeout s
  | .cipherEngineFault e => Sys2Proof.Machine.rowCipherEngineFault e s
  | .cipherConfig q => Sys2Proof.Machine.rowCipherConfig q s
  | .ponKeyBind q => Sys2Proof.Machine.rowPonKeyBind q s
  | .usEncrypt q => Sys2Proof.Machine.rowUsEncrypt q s
  | .linkKeyBind q => Sys2Proof.Machine.rowLinkKeyBind q s
  | .phaseSelect q => Sys2Proof.Machine.rowPhaseSelect q s
  | .keyQuery q => Sys2Proof.Machine.rowKeyQuery q s
  | .tamper cause => Sys2Proof.Machine.rowTamper cause s
  | .memError group word correctable => Sys2Proof.Machine.rowMemError group word correctable s
  | .memEccRead path same => Sys2Proof.Machine.rowMemEccRead path same s
  | .scratchStatusRead path same => Sys2Proof.Machine.rowScratchStatusRead path same s
  | .scratchPortAccess a b => Sys2Proof.Machine.rowScratchPortAccess a b s
  | .seqLockRevoke => Sys2Proof.Machine.rowSeqLockRevoke s
  | .blotterBorrow g => Sys2Proof.Machine.rowBlotterBorrow g s
  | .blotterTestEnd g fail => Sys2Proof.Machine.rowBlotterTestEnd g fail s
  | .blotterRestoreEnd g => Sys2Proof.Machine.rowBlotterRestoreEnd g s
  | .blotterSaveTimeout g => Sys2Proof.Machine.rowBlotterSaveTimeout g s
  | .txnGrant => Sys2Proof.Machine.rowTxnGrant s
  | .txnComplete port => Sys2Proof.Machine.rowTxnComplete port s
  | .txnLimitRevoke port => Sys2Proof.Machine.rowTxnLimitRevoke port s
  | .waitTickRevoke => Sys2Proof.Machine.rowWaitTickRevoke s
  | .txnFreezeExpiry => Sys2Proof.Machine.rowTxnFreezeExpiry s
  | .blotterConfig q => Sys2Proof.Machine.rowBlotterConfig q s
  | .blotterQuery q => Sys2Proof.Machine.rowBlotterQuery q s
  | .txnFreeze q => Sys2Proof.Machine.rowTxnFreeze q s
  | .scratchOp q => Sys2Proof.Machine.rowScratchOp q s
  | .mDigestRx half tag word => Sys2Proof.Machine.rowMDigestRx half tag word s
  | .mLaunchRx i seq launched => Sys2Proof.Machine.rowMLaunchRx i seq launched s
  | .mLoanReqRx i tag ns len id => Sys2Proof.Machine.rowMLoanReqRx i tag ns len id s
  | .mLoanAckRx id granted => Sys2Proof.Machine.rowMLoanAckRx id granted s
  | .loanActRelease => Sys2Proof.Machine.rowLoanActRelease s
  | .loanActClaim => Sys2Proof.Machine.rowLoanActClaim s
  | .mHealthRx half sf o5 state => Sys2Proof.Machine.rowMHealthRx half sf o5 state s
  | .mSwitchRx tag ns rtag rns cause => Sys2Proof.Machine.rowMSwitchRx tag ns rtag rns cause s
  | .switchoverAtSwitch eject => Sys2Proof.Machine.rowSwitchoverAtSwitch eject s
  | .partnerGone met eject => Sys2Proof.Machine.rowPartnerGone met eject s
  | .actInChange asserted => Sys2Proof.Machine.rowActInChange asserted s
  | .actOutClaim => Sys2Proof.Machine.rowActOutClaim s
  | .mirrorReplicatedRx f field r => Sys2Proof.Machine.rowMirrorReplicatedRx f field r s
  | .mirrorBulkCopyRx f field group addr bytes => Sys2Proof.Machine.rowMirrorBulkCopyRx f field group addr bytes s
  | .mirrorScratchWriteRx f field addr bytes => Sys2Proof.Machine.rowMirrorScratchWriteRx f field addr bytes s
  | .mirrorKeyTransferRx f field slot key aes256 => Sys2Proof.Machine.rowMirrorKeyTransferRx f field slot key aes256 s
  | .resyncPassEnd left => Sys2Proof.Machine.rowResyncPassEnd left s
  | .mirrorLinkLoss => Sys2Proof.Machine.rowMirrorLinkLoss s
  | .standbyHealthTest lanesOk lasersOk => Sys2Proof.Machine.rowStandbyHealthTest lanesOk lasersOk s
  | .pairConfig q => Sys2Proof.Machine.rowPairConfig q s
  | .pairSwitch q => Sys2Proof.Machine.rowPairSwitch q s
  | .pairResync q => Sys2Proof.Machine.rowPairResync q s
  | .pairQuery q => Sys2Proof.Machine.rowPairQuery q s
  | .sleepEntryStart => Sys2Proof.Machine.rowSleepEntryStart s
  | .sleepAbortPoint n => Sys2Proof.Machine.rowSleepAbortPoint n s
  | .sleepIndicationTimeout => Sys2Proof.Machine.rowSleepIndicationTimeout s
  | .sleepSampleStart => Sys2Proof.Machine.rowSleepSampleStart s
  | .sleepSampleEnd => Sys2Proof.Machine.rowSleepSampleEnd s
  | .wakeEvent cause => Sys2Proof.Machine.rowWakeEvent cause s
  | .wakeComplete => Sys2Proof.Machine.rowWakeComplete s
  | .pwrWake path v => Sys2Proof.Machine.rowPwrWake path v s
  | .domainOffGrantTimeout d => Sys2Proof.Machine.rowDomainOffGrantTimeout d s
  | .domainPowerUpComplete d => Sys2Proof.Machine.rowDomainPowerUpComplete d s
  | .sleepConfig q => Sys2Proof.Machine.rowSleepConfig q s
  | .domainPower q => Sys2Proof.Machine.rowDomainPower q s
  | .clockSwitch q => Sys2Proof.Machine.rowClockSwitch q s
  | .padRelease q => Sys2Proof.Machine.rowPadRelease q s
  | .powerQuery q => Sys2Proof.Machine.rowPowerQuery q s
  | .lcAdvance q => Sys2Proof.Machine.rowLcAdvance q s
  | .lcFuseVerified ok => Sys2Proof.Machine.rowLcFuseVerified ok s
  | .bistRun q => Sys2Proof.Machine.rowBistRun q s
  | .bistComplete sig => Sys2Proof.Machine.rowBistComplete sig s
  | .trstAssert => Sys2Proof.Machine.rowTrstAssert s
  | .jtagInstructionUpdate code => Sys2Proof.Machine.rowJtagInstructionUpdate code s
  | .counterRead path k => Sys2Proof.Machine.rowCounterRead path k s
  | .bwBytesLoRead path p => Sys2Proof.Machine.rowBwBytesLoRead path p s
  | .instFlapRead path i same => Sys2Proof.Machine.rowInstFlapRead path i same s
  | .counterConfig q => Sys2Proof.Machine.rowCounterConfig q s
  | .counterChain q => Sys2Proof.Machine.rowCounterChain q s
  | .counterClear q same => Sys2Proof.Machine.rowCounterClear q same s
  | .snapshot q => Sys2Proof.Machine.rowSnapshot q s
  | .bwConfig q => Sys2Proof.Machine.rowBwConfig q s
  | .fatalCondition cause region => Sys2Proof.Machine.rowFatalCondition cause region s
  | .fatalChipReset => Sys2Proof.Machine.rowFatalChipReset s
  | .coldReset straps => Sys2Proof.Machine.rowColdReset straps s
  | .warmReset => Sys2Proof.Machine.rowWarmReset s
  | .perstAssert => Sys2Proof.Machine.rowPerstAssert s
  | .bootGo path v => Sys2Proof.Machine.rowBootGo path v s
  | .imageChunkRx kind f last field => Sys2Proof.Machine.rowImageChunkRx kind f last field s
  | .imageDelivered kind met image => Sys2Proof.Machine.rowImageDelivered kind met image s
  | .commandReady => Sys2Proof.Machine.rowCommandReady s
  | .hotswapClose => Sys2Proof.Machine.rowHotswapClose s
  | .hotswapTrip cause => Sys2Proof.Machine.rowHotswapTrip cause s
  | .ejectRecognised => Sys2Proof.Machine.rowEjectRecognised s
  | .quiesceStart => Sys2Proof.Machine.rowQuiesceStart s
  | .ejectEnd => Sys2Proof.Machine.rowEjectEnd s
  | .keyCommitComplete => Sys2Proof.Machine.rowKeyCommitComplete s
  | .workerImageTimeout w => Sys2Proof.Machine.rowWorkerImageTimeout w s
  | .perstDeassert => Sys2Proof.Machine.rowPerstDeassert s
  | .resetDeassert straps => Sys2Proof.Machine.rowResetDeassert straps s
  | .functionLevelReset => Sys2Proof.Machine.rowFunctionLevelReset s

end Sys2Proof.Machine
end

