-- ==== Sys2Proof/Machine/Step.lean ====
section
/-!
DEFINITION. One step of the block: the command at the front of the queue runs on everything but the queue; on an empty queue one
period of the 0.8 ns clock goes by (log 3).
-/

namespace Sys2Proof.Machine

/-- The core clock's period in ps (the 0.8 ns clock of 08 R218). -/
def corePs : Nat := 800

/-- The part idles for one core clock. -/
def idle (s : State) : State := { s with clk := { s.clk with nowPs := s.clk.nowPs + corePs } }

/-- One step. -/
def step (s : State) : Host.Outcome State Fault Refusal :=
  match s.pending with
  | [] => .next (idle s)
  | c :: rest => exec c { s with pending := rest }

/-- Put the command that a table word spells at the front of the queue; no word spells one, for the table gives no row bits. -/
def State.withFetchWord (s : State) (nbits w : Nat) : State :=
  match decodeTableWord nbits w with
  | some c => { s with pending := c :: s.pending }
  | none => s

end Sys2Proof.Machine
end

