-- ==== Sys2Proof/Safety.lean ====
section
/-!
DEFINITION. The terms in which statements speak of runs: a part that is on, a command that runs alone, its answer, and the invariants
of a part that is off.
-/

namespace Sys2Proof.Machine

/-- The part has power and RESET# is not asserted (19 R421, 20 R439). -/
structure On (s : State) : Prop where
  powered : s.hot.powered = true
  released : s.boot.inReset = false

/-- Only the books have changed from s to t: outputs, events, counters, what their clock notes of them, the link to the manager with the
frames that quiesce keeps for it, commands and the mailbox; every other register, queue, table and memory of t is as in s. -/
def Books (s t : State) : Prop :=
  t = { s with
    out := t.out, evt := t.evt, cnt := t.cnt, stamps := t.stamps, notes := t.notes, role := t.role, cmd := t.cmd, spi := t.spi
    hot := { s.hot with held := t.hot.held } }

/-- A row answers a next state of which P holds. -/
def Completes (i : Instr) (s : State) (P : State → Prop) : Prop := ∃ t, exec i s = .next t ∧ P t

/-- A command from a ring, dispatched with no other command executing, whose row comes next: it is on time, nothing of it has been
restarted, its replies are wanted (02 R46–R49). -/
structure Runs (op : Nat) (q : CmdReq) (c : Cmd) (s : State) : Prop where
  on : On s
  calm : s.fatal.asserted = false
  alone : s.cmd.executing = [c]
  isOp : c.op = op
  isReq : c.req = q
  fresh : c.started = false
  ontime : c.late = false
  whole : c.restarted = false
  heard : c.mute = false
  ring : ∃ n, q.src = .ring n

/-- The command has its one final reply, and no command is executing any more (02 R49, Table 2.7). -/
structure Answers (c : Cmd) (st : Status) (detail : Nat) (payload : Bytes) (s t : State) : Prop where
  ended : t.cmd.executing = []
  reply : t.cmd.waiting = s.cmd.waiting ++
    [{ op := c.op, tag := c.req.tag, status := st, detail := 256 * detail, tick := s.clk.tick, payload, src := c.req.src }]

/-- A part without power, or held in reset: no firmware, no command, no ring, no instance and no pair at work (19 R415, R416; 20 R439). -/
structure Dark (s : State) : Prop where
  quill : s.dev.quill = 0
  commands : s.cmd.executing = [] ∧ s.cmd.pendingSet = []
  instances : s.insts = []
  rings : ∀ n, (s.ring n).enable = false
  pair : s.pair.enable = false ∧ s.pair.actOut = false
  leases : s.tbl.leases = []
  grants : s.mem.grants = []

/-- The invariant of the supply: whenever the part is off, it is dark. -/
def DarkWhenOff (s : State) : Prop := ¬ On s → Dark s

/-- A received PLOAM message that instance i acts on while the part is awake: its sync machine is in SYNC, the PHY frame's PLOAM
partition and the message are whole, and the message is addressed to the instance or to all, with its integrity check holding (03 R74,
R76, 04 Table 4.3). -/
structure Heard (i : Nat) (m : PloamRx) (s : State) : Prop where
  on : On s
  awake : s.pwr.state = .awake
  synced : (s.inst i).sync.state = 2
  whole : (s.inst i).sync.frameLost = false
  kept : m.fecLost = false
  addressed : m.onuId = 0x3FF ∨ (s.inst i).onuId = some m.onuId
  intact : m.micOk = true

/-- The part is on and not asleep (16 R379). -/
structure Awake (s : State) : Prop where
  on : On s
  awake : asleep s = false

/-- The work of an item of Table 1.8 is due: it has not been done in this tick, its deadline has not passed, none is carried over, and
no item before it waits on the same objects (01 R30, R33, R34). -/
structure Due (k : Nat) (s : State) : Prop where
  awake : Awake s
  carried : carriedTick k s = none
  undone : s.clk.itemsDone.contains k = false
  inTime : s.clk.nowPs ≤ strokeEnd (itemDeadline k) s
  free : itemWaits k s = false

/-- The same state at the item's start point or later, with the item noted as done in this tick (01 R29). -/
def worked (k : Nat) (s : State) : State :=
  { s with clk := { s.clk with itemsDone := k :: s.clk.itemsDone, nowPs := max s.clk.nowPs (strokeEnd (itemStart k) s) } }

/-- An access path reaches the registers of a part that is on and not asleep (19 Table 19.4, 20 Table 20.5). -/
structure Reaches (p : Path) (s : State) : Prop where
  awake : Awake s
  up : pathUp p s = true

/-- The pair is off and no block is isolated: a fault stays where it is (01 Table 1.3, 15 R368). -/
structure Plain (s : State) : Prop where
  pair : s.pair.enable = false
  blocks : s.dev.isolated = 0

/-- A command from a ring that has begun, with no other command executing, and that a later row is to complete (02 R49). -/
structure Begun (op : Nat) (c : Cmd) (s : State) : Prop where
  on : On s
  alone : s.cmd.executing = [c]
  isOp : c.op = op
  started : c.started = true
  ontime : c.late = false
  whole : c.restarted = false
  heard : c.mute = false
  ring : ∃ n, c.req.src = .ring n

/-- The command that runs alone has begun and goes on. -/
def GoesOn (c : Cmd) (t : State) : Prop := t.cmd.executing = [{ c with started := true }]

/-- The rows that come from outside the part: resets, the hot-swap switch, PERST# and ejection. A part that is off takes these
alone (19 R415, R417; 20 R438–R443). -/
def fromOutside : Instr → Bool
  | .coldReset _ | .warmReset | .resetDeassert _ | .perstAssert | .perstDeassert | .hotswapClose | .hotswapTrip _
  | .ejectRecognised | .quiesceStart | .ejectEnd => true
  | _ => false

/-- Rows of the pair and of sleep that neither enter sleep nor take frames of the mirror link (15, 16). -/
def ofPairOrSleep : Instr → Bool
  | .digestExchange | .mDigestRx .. | .mLaunchRx .. | .mLoanReqRx .. | .mLoanAckRx .. | .loanActRelease | .loanActClaim
  | .mHealthRx .. | .mSwitchRx .. | .switchoverAtSwitch _ | .partnerGone .. | .actInChange _ | .actOutClaim | .resyncPassEnd _
  | .mirrorLinkLoss | .standbyHealthTest .. | .sleepEntryStart | .sleepIndicationTimeout | .sleepSampleStart | .sleepSampleEnd
  | .wakeEvent _ | .pwrWake .. => true
  | _ => false

/-- A command of ring 1 is refused by a status: its reply is the last to fall due, no command begins or waits, and beside the books
only the ring and the turn of PCIe's transfers have moved on (02 R46, R48, Table 2.7; 14 R350). -/
structure Refused (op : Nat) (q : CmdReq) (st : Status) (detail : Nat) (s t : State) : Prop where
  none : t.cmd.executing = s.cmd.executing ∧ t.cmd.pendingSet = s.cmd.pendingSet
  reply : t.cmd.waiting = s.cmd.waiting ++
    [{ op, tag := q.tag, status := st, detail := 256 * detail, tick := s.clk.tick, payload := [], src := .ring 1 }]
  books : Books { s with rings := t.rings, mem := { s.mem with order := t.mem.order } } t

end Sys2Proof.Machine
end

