-- ==== Sys2Proof/Certificates/Slice0/Obligations.lean ====
section
/-!
DEFINITION. The statements for the provers: what the rows of the opcode table do, what they leave, where commands are answered, and the
invariants of the queue and of the supply.
-/

open Sys2Proof Sys2Proof.Machine

/-- For every command c and every state whose queue begins with c, step answers what exec answers for c on that state with the rest of
the queue: the rest waits on, in its order, and nothing else of the state is touched. The queue of waiting commands is the model's
own frame for the rows of the opcode table (DESIGN CHOICE, log 1); no rule of the spec is about it. (02 R46, 02 R48) -/
def Obligations.StepRunsTheFrontCommand : Prop :=
  ∀ (c : Instr) (rest : List Instr) (s : State), s.pending = c :: rest → step s = exec c { s with pending := rest }

/-- A step of a state whose queue is empty answers a next state in which the present instant is 800 ps later and everything else is as
before. That idling takes one clock period is the model's own choice (DESIGN CHOICE, log 3); the period is the time clock's of R306.
(08 R218, 12 R306) -/
def Obligations.EmptyQueueIdles : Prop :=
  ∀ s : State, s.pending = [] → step s = .next { s with clk := { s.clk with nowPs := s.clk.nowPs + 800 } }

/-- Right after reset no command waits or executes and nothing has been put out; the low-speed outputs are off, Quill is in the ROM,
TICK_COUNT is 0 in FREE without a tick channel, no instance, table entry, lease, queue, lane or key exists, the counters are 0, the
Blotter runs on every group with INTERVAL 8, the pair is off and without light, the part is awake, no read has latched anything; the
part is dark, and so the supply's invariant holds. Values the spec does not give are the model's (log 7) and are not stated here.
(02 R60, 14 R345, 15 Table 15.6, 16 R372, 18 R412, 01 Table 1.7, 19 R415, 00 R460) -/
def Obligations.ResetStateHolds : Prop :=
  let s := State.reset
  s.pending = [] ∧ s.out = [] ∧ s.cmd.executing = [] ∧ s.cmd.pendingSet = [] ∧ s.cmd.waiting = [] ∧ s.dev.outputs = 0 ∧ s.dev.quill = 0 ∧
  s.clk.tick = 0 ∧ s.clk.state = .free ∧ s.clk.channel = 7 ∧ (∀ i, (s.inst i).st = 0x10) ∧ (∀ n, s.entry n = 0) ∧
  s.tbl.leases = [] ∧ (∀ q, (s.queue q).frames = []) ∧ (∀ n, (s.lane n).state = .down) ∧
  (∀ n, (SMap.get {} s.cipher.slots n).loaded = false) ∧ (∀ k, SMap.get 0 s.cnt.value k = 0) ∧
  s.mem.enabled = 2 ^ 38 - 1 ∧ s.mem.interval = 8 ∧ s.pair.state = 0 ∧ s.pair.actOut = false ∧ s.pwr.state = .awake ∧
  (∀ p : Path, s.latch p = {}) ∧ Dark s ∧ DarkWhenOff s

/-- In every state in which a part without power, or held in reset by RESET#, is dark (no running firmware, no executing or pending
command, no instance, no enabled ring, the pair off and without light, no lease and no transfer grant), every step that answers a
next state leaves that so: no command of any row, executed on a part that is off, lights it up, and every row that takes the supply
away or asserts RESET# leaves it dark. (19 R415, 19 R416, 19 R417, 20 R439, 20 R443) -/
def Obligations.EveryStepKeepsTheDark : Prop :=
  ∀ s t : State, DarkWhenOff s → step s = .next t → DarkWhenOff t

/-- Every row answers a next state in every state. It leaves the queue of waiting commands. Only the rows of the hot-swap switch change
whether the part has power; only those of RESET#, of power-good and of the switch's opening change whether it is held in reset; on a
part without power or in reset every row but those from outside the part changes nothing at all. The queue is the model's own frame
(log 1). (19 R416, 19 R421, 20 R438, 20 R439) -/
def Obligations.RowsKeepQueueAndSupply : Prop :=
  ∀ (i : Instr) (s : State), ∃ t, exec i s = .next t ∧ t.pending = s.pending ∧
    (i ≠ .hotswapClose → (∀ k, i ≠ .hotswapTrip k) → t.hot.powered = s.hot.powered) ∧
    (i ≠ .warmReset → (∀ x, i ≠ .resetDeassert x) → (∀ x, i ≠ .coldReset x) → (∀ k, i ≠ .hotswapTrip k) →
      t.boot.inReset = s.boot.inReset) ∧
    (fromOutside i = false → ¬ On s → t = s)

/-- Quill takes ring 1's command of any opcode. Where the descriptor's LENGTH is not 32 plus the header's, or that exceeds 4,096, the
reply is BAD_LENGTH; else with reserved fields or flags set BAD_PARAM; else for an opcode that no chapter defines BAD_OPCODE; else
for a target that the opcode does not take BAD_TARGET; else in a life-cycle state that does not permit it NOT_PERMITTED_LIFECYCLE;
else where authentication fails AUTH_FAILED; else the status of its length and parameters, or BAD_PARAM for a FORCE that it does not
define; else its lease's status. DETAIL is 0, but for a payload for which the opcode defines one. In each case no command begins or
waits, and beside the books only the ring and the turn of PCIe's transfers have moved on. (02 R48) -/
def Obligations.RefusalsFollowTable2_9 : Prop :=
  ∀ (s u0 u v : State) (desc : Desc) (data d : Bytes) (op : Nat) (q : CmdReq) (ok1 ok2 : Prop) (run : Status → Nat → Prop),
    On s → canDispatch s = true → nextSource s = some 3 → desc.fetched = true → desc.owner = true → s.cmd.waiting.length < 63 →
    d = fit (min desc.length 4128) data → (op, q) = parseCmd (.ring 1) d →
    u0 = consume 1 (emit (.ownerCleared 1 (s.ring 1).cons) s) → u = (newCmd op q u0).2 →
    ok1 = (desc.length = 32 + u16 d 4 ∧ u16 d 4 ≤ 4096) →
    ok2 = (q.reserved = 0 ∧ q.flags.toNat < 16 ∧ (q.atTick = false → q.execTick = 0)) →
    run = (fun st detail => Completes (.commandDispatch desc data) s fun t => Refused op q st detail s t) →
    (¬ ok1 → run .badLength 0) ∧
    (ok1 → ¬ ok2 → run .badParam 0) ∧
    (ok1 → ok2 → specOf op q u0 = none → run .badOpcode 0) ∧
    (∀ sp, ok1 → ok2 → specOf op q u0 = some sp →
      (q.kind ≠ sp.kind ∨ targetCount q.kind ≤ q.index ∨ sp.target q.index = false → run .badTarget 0) ∧
      (q.kind = sp.kind → q.index < targetCount q.kind → sp.target q.index = true →
        (sp.life q u = false → run .notPermitted 0) ∧
        (sp.life q u = true → (authStep sp q u).1 = false → run .authFailed 0) ∧
        (sp.life q u = true → authStep sp q u = (true, v) →
          (∀ st, sp.check q v = some st → run st (if st = .badParam then sp.detail q v else 0)) ∧
          (sp.check q v = none → q.force = true → sp.force = false → run .badParam 0) ∧
          (∀ st, sp.check q v = none → (q.force = true → sp.force = true) → sp.lease q v = some st → run st 0))))

/-- Over any path that reaches the registers of a part that is awake: a read of TICK_COUNT answers the tick and latches TICK_PHASE; a
read of BW_BYTES_LO answers the low word of the port's bytes in the closed window and latches the port's other three words; a read
of DS_SFC_LO answers the low word of the superframe count and latches the high one; a read of US_NEXT_TICK answers the next launch's
tick and latches its ns; a read of TB_NS answers the timebase's ns and latches both words of its seconds; a read of counter k
through its window latches k + 1, for that path alone, and the odd counter of a chained pair reads as latched, zero where nothing
has been latched since reset. Over SPI, in any later state, the second words read as latched. SNAPSHOT of both answers one state's
values. (02 R41, 04 R114, 05 R141, 12 R319, 18 R408) -/
def Obligations.LatchedReadsAreCoherent : Prop :=
  ∀ s : State,
    (∀ p : Path, Reaches p s →
      exec (.tickCountRead p) s = .next (emit (.value p 0x1004 s.clk.tick)
        (s.setLatch p { s.latch p with tickPhase := BitVec.ofNat 32 (tickPhase s) })) ∧
      (∀ (n : Fin 96) (b : BwTotal), b = SMap.get {} s.bw.closed n → exec (.bwBytesLoRead p n) s = .next
        (emit (.value p (0xE1000 + 0x10 * n.val) (BitVec.ofNat 32 b.bytes)) (s.setLatch p { s.latch p with
          bwHi := SMap.set 0 (s.latch p).bwHi n (BitVec.ofNat 32 (min 65535 s.bw.closedTicks * 65536 + b.bytes / 2 ^ 32)),
          bwFrames := SMap.set 0 (s.latch p).bwFrames n (BitVec.ofNat 32 b.frames),
          bwEnd := SMap.set 0 (s.latch p).bwEnd n s.bw.closedAt }))) ∧
      (∀ i : Fin 4, exec (.dsSfcLoRead p i) s = .next (emit (.value p (0x10104 + 0x4000 * i.val) (BitVec.ofNat 32 (s.inst i).sync.sfc))
        (s.setLatch p { s.latch p with
          dsSfcHi := SMap.set 0 (s.latch p).dsSfcHi i (BitVec.ofNat 32 ((s.inst i).sync.sfc / 2 ^ 32)) }))) ∧
      (∀ (i : Fin 4) (ps : Nat), nextLaunch i s = some ps → exec (.usNextTickRead p i) s = .next
        (emit (.value p (0x10208 + 0x4000 * i.val) (tickOf ps s).1)
          (s.setLatch p { s.latch p with usNextNs := SMap.set 0 (s.latch p).usNextNs i (BitVec.ofNat 32 (tickOf ps s).2) }))) ∧
      (∀ n : Fin 8, exec (.tbNsRead p n) s = .next
        (emit (.value p (0x80000 + 0x20 * n.val) (BitVec.ofNat 32 (tbNow n s / nsUnits % 1000000000))) (s.setLatch p { s.latch p with
          tbSecLo := SMap.set 0 (s.latch p).tbSecLo n (BitVec.ofNat 32 (tbNow n s / secUnits)),
          tbSecHi := SMap.set 0 (s.latch p).tbSecHi n
            (BitVec.ofNat 32 (tbNow n s % nsUnits * 65536 + tbNow n s / secUnits / 2 ^ 32)) }))) ∧
      (∀ k : Nat, (counterWindow p s).1 ≤ k → k < (counterWindow p s).1 + (counterWindow p s).2.1 →
        (p = .bar4 → s.dev.ctrl.getLsbD 2 = true) →
        (k % 2 = 0 → Completes (.counterRead p k) s fun t =>
          .value p ((counterWindow p s).2.2 + 4 * (k - (counterWindow p s).1)) (SMap.get 0 s.cnt.value k) ∈ t.out ∧
          SMap.get 0 (t.latch p).cntHigh (k + 1) = SMap.get 0 s.cnt.value (k + 1) ∧ (∀ p', p' ≠ p → t.latch p' = s.latch p') ∧
          t.cnt = s.cnt) ∧
        (k % 2 = 1 → SMap.get false s.cnt.chained (k - 1) = true → exec (.counterRead p k) s = .next
          (emit (.value p ((counterWindow p s).2.2 + 4 * (k - (counterWindow p s).1)) (SMap.get 0 (s.latch p).cntHigh k)) s)))) ∧
    (∀ (p : Path) (k : Nat), SMap.get 0 (State.reset.latch p).cntHigh k = 0) ∧
    (Reaches .spi s →
      exec (.spiRead 0x1008 1) s = .next (emit (.value .spi 0x1008 s.latchSpi.tickPhase) s) ∧
      (∀ n : Fin 96, exec (.spiRead (0xE1004 + 0x10 * n.val) 3) s = .next
        (emit (.value .spi (0xE100C + 0x10 * n.val) (SMap.get 0 s.latchSpi.bwEnd n))
          (emit (.value .spi (0xE1008 + 0x10 * n.val) (SMap.get 0 s.latchSpi.bwFrames n))
            (emit (.value .spi (0xE1004 + 0x10 * n.val) (SMap.get 0 s.latchSpi.bwHi n)) s)))) ∧
      (∀ i : Fin 4,
        exec (.spiRead (0x10108 + 0x4000 * i.val) 1) s = .next
          (emit (.value .spi (0x10108 + 0x4000 * i.val) (SMap.get 0 s.latchSpi.dsSfcHi i)) s) ∧
        exec (.spiRead (0x1020C + 0x4000 * i.val) 1) s = .next
          (emit (.value .spi (0x1020C + 0x4000 * i.val) (SMap.get 0 s.latchSpi.usNextNs i)) s)) ∧
      (∀ n : Fin 8,
        exec (.spiRead (0x80004 + 0x20 * n.val) 2) s = .next
          (emit (.value .spi (0x80008 + 0x20 * n.val) (SMap.get 0 s.latchSpi.tbSecHi n))
            (emit (.value .spi (0x80004 + 0x20 * n.val) (SMap.get 0 s.latchSpi.tbSecLo n)) s)))) ∧
    (∀ (q : CmdReq) (c : Cmd) (k : Nat), k = u32 q.body 0 → u16 q.body 4 = 2 → Runs 0x0E03 q c s → hasTurn 3 [34] s = true →
      Completes (.snapshot q) s fun t => Answers c .ok 0 (le 4 s.clk.tick.toNat ++ le 4 (tickNs s) ++ zeros 8 ++
        le 4 (SMap.get 0 s.cnt.value k).toNat ++ le 4 (SMap.get 0 s.cnt.value (k + 1)).toNat) s t)

/-- Over a path that reaches the registers of a part that is awake, a read of LANE_HDR_ERR answers both counts and clears both, and
PRBS31 bit errors that arrive next are counted from zero; where they arrive in the clock of the read, the read answers the counts
before them and leaves them counted. A read of MEM_ECC answers and clears both fields, and a correction that arrives next makes
CORRECTED 1 while UNCORRECTED stays 0; where it arrives in the clock of the read, the read answers the counts before it and leaves
CORRECTED 1. A read of FLAP_COUNT answers and clears it. A write of BLOTTER_SEL selects the group that BLOTTER_GROUP reports from
then on, as a read over SPI shows; of a PCIe and an SPI write of one clock the SPI write is last. (09 R246, 14 R355) -/
def Obligations.ClearingReadsLoseNothing : Prop :=
  ∀ (p : Path) (s : State), Reaches p s →
    (∀ (n : Fin 40) (old : Out) (x : Lane), x = s.lane n →
      old = .value p (0x50004 + 0x400 * n.val) (BitVec.ofNat 32 (x.prbsErr * 65536 + x.hdrErr)) →
      ∃ t, exec (.laneHdrErrRead p n false) s = .next t ∧
      t = emit old (s.modLane n fun x => { x with hdrErr := 0, prbsErr := 0 }) ∧
      ∀ (m : Fin 36) (l : List (Fin 4)) (errs : Nat), m.val = n.val → x.prbs = true → x.state = .locked → x.loopback ≠ 1 →
        x.eidleAt = none → x.burstEnd = none →
        errs = ((decodeSymbols x.rate (x.settings.getD {}).flags x.rxLast l).1.foldl prbsCheck (0, x.prbsSeen, x.prbsRx)).1 →
        Completes (.laneBlockReceived m l) t (fun u => (u.lane n).prbsErr = min 65535 errs ∧ (u.lane n).hdrErr = 0) ∧
        (rcNow (2 * hdrErrAddr n) s = none → rcNow (2 * hdrErrAddr n + 1) s = none →
          Completes (.laneBlockReceived m l) s fun u => Completes (.laneHdrErrRead p n true) u fun v =>
            old ∈ v.out ∧ (v.lane n).prbsErr = min 65535 errs ∧ (v.lane n).hdrErr = 0)) ∧
    (∀ old : Out, old = .value p 0xA0000 (BitVec.ofNat 32 (s.mem.corrected * 65536 + s.mem.uncorrected)) →
      ∃ t, exec (.memEccRead p false) s = .next t ∧ t = emit old { s with mem := { s.mem with corrected := 0, uncorrected := 0 } } ∧
      ∀ (g : Fin 38) (w : Nat), Plain s → 16 ≤ g.val → domainOn (groupDomain g) s = true →
        Completes (.memError g w true) t (fun u => u.mem.corrected = 1 ∧ u.mem.uncorrected = 0) ∧
        (rcNow (2 * 0xA0000) s = none → rcNow (2 * 0xA0000 + 1) s = none →
          Completes (.memError g w true) s fun u => Completes (.memEccRead p true) u fun v =>
            old ∈ v.out ∧ v.mem.corrected = 1 ∧ v.mem.uncorrected = 0)) ∧
    (∀ i : Fin 4, exec (.instFlapRead p i false) s = .next
      (emit (.value p (0x10010 + 0x4000 * i.val) (BitVec.ofNat 32 (s.inst i).flapCount))
        (s.modInst i fun x => { x with flapCount := 0, flapArmed := true }))) ∧
    (∀ (v : Word) (b : Bool), exec (.registerWrite p 0xA0008 v { before := b }) s = .next { s with mem := { s.mem with sel := v.toNat % 64 } }) ∧
    (∀ (v w : Word) (b : Bool), p = .pcie → s.dev.quill = 3 → exec (.registerWrite p 0xA0008 v { before := b, spi := some w }) s = .next
      { s with mem := { s.mem with sel := w.toNat % 64 } }) ∧
    (p = .spi → exec (.spiRead 0xA000C 1) s = .next (emit (.value .spi 0xA000C (BitVec.ofNat 32 (blotterGroup s.mem.sel s))) s))

/-- A row of the pair's control blocks, of its light, its health and its switchover, or of the entry to sleep up to A0, its samples and
its wake sources leaves everything but the outputs, events, counters, what their clock notes of them, commands and their links with
the frames that quiesce keeps, the pair, the power state, the clock, the instances' schedules and states, the queues with their
contexts and shapers, the lanes' transmitters, and the requests for transfers: tables, leases, images, rings, the memories' contents
and grants, keys, host ports, workers, tributaries, timebases, time outputs, life cycle, fuses, self-test, TAP, boot and hot-plug
state are as before. (15 R359, 15 R364, 15 R367, 15 R368, 15 R369, 16 R376, 16 R380, 16 R382) -/
def Obligations.PairAndSleepRowsFrame : Prop :=
  ∀ (i : Instr) (s t : State), ofPairOrSleep i = true → exec i s = .next t → t = { s with
    out := t.out, evt := t.evt, cnt := t.cnt, role := t.role, cmd := t.cmd, spi := t.spi, pair := t.pair, pwr := t.pwr, clk := t.clk,
    insts := t.insts, allocs := t.allocs, queues := t.queues, shapers := t.shapers, lanes := t.lanes
    stamps := t.stamps, notes := t.notes, hot := { s.hot with held := t.hot.held }, mem := { s.mem with requests := t.mem.requests } }

/-- On a part that is on, TX_TUNE_LOCK with a transmit target and RX_TUNE_LOCK with a receive target set the lock and nothing else;
LASER_LOCK_LOSS of a locked laser clears the lock, darkens the laser and changes nothing else; an instance hunting in O1.1 under
AUTO with a fixed start index changes its line mode after 1,024 ticks, begins a new dwell and leaves everything else; a scanning
instance of one fixed line mode moves its receiver after 64 ticks to the next position of the scan, unlocked, with a new dwell, and
to an index no other instance holds where there is one, and nothing but that instance and the books changes. (03 R68, 03 R69, 03
R71, 03 R78) -/
def Obligations.TuningEventsTakeEffect : Prop :=
  ∀ (i : Fin 4) (s : State), On s →
    ((s.inst i).txGrid ≠ none →
      exec (.txTuneLock i) s = .next (s.modInst i fun x => { x with txLocked := true })) ∧
    ((s.inst i).rxGrid ≠ none →
      exec (.rxTuneLock i) s = .next (s.modInst i fun x => { x with rxLocked := true })) ∧
    ((s.inst i).txLocked = true →
      exec (.laserLockLoss i) s = .next (emit (.laserDark i) (s.modInst i fun x => { x with txLocked := false }))) ∧
    ((s.inst i).st = 0x11 → (s.inst i).sync.state < 2 → (s.inst i).cfg.lineMode = 2 → (s.inst i).cfg.startGrid ≠ none →
      1024 ≤ ticksSince (s.inst i).dwell s →
      exec (.lineModeDwellExpiry i) s = .next (s.modInst i fun x =>
        { x with mode := if x.mode = 1 then 2 else 1, dwell := ownTick s
                 sync := { x.sync with state := 0, misses := 0, kept := none } })) ∧
    ((s.inst i).st = 0x11 → (s.inst i).sync.state < 2 → (s.inst i).cfg.lineMode ≠ 2 → (s.inst i).cfg.startGrid = none →
      64 ≤ ticksSince (s.inst i).dwell s →
      Completes (.scanDwellExpiry i) s fun t =>
        (∃ k, k < 18 ∧ (t.inst i).scan = k ∧ (t.inst i).rxGrid = some (scanOrder.getD k 0) ∧
          ((∃ j, j < 18 ∧ rxHeld i (scanOrder.getD j 0) s = false) → rxHeld i (scanOrder.getD k 0) s = false)) ∧
        (t.inst i).rxLocked = false ∧ (t.inst i).dwell = ownTick s ∧ (t.inst i).st = 0x11 ∧
        (∀ j, j ≠ i.val → t.inst j = s.inst j) ∧ Books { s with insts := t.insts } t)

/-- Run alone, INST_CONFIG in O1.1 held stores line mode, rates and start grid at once and keeps the other fields for the next tick
edge; INST_START from O1.1 held, with no burst scheduled and no other instance tuned in the same clock, leads to O1.1 with the sync
machine hunting, the receiver unlocked or without a wavelength, and a dwell begun, and no other instance changes; INST_STOP of an
instance that is not in O1.1 held, with its laser dark and no host PLOAM waiting, leads to O1.1 held without ONU-ID, EqD, profiles
and wavelengths, with the laser dark; INST_QUERY answers the instance's status, IDs, grid, EqD, configuration and VSSN and changes
nothing; SET_REGISTRATION_ID stores the 36 bytes. Each answers OK; the configuration, the query and the registration ID change
nothing else but the books. (03 R72, 03 R74, 03 R91, 03 R92) -/
def Obligations.InstanceCommandsAnswer : Prop :=
  ∀ (q : CmdReq) (c : Cmd) (s : State),
    (Runs 0x0200 q c s → (s.inst q.index).st = 0x10 → Completes (.instConfig q) s fun t => Answers c .ok 0 [] s t ∧
      Books (s.modInst q.index fun x => { x with
        cfg := { x.cfg with lineMode := (instCfgOf q.body).lineMode, usRates := (instCfgOf q.body).usRates
                            startGrid := (instCfgOf q.body).startGrid }
        cfgNext := some (instCfgOf q.body) }) t) ∧
    (Runs 0x0201 q c s → (s.inst q.index).st = 0x10 → (s.inst q.index).sched = [] →
      (∀ j, j ≠ q.index → (s.inst j).rxClock ≠ clockNo s) → Completes (.instStart q) s fun t => Answers c .ok 0 [] s t ∧
      (t.inst q.index).st = 0x11 ∧ (t.inst q.index).sync.state = 0 ∧
      ((t.inst q.index).rxLocked = false ∨ (t.inst q.index).rxGrid = none) ∧
      (t.inst q.index).usRate = 0 ∧ (t.inst q.index).dwell = ownTick s ∧ (∀ j, j ≠ q.index → t.inst j = s.inst j)) ∧
    (Runs 0x0202 q c s → (s.inst q.index).st ≠ 0x10 → (s.inst q.index).laserOn = false → s.lig.phase = .none →
      (s.inst q.index).upHost = [] → (s.inst q.index).sched = [] → Completes (.instStop q) s fun t => Answers c .ok 0 [] s t ∧
      (t.inst q.index).st = 0x10 ∧ (t.inst q.index).onuId = none ∧ (t.inst q.index).eqd = 0 ∧ (t.inst q.index).profiles = [] ∧
      (t.inst q.index).burst = [] ∧ (t.inst q.index).txGrid = none ∧ (t.inst q.index).txLocked = false ∧
      (t.inst q.index).rxGrid = none ∧ (t.inst q.index).rxLocked = false) ∧
    (Runs 0x0203 q c s → Completes (.instQuery q) s fun t => Answers c .ok 0
        (le 4 (instStatus q.index s) ++ le 4 (instIds q.index s) ++ le 4 (instGrid q.index s) ++ le 4 (s.inst q.index).eqd ++
          (s.inst q.index).cfg.bytes ++ le 4 (vssnOf q.index s)) s t ∧ Books s t) ∧
    (Runs 0x0204 q c s → Completes (.setRegistrationId q) s fun t => Answers c .ok 0 [] s t ∧
      Books (s.modInst q.index fun x => { x with regId := q.body }) t)

/-- When instance i hears the message: a new Burst_Profile is stored under its index; in O2-3 an Assign_ONU-ID with the own serial
number leads to O4 with the ONU-ID stored, slot 0 holding the default Alloc-ID and TO1 running; in O4 an absolute Ranging_Time
within the limit leads to O5.1, and its Acknowledge carries the EqD that takes effect; in O4 Deactivate_ONU-ID leads to O2-3 without
ONU-ID and EqD; in O4 a Disable_Serial_Number for the own serial number leads to O7 without ONU-ID, dark; a Channel_Profile of an
index not held is stored, and a System_Profile's bytes are. (03 R74, 03 R77, 03 R78, 03 R81, 05 R129, 03 Table 3.4) -/
def Obligations.IdentityMessagesTakeEffect : Prop :=
  ∀ (i : Fin 4) (m : PloamRx) (s : State), Heard i m s →
    (∀ (index : Fin 4) (psbu : Nat) (fec fits : Bool),
      SMap.get {} (s.inst i).burst index ≠ { stored := true, valid := fits, fec, psbu } →
      Completes (.burstProfile i m index psbu fec fits) s fun t =>
        SMap.get {} (t.inst i).burst index = { stored := true, valid := fits, fec, psbu }) ∧
    (∀ (vssn : Word) (onuId : BitVec 10), (s.inst i).st = 0x23 → vssn.toNat = vssnOf i s →
      Completes (.assignOnuId i m vendorId vssn onuId) s fun t => (t.inst i).st = 0x40 ∧
        (t.inst i).onuId = some onuId.toNat ∧ (t.inst i).to1 = some (ownTick s) ∧
        (t.alloc (256 * i)).allocId = some onuId.toNat) ∧
    (∀ eqd : Nat, (s.inst i).st = 0x40 → eqd ≤ (s.inst i).cfg.eqdLimit → (s.inst i).flapExit = none →
      Completes (.rangingTime i m eqd false) s fun t => (t.inst i).st = 0x51 ∧ (t.inst i).to1 = none ∧
        (t.inst i).upOwn = (s.inst i).upOwn ++ [{ msg := .acknowledge 0 m.seqno, eqd := some eqd }] ∧
        (∀ j, j ≠ i.val → t.inst j = s.inst j) ∧ Books { s with insts := t.insts, clk := t.clk } t) ∧
    ((s.inst i).st = 0x40 → Completes (.deactivateOnuId i m) s fun t => (t.inst i).st = 0x23 ∧ (t.inst i).onuId = none ∧
        (t.inst i).eqd = 0 ∧ (t.inst i).to1 = none) ∧
    (∀ vssn : Word, (s.inst i).st = 0x40 → vssn.toNat = vssnOf i s → s.lig.phase = .none →
      Completes (.disableSerialNumber i m vendorId vssn false) s fun t => (t.inst i).st = 0x70 ∧ (t.inst i).onuId = none ∧
        (t.inst i).txGrid = none ∧ (t.inst i).txLocked = false) ∧
    (∀ (p : Profile) (raw : Bytes), (∀ e ∈ (s.inst i).profiles, e.profile.index ≠ p.index) →
      Completes (.channelProfile i m (some p) raw) s fun t =>
        ∃ e ∈ (t.inst i).profiles, e.profile = p ∧ e.tick = ownTick s ∧ e.usable = profileUsable (s.inst i) p) ∧
    (∀ raw : Bytes, exec (.channelProfile i m none raw) s = .next (s.modInst i fun x => { x with sysProfile := raw }))

/-- When instance i hears the message: in O5.1 a Tuning_Control to a usable profile whose wavelengths no other instance holds leads to
O5.2 with the request kept, TO5 running and a Tuning_Response; in O9 with the laser locked, a message to the own ONU-ID leads to
O5.1 without request and TO4; an Adjust_Tx_Wavelength whose offset from the grid position, with the adjustment that waits, lies
within 10 GHz waits for the next tick, and nothing else changes, and one beyond is refused by an Acknowledge; in O5.1 a
Protection_Control stores the pair, starts TO5 and leads to O5.2; a Request_Registration of an instance with an ONU-ID queues the
Registration message. TUNING_EXECUTE in O5.2 at the stated superframe leads to O8.1 with TO3 and TO4 running and hunting. (03 R72,
03 R79, 03 Table 3.4, 03 Table 3.5) -/
def Obligations.TuningMessagesTakeEffect : Prop :=
  ∀ (i : Fin 4) (s : State),
    (∀ m : PloamRx, Heard i m s →
      (∀ req : TuneReq, (s.inst i).st = 0x51 → profileUsable (s.inst i) req.profile = true →
        rxHeld i req.profile.dsGrid s = false → txHeld i req.profile.usGrid s = false →
        Completes (.tuningControl i m req) s fun t => (t.inst i).st = 0x52 ∧ (t.inst i).tune = some req ∧
          (t.inst i).to5 = some (ownTick s) ∧ (t.inst i).upOwn = (s.inst i).upOwn ++ [{ msg := .tuningResponse true 0 }] ∧
          (∀ j, j ≠ i.val → t.inst j = s.inst j) ∧ Books { s with insts := t.insts, clk := t.clk } t) ∧
      ((s.inst i).st = 0x90 → (s.inst i).onuId = some m.onuId → (s.inst i).txLocked = true →
        Completes (.tuningTargetPloam i m) s fun t => (t.inst i).st = 0x51 ∧ (t.inst i).to4 = none ∧ (t.inst i).tune = none) ∧
      (∀ h v : Int, v = (s.inst i).fineNext.getD (s.inst i).fine + h →
        (v.natAbs ≤ 20 → exec (.adjustTxWavelength i m h) s = .next (s.modInst i fun x => { x with fineNext := some v })) ∧
        (20 < v.natAbs → Completes (.adjustTxWavelength i m h) s fun t =>
          t.inst i = { s.inst i with upOwn := (s.inst i).upOwn ++ [{ msg := .acknowledge 1 m.seqno }] })) ∧
      (∀ (pair : Nat) (raw : Bytes), (s.inst i).st = 0x51 →
        Completes (.protectionControl i m pair raw) s fun t => (t.inst i).st = 0x52 ∧ (t.inst i).protPair = some pair ∧
          (t.inst i).to5 = some (ownTick s)) ∧
      ((s.inst i).onuId ≠ none →
        exec (.requestRegistration i m) s = .next (s.modInst i fun x =>
          { x with upOwn := x.upOwn ++ [{ msg := .registration (fit 36 x.regId) }] }))) ∧
    (∀ r : TuneReq, On s → (s.inst i).tune = some r → (s.inst i).st = 0x52 → (s.inst i).sync.state = 2 →
      (s.inst i).sync.sfc = r.superframe → s.lig.phase = .none → Completes (.tuningExecute i) s fun t =>
        (t.inst i).st = 0x81 ∧ (t.inst i).to3 = some (ownTick s) ∧ (t.inst i).to4 = some (ownTick s) ∧ (t.inst i).to5 = none ∧
        (t.inst i).sync.state = 0 ∧ (t.inst i).burst = [])

/-- When instance i hears the message: an Alloc-ID not held goes to the lowest free slot that is no reservoir, and a held one is marked
to be freed, but not the default Alloc-ID in slot 0; a Key_Control for a bound slot that is not in use, with KIND 1 loaded, loads a
new AES-128 key there (a free value), keeps the index for the switch-over, and reports it; Sleep_Allow sets the permission;
Change_Power_Level moves the launch power one level within 0 to 2; Power_Consumption_Inquire queues a report whose share is a free
value; a message the device does not handle is queued for the host with the next TAG while its queue holds fewer than 64. (03 R76,
05 R129, 13 R333, 16 R375, 21 R458, 04 R107) -/
def Obligations.ServiceMessagesTakeEffect : Prop :=
  ∀ (i : Fin 4) (m : PloamRx) (s : State), Heard i m s →
    (∀ (id : BitVec 14) (c : Nat), (s.inst i).onuId ≠ none →
      (ctxsOf i).find? (fun c => decide ((s.alloc c).allocId = some id.toNat) && !(s.alloc c).freed) = none →
      (ctxsOf i).find? (fun c => decide ((s.alloc c).allocId = none) && !namedReservoir c s) = some c →
      Completes (.assignAllocId i m id true) s fun t => (t.alloc c).allocId = some id.toNat ∧
        (∀ d, d ≠ c → t.alloc d = s.alloc d) ∧ Books { s with allocs := t.allocs } t) ∧
    (∀ (id : BitVec 14) (c : Nat), (s.inst i).onuId ≠ none →
      (ctxsOf i).find? (fun c => decide ((s.alloc c).allocId = some id.toNat) && !(s.alloc c).freed) = some c →
      exec (.assignAllocId i m id false) s = .next (if c % 256 = 0 then s else s.setAlloc c { s.alloc c with freed := true })) ∧
    (∀ (index : Fin 2) (n : Nat), ponSlot i (2 + index) s = some n → (s.inst i).usKeyIndex ≠ index.val + 1 →
      ponKeyLoaded i 1 s = true → Completes (.keyControl i m index) s fun t =>
        (t.inst i).usKeyNext = some (index.val + 1) ∧ (∃ r, (t.inst i).upOwn = (s.inst i).upOwn ++ [{ msg := .keyReport (index.val + 1) r }]) ∧
        (keySlot n t).loaded = true ∧ (keySlot n t).aes256 = false ∧
        (keySlot n t).key = le 16 (Config.freeValue s.freeCtr % 2 ^ 128) ∧
        (∀ k, k ≠ n → keySlot k t = keySlot k s)) ∧
    (∀ on : Bool, exec (.sleepAllow i m on) s = .next (s.modInst i fun x => { x with sleepAllowed := on })) ∧
    ((s.inst i).power < 2 →
      exec (.changePowerLevel i m true) s = .next (s.modInst i fun x => { x with power := x.power + 1 })) ∧
    (0 < (s.inst i).power →
      exec (.changePowerLevel i m false) s = .next (s.modInst i fun x => { x with power := x.power - 1 })) ∧
    (Completes (.powerConsumptionInquire i m) s fun t => t.freeCtr = s.freeCtr + 1 ∧ (t.inst i).upOwn =
        (s.inst i).upOwn ++ [{ msg := .powerReport (Config.freeValue s.freeCtr % 2 ^ 32) }]) ∧
    (∀ raw : Bytes, ¬ (u8 raw 2 = 0xD5 ∧ beNat (slice raw 4 2) = 0x0D5E) → (s.queue (12292 + i)).frames.length < 64 →
      Completes (.ploamRx i m raw) s fun t => (t.inst i).ploamTag = ((s.inst i).ploamTag + 1) % 65536 ∧
        ∃ f, (t.queue (12292 + i)).frames = (s.queue (12292 + i)).frames ++ [f] ∧
          f.pkt = some { op := 0x0F81, tag := (s.inst i).ploamTag, tick := s.clk.tick })

/-- On a part that is on with no ligature group, once the tick in which the time runs out is over, in which an event would overrule the
expiry: TO1 after its units of 800 ticks in O4 leads to O2-3 without ONU-ID and EqD; TO2 after its units of 80 ticks in O6 leads to
O1.1 or, with the receiver in SYNC, O1.2, without ONU-ID; TO4 in O9 leads to O1.1 or O1.2 with the request forgotten and the laser
dark; TO5 after its units of 80 ticks in O5.2 leads back to O5.1 with the request forgotten, and nothing but the instance, the tick
channel and the books changes. (03 R75, 03 R83, 03 Table 3.4) -/
def Obligations.ActivationTimersExpire : Prop :=
  ∀ (i : Fin 4) (s : State), On s → s.lig.phase = .none →
    ((s.inst i).st = 0x40 → ranOut (800 * (s.inst i).cfg.to1) (s.inst i).to1 s = true →
      Completes (.to1Expiry i) s fun t => (t.inst i).st = 0x23 ∧ (t.inst i).onuId = none ∧ (t.inst i).eqd = 0) ∧
    ((s.inst i).st = 0x60 → ranOut (80 * (s.inst i).cfg.to2) (s.inst i).to2 s = true →
      Completes (.to2Expiry i) s fun t =>
        (t.inst i).st = (if (s.inst i).sync.state = 2 then 0x12 else 0x11) ∧ (t.inst i).onuId = none) ∧
    (∀ r : TuneReq, (s.inst i).tune = some r → (s.inst i).st = 0x90 → ranOut r.to4 (s.inst i).to4 s = true →
      Completes (.to3To4Expiry i) s fun t =>
        (t.inst i).st = (if (s.inst i).sync.state = 2 then 0x12 else 0x11) ∧ (t.inst i).tune = none ∧ (t.inst i).txLocked = false) ∧
    ((s.inst i).st = 0x52 → ranOut (80 * (s.inst i).cfg.to5) (s.inst i).to5 s = true →
      Completes (.to5Expiry i) s fun t => (t.inst i).st = 0x51 ∧ (t.inst i).to5 = none ∧ (t.inst i).tune = none ∧
        (∀ j, j ≠ i.val → t.inst j = s.inst j) ∧ Books { s with insts := t.insts, clk := t.clk } t)

/-- LIG_START with all members in O5 and no group begins a negotiation with a token that is not 0 and goes on executing; an unanswered
proposal is sent again up to three times, then the negotiation ends; a LIG_ACCEPT with the token on the anchor, two members at least
and a start 8 to 8,000 frames ahead is acknowledged and stored; at START_SFC the group becomes active with both sequences at 0 and
nothing held; LIG_REJECT with the token on the anchor ends the negotiation, LIG_RELEASE the group, and proposals not yet sent are
dropped where a negotiation ends; a member that has been back in O5 for a tick edge is no longer suspended; LIG_STOP of a
negotiation answers at once, that of an active group goes on executing while the group is stopping; the release's Acknowledge to the
instance that sent it is noted, and 64 ticks after the release was sent the group is gone. That a reject or release counts on the
anchor alone is the model's choice (log 320). (03 R86, 03 R87, 03 R88, 03 R89, 03 R90, 03 R93, 04 R108) -/
def Obligations.LigatureRowsTakeEffect : Prop :=
  ∀ (s : State),
    (∀ (q : CmdReq) (c : Cmd), Runs 0x0205 q c s → s.lig.phase = .none → bitsOf 4 (u8 q.body 0) ≠ [] →
      (∀ i ∈ bitsOf 4 (u8 q.body 0), i < 4 ∧ (s.inst i).inO5 = true) →
      Completes (.ligStart q) s fun t => t.cmd.executing = [{ c with started := true }] ∧ t.cmd.waiting = s.cmd.waiting ∧
        t.lig.phase = .negotiating ∧ t.lig.token ≠ 0 ∧ t.lig.proposed = bitsOf 4 (u8 q.body 0) ∧ t.lig.proposals = 1) ∧
    (∀ a, On s → s.lig.phase = .negotiating → ranFor 8000 s.lig.proposedAt s = true → s.lig.proposals < 3 →
      anchorOf s.lig.proposed s = some a → Completes .ligProposeTimeout s fun t =>
        t.lig = { s.lig with proposals := s.lig.proposals + 1, proposedAt := none } ∧
        (t.inst a).upOwn = (s.inst a).upOwn ++ [{ msg := .vendor 0x01 (fit 32 (proposeBody t)), propose := true }]) ∧
    (On s → s.lig.phase = .negotiating → ranFor 8000 s.lig.proposedAt s = true → 3 ≤ s.lig.proposals →
      Completes .ligProposeTimeout s fun t => t.lig.phase = .none ∧ t.insts = (dropProposals s).insts) ∧
    (∀ (i : Fin 4) (m : PloamRx) (token : BitVec 16) (mask : BitVec 8) (startSfc : Word) (first n : BitVec 16), Heard i m s →
      s.lig.phase = .negotiating → s.lig.token = token.toNat → ligAnchor s = some i.val →
      2 ≤ (s.lig.proposed.filter (fun j => bit mask.toNat (memberIndex j s))).length →
      8 ≤ signed 32 (startSfc.toNat + 2 ^ 32 - (s.inst i).sync.sfc % 2 ^ 32) →
      signed 32 (startSfc.toNat + 2 ^ 32 - (s.inst i).sync.sfc % 2 ^ 32) ≤ 8000 →
      exec (.ligAccept i m token mask startSfc first n) s = .next { acknowledge i 0 m.seqno s with
        lig := { s.lig with phase := .accepted, members := s.lig.proposed.filter (fun j => bit mask.toNat (memberIndex j s))
                            startSfc := startSfc.toNat, portFirst := first.toNat, portCount := n.toNat } }) ∧
    (∀ a, On s → ligAnchor s = some a → s.lig.phase = .accepted → (s.inst a).sync.state = 2 →
      (s.inst a).sync.sfc % 2 ^ 32 = s.lig.startSfc → s.lig.suspended = [] → Completes .ligGroupActivate s fun t =>
        t.lig.phase = .active ∧ t.lig.members = s.lig.members ∧ t.lig.usNext = 0 ∧ t.lig.dsNext = 0 ∧ t.lig.held = []) ∧
    (∀ (i : Fin 4) (m : PloamRx) (token : BitVec 16) (reason : Byte), Heard i m s → s.lig.token = token.toNat → ligAnchor s = some i.val →
      (s.lig.phase = .negotiating → Completes (.ligReject i m token reason) s fun t => t.lig.phase = .none ∧ t.lig.proposed = [] ∧
        t.insts = (dropProposals s).insts) ∧
      (s.lig.phase = .active → Completes (.ligRelease i m token reason) s fun t => t.lig.phase = .none ∧ t.lig.members = [])) ∧
    (∀ (i : Fin 4) (t₀ : Word), On s → s.lig.rejoin.find? (fun e => decide (e.1 = i.val)) = some (i.val, t₀) → t₀ ≠ ownTick s →
      (s.inst i).inO5 = true → Completes (.ligMemberRejoin i) s fun t => ¬ i.val ∈ t.lig.suspended ∧
        (∀ e ∈ t.lig.rejoin, e.1 ≠ i.val) ∧ t.lig.members = s.lig.members ∧ SMap.get 0 t.lig.lastPs i = s.clk.nowPs) ∧
    (∀ (q : CmdReq) (c : Cmd), Runs 0x0206 q c s →
      (s.lig.phase = .negotiating → Completes (.ligStop q) s fun t => Answers c .ok 0 [] s t ∧ t.lig.phase = .none) ∧
      (s.lig.phase = .active → Completes (.ligStop q) s fun t => t.cmd.executing = [{ c with started := true }] ∧
        t.lig.phase = .stopping ∧ t.lig.members = s.lig.members)) ∧
    (∀ (i : Fin 4) (m : PloamRx), Heard i m s → s.lig.phase = .stopping → s.lig.stopAt ≠ none → s.lig.stopBy = some i.val →
      exec (.ligReleaseAck i m) s = .next { s with lig := { s.lig with ackAt := some (ownTick s) } }) ∧
    (On s → s.lig.phase = .stopping → ranFor 64 s.lig.stopAt s = true →
      Completes .ligStopTimeout s fun t => t.lig.phase = .none ∧ t.lig.members = [] ∧ t.lig.held = [])

/-- A locked receiver in HUNT that meets the exact PSync goes to PRE_SYNC and keeps the superframe counter; in SYNC a PSync with at most
two errors at the frame boundary and the next superframe counter keep SYNC with no misses; a corrected codeword counts its bits into
the signal window, an uncorrectable codeword with part of the HLend loses the frame's map, PLOAM partition and payload; at the end
of a window of 8,000 ticks with a bit error ratio above 1/1000 SD is asserted and the window begins again; a whole clear unit on a
bound port goes to the pipeline; a whole bonded fragment with the next number is released at once, and a lone fragment held for
longer than 64 µs is released over the gap; a read of DS_SFC_LO answers the low word and latches the high one. (04 R95, 04 R96, 04
R99, 04 R100, 04 R101, 04 R102, 04 R109, 04 R111, 04 R114) -/
def Obligations.DownstreamRowsTakeEffect : Prop :=
  ∀ (i : Fin 4) (s : State), On s → s.pwr.state = .awake →
    (∀ sfc : Option (BitVec 51), (s.inst i).rxLocked = true → (s.inst i).sync.state = 0 → ∀ here : Bool,
      exec (.dsPhyFrame i (some 0) sfc here) s = .next (s.modInst i fun x => { x with
        sync := { x.sync with state := 1, kept := sfc.map BitVec.toNat, phyPs := s.clk.nowPs } })) ∧
    (∀ (errors : Nat) (sfc : BitVec 51), (s.inst i).rxLocked = true → (s.inst i).sync.state = 2 → errors ≤ 2 →
      sfc.toNat = ((s.inst i).sync.sfc + 1) % 2 ^ 51 → Completes (.dsPhyFrame i (some errors) (some sfc) true) s fun t =>
        (t.inst i).sync.state = 2 ∧ (t.inst i).sync.misses = 0 ∧ (t.inst i).sync.sfc = sfc.toNat ∧
        (t.inst i).sync.phyPs = s.clk.nowPs ∧ (t.inst i).st = (s.inst i).st) ∧
    (∀ (n bits : Nat) (w : List CwContent), (s.inst i).sync.state = 2 → Completes (.dsCodeword i (some n) bits w) s fun t =>
        Books (s.modInst i fun x => { x with sync := { x.sync with
          winCorrected := x.sync.winCorrected + n, winBits := x.sync.winBits + bits } }) t) ∧
    (∀ bits : Nat, (s.inst i).sync.state = 2 → (s.inst i).sync.frameLost = false → Completes (.dsCodeword i none bits [.hlend]) s fun t =>
        (t.inst i).sync.frameLost = true ∧ (t.inst i).sync.mapLost = true ∧ (t.inst i).sync.payloadLost = true ∧
        Books { s with insts := t.insts } t) ∧
    ((s.inst i).sync.state = 2 → 8000 ≤ (s.inst i).sync.winTicks →
      (s.inst i).sync.winBits < 1000 * (s.inst i).sync.winCorrected → (s.inst i).sync.badRun < 8 → (s.inst i).sync.goodRun < 64 →
      Completes (.dsSignalWindowEnd i) s fun t => (t.inst i).sync.sd = true ∧ (t.inst i).sync.winTicks = 0 ∧
        (t.inst i).sync.winCorrected = 0 ∧ (t.inst i).sync.winBits = 0 ∧ Books { s with insts := t.insts } t) ∧
    (∀ (port : BitVec 16) (data : Bytes), (s.inst i).sync.state = 2 → (s.inst i).sync.frameLost = false →
      (s.inst i).sync.payloadLost = false → port ≠ 0xFFFF → isOmcc i port.toNat s = false →
      SMap.get {} (s.inst i).reasm port.toNat = {} → data.length ≤ 16383 →
      (SMap.get {} (s.inst i).ports port.toNat).bound = true → (SMap.get {} (s.inst i).ports port.toNat).encrypt = false →
      (SMap.get {} (s.inst i).ports port.toNat).bonded = false →
      Completes (.xgemFrame i 0 port 0 true data false) s fun t => t.waitDown = s.waitDown ++
        [{ data, ingress := i, tag := (SMap.get {} (s.inst i).ports port.toNat).flowTag, port := port.toNat
           phyPs := (s.inst i).sync.phyPs }] ∧ t.lig = s.lig) ∧
    (∀ (port : BitVec 16) (seq : Nat) (data : Bytes), expectsBonded i s = true →
      (SMap.get {} (s.inst i).ports port.toNat).bonded = true → (s.inst i).sync.state = 2 → s.lig.resync = false →
      s.lig.held = [] → s.lig.partOpen = false → seq % 2 ^ 20 = s.lig.dsNext →
      Completes (.ligFragmentArrival i port { seq, first := true, last := true } data) s fun t =>
        t.lig.dsNext = (s.lig.dsNext + 1) % 2 ^ 20 ∧ t.lig.held = [] ∧ t.waitDown = s.waitDown ++
        [{ data, ingress := i, tag := (SMap.get {} (s.inst i).ports port.toNat).flowTag, port := port.toNat
           phyPs := (s.inst i).sync.phyPs }]) ∧
    (∀ h : Held, s.lig.held = [h] → (h.atPs + 64000000) / 800 < s.clk.nowPs / 800 → h.seq < 2 ^ 20 → h.seq ≠ s.lig.dsNext →
      Completes .ligGapClose s fun t => t.lig.held = [] ∧ t.lig.dsNext = (h.seq + 1) % 2 ^ 20 ∧ t.insts = s.insts) ∧
    (∀ path : Path, pathUp path s = true → exec (.dsSfcLoRead path i) s =
      .next (emit (.value path (0x10104 + 0x4000 * i) (BitVec.ofNat 32 (s.inst i).sync.sfc)) (s.setLatch path
        { s.latch path with dsSfcHi := SMap.set 0 (s.latch path).dsSfcHi i (BitVec.ofNat 32 ((s.inst i).sync.sfc / 2 ^ 32)) })))

/-- Run alone, OMCI_TX of an instance with an ONU-ID and fewer than 64 waiting messages queues the message and answers OK; PLOAM_TX
queues the message as the host's and goes on executing; DS_PORT_BIND of a bound port, or with room, makes the binding;
DS_PORT_UNBIND of a bound port removes it; DS_PORT_QUERY answers it; ALLOC_CONFIG keeps the settings for the next tick edge;
ALLOC_QUERY answers the slot and clears its GRANTS_SKIPPED. Nothing else changes but the books. (04 R116, 04 R117, 04 R118, 05 R143,
05 R144) -/
def Obligations.FibreServiceCommandsAnswer : Prop :=
  ∀ (q : CmdReq) (c : Cmd) (s : State),
    (Runs 0x0F00 q c s → (s.inst q.index).omcc.length < 64 → (s.inst q.index).onuId ≠ none →
      Completes (.omciTx q) s fun t => Answers c .ok 0 [] s t ∧
        Books (s.modInst q.index fun x => { x with omcc := x.omcc ++ [q.body.drop 4] }) t) ∧
    (Runs 0x0F01 q c s → (s.inst q.index).onuId ≠ none → (s.inst q.index).upHost.length < 4 →
      Completes (.ploamTx q) s fun t => t.cmd.executing = [{ c with started := true }] ∧ t.cmd.waiting = s.cmd.waiting ∧
        Books (s.modInst q.index fun x => { x with upHost := x.upHost ++
          [{ msg := .host (u8 q.body 0) (if u8 q.body 1 = 1 then u8 q.body 2 else 256) (q.body.drop 4), cmd := some c.seq }] }) t) ∧
    (∀ b : PortBind, Runs 0x0F02 q c s →
      (SMap.get {} (s.inst q.index).ports (u16 q.body 0)).bound = true ∨ (s.inst q.index).ports.length < 4096 →
      s.lig.phase = .none →
      b = { bound := true, encrypt := bit (u8 q.body 2) 0, multicast := bit (u8 q.body 2) 1, flowTag := u16 q.body 4 } →
      Completes (.dsPortBind q) s fun t => Answers c .ok 0 [] s t ∧
        Books (s.modInst q.index fun x => { x with ports := SMap.set {} x.ports (u16 q.body 0) b }) t) ∧
    (Runs 0x0F03 q c s → (SMap.get {} (s.inst q.index).ports (u16 q.body 0)).bound = true →
      Completes (.dsPortUnbind q) s fun t => Answers c .ok 0 [] s t ∧
        Books (s.modInst q.index fun x => { x with ports := SMap.set {} x.ports (u16 q.body 0) {} }) t) ∧
    (∀ b, Runs 0x0F04 q c s → SMap.get {} (s.inst q.index).ports (u16 q.body 0) = b → b.bound = true →
      Completes (.dsPortQuery q) s fun t => Answers c .ok 0
        (le 2 (u16 q.body 0) ++ le 1 (b2n b.encrypt + 2 * b2n b.multicast +
          64 * b2n (decide ((s.inst q.index).onuId = some (u16 q.body 0))) + 128 * b2n b.bonded) ++ zeros 1 ++
          le 2 b.flowTag ++ zeros 2) s t ∧ Books s t) ∧
    (∀ ctx, Runs 0x0210 q c s → ctx = 256 * q.index + u8 q.body 0 → Completes (.allocConfig q) s fun t => Answers c .ok 0 [] s t ∧
      Books (s.setAlloc ctx { s.alloc ctx with next := some (allocCfgOf q.body) }) t) ∧
    (∀ ctx, Runs 0x0211 q c s → ctx = 256 * q.index + u8 q.body 0 → Completes (.allocQuery q) s fun t =>
      Answers c .ok 0 (le 2 ((s.alloc ctx).allocId.getD 0xFFFF) ++ le 2 (8 * ctx) ++ (s.alloc ctx).cfg.bytes (u8 q.body 0) ++
        le 4 (s.alloc ctx).granted ++ le 4 (s.alloc ctx).skipped) s t ∧
      Books (s.setAlloc ctx { s.alloc ctx with skipped := 0 }) t)

/-- A grant of an own context, not fed by a worker, into an empty schedule, in time and with a usable burst profile, becomes a launch
entry at F + T_RESP + EqD + StartTime less the PSBu, and its bytes are entered in the ledger; a pull in time is put out on its
worker's lane and marked; at P a permitted burst with the laser locked and light allowed is prepared, no lower-numbered instance
taking bonded content in the same clock before it; L - 12.8 ns enables it; at L it is marked launched, and the EqD its PLOAM message
confirms is in force; an allocation whose pull has not begun by the feed point is filled by the Nib; at its end the burst leaves the
schedule; a freed slot is released; a read of US_NEXT_TICK answers the next launch and latches its ns. The present instant moves up
to the row's instant, never back. (05 R119, 05 R124, 05 R126, 05 R129, 05 R133, 05 R141, 10 R266, 03 R81) -/
def Obligations.BurstRowsTakeEffect : Prop :=
  ∀ (i : Fin 4) (s : State), On s →
    (∀ (g : Grant) (b : BurstProfile) (c : Nat), s.pwr.state = .awake → (s.inst i).sync.state = 2 → (s.inst i).sync.frameLost = false →
      (s.inst i).sync.mapLost = false → g.hecOk = true → g.sn = false → g.tooSmall = false → g.startPs + g.linePs ≤ 125000000 →
      (s.inst i).sched = [] → pairStandby s = false → (ctxsOf i).find? (fun c => decide ((s.alloc c).allocId = some g.allocId)) = some c →
      (s.alloc c).cfg.feed ≠ 1 → burstOf (s.inst i) g.profile = some b →
      s.clk.nowPs < upFrame (s.inst i) + g.startPs - bytesPs (s.inst i).usRate b.psbu - 1000000 →
      Completes (.grantIntake i g) s fun t => (t.alloc c).grantedNow = (s.alloc c).grantedNow + g.payload ∧
        (t.inst i).mapSeen = true ∧ (t.inst i).sched =
        [{ atPs := upFrame (s.inst i) + g.startPs - bytesPs (s.inst i).usRate b.psbu
           endPs := upFrame (s.inst i) + g.startPs + g.linePs, profile := g.profile, psbu := b.psbu, fec := b.fec, ploamu := g.ploamu
           allocs := [{ ctx := c, allocId := g.allocId, payload := g.payload
                        areaPs := upFrame (s.inst i) + g.startPs + g.areaPs, startPs := upFrame (s.inst i) + g.startPs
                        endPs := upFrame (s.inst i) + g.startPs + g.linePs, ploamu := g.ploamu, dbru := g.dbru }] }]) ∧
    (∀ (ctx : Fin 1024) (p : Pull) (w : Nat), w = (s.alloc ctx).cfg.worker →
      (s.worker w).pulls.find? (fun p => decide (p.ctx = ctx.val) && decide (p.inst = i.val) && !p.sent) = some p →
      max s.clk.nowPs (p.atPs - 250000000) + delayPs w s + (s.worker w).leadNs * 1000 ≤ p.atPs →
      (s.lane w).transmits = true → pairStandby s = false →
      Completes (.pullIssue i ctx) s fun t => t.clk.nowPs = max s.clk.nowPs (p.atPs - 250000000) ∧
        (∃ body, Out.block w 0x69 body ∈ t.out) ∧ ∀ x ∈ (t.worker w).pulls, x.gid = p.gid → x.sent = true) ∧
    (∀ e : Entry, (s.inst i).sched = [e] → e.prepared = false → e.shadow = false → statePermits (s.inst i) e = true →
      (s.inst i).txLocked = true → lowerFirst i e s = false → lightFor i e (advanceTo (e.atPs - 1000000) s) = true →
      Completes (.burstPreparation i) s fun t =>
        t.clk.nowPs = max s.clk.nowPs (e.atPs - 1000000) ∧
        ∃ e', (t.inst i).sched = [e'] ∧ e'.prepared = true ∧ e'.atPs = e.atPs ∧ e'.power = (s.inst i).power ∧
          e'.allocs.map (fun a => a.ctx) = e.allocs.map (fun a => a.ctx)) ∧
    (∀ e : Entry, (s.inst i).sched.find? (fun e => e.prepared && !e.enabled && !e.shadow) = some e →
      Completes (.burstEnable i) s fun t => (t.inst i).laserOn = true ∧ t.clk.nowPs = max s.clk.nowPs (e.atPs - 12800) ∧
        ∀ f ∈ (t.inst i).sched, f.atPs = e.atPs → f.enabled = true) ∧
    (∀ (e : Entry) (u : UpItem) (v : Nat), (s.inst i).sched.find? (fun e => e.prepared && !e.launched && (e.enabled || e.shadow)) = some e →
      e.shadow = false → e.ploam = some u → u.eqd = some v → Completes (.burstLaunch i) s fun t => (t.inst i).eqd = v ∧
        t.clk.nowPs = max s.clk.nowPs e.atPs ∧ ∀ f ∈ (t.inst i).sched, f.atPs = e.atPs → f.launched = true) ∧
    (∀ (e : Entry) (a : Alloc), (s.inst i).sched = [e] → e.prepared = true → e.allocs = [a] → a.filled = false → pullOf a s = none →
      Completes (.pullFeedDeadline i) s fun t => t.clk.nowPs = max s.clk.nowPs (a.areaPs - 96000) ∧
        ∃ e', (t.inst i).sched = [e'] ∧ ∀ b ∈ e'.allocs, b.filled = true) ∧
    (∀ e : Entry, (s.inst i).sched = [e] → e.launched = true → Completes (.burstEnd i) s fun t => (t.inst i).sched = [] ∧
        (t.inst i).laserOn = false ∧ t.clk.nowPs = max s.clk.nowPs e.endPs) ∧
    (∀ ctx : Fin 1024, (s.alloc ctx).freed = true → Completes (.allocSlotRelease ctx) s fun t =>
        (t.alloc ctx).allocId = none ∧ (t.alloc ctx).freed = false ∧ (t.alloc ctx).cfg = {} ∧
        (∀ d, d ≠ ctx.val → t.alloc d = s.alloc d) ∧
        Books { s with insts := t.insts, allocs := t.allocs, workers := t.workers } t) ∧
    (∀ (path : Path) (ps : Nat), pathUp path s = true → s.pwr.state = .awake → nextLaunch i s = some ps →
      exec (.usNextTickRead path i) s = .next (emit (.value path (0x10208 + 0x4000 * i) (tickOf ps s).1) (s.setLatch path
        { s.latch path with usNextNs := SMap.set 0 (s.latch path).usNextNs i (BitVec.ofNat 32 (tickOf ps s).2) })))

/-- Run alone, TABLE_LOCK of blocks none of which is isolated or locked, with no BIST running and fewer than 16 leases, takes them under
the next LEASE_ID for the PCIe owner, REMAINING being LEASE_TICKS with 0 for 64, and answers the ID and the expiry tick; TABLE_RENEW
sets REMAINING again; TABLE_UNLOCK with DISCARD drops the lease and publishes nothing, without it an overflowed lease answers
TABLE_FULL and publishes nothing, and any other whose groups are free publishes its staged entries, answers their number and the
tick, and is gone; LEARN_CONFIG and AGE_CONFIG keep their settings for the next tick edge. (06 R155, 06 R156, 06 R158, 06 R160, 06
R161, 06 R165) -/
def Obligations.TableLockCommandsAnswer : Prop :=
  ∀ (q : CmdReq) (c : Cmd) (s : State),
    (Runs 0x0300 q c s → (∀ b ∈ bitsOf 16 (u16 q.body 0), isolated b s = false ∧ locked b s = false) → s.bist.run = none →
      s.tbl.leases.length < 16 → Completes (.tableLock q) s fun t =>
        Answers c .ok 0 (le 4 s.tbl.nextLease ++ le 4 (s.clk.tick.toNat + leaseTicks q.body 2)) s t ∧
        Books { s with tbl := { s.tbl with
          leases := s.tbl.leases ++ [{ id := s.tbl.nextLease, owner := 0, remaining := leaseTicks q.body 2, taken := ownTick s,
                                       blocks := u16 q.body 0 }],
          nextLease := s.tbl.nextLease % 0xFFFFFFFF + 1 } } t) ∧
    (∀ l, Runs 0x0301 q c s → leaseById q.leaseId.toNat s = some l → Completes (.tableRenew q) s fun t =>
        Answers c .ok 0 (le 4 (s.clk.tick.toNat + leaseTicks q.body 0)) s t ∧
        Books (setLease { l with remaining := leaseTicks q.body 0, taken := ownTick s } s) t) ∧
    (∀ l, Runs 0x0302 q c s → leaseById q.leaseId.toNat s = some l →
      (u8 q.body 0 = 1 → Completes (.tableUnlock q) s fun t =>
        Answers c .ok 0 (le 4 0 ++ le 4 s.clk.tick.toNat) s t ∧ Books (dropLease l.id s) t) ∧
      (u8 q.body 0 ≠ 1 → l.overflowed = true → Completes (.tableUnlock q) s fun t =>
        Answers c .tableFull 0 [] s t ∧ Books (dropLease l.id s) t) ∧
      (u8 q.body 0 ≠ 1 → l.overflowed = false → hasTurn 2 (leaseGroups l) s = true → Completes (.tableUnlock q) s fun t =>
        Answers c .ok 0 (le 4 (published l s) ++ le 4 s.clk.tick.toNat) s t ∧ t.tbl = (dropLease l.id (publish l s)).tbl)) ∧
    (Runs 0x0307 q c s → Completes (.learnConfig q) s fun t => Answers c .ok 0 [] s t ∧
        Books { s with tbl := { s.tbl with learnNext := SMap.set none s.tbl.learnNext (u8 q.body 0)
                                                  (some { en := bit (u8 q.body 1) 0, template := BitVec.ofNat 44 (u64 q.body 4) }) } } t) ∧
    (Runs 0x0308 q c s → Completes (.ageConfig q) s fun t => Answers c .ok 0 [] s t ∧
        Books { s with tbl := { s.tbl with ageNext := some { interval := u16 q.body 0, init := u8 q.body 2,
                                                             moveLimit := u16 q.body 4 } } } t)

/-- Run alone in a table with no parity fault, SEARCH of a key that is valid once, in its first candidate cell, answers the position and
the entry, of an IPv6 key both halves, and NOT_FOUND where neither cell holds it, and changes nothing; NEXT answers the valid
entries of the asked types from the start position in ascending order, at most MAX of them, with the position to go on from, and
changes nothing; FLUSH_BY_PORT without a lease, with no block in its scope locked, invalidates the qualifying entries and answers
their number; TABLE_AUDIT answers the tick, the isolated blocks and the digests of a block's 64 cells or of the 16 blocks, and
changes nothing. (06 R150, 06 R169, 06 R174, 06 R175) -/
def Obligations.TableSearchCommandsAnswer : Prop :=
  ∀ (q : CmdReq) (c : Cmd) (s : State),
    (∀ (k : TKey) (n : Nat), Runs 0x0303 q c s → s.tbl.corrupt = [] →
      k = { ty := u8 q.body 0, key := BitVec.ofNat 64 (u64 q.body 8), lo := BitVec.ofNat 64 (u64 q.body 16), vrf := u16 q.body 2 } →
      (matchesIn k (cells k).1 s = [n] → matchesIn k (cells k).2 s = [] → Completes (.search q) s fun t =>
        Answers c .ok 0 (le 1 (n / 262144) ++ le 1 (n / 4096 % 64) ++ le 2 (n % 4096) ++ le 1 0 ++ zeros 3 ++
          entryBytes (s.entry n) ++ (if k.ty = 2 then entryBytes (s.entry (n + 1)) else zeros 16)) s t ∧ Books s t) ∧
      (matchesIn k (cells k).1 s = [] → matchesIn k (cells k).2 s = [] → Completes (.search q) s fun t =>
        Answers c .notFound 0 [] s t ∧ Books s t)) ∧
    (∀ hits got : List (Nat × BitVec 128), Runs 0x0304 q c s →
      hits = s.tbl.entries.filter (fun e =>
        decide (u8 q.body 0 * 262144 + u8 q.body 1 * 4096 + u16 q.body 2 ≤ e.1) && entryValid e.2 &&
          bit (u8 q.body 4) (entryType e.2) && !isolated (e.1 / 262144) s) →
      got = hits.take (u8 q.body 5) →
      Completes (.next q) s fun t => Answers c .ok 0
        (le 2 got.length ++
          (if got.length < u8 q.body 5 || decide (4194304 ≤ (got.getLast?.map (fun e => e.1 + 1)).getD 0) then [0xFF, 0, 0, 0]
           else position ((got.getLast?.map (fun e => e.1 + 1)).getD 0)) ++ zeros 2 ++
          got.flatMap (fun e => position e.1 ++ entryBytes e.2)) s t ∧ Books s t) ∧
    (Runs 0x0305 q c s → q.leaseId = 0 → leaseById 0 s = none → (∀ b ∈ bitsOf 16 (flushMask q.body), leaseOf b s = none) →
      Completes (.flushByPort q) s fun t =>
        Answers c .ok 0 (le 4 (flushUnlocked (flushMask q.body) (flushFlow q.body s) (bit (u8 q.body 1) 0) s).1) s t ∧
        Books (flushUnlocked (flushMask q.body) (flushFlow q.body s) (bit (u8 q.body 1) 0) s).2 t) ∧
    (Runs 0x0306 q c s → q.kind = 6 → Completes (.tableAudit q) s fun t =>
        Answers c .ok 0 (le 4 s.clk.tick.toNat ++ le 2 s.tbl.isolated ++ zeros 2 ++
          (List.range 64).flatMap (fun g => le 8 (digest ((64 * q.index + g) * 4096) 4096 s))) s t ∧ Books s t) ∧
    (Runs 0x0306 q c s → q.kind ≠ 6 → Completes (.tableAudit q) s fun t =>
        Answers c .ok 0 (le 4 s.clk.tick.toNat ++ le 2 s.tbl.isolated ++ zeros 2 ++
          (List.range 16).flatMap (fun b => le 8 (digest (b * 262144) 262144 s))) s t ∧ Books s t)

/-- When item 3 is due and no lease's REMAINING, which each tick edge lowers, is 0, nothing but the item's mark changes; a single lease
whose REMAINING is 0 is gone afterwards with its staged writes, the entries as before. When item 6 is due, a single record of an
earlier tick whose key's cells no lock covers and hold no match is entered at a free place of the cell with more free entries, with
its source's template and the initial age, and the queue is empty; a deferred one stays, marked. When item 7 is due in a tick of the
interval, one unlocked IPv4 or MAC entry with AGE 1 to 14 loses one, with AGE 0 it is not valid any more. TBL_LEASE_KILL of a
lease's ID drops the lease, of an unknown one it does nothing. (06 R156, 06 R159, 06 R162, 06 R163, 06 R165) -/
def Obligations.TableItemsTakeEffect : Prop :=
  ∀ s : State,
    (Due 3 s → (∀ l ∈ s.tbl.leases, l.remaining ≠ 0) → exec .leaseExpiry s = .next (worked 3 s)) ∧
    (∀ l : Lease, Due 3 s → s.tbl.leases = [l] → l.remaining = 0 → s.cmd.executing = [] →
      Completes .leaseExpiry s fun t => t.tbl = { s.tbl with leases := [] } ∧ Books { worked 3 s with tbl := t.tbl } t) ∧
    (∀ (r : LearnRec) (g n : Nat), Due 6 s → s.tbl.learn = [r] → r.tick ≠ ownTick s → deferredNow r s = false → s.tbl.corrupt = [] →
      matchesIn { ty := 0, key := r.key } (cells { ty := 0, key := r.key }).1 s = [] →
      matchesIn { ty := 0, key := r.key } (cells { ty := 0, key := r.key }).2 s = [] →
      g = (if freeCount (cells { ty := 0, key := r.key }).1 s < freeCount (cells { ty := 0, key := r.key }).2 s
           then (cells { ty := 0, key := r.key }).2 else (cells { ty := 0, key := r.key }).1) →
      freeIn g s = some n → Completes .learnCommit s fun t =>
        t.tbl = { (setEntry n (makeEntry 0 r.key (s.learnOf r.source).template s.tbl.age.init) s).tbl with learn := [] } ∧
        Books { worked 6 s with tbl := t.tbl } t) ∧
    (∀ r : LearnRec, Due 6 s → s.tbl.learn = [r] → r.tick ≠ ownTick s → deferredNow r s = true →
      exec .learnCommit s = .next { worked 6 s with tbl := { s.tbl with learn := [{ r with deferred := true }] } }) ∧
    (∀ (n : Nat) (e : BitVec 128), Due 7 s → s.tbl.age.interval ≠ 0 → tickDiff s.clk.tick s.tbl.ageBase % s.tbl.age.interval = 0 →
      s.tbl.entries = [(n, e)] → entryValid e = true → entryType e < 2 → isolated (n / 262144) s = false →
      locked (n / 262144) s = false →
      (entryAge e ≠ 0 → entryAge e ≠ 15 → exec .ageingStep s = .next (setEntry n (withAge e (entryAge e - 1)) (worked 7 s))) ∧
      (entryAge e = 15 → exec .ageingStep s = .next (worked 7 s)) ∧
      (entryAge e = 0 → Completes .ageingStep s fun t =>
        entryValid (t.entry n) = false ∧ Books { worked 7 s with tbl := t.tbl } t)) ∧
    (∀ (path : Path) (v : Word), Reaches path s →
      (leaseById v.toNat s = none → exec (.tblLeaseKill path v) s = .next s) ∧
      (∀ l : Lease, leaseById v.toNat s = some l → s.cmd.executing = [] → Completes (.tblLeaseKill path v) s fun t =>
        t.tbl = { s.tbl with leases := s.tbl.leases.filter (fun x => x.id ≠ l.id) } ∧ Books { s with tbl := t.tbl } t))

/-- Over a path that reaches the registers: an aligned write through an enabled window to a block locked under a lease is staged in its
word of the entry as the lease sees it, where the staging area has room; to an unlocked block, or through a disabled window, it is
only counted. A read of word 0 answers the word that is seen and latches words 1 to 3 for its window and path, a later read of them
answers the latched ones. A write to bytes 0 to 27 of a flow context is held; one to bytes 28 to 31 makes all eight words current,
with LAST at the policer clock, the buckets capped and reserved fields zero, and releases the buffer, other contexts being as
before. A read of Q_BYTES answers the selected queue's bytes and latches its frames. (06 R157, 06 R160, 06 R170, 06 R171, 06 R172,
08 R220) -/
def Obligations.TableWindowRowsTakeEffect : Prop :=
  ∀ (path : Path) (addr : Nat) (v : Word) (s : State), Reaches path s →
    (∀ n l, addr % 4 = 0 → addr < 0x2000000 → windowEntry addr s = some n → leaseOf (n / 262144) s = some l →
      leaseById l.id s = some l → stagedCount s < 65536 →
      exec (.tableWindowWrite path addr v) s = .next (setLease { l with staged :=
                                                                    SMap.set none l.staged n (some (setEntryWord (seenBy l n s) (addr / 4 % 4) v)) } s)) ∧
    (∀ n, addr % 4 = 0 → addr < 0x2000000 → windowEntry addr s = some n → leaseOf (n / 262144) s = none →
      exec (.tableWindowWrite path addr v) s = .next (count .tblWriteUnlocked 0 s)) ∧
    (addr % 4 = 0 → addr < 0x2000000 → windowEntry addr s = none →
      exec (.tableWindowWrite path addr v) s = .next (count .tblWindowUnmapped 0 s)) ∧
    (∀ n, addr % 4 = 0 → addr < 0x2000000 → windowEntry addr s = some n →
      (addr / 4 % 4 = 0 → Completes (.tableWindowRead path addr) s fun t =>
        t.out = .value path addr (entryWord (windowSees n s) 0) :: s.out ∧
        (∀ k, k = 1 ∨ k = 2 ∨ k = 3 → SMap.get 0 (t.latch path).tblWords (4 * (addr / 0x400000) + k) = entryWord (windowSees n s) k) ∧
        SMap.get 0 (t.latch path).tblEntry (addr / 0x400000) = n + 1 ∧ t.tbl = s.tbl) ∧
      (addr / 4 % 4 ≠ 0 → SMap.get 0 (s.latch path).tblEntry (addr / 0x400000) = n + 1 →
        exec (.tableWindowRead path addr) s = .next (emit
          (.value path addr (SMap.get 0 (s.latch path).tblWords (4 * (addr / 0x400000) + addr / 4 % 4))) s))) ∧
    (∀ f k, f < 2 ^ 20 → k < 7 → addr = 0x2000000 + 32 * f + 4 * k → s.tbl.held = none ∨ s.tbl.held = some f →
      exec (.flowContextStage path addr v) s = .next { s with tbl := { s.tbl with
        held := some f, heldWords := SMap.set none s.tbl.heldWords k (some v) } }) ∧
    (∀ f, f < 2 ^ 20 → addr = 0x2000000 + 32 * f + 28 → s.tbl.held = some f → Completes (.flowContextCommit path addr v) s fun t =>
      (∀ k, k < 8 → SMap.get 0 t.tbl.flow (8 * f + k) = w32 (cappedFlow
        ((((List.range 7).map (fun k => (SMap.get none s.tbl.heldWords k).getD (SMap.get 0 s.tbl.flow (8 * f + k)))) ++ [v]).flatMap
          (fun w => le 4 w.toNat)) s) (4 * k)) ∧
      (∀ j, j / 8 ≠ f → SMap.get 0 t.tbl.flow j = SMap.get 0 s.tbl.flow j) ∧
      t.tbl = { s.tbl with flow := t.tbl.flow, held := none, heldWords := [] }) ∧
    exec (.qBytesRead path) s = .next (emit (.value path 0x40008 (BitVec.ofNat 32 (s.queue s.qSel).bytes))
      (s.setLatch path { s.latch path with qFrames := BitVec.ofNat 32 (s.queue s.qSel).frames.length }))

/-- Run alone, CLS_CONFIG keeps its settings for the swap clock, or applies them at once in item 1; CLS_BUILD of an image that is not
active and not draining, with none building, no swap waiting and no transfer of Quill in the way, makes it BUILDING and not valid,
asks for its rules in transfers of 4 KiB and goes on; once they are read, its completion answers the rules, the bytes (a value the
manual leaves open) and the ticks, and the image is READY and valid, or answers TABLE_FULL and leaves it EMPTY where the tree
exceeds 4 MiB, or BAD_PARAM with the index of the first rule that a build rejects and leaves it EMPTY; CLS_SWAP to the ACTIVE image
answers zeros and changes nothing, to a READY one it waits for the swap clock; the drain's end makes a valid image READY again and
answers the swap tick; CLS_PROBE of a valid image whose rule ends the first pass answers that pass and changes nothing. (07 R196, 07
R197, 07 R199, 07 R200, 07 R201, 07 R202) -/
def Obligations.ClassifierCommandsAnswer : Prop :=
  ∀ (q : CmdReq) (c : Cmd) (s : State),
    (∀ cfg : ClsCfg, cfg = { incompleteMode := decide (u8 q.body 0 = 1), checkCsum := decide (u8 q.body 1 = 1),
                             vxlanPort := u16 q.body 2, extraTpid := u16 q.body 4, copyQueue := u16 q.body 6,
                             malformedQueue := u16 q.body 8, malformedAction := u32 q.body 12 } → Runs 0x0400 q c s →
      ((q.atTick || c.due.isSome) = false → Completes (.clsConfig q) s fun t => Answers c .ok 0 [] s t ∧
        Books { s with cls := { s.cls with cfgNext := some cfg } } t) ∧
      ((q.atTick || c.due.isSome) = true → Completes (.clsConfig q) s fun t => Answers c .ok 0 [] s t ∧
        Books { s with cls := { s.cls with cfg := cfg } } t)) ∧
    (∀ rules : List Bytes, Runs 0x0401 q c s → (∀ k ∈ [0, 1], (s.image k).state ≠ .building) →
      (s.image (u8 q.body 0)).state ≠ .draining → (s.image (u8 q.body 0)).state ≠ .active → s.cls.swapTo = none →
      breachesRank 0 hostRead_ s = false → Completes (.clsBuild q rules) s fun t => GoesOn c t ∧ t.image (u8 q.body 0) =
          { state := .building, valid := false, rules := rules.take (u32 q.body 4), dflt := slice q.body 16 32,
            comps := slice q.body 48 512 } ∧
        t.cls.buildTick = ownTick s ∧
        SMap.get none t.mem.fetches c.seq = some { left := (224 * u32 q.body 4 + 4095) / 4096, data := [] } ∧
        Books { s with cls := t.cls, mem := { s.mem with fetches := t.mem.fetches, requests := t.mem.requests } } t) ∧
    (∀ (e : Fin 2) (size : Nat), Begun 0x0401 c s → (s.image e).state = .building → (∀ k, k < e.val → (s.image k).state ≠ .building) →
      targetFrozen (24 + e.val) s = false → fetched c s = true → size = Config.freeValue s.freeCtr % 2 ^ 24 →
      (∀ d, ruleFault (s.image e).comps (s.image e).rules = some d → Completes .clsBuildComplete s fun t =>
        Answers c .badParam d [] s t ∧ t.image e = { state := .empty }) ∧
      (ruleFault (s.image e).comps (s.image e).rules = none →
        (size ≤ 4194304 → Completes .clsBuildComplete s fun t =>
          Answers c .ok 0 (le 4 (s.image e).rules.length ++ le 4 size ++ le 4 (ticksSince s.cls.buildTick s)) s t ∧
          t.image e = { s.image e with state := .ready, valid := true, bytesUsed := size }) ∧
        (4194304 < size → Completes .clsBuildComplete s fun t => Answers c .tableFull 0 [] s t ∧ t.image e = { state := .empty }))) ∧
    (∀ e : Nat, e = u8 q.body 0 → Runs 0x0402 q c s →
      ((s.image e).state = .active → Completes (.clsSwap q) s fun t => Answers c .ok 0 (le 4 0 ++ le 4 0) s t ∧ Books s t) ∧
      ((s.image e).state = .ready → (∀ k ∈ [0, 1], (s.image k).state ≠ .building ∧ (s.image k).state ≠ .draining) →
        s.cls.swapTo = none → (q.atTick || c.due.isSome) = false → Completes (.clsSwap q) s fun t =>
          GoesOn c t ∧ Books { s with cls := { s.cls with swapTo := some e } } t)) ∧
    (∀ e : Nat, Begun 0x0402 c s → drainingImage s = some e → inFlight e s = 0 → Completes .clsDrainComplete s fun t =>
      Answers c .ok 0 (le 4 s.cls.swapTick.toNat ++ le 4 s.clk.tick.toNat) s t ∧
      t.image e = { s.image e with state := if (s.image e).valid then .ready else .empty } ∧ Books { s with cls := t.cls } t) ∧
    (∀ (p : Classed) (k : Nat) (r : Bytes), Runs 0x0403 q c s → (s.image (u8 q.body 1)).state ≠ .building →
      (s.image (u8 q.body 1)).state ≠ .empty → (s.image (u8 q.body 1)).valid = true →
      p = classOf s.cls.cfg (s.image (u8 q.body 1)) (u8 q.body 0) (u16 q.body 2) (u16 q.body 4) false (u16 q.body 4) (q.body.drop 8) →
      p.rule = some (k, r) → u8 r 0 ≠ 4 → Completes (.clsProbe q) s fun t =>
        Answers c .ok 0 (probeReply 1 0xFFFFFFFF p) s t ∧ Books s t)

/-- On a part that is on: while no frame waits for its second pass the dispatcher gives the first upstream frame, or without one the
first downstream frame, to the next engine in service under the active epoch, or discards and counts it where the active image is
not valid; the search dispatched longest ago ends with its rule's decision, is gone on DISCARD, and waits for its second pass at the
stripped header on RECIRCULATE; a frame that waits for its second pass takes a new place at the end of the order, or is gone where
its image is not valid any more; a released frame without lookup, learning or copy goes to its queue under its flow context's Port-
ID; a first fault of an engine in service moves its search to the next engine and is noted. (07 R182, 07 R183, 07 R184, 07 R190, 07
R193, 07 R195) -/
def Obligations.PipelineRowsTakeEffect : Prop :=
  ∀ s : State, On s →
    (∀ (f : Frame) (r : List Frame) (e : Nat) (up : Bool), s.cls.flights.any waitsAgain = false → s.waitUp = (if up then f :: r else []) → (up = false → s.waitDown = f :: r) →
      nextEngine s.cls.rot s = some e →
      ((s.image s.cls.epoch).valid = true → Completes .frameDispatch s fun t =>
        t.cls = { s.cls with rot := (e + 1) % 16, flights := s.cls.flights ++
          [{ frame := f, epoch := s.cls.epoch, cfg := s.cls.cfg, engine := e }] } ∧
        t.waitUp = (if up then r else s.waitUp) ∧ t.waitDown = (if up then s.waitDown else r)) ∧
      ((s.image s.cls.epoch).valid = false → Completes .frameDispatch s fun t =>
        t.cls = { s.cls with rot := (e + 1) % 16 } ∧ t.waitUp = (if up then r else s.waitUp) ∧
        t.waitDown = (if up then s.waitDown else r))) ∧
    (∀ (f : Flight) (p : Classed) (k : Nat) (r : Bytes), s.cls.flights.find? searching = some f → p = classFlight f s →
      p.reason = none → p.parse.incomplete = false → p.rule = some (k, r) →
      (u8 r 0 ≠ 2 → u8 r 0 ≠ 4 → exec .frameVerdict s = .next { s with cls := { s.cls with flights := changeFirst searching
                                                                                                  (fun f => some { f with stage := .done (decisionOf p f.frame.ingress k r s.clk.tick) }) s.cls.flights } }) ∧
      (u8 r 0 = 2 → Completes .frameVerdict s fun t =>
        t.cls = { s.cls with flights := changeFirst searching (fun _ => none) s.cls.flights } ∧ Books { s with cls := t.cls } t) ∧
      (∀ o, u8 r 0 = 4 → f.pass ≠ 2 → stripAt p.parse (u8 r 13) = some o → bit (u8 r 1) 4 = false →
        Completes .frameVerdict s fun t =>
          t.cls = { s.cls with flights := changeFirst searching (fun f => some { f with stage := .again (f.start + o) }) s.cls.flights } ∧
          Books { s with cls := t.cls } t)) ∧
    (∀ (f : Flight) (o e : Nat), s.cls.flights.find? waitsAgain = some f → f.stage = .again o → nextEngine s.cls.rot s = some e →
      ((s.image f.epoch).valid = true → exec .recirculateDispatch s = .next { s with cls := { s.cls with
        rot := (e + 1) % 16,
        flights := changeFirst waitsAgain (fun _ => none) s.cls.flights ++
          [{ f with pass := 2, start := o, cfg := s.cls.cfg, engine := e, stage := .search }] } }) ∧
      ((s.image f.epoch).valid = false → Completes .recirculateDispatch s fun t => t.cls = { s.cls with
        rot := (e + 1) % 16, flights := changeFirst waitsAgain (fun _ => none) s.cls.flights } ∧ Books { s with cls := t.cls } t)) ∧
    (∀ (port : Fin 48) (f : Flight) (d : Decision) (u : State), nextRelease port s.cls.flights [] = some (f, d) →
      u = { s with cls := { s.cls with flights := changeFirst (fun x => decide (x = f)) (fun _ => none) s.cls.flights } } →
      d.verdict < 3 → d.key = none → d.learn = none → d.copy = false → 4 ≤ f.frame.ingress → d.queue < 12288 →
      u16 (flowBytes d.flow s) 2 % 8 = 1 → exec (.reorderRelease port) s = .next
        (admitFrame d.queue d.colour { f.frame with port := u16 (flowBytes d.flow s) 0, cls := d.cls, flow := d.flow } u).2) ∧
    (∀ (e : Fin 16) (n : Nat), Plain s → s.cls.enginesOk.getLsbD e = true → s.cls.faulted.getLsbD e = false →
      nextEngine (e + 1) s = some n → Completes (.parserEngineFault e) s fun t =>
        t.cls = { s.cls with
          faulted := s.cls.faulted ||| BitVec.ofNat 16 (2 ^ e.val),
          flights := s.cls.flights.map (fun f => if f.engine = e.val && searching f then { f with engine := n } else f) } ∧
        Books { s with cls := t.cls } t)

/-- Run alone, QUEUE_CONFIG sets priority, weight and limits and keeps the shaper fields for the next refill; QUEUE_QUERY answers the
settings, bytes and frames; SHAPER_CONFIG waits for its refill, marked with the instant from which it counts; SHAPER_QUERY answers
the settings, the credit, the state and the wheel slot; POLICER_PROFILE stores the profile; GATE_LIST where none is pending is
pending until its start, and where it starts at once is the operating list and answers its start. The queries change nothing. (08
R208, 08 R214, 08 R217, 08 R221, 08 R222, 08 R223) -/
def Obligations.SchedulerCommandsAnswer : Prop :=
  ∀ (q : CmdReq) (c : Cmd) (s : State),
    (Runs 0x0500 q c s → Completes (.queueConfig q) s fun t => Answers c .ok 0 [] s t ∧
      Books (s.setQueue (u16 q.body 0) { s.queue (u16 q.body 0) with
        priority := u8 q.body 2, weight := u8 q.body 3, maxBytes := u32 q.body 12, yellow := u32 q.body 16, red := u32 q.body 20,
        nextShapers := some (qShapersOf q.body) }) t) ∧
    (Runs 0x0501 q c s → Completes (.queueQuery q) s fun t =>
      Answers c .ok 0 (queueBlock (u16 q.body 0) (s.queue (u16 q.body 0)) ++ le 4 (s.queue (u16 q.body 0)).bytes ++
        le 4 (s.queue (u16 q.body 0)).frames.length) s t ∧ Books s t) ∧
    (Runs 0x0502 q c s → Completes (.shaperConfig q) s fun t => GoesOn c t ∧
      Books (s.setShaper (u16 q.body 0) { s.shaper (u16 q.body 0) with next := (s.shaper (u16 q.body 0)).next ++
        [(if q.atTick || c.due.isSome then s.clk.t0Ps else s.clk.nowPs,
          { mode := u8 q.body 2, rate := u32 q.body 4, burst := u32 q.body 8 })] }) t) ∧
    (∀ (n : Nat) (x : Shaper), Runs 0x0503 q c s → n = u16 q.body 0 → x = s.shaper n → Completes (.shaperQuery q) s fun t =>
      Answers c .ok 0 (le 2 n ++ le 1 x.cfg.mode ++ zeros 1 ++ le 4 x.cfg.rate ++ le 4 x.cfg.burst ++
        le 4 (unsigned 32 (x.creditAt s.clk.nowPs / creditUnit)) ++ le 1 (shaperState n s) ++ zeros 3 ++
        (match x.wheel with
          | some ps => le 4 (tickOf ps s).1.toNat ++ le 4 (tickOf ps s).2
          | none => zeros 8)) s t ∧ Books s t) ∧
    (Runs 0x0504 q c s → Completes (.policerProfile q) s fun t => Answers c .ok 0 [] s t ∧
      Books { s with policers := SMap.set {} s.policers (u16 q.body 0) { aware := bit (u8 q.body 2) 0, cir := u32 q.body 4,
                                                                                  pir := u32 q.body 8, cbs := u32 q.body 12,
                                                                                  pbs := u32 q.body 16 } } t) ∧
    (∀ (p v now : Nat) (g : GateList), Runs 0x0505 q c s → p = u8 q.body 0 → g = gateListOf q.body → now = tbNow g.timebase s →
      v = gateStart g now → (s.gate p).pending = none →
      (v ≠ now → Completes (.gateList q) s fun t => GoesOn c t ∧
        Books (s.setGate p { s.gate p with pending := some g, startAt := v }) t) ∧
      (v = now → Completes (.gateList q) s fun t =>
        Answers c .ok 0 (le 8 (v / secUnits) ++ le 4 (v / nsUnits % 1000000000) ++ le 4 s.clk.tick.toNat) s t ∧
        t.gate p = { oper := if g.entries.isEmpty then none else some g } ∧
        (∀ k, k ≠ p → t.gate k = s.gate k) ∧ Books { s with gates := t.gates } t))

/-- A free egress port that is up, with the scheduler not under test, is no port of a standby or halted pair, has no PTP_TX waiting, no
frame on the line and no frame too long for its gate sends the head frame of the picked queue: a worker port without link protection
puts out FRAME_START, the frame and its check field and is taken for the frame's time, a host port and a tributary port send as
their line does. A shaper's slot brings its instant; with credit of zero or more it is off the wheel, else entered again. The refill
applies to each shaper the last settings accepted before S2 and the kept shaper fields to each queue. The instants of gate lists
come: an entry boundary only moves the time to it, and a pending list whose command waits becomes the operating one and the command
answers. (08 R210, 08 R211, 08 R212, 08 R213, 08 R214, 08 R217, 08 R218) -/
def Obligations.SchedulerRowsTakeEffect : Prop :=
  ∀ s : State, On s →
    (∀ (p : Fin 44) (fill q : Nat) (f : Frame) (u v w : State), portUp p s = true → schedTested s = false →
      portFree p s ≤ s.clk.nowPs → pairHalts s = false → pairStandby s = false →
      (32 ≤ p.val → p.val < 36 → (s.mac (p.val - 32)).sending = none ∧ (s.ptpOf (p.val - 32)).waiting = []) →
      (portBusy p s).find? (fun q => headTooLong p q fill s) = none →
      pick (1024 + p.val) ((portBusy p s).filter (fun q => eligible q s && headFits p q fill s)) s = (some q, u) →
      dequeue q u = (some f, v) → w = noteActivity v →
      (p.val < 32 → linkProtected p s = false → (s.lane p).transmits = true → Completes (.egressPick p fill) s fun t =>
        plainFrame p { sub := if 2 ≤ laneVersion p s then f.tag else 0, data := f.data } ∈ t.out ∧ t.queues = v.queues ∧
        t.shapers = v.shapers ∧ SMap.get 0 t.egressFree p = s.clk.nowPs + framePs p f.len false s) ∧
      (32 ≤ p.val → p.val < 36 → exec (.egressPick p fill) s = .next (keepOuter s (hostSend (p.val - 32) fill f none w))) ∧
      (36 ≤ p.val → exec (.egressPick p fill) s = .next (keepOuter s
        (emit (.frame (40 + (p.val - 36)) f)
          (bwCount (bwEgress p) f.len (w.modTrib (p.val - 36) (fun x => { x with rx := x.rx ++ [f] }))))))) ∧
    (∀ (n : Fin 65536) (slot : Nat), (s.shaper n).wheel = some slot → Completes (.shaperWheelSlot n) s fun t =>
      t.clk = { s.clk with nowPs := max s.clk.nowPs slot } ∧ (t.shaper n).cfg = (s.shaper n).cfg ∧
      (t.shaper n).credit = (s.shaper n).creditAt (max s.clk.nowPs slot) ∧
      ((t.shaper n).wheel = none ↔ 0 ≤ (t.shaper n).credit) ∧ (∀ k, k ≠ n.val → t.shaper k = s.shaper k)) ∧
    (Due 5 s → Completes .shaperRefill s fun t =>
      (∀ n, (t.shaper n).cfg = (((dueSettings (s.shaper n) (s.clk.t0Ps + 15625000)).1.getLast?).map (·.2)).getD (s.shaper n).cfg) ∧
      t.queues = (s.queues.map (fun e => (e.1, match e.2.nextShapers with
        | some x => { e.2 with shapers := x, nextShapers := none }
        | none => e.2))).filter (fun e => e.2 ≠ {}) ∧ t.tbl = s.tbl) ∧
    (∀ (p : Fin 36) (g : GateList), (s.gate p).oper = some g → exec (.gateEntryBoundary p) s = .next
      (advanceTo ((s.timebase g.timebase).instantOf s.clk.nowPs (tbNow g.timebase s + (gateNow p s).2.2)) s)) ∧
    (∀ (p : Fin 36) (g : GateList) (c : Cmd), (s.gate p).pending = some g → Begun 0x0505 c s → u8 c.req.body 0 = p.val →
      Completes (.gateListStart p) s fun t =>
        Answers c .ok 0 (le 8 ((s.gate p).startAt / secUnits) ++ le 4 ((s.gate p).startAt / nsUnits % 1000000000) ++
          le 4 s.clk.tick.toNat) s t ∧
        t.gate p = { oper := if g.entries.isEmpty then none else some g } ∧
        t.clk = { s.clk with nowPs := max s.clk.nowPs ((s.timebase g.timebase).instantOf s.clk.nowPs (s.gate p).startAt) })

/-- On a part that is on: signal moves a lane that waits for it to HUNT, with the candidate at the first bit; losing it moves a hunting
lane back, its coders started anew. Symbols that do not complete a block are kept; in HUNT a valid header of the next block is
counted, an invalid one slips the candidate by one bit, the 64th valid one in a row locks a mirror lane and begins its HELLOs; in
LOCKED a good header moves the window on. PRBS31 bit errors are added up, saturating. The training marker locks an idle lane with
signal, aligned to the first bit after it; a worker that the lane had lost begins to identify. 200 ns without it, with signal, a
lane with no worker behind it is back in HUNT at that instant. A lane cell's fault puts the lane into FAULT for good. A read of
LANE_HDR_ERR answers both counts and clears them. (09 R231, 09 R232, 09 R234, 09 R236, 09 R237, 09 R246, 01 R17) -/
def Obligations.LaneRowsTakeEffect : Prop :=
  ∀ s : State, On s →
    (∀ n : Fin 40, (s.lane n).state = .waitSignal → exec (.laneSignalDetect n) s = .next (s.modLane n fun x =>
      { (if n.val < 36 then x.hunts else x) with signal := true, validRun := 0 })) ∧
    (∀ n : Fin 40, (s.lane n).state = .hunt → Completes (.laneSignalLoss n) s fun t =>
      t.lane n = { s.lane n with signal := false, state := .waitSignal, validRun := 0, eidle := [], rxLast := 0 } ∧
      t.out = .laneStarts n (s.lane n).rate ((s.lane n).settings.getD {}).flags :: s.out ∧
      (∀ k, k ≠ n.val → t.lane k = s.lane k) ∧ Books { s with lanes := t.lanes } t) ∧
    (∀ (n : Fin 36) (l : List (Fin 4)) (x y : Lane) (b : Option (Bool × Bool × Nat)), x = s.lane n → x.prbs = false → x.loopback ≠ 1 →
      x.eidleAt = none → x.burstEnd = none → x.nextBlock l = (b, y) →
      (x.state = .hunt ∨ x.state = .locked → b = none → Completes (.laneBlockReceived n l) s fun t =>
        t.lane n = y ∧ Books { s with lanes := t.lanes } t) ∧
      (∀ h p, x.state = .hunt → b = some (h, h, p) → Completes (.laneBlockReceived n l) s fun t =>
        t.lane n = { y with validRun := 0, slip := 1, candidate := (y.candidate + 1) % 66 } ∧ Books { s with lanes := t.lanes } t) ∧
      (∀ h p, x.state = .hunt → b = some (h, !h, p) → x.validRun < 63 → Completes (.laneBlockReceived n l) s fun t =>
        t.lane n = { y with validRun := x.validRun + 1 } ∧ Books { s with lanes := t.lanes } t) ∧
      (∀ h p, x.state = .hunt → b = some (h, !h, p) → 63 ≤ x.validRun → 32 ≤ n.val → Completes (.laneBlockReceived n l) s fun t =>
        t.lane n = { y with state := .locked, validRun := 0, winCount := 0, winBad := 0, eidle := [] } ∧ SMap.get 0 t.helloAt n = 0) ∧
      (∀ h p, x.state = .locked → b = some (h, !h, p) → x.winBad < 16 → x.winCount < 63 → Completes (.laneBlockReceived n l) s fun t =>
        t.lane n = { y with
          winCount := x.winCount + 1, eidle := ((h && decide (p = (controlBlock 0x1E eidleBody).2)) :: x.eidle).take 16 } ∧
        Books { s with lanes := t.lanes } t)) ∧
    (∀ (n : Fin 36) (l : List (Fin 4)) (x : Lane), x = s.lane n → x.prbs = true → x.state = .locked → x.loopback ≠ 1 →
      x.eidleAt = none → x.burstEnd = none → Completes (.laneBlockReceived n l) s fun t =>
        (t.lane n).prbsErr = min 65535 (x.prbsErr +
          ((decodeSymbols x.rate (x.settings.getD {}).flags x.rxLast l).1.foldl prbsCheck (0, x.prbsSeen, x.prbsRx)).1) ∧
        Books { s with lanes := t.lanes } t) ∧
    (∀ n : Fin 32, (s.lane n).state = .rxIdle → (s.lane n).signal = true →
      ((s.dev.role = 1 → (s.worker n).state ≠ 0) → Completes (.laneTrainingMarker n) s fun t =>
        t.lane n = { s.lane n with
          state := .locked, winCount := 0, winBad := 0, eidle := [], idlePs := none, candidate := 0, slip := 0, rxBits := [] } ∧
        Books { s with lanes := t.lanes, helloAt := t.helloAt } t) ∧
      (s.dev.role = 1 → (s.worker n).state = 0 → (s.worker n).pulls = [] → (s.worker n).tunnel = [] →
        Completes (.laneTrainingMarker n) s fun t =>
          (t.lane n).state = .locked ∧ (t.worker n).state = 1 ∧ (t.worker n).version = 0)) ∧
    (∀ (n : Fin 32) (ps : Nat), (s.lane n).state = .rxIdle → (s.lane n).idlePs = some ps → s.dev.role = 0 →
      Completes (.laneIdleExitTimeout n) s fun t => (t.lane n).state = .hunt ∧ (t.lane n).idlePs = none ∧
        t.clk.nowPs = max s.clk.nowPs (ps + 200000)) ∧
    (∀ n : Fin 40, (s.lane n).state = .hunt ∨ (s.lane n).state = .waitSignal → Completes (.laneCellFault n) s fun t =>
      (t.lane n).state = .fault ∧ (t.lane n).signal = false ∧ (∀ k, k ≠ n.val → t.lane k = s.lane k)) ∧
    (∀ (path : Path) (n : Fin 40) (same : Bool), Reaches path s →
      same = false ∨ rcNow (2 * hdrErrAddr n) s = none ∧ rcNow (2 * hdrErrAddr n + 1) s = none →
      exec (.laneHdrErrRead path n same) s = .next
        (emit (.value path (0x50004 + 0x400 * n.val) (BitVec.ofNat 32 ((s.lane n).prbsErr * 65536 + (s.lane n).hdrErr)))
          (s.modLane n fun x => { x with hdrErr := 0, prbsErr := 0 })))

/-- Run alone, LANE_TABLE_LOAD of a table without fault stores it and answers entries, revision and board; LANE_CONFIG of a lane not in
use in a powered domain, waiting or hunting or DOWN, disables it, its error counts kept, and answers zeros, or enables it at the
rate with its settings and answers them with their source, or NOT_FOUND where the table has none; LANE_QUERY answers status and
settings; LANE_IDLE of a locked lane that its version lets idle begins the 16 EIDLE blocks after the block under way, or sends a
training burst from idle, and goes on; one that asks for what already is completes; MAC_CONFIG that keeps MODE stores the block and
resets the threshold; MAC_QUERY answers the block and the status. The queries change nothing. (09 R228, 09 R229, 09 R230, 09 R247,
09 R248, 09 R249, 09 R250) -/
def Obligations.LaneCommandsAnswer : Prop :=
  ∀ (q : CmdReq) (c : Cmd) (s : State),
    (Runs 0x0600 q c s → badTableHeader q.body = false → firstBadEntry (u16 q.body 6) none (q.body.drop 32) 0 = none →
      Completes (.laneTableLoad q) s fun t =>
        Answers c .ok 0 (le 2 (u16 q.body 6) ++ slice q.body 12 2 ++ slice q.body 8 4) s t ∧
        Books { s with laneTable := some { board := w32 q.body 8, revision := u16 q.body 12,
                                           entries := (List.range (u16 q.body 6)).map (fun k => entryOf (slice q.body (32 + 16 * k) 16)) } } t) ∧
    (∀ n : Nat, n = q.index → Runs 0x0601 q c s → domainOn (laneDomain n) s = true → laneInUse n s = false →
      (s.lane n).state = .down ∨ (s.lane n).state = .waitSignal ∨ (s.lane n).state = .hunt →
      (u8 q.body 0 ≠ 1 → Completes (.laneConfig q) s fun t => Answers c .ok 0 (zeros 20) s t ∧
        Books (s.modLane n fun x => { hdrErr := x.hdrErr, prbsErr := x.prbsErr }) t) ∧
      (∀ e b, u8 q.body 0 = 1 → findSettings n (u8 q.body 1) s = some (e, b) → Completes (.laneConfig q) s fun t =>
        Answers c .ok 0 (e.bytes ++ le 1 (b2n b) ++ zeros 3) s t ∧
        (t.lane n).state = (if 5 ≤ u8 q.body 1 then .legacy else .waitSignal) ∧ (t.lane n).rate = u8 q.body 1 ∧
        (t.lane n).loopback = u8 q.body 2 ∧ (t.lane n).prbs = bit (u8 q.body 3) 0 ∧ (t.lane n).settings = some e ∧
        (t.lane n).builtin = b ∧ (t.lane n).hdrErr = (s.lane n).hdrErr ∧ (t.lane n).prbsErr = (s.lane n).prbsErr ∧
        (t.lane n).signal = false ∧ (∀ k, k ≠ n → t.lane k = s.lane k) ∧ Books { s with lanes := t.lanes } t) ∧
      (u8 q.body 0 = 1 → findSettings n (u8 q.body 1) s = none → Completes (.laneConfig q) s fun t =>
        Answers c .notFound 0 [] s t ∧ Books s t)) ∧
    (Runs 0x0602 q c s → Completes (.laneQuery q) s fun t => Answers c .ok 0 (le 4 (laneStatus q.index s) ++
        (match (s.lane q.index).settings with | some x => x.bytes | none => zeros 16) ++
        le 1 (b2n (s.lane q.index).builtin) ++ zeros 3) s t ∧ Books s t) ∧
    (∀ (n : Nat) (x : Lane) (b : Nat), n = q.index → x = s.lane n → b = blockPs x.rate → Runs 0x0603 q c s → x.state = .locked →
      x.eidleAt = none → x.burstEnd = none →
      (u8 q.body 0 = 1 → x.txIdle = false → idleAllowed n s = true → (s.worker n).state ≠ 4 → x.exitClock ≠ clockNo s →
        Completes (.laneIdle q) s fun t => GoesOn c t ∧
          Books (s.modLane n fun x => { x with eidleAt := some ((s.clk.nowPs + b - 1) / b * b + 16 * b) }) t) ∧
      (u8 q.body 0 = 1 → x.txIdle = true → idleAllowed n s = true → Completes (.laneIdle q) s fun t =>
        Answers c .ok 0 [] s t ∧ Books s t) ∧
      (u8 q.body 0 = 0 → x.txIdle = true → Completes (.laneIdle q) s fun t => GoesOn c t ∧ (t.lane n).txIdle = false ∧
        (t.lane n).burstEnd = some (s.clk.nowPs + bitsPs (lineKbps x.rate) (if pam4 x.rate then 512 else 256)) ∧
        t.out = .laneSymbols n (trainingBurst x.rate) :: s.out ∧ Books { s with lanes := t.lanes, egressFree := t.egressFree } t) ∧
      (u8 q.body 0 = 0 → x.txIdle = false → Completes (.laneIdle q) s fun t => Answers c .ok 0 [] s t ∧
        Books (s.modLane n fun x => { x with exitClock := clockNo s }) t)) ∧
    (∀ h : Nat, h = q.index - 36 → Runs 0x0604 q c s → (s.mac h).cfg.mode = u8 q.body 0 →
      (∀ n ∈ hostLanes h (u8 q.body 0), (s.lane n).state ≠ .fault ∧ findSettings n 0 s ≠ none) →
      Completes (.macConfig q) s fun t => Answers c .ok 0 [] s t ∧
        Books (s.setMac h { s.mac h with cfg := macOfBlock q.body, threshold := 256, cfgClock := clockNo s }) t) ∧
    (Runs 0x0605 q c s → Completes (.macQuery q) s fun t =>
        Answers c .ok 0 (macBlock (s.mac (q.index - 36)).cfg ++ le 4 (macStatus (q.index - 36) s) ++ zeros 4) s t ∧ Books s t)

/-- On a part awake, or that no host frame wakes, and a port with its link up and room in its buffer, a frame of at least six bytes that
the address filter passes, without error and not a MAC control frame, waits for the upstream pipeline without its FCS, the port as
its ingress; one that the filter does not pass is counted and gone, one that finds no room too. A frame in transmission that
underruns is ended, and the port's threshold rises by 128 or to the whole-frame value (a MAC_CONFIG of the same clock resets it
instead); what was sent of it ends with the complement of its FCS, and the line is free again after the FCS and the gap. The link
goes down with its event, and comes up where the port's mode is on, its domain powered and its lanes wait for signal. (09 R240, 09
R241, 09 R242, 09 R245, 09 R250) -/
def Obligations.MacRowsTakeEffect : Prop :=
  ∀ (h : Fin 4) (s : State), On s →
    (∀ (data : Bytes) (codeErr : Bool), asleep s = false → s.pwr.state ≠ .waking →
      s.pwr.state = .awake ∨ s.pwr.cfg.hostKeep = false → macMode h s = 1 ∨ macMode h s = 2 →
      (s.mac h).link = true →
      (macRoom h s < macHeld h s + (s.mac h).cfg.maxFrame + 4 →
        exec (.macFrameReceived h data codeErr) s = .next (keepOuter s (count .macRxOverflow h s))) ∧
      (macHeld h s + (s.mac h).cfg.maxFrame + 4 ≤ macRoom h s → 6 ≤ data.length → macPasses (s.mac h).cfg (data.take 6) = false →
        exec (.macFrameReceived h data codeErr) s = .next (keepOuter s (count .macRxFiltered h s))) ∧
      (macHeld h s + (s.mac h).cfg.maxFrame + 4 ≤ macRoom h s → 6 ≤ data.length → macPasses (s.mac h).cfg (data.take 6) = true →
        macErrors (s.mac h).cfg data.length (fcsHolds data) codeErr = 0 → be16 data 12 ≠ 0x8808 →
        Completes (.macFrameReceived h data codeErr) s fun t =>
          t.waitUp = s.waitUp ++ [{ data := data.take (data.length - 4), ingress := 4 + h.val }] ∧
          Books { s with waitUp := t.waitUp, ptp := t.ptp } t)) ∧
    ((s.mac h).sending ≠ none → (s.mac h).sendCmd = none → (s.mac h).threshold ≠ 0xFFFF →
      s.clk.nowPs < SMap.get 0 s.egressFree (32 + h.val) → Completes (.macTxUnderrun h) s fun t =>
        t.mac h = { s.mac h with sending := none, threshold :=
          if (s.mac h).cfgClock = clockNo s then 256 else if (s.mac h).cfg.maxFrame ≤ (s.mac h).threshold + 128 then 0xFFFF
          else (s.mac h).threshold + 128 } ∧ underrunEnd h s ∈ t.out ∧
        SMap.get 0 t.egressFree (32 + h.val) = s.clk.nowPs + (if macMode h s = 2 then 320 else 1280) ∧
        Books { s with macs := t.macs, egressFree := t.egressFree } t) ∧
    ((s.mac h).link = true → Completes (.macLinkChange h false) s fun t =>
      t.mac h = { s.mac h with link := false } ∧ (∀ k, k ≠ h.val → t.mac k = s.mac k) ∧ Books { s with macs := t.macs } t) ∧
    ((s.mac h).link = false → macMode h s = 1 ∨ macMode h s = 2 → domainOn 10 s = true →
      (∀ n ∈ hostLanes h (macMode h s), (s.lane n).state = .waitSignal) → Completes (.macLinkChange h true) s fun t =>
        t.mac h = { s.mac h with link := true } ∧ (∀ k, k ≠ h.val → t.mac k = s.mac k) ∧ Books { s with macs := t.macs } t)

/-- On a part that is on: a lane that transmits puts a block out, a standby's worker lane IDLE and HELLO alone; a Mapiyn lane's HELLO
leaves at its instant and the next is a period later; a worker that has no version yet takes the highest common version, the
manager's slot and fresh frame counters from an acknowledging HELLO; at the manager a worker in W3 that follows, is aligned,
admitted and unchanged reaches W4 with full pull credit; a worker stores the delay of an ALIGN and echoes it with ACK, and the
manager puts an acknowledged delay in force; a TICK makes an aligned worker follow the manager, its T0 the delay and the offset
before the arrival; a first TIME_N of the tag of its TIME_S steps TB0. (10 R256, 10 R257, 10 R258, 10 R262, 10 R263, 10 R264) -/
def Obligations.HelloAndTimeBlocksTakeEffect : Prop :=
  ∀ s : State, On s →
    (∀ lane type body : Nat, (s.lane lane).transmits = true → pairStandby s = false ∨ 32 ≤ lane ∨ type = 0x1E ∨ type = 0x33 →
      sendBlock lane type body s = emit (.block lane type body) s) ∧
    (∀ (lane : Fin 36) (u : State), mapiynLane lane s = true → u = advanceTo (SMap.get 0 s.helloAt lane) s →
      exec (.helloTimer lane) s = .next (sendBlock lane 0x33 (helloBody lane u)
        { u with helloAt := SMap.set 0 u.helloAt lane (u.clk.nowPs + helloPeriod lane u) })) ∧
    (∀ (f : HelloFields) (v : Nat), s.dev.role = 2 → mapiynLane 0 s = true → s.role.version = 0 → s.dev.quill = 3 → f.ack = true →
      v = agreedVersion 0 f.versions.toNat s → v ≠ 0 → exec (.helloRx 0 f) s = .next { s with role := { s.role with
        helloSeen := true, ackSeen := true, eidleOk := f.eidleOk, version := v, mgrSlot := f.slot.toNat, txCount := 0, rxCount := 0,
        linkProt := ownLinkProt 0 s && f.linkProt && decide (2 ≤ v) } }) ∧
    (∀ (w : Fin 32) (f : HelloFields), s.dev.role = 1 → mapiynLane w s = true → (s.worker w).state = 3 → f.following = true →
      (s.worker w).aligned = true → (s.worker w).cfg.admitEn = true → (s.worker w).slotId = f.slot.toNat →
      agreedVersion w f.versions.toNat s = (s.worker w).version → SMap.get none s.boot.images w = none →
      Completes (.helloRx ⟨w.val, by omega⟩ f) s fun t => (t.worker w).state = 4 ∧ (t.worker w).credit = 15 ∧
        (∀ k, k ≠ w.val → t.worker k = s.worker k)) ∧
    (∀ delay : BitVec 20, s.dev.role = 2 → mapiynLane 0 s = true → exec (.alignRx 0 delay false) s = .next
      (sendBlock 0 0x4D (delay.toNat + 2 ^ 20) { s with role := { s.role with delay := some delay.toNat } })) ∧
    (∀ (w : Fin 32) (delay : BitVec 20), s.dev.role = 1 → mapiynLane w s = true → (s.worker w).alignDelay = delay.toNat →
      (s.worker w).aligned = false → exec (.alignRx ⟨w.val, by omega⟩ delay true) s = .next
        (s.modWorker w fun x => { x with aligned := true, delay := delay.toNat })) ∧
    (∀ (tick : Word) (offset : BitVec 16) (holdover : Bool) (d : Nat), s.dev.role = 2 → mapiynLane 0 s = true → s.role.delay = some d →
      Completes (.tickBlockRx 0 tick offset holdover) s fun t => t.clk.state = .following ∧ t.clk.followTick = tick ∧
        t.clk.followPs = s.clk.nowPs - d * 125 / 2 - offset.toNat * 125 / 8 ∧ t.role.following = true ∧ t.tb = s.tb) ∧
    (∀ (tag : Byte) (sec : BitVec 48) (ns : BitVec 30) (frac : BitVec 16), s.dev.role = 2 → mapiynLane 0 s = true →
      2 ≤ s.role.version → tb0Source s = 2 → (s.timebase 0).stepped = false →
      Completes (.timeNRx 0 (some (tag, sec)) tag ns frac) s fun t => (t.timebase 0).stepped = true ∧
        (t.timebase 0).offset = offsetNs ((timeOfFields sec.toNat ns.toNat frac.toNat : Int) - (s.timebase 0).at_ (tagT0 tag.toNat s)) ∧
        (t.timebase 0).rate = (s.timebase 0).rate ∧ (∀ n, n ≠ 0 → t.timebase n = s.timebase n))

/-- On a part that is on: a side that ranges a lane sends the next RANGE_REQ of eight, 1 µs after the one before, numbered on, whether
or not responses are outstanding; the other side answers a request with its number and a turnaround that is free; the manager keeps
the round trip from the request of a response's number, and the eighth, with a delay within bounds and little spread, gives the
worker its delay, leads a ranging worker of W2 to W3 and sends ALIGN; without a response within 10 µs the ranging has failed and a
backoff of 64 ticks, doubled with each further failure up to 8,192, begins; when it has run, a worker of W2 that is not held ranges
again. (10 R260, 10 R261) -/
def Obligations.RangingRowsTakeEffect : Prop :=
  ∀ s : State, On s →
    (∀ (w : Fin 36) (u : State), rangesLane w s = true → mapiynLane w s = true →
      (s.worker w).rtts.length + (s.worker w).asked.length < 8 →
      u = advanceTo (s.worker w).rangeNextPs s → exec (.rangingExchange w) s = .next
        (sendBlock w 0x4B (((s.worker w).rangeSeq + 1) % 256) (u.modWorker w fun x => { x with
          ranging := true, rangeSeq := ((s.worker w).rangeSeq + 1) % 256, rangeNextPs := u.clk.nowPs + 1000000
          asked := (s.worker w).asked ++ [(((s.worker w).rangeSeq + 1) % 256, u.clk.nowPs)] }))) ∧
    (∀ (lane : Fin 36) (seq : Byte), workerPart lane s = true → ∃ turn, turn < 2 ^ 24 ∧ exec (.rangeReqRx lane seq) s = .next
      (sendBlock lane 0x4C (seq.toNat + turn * 2 ^ 8) { s with freeCtr := s.freeCtr + 1 })) ∧
    (∀ (w : Fin 32) (seq : Byte) (turn : BitVec 24) (t1 t4 : Nat) (rtts : List Int), mapiynLane w s = true →
      (s.worker w).ranging = true → (s.worker w).asked.find? (fun a => decide (a.1 = seq.toNat)) = some (seq.toNat, t1) →
      rtts = (s.worker w).rtts ++ [2 * ((t4 : Int) - t1) - 125 * (turn.toNat : Int)] →
      (rtts.length < 8 → exec (.rangeRspRx ⟨w.val, by omega⟩ seq turn t4) s = .next
        ((advanceTo t4 s).modWorker w fun x => { x with rtts := rtts, asked := x.asked.filter (fun a => a.1 ≠ seq.toNat) })) ∧
      (∀ d : Nat, 8 ≤ rtts.length → meanDelay rtts + (s.worker w).asymNow = d → d ≤ 16 * (s.worker w).maxDelayNow →
        rttSpread rtts ≤ 4000 → (s.worker w).rerange = false → (s.worker w).state = 2 → (s.lane w).transmits = true →
        pairStandby s = false →
        Completes (.rangeRspRx ⟨w.val, by omega⟩ seq turn t4) s fun t => (t.worker w).state = 3 ∧ (t.worker w).alignDelay = d ∧
          (t.worker w).ranging = false ∧ (t.worker w).retries = 0 ∧ t.out.head? = some (.block w 0x4D d))) ∧
    (∀ (w : Fin 32) (q at' : Nat) (l : List (Nat × Nat)), (s.worker w).asked = (q, at') :: l → (s.worker w).ranging = true →
      (s.worker w).rerange = false →
      Completes (.rangeRspTimeout ⟨w.val, by omega⟩) s fun t => (t.worker w).ranging = false ∧ (t.worker w).asked = [] ∧
        (t.worker w).retries = min 255 ((s.worker w).retries + 1) ∧
        (t.worker w).backoff = some (ownTick s, min 8192 (64 * 2 ^ (min ((s.worker w).retries + 1) 8 - 1))) ∧
        t.clk.nowPs = max s.clk.nowPs (at' + 10000000)) ∧
    (∀ (w : Fin 32) (since : Word) (n : Nat), (s.worker w).backoff = some (since, n) → n ≤ ticksSince since s → (s.worker w).state = 2 →
      (s.worker w).dupHeld = false → exec (.rangingBackoffExpiry ⟨w.val, by omega⟩) s = .next
        (startRanging w false (s.modWorker w fun x => { x with backoff := none })))

/-- On a part that is on: the manager keeps the MAP value of a context that the worker feeds in W4; a worker reports a context's cost
once it has changed by 1,024 bytes, or 16 µs after a smaller change; a worker schedules a PULL whose AT has not passed, in place of
an older one of its GRANT_ID; at AT it sends frames within the budget and PULL_DONE with the cost sent and the cost left;
PULL_CANCEL drops what has not reached AT; at the manager PULL_DONE in its window closes a begun pull and stores LEFT; a pull whose
first block has not come costs four credits and is closed; a frame of KIND 0 that is not pulled and whose check field holds waits
for the upstream pipeline, from a worker in W4 under its lane, from the manager under ingress 8; under link protection its counter
is accepted. (10 R253, 10 R266, 10 R267, 10 R268, 10 R269, 10 R270, 10 R271, 10 R272, 10 R273) -/
def Obligations.GrantRelayRowsTakeEffect : Prop :=
  ∀ s : State, On s →
    (∀ (w : Fin 32) (ctx : Fin 1024) (bytes : Word) (tag : Byte), s.dev.role = 1 → mapiynLane w s = true → 2 ≤ (s.worker w).version →
      (s.worker w).state = 4 → (s.alloc ctx).cfg.feed = 1 → (s.alloc ctx).cfg.worker = w.val →
      exec (.mapRx w ctx bytes tag) s = .next (s.setAlloc ctx { s.alloc ctx with mapBytes := bytes.toNat })) ∧
    (∀ (ctx : Fin 1024) (cost last : Nat) (u : State), s.dev.role = 2 → mapiynLane 0 s = true → 2 ≤ s.role.version →
      cost = ctxCost ctx s → last = SMap.get 0 s.role.reported ctx →
      (last + 1024 ≤ cost ∨ cost + 1024 ≤ last) ∧ u = s ∨
        (cost < last + 1024 ∧ last < cost + 1024) ∧
          (∃ since, SMap.get none s.role.changed ctx = some since ∧ u = advanceTo (since + 16000000) s) →
      exec (.mapReport ctx) s = .next (sendBlock 0 0x66 (ctx.val + cost % 2 ^ 32 * 2 ^ 16 + s.clk.tick.toNat % 256 * 2 ^ 48)
        { u with role := { u.role with
            reported := SMap.set 0 u.role.reported ctx cost, changed := SMap.set none u.role.changed ctx none } })) ∧
    (∀ (tag : Fin 8) (atNs : Fin 125000) (ctx : Fin 1024) (gid : Fin 64) (budget : BitVec 20), s.dev.role = 2 → mapiynLane 0 s = true →
      3 ≤ s.role.version → s.clk.nowPs ≤ psOfTag tag atNs s → exec (.pullRx tag atNs ctx gid budget) s = .next
        { s with role := { s.role with pulls := s.role.pulls.filter (fun p => p.gid ≠ gid.val) ++
          [{ gid := gid.val, ctx := ctx.val, atPs := psOfTag tag atNs s, budget := budget.toNat }] } }) ∧
    (∀ (gid : Fin 64) (p : RolePull), s.dev.role = 2 → mapiynLane 0 s = true →
      s.role.pulls.find? (fun p => decide (p.gid = gid.val)) = some p →
      (s.lane 0).transmits = true → pairStandby s = false → Completes (.pullServe gid) s fun t =>
        t.role.pulls = s.role.pulls.filter (fun p => p.gid ≠ gid.val) ∧ t.clk.nowPs = max s.clk.nowPs p.atPs ∧
        ∃ sent, sent ≤ p.budget ∧ t.out.head? = some (.block 0 0x6B (gid.val + sent % 2 ^ 20 * 2 ^ 8 +
          min (ctxCost p.ctx t) (2 ^ 28 - 1) * 2 ^ 28))) ∧
    (∀ gid : Fin 64, s.dev.role = 2 → mapiynLane 0 s = true → 3 ≤ s.role.version → exec (.pullCancelRx gid) s = .next { s with role := { s.role with
      pulls := s.role.pulls.filter (fun p => p.gid ≠ gid.val || decide (p.atPs ≤ s.clk.nowPs)) } }) ∧
    (∀ (w : Fin 32) (gid : Fin 64) (sent : BitVec 20) (left : BitVec 28) (p : Pull), s.dev.role = 1 → mapiynLane w s = true →
      findPull w gid s = some p → inWindow w p s = true → p.begun = true → pullAlloc p s = none →
      exec (.pullDoneRx w gid sent left) s = .next ((s.setAlloc p.ctx { s.alloc p.ctx with mapBytes := left.toNat }).modWorker w
        fun x => { x with pulls := x.pulls.filter (fun q => q.gid ≠ p.gid) })) ∧
    (∀ (w : Fin 32) (gid : Fin 64) (p : Pull), findPull w gid s = some p → p.begun = false → p.sent = true →
      (chargeWorker w s).1 = false →
      (∀ r ∈ (s.worker w).pulls, r.gid ≠ gid.val → r.begun = false ∧
        max s.clk.nowPs (p.feedPs - 200000) + 24000 < r.atPs + delayPs w s) → Completes (.pullWindowMissed w gid) s fun t =>
        (t.worker w).credit = (s.worker w).credit - 4 ∧ (t.worker w).creditTick = ownTick s ∧
        (t.worker w).pulls = (s.worker w).pulls.filter (fun q => q.gid ≠ p.gid) ∧
        t.clk.nowPs = max s.clk.nowPs (p.feedPs - 200000)) ∧
    (∀ (lane : Fin 32) (f : FrameFields) (field data : Bytes), mapiynLane lane s = true → asleep s = false → f.length ≠ 0 →
      f.kind = 0 → f.pulled = false →
      (linkProtected lane s = false → openField (bodyOf f) f.length.toNat field none = some data →
        (s.dev.role = 1 → (s.worker lane).state = 4 → exec (.mapiynFrameRx lane f field false) s = .next { s with
          waitUp := s.waitUp ++ [{ data, ingress := 8 + lane.val, tag := if 2 ≤ (s.worker lane).version then f.subPort.toNat else 0 }] }) ∧
        (s.dev.role = 2 → exec (.mapiynFrameRx lane f field false) s = .next { s with
          waitUp := s.waitUp ++ [{ data, ingress := 8, tag := if 2 ≤ s.role.version then f.subPort.toNat else 0 }] })) ∧
      (∀ k : Seal, linkProtected lane s = true → rxSeal lane f s = some k →
        (rxShare (linkOf lane s) (b2n f.keyPhase) f.length.toNat s).1 = true →
        openField (bodyOf f) f.length.toNat field (some k) = some data → s.dev.role = 1 → (s.worker lane).state = 4 →
        Completes (.mapiynFrameRx lane f field false) s fun t => (t.worker lane).rxCount = k.counter + 1 ∧ t.waitUp = s.waitUp ++
          [{ data, ingress := 8 + lane.val, tag := if 2 ≤ (s.worker lane).version then f.subPort.toNat else 0 }]))

/-- On a part that is on: a LEAVE from a worker of W4 leads it to W1, and its acknowledgement of a release too; a worker that hears its
manager's LEAVE forgets the manager and acknowledges, and the acknowledgement of its own LEAVE ends its leaving; the queues of a
worker that has stayed in W0 for its removal hold, since reset or since it entered W0, are emptied once; a WORKER_CMD that runs
alone without a reply for 16,000 ticks answers PEER_ABSENT with DETAIL 1 and is no longer outstanding; a WORKER_IMAGE without a
firmware HELLO within 50 ms of its last chunk answers PEER_ABSENT and is over. (10 R278, 10 R280, 10 R281, 10 R284, 19 R428) -/
def Obligations.WorkerRemovalRowsTakeEffect : Prop :=
  ∀ s : State, On s →
    (∀ (lane : Fin 32) (reason : Byte), mapiynLane lane s = true →
      (s.dev.role = 2 → exec (.leaveRx lane reason) s = .next (keepOuter s (sendBlock 0 0x79 0 (roleLost s)))) ∧
      (s.dev.role ≠ 2 → (s.worker lane).state = 4 → Completes (.leaveRx lane reason) s fun t => (t.worker lane).state = 1 ∧
        (t.worker lane).version = 0)) ∧
    (∀ lane : Fin 32, mapiynLane lane s = true →
      (s.dev.role = 2 → exec (.leaveAckRx lane) s = .next { s with role := { s.role with leaving := none } }) ∧
      (s.dev.role ≠ 2 → (s.worker lane).leaveSent = true → Completes (.leaveAckRx lane) s fun t => (t.worker lane).state = 1 ∧
        (t.worker lane).version = 0)) ∧
    (∀ w : Fin 32, s.dev.role = 1 → (s.worker w).state = 0 → (s.worker w).flushed = false →
      (s.worker w).cfg.removalHold ≤ ticksSince ((s.worker w).w0Tick.getD 0) s →
      Completes (.removalHoldExpiry w) s fun t =>
        (∀ q, 8192 + 64 * w.val ≤ q → q < 8192 + 64 * w.val + 64 → (t.queue q).frames = []) ∧ (t.worker w).flushed = true ∧
        Books { s with queues := t.queues, workers := t.workers } t) ∧
    (∀ (w : Fin 32) (c : Cmd), Begun 0x0615 c s → (s.worker w).tunnel.contains c.seq = true → 16000 ≤ (s.clk.tick - c.tick).toNat →
      Completes (.workerCmdTimeout w c.seq) s fun t => Answers c .peerAbsent 1 [] s t ∧
        Books (s.modWorker w fun x => { x with tunnel := x.tunnel.filter (· ≠ c.seq) }) t) ∧
    (∀ (w : Fin 32) (r : ImageRun) (c : Cmd), Begun 0x0620 c s → SMap.get none s.boot.images w = some r → c.seq = r.cmd →
      SMap.get none s.mem.fetches c.seq = none → Completes (.workerImageTimeout w) s fun t => Answers c .peerAbsent 0 [] s t ∧ SMap.get none t.boot.images w = none ∧
        t.clk.nowPs = max s.clk.nowPs (r.lastPs + 50000000000))

/-- Run alone, WORKER_CONFIG that neither drops a worker of W4 nor changes its link protection stores what applies at once and keeps all
for the tick edge; WORKER_QUERY answers the registers and the configuration and changes nothing; WORKER_RECOVER of a quarantined
worker on a locked lane leads to W1, else to W0; WORKER_RERANGE of a worker of W3 or W4 that is not ranging begins a ranging and
goes on; WORKER_RELEASE of a worker of W4 without pulls and queued frames sends LEAVE with reason 2 and goes on; WORKER_CMD to an
identified worker without link protection is sent as a frame of KIND 1 once port 6 has its turn and goes on; WORKER_IMAGE to a
worker whose ROM waits begins to read the image and goes on. (10 R258, 10 R264, 10 R275, 10 R281, 10 R282, 10 R283, 10 R284, 19
R428) -/
def Obligations.WorkerCommandsAnswer : Prop :=
  ∀ (q : CmdReq) (c : Cmd) (s : State) (w : Nat), w = q.index →
    (Runs 0x0610 q c s → (s.worker w).state = 4 → (wrkCfgOf q.body).admitEn = true →
      (wrkCfgOf q.body).linkProtect = (s.worker w).cfg.linkProtect → Completes (.workerConfig q) s fun t => Answers c .ok 0 [] s t ∧
        Books (s.modWorker w fun x => { x with
          cfgNext := some (wrkCfgOf q.body),
          cfg := { x.cfg with admitEn := true, asym := (wrkCfgOf q.body).asym, maxDelay := (wrkCfgOf q.body).maxDelay,
                              pullMargin := (wrkCfgOf q.body).pullMargin } }) t) ∧
    (Runs 0x0611 q c s → Completes (.workerQuery q) s fun t =>
      Answers c .ok 0 (le 4 (wrkStatus w s) ++ le 4 ((s.worker w).delay % 2 ^ 20) ++ le 4 (wrkRange w s) ++ le 4 (wrkErr w s) ++
        le 4 (wrkPull w s) ++ (s.worker w).cfg.bytes) s t ∧ Books s t) ∧
    (Runs 0x0612 q c s → (s.worker w).state = 5 → (s.worker w).pulls = [] → (s.worker w).tunnel = [] →
      Completes (.workerRecover q) s fun t => Answers c .ok 0 [] s t ∧
        (t.worker w).state = (if (s.lane w).state = .locked then 1 else 0) ∧ (t.worker w).version = 0) ∧
    (Runs 0x0613 q c s → (s.worker w).state = 3 ∨ (s.worker w).state = 4 → (s.worker w).ranging = false →
      Completes (.workerRerange q) s fun t => GoesOn c t ∧ Books (startRanging w true s) t) ∧
    (Runs 0x0614 q c s → (s.worker w).state = 4 → (s.worker w).pulls = [] → portBusy w s = [] → (s.lane w).transmits = true →
      pairStandby s = false → Completes (.workerRelease q) s fun t => GoesOn c t ∧ t.out = .block w 0x78 2 :: s.out ∧
        Books (s.modWorker w fun x => { x with leaving := true, leaveSent := true }) t) ∧
    (Runs 0x0615 q c s → 2 ≤ (s.worker w).state → (s.worker w).tunnel.length < 4 → s.dev.role = 1 → (s.worker w).linkProt = false →
      hasTurn 6 [35] s = true → (s.lane w).transmits = true → pairStandby s = false → quiesceNow s = false →
      Completes (.workerCmd q) s fun t => GoesOn c t ∧ t.out = plainFrame w { kind := 1, data := q.body } :: s.out ∧
        Books { s.modWorker w (fun x => { x with tunnel := x.tunnel ++ [c.seq] }) with
          mem := { s.mem with order := t.mem.order }, egressFree := t.egressFree } t) ∧
    (∀ image : Bytes, Runs 0x0620 q c s → (s.worker w).state = 1 → (s.worker w).helloSeen = true → (s.worker w).peerVersions = 0 →
      SMap.get none s.boot.images w = none →
      hasTurn 0 hostRead_ s = true ∨ breachesRank 0 hostRead_ s = false → Completes (.workerImage q image) s fun t => GoesOn c t ∧
        (∃ r, SMap.get none t.boot.images w = some r ∧ r.cmd = c.seq ∧ r.startTick = ownTick s) ∧
        (∃ f, SMap.get none t.mem.fetches c.seq = some f ∧ f.left = (u32 q.body 8 + 4095) / 4096 ∧ f.data = fit (u32 q.body 8) image) ∧
        Books { s with boot := t.boot, mem := t.mem } t)

/-- Run alone, TIME_CONFIG stores the nominal frequency of REFCLK_IN, which stays valid only where it is the same; TIME_SET with OP 0
steps the timebase to the given value, with OP 1 by the given nanoseconds, in the clock after, and answers the value in that clock,
with OP 2, on a timebase whose servo is off or that has none, sets RATE from there on; SERVO_CONFIG starts a servo that is off in
ACQUIRE with an empty integrator, and of a running one with the same reference replaces the settings; SERVO_SAMPLE of a servo that
runs stores the offset and the instant and changes no other timebase, of one that is off it changes nothing; PON_TOD for a frame
still to come waits for it, and for one already stamped, while another source leads TB0, answers the offset as unused. (12 R307, 12
R308, 12 R310, 12 R311, 12 R321, 12 Table 12.3) -/
def Obligations.TimeCommandsAnswer : Prop :=
  ∀ (q : CmdReq) (c : Cmd) (s : State) (n : Nat), n = q.index →
    (Runs 0x0800 q c s → Completes (.timeConfig q) s fun t => Answers c .ok 0 [] s t ∧ Books { s with time := { s.time with
      refSel := u8 q.body 0, refValid := s.time.refValid && decide (u8 q.body 0 = s.time.refSel) } } t) ∧
    (Runs 0x0801 q c s →
      (∀ v, u8 q.body 0 = 0 ∧ v = timeOf q.body 4 % tbWrap ∨ u8 q.body 0 = 1 ∧
          v = ((((s.timebase n).at_ (nextClock s) : Int) + signed 64 (u64 q.body 16) * nsUnits) % (tbWrap : Int)).toNat →
        Completes (.timeSet q) s fun t => Answers c .ok 0 (timeValue v) s t ∧
        (t.timebase n).base = v ∧ (t.timebase n).atPs = nextClock s ∧
        (t.timebase n).rate = (s.timebase n).rate ∧ (∀ k, k ≠ n → t.timebase k = s.timebase k) ∧
        Books { s with tb := t.tb, pms := t.pms, time := t.time, captures := t.captures } t) ∧
      (u8 q.body 0 = 2 → n < 2 ∨ (s.timebase n).state = 0 → Completes (.timeSet q) s fun t =>
        Answers c .ok 0 (timeValue ((s.timebase n).at_ (nextClock s))) s t ∧
        Books (setRate n (signed 32 (u32 q.body 24)) s) t)) ∧
    (Runs 0x0802 q c s → (servoOf q.body).kind ≠ 0 →
      ((s.timebase n).state = 0 → Completes (.servoConfig q) s fun t => Answers c .ok 0 [] s t ∧
        (t.timebase n).state = 1 ∧ (t.timebase n).servo = servoOf q.body ∧ (t.timebase n).integ = 0 ∧
        (t.timebase n).samplePs = s.clk.nowPs ∧ Books { s with tb := t.tb } t) ∧
      ((s.timebase n).state ≠ 0 → (s.timebase n).servo.kind = (servoOf q.body).kind → Completes (.servoConfig q) s fun t =>
        Answers c .ok 0 [] s t ∧ Books (s.setTimebase n { s.timebase n with servo := servoOf q.body }) t)) ∧
    (Runs 0x0803 q c s →
      ((s.timebase n).state = 0 → Completes (.servoSample q) s fun t => Answers c .ok 0 [] s t ∧ Books s t) ∧
      ((s.timebase n).state ≠ 0 → Completes (.servoSample q) s fun t => Answers c .ok 0 [] s t ∧
        (t.timebase n).offset = offsetNs (signed 64 (u64 q.body 0)) ∧ (t.timebase n).samplePs = s.clk.nowPs ∧
        (∀ k, k ≠ n → t.timebase k = s.timebase k))) ∧
    (∀ w : TodWait, Runs 0x0804 q c s → (s.inst n).sync.state = 2 →
      w = { cmd := c.seq, sfcLo := w32 q.body 0, asymPs := signed 32 (u32 q.body 4), stamp := timeOf q.body 8 } →
      (stampOf n w.sfcLo s = none → 0 < tickDiff w.sfcLo (BitVec.ofNat 32 (s.inst n).sync.sfc) → Completes (.ponTod q) s fun t =>
        GoesOn c t ∧ Books (s.setTod n { s.todOf n with waiting := (s.todOf n).waiting ++ [w] }) t) ∧
      (∀ v, stampOf n w.sfcLo s = some v → 1 < tb0Source s → Completes (.ponTod q) s fun t =>
        Answers c .ok 0 (todReply (todTheta n w v s) 3 s) s t ∧ Books s t))

/-- Run alone, OUTPUT_CONFIG of an asserted output waits for the end of its pulse; of an output that is not asserted it applies at once,
and a TEV output that is enabled with a start that lies ahead has that start as its target and answers it, a disabled one has none;
CAPTURE_CONFIG stores its settings and discards waiting records only where the timebase changes; CAPTURE_READ answers and removes
the oldest records; PTP_CONFIG stores its settings; PTP_TX on a port with link and room waits for the port and goes on; PTP_RX_READ
answers and removes the oldest records. (12 R314, 12 R315, 12 R316, 12 R317, 12 R318, 12 R321) -/
def Obligations.OutputAndPtpCommandsAnswer : Prop :=
  ∀ (q : CmdReq) (c : Cmd) (s : State) (n : Nat), n = u8 q.body 0 →
    (Runs 0x0805 q c s →
      ((s.output n).asserted = true → Completes (.outputConfig q) s fun t =>
        Answers c .ok 0 (if n < 8 ∧ (outOf q.body).enable then timeValue (outOf q.body).start else zeros 12) s t ∧
        Books (s.setOutput n { s.output n with cfgNext := some (outOf q.body) }) t) ∧
      ((s.output n).asserted = false → (outOf q.body).enable = false ∨ 8 ≤ n → Completes (.outputConfig q) s fun t =>
        Answers c .ok 0 (if n < 8 then timeValue 0 else zeros 12) s t ∧
        Books (s.setOutput n { s.output n with cfg := outOf q.body, cfgNext := none, target := none }) t) ∧
      ((s.output n).asserted = false → (outOf q.body).enable = true → n < 8 →
        0 < comparatorD (outOf q.body).start (tbNow (outOf q.body).timebase s) → Completes (.outputConfig q) s fun t =>
          Answers c .ok 0 (timeValue (outOf q.body).start) s t ∧
          Books (s.setOutput n { s.output n with cfg := outOf q.body, cfgNext := none, target := some (outOf q.body).start }) t)) ∧
    (Runs 0x0806 q c s → Completes (.captureConfig q) s fun t => Answers c .ok 0 [] s t ∧
      Books (s.setCapture n { s.capture n with timebase := u8 q.body 1, edge := u8 q.body 2,
                                                  queue := if (s.capture n).timebase = u8 q.body 1 then (s.capture n).queue else [] }) t) ∧
    (Runs 0x0807 q c s → Completes (.captureRead q) s fun t =>
      Answers c .ok 0 (le 1 ((s.capture n).queue.take (u8 q.body 1)).length ++ zeros 3 ++
        ((s.capture n).queue.take (u8 q.body 1)).flatMap (fun e => timeValue e.1 ++ le 1 e.2 ++ zeros 3)) s t ∧
      Books (s.setCapture n { s.capture n with queue := (s.capture n).queue.drop (u8 q.body 1) }) t) ∧
    (Runs 0x0808 q c s → Completes (.ptpConfig q) s fun t => Answers c .ok 0 [] s t ∧
      Books (s.setPtp n { s.ptpOf n with rxEn := bit (u8 q.body 1) 0, timebase := u8 q.body 2 }) t) ∧
    (Runs 0x0809 q c s → (s.mac n).link = true → (s.ptpOf n).waiting.length < 4 → Completes (.ptpTx q) s fun t => GoesOn c t ∧
      Books (s.setPtp n { s.ptpOf n with waiting := (s.ptpOf n).waiting ++ [(c.seq, q.body.drop 4)] }) t) ∧
    (Runs 0x080A q c s → Completes (.ptpRxRead q) s fun t =>
      Answers c .ok 0 (le 1 ((s.ptpOf n).ring.take (u8 q.body 1)).length ++ zeros 3 ++
        ((s.ptpOf n).ring.take (u8 q.body 1)).flatMap (fun r =>
          le 1 r.msg ++ le 1 r.domain ++ le 2 r.seq ++ fit 10 r.port ++ zeros 2 ++ timeValue r.time)) s t ∧
      Books (s.setPtp n { s.ptpOf n with ring := (s.ptpOf n).ring.drop (u8 q.body 1) }) t)

/-- On a part that is on: an armed comparator whose target has come asserts its output for WIDTH_NS and takes its next target; a pulse
ends at its instant; a pad that drives shows both edges; PPS_OUT asserts at a whole second; a capture edge that is enabled, with
room, no edge before it and no servo that it may step, is recorded with its timebase's value; the loss of REFCLK_IN clears its valid
bit and a valid one of a selected frequency sets it; a correction ends at its instant with RATE 0; a servo without samples for
HOLD_MS holds over at that instant at its integrator's rate; a PON_TOD whose instance lost sync before its frame came answers
NOT_FOUND, and one whose frame has come, while another source leads TB0, answers it as unused; a read of TB_NS answers and latches
one value. (12 R306, 12 R307, 12 R309, 12 R310, 12 R311, 12 R316, 12 R317, 12 R318, 12 R319, 12 Table 12.3) -/
def Obligations.TimeRowsTakeEffect : Prop :=
  ∀ s : State, On s →
    (∀ (o : Fin 8) (v : Nat), (s.output o).target = some v → (s.output o).cfg.enable = true →
      comparatorD v (tbNow (s.output o).cfg.timebase s) ≤ 0 → Completes (.comparatorFire o) s fun t =>
        t.output o = { s.output o with asserted := true, endPs := s.clk.nowPs + (s.output o).cfg.widthNs * 1000,
                                       target := nextTarget (s.output o).cfg v (tbNow (s.output o).cfg.timebase s) } ∧
        ((s.output o).asserted = false → padDriven o s = true → t.out = .pad o (!(s.output o).cfg.activeLow) :: s.out) ∧
        (∀ k, k ≠ o.val → t.output k = s.output k) ∧ Books { s with outputs := t.outputs } t) ∧
    (∀ o : Fin 9, (s.output o).asserted = true → (s.output o).cfgNext = none → Completes (.outputPulseEnd o) s fun t =>
      t.output o = { s.output o with asserted := false } ∧ (padDriven o s = true → t.out = .pad o (s.output o).cfg.activeLow :: s.out) ∧
      (∀ k, k ≠ o.val → t.output k = s.output k) ∧ Books { advanceTo (s.output o).endPs s with outputs := t.outputs } t) ∧
    ((s.output 8).cfg.enable = true → Completes .ppsOutSecond s fun t => (t.output 8).asserted = true ∧
      (t.output 8).endPs = t.clk.nowPs + (s.output 8).cfg.widthNs * 1000 ∧ s.clk.nowPs ≤ t.clk.nowPs ∧ t.tb = s.tb) ∧
    (∀ (k : Fin 9) (rising : Bool), s.pwr.state = .awake → bit (s.capture k).edge (if rising then 0 else 1) = true →
      (s.capture k).lastPs = none → (s.capture k).queue.length < 16 →
      (∀ n, (s.timebase n).servo.kind = 2 → (s.timebase n).servo.index = k.val → (s.timebase n).servo.stepEn = false) → Completes (.captureEdge k rising) s fun t =>
        t.capture k = { s.capture k with
          queue := (s.capture k).queue ++ [(tbNow (s.capture k).timebase s, if rising then 1 else 2)],
          lastPs := some s.clk.nowPs } ∧ (∀ j, j ≠ k.val → t.capture j = s.capture j)) ∧
    (s.time.refValid = true → Completes .refclkLoss s fun t => Books { s with time := { s.time with refValid := false } } t) ∧
    (s.time.refSel ≠ 0 → exec .refclkInValid s = .next { s with time := { s.time with refValid := true } }) ∧
    (s.time.correcting = true → exec .tb0CorrectionEnd s = .next
      { setRate 0 0 (advanceTo s.time.endPs s) with time := { s.time with correcting := false } }) ∧
    (∀ n : Fin 8, 2 ≤ n.val → (s.timebase n).state = 1 ∨ (s.timebase n).state = 2 → Completes (.servoHoldTimeout n) s fun t =>
      (t.timebase n).state = 3 ∧ (t.timebase n).rate = (s.timebase n).integ / 2 ^ 24 ∧
      t.clk.nowPs = max s.clk.nowPs ((s.timebase n).samplePs + (s.timebase n).servo.holdMs * 1000000000) ∧
      (∀ k, k ≠ n.val → t.timebase k = s.timebase k)) ∧
    (∀ (i : Fin 4) (w : TodWait) (c : Cmd), Begun 0x0804 c s → (s.todOf i).waiting = [w] → w.cmd = c.seq →
      (w.got = none → w.lost = true ∨ (s.inst i).sync.state ≠ 2 → Completes (.ponTodSample i) s fun t => Answers c .notFound 0 [] s t ∧
        (t.todOf i).waiting = []) ∧
      (∀ v, w.got = some v → 1 < tb0Source s → Completes (.ponTodSample i) s fun t =>
        Answers c .ok 0 (todReply (todTheta i w v s) 3 s) s t ∧ (t.todOf i).waiting = [] ∧ t.tb = s.tb)) ∧
    (∀ (path : Path) (n : Fin 8), Reaches path s → exec (.tbNsRead path n) s = .next (emit
      (.value path (0x80000 + 0x20 * n.val) (BitVec.ofNat 32 (tbNow n s / nsUnits % 1000000000)))
      (s.setLatch path { s.latch path with
        tbSecLo := SMap.set 0 (s.latch path).tbSecLo n (BitVec.ofNat 32 (tbNow n s / secUnits)),
        tbSecHi := SMap.set 0 (s.latch path).tbSecHi n
                     (BitVec.ofNat 32 (tbNow n s % nsUnits * 65536 + tbNow n s / secUnits / 2 ^ 32)) })))

/-- Run alone, where no circuit that is carried is disturbed: TRIB_PORT_CONFIG enables a port on a legacy lane in HUNTING with OOF, or
takes it out of service, or stores timing and degrade settings of a port that stays out; TRIB_PATH_CONFIG of an unassigned path
stores the path, and its circuit starts afresh; VCAT_CONFIG stores the group; MSP_CONFIG enables a pair with its settings;
MSP_COMMAND of an enabled pair takes the request where no higher one stands above it and answers what is selected, of another it
answers NOT_FOUND; PM_READ answers the bin, or NOT_FOUND, and changes nothing. (11 R286, 11 R292, 11 R299, 11 R302, 11 R303, 11
R304, 11 Table 11.1) -/
def Obligations.TributaryCommandsAnswer : Prop :=
  ∀ (q : CmdReq) (c : Cmd) (s : State),
    (∀ n : Nat, n = q.index → Runs 0x0700 q c s → carries (circuitsOn n s) s = false →
      (u8 q.body 0 = 1 → tribLane n s = true → (s.trib n).enable = false → Completes (.tribPortConfig q) s fun t =>
        Answers c .ok 0 [] s t ∧ (t.trib n).enable = true ∧ (t.trib n).align = 1 ∧ (t.trib n).oof = true ∧
        (t.trib n).los = !(s.lane (24 + n)).signal ∧ (t.trib n).txTiming = u8 q.body 1 ∧ (t.trib n).sdExp = u8 q.body 2) ∧
      (u8 q.body 0 ≠ 1 → (s.trib n).enable = true → Completes (.tribPortConfig q) s fun t =>
        Answers c .ok 0 [] s t ∧ (t.trib n).enable = false ∧ (t.trib n).align = 0 ∧ (t.trib n).oof = false ∧
        (t.trib n).lof = false ∧ (t.trib n).los = false ∧ (t.trib n).txTiming = u8 q.body 1 ∧ (t.trib n).sdExp = u8 q.body 2) ∧
      (u8 q.body 0 ≠ 1 → (s.trib n).enable = false → Completes (.tribPortConfig q) s fun t =>
        Answers c .ok 0 [] s t ∧ Books (s.setTrib n { s.trib n with txTiming := u8 q.body 1, sdExp := u8 q.body 2 }) t)) ∧
    (∀ n : Nat, n = u16 q.body 0 → Runs 0x0701 q c s → (s.tpath n).mode = 0 → u8 q.body 2 ≠ 0 →
      noJbRoom (jbTotal (s.setTpath n (pathOfBlock q.body))) = false →
      Completes (.tribPathConfig q) s fun t => Answers c .ok 0 [] s t ∧ t.tpath n = pathOfBlock q.body ∧
        t.circ n = (if u8 q.body 2 = 1 ∨ u8 q.body 2 = 2 then { emitPs := s.clk.nowPs } else {}) ∧
        (∀ k, k ≠ n → t.tpath k = s.tpath k) ∧ t.tribs = s.tribs) ∧
    (∀ (g : Nat) (v : Vcat), g = u8 q.body 0 → v = vcatOfBlock q.body → Runs 0x0702 q c s → carries [1024 + g] s = false →
      u8 q.body 1 = 0 ∨ noJbRoom (jbTotal (s.setVcat g v)) = false →
      Completes (.vcatConfig q) s fun t => Answers c .ok 0 [] s t ∧ t.vcat g = { v with loa := (t.vcat g).loa } ∧
        t.circ (1024 + g) = (if v.x = 0 then {} else { emitPs := s.clk.nowPs }) ∧ (∀ k, k ≠ g → t.vcat k = s.vcat k) ∧
        Books { s with vcats := t.vcats, circs := t.circs, tpaths := t.tpaths } t) ∧
    (∀ k : Nat, k = q.index / 2 → Runs 0x0703 q c s → u8 q.body 0 = 1 → carries (circuitsOn q.index s) s = false →
      Completes (.mspConfig q) s fun t => Answers c .ok 0 [] s t ∧ (t.msp k).enabled = true ∧
        (t.msp k).bidir = decide (u8 q.body 1 = 1) ∧ (t.msp k).revertive = decide (u8 q.body 2 = 1) ∧
        (t.msp k).wtrMin = u8 q.body 3 ∧ (∀ j, j ≠ k → t.msp j = s.msp j)) ∧
    (∀ k : Nat, k = q.index / 2 → Runs 0x0704 q c s →
      ((s.msp k).enabled = false → Completes (.mspCommand q) s fun t => Answers c .notFound 0 [] s t ∧ Books s t) ∧
      ((s.msp k).enabled = true → (s.msp k).request ≤ mspCode (u8 q.body 0) ∨ u8 q.body 0 < 3 →
        Completes (.mspCommand q) s fun t =>
          Answers c .ok 0 (le 1 (t.msp k).selected ++ le 1 (t.msp k).request ++ zeros 2) s t ∧
          (t.msp k).command = mspCode (u8 q.body 0) ∧ (∀ j, j ≠ k → t.msp j = s.msp j))) ∧
    (Runs 0x0705 q c s →
      (∀ b, (SMap.get none s.pms (4096 * u8 q.body 0 + u16 q.body 2)).bind (binOf (u8 q.body 1)) = some b →
        Completes (.pmRead q) s fun t => Answers c .ok 0 (le 8 b.start ++ le 4 b.es ++ le 4 b.ses ++ le 4 b.bbe ++ le 4 b.uas ++
          le 1 (b2n b.suspect + 2 * b2n b.adjusted) ++ zeros 3) s t ∧ Books s t) ∧
      ((SMap.get none s.pms (4096 * u8 q.body 0 + u16 q.body 2)).bind (binOf (u8 q.body 1)) = none →
        Completes (.pmRead q) s fun t => Answers c .notFound 0 [] s t ∧ Books s t))

/-- On a part that is on: the bits that a hunting port with signal recovers from the samples go through the hunt, and lock takes it out
of OOF; in the hunt the pattern opens a candidate where fewer than four stand, a candidate without it falls, and the third time in
place is lock; an enabled port sends its frame at each frame time, and in frame takes the received one; after 3 ms LOF follows OOF;
a circuit without RTP that is on and has a packet's data, or is in trail fail, appends its packet to the upstream pipeline and
counts its sequence on; a packet that arrives leaves its port's queue, and without a circuit is counted; the packet that is due is
played at its instant, and an absent one is replaced; the wait to restore ends at its instant; a read of TRIB_PATH_STATUS answers it
and latches TRIB_PATH_JB; each monitored entity has its second decided, and when item 9 is due its bins closed. (11 R287, 11 R288,
11 R289, 11 R294, 11 R296, 11 R297, 11 R300, 11 R301, 11 R302, 00 R460) -/
def Obligations.TributaryRowsTakeEffect : Prop :=
  ∀ s : State, On s →
    (∀ (k : Fin 8) (l : List Bool) (y : Trib) (ev : List HuntEvent), (s.trib k).enable = true → (s.trib k).align = 1 →
      (s.trib k).los = false → (s.trib k).hunt (oversampling (s.lane (24 + k.val)).rate) (ausOf k s) l = (y, ev) →
      (HuntEvent.locked ∉ ev → Completes (.tribFramePattern k l) s fun t => t.trib k = y ∧ (∀ j, j ≠ k.val → t.trib j = s.trib j) ∧
        Books { s with tribs := t.tribs } t) ∧
      (HuntEvent.locked ∈ ev → Completes (.tribFramePattern k l) s fun t => (t.trib k).align = y.align ∧
        (t.trib k).offset = y.offset ∧ (t.trib k).cands = y.cands ∧ (t.trib k).oof = false)) ∧
    (∀ (n : Nat) (x : Trib) (b : Bool) (pos shift : Nat), pos = (x.bitNo + 1) % frameBits n → shift = (x.shift * 2 + b2n b) % 2 ^ 48 →
      (∀ c ∈ x.cands, (c.push b).falseB1 n shift = false) →
      (shift = framing → (∀ c ∈ x.cands, c.pos ≠ pos) → x.cands.length < 4 →
        (x.huntBit n b).1.cands = x.cands.map (fun c => c.push b) ++ [({ pos } : Cand)] ∧ (x.huntBit n b).2 = []) ∧
      (shift ≠ framing → (x.huntBit n b).1.cands = (x.cands.map (fun c => c.push b)).filter (fun c => decide (c.pos ≠ pos))) ∧
      (∀ c, shift = framing → x.cands.find? (fun c => decide (c.pos = pos)) = some c → 2 ≤ c.hits →
        (x.huntBit n b).1.align = 2 ∧ (x.huntBit n b).1.offset = pos ∧ (x.huntBit n b).1.cands = [] ∧
        (x.huntBit n b).2 = [.locked])) ∧
    (∀ (k : Fin 8) (f : StmFrame), (s.trib k).enable = true → (s.msp (k.val / 2)).enabled = false → pairStandby s = false →
      Completes (.tribStmFrame k f) s fun t => (t.trib k).txPlace = ((s.trib k).txPlace + 1) % 4 ∧
        (∃ ppm data, Out.stm k (oversampling (s.lane (24 + k.val)).rate) ppm data ∈ t.out) ∧ (∀ j, j ≠ k.val → t.trib j = s.trib j) ∧
        ((s.trib k).align = 2 → (s.trib k).los = false → f.patternOk = true → (t.trib k).align = 2 ∧ (t.trib k).errRun = 0 ∧
          (t.trib k).msRdi = decide (f.k2.toNat % 8 = 6) ∧ (t.trib k).k1Last = f.k1.toNat ∧
          (t.trib k).rxPpm = clampTo 100000 f.ppm)) ∧
    (∀ k : Fin 8, (s.trib k).enable = true → (s.trib k).oof ≠ (s.trib k).lof → Completes (.tribLofTimer k) s fun t =>
      t.trib k = { s.trib k with lof := (s.trib k).oof, txPpm := (t.trib k).txPpm } ∧ t.clk.nowPs = max s.clk.nowPs ((s.trib k).oofPs + 3000000000)) ∧
    (∀ (c : Fin 1056) (k : CircCfg) (l : Bool) (pay : Bytes) (u : State), circuitOn c s = true → k = circCfg c s → k.clock ≠ 1 →
      l = circuitFails c s → l = true ∨ 8 * k.payload ≤ (s.circ c).rxBits.length →
      pay = (if l then List.replicate k.payload (0xFF : Byte) else msbBytes k.payload (s.circ c).rxBits) →
      u = (if l then advanceTo ((s.circ c).emitPs + k.pktPs) s else s) →
      Completes (.cesPacketEmit c) s fun t => t.clk = u.clk ∧ t.circ c = { s.circ c with
          txSeq := ((s.circ c).txSeq + 1) % 65536, emitPs := u.clk.nowPs,
          rxBits := if l then [] else (s.circ c).rxBits.drop (8 * k.payload) } ∧
        t.waitUp = s.waitUp ++ [{ data := k.hdr.take k.hdrLen ++ be 4 (b2n l * 2 ^ 27 + b2n (s.circ c).lops * 2 ^ 26 +
                                            (if 4 + pay.length < 64 then 4 + pay.length else 0) * 65536 + (s.circ c).txSeq) ++ pay,
                                  ingress := (circIngress c s).1, tag := (circIngress c s).2 }]) ∧
    (∀ (k : Fin 8) (f : Frame) (rest : List Frame), (s.trib k).rx = f :: rest →
      Completes (.cesPacketRx k) s (fun t => (t.trib k).rx = rest) ∧
      (circuitOfFlow f.flow s = none → exec (.cesPacketRx k) s = .next (keepOuter s
        (count .cesRxNoCircuit 0 (s.modTrib k fun x => { x with rx := rest }))))) ∧
    (∀ (c : Fin 1056) (n : Nat), circuitOn c s = true → (s.circ c).playing = true → (s.circ c).next = some n →
      (∀ p, SMap.get none (s.circ c).held n = some p → Completes (.cesPlayoutDue c) s fun t =>
        t.out = .played c (if p.l then none else some p.data) :: s.out ∧ (t.circ c).held = SMap.set none (s.circ c).held n none ∧
        (t.circ c).next = some ((n + 1) % 65536) ∧ (t.circ c).replaced = 0 ∧ (t.circ c).playing = true ∧
        (t.circ c).duePs = (s.circ c).duePs + (circCfg c s).pktPs * 1000000000 / (1000000000 + (s.circ c).freq).toNat ∧
        t.clk.nowPs = max s.clk.nowPs (s.circ c).duePs) ∧
      (SMap.get none (s.circ c).held n = none → (s.circ c).replaced < 7 → Completes (.cesPlayoutDue c) s fun t =>
        Out.played c none ∈ t.out ∧ (t.circ c).next = some ((n + 1) % 65536) ∧ (t.circ c).replaced = (s.circ c).replaced + 1 ∧
        (t.circ c).playing = true)) ∧
    (∀ (k : Fin 4) (ps : Nat), (s.msp k).wtrEnd = some ps → (s.msp k).request = 1 → Completes (.mspWtrExpiry k) s fun t =>
      (t.msp k).wtrEnd = none ∧ t.clk.nowPs = max s.clk.nowPs ps ∧ (∀ j, j ≠ k.val → t.msp j = s.msp j)) ∧
    (∀ path : Path, Reaches path s → exec (.tribPathStatusRead path) s = .next (emit
      (.value path 0x72004 (BitVec.ofNat 32 (pathStatus s.tribPathSel s)))
      (s.setLatch path { s.latch path with tribJb := BitVec.ofNat 32 (pathJb s.tribPathSel s) }))) ∧
    Completes .pmSecond s (fun t => t.pmSec = (if s.pmSec < tbNow 0 s / secUnits then tbNow 0 s / secUnits else tbNow 0 s / secUnits + 1) ∧
      ∀ k p, SMap.get none s.pms k = some p →
        SMap.get none t.pms k = some (Pm.second k { p with defect := p.defect || pmDefect k s })) ∧
    (∀ sec, Due 9 s → sec = tbNow 0 (worked 9 s) / secUnits → exec .perfBinClose s = .next { worked 9 s with
      binSec := sec, pms := s.pms.map (fun e => (e.1, e.2.map (Pm.close s.binSec sec (monitored e.1 s)))) })

/-- Over a path that reaches the registers, while the window is not BUSY: a KEY_DATA write stages one word and starts the 64 ticks anew;
outside RETIRED, COMMIT to a slot that carries no unicast payload key, of a 256-bit key or a 128-bit one with zeros above, where no
partner in step takes the key too, fills the slot, keeps the staging words and goes BUSY, ZEROISE of an unbound slot empties it; in
RETIRED both only set ERROR 5, a COMMIT to a slot bound as unicast key sets ERROR 1, a ZEROISE of a bound slot ERROR 2; ABORT clears
the staging words; while BUSY a write is only counted. The end of a commit clears the staging words, sets KCV and ends BUSY. 64
ticks without a write clear them. An engine's first fault is retried; with the second it is out of service, and a fibre engine hands
its stream to the lowest engine left in the pool of its direction. (13 R327, 13 R328, 13 R329, 13 R330, 13 Table 13.2, 13 R326) -/
def Obligations.KeyWindowRowsTakeEffect : Prop :=
  ∀ s : State,
    (∀ p : Path, Reaches p s → s.cipher.busy = false →
      (∀ (n : Fin 8) (v : Word), exec (.keyDataWrite p n v) s = .next { s with cipher := { s.cipher with
        data := SMap.set 0 s.cipher.data n v, stageTick := some (ownTick s) } }) ∧
      (s.lc.state ≠ 4 → unicastBound s.cipher.slotReg.toNat s = false → (pairActive s && pairInStep s) = false →
        s.cipher.sizeReg = true ∨ (∀ b ∈ (stagedKey s).drop 16, b = 0) →
        exec (.keyCommit p) s = .next { s with cipher := { s.cipher with
          error := 0, busy := true, committing := true, stageTick := none,
          slots := SMap.set {} s.cipher.slots s.cipher.slotReg.toNat
            { loaded := true, aes256 := s.cipher.sizeReg, key := stagedKey s } } }) ∧
      (s.lc.state ≠ 4 → unicastBound s.cipher.slotReg.toNat s = true →
        exec (.keyCommit p) s = .next { s with cipher := { s.cipher with error := 1 } }) ∧
      (s.lc.state ≠ 4 → slotUse s.cipher.slotReg.toNat s = none → exec (.keyZeroise p) s = .next
        { s with cipher := { s.cipher with
          error := 0, busy := true, committing := false, slots := SMap.set {} s.cipher.slots s.cipher.slotReg.toNat {} } }) ∧
      (∀ u, s.lc.state ≠ 4 → slotUse s.cipher.slotReg.toNat s = some u → exec (.keyZeroise p) s = .next
        { s with cipher := { s.cipher with error := 2 } }) ∧
      (s.lc.state = 4 → exec (.keyCommit p) s = .next { s with cipher := { s.cipher with error := 5 } } ∧
        exec (.keyZeroise p) s = .next { s with cipher := { s.cipher with error := 5 } }) ∧
      exec (.keyAbort p) s = .next { s with cipher := { s.cipher with data := [], stageTick := none } }) ∧
    (∀ (p : Path) (n : Fin 8) (v : Word), Reaches p s → s.cipher.busy = true →
      exec (.keyDataWrite p n v) s = .next (count .keyWindowBusy 0 s) ∧ exec (.keyCommit p) s = .next (count .keyWindowBusy 0 s) ∧
      exec (.keyZeroise p) s = .next (count .keyWindowBusy 0 s) ∧ exec (.keyAbort p) s = .next (count .keyWindowBusy 0 s)) ∧
    (On s → s.cipher.busy = true →
      (s.cipher.committing = true → exec .keyCommitComplete s = .next { s with cipher := { s.cipher with
        busy := false, committing := false, data := [], stageTick := none,
        kcv := kcvOf (SMap.get {} s.cipher.slots s.cipher.slotReg.toNat) } }) ∧
      (s.cipher.committing = false → exec .keyCommitComplete s = .next { s with cipher := { s.cipher with busy := false } })) ∧
    (∀ t, On s → s.cipher.stageTick = some t → 64 ≤ ticksSince t s → exec .keyStagingTimeout s = .next
      { s with cipher := { s.cipher with data := [], stageTick := none } }) ∧
    (∀ e : Fin 16, On s → s.cipher.enginesOk.getLsbD e = true →
      (s.cipher.faulted.getLsbD e = false → Completes (.cipherEngineFault e) s fun t => Books { s with cipher := { s.cipher with
        faulted := s.cipher.faulted ||| BitVec.ofNat 16 (2 ^ e.val) } } t) ∧
      (∀ u : State, s.cipher.faulted.getLsbD e = true → u = { s with cipher := { s.cipher with
          enginesOk := s.cipher.enginesOk &&& ~~~ BitVec.ofNat 16 (2 ^ e.val)
          faulted := s.cipher.faulted &&& ~~~ BitVec.ofNat 16 (2 ^ e.val) } } →
        (e.val < 8 → Completes (.cipherEngineFault e) s fun t => Books { u with cipher := { u.cipher with
          tookOver := SMap.set none s.cipher.tookOver e ((poolEngines (1 - e.val % 2) u).head?) } } t) ∧
        (8 ≤ e.val → s.cipher.tookOver.find? (fun x => decide (x.2 = some e.val)) = none →
          Completes (.cipherEngineFault e) s fun t => Books u t)))

/-- Run alone, CIPHER_CONFIG sets or clears the countermeasures; PON_KEY_BIND binds an unbound slot to the use, unbinds the slot that
has it unless it is the unicast key that the instance transmits with, and answers NOT_FOUND where it does not have it; US_ENCRYPT
adds a Port-ID while the list holds fewer than 1,024 and else answers TABLE_FULL, and removes one that is listed; LINK_KEY_BIND
binds an unbound slot where the direction's RESERVE stays within 200 and else answers BUSY_RETRY, and unbinds; PHASE_SELECT of a
bound phase is that link's phase; KEY_QUERY answers KCV, flags and use. Nothing else changes. (13 R325, 13 R329, 13 R331, 13 R332,
13 R334, 13 R335, 13 R336, 13 R337) -/
def Obligations.CipherCommandsAnswer : Prop :=
  ∀ (q : CmdReq) (c : Cmd) (s : State),
    (Runs 0x0900 q c s → Completes (.cipherConfig q) s fun t => Answers c .ok 0 [] s t ∧
      Books { s with cipher := { s.cipher with cmOn := bit (u8 q.body 0) 0 } } t) ∧
    (∀ k : Nat, k = 6 * u8 q.body 0 + u8 q.body 1 → Runs 0x0901 q c s →
      (u8 q.body 2 = 0 → slotUse (u16 q.body 4) s = none → Completes (.ponKeyBind q) s fun t => Answers c .ok 0 [] s t ∧
        Books { s with cipher := { s.cipher with pon := SMap.set none s.cipher.pon k (some (u16 q.body 4)) } } t) ∧
      (u8 q.body 2 ≠ 0 → SMap.get none s.cipher.pon k ≠ some (u16 q.body 4) → Completes (.ponKeyBind q) s fun t =>
        Answers c .notFound 0 [] s t ∧ Books s t) ∧
      (u8 q.body 2 ≠ 0 → SMap.get none s.cipher.pon k = some (u16 q.body 4) →
        ((u8 q.body 1 = 2 ∨ u8 q.body 1 = 3) ∧ (s.inst (u8 q.body 0)).usKeyIndex + 1 = u8 q.body 1 →
          Completes (.ponKeyBind q) s fun t => Answers c .busyService 0 [] s t ∧ Books s t) ∧
        (¬ ((u8 q.body 1 = 2 ∨ u8 q.body 1 = 3) ∧ (s.inst (u8 q.body 0)).usKeyIndex + 1 = u8 q.body 1) →
          Completes (.ponKeyBind q) s fun t => Answers c .ok 0 [] s t ∧
            Books { s with cipher := { s.cipher with pon := SMap.set none s.cipher.pon k none } } t))) ∧
    (∀ (i : Nat) (l : SMap Bool), i = u8 q.body 0 → l = (s.inst i).usEncrypt → Runs 0x0902 q c s →
      (u8 q.body 1 = 0 → SMap.get false l (u16 q.body 2) = false → l.length < 1024 → Completes (.usEncrypt q) s fun t =>
        Answers c .ok 0 [] s t ∧ Books (s.modInst i fun x => { x with usEncrypt := SMap.set false x.usEncrypt (u16 q.body 2) true }) t) ∧
      (u8 q.body 1 = 0 → SMap.get false l (u16 q.body 2) = false → 1024 ≤ l.length → Completes (.usEncrypt q) s fun t =>
        Answers c .tableFull 0 [] s t ∧ Books s t) ∧
      (u8 q.body 1 ≠ 0 → SMap.get false l (u16 q.body 2) = true → Completes (.usEncrypt q) s fun t =>
        Answers c .ok 0 [] s t ∧ Books (s.modInst i fun x => { x with usEncrypt := SMap.set false x.usEncrypt (u16 q.body 2) false }) t)) ∧
    (∀ k : Nat, k = linkKey (u8 q.body 0) (u8 q.body 1) (u8 q.body 2) → Runs 0x0903 q c s →
      (u8 q.body 3 = 0 → slotUse (u16 q.body 4) s = none →
        (200 < reserveSum (u8 q.body 1) k s + u8 q.body 6 → Completes (.linkKeyBind q) s fun t =>
          Answers c .busyRetry 0 [] s t ∧ Books s t) ∧
        (reserveSum (u8 q.body 1) k s + u8 q.body 6 ≤ 200 → Completes (.linkKeyBind q) s fun t => Answers c .ok 0 [] s t ∧
          Books { s with cipher := { s.cipher with link := SMap.set none s.cipher.link k
                                                    (some { slot := u16 q.body 4, reserve := u8 q.body 6, salt := w32 q.body 8 }) } } t)) ∧
      (u8 q.body 3 ≠ 0 → Completes (.linkKeyBind q) s fun t => Answers c .ok 0 [] s t ∧
        Books { s with cipher := { s.cipher with link := SMap.set none s.cipher.link k none } } t)) ∧
    (Runs 0x0904 q c s →
      ((linkBind (u8 q.body 0) 0 (u8 q.body 1) s).isSome = true → Completes (.phaseSelect q) s fun t => Answers c .ok 0 [] s t ∧
        Books { s with cipher := { s.cipher with phase := SMap.set 0 s.cipher.phase (u8 q.body 0) (u8 q.body 1) } } t) ∧
      (linkBind (u8 q.body 0) 0 (u8 q.body 1) s = none → Completes (.phaseSelect q) s fun t =>
        Answers c .notFound 0 [] s t ∧ Books s t)) ∧
    (∀ k : KeySlot, k = SMap.get {} s.cipher.slots (u16 q.body 0) → Runs 0x0905 q c s → Completes (.keyQuery q) s fun t =>
      Answers c .ok 0 (le 3 (kcvOf k) ++
        le 1 (b2n k.loaded + 2 * b2n k.aes256 + 4 * b2n (slotUse (u16 q.body 0) s).isSome) ++
        le 4 ((slotUse (u16 q.body 0) s).getD 0)) s t ∧ Books s t)

/-- On a part that is on: a correctable error of a powered group with ECC is counted in MEM_ECC; an uncorrectable one of the general
scratchpad area strikes its word; one of a table group whose entry holds nothing changes nothing; a read of MEM_ECC or of
SCRATCH_STATUS answers what stands there and clears the counts. With no lock held, a port's read of a good word of the general area
answers it, an add answers the old value and stores the sum, both in the one step; a lock taken by nobody is the port's, and a
holder's unlock ends it. A lock held for 1 µs is revoked. A tamper empties every key slot, clears the secure part, ends the nonces
and sets the wipe's cause. (14 R338, 14 R339, 14 R340, 14 R341, 14 R342, 14 R343, 14 R344, 14 R355, 14 Table 14.1) -/
def Obligations.MemoryRowsTakeEffect : Prop :=
  ∀ s : State, On s →
    (∀ (g : Fin 38) (w : Nat), 16 ≤ g.val → domainOn (groupDomain g) s = true → Completes (.memError g w true) s fun t =>
      Books { s with mem := { s.mem with corrected := satAdd 65535 s.mem.corrected 1 } } t) ∧
    (∀ w : Nat, 0x6000 ≤ w → w < 0x8000 → domainOn (groupDomain 37) s = true → Completes (.memError 37 w false) s fun t =>
      Books { s with mem := { s.mem with uncorrected := satAdd 65535 s.mem.uncorrected 1
                                         badWords := w :: s.mem.badWords.filter (· ≠ w) } } t) ∧
    (∀ (g : Fin 38) (w : Nat) (b : Bool), g.val < 16 → entryValid (s.entry (262144 * g.val + w / 2 % 262144)) = false →
      exec (.memError g w b) s = .next s) ∧
    (∀ (p : Path) (same : Bool), Reaches p s →
      (same = false ∨ rcNow (2 * 0xA0000 + 1) s = none ∧ rcNow (2 * 0xA0000) s = none → exec (.memEccRead p same) s = .next
        (emit (.value p 0xA0000 (BitVec.ofNat 32 (s.mem.corrected * 65536 + s.mem.uncorrected)))
          { s with mem := { s.mem with corrected := 0, uncorrected := 0 } })) ∧
      (same = false ∨ rcNow (2 * 0xA001C) s = none → exec (.scratchStatusRead p same) s = .next
        (emit (.value p 0xA001C (BitVec.ofNat 32 (scratchStatus s.mem.collisions s)))
          { s with mem := { s.mem with collisions := 0 } }))) ∧
    (∀ a : ScratchAcc, s.mem.seqHolder = 0 → generalLo ≤ a.at_ → a.at_ < generalHi → s.mem.badWords.contains (wordOf a.addr.toNat) = false →
      (a.kind = .read → exec (.scratchPortAccess (some a) none) s = .next (emit (.scratch 1 (some (scratchValue a s)) false) s)) ∧
      (a.kind = .add → exec (.scratchPortAccess (some a) none) s = .next (emit (.scratch 1 (some (scratchValue a s)) false)
        { s with mem := { s.mem with
          scratch := SMap.setBytes 0 s.mem.scratch a.at_ (le a.size (scratchValue a s + a.value.toNat)) } }) ∧
        Completes (.scratchPortAccess none (some a)) s fun t =>
          t.mem.scratch = SMap.setBytes 0 s.mem.scratch a.at_ (le a.size (scratchValue a s + a.value.toNat)) ∧
          t.mem.lastB = some (s.clk.nowPs / 1600, a) ∧
          t.out = (emit (.scratch 2 (some (scratchValue a s)) false) s).out)) ∧
    (∀ a : ScratchAcc, a.kind = .lock → s.mem.seqHolder = 0 → exec (.scratchPortAccess none (some a)) s = .next
      (emit (.scratch 2 none false) { s with mem := { s.mem with seqHolder := 2, seqPs := s.clk.nowPs } })) ∧
    (∀ a : ScratchAcc, a.kind = .unlock → s.mem.seqHolder = 1 → s.mem.seqWait = [] →
      exec (.scratchPortAccess (some a) none) s = .next (emit (.scratch 1 none false) { s with mem := { s.mem with seqHolder := 0 } })) ∧
    (s.mem.seqHolder ≠ 0 → s.mem.seqWait = [] → Completes .seqLockRevoke s fun t => t.mem = { s.mem with seqHolder := 0 } ∧
      t.clk.nowPs = max s.clk.nowPs (s.mem.seqPs + 1000000)) ∧
    (∀ k : Tamper, Completes (.tamper k) s fun t => t.cipher.slots = [] ∧ t.mem.wiped = true ∧
      t.mem.wipeCause = (match k with | .lid => 1 | .voltage => 2 | .clock => 3) ∧
      (∀ a, a < 0x10000 → SMap.get 0 t.mem.scratch a = 0) ∧ t.cmd.nonceRings = none ∧ t.cmd.nonceSpi = none)

/-- On a part that is on: in a stroke each group whose turn falls there, and is not under test, begins the step of its region at the
stroke's start, or is owed it where its last one still goes on; a group that is owed a step begins it; other groups keep their
state; while not awake no step begins. A step that still waits for SAVE at S + 2 µs ends, its region unchanged; at SAVE's end the
step tests and its transfers are gone; a passed TEST goes to RESTORE at once where the group carries no grant, and the memory is as
before; a failed TEST in a group without spares notes the region and tick of the fault and restores; RESTORE's end frees the group
and moves it to its next region, counting a sweep at the end. (14 R345, 14 R346, 14 R348, 14 R349) -/
def Obligations.BlotterRowsTakeEffect : Prop :=
  ∀ s : State, On s →
    (s.pwr.state ≠ .awake → exec .blotterStep s = .next s) ∧
    (∀ (g : Fin 38) (b : BlotStep), s.pwr.state = .awake → b = {
          region := (s.blot g).region, startPs := s.clk.t0Ps + 15625000 * stroke s
          endPs := s.clk.t0Ps + 15625000 * stroke s + 15625000 } →
      (blotDue g s = true → underTest g s = false → (s.blot g).step = none → g.val ∉ s.mem.owed → Completes .blotterStep s fun t =>
        t.blot g = { s.blot g with lastStroke := some (strokeNo s), step := some b } ∧
        ∃ x ∈ t.mem.requests, x = { port := 4, targets := [g.val], use := .save g, sincePs := s.clk.nowPs }) ∧
      (blotDue g s = true → (s.blot g).step ≠ none → Completes .blotterStep s fun t =>
        t.blot g = { s.blot g with lastStroke := some (strokeNo s) } ∧ g.val ∈ t.mem.owed) ∧
      (blotDue g s = false → g.val ∈ s.mem.owed → blotFree g s = true → underTest g s = false → (s.blot g).step = none →
        Completes .blotterStep s fun t => t.blot g = { s.blot g with step := some b }) ∧
      (blotDue g s = false → g.val ∉ s.mem.owed → Completes .blotterStep s fun t => t.blot g = s.blot g)) ∧
    (∀ (g : Fin 38) (b : BlotStep), (s.blot g).step = some b → (s.domain (groupDomain g)).phase ≠ .stopping →
      (b.phase = .waiting → Completes (.blotterSaveTimeout g) s fun t => t.blot g = { s.blot g with step := none } ∧
        t.clk.nowPs = max s.clk.nowPs (b.startPs + 2000000)) ∧
      (b.phase = .save → Completes (.blotterBorrow g) s fun t => t.blot g = { s.blot g with step := some { b with phase := .test } } ∧
        (∀ x ∈ t.mem.requests ++ t.mem.grants, x.use ≠ .save g) ∧ t.mem.scratch = s.mem.scratch) ∧
      (b.phase = .test → Plain s →
        (targetBusy g s = false → exec (.blotterTestEnd g false) s = .next { s with mem := { s.mem with
          groups := SMap.set {} s.mem.groups g { s.blot g with step := some { b with phase := .restore } }
          grants := s.mem.grants ++ [{ port := 4, targets := [g.val], use := .restore g, sincePs := s.clk.nowPs }] } }) ∧
        (16 ≤ g.val → g.val < 26 ∨ 34 ≤ g.val → Completes (.blotterTestEnd g true) s fun t => t.blot g = { s.blot g with
          faultSeen := true, lastRegion := some b.region, lastTick := s.clk.tick, step := some { b with phase := .restore } } ∧
          t.mem.scratch = s.mem.scratch)) ∧
      (b.phase = .restore → s.mem.grants.any (fun x => decide (x.use = .restore g)) = true → Completes (.blotterRestoreEnd g) s fun t =>
        t.blot g = { s.blot g with
          step := none, region := (nextRegion g (s.blot g).region).1
          sweeps := if (nextRegion g (s.blot g).region).2 then satAdd 65535 (s.blot g).sweeps 1 else (s.blot g).sweeps } ∧
        (∀ x ∈ t.mem.requests ++ t.mem.grants, x.use ≠ .restore g) ∧ t.mem.scratch = s.mem.scratch))

/-- On a part that is on, for transfers of the bulk copy: the arbiter grants the request that is next at the present instant, and its
port drops to the lowest rank; with none ready nothing changes; a transfer's end ends its grant, and the copy asks for its next 4
KiB while some are left; a grant held for 8 µs is revoked at that instant and its transfer waits to start again, while it was
revoked fewer than 3 times before; a request that has waited one tick has the grant on its target revoked, being younger than none;
targets whose FREEZE_TICKS have run out are released, no others. (14 R350, 14 R351, 14 R352, 14 R354) -/
def Obligations.TransferRowsTakeEffect : Prop :=
  ∀ s : State, On s → s.cmd.executing = [] →
    (nextGrant s = none → exec .txnGrant s = .next s) ∧
    (∀ x : Xfer, nextGrant s = some x → x.use = .bulk → x.again = false → exec .txnGrant s = .next { s with mem := { s.mem with
      requests := s.mem.requests.erase x, order := s.mem.order.filter (· ≠ x.port) ++ [x.port]
      grants := s.mem.grants ++ [{ x with sincePs := s.clk.nowPs }] } }) ∧
    (∀ (p : Fin 7) (x : Xfer), s.mem.grants.find? (fun x => decide (x.port = p.val)) = some x → x.use = .bulk →
      (s.pair.bulkAt = none → exec (.txnComplete p) s = .next { s with mem := { s.mem with grants := s.mem.grants.erase x } }) ∧
      (∀ a, s.pair.bulkAt = some a → Completes (.txnComplete p) s fun t => t.mem.grants = s.mem.grants.erase x ∧
        t.pair.kibLeft = s.pair.kibLeft - 4 ∧ (s.pair.kibLeft ≤ 4 → t.mem.requests = s.mem.requests) ∧
        (4 < s.pair.kibLeft → ∃ y, y.port = 5 ∧ y.use = .bulk ∧ t.mem.requests = s.mem.requests ++ [y])) ∧
      (Plain s → x.revoked < 3 → Completes (.txnLimitRevoke p) s fun t => t.mem.grants = s.mem.grants.erase x ∧
        t.clk.nowPs = max s.clk.nowPs (x.sincePs + 8000000) ∧
        t.mem.requests = s.mem.requests ++ [{ x with revoked := x.revoked + 1, again := true, sincePs := t.clk.nowPs }])) ∧
    (∀ w h : Xfer,
      longestWait (s.mem.requests.filter
        (fun x => x.targets.any (fun t => targetBusy t s) && !x.targets.any (fun t => targetFrozen t s))) = some w →
      s.mem.grants.find? (fun h => w.targets.any (fun t => h.targets.contains t)) = some h → w.use = .bulk → h.use = .bulk →
      Completes .waitTickRevoke s fun t => t.mem.grants = s.mem.grants.erase h ∧
        t.clk.nowPs = max s.clk.nowPs (w.sincePs + tickPs)) ∧
    (∀ k : Fin 40, Completes .txnFreezeExpiry s fun t =>
      ((∃ f n, SMap.get none s.mem.freezeEnd k = some (f, n) ∧ n ≤ ticksSince f s) → bit t.mem.frozen k = false) ∧
      ((∀ f n, SMap.get none s.mem.freezeEnd k = some (f, n) → ticksSince f s < n) → bit t.mem.frozen k = bit s.mem.frozen k))

/-- Run alone, BLOTTER_CONFIG keeps its settings for the next tick edge; BLOTTER_QUERY answers a group's state and changes nothing;
TXN_FREEZE with no grant on a target that it freezes anew freezes the targets of SET, releases those of CLEAR, leaves the others,
with FREEZE_TICKS for those of SET, and answers the mask in force; with a grant on one it waits. SCRATCH_OP on a good word that no
lock of port B guards and that port B leaves alone in this cycle reads it, writes it, or adds to it and answers the old value, or
swaps it; one that would change the general area while port B holds the lock waits. (14 R340, 14 R342, 14 R345, 14 R352, 14 R356) -/
def Obligations.MemoryCommandsAnswer : Prop :=
  ∀ (q : CmdReq) (c : Cmd) (s : State),
    (Runs 0x0A00 q c s → Completes (.blotterConfig q) s fun t => Answers c .ok 0 [] s t ∧
      Books { s with mem := { s.mem with blotNext := some (u64 q.body 0, u8 q.body 8) } } t) ∧
    (∀ g : Nat, g = u8 q.body 0 → Runs 0x0A01 q c s → Completes (.blotterQuery q) s fun t =>
      Answers c .ok 0 (le 4 (blotterGroup g s) ++ le 2 ((s.blot g).lastRegion.getD 0xFFFF) ++ zeros 2 ++
        le 4 (s.blot g).lastTick.toNat) s t ∧ Books s t) ∧
    (Runs 0x0A02 q c s →
      ((bitsOf 40 (u64 q.body 0)).any (fun t => !targetFrozen t s && targetBusy t s) = false → Completes (.txnFreeze q) s fun t =>
        Answers c .ok 0 (le 8 (frozenMask t)) s t ∧
        (∀ k : Fin 40, bit t.mem.frozen k = (bit (u64 q.body 0) k || (bit s.mem.frozen k && !bit (u64 q.body 8) k)) ∧
          (bit (u64 q.body 0) k = true → SMap.get none t.mem.freezeEnd k =
            (if u16 q.body 16 = 0 then none else some (ownTick s, u16 q.body 16)))) ∧
        Books { s with mem := { s.mem with frozen := t.mem.frozen, freezeEnd := t.mem.freezeEnd } } t) ∧
      ((bitsOf 40 (u64 q.body 0)).any (fun t => !targetFrozen t s && targetBusy t s) = true → Completes (.txnFreeze q) s fun t => GoesOn c t ∧
        (∀ k : Fin 40, bit (u64 q.body 0) k = true → bit t.mem.frozen k = true))) ∧
    (∀ a : ScratchAcc, a = scratchAcc q.body → Runs 0x0A03 q c s →
      s.mem.seqHolder < 2 → s.mem.badWords.contains (wordOf a.addr.toNat) = false → s.mem.lastB = none →
      (u8 q.body 0 = 0 → Completes (.scratchOp q) s fun t => Answers c .ok 0 (le 8 (scratchValue a s)) s t ∧ Books s t) ∧
      (u8 q.body 0 = 1 → Completes (.scratchOp q) s fun t => Answers c .ok 0 (le 8 0) s t ∧
        t.mem.scratch = SMap.setBytes 0 s.mem.scratch a.at_ (le a.size a.value.toNat) ∧ t.cipher = s.cipher) ∧
      (u8 q.body 0 = 2 → Completes (.scratchOp q) s fun t => Answers c .ok 0 (le 8 (scratchValue a s)) s t ∧
        Books { s with mem := { s.mem with
          scratch := SMap.setBytes 0 s.mem.scratch a.at_ (le a.size (scratchValue a s + a.value.toNat)) } } t) ∧
      (u8 q.body 0 = 3 → Completes (.scratchOp q) s fun t => Answers c .ok 0 (le 8 (scratchValue a s)) s t ∧
        Books { s with mem := { s.mem with scratch := SMap.setBytes 0 s.mem.scratch a.at_ (le a.size a.value.toNat) } } t)) ∧
    (∀ a : ScratchAcc, a = scratchAcc q.body → Runs 0x0A03 q c s → s.mem.seqHolder = 2 → u8 q.body 0 ≠ 0 →
      Completes (.scratchOp q) s fun t => GoesOn c t ∧ t.mem.seqWait = s.mem.seqWait ++ [(1, a, some c.seq)] ∧
        t.mem.scratch = s.mem.scratch)

/-- On a part that is on: ACT_IN# deasserting is noted with its instant; asserting, it makes an active that has claimed light within 2
µs and has the higher SLOT_ID withdraw to STANDBY_RESYNC, and a device that only waits a standby, one not enabled notes it. A
waiting device claims light at its instant. The active grants a loan that lies far enough ahead with no loan, no switchover and no
own burst open, and refuses one while a loan is open; the standby takes the answer; at L − 3,500 ns the active lets go of the light,
at L − 1,200 ns the standby takes it for its burst. Digests are exchanged under item 11, compared, and a third mismatch in a row
makes a standby in step resynchronise. M_HEALTH is kept; one whose bits 5:0 are not all 1 revokes the partner's holds on the mirror
lanes. The standby's tests, 8,000 ticks after the last ones, set its health bits. (15 R359, 15 R360, 15 R364, 15 R366, 15 R367, 15
R368, 15 Table 15.2, 15 Table 15.4, 15 Table 15.6) -/
def Obligations.PairLightAndHealthRowsTakeEffect : Prop :=
  ∀ s : State, On s →
    (s.pair.actIn = true → exec (.actInChange false) s = .next
      { s with pair := { s.pair with actIn := false, actInOffPs := s.clk.nowPs } }) ∧
    (s.pair.actIn = false →
      (s.pair.enable = false → exec (.actInChange true) s = .next { s with pair := { s.pair with actIn := true } }) ∧
      (s.pair.enable = true → s.pair.actOut = true → s.pair.state = 1 → s.clk.nowPs ≤ s.pair.actOutPs + 2000000 →
        (s.pair.partnerSlot < s.dev.slotId.toNat → Completes (.actInChange true) s fun t =>
          t.pair.actIn = true ∧ t.pair.actOut = false ∧ t.pair.state = 2) ∧
        (s.dev.slotId.toNat ≤ s.pair.partnerSlot → exec (.actInChange true) s = .next
          { s with pair := { s.pair with actIn := true } })) ∧
      (s.pair.enable = true → s.pair.actOut = false → s.pair.state = 0 → Completes (.actInChange true) s fun t =>
        t.pair.actIn = true ∧ t.pair.claiming = false ∧ t.pair.state = 2)) ∧
    (s.pair.enable = true → s.pair.claiming = true → s.pair.actIn = false → s.pair.loan = none →
      quiesceNow (advanceTo (s.pair.actInOffPs + 2000000) s) = false →
      s.fatal.asserted = false → Completes .actOutClaim s fun t => t.pair.actOut = true ∧ t.pair.claiming = false ∧
        t.pair.state = (if s.pair.state = 0 then 1 else s.pair.state) ∧
        t.clk.nowPs = max s.clk.nowPs (s.pair.actInOffPs + 2000000)) ∧
    (∀ (i : Fin 4) (tag : Fin 8) (ns : BitVec 17) (len : BitVec 20) (id : Byte) (l e : Nat), pairActive s = true →
      l = psOfTag tag ns.toNat s → e = l + len.toNat * 1000 →
      (s.pair.loan = none → s.pair.switch = none → s.clk.nowPs + 13500000 ≤ l → burstIn (l - 3500000) (e + 2200000) s = false →
        exec (.mLoanReqRx i tag ns len id) s = .next (sendMirror 0x8C (id.toNat + 256)
          { s with pair := { s.pair with loan := some { id := id.toNat, inst := i, atPs := l, endPs := e, granted := true } } })) ∧
      (s.pair.loan ≠ none ∨ s.pair.switch ≠ none ∨ l < s.clk.nowPs + 13500000 →
        exec (.mLoanReqRx i tag ns len id) s = .next (sendMirror 0x8C id.toNat s))) ∧
    (∀ l, s.pair.loan = some l →
      (∀ (id : Byte) (granted : Bool), pairStandby s = true → l.id = id.toNat → exec (.mLoanAckRx id granted) s = .next
        { s with pair := { s.pair with loan := if granted then some { l with granted := true } else none } }) ∧
      (pairActive s = true → s.pair.actOut = true → Completes .loanActRelease s fun t => t.pair.actOut = false ∧
        t.pair.claiming = true ∧ t.clk.nowPs = max s.clk.nowPs (l.atPs - 3500000)) ∧
      (pairStandby s = true → l.granted = true → s.pair.actOut = false → s.pair.actIn = false →
        s.pair.actInOffPs + 2000000 ≤ max s.clk.nowPs (l.atPs - 1200000) →
        (∃ e ∈ (s.inst l.inst).sched, e.shadow = false ∧ e.atPs = l.atPs) → Completes .loanActClaim s fun t =>
          t.pair.actOut = true ∧ t.clk.nowPs = max s.clk.nowPs (l.atPs - 1200000) ∧ t.pair.loan = some l)) ∧
    (∀ d : BitVec 64, s.pair.enable = true → Due 11 s →
      s.pair.digests.find? (fun x => decide (x.1 = s.clk.tick)) = some (s.clk.tick, d) → exec .digestExchange s = .next
        (sendMirror 0x87 (s.clk.tick.toNat % 256 + 256 + d.toNat / 2 ^ 32 * 2 ^ 16)
          (sendMirror 0x87 (s.clk.tick.toNat % 256 + d.toNat % 2 ^ 32 * 2 ^ 16) (worked 11 s)))) ∧
    (∀ (tag : Byte) (w : Word), s.pair.enable = true → exec (.mDigestRx false tag w) s = .next
      { s with pair := { s.pair with low := some (tickOfTag tag.toNat s, w) } }) ∧
    (∀ (tag : Byte) (w lo : Word) (d : BitVec 64), s.pair.enable = true → s.pair.switch = none → s.pair.state = 3 →
      s.pair.low = some (tickOfTag tag.toNat s, lo) →
      s.pair.digests.find? (fun x => decide (x.1 = tickOfTag tag.toNat s)) = some (tickOfTag tag.toNat s, d) →
      (d = w ++ lo → Completes (.mDigestRx true tag w) s fun t =>
        t.pair.mismatchRun = 0 ∧ t.pair.matchRun = s.pair.matchRun + 1 ∧ t.pair.state = 3) ∧
      (d ≠ w ++ lo → Completes (.mDigestRx true tag w) s fun t =>
        t.pair.state = (if 2 ≤ s.pair.mismatchRun then 2 else 3) ∧ t.pair.matchRun = 0)) ∧
    (∀ (half : BitVec 16) (sf o5 : BitVec 4) (st : BitVec 3) (p : Pair), pairStandby s = true →
      p = { s.pair with partner := half, partnerSf := sf, partnerO5 := o5, partnerState := st.toNat } →
      (half.toNat % 64 = 63 → s.pair.bulkAt = none → exec (.mHealthRx half sf o5 st) s = .next
        { s with pair := { p with partnerHolds := s.pair.partnerHolds || s.pair.mirrorUp } }) ∧
      (half.toNat % 64 ≠ 63 → s.pair.bulkAt = none → Completes (.mHealthRx half sf o5 st) s fun t =>
        Books { s with pair := { p with partnerHolds := false } } t)) ∧
    (∀ (lanesOk : Bool) (lasersOk : BitVec 4), pairStandby s = true →
      (s.pair.testTick = none ∨ ranFor 8000 s.pair.testTick s = true → s.pair.lanesFaultTick = none → s.pair.blotterFaultTick = none →
        s.pair.loan = none → Completes (.standbyHealthTest lanesOk lasersOk) s fun t => t.pair.testTick = some (ownTick s) ∧
          bit (ownHealth t) 0 = true ∧ bit (ownHealth t) 1 = lanesOk ∧ bit (ownHealth t) 2 = decide (lasersOk = 15)) ∧
      (s.pair.testTick ≠ none → ranFor 8000 s.pair.testTick s = false → exec (.standbyHealthTest lanesOk lasersOk) s = .next s))

/-- On a part that is on: M_SWITCH makes a standby without a loan prepare the switchover; at SWITCH the active becomes STANDBY_RESYNC,
and lets go of the light where no burst is under way, the standby becomes ACTIVE, waits to claim light and ends its shadows; a
standby that sees ACT_IN# off for 20 µs outside a loan and a switchover takes over with cause 6, but an M_SWITCH of that clock wins;
with an eject of the clock neither way takes over; a launched burst is noted, frames of a skipped one return to their queues' heads;
a pass with 4 MiB or more left is noted, one with less brings the standby to compare digests; the loss of the mirror link ends it
for the pair, and a standby whose partner holds the light fails. (15 R357, 15 R362, 15 R365, 15 R368, 15 R369, 15 R370, 15 Table
15.6) -/
def Obligations.SwitchoverRowsTakeEffect : Prop :=
  ∀ s : State, On s →
    (∀ (tag rtag : Fin 8) (ns rns : BitVec 17) (cause : Byte), pairStandby s = true → s.pair.loan = none →
      exec (.mSwitchRx tag ns rtag rns cause) s = .next { s with pair := { s.pair with
        switch := some { atPs := psOfTag tag ns.toNat s, replayPs := psOfTag rtag rns.toNat s, cause := cause.toNat } } }) ∧
    (∀ w, s.pair.switch = some w →
      (∀ eject, pairActive s = true → Completes (.switchoverAtSwitch eject) s fun t => t.pair.state = 2 ∧ t.pair.switch = none ∧
        t.pair.lastSwitch = (tickOf w.atPs s).1 ∧ t.clk.nowPs = max s.clk.nowPs w.atPs ∧
        (fibreDark s = true → t.pair.actOut = false)) ∧
      (pairStandby s = true → s.hot.recognised = false → s.pair.gapTick = none → Completes (.switchoverAtSwitch false) s fun t =>
        t.pair.state = 1 ∧ t.pair.switch = none ∧ t.pair.claiming = true ∧ t.pair.hold = [] ∧
        t.pair.claimDetail = some (w.cause + 256 * b2n (decide (s.pair.state ≠ 3))) ∧
        t.pair.lastSwitch = (tickOf w.atPs s).1 ∧ (∀ i : Fin 4, ∀ e ∈ (t.inst i).sched, e.shadow = false)) ∧
      (pairStandby s = true → Completes (.switchoverAtSwitch true) s fun t => t.pair.state = s.pair.state ∧ t.pair.switch = none)) ∧
    (pairStandby s = true → s.pair.actIn = false → s.pair.actOut = false → s.pair.loan = none → s.pair.switch = none →
      s.hot.recognised = false →
      (s.pair.gapTick = none → Completes (.partnerGone none false) s fun t =>
        t.pair.state = 1 ∧ t.pair.claiming = true ∧ t.pair.claimDetail = some (6 + 256 * b2n (decide (s.pair.state ≠ 3))) ∧
        t.pair.lastSwitch = s.clk.tick ∧ t.clk.nowPs = max s.clk.nowPs (max s.pair.actInOffPs s.pair.actOutPs + 20000000)) ∧
      (∀ m : MSwitch, Completes (.partnerGone (some m) false) s fun t => t.pair.state = s.pair.state ∧ t.pair.switch =
        some { atPs := psOfTag m.tag m.ns.toNat s, replayPs := psOfTag m.rtag m.rns.toNat s, cause := m.cause.toNat }) ∧
      (∀ met, exec (.partnerGone met true) s = .next s)) ∧
    (∀ (i : Fin 4) (n : BitVec 24), pairStandby s = true →
      exec (.mLaunchRx i n true) s = .next { s with pair := { s.pair with
        launched := SMap.modify [] s.pair.launched i (fun l => (n.toNat :: l).take 64) } } ∧
      Completes (.mLaunchRx i n false) s fun t =>
        t.pair.hold = s.pair.hold.filter (fun h => decide (h.burst ≠ some (i.val, n.toNat))) ∧
        ∀ q, (t.queue q).frames = ((s.pair.hold.filter (fun h => decide (h.burst = some (i.val, n.toNat)))).filter
          (fun h => decide (h.queue = q))).map (fun h => h.frame) ++ (s.queue q).frames) ∧
    (∀ left : Nat, s.pair.enable = true → s.pair.state = 2 → s.pair.mirrorUp = true → s.pair.matching = false →
      (4194304 ≤ left → exec (.resyncPassEnd left) s = .next { s with pair := { s.pair with
        pass := min 63 (s.pair.pass + 1), kibLeft := min (2 ^ 24 - 1) ((left + 1023) / 1024) } }) ∧
      (left < 4194304 → exec (.resyncPassEnd left) s = .next { s with pair := { s.pair with
        pass := min 63 (s.pair.pass + 1), kibLeft := 0, config := 0, applied := [], matching := true, matchRun := 0 } })) ∧
    (s.pair.mirrorUp = true → Completes .mirrorLinkLoss s fun t => t.pair.mirrorUp = false ∧ t.pair.helloAck = false ∧
      bit t.pair.own.toNat 4 = false ∧ t.pair.enable = s.pair.enable ∧
      t.pair.state = (if pairStandby s = true ∧ s.pair.actIn = true then 4 else s.pair.state))

/-- On a part that is on: without a loaded receive key of LINK 33 for its KEY_PHASE a frame of each kind is only counted, and so is one
whose share of the engines is taken, or whose tag fails. With key, share and tag its counter is accepted, and: a standby lets a
replicated command wait for tick D + 2, makes replicated flow context, table entry and Alloc-ID current and counts them in the
tick's CONFIG; while it resynchronises it takes each byte of a bulk copy (a copied counter word holds the copied value), in other
states none; a device of a pair writes scratchpad bytes of the general area while no lock is held, and none outside that area; a
standby takes a key into its slot. (15 R358, 15 R361, 15 R365, 14 R341, 13 R327) -/
def Obligations.MirrorFramesTakeEffect : Prop :=
  ∀ (s u : State) (h : FrameFields) (field : Bytes), On s →
    (mirrorSeal h s = none →
      (∀ r, exec (.mirrorReplicatedRx h field r) s = .next (count .linkKeyInvalid 33 s)) ∧
      (∀ g a x, exec (.mirrorBulkCopyRx h field g a x) s = .next (count .linkKeyInvalid 33 s)) ∧
      (∀ a x, exec (.mirrorScratchWriteRx h field a x) s = .next (count .linkKeyInvalid 33 s)) ∧
      (∀ n k z, exec (.mirrorKeyTransferRx h field n k z) s = .next (count .linkKeyInvalid 33 s))) ∧
    (∀ k : Seal, mirrorSeal h s = some k → rxShare 33 (b2n h.keyPhase) h.length.toNat s = (false, u) →
      (∀ r, exec (.mirrorReplicatedRx h field r) s = .next (count .cipherRxOverrun 33 u)) ∧
      (∀ g a x, exec (.mirrorBulkCopyRx h field g a x) s = .next (count .cipherRxOverrun 33 u)) ∧
      (∀ a x, exec (.mirrorScratchWriteRx h field a x) s = .next (count .cipherRxOverrun 33 u)) ∧
      (∀ n k z, exec (.mirrorKeyTransferRx h field n k z) s = .next (count .cipherRxOverrun 33 u))) ∧
    (∀ k : Seal, mirrorSeal h s = some k → rxShare 33 (b2n h.keyPhase) h.length.toNat s = (true, u) →
      (openField (bodyOf h) h.length.toNat field (some k) = none →
        (∀ r, exec (.mirrorReplicatedRx h field r) s = .next (count .linkAuthFail 33 u)) ∧
        (∀ g a x, exec (.mirrorBulkCopyRx h field g a x) s = .next (count .linkAuthFail 33 u)) ∧
        (∀ a x, exec (.mirrorScratchWriteRx h field a x) s = .next (count .linkAuthFail 33 u)) ∧
        (∀ n k z, exec (.mirrorKeyTransferRx h field n k z) s = .next (count .linkAuthFail 33 u))) ∧
      (∀ data, openField (bodyOf h) h.length.toNat field (some k) = some data →
        (pairStandby s = true →
          (∀ op q tick, q.atTick = false → Completes (.mirrorReplicatedRx h field (.command op q tick)) s fun t =>
            (∃ c, t.cmd.pendingSet = s.cmd.pendingSet ++ [c] ∧ c.op = op ∧ c.req = { q with src := .mirror } ∧
              c.due = some (tick + 2)) ∧
            t.cmd.executing = s.cmd.executing ∧ t.pair.rxCount = k.counter + 1) ∧
          (∀ f ws, Completes (.mirrorReplicatedRx h field (.flow f ws)) s fun t =>
            t.tbl = (setFlow f (ws.flatMap (fun w => le 4 w.toNat)) s).tbl ∧
            t.pair.applied = s.pair.applied ++ Config.mirrorFrame (.flow f ws)) ∧
          (∀ n ws, isolated (n / 262144) s = false → Completes (.mirrorReplicatedRx h field (.staged n ws)) s fun t =>
            t.tbl = (setEntry n (BitVec.ofNat 128 (leNat (ws.flatMap (fun w => le 4 w.toNat)))) s).tbl) ∧
          (∀ c id, Completes (.mirrorReplicatedRx h field (.allocId c id)) s fun t =>
            t.pair.shadowIds = SMap.set none s.pair.shadowIds c.val id) ∧
          (∀ (n : Nat) (v : Word), s.pair.state = 2 →
            Completes (.mirrorBulkCopyRx h field 34 (4 * n) (le 4 v.toNat)) s fun t =>
              SMap.get 0 t.cnt.value n = v ∧ (∀ j, j ≠ n → SMap.get 0 t.cnt.value j = SMap.get 0 s.cnt.value j) ∧ t.tbl = s.tbl) ∧
          (∀ g a x, s.pair.state ≠ 2 → exec (.mirrorBulkCopyRx h field g a x) s = .next
            { u with pair := { u.pair with rxCount := k.counter + 1 } }) ∧
          (∀ n key z, exec (.mirrorKeyTransferRx h field n key z) s = .next { u with
            pair := { u.pair with rxCount := k.counter + 1 }
            cipher := { u.cipher with
              slots := SMap.set {} u.cipher.slots n.toNat { loaded := true, aes256 := z, key := fit 32 key } } })) ∧
        (s.pair.enable = true → s.mem.seqHolder ≠ 1 →
          (∀ a bs, generalLo ≤ a → a + bs.length ≤ generalHi → Completes (.mirrorScratchWriteRx h field a bs) s fun t =>
            t.mem.scratch = SMap.setBytes 0 s.mem.scratch a bs ∧ t.mem.badWords = s.mem.badWords) ∧
          (∀ a bs, a < generalLo ∨ generalHi < a + bs.length → Completes (.mirrorScratchWriteRx h field a bs) s fun t =>
            t.mem = s.mem))))

/-- Run alone, PAIR_CONFIG with ENABLE 1 answers NOT_FOUND while LINK 33 lacks a binding in either direction; else, on an unpaired
device, it makes it STANDBY_RESYNC where ACT_IN# is asserted, ACTIVE with the light where that has been quiet for 2 µs, and lets it
wait otherwise; ENABLE as in force changes nothing; ENABLE 0 makes a device that is not the active of a pair in step unpaired, ALONE
and without light. PAIR_SWITCH answers NOT_FOUND on any device but the active, PEER_ABSENT without a mirror link, and with a ready
partner starts a switchover of cause 4 that takes effect 10 µs later. PAIR_RESYNC answers NOT_FOUND on any device but a standby and
else starts an attempt. PAIR_QUERY answers the four registers. (15 R359, 15 R365, 15 R369, 15 R371, 15 Table 15.6) -/
def Obligations.PairCommandsAnswer : Prop :=
  ∀ (q : CmdReq) (c : Cmd) (s : State),
    (Runs 0x0C00 q c s →
      (u8 q.body 0 = 1 → mirrorBound s = false → Completes (.pairConfig q) s fun t => Answers c .notFound 0 [] s t ∧ Books s t) ∧
      (u8 q.body 0 = 1 → mirrorBound s = true → s.pair.enable = true → Completes (.pairConfig q) s fun t =>
        Answers c .ok 0 (le 1 s.pair.state ++ zeros 3) s t ∧ Books s t) ∧
      (u8 q.body 0 = 1 → mirrorBound s = true → s.pair.enable = false →
        (s.pair.actIn = true → Completes (.pairConfig q) s fun t => Answers c .ok 0 (le 1 2 ++ zeros 3) s t ∧
          Books (enterResync { s with pair := { s.pair with enable := true } }) t) ∧
        (actInQuiet s = true → Completes (.pairConfig q) s fun t => Answers c .ok 0 (le 1 1 ++ zeros 3) s t ∧
          Books { s with pair := { s.pair with enable := true, state := 1, actOut := true, actOutPs := s.clk.nowPs } } t) ∧
        (s.pair.actIn = false → actInQuiet s = false → Completes (.pairConfig q) s fun t =>
          Answers c .ok 0 (le 1 s.pair.state ++ zeros 3) s t ∧
          Books { s with pair := { s.pair with enable := true, claiming := true } } t)) ∧
      (u8 q.body 0 ≠ 1 → s.pair.enable = false → Completes (.pairConfig q) s fun t =>
        Answers c .ok 0 (le 1 s.pair.state ++ zeros 3) s t ∧ Books s t) ∧
      (u8 q.body 0 ≠ 1 → s.pair.enable = true → pairActive s = true → pairInStep s = true → q.force = false →
        Completes (.pairConfig q) s fun t => Answers c .busyService 0 [] s t ∧ Books s t) ∧
      (u8 q.body 0 ≠ 1 → s.pair.enable = true → pairActive s = false ∨ pairInStep s = false ∨ q.force = true → Completes (.pairConfig q) s fun t =>
        Answers c .ok 0 (le 1 0 ++ zeros 3) s t ∧ t.pair.enable = false ∧ t.pair.state = 0 ∧ t.pair.actOut = false ∧
        t.pair.hold = [] ∧ t.pair.digests = [])) ∧
    (Runs 0x0C01 q c s →
      (pairActive s = false → Completes (.pairSwitch q) s fun t => Answers c .notFound 0 [] s t ∧ Books s t) ∧
      (pairActive s = true → s.pair.mirrorUp = false → Completes (.pairSwitch q) s fun t =>
        Answers c .peerAbsent 0 [] s t ∧ Books s t) ∧
      (pairActive s = true → partnerReady s = true → s.pair.switch = none → Completes (.pairSwitch q) s fun t => GoesOn c t ∧
        t.pair.switch = some { atPs := s.clk.nowPs + 10000000, replayPs := s.clk.nowPs + 10000000, cause := 4 } ∧
        t.pair.loan = none ∧ t.pair.state = 1)) ∧
    (Runs 0x0C02 q c s →
      (pairStandby s = false → Completes (.pairResync q) s fun t => Answers c .notFound 0 [] s t ∧ Books s t) ∧
      (pairStandby s = true → s.pair.mirrorUp = false → Completes (.pairResync q) s fun t =>
        Answers c .peerAbsent 0 [] s t ∧ Books s t) ∧
      (pairStandby s = true → s.pair.mirrorUp = true → Completes (.pairResync q) s fun t => GoesOn c t ∧
        t.pair.state = 2 ∧ t.pair.attempt = 1 ∧ t.pair.pass = 0)) ∧
    (Runs 0x0C03 q c s → Completes (.pairQuery q) s fun t =>
      Answers c .ok 0 (le 4 (pairStatus s) ++ le 4 (pairHealth s) ++ le 4 (pairResyncWord s) ++ le 4 s.pair.lastSwitch.toNat) s t ∧
      Books s t)

/-- On a part that is on: item 10 counts the idle timer down, notes queued frames, and at its end decides to sleep where Table 16.2
permits; a watched source of the clock of the decision is kept; the decision lapses after 64 ticks with an indication unsent; entry
begins at E with A0, which latches pads that are not latched yet, or is abandoned on a source that has fired, and so at A1 to A3,
where pads that this entry latched are released; A1 notes the lanes that it puts into idle; A3 leaves the part asleep 20 µs after E.
Asleep, a sample begins 10 µs before T0 of its tick and ends after its frames; a watched source, PWR_WAKE among them, is the wake
event; before A0 the first is kept, the lowest of one clock; one that is not watched changes nothing. W + 250 µs the part is awake
and the held command is taken. (16 R375, 16 R376, 16 R377, 16 R378, 16 R380, 16 R381, 16 R382, 16 Table 16.3, 16 Table 16.5, 01
Table 1.8) -/
def Obligations.SleepRowsTakeEffect : Prop :=
  ∀ s : State, On s →
    (Due 10 s → s.pwr.state = .awake → (∀ d, (s.domain d).phase = .on ∨ (s.domain d).phase = .off) →
      (1 < s.pwr.idleLeft → ∀ met : Option (Fin 11), exec (.powerDecision met) s = .next { worked 10 s with pwr := { s.pwr with
        idleLeft := s.pwr.idleLeft - 1, active := s.pwr.active || queuesBusy s } }) ∧
      (s.pwr.idleLeft ≤ 1 → maySleep s = true → ∀ (met : Option (Fin 11)) (f : Option Nat),
        met = none ∧ f = none ∨
          (∃ k : Fin 11, met = some k ∧ (k = 1 ∨ k = 2 ∨ k = 3 ∨ k = 5 ∨ k = 7 ∨ k = 8 ∨ k = 10 ∨ k = 6 ∧ s.pwr.cfg.hostKeep = true) ∧ f = some k.val) →
        Completes (.powerDecision met) s fun t => t.pwr.state = .decided ∧ t.pwr.decidedTick = ownTick s ∧ t.pwr.fired = f ∧
          t.pwr.indicating = (List.range 4).filter (fun i => decide ((s.inst i).st = 0x51)))) ∧
    (s.pwr.state = .decided → s.pwr.indicating ≠ [] → 64 ≤ ticksSince s.pwr.decidedTick s →
      Completes .sleepIndicationTimeout s fun t => Books { s with pwr := { s.pwr with
        state := .awake, indicating := [], fired := none, idleLeft := s.pwr.cfg.idleTicks } } t) ∧
    (s.pwr.state = .decided → s.pwr.indicating = [] → (∀ e ∈ s.mem.groups, e.2.step = none) →
      (s.pwr.fired = none → exec .sleepEntryStart s = .next { s with pwr := { s.pwr with
        entryPs := s.clk.nowPs, abortPoint := 1, state := .entering, padsLatched := true, ownLatch := !s.pwr.padsLatched
        latched := if s.pwr.padsLatched then s.pwr.latched else padLevels s } }) ∧
      (∀ k, s.pwr.fired = some k → Completes .sleepEntryStart s fun t =>
        t.pwr.state = .awake ∧ t.pwr.wakeCause = k ∧ t.pwr.lastAbort = 0 ∧ t.pwr.latched = s.pwr.latched)) ∧
    (∀ n : Fin 4, s.pwr.state = .entering → s.pwr.abortPoint = n.val → 1 ≤ n.val →
      (∀ k, s.pwr.fired = some k → Completes (.sleepAbortPoint n) s fun t => t.pwr.state = .awake ∧ t.pwr.wakeCause = k ∧
        t.pwr.lastAbort = n.val ∧ t.pwr.padsLatched = (s.pwr.padsLatched && !s.pwr.ownLatch) ∧ t.clk.nowPs = max s.clk.nowPs (s.pwr.entryPs + (4 + n.val) * 1000000)) ∧
      (s.pwr.fired = none →
        (n.val = 1 → Completes (.sleepAbortPoint n) s fun t => t.pwr.abortPoint = 2 ∧ t.pwr.state = .entering ∧
          t.clk.nowPs = max s.clk.nowPs (s.pwr.entryPs + 5000000) ∧
          t.pwr.idled = (List.range 32).filter (fun w => keptLane w s && decide ((s.lane w).state = .locked) &&
            !(s.lane w).txIdle && decide ((s.lane w).rate ≤ 3) && idleAllowed w s)) ∧
        (n.val = 2 → exec (.sleepAbortPoint n) s = .next { advanceTo (s.pwr.entryPs + 6000000) s with
          pwr := { s.pwr with abortPoint := 3 } }) ∧
        (n.val = 3 → Completes (.sleepAbortPoint n) s fun t => t.pwr.state = .asleep ∧ t.pwr.asleepTick = ownTick s ∧
          t.clk.nowPs = max s.clk.nowPs (s.pwr.entryPs + 20000000)))) ∧
    (s.pwr.state = .asleep → (ticksSince s.pwr.asleepTick s + 1) % max 1 s.pwr.cfg.samplePeriod = 0 → s.clk.channel < 4 →
      s.pwr.sampleLeft < 3 → Completes .sleepSampleStart s fun t => t.pwr = { s.pwr with state := .sampling, sampleLeft := 3 } ∧
        t.clk = { s.clk with nowPs := max s.clk.nowPs (s.clk.t0Ps + 115000000) }) ∧
    (s.pwr.state = .sampling → s.pwr.sampleLeft = 0 → 2 < s.pwr.cfg.samplePeriod → exec .sleepSampleEnd s = .next
      { s with pwr := { s.pwr with state := .asleep } }) ∧
    (∀ k : Fin 11,
      (s.pwr.state = .asleep → k.val = 5 ∨ k.val = 7 ∨ k.val = 8 ∨ k.val = 10 ∨ k.val = 6 ∧ s.pwr.cfg.hostKeep = true →
        exec (.wakeEvent k) s = .next { s with pwr := { s.pwr with
          state := .waking, wakePs := s.clk.nowPs, wakeCause := k.val, clockFast := true
          sleepTicks := ownTick s - s.pwr.asleepTick, fireClock := clockNo s } }) ∧
      (s.pwr.state = .asleep → k.val < 5 → exec (.wakeEvent k) s = .next s) ∧
      (s.pwr.state = .decided → k.val = 1 ∨ k.val = 2 ∨ k.val = 3 ∨ k.val = 5 →
        (s.pwr.fired = none → exec (.wakeEvent k) s = .next
          { s with pwr := { s.pwr with fired := some k.val, fireClock := clockNo s } }) ∧
        (∀ j, s.pwr.fired = some j →
          (s.pwr.fireClock = clockNo s → exec (.wakeEvent k) s = .next { s with pwr := { s.pwr with fired := some (min k.val j) } }) ∧
          (s.pwr.fireClock ≠ clockNo s → exec (.wakeEvent k) s = .next s)))) ∧
    (∀ (p : Path) (v : Word), pathUp p s = true →
      (v.getLsbD 0 = true → s.pwr.state = .asleep ∨ s.pwr.state = .sampling → exec (.pwrWake p v) s = .next
        { s with pwr := { s.pwr with state := .waking, wakePs := s.clk.nowPs, wakeCause := 8, clockFast := true
                                     sleepTicks := ownTick s - s.pwr.asleepTick, fireClock := clockNo s } }) ∧
      (v.getLsbD 0 = false → exec (.pwrWake p v) s = .next s)) ∧
    (s.pwr.state = .waking → s.pwr.heldBells = [] → Completes .wakeComplete s fun t => t.pwr.state = .awake ∧
      t.pwr.idleLeft = s.pwr.cfg.idleTicks ∧ t.pwr.idled = [] ∧ t.pwr.heldPush = none ∧
      t.clk.nowPs = max s.clk.nowPs (s.pwr.wakePs + 250000000) ∧
      (∀ d, s.pwr.heldPush = some d → t.spi.mail = some d ∧ t.spi.cmdFree = false))

/-- Run alone, SLEEP_CONFIG keeps its settings for the next tick edge; DOMAIN_POWER off of a domain in service answers BUSY_SERVICE
without FORCE, of a table domain with a locked block LOCK_HELD, else it is requested for item 10 and goes on; of a domain that is
off or going off it answers at once, as does on of one that is not off; on of one that is off begins its power-up and goes on;
CLOCK_SWITCH and PAD_RELEASE, by which driven outputs take their levels, answer OK once and else NOT_FOUND; POWER_QUERY answers its
four words. On a part that is on: a power-up that ends brings the domain back and answers; a power-down that only grants hold up
revokes them 4 µs in, leaves the domain off and answers how many. (16 R372, 16 R373, 16 R374, 16 R381, 16 R382, 16 R383, 16 R384, 16
Table 16.1, 16 Table 16.7) -/
def Obligations.PowerCommandsAndDomains : Prop :=
  (∀ (q : CmdReq) (c : Cmd) (s : State),
    (∀ v : SleepCfg, v = { enable := bit (u8 q.body 0) 0, hostKeep := bit (u8 q.body 0) 1, wakePinMask := u8 q.body 1,
                            idleTicks := u16 q.body 2, samplePeriod := u16 q.body 4, wakePinEdge := u8 q.body 6, wakeBytes := u32 q.body 8,
                            maxSleepTicks := u32 q.body 12 } → Runs 0x0B00 q c s → Completes (.sleepConfig q) s fun t => Answers c .ok 0 [] s t ∧
      Books { s with pwr := { s.pwr with cfgNext := some v } } t) ∧
    (∀ d : Nat, d = q.index → Runs 0x0B01 q c s →
      (u8 q.body 0 = 0 → (s.domain d).phase = .on ∨ (s.domain d).phase = .powering →
        (carriesService d s = true → q.force = false → Completes (.domainPower q) s fun t =>
          Answers c .busyService 0 [] s t ∧ Books s t) ∧
        (carriesService d s = false ∨ q.force = true →
          (domainLocked d s = true → Completes (.domainPower q) s fun t => Answers c .lockHeld 0 [] s t ∧ Books s t) ∧
          (domainLocked d s = false → Completes (.domainPower q) s fun t => t.domain d = { phase := .requested } ∧
            (∃ x ∈ t.cmd.executing, x.seq = c.seq)))) ∧
      (u8 q.body 0 = 0 → (s.domain d).phase ≠ .on → (s.domain d).phase ≠ .powering → Completes (.domainPower q) s fun t => Answers c .ok 0 (le 4 0) s t ∧ Books s t) ∧
      (u8 q.body 0 ≠ 0 → (s.domain d).phase = .off → Completes (.domainPower q) s fun t => GoesOn c t ∧
        Books (s.setDomain d { phase := .powering, sincePs := s.clk.nowPs }) t) ∧
      (u8 q.body 0 ≠ 0 → (s.domain d).phase ≠ .off → Completes (.domainPower q) s fun t => Answers c .ok 0 (le 4 0) s t ∧ Books s t)) ∧
    (Runs 0x0B02 q c s →
      (s.pwr.clockFast = true → Completes (.clockSwitch q) s fun t => Answers c .ok 0 [] s t ∧
        Books { s with pwr := { s.pwr with clockFast := false } } t) ∧
      (s.pwr.clockFast = false → Completes (.clockSwitch q) s fun t => Answers c .notFound 0 [] s t ∧ Books s t)) ∧
    (Runs 0x0B03 q c s →
      (s.pwr.padsLatched = true → Completes (.padRelease q) s fun t => Answers c .ok 0 [] s t ∧
        Books { s with pwr := { s.pwr with padsLatched := false, latched := [] } } t ∧
        (∀ (o : Nat) (v : Bool), o < 9 → s.dev.outputs.getLsbD (if o < 8 then 2 else 3) = true → padsOwned s = false → v = outLevel o s →
          (8 + o, !v) ∈ s.pwr.latched → Out.pad o v ∈ t.out)) ∧
      (s.pwr.padsLatched = false → Completes (.padRelease q) s fun t => Answers c .notFound 0 [] s t ∧ Books s t)) ∧
    (Runs 0x0B04 q c s → Completes (.powerQuery q) s fun t =>
      Answers c .ok 0 (le 4 (pwrStatus s) ++ le 4 (domainsOn s) ++ le 4 s.pwr.idleLeft ++ le 4 s.pwr.sleepTicks.toNat) s t ∧
      Books s t)) ∧
  (∀ (s : State) (d : Fin 24) (c : Cmd), Begun 0x0B01 c s → c.req.index = d.val →
    ((s.domain d).phase = .powering → Completes (.domainPowerUpComplete d) s fun t => Answers c .ok 0 (le 4 0) s t ∧
      Books (s.setDomain d {}) t) ∧
    ((s.domain d).phase = .stopping → domainHeld d s = false → d.val < 7 ∨ 11 ≤ d.val ∧ d.val < 15 →
      domainGrants d s ≠ [] → Completes (.domainOffGrantTimeout d) s fun t =>
        Answers c .ok 0 (le 4 (domainGrants d s).length) s t ∧ t.domain d = { phase := .off } ∧
        t.clk.nowPs = max s.clk.nowPs ((s.domain d).sincePs + 4000000)))

/-- Run alone, LC_ADVANCE answers BUSY_RETRY while a test or a programming runs, BUSY_SERVICE for a part in service without FORCE, else
it programs the target's row, taking the staged words as key for PROVISIONED, and goes on; once the copies verify, the state is in
force, keys and secure part are cleared, JTAG is in reset and the reply gives the KCV of a fused key; a failed programming answers
HW_FAULT and leaves the state. BIST_RUN answers BUSY_RETRY, HW_FAULT, LOCK_HELD or BUSY_SERVICE in this order, else the test of one
block begins; its end with the ROM's signature answers RESULT as so far, with another, in MANUFACTURE and RETURNED, notes the
failure and answers RESULT 1. TRST# resets the TAP, and pads that the boundary register gives back take the levels of their states;
IDCODE puts out its word; an instruction that is not open, or not defined, acts as BYPASS. (17 R385, 17 R386, 17 R387, 17 R389, 17
R390, 17 R391, 17 R392, 17 R395, 17 R396, 17 Table 17.4) -/
def Obligations.LifeCycleAndTestRowsTakeEffect : Prop :=
  (∀ (q : CmdReq) (c : Cmd) (s : State) (t0 : Nat), t0 = u8 q.body 0 → Runs 0x0D00 q c s →
    (s.bist.run ≠ none ∨ s.lc.programming ≠ none → Completes (.lcAdvance q) s fun t => Answers c .busyRetry 0 [] s t ∧ Books s t) ∧
    (s.bist.run = none → s.lc.programming = none →
      (t0 = 3 ∨ t0 = 4 → carriesAny s = true → q.force = false → Completes (.lcAdvance q) s fun t =>
        Answers c .busyService 0 [] s t ∧ Books s t) ∧
      (t0 = 1 → Completes (.lcAdvance q) s fun t => GoesOn c t ∧ t.fuse = { s.fuse with key := stagedKey s } ∧
        t.lc = { s.lc with programming := some { target := 1 } }) ∧
      (t0 = 2 → Completes (.lcAdvance q) s fun t => GoesOn c t ∧ Books { s with lc := { s.lc with programming := some { target := 2 } } } t) ∧
      (t0 = 3 ∨ t0 = 4 → carriesAny s = false ∨ q.force = true → Completes (.lcAdvance q) s fun t =>
        t.lc = { s.lc with programming := some { target := t0 } }))) ∧
  (∀ (s : State) (c : Cmd) (r : LcRun), Begun 0x0D00 c s → s.lc.programming = some r →
    (Completes (.lcFuseVerified true) s fun t =>
      Answers c .ok 0 (le 1 r.target ++ zeros 3 ++
        le 4 (if r.target = 1 then kcvOf { loaded := true, aes256 := true, key := s.fuse.key } else 0)) s t ∧
      t.lc.state = r.target ∧ t.lc.programming = none ∧ t.jtag = 1 ∧ t.cipher.slots = [] ∧ t.mem.wiped = true ∧ t.mem.wipeCause = 4) ∧
    (Completes (.lcFuseVerified false) s fun t => Answers c .hwFault 0 [] s t ∧ t.lc.state = s.lc.state ∧ t.lc.programming = none ∧
      t.cipher = s.cipher ∧ t.mem = s.mem)) ∧
  (∀ (q : CmdReq) (c : Cmd) (s : State) (b : Nat), b = u8 q.body 0 → b < 50 → Runs 0x0D01 q c s →
    (s.bist.run ≠ none → Completes (.bistRun q) s fun t => Answers c .busyRetry 0 [] s t ∧ Books s t) ∧
    (s.bist.run = none → s.dev.isolated.getLsbD b = true → Completes (.bistRun q) s fun t => Answers c .hwFault 0 [] s t ∧ Books s t) ∧
    (s.bist.run = none → s.dev.isolated.getLsbD b = false →
      (b < 16 ∧ locked b s = true → Completes (.bistRun q) s fun t => Answers c .lockHeld 0 [] s t ∧ Books s t) ∧
      (¬ (b < 16 ∧ locked b s = true) → testable b s = false → q.force = false → Completes (.bistRun q) s fun t =>
        Answers c .busyService 0 [] s t ∧ Books s t) ∧
      (testable b s = true → Completes (.bistRun q) s fun t => GoesOn c t ∧ Books { s with bist := { s.bist with
        run := some { block := b, full := decide (u8 q.body 1 = 2), force := q.force, startTick := ownTick s, whole := !unitwise b s }
        unit := 0xFF, level := if u8 q.body 1 = 2 then 2 else 1, block := b } } t))) ∧
  (∀ (s : State) (c : Cmd) (r : BistRun) (sig : Word), Begun 0x0D01 c s → Plain s → (∀ d, (s.domain d).phase ≠ .stopping) → s.bist.run = some r → r.rest = [] → 16 ≤ r.block →
    (sig = Config.bistSignature r.block (if r.full then 2 else 1) → Completes (.bistComplete sig) s fun t =>
      Answers c .ok 0 (le 1 (b2n (decide (r.failed ≠ 0))) ++ le 1 (r.passed + 1) ++ zeros 2 ++ le 4 sig.toNat ++ le 4 sig.toNat ++
        le 4 (ticksSince r.startTick s) ++ le 8 r.failed) s t ∧ t.bist.run = none ∧ t.bist.lastPass = true ∧ t.bist.fail = s.bist.fail) ∧
    (sig ≠ Config.bistSignature r.block (if r.full then 2 else 1) → s.lc.state = 0 ∨ s.lc.state = 3 → r.failed = 0 →
      Completes (.bistComplete sig) s fun t =>
        Answers c .ok 0 (le 1 1 ++ le 1 (r.passed + 1) ++ zeros 2 ++ le 4 sig.toNat ++
          le 4 (Config.bistSignature r.block (if r.full then 2 else 1)).toNat ++ le 4 (ticksSince r.startTick s) ++
          le 8 (2 ^ r.block)) s t ∧ t.bist.run = none ∧ t.bist.lastPass = false ∧
        t.bist.fail = s.bist.fail ||| BitVec.ofNat 50 (2 ^ r.block))) ∧
  (∀ s : State, On s →
    (padsOwned s = false → exec .trstAssert s = .next { s with jtag := 1 }) ∧
    Completes .trstAssert s (fun t => t = { s with jtag := 1, out := t.out } ∧
      (padsOwned s = true → ∀ o : Nat, o < 9 → s.dev.outputs.getLsbD (if o < 8 then 2 else 3) = true → s.pwr.padsLatched = false →
        Out.pad o (outLevel o s) ∈ t.out)) ∧
    ∀ (code : Byte) (n : Nat),
      (code = 1 → n = 1) →
      (code ≠ 1 → 2 ≤ code.toNat ∧ code.toNat ≤ 7 ∧ (s.lc.state = 0 ∨ s.lc.state = 3) → n = code.toNat) →
      (code ≠ 1 → ¬ (2 ≤ code.toNat ∧ code.toNat ≤ 7 ∧ (s.lc.state = 0 ∨ s.lc.state = 3)) → n = 0xFF) →
      Completes (.jtagInstructionUpdate code) s fun t => t = { s with jtag := n, out := t.out } ∧
        (code = 1 → Out.idcode (s.fuse.siliconStep.toNat % 16 * 2 ^ 28 + 0x0880 * 2 ^ 12 + 0x6AF * 2 + 1) ∈ t.out) ∧
        (code ≠ 1 → padsOwned s = false → t.out = s.out))

/-- Over a path that reaches the registers of a part that is awake: an unmapped read answers zero and is counted, such a write is only
counted; an unaligned read answers 0xFFFF_FFFF, such a write does nothing, and either is counted where the address is undefined; a
write sets HOST_SCRATCH and INT_MASK, clears the bits written as 1 of RESET_CAUSE, but not those that hardware sets in its clock,
leaves CHIP_ID, and does nothing unaligned; TICK_COUNT answers and latches TICK_PHASE; an even counter answers and latches the next
one, an unchained odd one answers; the closed user page reads zero; BW_BYTES_LO latches the port's other words; FLAP_COUNT answers
and clears; EVT_POP and ERR_POP with bit 0 remove the oldest record, and let in one that the full FIFO turned away in their clock;
without bit 0 they do nothing; SPI reads and writes of HOST_SCRATCH do as PCIe's, before command-ready a write does nothing; SPI
STATUS answers its three bits. (02 R36, 02 R37, 02 R41, 02 R65, 02 R67, 03 R83, 18 R398, 18 R408, 18 R411, 18 R412, 00 R10, 00 R12) -/
def Obligations.RegisterAccessRowsTakeEffect : Prop :=
  ∀ s : State,
    (∀ p : Path, Reaches p s →
      (∀ bar addr, addrDefined bar addr s = false → addr % 4 = 0 →
        exec (.unmappedAccess p false bar addr) s = .next (emit (.value p addr 0) (count .unmappedAccess 0 s)) ∧
        exec (.unmappedAccess p true bar addr) s = .next (count .unmappedAccess 0 s)) ∧
      (∀ bar addr, addrDefined bar addr s = true →
        exec (.unalignedAccess p false bar addr) s = .next (emit (.value p addr 0xFFFFFFFF) s) ∧
        exec (.unalignedAccess p true bar addr) s = .next s) ∧
      (∀ bar addr, addrDefined bar addr s = false →
        exec (.unalignedAccess p false bar addr) s = .next (emit (.value p addr 0xFFFFFFFF) (count .unmappedAccess 0 s)) ∧
        exec (.unalignedAccess p true bar addr) s = .next (count .unmappedAccess 0 s)) ∧
      (∀ (v : Word) (b : Bool),
        exec (.registerWrite p 0x1020 v { before := b }) s = .next { s with dev := { s.dev with hostScratch := v } } ∧
        exec (.registerWrite p 0x1018 v {}) s = .next { s with dev := { s.dev with
          resetCause := s.dev.resetCause &&& ~~~ v.setWidth 6 } } ∧
        exec (.registerWrite p 0x1018 v { before := true }) s = .next { s with dev := { s.dev with
          resetCause := s.dev.resetCause &&& ~~~ (v &&& ~~~ setNow 0x1018 s).setWidth 6 } } ∧
        exec (.registerWrite p 0x1000 v { before := b }) s = .next s ∧ exec (.registerWrite p 0x1022 v { before := b }) s = .next s ∧
        exec (.registerWrite p 0x3004 v { before := b }) s = .next { s with evt := { s.evt with mask := v.setWidth 6 } }) ∧
      exec (.tickCountRead p) s = .next (emit (.value p 0x1004 s.clk.tick)
        (s.setLatch p { s.latch p with tickPhase := BitVec.ofNat 32 (tickPhase s) })) ∧
      (∀ k, p ≠ .bar4 → 4096 * s.cnt.winBase.toNat ≤ k → k < 4096 * s.cnt.winBase.toNat + 4096 →
        (k % 2 = 0 → exec (.counterRead p k) s = .next (emit
          (.value p (0xE4000 + 4 * (k - 4096 * s.cnt.winBase.toNat)) (SMap.get 0 s.cnt.value k))
          (s.setLatch p { s.latch p with
            cntHigh := SMap.set 0 (s.latch p).cntHigh (k + 1) (SMap.get 0 s.cnt.value (k + 1)) }))) ∧
        (k % 2 = 1 → SMap.get false s.cnt.chained (k - 1) = false → exec (.counterRead p k) s = .next (emit
          (.value p (0xE4000 + 4 * (k - 4096 * s.cnt.winBase.toNat)) (SMap.get 0 s.cnt.value k)) s))) ∧
      (∀ k, p = .bar4 → s.dev.ctrl.getLsbD 2 = false → 16384 * s.cnt.userBase.toNat ≤ k → k < 16384 * s.cnt.userBase.toNat + 16384 →
        exec (.counterRead p k) s = .next (emit (.value p (4 * (k - 16384 * s.cnt.userBase.toNat)) 0) s)) ∧
      (∀ (n : Fin 96) (b : BwTotal), b = SMap.get {} s.bw.closed n → exec (.bwBytesLoRead p n) s = .next
        (emit (.value p (0xE1000 + 0x10 * n.val) (BitVec.ofNat 32 b.bytes)) (s.setLatch p { s.latch p with
          bwHi := SMap.set 0 (s.latch p).bwHi n (BitVec.ofNat 32 (min 65535 s.bw.closedTicks * 65536 + b.bytes / 2 ^ 32)),
          bwFrames := SMap.set 0 (s.latch p).bwFrames n (BitVec.ofNat 32 b.frames),
          bwEnd := SMap.set 0 (s.latch p).bwEnd n s.bw.closedAt }))) ∧
      (∀ i : Fin 4, exec (.instFlapRead p i false) s = .next
        (emit (.value p (0x10010 + 0x4000 * i.val) (BitVec.ofNat 32 (s.inst i).flapCount))
          (s.modInst i fun x => { x with flapCount := 0, flapArmed := true })))) ∧
    (Awake s → s.dev.quill ≠ 0 →
      (∀ (v : Word) (b : Bool), v.getLsbD 0 = true →
        (b = false ∨ s.evt.turnedAt ≠ clockNo s →
          exec (.evtPop v b) s = .next { s with evt := { s.evt with fifo := s.evt.fifo.drop 1 } }) ∧
        (b = false ∨ s.evt.errTurnedAt ≠ clockNo s →
          exec (.errPop v b) s = .next { s with evt := { s.evt with errFifo := s.evt.errFifo.drop 1 } })) ∧
      (∀ (v : Word) (r : Rec) (rest : List Rec), v.getLsbD 0 = true → s.evt.turnedAt = clockNo s → s.evt.turned = r :: rest →
        Completes (.evtPop v true) s fun t => t.evt.fifo = s.evt.fifo.drop 1 ++ [r] ∧
          t.evt.overflow = (s.evt.overflowWas || !rest.isEmpty)) ∧
      (∀ (v : Word) (r : Rec) (rest : List Rec), v.getLsbD 0 = true → s.evt.errTurnedAt = clockNo s → s.evt.errTurned = r :: rest →
        Completes (.errPop v true) s fun t => t.evt.errFifo = s.evt.errFifo.drop 1 ++ [r] ∧
          t.evt.errOverflow = (s.evt.errOverflowWas || !rest.isEmpty)) ∧
      (∀ (v : Word) (b : Bool), v.getLsbD 0 = false → exec (.evtPop v b) s = .next s ∧ exec (.errPop v b) s = .next s) ∧
      exec .spiStatus s = .next (emit (.spiOut (le 1 (b2n (s.spi.cmdFree && decide (s.dev.quill = 3)) +
        2 * b2n (!s.spi.replies.isEmpty) + 4 * b2n (decide (s.dev.quill = 3))))) s) ∧
      exec (.spiRead 0x1020 1) s = .next (emit (.value .spi 0x1020 s.dev.hostScratch) s) ∧
      exec (.spiRead 0x1021 1) s = .next (emit (.value .spi 0x1021 0xFFFFFFFF) s) ∧
      (∀ v : Word, s.dev.quill = 3 → exec (.spiWrite 0x1020 [v]) s = .next { s with dev := { s.dev with hostScratch := v } }) ∧
      (∀ v : Word, s.dev.quill ≠ 3 → exec (.spiWrite 0x1020 [v]) s = .next s))

/-- On a part that is on: enabling a ring starts it at CONS 0, where its SIZE is not valid it stops with code 1; disabling clears
ENABLE; a doorbell that moves PROD forward inside the ring is taken, one outside stops the ring with code 2, asleep it is held and
wakes the part. Dispatch does nothing where Quill may not take a command or none waits; an unreadable descriptor stops the ring with
code 3, an unowned one ends consumption; a NOP at ring 0's CONS is consumed and begins; a pushed command whose length differs from
its LENGTH gets BAD_LENGTH. The oldest reply is written to the next descriptor, truncated where that is short, and a packet where no
reply waits. A push is taken by a free mailbox and else counted; a whole pull frees the reply. Nonces end after 512 ticks. Awake,
over a path that reaches the registers, accesses at addresses where no register is are counted, and EVT_POP and ERR_POP take the
oldest record off; SPI STATUS answers, and an SPI write of HOST_SCRATCH sets it. (02 R42, 02 R43, 02 R44, 02 R46, 02 R49, 02 R55, 02
R59, 02 R66, 08 R212, 16 R379) -/
def Obligations.CommandTransportRowsTakeEffect : Prop :=
  ∀ s : State, On s →
    (Awake s → s.dev.quill ≠ 0 → ∀ n : Fin 5,
      ((s.ring n).enable = false → ringSizeOk (s.ring n).size.toNat = true → exec (.ringEnable n) s = .next (s.setRing n
        { s.ring n with enable := true, stopped := false, cons := 0, prod := 0, blocked := false })) ∧
      ((s.ring n).enable = false → ringSizeOk (s.ring n).size.toNat = false → exec (.ringEnable n) s = .next (ringError n 1
        (s.setRing n { s.ring n with cons := 0, prod := 0, blocked := false }))) ∧
      exec (.ringDisable n) s = .next (s.setRing n { s.ring n with enable := false, stopped := false })) ∧
    (s.dev.quill ≠ 0 → ∀ (n : Fin 5) (p : BitVec 12), (s.ring n).enable = true → (s.ring n).stopped = false →
      (s.pwr.state = .awake → p.toNat < (s.ring n).size.toNat →
        ((s.ring n).prod + (s.ring n).size.toNat - (s.ring n).cons) % (s.ring n).size.toNat ≤
          (p.toNat + (s.ring n).size.toNat - (s.ring n).cons) % (s.ring n).size.toNat →
        exec (.doorbell n p) s = .next (s.setRing n { s.ring n with prod := p.toNat, blocked := false })) ∧
      (s.pwr.state = .awake → (s.ring n).size.toNat ≤ p.toNat → exec (.doorbell n p) s = .next (ringError n 2 s)) ∧
      (s.pwr.state = .asleep → Completes (.doorbell n p) s fun t => t.pwr.state = .waking ∧ t.pwr.wakeCause = 8 ∧
        t.pwr.heldBells = s.pwr.heldBells ++ [(n.val, p.toNat)] ∧ t.rings = s.rings)) ∧
    (∀ desc data, canDispatch s = false ∨ nextSource s = none → exec (.commandDispatch desc data) s = .next s) ∧
    (∀ desc data, canDispatch s = true → nextSource s = some 3 →
      (desc.fetched = false → exec (.commandDispatch desc data) s = .next (ringError 1 3 s)) ∧
      (desc.fetched = true → desc.owner = false → exec (.commandDispatch desc data) s = .next
        (s.setRing 1 { s.ring 1 with blocked := true }))) ∧
    (∀ (desc : Desc) (tag : Nat), canDispatch s = true → nextSource s = some 0 → tag < 65536 → desc.fetched = true →
      desc.owner = true → desc.length = 32 →
      Completes (.commandDispatch desc (le 2 0x0100 ++ le 2 tag ++ zeros 28)) s fun t =>
        (∃ c, t.cmd.executing = s.cmd.executing ++ [c] ∧ c.op = 0x0100 ∧ c.req = { tag := tag } ∧ c.started = false) ∧
        (t.ring 0).cons = ((s.ring 0).cons + 1) % max 1 (s.ring 0).size.toNat ∧ t.cmd.turn = 1) ∧
    (∀ desc data d, canDispatch s = true → nextSource s = some 1 → s.spi.mail = some d → d.length ≠ 32 + u16 d 4 →
      Completes (.commandDispatch desc data) s fun t => t.spi.mail = none ∧ t.cmd.executing = s.cmd.executing ∧
        t.spi.replies = s.spi.replies ++
          [{ op := u16 d 0, tag := u16 d 2, status := .badLength, detail := 0, tick := s.clk.tick, payload := [], src := .spi }]) ∧
    (∀ (desc : Desc) (r : Reply) (rest : List Reply), s.cmd.waiting = r :: rest → replyReady s = true → desc.fetched = true →
      desc.owner = true → 32 ≤ desc.length → Completes (.replyPost desc) s fun t => t.cmd.waiting = rest ∧
        t.cmd.executing = s.cmd.executing ∧ (t.ring 4).cons = ((s.ring 4).cons + 1) % max 1 (s.ring 4).size.toNat ∧
        .reply (s.ring 4).cons desc.addr (if desc.length < r.bytes.length
          then ({ r with detail := r.detail + 2 } : Reply).bytes.take desc.length else r.bytes) ∈ t.out) ∧
    (∀ (desc : Desc) (q : Nat) (f : Frame) (rest : List Frame), s.cmd.waiting = [] → replyReady s = true →
      hostQueue s = (some q, s) → (s.queue q).frames = f :: rest → desc.fetched = true → desc.owner = true →
      32 ≤ desc.length → (packetBytes f false).length ≤ desc.length → Completes (.hostDelivery desc) s fun t =>
        (t.queue q).frames = rest ∧ .packet (s.ring 4).cons desc.addr (packetBytes f false) ∈ t.out) ∧
    (∀ data, s.dev.quill = 3 → s.dev.ctrl.getLsbD 1 = true → s.pwr.state = .awake →
      (s.spi.cmdFree = true → exec (.spiCmdPush data) s = .next { s with spi := { s.spi with mail := some data, cmdFree := false } }) ∧
      (s.spi.cmdFree = false → exec (.spiCmdPush data) s = .next (count .spiCmdDropped 0 s))) ∧
    (∀ n, s.dev.quill ≠ 0 →
      (s.spi.replies = [] → exec (.spiReplyPull n) s = .next (emit (.spiOut (zeros n)) s)) ∧
      (∀ r rest, s.spi.replies = r :: rest →
        (n < r.bytes.length → exec (.spiReplyPull n) s = .next (emit (.spiOut (fit n r.bytes)) s)) ∧
        (r.bytes.length ≤ n → Completes (.spiReplyPull n) s fun t => t.spi.replies = rest ∧ .spiOut (fit n r.bytes) ∈ t.out))) ∧
    (∀ x : Nonce, s.cmd.nonceRings = some x → s.cmd.nonceSpi = none → s.role.nonce = none →
      (512 ≤ ticksSince x.tick s → exec .nonceExpiry s = .next { s with cmd := { s.cmd with nonceRings := none } }) ∧
      (ticksSince x.tick s < 512 → exec .nonceExpiry s = .next s)) ∧
    (∀ (p : Path) (bar : Bar) (addr : Nat), Reaches p s → addrDefined bar addr s = false → addr % 4 = 0 →
      Completes (.unmappedAccess p true bar addr) s (fun t => t = count .unmappedAccess 0 s) ∧
      Completes (.unalignedAccess p true bar (addr + 1)) s (fun t => t = count .unmappedAccess 0 s)) ∧
    (Awake s → s.dev.quill ≠ 0 →
      Completes (.evtPop 1 false) s (fun t => t.evt.fifo = s.evt.fifo.drop 1) ∧
      Completes (.errPop 1 false) s (fun t => t.evt.errFifo = s.evt.errFifo.drop 1) ∧
      Completes .spiStatus s (fun t => ∃ v : Byte, .spiOut [v] ∈ t.out ∧ v.getLsbD 0 = (s.spi.cmdFree && decide (s.dev.quill = 3)) ∧
        v.getLsbD 1 = !s.spi.replies.isEmpty ∧ v.getLsbD 2 = decide (s.dev.quill = 3)) ∧
      ∀ v : Word, s.dev.quill = 3 → Completes (.spiWrite 0x1020 [v]) s fun t => t.dev.hostScratch = v)

/-- Run alone with nothing pending, NOP answers OK and changes nothing; AUTH_NONCE answers sixteen bytes, which are the rings' nonce
from then on; OUTPUTS_ENABLE answers BUSY_RETRY while pads are latched and else sets and clears the named groups and answers the
mask; REGION_RESET without FORCE answers BUSY_SERVICE on a part that is active or has an instance in O5, of a region that is
resetting goes on with that reset, and else begins one: the region is not OK until it completes; CANCEL answers NOT_FOUND where its
source has no such pending command and else removes the earliest. (02 R55, 02 R59, 02 R60, 02 R61, 02 R62, 02 R63, 16 R381, 19 R419) -/
def Obligations.DeviceCommandsAnswer : Prop :=
  ∀ (q : CmdReq) (c : Cmd) (s : State),
    (Runs 0x0100 q c s → s.cmd.pendingSet = [] → Completes (.nop q) s fun t => Answers c .ok 0 [] s t ∧ Books s t) ∧
    (Runs 0x0101 q c s → Completes (.authNonce q) s fun t => ∃ v : Bytes, v.length = 16 ∧ Answers c .ok 0 v s t ∧
      t.cmd.nonceRings = some { value := v, tick := ownTick s } ∧ v.drop 12 = le 4 s.clk.tick.toNat ∧ t.cmd.nonceSpi = s.cmd.nonceSpi) ∧
    (Runs 0x0102 q c s →
      (s.pwr.padsLatched = true → Completes (.outputsEnable q) s fun t => Answers c .busyRetry 0 [] s t ∧ Books s t) ∧
      (∀ m : BitVec 4, s.pwr.padsLatched = false →
        m = (s.dev.outputs ||| BitVec.ofNat 4 (u32 q.body 0)) &&& ~~~ BitVec.ofNat 4 (u32 q.body 4) →
        Completes (.outputsEnable q) s fun t => Answers c .ok 0 (le 4 m.toNat) s t ∧
          Books { s with dev := { s.dev with outputs := m } } t)) ∧
    (∀ r : Nat, r = u8 q.body 0 → r < 5 → Runs 0x0103 q c s →
      ((pairActive s = true ∨ ∃ i : Fin 4, (s.inst i).inO5 = true) → q.force = false → Completes (.regionReset q) s fun t =>
        Answers c .busyService 0 [] s t ∧ Books s t) ∧
      ((pairActive s = false ∧ ∀ i : Fin 4, (s.inst i).inO5 = false) ∨ q.force = true →
        (s.dev.resetting.getLsbD r = true → Completes (.regionReset q) s fun t => GoesOn c t ∧ Books s t) ∧
        (s.dev.resetting.getLsbD r = false → Completes (.regionReset q) s fun t => t.dev.resetting.getLsbD r = true ∧
          t.dev.regionOk.getLsbD r = false ∧ t.dev.resetCause.getLsbD 3 = true ∧ (∃ x ∈ t.cmd.executing, x.seq = c.seq)))) ∧
    (∀ m : Cmd → Bool, m = (fun e => e.req.atTick && decide (e.req.tag = u16 q.body 0) && fromSource (u8 q.body 2) e) →
      Runs 0x0104 q c s →
      (s.cmd.pendingSet.find? m = none → Completes (.cancel q) s fun t => Answers c .notFound 0 [] s t ∧ Books s t) ∧
      (∀ e, s.cmd.pendingSet.find? m = some e → Completes (.cancel q) s fun t => Answers c .ok 0 [] s t ∧
        t.cmd.pendingSet = s.cmd.pendingSet.filter (fun x => x.seq ≠ e.seq) ∧ Books s t))

/-- Run alone, COUNTER_CONFIG sets the user page's base; COUNTER_CHAIN chains an unchained pair, its odd half from 0 on, leaves a
chained one, and unchains it; COUNTER_CLEAR of a free counter memory zeroes the range with its OVF bits, but increments of its own
clock are kept; SNAPSHOT answers the tick, its ns and the values of its range, and clears them only with CLEAR; both wait for their
transfer where they do not have their turn at counter memory, but where that wait would break the rank order they answer
DEADLOCK_AVOIDED; BW_CONFIG keeps its window for the next tick edge, the length in force changes nothing. (18 R406, 18 R407, 18
R409, 18 R411, 18 R412, 18 R413, 18 R414, 14 R350) -/
def Obligations.CounterCommandsAnswer : Prop :=
  ∀ (q : CmdReq) (c : Cmd) (s : State),
    (Runs 0x0E00 q c s → Completes (.counterConfig q) s fun t => Answers c .ok 0 [] s t ∧
      t.cnt.userBase = BitVec.ofNat 6 (u8 q.body 0) ∧ t.bw = s.bw) ∧
    (∀ k : Nat, k = u32 q.body 0 → Runs 0x0E01 q c s →
      (u8 q.body 4 = 0 → SMap.get false s.cnt.chained k = false → s.cmd.waiting.length < 63 → Completes (.counterChain q) s fun t =>
        Answers c .ok 0 [] s t ∧ SMap.get false t.cnt.chained k = true ∧ SMap.get 0 t.cnt.value (k + 1) = 0 ∧
        ∀ j, j ≠ k + 1 → SMap.get 0 t.cnt.value j = SMap.get 0 s.cnt.value j) ∧
      (u8 q.body 4 ≠ 0 → Completes (.counterChain q) s fun t => Answers c .ok 0 [] s t ∧
        SMap.get false t.cnt.chained k = false ∧ ∀ j, j ≠ k → SMap.get false t.cnt.chained j = SMap.get false s.cnt.chained j)) ∧
    (∀ a n : Nat, a = u32 q.body 0 → n = u32 q.body 4 → Runs 0x0E02 q c s →
      (hasTurn 3 [34] s = true → s.cmd.waiting.length < 63 →
        Completes (.counterClear q false) s (fun t => Answers c .ok 0 [] s t ∧
          ∀ k, (a ≤ k → k < a + n → SMap.get 0 t.cnt.value k = 0 ∧ SMap.get false t.cnt.ovf k = false)) ∧
        (∀ (k m : Nat), a ≤ k → k < a + n → s.notes = [(incrementNotes + k, { clock := clockNo s, added := m })] →
          Completes (.counterClear q true) s fun t => Answers c .ok 0 [] s t ∧ SMap.get 0 t.cnt.value k = BitVec.ofNat 32 m)) ∧
      (hasTurn 3 [34] s = false → ∀ b : Bool,
        (breachesRank 3 [34] s = false → Completes (.counterClear q b) s fun t => GoesOn c t ∧ t.cnt = s.cnt ∧
          t.mem.requests = s.mem.requests ++ [{ port := 3, targets := [34], use := .command c.seq, sincePs := s.clk.nowPs }]) ∧
        (breachesRank 3 [34] s = true → Completes (.counterClear q b) s fun t => Answers c .deadlockAvoided 0 [] s t ∧ Books s t))) ∧
    (∀ a n : Nat, a = u32 q.body 0 → n = u16 q.body 4 → Runs 0x0E03 q c s →
      (hasTurn 3 [34] s = true → Completes (.snapshot q) s fun t =>
        Answers c .ok 0 (le 4 s.clk.tick.toNat ++ le 4 (tickNs s) ++ zeros 8 ++
          ((List.range n).map (fun k => le 4 (SMap.get 0 s.cnt.value (a + k)).toNat)).flatten) s t ∧
        (bit (u8 q.body 6) 0 = false → Books { s with mem := { s.mem with order := t.mem.order } } t) ∧
        (bit (u8 q.body 6) 0 = true → s.cmd.waiting.length < 63 → ∀ k, a ≤ k → k < a + n → SMap.get 0 t.cnt.value k = 0)) ∧
      (hasTurn 3 [34] s = false → breachesRank 3 [34] s = false → Completes (.snapshot q) s fun t => GoesOn c t ∧ t.cnt = s.cnt) ∧
      (hasTurn 3 [34] s = false → breachesRank 3 [34] s = true → Completes (.snapshot q) s fun t =>
        Answers c .deadlockAvoided 0 [] s t ∧ Books s t)) ∧
    (Runs 0x0E04 q c s →
      (u16 q.body 0 ≠ s.bw.windowTicks → Completes (.bwConfig q) s fun t => Answers c .ok 0 [] s t ∧
        Books { s with bw := { s.bw with nextTicks := some (u16 q.body 0) } } t) ∧
      (u16 q.body 0 = s.bw.windowTicks → Completes (.bwConfig q) s fun t => Answers c .ok 0 [] s t ∧ Books s t))

/-- On a part that is on: a tick edge without a reference comes 125 µs after the last and counts on by one, sets INT_CAUSE's TICK bit
and takes the temperature, which is fatal once readings above 120 °C have stood for 100 µs; locked to an instance it is moved by at
most 8 ns towards its frame start; an item other than 4 and 12 that is open at its deadline is counted, the 16th time in a row its
region fails, Control fatally, and one that is not open changes nothing; the bandwidth window that ends closes and a new one opens,
other ticks go on; a bank's first fault is retried, its second takes the group's spare, a fault of a spare that stands in for no
unit changes nothing; a fatal condition, that of temperature 100 µs after the reading, is recorded, darkens the lasers and gives up
the light, a second one is not; the end of a region reset makes the region and its blocks OK and answers with the ticks since
dispatch. (01 R16, 01 R22, 01 R25, 01 R33, 01 R35, 18 R400, 18 R401, 18 R411, 19 R418, 19 R419, 01 Table 1.3, 21 R459) -/
def Obligations.TickAndFaultRowsTakeEffect : Prop :=
  ∀ s : State, On s →
    (∀ temp : Int, s.clk.state = .free → s.clk.alignAtPs = none → Completes (.tickEdge temp) s fun t =>
      t.clk.t0Ps = s.clk.t0Ps + tickPs ∧ t.clk.tick = s.clk.tick + 1 ∧ t.tempC = temp ∧ t.evt.cause.getLsbD 5 = true ∧
      (120 < temp → t.hotPs = some (s.hotPs.getD (max s.clk.nowPs (s.clk.t0Ps + tickPs)))) ∧ (temp ≤ 120 → t.hotPs = none) ∧
      (∀ p, 120 < temp → s.hotPs = some p → p + 100000000 ≤ max s.clk.nowPs (s.clk.t0Ps + tickPs) → t.fatal.asserted = true)) ∧
    (∀ temp : Int, s.clk.state = .locked → s.clk.alignAtPs = none → s.clk.channel < 4 → s.pwr.state ≠ .asleep →
      Completes (.tickEdge temp) s fun t =>
        t.clk.t0Ps = (((s.clk.t0Ps + tickPs : Nat) : Int) + max (-8000) (min 8000 (offsetTo (s.inst s.clk.channel).sync.phyPs s))).toNat ∧
        t.clk.tick = s.clk.tick + 1) ∧
    (∀ (k : Fin 12) (n : Nat), n = k.val + 1 → n ≠ 12 →
      (itemOpen n s = false ∨ s.clk.overrunNow.contains n = true → exec (.tickOverrun k) s = .next s) ∧
      (itemOpen n s = true → s.clk.overrunNow.contains n = false → n ≠ 4 →
        (SMap.get 0 s.clk.overrunRun n + 1 < 16 → Completes (.tickOverrun k) s fun t => Books { s with clk := { s.clk with
          nowPs := max s.clk.nowPs (strokeEnd (itemDeadline n) s), overrunNow := n :: s.clk.overrunNow,
          overrunRun := SMap.set 0 s.clk.overrunRun n (SMap.get 0 s.clk.overrunRun n + 1) } } t) ∧
        (SMap.get 0 s.clk.overrunRun n = 15 → itemRegion n = 5 → s.fatal.asserted = false →
          Completes (.tickOverrun k) s fun t => t.fatal.asserted = true ∧ t.fatal.cause = 2 ∧ t.fatal.region = 5 ∧
            SMap.get 0 t.clk.overrunRun n = 0))) ∧
    (Due 8 s →
      (tickDiff s.clk.tick s.bw.base % (max 1 s.bw.windowTicks : Nat) = 0 ∨ s.bw.ended = true →
        exec .counterWindowClose s = .next { worked 8 s with bw := { s.bw with
          closed := s.bw.run, run := [], closedTicks := s.bw.elapsed, closedAt := s.clk.tick, elapsed := 0, ended := false } }) ∧
      (tickDiff s.clk.tick s.bw.base % (max 1 s.bw.windowTicks : Nat) ≠ 0 → s.bw.ended = false →
        exec .counterWindowClose s = .next (worked 8 s))) ∧
    (∀ u : FaultUnit, Plain s → u.spare = true → s.bist.run = none → exec (.cellFault u) s = .next s) ∧
    (∀ (u : FaultUnit) (key : Nat), Plain s → u.spare = false → 26 ≤ u.block → u.block < 34 →
      key = (u.region.val * 64 + u.block % 64) * 2 ^ 32 + (u.group % 256 * 2 ^ 24 + u.cell % 65536) →
      (s.dev.faulted.contains key = false → Completes (.cellFault u) s fun t =>
        Books { s with dev := { s.dev with faulted := key :: s.dev.faulted } } t) ∧
      (s.dev.faulted.contains key = true → SMap.get false s.mem.bankSpare (u.block - 26) = false → Completes (.cellFault u) s fun t =>
        Books { s with dev := { s.dev with faulted := s.dev.faulted.filter (· ≠ key) },
                       mem := { s.mem with bankSpare := SMap.set false s.mem.bankSpare (u.block - 26) true } } t)) ∧
    (∀ r : Fin 6, s.hotPs = none → exec (.fatalCondition 4 r) s = .next s) ∧
    (∀ (k : Fin 6) (r : Fin 6) (at_ : Nat), k ≠ 0 →
      (k ≠ 4 → at_ = s.clk.nowPs) → (k = 4 → ∃ p, s.hotPs = some p ∧ at_ = max s.clk.nowPs (p + 100000000)) →
      (s.fatal.asserted = false → Completes (.fatalCondition k r) s fun t =>
        t.fatal = { asserted := true, valid := true, region := if k.val ≤ 2 then r.val else 0, cause := k.val
                    tick := s.clk.tick, atPs := at_ } ∧ t.clk = { s.clk with nowPs := at_ } ∧
        t.pair.actOut = false ∧ (∀ i : Fin 4, (t.inst i).laserOn = false) ∧ t.cmd = s.cmd) ∧
      (s.fatal.asserted = true → exec (.fatalCondition k r) s = .next { s with clk := { s.clk with nowPs := at_ } })) ∧
    (∀ (r : Fin 5) (c : Cmd), Begun 0x0103 c s → s.dev.resetting.getLsbD r = true → u8 c.req.body 0 = r.val → r = 1 ∨ r = 2 →
      Completes (.regionResetComplete r) s fun t => Answers c .ok 0 (le 4 (s.clk.tick - c.tick).toNat) s t ∧
        t.dev.resetting.getLsbD r = false ∧ t.dev.regionOk.getLsbD r = true ∧
        ∀ b, b < 50 → blockRegion b = r.val → t.dev.isolated.getLsbD b = false)

/-- A cold reset of a powered part leaves the ROM loader running with the straps as sampled, its clock's count at 0, no instance, table,
command, event, counter or key, the fuses as they were (but for a row whose programming it interrupts) and the life cycle as they
say; without power it does nothing. RESET# leaves the part in reset with the same losses, its cause recorded and the fatal record
kept; its end starts the ROM loader with new straps. The chip reset comes 1 ms after a fatal condition and keeps TICK_COUNT. PERST#
disables every ring and discards the waiting replies; its end lets PCIe accesses through. A function-level reset revokes the leases
of the PCIe owner and no others. (19 R415, 19 R416, 19 R417, 19 R420, 19 R421, 18 R401, 06 R159, 02 Table 2.2, 17 R385, 19 Table
19.1, 19 Table 19.4) -/
def Obligations.ResetRowsTakeEffect : Prop :=
  ∀ s : State,
    (∀ x : Straps, s.hot.powered = true → Completes (.coldReset x) s fun t =>
      t.dev.quill = 1 ∧ t.dev.slotId = x.slotId ∧ t.dev.role = x.role ∧ t.dev.bootSrc = x.bootSrc ∧ t.clk.tick = 0 ∧ t.insts = [] ∧
      t.tbl = State.reset.tbl ∧ t.cmd = State.reset.cmd ∧ t.evt = State.reset.evt ∧ t.cnt = State.reset.cnt ∧
      t.cipher = State.reset.cipher ∧ t.mem = State.reset.mem ∧ (s.lc.programming = none → t.fuse = s.fuse) ∧ t.lc.state = lifeOf t.fuse.copies ∧
      t.pending = s.pending ∧ ∃ l, t.out = l ++ s.out) ∧
    (∀ x : Straps, s.hot.powered = false → exec (.coldReset x) s = .next s ∧ exec .warmReset s = .next s ∧
      exec (.resetDeassert x) s = .next s) ∧
    (s.hot.powered = true → Completes .warmReset s fun t => t.boot.inReset = true ∧ t.dev.quill = 0 ∧ t.insts = [] ∧
      t.tbl = State.reset.tbl ∧ t.cmd = State.reset.cmd ∧ t.cipher = State.reset.cipher ∧ (s.lc.programming = none → t.fuse = s.fuse) ∧
      t.dev.resetCause = s.dev.resetCause ||| 2 ∧ t.fatal = { s.fatal with asserted := false } ∧ t.pending = s.pending) ∧
    (∀ x : Straps, s.hot.powered = true → s.boot.inReset = true → Completes (.resetDeassert x) s fun t =>
      t.boot.inReset = false ∧ t.dev.quill = 1 ∧ t.dev.slotId = x.slotId ∧ t.dev.role = x.role ∧ t.clk.tick = 0 ∧ t.insts = [] ∧
      t.dev.resetCause = s.dev.resetCause) ∧
    (On s → s.fatal.asserted = true → Completes .fatalChipReset s fun t => t.fatal.asserted = false ∧ t.fatal.valid = s.fatal.valid ∧
      t.fatal.cause = s.fatal.cause ∧ t.clk.tick = s.clk.tick ∧ t.insts = [] ∧ t.dev.quill = 1 ∧ t.cmd = State.reset.cmd ∧
      t.clk.nowPs = max s.clk.nowPs (s.fatal.atPs + 1000000000) ∧ t.dev.resetCause.getLsbD 4 = true) ∧
    (s.mem.grants = [] → s.cmd.executing = [] → s.tbl.leases = [] → Completes .perstAssert s fun t => t.boot.perst = true ∧
      t.cmd.waiting = [] ∧ t.cmd.nonceRings = none ∧ t.evt.mask = 0 ∧ (∀ n : Fin 5, (t.ring n).enable = false) ∧
      t.dev.resetCause = s.dev.resetCause ||| 4 ∧ t.insts = s.insts ∧ t.tbl = s.tbl) ∧
    exec .perstDeassert s = .next { s with boot := { s.boot with perst := false } } ∧
    (On s → Completes .functionLevelReset s fun t => (∀ l ∈ t.tbl.leases, l.owner ≠ 0 ∧ l ∈ s.tbl.leases))

/-- BOOT_CTRL with GO in the ROM, where PCIe is permitted, starts the fetch and stores LENGTH, without GO it stores LENGTH, once
command-ready it does nothing. On a part that is on: on the manager's LOCKED lane chunk 0 starts a delivery, the next one in order
adds to it, one whose check field fails, or a gap, ends it with REJECT 6; a complete image whose checks hold is kept and verified,
one that fails a check is rejected with that check's code; a PCIe fetch that ends in the same clock goes first, and one that cannot
be read is rejected with code 6; command-ready follows a verified image with its firmware version. The switch closes, also 1 s after
an overcurrent; it opens and leaves the part dark. An eject is recognised once; 4 ms later the part is quiesced without light; the
eject's end lifts it and lets out what it kept. (19 R422, 19 R423, 19 R424, 19 R425, 19 R426, 19 R427, 20 R438, 20 R439, 20 R441, 20
R442, 20 R443, 19 Table 19.6) -/
def Obligations.BootAndInsertionRowsTakeEffect : Prop :=
  ∀ s : State,
    (∀ (p : Path) (v : Word), Reaches p s →
      (s.dev.quill = 1 → v.getLsbD 31 = true → pathPermitted .pcie s = true → exec (.bootGo p v) s = .next { s with boot := { s.boot with
        length := v.toNat % 2 ^ 20, fetching := true } }) ∧
      (s.dev.quill ≠ 3 → v.getLsbD 31 = false → exec (.bootGo p v) s = .next { s with boot := { s.boot with length := v.toNat % 2 ^ 20 } }) ∧
      (s.dev.quill = 3 → exec (.bootGo p v) s = .next s)) ∧
    (∀ (f : FrameFields) (last : Bool) (field : Bytes), On s → pathPermitted .manager s = true → mapiynLane 0 s = true → f.kind = 1 →
      s.dev.quill = 1 ∨ s.dev.quill = 4 →
      (∀ data, openField (bodyOf f) f.length.toNat field none = some data →
        (s.boot.manager = none → f.subPort = 0 → exec (.imageChunkRx .manager f last field) s = .next { s with boot := { s.boot with
          manager := some { next := 1, data := data, complete := last } } }) ∧
        (∀ d, s.boot.manager = some d → d.complete = false → d.next = f.subPort.toNat →
          exec (.imageChunkRx .manager f last field) s = .next { s with boot := { s.boot with
            manager := some { next := f.subPort.toNat + 1, data := d.data ++ data, complete := last } } })) ∧
      (openField (bodyOf f) f.length.toNat field none = none ∨ (∃ d, s.boot.manager = some d ∧ d.next ≠ f.subPort.toNat) →
        Completes (.imageChunkRx .manager f last field) s fun t => t.boot.manager = none ∧ t.boot.reject = 6 ∧ t.dev.quill = 4)) ∧
    (∀ (d : Delivery) (met : Option ImgPath) (im : Option Bytes), On s → s.boot.manager = some d → d.complete = true →
      s.dev.quill = 1 ∨ s.dev.quill = 4 →
      (met = none ∨ met = some .partner → Completes (.imageDelivered .manager met im) s fun t =>
        t.boot.path = 2 ∧ t.boot.manager = none ∧ (imageFault d.data = none → t.dev.quill = 2 ∧ t.boot.image = d.data) ∧
        ∀ k, imageFault d.data = some k → t.dev.quill = 4 ∧ t.boot.reject = k ∧ t.boot.image = s.boot.image) ∧
      (s.boot.fetching = true → hasTurn 1 hostRead_ s = true →
        exec (.imageDelivered .manager (some .pcie) im) s = exec (.imageDelivered .pcie none im) s)) ∧
    (On s → s.boot.fetching = true → hasTurn 1 hostRead_ s = true → s.dev.quill = 1 ∨ s.dev.quill = 4 →
      Completes (.imageDelivered .pcie none none) s (fun t => t.dev.quill = 4 ∧ t.boot.reject = 6 ∧ t.boot.path = 1 ∧ t.boot.fetching = false) ∧
      ∀ b, Completes (.imageDelivered .pcie none (some b)) s fun t => t.boot.path = 1 ∧ t.boot.fetching = false ∧
        (imageFault (fit s.boot.length b) = none → t.dev.quill = 2 ∧ t.boot.image = fit s.boot.length b) ∧
        ∀ k, imageFault (fit s.boot.length b) = some k → t.dev.quill = 4 ∧ t.boot.reject = k) ∧
    (On s → s.dev.quill = 2 → exec .commandReady s = .next { s with dev := { s.dev with
      quill := 3, fwVersion := w32 s.boot.image 8 } }) ∧
    (s.hot.powered = false →
      (s.hot.lastTrip ≠ some .current → exec .hotswapClose s = .next { s with hot := { s.hot with
        powered := true, ejectReq := false, trips := if 3 ≤ s.hot.trips then 0 else s.hot.trips } }) ∧
      (s.hot.lastTrip = some .current → Completes .hotswapClose s fun t => t.hot.powered = true ∧
        t.clk.nowPs = max s.clk.nowPs (s.hot.tripPs + 1000000000000))) ∧
    (∀ k : Trip, s.hot.powered = true → Completes (.hotswapTrip k) s fun t => t.hot.powered = false ∧ t.hot.lastTrip = some k ∧
      t.hot.trips = s.hot.trips + (if k = .current then 1 else 0) ∧ t.dev.quill = 0 ∧ t.insts = [] ∧ (s.lc.programming = none → t.fuse = s.fuse) ∧
      t.pending = s.pending) ∧
    (s.hot.powered = true → s.hot.recognised = false → s.dev.quill ≠ 3 → exec .ejectRecognised s = .next { hwSet 0x1200 1 s with hot := { s.hot with
      ejectReq := true, recognised := true, seen := true, tick := s.clk.tick, atPs := s.clk.nowPs } }) ∧
    (s.hot.recognised = true → s.hot.quiesced = false → Completes .quiesceStart s fun t => t.hot.quiesced = true ∧
      t.pair.actOut = false ∧ t.clk.nowPs = max s.clk.nowPs (s.hot.atPs + 4000000000)) ∧
    (pairActive s = false → s.hot.held = [] → exec .ejectEnd s = .next { s with hot := { s.hot with
      ejectReq := false, recognised := false, quiesced := false } }) ∧
    (∀ (n body : Nat) (field : Bytes), s.hot.held = [(n, body, field)] → (s.lane n).transmits = true →
      laneCarries n (.mapiyn n body field) s = true → Completes .ejectEnd s fun t => t.hot.quiesced = false ∧ t.hot.recognised = false ∧
        t.hot.ejectReq = false ∧ t.hot.held = [] ∧ Out.mapiyn n body field ∈ t.out)
end

