-- ==== Sys2Proof/Laws/State.lean ====
section
/-!
SUPPORT. What each update of a part of the state leaves: one lemma per field and update, and what the shared operations of Ops can do.
-/

namespace Sys2Proof.Machine

/-! ## Updates of one register group -/

@[simp] theorem State.setInst_pending (i : Nat) (v : Inst) (s : State) : (s.setInst i v).pending = s.pending := rfl
@[simp] theorem State.setInst_out (i : Nat) (v : Inst) (s : State) : (s.setInst i v).out = s.out := rfl
@[simp] theorem State.setInst_clk (i : Nat) (v : Inst) (s : State) : (s.setInst i v).clk = s.clk := rfl
@[simp] theorem State.setInst_dev (i : Nat) (v : Inst) (s : State) : (s.setInst i v).dev = s.dev := rfl
@[simp] theorem State.setInst_rings (i : Nat) (v : Inst) (s : State) : (s.setInst i v).rings = s.rings := rfl
@[simp] theorem State.setInst_cmd (i : Nat) (v : Inst) (s : State) : (s.setInst i v).cmd = s.cmd := rfl
@[simp] theorem State.setInst_spi (i : Nat) (v : Inst) (s : State) : (s.setInst i v).spi = s.spi := rfl
@[simp] theorem State.setInst_evt (i : Nat) (v : Inst) (s : State) : (s.setInst i v).evt = s.evt := rfl
@[simp] theorem State.setInst_fatal (i : Nat) (v : Inst) (s : State) : (s.setInst i v).fatal = s.fatal := rfl
@[simp] theorem State.setInst_cnt (i : Nat) (v : Inst) (s : State) : (s.setInst i v).cnt = s.cnt := rfl
@[simp] theorem State.setInst_allocs (i : Nat) (v : Inst) (s : State) : (s.setInst i v).allocs = s.allocs := rfl
@[simp] theorem State.setInst_lig (i : Nat) (v : Inst) (s : State) : (s.setInst i v).lig = s.lig := rfl
@[simp] theorem State.setInst_queues (i : Nat) (v : Inst) (s : State) : (s.setInst i v).queues = s.queues := rfl
@[simp] theorem State.setInst_tbl (i : Nat) (v : Inst) (s : State) : (s.setInst i v).tbl = s.tbl := rfl
@[simp] theorem State.setInst_cls (i : Nat) (v : Inst) (s : State) : (s.setInst i v).cls = s.cls := rfl
@[simp] theorem State.setInst_lanes (i : Nat) (v : Inst) (s : State) : (s.setInst i v).lanes = s.lanes := rfl
@[simp] theorem State.setInst_macs (i : Nat) (v : Inst) (s : State) : (s.setInst i v).macs = s.macs := rfl
@[simp] theorem State.setInst_role (i : Nat) (v : Inst) (s : State) : (s.setInst i v).role = s.role := rfl
@[simp] theorem State.setInst_cipher (i : Nat) (v : Inst) (s : State) : (s.setInst i v).cipher = s.cipher := rfl
@[simp] theorem State.setInst_mem (i : Nat) (v : Inst) (s : State) : (s.setInst i v).mem = s.mem := rfl
@[simp] theorem State.setInst_pair (i : Nat) (v : Inst) (s : State) : (s.setInst i v).pair = s.pair := rfl
@[simp] theorem State.setInst_pwr (i : Nat) (v : Inst) (s : State) : (s.setInst i v).pwr = s.pwr := rfl
@[simp] theorem State.setInst_fuse (i : Nat) (v : Inst) (s : State) : (s.setInst i v).fuse = s.fuse := rfl
@[simp] theorem State.setInst_lc (i : Nat) (v : Inst) (s : State) : (s.setInst i v).lc = s.lc := rfl
@[simp] theorem State.setInst_bist (i : Nat) (v : Inst) (s : State) : (s.setInst i v).bist = s.bist := rfl
@[simp] theorem State.setInst_boot (i : Nat) (v : Inst) (s : State) : (s.setInst i v).boot = s.boot := rfl
@[simp] theorem State.setInst_hot (i : Nat) (v : Inst) (s : State) : (s.setInst i v).hot = s.hot := rfl

@[simp] theorem State.modInst_pending (i : Nat) (f : Inst → Inst) (s : State) : (s.modInst i f).pending = s.pending := rfl
@[simp] theorem State.modInst_out (i : Nat) (f : Inst → Inst) (s : State) : (s.modInst i f).out = s.out := rfl
@[simp] theorem State.modInst_clk (i : Nat) (f : Inst → Inst) (s : State) : (s.modInst i f).clk = s.clk := rfl
@[simp] theorem State.modInst_dev (i : Nat) (f : Inst → Inst) (s : State) : (s.modInst i f).dev = s.dev := rfl
@[simp] theorem State.modInst_rings (i : Nat) (f : Inst → Inst) (s : State) : (s.modInst i f).rings = s.rings := rfl
@[simp] theorem State.modInst_cmd (i : Nat) (f : Inst → Inst) (s : State) : (s.modInst i f).cmd = s.cmd := rfl
@[simp] theorem State.modInst_spi (i : Nat) (f : Inst → Inst) (s : State) : (s.modInst i f).spi = s.spi := rfl
@[simp] theorem State.modInst_evt (i : Nat) (f : Inst → Inst) (s : State) : (s.modInst i f).evt = s.evt := rfl
@[simp] theorem State.modInst_fatal (i : Nat) (f : Inst → Inst) (s : State) : (s.modInst i f).fatal = s.fatal := rfl
@[simp] theorem State.modInst_cnt (i : Nat) (f : Inst → Inst) (s : State) : (s.modInst i f).cnt = s.cnt := rfl
@[simp] theorem State.modInst_allocs (i : Nat) (f : Inst → Inst) (s : State) : (s.modInst i f).allocs = s.allocs := rfl
@[simp] theorem State.modInst_lig (i : Nat) (f : Inst → Inst) (s : State) : (s.modInst i f).lig = s.lig := rfl
@[simp] theorem State.modInst_queues (i : Nat) (f : Inst → Inst) (s : State) : (s.modInst i f).queues = s.queues := rfl
@[simp] theorem State.modInst_tbl (i : Nat) (f : Inst → Inst) (s : State) : (s.modInst i f).tbl = s.tbl := rfl
@[simp] theorem State.modInst_cls (i : Nat) (f : Inst → Inst) (s : State) : (s.modInst i f).cls = s.cls := rfl
@[simp] theorem State.modInst_lanes (i : Nat) (f : Inst → Inst) (s : State) : (s.modInst i f).lanes = s.lanes := rfl
@[simp] theorem State.modInst_macs (i : Nat) (f : Inst → Inst) (s : State) : (s.modInst i f).macs = s.macs := rfl
@[simp] theorem State.modInst_role (i : Nat) (f : Inst → Inst) (s : State) : (s.modInst i f).role = s.role := rfl
@[simp] theorem State.modInst_cipher (i : Nat) (f : Inst → Inst) (s : State) : (s.modInst i f).cipher = s.cipher := rfl
@[simp] theorem State.modInst_mem (i : Nat) (f : Inst → Inst) (s : State) : (s.modInst i f).mem = s.mem := rfl
@[simp] theorem State.modInst_pair (i : Nat) (f : Inst → Inst) (s : State) : (s.modInst i f).pair = s.pair := rfl
@[simp] theorem State.modInst_pwr (i : Nat) (f : Inst → Inst) (s : State) : (s.modInst i f).pwr = s.pwr := rfl
@[simp] theorem State.modInst_fuse (i : Nat) (f : Inst → Inst) (s : State) : (s.modInst i f).fuse = s.fuse := rfl
@[simp] theorem State.modInst_lc (i : Nat) (f : Inst → Inst) (s : State) : (s.modInst i f).lc = s.lc := rfl
@[simp] theorem State.modInst_bist (i : Nat) (f : Inst → Inst) (s : State) : (s.modInst i f).bist = s.bist := rfl
@[simp] theorem State.modInst_boot (i : Nat) (f : Inst → Inst) (s : State) : (s.modInst i f).boot = s.boot := rfl
@[simp] theorem State.modInst_hot (i : Nat) (f : Inst → Inst) (s : State) : (s.modInst i f).hot = s.hot := rfl

@[simp] theorem State.setAlloc_pending (c : Nat) (v : AllocCtx) (s : State) : (s.setAlloc c v).pending = s.pending := rfl
@[simp] theorem State.setAlloc_out (c : Nat) (v : AllocCtx) (s : State) : (s.setAlloc c v).out = s.out := rfl
@[simp] theorem State.setAlloc_clk (c : Nat) (v : AllocCtx) (s : State) : (s.setAlloc c v).clk = s.clk := rfl
@[simp] theorem State.setAlloc_dev (c : Nat) (v : AllocCtx) (s : State) : (s.setAlloc c v).dev = s.dev := rfl
@[simp] theorem State.setAlloc_rings (c : Nat) (v : AllocCtx) (s : State) : (s.setAlloc c v).rings = s.rings := rfl
@[simp] theorem State.setAlloc_cmd (c : Nat) (v : AllocCtx) (s : State) : (s.setAlloc c v).cmd = s.cmd := rfl
@[simp] theorem State.setAlloc_spi (c : Nat) (v : AllocCtx) (s : State) : (s.setAlloc c v).spi = s.spi := rfl
@[simp] theorem State.setAlloc_evt (c : Nat) (v : AllocCtx) (s : State) : (s.setAlloc c v).evt = s.evt := rfl
@[simp] theorem State.setAlloc_fatal (c : Nat) (v : AllocCtx) (s : State) : (s.setAlloc c v).fatal = s.fatal := rfl
@[simp] theorem State.setAlloc_cnt (c : Nat) (v : AllocCtx) (s : State) : (s.setAlloc c v).cnt = s.cnt := rfl
@[simp] theorem State.setAlloc_insts (c : Nat) (v : AllocCtx) (s : State) : (s.setAlloc c v).insts = s.insts := rfl
@[simp] theorem State.setAlloc_lig (c : Nat) (v : AllocCtx) (s : State) : (s.setAlloc c v).lig = s.lig := rfl
@[simp] theorem State.setAlloc_queues (c : Nat) (v : AllocCtx) (s : State) : (s.setAlloc c v).queues = s.queues := rfl
@[simp] theorem State.setAlloc_tbl (c : Nat) (v : AllocCtx) (s : State) : (s.setAlloc c v).tbl = s.tbl := rfl
@[simp] theorem State.setAlloc_cls (c : Nat) (v : AllocCtx) (s : State) : (s.setAlloc c v).cls = s.cls := rfl
@[simp] theorem State.setAlloc_lanes (c : Nat) (v : AllocCtx) (s : State) : (s.setAlloc c v).lanes = s.lanes := rfl
@[simp] theorem State.setAlloc_macs (c : Nat) (v : AllocCtx) (s : State) : (s.setAlloc c v).macs = s.macs := rfl
@[simp] theorem State.setAlloc_role (c : Nat) (v : AllocCtx) (s : State) : (s.setAlloc c v).role = s.role := rfl
@[simp] theorem State.setAlloc_cipher (c : Nat) (v : AllocCtx) (s : State) : (s.setAlloc c v).cipher = s.cipher := rfl
@[simp] theorem State.setAlloc_mem (c : Nat) (v : AllocCtx) (s : State) : (s.setAlloc c v).mem = s.mem := rfl
@[simp] theorem State.setAlloc_pair (c : Nat) (v : AllocCtx) (s : State) : (s.setAlloc c v).pair = s.pair := rfl
@[simp] theorem State.setAlloc_pwr (c : Nat) (v : AllocCtx) (s : State) : (s.setAlloc c v).pwr = s.pwr := rfl
@[simp] theorem State.setAlloc_fuse (c : Nat) (v : AllocCtx) (s : State) : (s.setAlloc c v).fuse = s.fuse := rfl
@[simp] theorem State.setAlloc_lc (c : Nat) (v : AllocCtx) (s : State) : (s.setAlloc c v).lc = s.lc := rfl
@[simp] theorem State.setAlloc_bist (c : Nat) (v : AllocCtx) (s : State) : (s.setAlloc c v).bist = s.bist := rfl
@[simp] theorem State.setAlloc_boot (c : Nat) (v : AllocCtx) (s : State) : (s.setAlloc c v).boot = s.boot := rfl
@[simp] theorem State.setAlloc_hot (c : Nat) (v : AllocCtx) (s : State) : (s.setAlloc c v).hot = s.hot := rfl

@[simp] theorem State.setWorker_pending (w : Nat) (v : Worker) (s : State) : (s.setWorker w v).pending = s.pending := rfl
@[simp] theorem State.setWorker_out (w : Nat) (v : Worker) (s : State) : (s.setWorker w v).out = s.out := rfl
@[simp] theorem State.setWorker_clk (w : Nat) (v : Worker) (s : State) : (s.setWorker w v).clk = s.clk := rfl
@[simp] theorem State.setWorker_dev (w : Nat) (v : Worker) (s : State) : (s.setWorker w v).dev = s.dev := rfl
@[simp] theorem State.setWorker_rings (w : Nat) (v : Worker) (s : State) : (s.setWorker w v).rings = s.rings := rfl
@[simp] theorem State.setWorker_cmd (w : Nat) (v : Worker) (s : State) : (s.setWorker w v).cmd = s.cmd := rfl
@[simp] theorem State.setWorker_spi (w : Nat) (v : Worker) (s : State) : (s.setWorker w v).spi = s.spi := rfl
@[simp] theorem State.setWorker_evt (w : Nat) (v : Worker) (s : State) : (s.setWorker w v).evt = s.evt := rfl
@[simp] theorem State.setWorker_fatal (w : Nat) (v : Worker) (s : State) : (s.setWorker w v).fatal = s.fatal := rfl
@[simp] theorem State.setWorker_cnt (w : Nat) (v : Worker) (s : State) : (s.setWorker w v).cnt = s.cnt := rfl
@[simp] theorem State.setWorker_insts (w : Nat) (v : Worker) (s : State) : (s.setWorker w v).insts = s.insts := rfl
@[simp] theorem State.setWorker_allocs (w : Nat) (v : Worker) (s : State) : (s.setWorker w v).allocs = s.allocs := rfl
@[simp] theorem State.setWorker_lig (w : Nat) (v : Worker) (s : State) : (s.setWorker w v).lig = s.lig := rfl
@[simp] theorem State.setWorker_queues (w : Nat) (v : Worker) (s : State) : (s.setWorker w v).queues = s.queues := rfl
@[simp] theorem State.setWorker_tbl (w : Nat) (v : Worker) (s : State) : (s.setWorker w v).tbl = s.tbl := rfl
@[simp] theorem State.setWorker_cls (w : Nat) (v : Worker) (s : State) : (s.setWorker w v).cls = s.cls := rfl
@[simp] theorem State.setWorker_lanes (w : Nat) (v : Worker) (s : State) : (s.setWorker w v).lanes = s.lanes := rfl
@[simp] theorem State.setWorker_macs (w : Nat) (v : Worker) (s : State) : (s.setWorker w v).macs = s.macs := rfl
@[simp] theorem State.setWorker_role (w : Nat) (v : Worker) (s : State) : (s.setWorker w v).role = s.role := rfl
@[simp] theorem State.setWorker_cipher (w : Nat) (v : Worker) (s : State) : (s.setWorker w v).cipher = s.cipher := rfl
@[simp] theorem State.setWorker_mem (w : Nat) (v : Worker) (s : State) : (s.setWorker w v).mem = s.mem := rfl
@[simp] theorem State.setWorker_pair (w : Nat) (v : Worker) (s : State) : (s.setWorker w v).pair = s.pair := rfl
@[simp] theorem State.setWorker_pwr (w : Nat) (v : Worker) (s : State) : (s.setWorker w v).pwr = s.pwr := rfl
@[simp] theorem State.setWorker_fuse (w : Nat) (v : Worker) (s : State) : (s.setWorker w v).fuse = s.fuse := rfl
@[simp] theorem State.setWorker_lc (w : Nat) (v : Worker) (s : State) : (s.setWorker w v).lc = s.lc := rfl
@[simp] theorem State.setWorker_bist (w : Nat) (v : Worker) (s : State) : (s.setWorker w v).bist = s.bist := rfl
@[simp] theorem State.setWorker_boot (w : Nat) (v : Worker) (s : State) : (s.setWorker w v).boot = s.boot := rfl
@[simp] theorem State.setWorker_hot (w : Nat) (v : Worker) (s : State) : (s.setWorker w v).hot = s.hot := rfl

@[simp] theorem State.modWorker_pending (w : Nat) (f : Worker → Worker) (s : State) : (s.modWorker w f).pending = s.pending := rfl
@[simp] theorem State.modWorker_out (w : Nat) (f : Worker → Worker) (s : State) : (s.modWorker w f).out = s.out := rfl
@[simp] theorem State.modWorker_clk (w : Nat) (f : Worker → Worker) (s : State) : (s.modWorker w f).clk = s.clk := rfl
@[simp] theorem State.modWorker_dev (w : Nat) (f : Worker → Worker) (s : State) : (s.modWorker w f).dev = s.dev := rfl
@[simp] theorem State.modWorker_rings (w : Nat) (f : Worker → Worker) (s : State) : (s.modWorker w f).rings = s.rings := rfl
@[simp] theorem State.modWorker_cmd (w : Nat) (f : Worker → Worker) (s : State) : (s.modWorker w f).cmd = s.cmd := rfl
@[simp] theorem State.modWorker_spi (w : Nat) (f : Worker → Worker) (s : State) : (s.modWorker w f).spi = s.spi := rfl
@[simp] theorem State.modWorker_evt (w : Nat) (f : Worker → Worker) (s : State) : (s.modWorker w f).evt = s.evt := rfl
@[simp] theorem State.modWorker_fatal (w : Nat) (f : Worker → Worker) (s : State) : (s.modWorker w f).fatal = s.fatal := rfl
@[simp] theorem State.modWorker_cnt (w : Nat) (f : Worker → Worker) (s : State) : (s.modWorker w f).cnt = s.cnt := rfl
@[simp] theorem State.modWorker_insts (w : Nat) (f : Worker → Worker) (s : State) : (s.modWorker w f).insts = s.insts := rfl
@[simp] theorem State.modWorker_allocs (w : Nat) (f : Worker → Worker) (s : State) : (s.modWorker w f).allocs = s.allocs := rfl
@[simp] theorem State.modWorker_lig (w : Nat) (f : Worker → Worker) (s : State) : (s.modWorker w f).lig = s.lig := rfl
@[simp] theorem State.modWorker_queues (w : Nat) (f : Worker → Worker) (s : State) : (s.modWorker w f).queues = s.queues := rfl
@[simp] theorem State.modWorker_tbl (w : Nat) (f : Worker → Worker) (s : State) : (s.modWorker w f).tbl = s.tbl := rfl
@[simp] theorem State.modWorker_cls (w : Nat) (f : Worker → Worker) (s : State) : (s.modWorker w f).cls = s.cls := rfl
@[simp] theorem State.modWorker_lanes (w : Nat) (f : Worker → Worker) (s : State) : (s.modWorker w f).lanes = s.lanes := rfl
@[simp] theorem State.modWorker_macs (w : Nat) (f : Worker → Worker) (s : State) : (s.modWorker w f).macs = s.macs := rfl
@[simp] theorem State.modWorker_role (w : Nat) (f : Worker → Worker) (s : State) : (s.modWorker w f).role = s.role := rfl
@[simp] theorem State.modWorker_cipher (w : Nat) (f : Worker → Worker) (s : State) : (s.modWorker w f).cipher = s.cipher := rfl
@[simp] theorem State.modWorker_mem (w : Nat) (f : Worker → Worker) (s : State) : (s.modWorker w f).mem = s.mem := rfl
@[simp] theorem State.modWorker_pair (w : Nat) (f : Worker → Worker) (s : State) : (s.modWorker w f).pair = s.pair := rfl
@[simp] theorem State.modWorker_pwr (w : Nat) (f : Worker → Worker) (s : State) : (s.modWorker w f).pwr = s.pwr := rfl
@[simp] theorem State.modWorker_fuse (w : Nat) (f : Worker → Worker) (s : State) : (s.modWorker w f).fuse = s.fuse := rfl
@[simp] theorem State.modWorker_lc (w : Nat) (f : Worker → Worker) (s : State) : (s.modWorker w f).lc = s.lc := rfl
@[simp] theorem State.modWorker_bist (w : Nat) (f : Worker → Worker) (s : State) : (s.modWorker w f).bist = s.bist := rfl
@[simp] theorem State.modWorker_boot (w : Nat) (f : Worker → Worker) (s : State) : (s.modWorker w f).boot = s.boot := rfl
@[simp] theorem State.modWorker_hot (w : Nat) (f : Worker → Worker) (s : State) : (s.modWorker w f).hot = s.hot := rfl

@[simp] theorem State.setLane_pending (n : Nat) (v : Lane) (s : State) : (s.setLane n v).pending = s.pending := rfl
@[simp] theorem State.setLane_out (n : Nat) (v : Lane) (s : State) : (s.setLane n v).out = s.out := rfl
@[simp] theorem State.setLane_clk (n : Nat) (v : Lane) (s : State) : (s.setLane n v).clk = s.clk := rfl
@[simp] theorem State.setLane_dev (n : Nat) (v : Lane) (s : State) : (s.setLane n v).dev = s.dev := rfl
@[simp] theorem State.setLane_rings (n : Nat) (v : Lane) (s : State) : (s.setLane n v).rings = s.rings := rfl
@[simp] theorem State.setLane_cmd (n : Nat) (v : Lane) (s : State) : (s.setLane n v).cmd = s.cmd := rfl
@[simp] theorem State.setLane_spi (n : Nat) (v : Lane) (s : State) : (s.setLane n v).spi = s.spi := rfl
@[simp] theorem State.setLane_evt (n : Nat) (v : Lane) (s : State) : (s.setLane n v).evt = s.evt := rfl
@[simp] theorem State.setLane_fatal (n : Nat) (v : Lane) (s : State) : (s.setLane n v).fatal = s.fatal := rfl
@[simp] theorem State.setLane_cnt (n : Nat) (v : Lane) (s : State) : (s.setLane n v).cnt = s.cnt := rfl
@[simp] theorem State.setLane_insts (n : Nat) (v : Lane) (s : State) : (s.setLane n v).insts = s.insts := rfl
@[simp] theorem State.setLane_allocs (n : Nat) (v : Lane) (s : State) : (s.setLane n v).allocs = s.allocs := rfl
@[simp] theorem State.setLane_lig (n : Nat) (v : Lane) (s : State) : (s.setLane n v).lig = s.lig := rfl
@[simp] theorem State.setLane_queues (n : Nat) (v : Lane) (s : State) : (s.setLane n v).queues = s.queues := rfl
@[simp] theorem State.setLane_tbl (n : Nat) (v : Lane) (s : State) : (s.setLane n v).tbl = s.tbl := rfl
@[simp] theorem State.setLane_cls (n : Nat) (v : Lane) (s : State) : (s.setLane n v).cls = s.cls := rfl
@[simp] theorem State.setLane_macs (n : Nat) (v : Lane) (s : State) : (s.setLane n v).macs = s.macs := rfl
@[simp] theorem State.setLane_role (n : Nat) (v : Lane) (s : State) : (s.setLane n v).role = s.role := rfl
@[simp] theorem State.setLane_cipher (n : Nat) (v : Lane) (s : State) : (s.setLane n v).cipher = s.cipher := rfl
@[simp] theorem State.setLane_mem (n : Nat) (v : Lane) (s : State) : (s.setLane n v).mem = s.mem := rfl
@[simp] theorem State.setLane_pair (n : Nat) (v : Lane) (s : State) : (s.setLane n v).pair = s.pair := rfl
@[simp] theorem State.setLane_pwr (n : Nat) (v : Lane) (s : State) : (s.setLane n v).pwr = s.pwr := rfl
@[simp] theorem State.setLane_fuse (n : Nat) (v : Lane) (s : State) : (s.setLane n v).fuse = s.fuse := rfl
@[simp] theorem State.setLane_lc (n : Nat) (v : Lane) (s : State) : (s.setLane n v).lc = s.lc := rfl
@[simp] theorem State.setLane_bist (n : Nat) (v : Lane) (s : State) : (s.setLane n v).bist = s.bist := rfl
@[simp] theorem State.setLane_boot (n : Nat) (v : Lane) (s : State) : (s.setLane n v).boot = s.boot := rfl
@[simp] theorem State.setLane_hot (n : Nat) (v : Lane) (s : State) : (s.setLane n v).hot = s.hot := rfl

@[simp] theorem State.modLane_pending (n : Nat) (f : Lane → Lane) (s : State) : (s.modLane n f).pending = s.pending := rfl
@[simp] theorem State.modLane_out (n : Nat) (f : Lane → Lane) (s : State) : (s.modLane n f).out = s.out := rfl
@[simp] theorem State.modLane_clk (n : Nat) (f : Lane → Lane) (s : State) : (s.modLane n f).clk = s.clk := rfl
@[simp] theorem State.modLane_dev (n : Nat) (f : Lane → Lane) (s : State) : (s.modLane n f).dev = s.dev := rfl
@[simp] theorem State.modLane_rings (n : Nat) (f : Lane → Lane) (s : State) : (s.modLane n f).rings = s.rings := rfl
@[simp] theorem State.modLane_cmd (n : Nat) (f : Lane → Lane) (s : State) : (s.modLane n f).cmd = s.cmd := rfl
@[simp] theorem State.modLane_spi (n : Nat) (f : Lane → Lane) (s : State) : (s.modLane n f).spi = s.spi := rfl
@[simp] theorem State.modLane_evt (n : Nat) (f : Lane → Lane) (s : State) : (s.modLane n f).evt = s.evt := rfl
@[simp] theorem State.modLane_fatal (n : Nat) (f : Lane → Lane) (s : State) : (s.modLane n f).fatal = s.fatal := rfl
@[simp] theorem State.modLane_cnt (n : Nat) (f : Lane → Lane) (s : State) : (s.modLane n f).cnt = s.cnt := rfl
@[simp] theorem State.modLane_insts (n : Nat) (f : Lane → Lane) (s : State) : (s.modLane n f).insts = s.insts := rfl
@[simp] theorem State.modLane_allocs (n : Nat) (f : Lane → Lane) (s : State) : (s.modLane n f).allocs = s.allocs := rfl
@[simp] theorem State.modLane_lig (n : Nat) (f : Lane → Lane) (s : State) : (s.modLane n f).lig = s.lig := rfl
@[simp] theorem State.modLane_queues (n : Nat) (f : Lane → Lane) (s : State) : (s.modLane n f).queues = s.queues := rfl
@[simp] theorem State.modLane_tbl (n : Nat) (f : Lane → Lane) (s : State) : (s.modLane n f).tbl = s.tbl := rfl
@[simp] theorem State.modLane_cls (n : Nat) (f : Lane → Lane) (s : State) : (s.modLane n f).cls = s.cls := rfl
@[simp] theorem State.modLane_macs (n : Nat) (f : Lane → Lane) (s : State) : (s.modLane n f).macs = s.macs := rfl
@[simp] theorem State.modLane_role (n : Nat) (f : Lane → Lane) (s : State) : (s.modLane n f).role = s.role := rfl
@[simp] theorem State.modLane_cipher (n : Nat) (f : Lane → Lane) (s : State) : (s.modLane n f).cipher = s.cipher := rfl
@[simp] theorem State.modLane_mem (n : Nat) (f : Lane → Lane) (s : State) : (s.modLane n f).mem = s.mem := rfl
@[simp] theorem State.modLane_pair (n : Nat) (f : Lane → Lane) (s : State) : (s.modLane n f).pair = s.pair := rfl
@[simp] theorem State.modLane_pwr (n : Nat) (f : Lane → Lane) (s : State) : (s.modLane n f).pwr = s.pwr := rfl
@[simp] theorem State.modLane_fuse (n : Nat) (f : Lane → Lane) (s : State) : (s.modLane n f).fuse = s.fuse := rfl
@[simp] theorem State.modLane_lc (n : Nat) (f : Lane → Lane) (s : State) : (s.modLane n f).lc = s.lc := rfl
@[simp] theorem State.modLane_bist (n : Nat) (f : Lane → Lane) (s : State) : (s.modLane n f).bist = s.bist := rfl
@[simp] theorem State.modLane_boot (n : Nat) (f : Lane → Lane) (s : State) : (s.modLane n f).boot = s.boot := rfl
@[simp] theorem State.modLane_hot (n : Nat) (f : Lane → Lane) (s : State) : (s.modLane n f).hot = s.hot := rfl

@[simp] theorem State.setBlot_pending (g : Nat) (v : BlotGroup) (s : State) : (s.setBlot g v).pending = s.pending := rfl
@[simp] theorem State.setBlot_out (g : Nat) (v : BlotGroup) (s : State) : (s.setBlot g v).out = s.out := rfl
@[simp] theorem State.setBlot_clk (g : Nat) (v : BlotGroup) (s : State) : (s.setBlot g v).clk = s.clk := rfl
@[simp] theorem State.setBlot_dev (g : Nat) (v : BlotGroup) (s : State) : (s.setBlot g v).dev = s.dev := rfl
@[simp] theorem State.setBlot_rings (g : Nat) (v : BlotGroup) (s : State) : (s.setBlot g v).rings = s.rings := rfl
@[simp] theorem State.setBlot_cmd (g : Nat) (v : BlotGroup) (s : State) : (s.setBlot g v).cmd = s.cmd := rfl
@[simp] theorem State.setBlot_spi (g : Nat) (v : BlotGroup) (s : State) : (s.setBlot g v).spi = s.spi := rfl
@[simp] theorem State.setBlot_evt (g : Nat) (v : BlotGroup) (s : State) : (s.setBlot g v).evt = s.evt := rfl
@[simp] theorem State.setBlot_fatal (g : Nat) (v : BlotGroup) (s : State) : (s.setBlot g v).fatal = s.fatal := rfl
@[simp] theorem State.setBlot_cnt (g : Nat) (v : BlotGroup) (s : State) : (s.setBlot g v).cnt = s.cnt := rfl
@[simp] theorem State.setBlot_insts (g : Nat) (v : BlotGroup) (s : State) : (s.setBlot g v).insts = s.insts := rfl
@[simp] theorem State.setBlot_allocs (g : Nat) (v : BlotGroup) (s : State) : (s.setBlot g v).allocs = s.allocs := rfl
@[simp] theorem State.setBlot_lig (g : Nat) (v : BlotGroup) (s : State) : (s.setBlot g v).lig = s.lig := rfl
@[simp] theorem State.setBlot_queues (g : Nat) (v : BlotGroup) (s : State) : (s.setBlot g v).queues = s.queues := rfl
@[simp] theorem State.setBlot_tbl (g : Nat) (v : BlotGroup) (s : State) : (s.setBlot g v).tbl = s.tbl := rfl
@[simp] theorem State.setBlot_cls (g : Nat) (v : BlotGroup) (s : State) : (s.setBlot g v).cls = s.cls := rfl
@[simp] theorem State.setBlot_lanes (g : Nat) (v : BlotGroup) (s : State) : (s.setBlot g v).lanes = s.lanes := rfl
@[simp] theorem State.setBlot_macs (g : Nat) (v : BlotGroup) (s : State) : (s.setBlot g v).macs = s.macs := rfl
@[simp] theorem State.setBlot_role (g : Nat) (v : BlotGroup) (s : State) : (s.setBlot g v).role = s.role := rfl
@[simp] theorem State.setBlot_cipher (g : Nat) (v : BlotGroup) (s : State) : (s.setBlot g v).cipher = s.cipher := rfl
@[simp] theorem State.setBlot_pair (g : Nat) (v : BlotGroup) (s : State) : (s.setBlot g v).pair = s.pair := rfl
@[simp] theorem State.setBlot_pwr (g : Nat) (v : BlotGroup) (s : State) : (s.setBlot g v).pwr = s.pwr := rfl
@[simp] theorem State.setBlot_fuse (g : Nat) (v : BlotGroup) (s : State) : (s.setBlot g v).fuse = s.fuse := rfl
@[simp] theorem State.setBlot_lc (g : Nat) (v : BlotGroup) (s : State) : (s.setBlot g v).lc = s.lc := rfl
@[simp] theorem State.setBlot_bist (g : Nat) (v : BlotGroup) (s : State) : (s.setBlot g v).bist = s.bist := rfl
@[simp] theorem State.setBlot_boot (g : Nat) (v : BlotGroup) (s : State) : (s.setBlot g v).boot = s.boot := rfl
@[simp] theorem State.setBlot_hot (g : Nat) (v : BlotGroup) (s : State) : (s.setBlot g v).hot = s.hot := rfl

@[simp] theorem State.setRing_pending (n : Nat) (r : Ring) (s : State) : (s.setRing n r).pending = s.pending := rfl
@[simp] theorem State.setRing_out (n : Nat) (r : Ring) (s : State) : (s.setRing n r).out = s.out := rfl
@[simp] theorem State.setRing_clk (n : Nat) (r : Ring) (s : State) : (s.setRing n r).clk = s.clk := rfl
@[simp] theorem State.setRing_dev (n : Nat) (r : Ring) (s : State) : (s.setRing n r).dev = s.dev := rfl
@[simp] theorem State.setRing_cmd (n : Nat) (r : Ring) (s : State) : (s.setRing n r).cmd = s.cmd := rfl
@[simp] theorem State.setRing_spi (n : Nat) (r : Ring) (s : State) : (s.setRing n r).spi = s.spi := rfl
@[simp] theorem State.setRing_evt (n : Nat) (r : Ring) (s : State) : (s.setRing n r).evt = s.evt := rfl
@[simp] theorem State.setRing_fatal (n : Nat) (r : Ring) (s : State) : (s.setRing n r).fatal = s.fatal := rfl
@[simp] theorem State.setRing_cnt (n : Nat) (r : Ring) (s : State) : (s.setRing n r).cnt = s.cnt := rfl
@[simp] theorem State.setRing_insts (n : Nat) (r : Ring) (s : State) : (s.setRing n r).insts = s.insts := rfl
@[simp] theorem State.setRing_allocs (n : Nat) (r : Ring) (s : State) : (s.setRing n r).allocs = s.allocs := rfl
@[simp] theorem State.setRing_lig (n : Nat) (r : Ring) (s : State) : (s.setRing n r).lig = s.lig := rfl
@[simp] theorem State.setRing_queues (n : Nat) (r : Ring) (s : State) : (s.setRing n r).queues = s.queues := rfl
@[simp] theorem State.setRing_tbl (n : Nat) (r : Ring) (s : State) : (s.setRing n r).tbl = s.tbl := rfl
@[simp] theorem State.setRing_cls (n : Nat) (r : Ring) (s : State) : (s.setRing n r).cls = s.cls := rfl
@[simp] theorem State.setRing_lanes (n : Nat) (r : Ring) (s : State) : (s.setRing n r).lanes = s.lanes := rfl
@[simp] theorem State.setRing_macs (n : Nat) (r : Ring) (s : State) : (s.setRing n r).macs = s.macs := rfl
@[simp] theorem State.setRing_role (n : Nat) (r : Ring) (s : State) : (s.setRing n r).role = s.role := rfl
@[simp] theorem State.setRing_cipher (n : Nat) (r : Ring) (s : State) : (s.setRing n r).cipher = s.cipher := rfl
@[simp] theorem State.setRing_mem (n : Nat) (r : Ring) (s : State) : (s.setRing n r).mem = s.mem := rfl
@[simp] theorem State.setRing_pair (n : Nat) (r : Ring) (s : State) : (s.setRing n r).pair = s.pair := rfl
@[simp] theorem State.setRing_pwr (n : Nat) (r : Ring) (s : State) : (s.setRing n r).pwr = s.pwr := rfl
@[simp] theorem State.setRing_fuse (n : Nat) (r : Ring) (s : State) : (s.setRing n r).fuse = s.fuse := rfl
@[simp] theorem State.setRing_lc (n : Nat) (r : Ring) (s : State) : (s.setRing n r).lc = s.lc := rfl
@[simp] theorem State.setRing_bist (n : Nat) (r : Ring) (s : State) : (s.setRing n r).bist = s.bist := rfl
@[simp] theorem State.setRing_boot (n : Nat) (r : Ring) (s : State) : (s.setRing n r).boot = s.boot := rfl
@[simp] theorem State.setRing_hot (n : Nat) (r : Ring) (s : State) : (s.setRing n r).hot = s.hot := rfl

@[simp] theorem State.setDomain_pending (d : Nat) (v : Domain) (s : State) : (s.setDomain d v).pending = s.pending := rfl
@[simp] theorem State.setDomain_out (d : Nat) (v : Domain) (s : State) : (s.setDomain d v).out = s.out := rfl
@[simp] theorem State.setDomain_clk (d : Nat) (v : Domain) (s : State) : (s.setDomain d v).clk = s.clk := rfl
@[simp] theorem State.setDomain_dev (d : Nat) (v : Domain) (s : State) : (s.setDomain d v).dev = s.dev := rfl
@[simp] theorem State.setDomain_rings (d : Nat) (v : Domain) (s : State) : (s.setDomain d v).rings = s.rings := rfl
@[simp] theorem State.setDomain_cmd (d : Nat) (v : Domain) (s : State) : (s.setDomain d v).cmd = s.cmd := rfl
@[simp] theorem State.setDomain_spi (d : Nat) (v : Domain) (s : State) : (s.setDomain d v).spi = s.spi := rfl
@[simp] theorem State.setDomain_evt (d : Nat) (v : Domain) (s : State) : (s.setDomain d v).evt = s.evt := rfl
@[simp] theorem State.setDomain_fatal (d : Nat) (v : Domain) (s : State) : (s.setDomain d v).fatal = s.fatal := rfl
@[simp] theorem State.setDomain_cnt (d : Nat) (v : Domain) (s : State) : (s.setDomain d v).cnt = s.cnt := rfl
@[simp] theorem State.setDomain_insts (d : Nat) (v : Domain) (s : State) : (s.setDomain d v).insts = s.insts := rfl
@[simp] theorem State.setDomain_allocs (d : Nat) (v : Domain) (s : State) : (s.setDomain d v).allocs = s.allocs := rfl
@[simp] theorem State.setDomain_lig (d : Nat) (v : Domain) (s : State) : (s.setDomain d v).lig = s.lig := rfl
@[simp] theorem State.setDomain_queues (d : Nat) (v : Domain) (s : State) : (s.setDomain d v).queues = s.queues := rfl
@[simp] theorem State.setDomain_tbl (d : Nat) (v : Domain) (s : State) : (s.setDomain d v).tbl = s.tbl := rfl
@[simp] theorem State.setDomain_cls (d : Nat) (v : Domain) (s : State) : (s.setDomain d v).cls = s.cls := rfl
@[simp] theorem State.setDomain_lanes (d : Nat) (v : Domain) (s : State) : (s.setDomain d v).lanes = s.lanes := rfl
@[simp] theorem State.setDomain_macs (d : Nat) (v : Domain) (s : State) : (s.setDomain d v).macs = s.macs := rfl
@[simp] theorem State.setDomain_role (d : Nat) (v : Domain) (s : State) : (s.setDomain d v).role = s.role := rfl
@[simp] theorem State.setDomain_cipher (d : Nat) (v : Domain) (s : State) : (s.setDomain d v).cipher = s.cipher := rfl
@[simp] theorem State.setDomain_mem (d : Nat) (v : Domain) (s : State) : (s.setDomain d v).mem = s.mem := rfl
@[simp] theorem State.setDomain_pair (d : Nat) (v : Domain) (s : State) : (s.setDomain d v).pair = s.pair := rfl
@[simp] theorem State.setDomain_fuse (d : Nat) (v : Domain) (s : State) : (s.setDomain d v).fuse = s.fuse := rfl
@[simp] theorem State.setDomain_lc (d : Nat) (v : Domain) (s : State) : (s.setDomain d v).lc = s.lc := rfl
@[simp] theorem State.setDomain_bist (d : Nat) (v : Domain) (s : State) : (s.setDomain d v).bist = s.bist := rfl
@[simp] theorem State.setDomain_boot (d : Nat) (v : Domain) (s : State) : (s.setDomain d v).boot = s.boot := rfl
@[simp] theorem State.setDomain_hot (d : Nat) (v : Domain) (s : State) : (s.setDomain d v).hot = s.hot := rfl

@[simp] theorem State.setQueue_pending (q : Nat) (v : Queue) (s : State) : (s.setQueue q v).pending = s.pending := rfl
@[simp] theorem State.setQueue_out (q : Nat) (v : Queue) (s : State) : (s.setQueue q v).out = s.out := rfl
@[simp] theorem State.setQueue_clk (q : Nat) (v : Queue) (s : State) : (s.setQueue q v).clk = s.clk := rfl
@[simp] theorem State.setQueue_dev (q : Nat) (v : Queue) (s : State) : (s.setQueue q v).dev = s.dev := rfl
@[simp] theorem State.setQueue_rings (q : Nat) (v : Queue) (s : State) : (s.setQueue q v).rings = s.rings := rfl
@[simp] theorem State.setQueue_cmd (q : Nat) (v : Queue) (s : State) : (s.setQueue q v).cmd = s.cmd := rfl
@[simp] theorem State.setQueue_spi (q : Nat) (v : Queue) (s : State) : (s.setQueue q v).spi = s.spi := rfl
@[simp] theorem State.setQueue_evt (q : Nat) (v : Queue) (s : State) : (s.setQueue q v).evt = s.evt := rfl
@[simp] theorem State.setQueue_fatal (q : Nat) (v : Queue) (s : State) : (s.setQueue q v).fatal = s.fatal := rfl
@[simp] theorem State.setQueue_cnt (q : Nat) (v : Queue) (s : State) : (s.setQueue q v).cnt = s.cnt := rfl
@[simp] theorem State.setQueue_insts (q : Nat) (v : Queue) (s : State) : (s.setQueue q v).insts = s.insts := rfl
@[simp] theorem State.setQueue_allocs (q : Nat) (v : Queue) (s : State) : (s.setQueue q v).allocs = s.allocs := rfl
@[simp] theorem State.setQueue_lig (q : Nat) (v : Queue) (s : State) : (s.setQueue q v).lig = s.lig := rfl
@[simp] theorem State.setQueue_tbl (q : Nat) (v : Queue) (s : State) : (s.setQueue q v).tbl = s.tbl := rfl
@[simp] theorem State.setQueue_cls (q : Nat) (v : Queue) (s : State) : (s.setQueue q v).cls = s.cls := rfl
@[simp] theorem State.setQueue_lanes (q : Nat) (v : Queue) (s : State) : (s.setQueue q v).lanes = s.lanes := rfl
@[simp] theorem State.setQueue_macs (q : Nat) (v : Queue) (s : State) : (s.setQueue q v).macs = s.macs := rfl
@[simp] theorem State.setQueue_role (q : Nat) (v : Queue) (s : State) : (s.setQueue q v).role = s.role := rfl
@[simp] theorem State.setQueue_cipher (q : Nat) (v : Queue) (s : State) : (s.setQueue q v).cipher = s.cipher := rfl
@[simp] theorem State.setQueue_mem (q : Nat) (v : Queue) (s : State) : (s.setQueue q v).mem = s.mem := rfl
@[simp] theorem State.setQueue_pair (q : Nat) (v : Queue) (s : State) : (s.setQueue q v).pair = s.pair := rfl
@[simp] theorem State.setQueue_pwr (q : Nat) (v : Queue) (s : State) : (s.setQueue q v).pwr = s.pwr := rfl
@[simp] theorem State.setQueue_fuse (q : Nat) (v : Queue) (s : State) : (s.setQueue q v).fuse = s.fuse := rfl
@[simp] theorem State.setQueue_lc (q : Nat) (v : Queue) (s : State) : (s.setQueue q v).lc = s.lc := rfl
@[simp] theorem State.setQueue_bist (q : Nat) (v : Queue) (s : State) : (s.setQueue q v).bist = s.bist := rfl
@[simp] theorem State.setQueue_boot (q : Nat) (v : Queue) (s : State) : (s.setQueue q v).boot = s.boot := rfl
@[simp] theorem State.setQueue_hot (q : Nat) (v : Queue) (s : State) : (s.setQueue q v).hot = s.hot := rfl

@[simp] theorem State.setShaper_pending (n : Nat) (v : Shaper) (s : State) : (s.setShaper n v).pending = s.pending := rfl
@[simp] theorem State.setShaper_out (n : Nat) (v : Shaper) (s : State) : (s.setShaper n v).out = s.out := rfl
@[simp] theorem State.setShaper_clk (n : Nat) (v : Shaper) (s : State) : (s.setShaper n v).clk = s.clk := rfl
@[simp] theorem State.setShaper_dev (n : Nat) (v : Shaper) (s : State) : (s.setShaper n v).dev = s.dev := rfl
@[simp] theorem State.setShaper_rings (n : Nat) (v : Shaper) (s : State) : (s.setShaper n v).rings = s.rings := rfl
@[simp] theorem State.setShaper_cmd (n : Nat) (v : Shaper) (s : State) : (s.setShaper n v).cmd = s.cmd := rfl
@[simp] theorem State.setShaper_spi (n : Nat) (v : Shaper) (s : State) : (s.setShaper n v).spi = s.spi := rfl
@[simp] theorem State.setShaper_evt (n : Nat) (v : Shaper) (s : State) : (s.setShaper n v).evt = s.evt := rfl
@[simp] theorem State.setShaper_fatal (n : Nat) (v : Shaper) (s : State) : (s.setShaper n v).fatal = s.fatal := rfl
@[simp] theorem State.setShaper_cnt (n : Nat) (v : Shaper) (s : State) : (s.setShaper n v).cnt = s.cnt := rfl
@[simp] theorem State.setShaper_insts (n : Nat) (v : Shaper) (s : State) : (s.setShaper n v).insts = s.insts := rfl
@[simp] theorem State.setShaper_allocs (n : Nat) (v : Shaper) (s : State) : (s.setShaper n v).allocs = s.allocs := rfl
@[simp] theorem State.setShaper_lig (n : Nat) (v : Shaper) (s : State) : (s.setShaper n v).lig = s.lig := rfl
@[simp] theorem State.setShaper_queues (n : Nat) (v : Shaper) (s : State) : (s.setShaper n v).queues = s.queues := rfl
@[simp] theorem State.setShaper_tbl (n : Nat) (v : Shaper) (s : State) : (s.setShaper n v).tbl = s.tbl := rfl
@[simp] theorem State.setShaper_cls (n : Nat) (v : Shaper) (s : State) : (s.setShaper n v).cls = s.cls := rfl
@[simp] theorem State.setShaper_lanes (n : Nat) (v : Shaper) (s : State) : (s.setShaper n v).lanes = s.lanes := rfl
@[simp] theorem State.setShaper_macs (n : Nat) (v : Shaper) (s : State) : (s.setShaper n v).macs = s.macs := rfl
@[simp] theorem State.setShaper_role (n : Nat) (v : Shaper) (s : State) : (s.setShaper n v).role = s.role := rfl
@[simp] theorem State.setShaper_cipher (n : Nat) (v : Shaper) (s : State) : (s.setShaper n v).cipher = s.cipher := rfl
@[simp] theorem State.setShaper_mem (n : Nat) (v : Shaper) (s : State) : (s.setShaper n v).mem = s.mem := rfl
@[simp] theorem State.setShaper_pair (n : Nat) (v : Shaper) (s : State) : (s.setShaper n v).pair = s.pair := rfl
@[simp] theorem State.setShaper_pwr (n : Nat) (v : Shaper) (s : State) : (s.setShaper n v).pwr = s.pwr := rfl
@[simp] theorem State.setShaper_fuse (n : Nat) (v : Shaper) (s : State) : (s.setShaper n v).fuse = s.fuse := rfl
@[simp] theorem State.setShaper_lc (n : Nat) (v : Shaper) (s : State) : (s.setShaper n v).lc = s.lc := rfl
@[simp] theorem State.setShaper_bist (n : Nat) (v : Shaper) (s : State) : (s.setShaper n v).bist = s.bist := rfl
@[simp] theorem State.setShaper_boot (n : Nat) (v : Shaper) (s : State) : (s.setShaper n v).boot = s.boot := rfl
@[simp] theorem State.setShaper_hot (n : Nat) (v : Shaper) (s : State) : (s.setShaper n v).hot = s.hot := rfl

@[simp] theorem State.setGate_pending (p : Nat) (v : Gate) (s : State) : (s.setGate p v).pending = s.pending := rfl
@[simp] theorem State.setGate_out (p : Nat) (v : Gate) (s : State) : (s.setGate p v).out = s.out := rfl
@[simp] theorem State.setGate_clk (p : Nat) (v : Gate) (s : State) : (s.setGate p v).clk = s.clk := rfl
@[simp] theorem State.setGate_dev (p : Nat) (v : Gate) (s : State) : (s.setGate p v).dev = s.dev := rfl
@[simp] theorem State.setGate_rings (p : Nat) (v : Gate) (s : State) : (s.setGate p v).rings = s.rings := rfl
@[simp] theorem State.setGate_cmd (p : Nat) (v : Gate) (s : State) : (s.setGate p v).cmd = s.cmd := rfl
@[simp] theorem State.setGate_spi (p : Nat) (v : Gate) (s : State) : (s.setGate p v).spi = s.spi := rfl
@[simp] theorem State.setGate_evt (p : Nat) (v : Gate) (s : State) : (s.setGate p v).evt = s.evt := rfl
@[simp] theorem State.setGate_fatal (p : Nat) (v : Gate) (s : State) : (s.setGate p v).fatal = s.fatal := rfl
@[simp] theorem State.setGate_cnt (p : Nat) (v : Gate) (s : State) : (s.setGate p v).cnt = s.cnt := rfl
@[simp] theorem State.setGate_insts (p : Nat) (v : Gate) (s : State) : (s.setGate p v).insts = s.insts := rfl
@[simp] theorem State.setGate_allocs (p : Nat) (v : Gate) (s : State) : (s.setGate p v).allocs = s.allocs := rfl
@[simp] theorem State.setGate_lig (p : Nat) (v : Gate) (s : State) : (s.setGate p v).lig = s.lig := rfl
@[simp] theorem State.setGate_queues (p : Nat) (v : Gate) (s : State) : (s.setGate p v).queues = s.queues := rfl
@[simp] theorem State.setGate_tbl (p : Nat) (v : Gate) (s : State) : (s.setGate p v).tbl = s.tbl := rfl
@[simp] theorem State.setGate_cls (p : Nat) (v : Gate) (s : State) : (s.setGate p v).cls = s.cls := rfl
@[simp] theorem State.setGate_lanes (p : Nat) (v : Gate) (s : State) : (s.setGate p v).lanes = s.lanes := rfl
@[simp] theorem State.setGate_macs (p : Nat) (v : Gate) (s : State) : (s.setGate p v).macs = s.macs := rfl
@[simp] theorem State.setGate_role (p : Nat) (v : Gate) (s : State) : (s.setGate p v).role = s.role := rfl
@[simp] theorem State.setGate_cipher (p : Nat) (v : Gate) (s : State) : (s.setGate p v).cipher = s.cipher := rfl
@[simp] theorem State.setGate_mem (p : Nat) (v : Gate) (s : State) : (s.setGate p v).mem = s.mem := rfl
@[simp] theorem State.setGate_pair (p : Nat) (v : Gate) (s : State) : (s.setGate p v).pair = s.pair := rfl
@[simp] theorem State.setGate_pwr (p : Nat) (v : Gate) (s : State) : (s.setGate p v).pwr = s.pwr := rfl
@[simp] theorem State.setGate_fuse (p : Nat) (v : Gate) (s : State) : (s.setGate p v).fuse = s.fuse := rfl
@[simp] theorem State.setGate_lc (p : Nat) (v : Gate) (s : State) : (s.setGate p v).lc = s.lc := rfl
@[simp] theorem State.setGate_bist (p : Nat) (v : Gate) (s : State) : (s.setGate p v).bist = s.bist := rfl
@[simp] theorem State.setGate_boot (p : Nat) (v : Gate) (s : State) : (s.setGate p v).boot = s.boot := rfl
@[simp] theorem State.setGate_hot (p : Nat) (v : Gate) (s : State) : (s.setGate p v).hot = s.hot := rfl

@[simp] theorem State.setOutput_pending (o : Nat) (v : OutCh) (s : State) : (s.setOutput o v).pending = s.pending := rfl
@[simp] theorem State.setOutput_out (o : Nat) (v : OutCh) (s : State) : (s.setOutput o v).out = s.out := rfl
@[simp] theorem State.setOutput_clk (o : Nat) (v : OutCh) (s : State) : (s.setOutput o v).clk = s.clk := rfl
@[simp] theorem State.setOutput_dev (o : Nat) (v : OutCh) (s : State) : (s.setOutput o v).dev = s.dev := rfl
@[simp] theorem State.setOutput_rings (o : Nat) (v : OutCh) (s : State) : (s.setOutput o v).rings = s.rings := rfl
@[simp] theorem State.setOutput_cmd (o : Nat) (v : OutCh) (s : State) : (s.setOutput o v).cmd = s.cmd := rfl
@[simp] theorem State.setOutput_spi (o : Nat) (v : OutCh) (s : State) : (s.setOutput o v).spi = s.spi := rfl
@[simp] theorem State.setOutput_evt (o : Nat) (v : OutCh) (s : State) : (s.setOutput o v).evt = s.evt := rfl
@[simp] theorem State.setOutput_fatal (o : Nat) (v : OutCh) (s : State) : (s.setOutput o v).fatal = s.fatal := rfl
@[simp] theorem State.setOutput_cnt (o : Nat) (v : OutCh) (s : State) : (s.setOutput o v).cnt = s.cnt := rfl
@[simp] theorem State.setOutput_insts (o : Nat) (v : OutCh) (s : State) : (s.setOutput o v).insts = s.insts := rfl
@[simp] theorem State.setOutput_allocs (o : Nat) (v : OutCh) (s : State) : (s.setOutput o v).allocs = s.allocs := rfl
@[simp] theorem State.setOutput_lig (o : Nat) (v : OutCh) (s : State) : (s.setOutput o v).lig = s.lig := rfl
@[simp] theorem State.setOutput_queues (o : Nat) (v : OutCh) (s : State) : (s.setOutput o v).queues = s.queues := rfl
@[simp] theorem State.setOutput_tbl (o : Nat) (v : OutCh) (s : State) : (s.setOutput o v).tbl = s.tbl := rfl
@[simp] theorem State.setOutput_cls (o : Nat) (v : OutCh) (s : State) : (s.setOutput o v).cls = s.cls := rfl
@[simp] theorem State.setOutput_lanes (o : Nat) (v : OutCh) (s : State) : (s.setOutput o v).lanes = s.lanes := rfl
@[simp] theorem State.setOutput_macs (o : Nat) (v : OutCh) (s : State) : (s.setOutput o v).macs = s.macs := rfl
@[simp] theorem State.setOutput_role (o : Nat) (v : OutCh) (s : State) : (s.setOutput o v).role = s.role := rfl
@[simp] theorem State.setOutput_cipher (o : Nat) (v : OutCh) (s : State) : (s.setOutput o v).cipher = s.cipher := rfl
@[simp] theorem State.setOutput_mem (o : Nat) (v : OutCh) (s : State) : (s.setOutput o v).mem = s.mem := rfl
@[simp] theorem State.setOutput_pair (o : Nat) (v : OutCh) (s : State) : (s.setOutput o v).pair = s.pair := rfl
@[simp] theorem State.setOutput_pwr (o : Nat) (v : OutCh) (s : State) : (s.setOutput o v).pwr = s.pwr := rfl
@[simp] theorem State.setOutput_fuse (o : Nat) (v : OutCh) (s : State) : (s.setOutput o v).fuse = s.fuse := rfl
@[simp] theorem State.setOutput_lc (o : Nat) (v : OutCh) (s : State) : (s.setOutput o v).lc = s.lc := rfl
@[simp] theorem State.setOutput_bist (o : Nat) (v : OutCh) (s : State) : (s.setOutput o v).bist = s.bist := rfl
@[simp] theorem State.setOutput_boot (o : Nat) (v : OutCh) (s : State) : (s.setOutput o v).boot = s.boot := rfl
@[simp] theorem State.setOutput_hot (o : Nat) (v : OutCh) (s : State) : (s.setOutput o v).hot = s.hot := rfl

@[simp] theorem State.setCapture_pending (k : Nat) (v : Capture) (s : State) : (s.setCapture k v).pending = s.pending := rfl
@[simp] theorem State.setCapture_out (k : Nat) (v : Capture) (s : State) : (s.setCapture k v).out = s.out := rfl
@[simp] theorem State.setCapture_clk (k : Nat) (v : Capture) (s : State) : (s.setCapture k v).clk = s.clk := rfl
@[simp] theorem State.setCapture_dev (k : Nat) (v : Capture) (s : State) : (s.setCapture k v).dev = s.dev := rfl
@[simp] theorem State.setCapture_rings (k : Nat) (v : Capture) (s : State) : (s.setCapture k v).rings = s.rings := rfl
@[simp] theorem State.setCapture_cmd (k : Nat) (v : Capture) (s : State) : (s.setCapture k v).cmd = s.cmd := rfl
@[simp] theorem State.setCapture_spi (k : Nat) (v : Capture) (s : State) : (s.setCapture k v).spi = s.spi := rfl
@[simp] theorem State.setCapture_evt (k : Nat) (v : Capture) (s : State) : (s.setCapture k v).evt = s.evt := rfl
@[simp] theorem State.setCapture_fatal (k : Nat) (v : Capture) (s : State) : (s.setCapture k v).fatal = s.fatal := rfl
@[simp] theorem State.setCapture_cnt (k : Nat) (v : Capture) (s : State) : (s.setCapture k v).cnt = s.cnt := rfl
@[simp] theorem State.setCapture_insts (k : Nat) (v : Capture) (s : State) : (s.setCapture k v).insts = s.insts := rfl
@[simp] theorem State.setCapture_allocs (k : Nat) (v : Capture) (s : State) : (s.setCapture k v).allocs = s.allocs := rfl
@[simp] theorem State.setCapture_lig (k : Nat) (v : Capture) (s : State) : (s.setCapture k v).lig = s.lig := rfl
@[simp] theorem State.setCapture_queues (k : Nat) (v : Capture) (s : State) : (s.setCapture k v).queues = s.queues := rfl
@[simp] theorem State.setCapture_tbl (k : Nat) (v : Capture) (s : State) : (s.setCapture k v).tbl = s.tbl := rfl
@[simp] theorem State.setCapture_cls (k : Nat) (v : Capture) (s : State) : (s.setCapture k v).cls = s.cls := rfl
@[simp] theorem State.setCapture_lanes (k : Nat) (v : Capture) (s : State) : (s.setCapture k v).lanes = s.lanes := rfl
@[simp] theorem State.setCapture_macs (k : Nat) (v : Capture) (s : State) : (s.setCapture k v).macs = s.macs := rfl
@[simp] theorem State.setCapture_role (k : Nat) (v : Capture) (s : State) : (s.setCapture k v).role = s.role := rfl
@[simp] theorem State.setCapture_cipher (k : Nat) (v : Capture) (s : State) : (s.setCapture k v).cipher = s.cipher := rfl
@[simp] theorem State.setCapture_mem (k : Nat) (v : Capture) (s : State) : (s.setCapture k v).mem = s.mem := rfl
@[simp] theorem State.setCapture_pair (k : Nat) (v : Capture) (s : State) : (s.setCapture k v).pair = s.pair := rfl
@[simp] theorem State.setCapture_pwr (k : Nat) (v : Capture) (s : State) : (s.setCapture k v).pwr = s.pwr := rfl
@[simp] theorem State.setCapture_fuse (k : Nat) (v : Capture) (s : State) : (s.setCapture k v).fuse = s.fuse := rfl
@[simp] theorem State.setCapture_lc (k : Nat) (v : Capture) (s : State) : (s.setCapture k v).lc = s.lc := rfl
@[simp] theorem State.setCapture_bist (k : Nat) (v : Capture) (s : State) : (s.setCapture k v).bist = s.bist := rfl
@[simp] theorem State.setCapture_boot (k : Nat) (v : Capture) (s : State) : (s.setCapture k v).boot = s.boot := rfl
@[simp] theorem State.setCapture_hot (k : Nat) (v : Capture) (s : State) : (s.setCapture k v).hot = s.hot := rfl

@[simp] theorem State.setMac_pending (h : Nat) (v : Mac) (s : State) : (s.setMac h v).pending = s.pending := rfl
@[simp] theorem State.setMac_out (h : Nat) (v : Mac) (s : State) : (s.setMac h v).out = s.out := rfl
@[simp] theorem State.setMac_clk (h : Nat) (v : Mac) (s : State) : (s.setMac h v).clk = s.clk := rfl
@[simp] theorem State.setMac_dev (h : Nat) (v : Mac) (s : State) : (s.setMac h v).dev = s.dev := rfl
@[simp] theorem State.setMac_rings (h : Nat) (v : Mac) (s : State) : (s.setMac h v).rings = s.rings := rfl
@[simp] theorem State.setMac_cmd (h : Nat) (v : Mac) (s : State) : (s.setMac h v).cmd = s.cmd := rfl
@[simp] theorem State.setMac_spi (h : Nat) (v : Mac) (s : State) : (s.setMac h v).spi = s.spi := rfl
@[simp] theorem State.setMac_evt (h : Nat) (v : Mac) (s : State) : (s.setMac h v).evt = s.evt := rfl
@[simp] theorem State.setMac_fatal (h : Nat) (v : Mac) (s : State) : (s.setMac h v).fatal = s.fatal := rfl
@[simp] theorem State.setMac_cnt (h : Nat) (v : Mac) (s : State) : (s.setMac h v).cnt = s.cnt := rfl
@[simp] theorem State.setMac_insts (h : Nat) (v : Mac) (s : State) : (s.setMac h v).insts = s.insts := rfl
@[simp] theorem State.setMac_allocs (h : Nat) (v : Mac) (s : State) : (s.setMac h v).allocs = s.allocs := rfl
@[simp] theorem State.setMac_lig (h : Nat) (v : Mac) (s : State) : (s.setMac h v).lig = s.lig := rfl
@[simp] theorem State.setMac_queues (h : Nat) (v : Mac) (s : State) : (s.setMac h v).queues = s.queues := rfl
@[simp] theorem State.setMac_tbl (h : Nat) (v : Mac) (s : State) : (s.setMac h v).tbl = s.tbl := rfl
@[simp] theorem State.setMac_cls (h : Nat) (v : Mac) (s : State) : (s.setMac h v).cls = s.cls := rfl
@[simp] theorem State.setMac_lanes (h : Nat) (v : Mac) (s : State) : (s.setMac h v).lanes = s.lanes := rfl
@[simp] theorem State.setMac_role (h : Nat) (v : Mac) (s : State) : (s.setMac h v).role = s.role := rfl
@[simp] theorem State.setMac_cipher (h : Nat) (v : Mac) (s : State) : (s.setMac h v).cipher = s.cipher := rfl
@[simp] theorem State.setMac_mem (h : Nat) (v : Mac) (s : State) : (s.setMac h v).mem = s.mem := rfl
@[simp] theorem State.setMac_pair (h : Nat) (v : Mac) (s : State) : (s.setMac h v).pair = s.pair := rfl
@[simp] theorem State.setMac_pwr (h : Nat) (v : Mac) (s : State) : (s.setMac h v).pwr = s.pwr := rfl
@[simp] theorem State.setMac_fuse (h : Nat) (v : Mac) (s : State) : (s.setMac h v).fuse = s.fuse := rfl
@[simp] theorem State.setMac_lc (h : Nat) (v : Mac) (s : State) : (s.setMac h v).lc = s.lc := rfl
@[simp] theorem State.setMac_bist (h : Nat) (v : Mac) (s : State) : (s.setMac h v).bist = s.bist := rfl
@[simp] theorem State.setMac_boot (h : Nat) (v : Mac) (s : State) : (s.setMac h v).boot = s.boot := rfl
@[simp] theorem State.setMac_hot (h : Nat) (v : Mac) (s : State) : (s.setMac h v).hot = s.hot := rfl

@[simp] theorem State.setTimebase_pending (n : Nat) (t : Tbase) (s : State) : (s.setTimebase n t).pending = s.pending := rfl
@[simp] theorem State.setTimebase_out (n : Nat) (t : Tbase) (s : State) : (s.setTimebase n t).out = s.out := rfl
@[simp] theorem State.setTimebase_clk (n : Nat) (t : Tbase) (s : State) : (s.setTimebase n t).clk = s.clk := rfl
@[simp] theorem State.setTimebase_dev (n : Nat) (t : Tbase) (s : State) : (s.setTimebase n t).dev = s.dev := rfl
@[simp] theorem State.setTimebase_rings (n : Nat) (t : Tbase) (s : State) : (s.setTimebase n t).rings = s.rings := rfl
@[simp] theorem State.setTimebase_cmd (n : Nat) (t : Tbase) (s : State) : (s.setTimebase n t).cmd = s.cmd := rfl
@[simp] theorem State.setTimebase_spi (n : Nat) (t : Tbase) (s : State) : (s.setTimebase n t).spi = s.spi := rfl
@[simp] theorem State.setTimebase_evt (n : Nat) (t : Tbase) (s : State) : (s.setTimebase n t).evt = s.evt := rfl
@[simp] theorem State.setTimebase_fatal (n : Nat) (t : Tbase) (s : State) : (s.setTimebase n t).fatal = s.fatal := rfl
@[simp] theorem State.setTimebase_cnt (n : Nat) (t : Tbase) (s : State) : (s.setTimebase n t).cnt = s.cnt := rfl
@[simp] theorem State.setTimebase_insts (n : Nat) (t : Tbase) (s : State) : (s.setTimebase n t).insts = s.insts := rfl
@[simp] theorem State.setTimebase_allocs (n : Nat) (t : Tbase) (s : State) : (s.setTimebase n t).allocs = s.allocs := rfl
@[simp] theorem State.setTimebase_lig (n : Nat) (t : Tbase) (s : State) : (s.setTimebase n t).lig = s.lig := rfl
@[simp] theorem State.setTimebase_queues (n : Nat) (t : Tbase) (s : State) : (s.setTimebase n t).queues = s.queues := rfl
@[simp] theorem State.setTimebase_tbl (n : Nat) (t : Tbase) (s : State) : (s.setTimebase n t).tbl = s.tbl := rfl
@[simp] theorem State.setTimebase_cls (n : Nat) (t : Tbase) (s : State) : (s.setTimebase n t).cls = s.cls := rfl
@[simp] theorem State.setTimebase_lanes (n : Nat) (t : Tbase) (s : State) : (s.setTimebase n t).lanes = s.lanes := rfl
@[simp] theorem State.setTimebase_macs (n : Nat) (t : Tbase) (s : State) : (s.setTimebase n t).macs = s.macs := rfl
@[simp] theorem State.setTimebase_role (n : Nat) (t : Tbase) (s : State) : (s.setTimebase n t).role = s.role := rfl
@[simp] theorem State.setTimebase_cipher (n : Nat) (t : Tbase) (s : State) : (s.setTimebase n t).cipher = s.cipher := rfl
@[simp] theorem State.setTimebase_mem (n : Nat) (t : Tbase) (s : State) : (s.setTimebase n t).mem = s.mem := rfl
@[simp] theorem State.setTimebase_pair (n : Nat) (t : Tbase) (s : State) : (s.setTimebase n t).pair = s.pair := rfl
@[simp] theorem State.setTimebase_pwr (n : Nat) (t : Tbase) (s : State) : (s.setTimebase n t).pwr = s.pwr := rfl
@[simp] theorem State.setTimebase_fuse (n : Nat) (t : Tbase) (s : State) : (s.setTimebase n t).fuse = s.fuse := rfl
@[simp] theorem State.setTimebase_lc (n : Nat) (t : Tbase) (s : State) : (s.setTimebase n t).lc = s.lc := rfl
@[simp] theorem State.setTimebase_bist (n : Nat) (t : Tbase) (s : State) : (s.setTimebase n t).bist = s.bist := rfl
@[simp] theorem State.setTimebase_boot (n : Nat) (t : Tbase) (s : State) : (s.setTimebase n t).boot = s.boot := rfl
@[simp] theorem State.setTimebase_hot (n : Nat) (t : Tbase) (s : State) : (s.setTimebase n t).hot = s.hot := rfl

@[simp] theorem State.setTod_pending (i : Nat) (v : Tod) (s : State) : (s.setTod i v).pending = s.pending := rfl
@[simp] theorem State.setTod_out (i : Nat) (v : Tod) (s : State) : (s.setTod i v).out = s.out := rfl
@[simp] theorem State.setTod_clk (i : Nat) (v : Tod) (s : State) : (s.setTod i v).clk = s.clk := rfl
@[simp] theorem State.setTod_dev (i : Nat) (v : Tod) (s : State) : (s.setTod i v).dev = s.dev := rfl
@[simp] theorem State.setTod_rings (i : Nat) (v : Tod) (s : State) : (s.setTod i v).rings = s.rings := rfl
@[simp] theorem State.setTod_cmd (i : Nat) (v : Tod) (s : State) : (s.setTod i v).cmd = s.cmd := rfl
@[simp] theorem State.setTod_spi (i : Nat) (v : Tod) (s : State) : (s.setTod i v).spi = s.spi := rfl
@[simp] theorem State.setTod_evt (i : Nat) (v : Tod) (s : State) : (s.setTod i v).evt = s.evt := rfl
@[simp] theorem State.setTod_fatal (i : Nat) (v : Tod) (s : State) : (s.setTod i v).fatal = s.fatal := rfl
@[simp] theorem State.setTod_cnt (i : Nat) (v : Tod) (s : State) : (s.setTod i v).cnt = s.cnt := rfl
@[simp] theorem State.setTod_insts (i : Nat) (v : Tod) (s : State) : (s.setTod i v).insts = s.insts := rfl
@[simp] theorem State.setTod_allocs (i : Nat) (v : Tod) (s : State) : (s.setTod i v).allocs = s.allocs := rfl
@[simp] theorem State.setTod_lig (i : Nat) (v : Tod) (s : State) : (s.setTod i v).lig = s.lig := rfl
@[simp] theorem State.setTod_queues (i : Nat) (v : Tod) (s : State) : (s.setTod i v).queues = s.queues := rfl
@[simp] theorem State.setTod_tbl (i : Nat) (v : Tod) (s : State) : (s.setTod i v).tbl = s.tbl := rfl
@[simp] theorem State.setTod_cls (i : Nat) (v : Tod) (s : State) : (s.setTod i v).cls = s.cls := rfl
@[simp] theorem State.setTod_lanes (i : Nat) (v : Tod) (s : State) : (s.setTod i v).lanes = s.lanes := rfl
@[simp] theorem State.setTod_macs (i : Nat) (v : Tod) (s : State) : (s.setTod i v).macs = s.macs := rfl
@[simp] theorem State.setTod_role (i : Nat) (v : Tod) (s : State) : (s.setTod i v).role = s.role := rfl
@[simp] theorem State.setTod_cipher (i : Nat) (v : Tod) (s : State) : (s.setTod i v).cipher = s.cipher := rfl
@[simp] theorem State.setTod_mem (i : Nat) (v : Tod) (s : State) : (s.setTod i v).mem = s.mem := rfl
@[simp] theorem State.setTod_pair (i : Nat) (v : Tod) (s : State) : (s.setTod i v).pair = s.pair := rfl
@[simp] theorem State.setTod_pwr (i : Nat) (v : Tod) (s : State) : (s.setTod i v).pwr = s.pwr := rfl
@[simp] theorem State.setTod_fuse (i : Nat) (v : Tod) (s : State) : (s.setTod i v).fuse = s.fuse := rfl
@[simp] theorem State.setTod_lc (i : Nat) (v : Tod) (s : State) : (s.setTod i v).lc = s.lc := rfl
@[simp] theorem State.setTod_bist (i : Nat) (v : Tod) (s : State) : (s.setTod i v).bist = s.bist := rfl
@[simp] theorem State.setTod_boot (i : Nat) (v : Tod) (s : State) : (s.setTod i v).boot = s.boot := rfl
@[simp] theorem State.setTod_hot (i : Nat) (v : Tod) (s : State) : (s.setTod i v).hot = s.hot := rfl

@[simp] theorem State.setPtp_pending (h : Nat) (v : Ptp) (s : State) : (s.setPtp h v).pending = s.pending := rfl
@[simp] theorem State.setPtp_out (h : Nat) (v : Ptp) (s : State) : (s.setPtp h v).out = s.out := rfl
@[simp] theorem State.setPtp_clk (h : Nat) (v : Ptp) (s : State) : (s.setPtp h v).clk = s.clk := rfl
@[simp] theorem State.setPtp_dev (h : Nat) (v : Ptp) (s : State) : (s.setPtp h v).dev = s.dev := rfl
@[simp] theorem State.setPtp_rings (h : Nat) (v : Ptp) (s : State) : (s.setPtp h v).rings = s.rings := rfl
@[simp] theorem State.setPtp_cmd (h : Nat) (v : Ptp) (s : State) : (s.setPtp h v).cmd = s.cmd := rfl
@[simp] theorem State.setPtp_spi (h : Nat) (v : Ptp) (s : State) : (s.setPtp h v).spi = s.spi := rfl
@[simp] theorem State.setPtp_evt (h : Nat) (v : Ptp) (s : State) : (s.setPtp h v).evt = s.evt := rfl
@[simp] theorem State.setPtp_fatal (h : Nat) (v : Ptp) (s : State) : (s.setPtp h v).fatal = s.fatal := rfl
@[simp] theorem State.setPtp_cnt (h : Nat) (v : Ptp) (s : State) : (s.setPtp h v).cnt = s.cnt := rfl
@[simp] theorem State.setPtp_insts (h : Nat) (v : Ptp) (s : State) : (s.setPtp h v).insts = s.insts := rfl
@[simp] theorem State.setPtp_allocs (h : Nat) (v : Ptp) (s : State) : (s.setPtp h v).allocs = s.allocs := rfl
@[simp] theorem State.setPtp_lig (h : Nat) (v : Ptp) (s : State) : (s.setPtp h v).lig = s.lig := rfl
@[simp] theorem State.setPtp_queues (h : Nat) (v : Ptp) (s : State) : (s.setPtp h v).queues = s.queues := rfl
@[simp] theorem State.setPtp_tbl (h : Nat) (v : Ptp) (s : State) : (s.setPtp h v).tbl = s.tbl := rfl
@[simp] theorem State.setPtp_cls (h : Nat) (v : Ptp) (s : State) : (s.setPtp h v).cls = s.cls := rfl
@[simp] theorem State.setPtp_lanes (h : Nat) (v : Ptp) (s : State) : (s.setPtp h v).lanes = s.lanes := rfl
@[simp] theorem State.setPtp_macs (h : Nat) (v : Ptp) (s : State) : (s.setPtp h v).macs = s.macs := rfl
@[simp] theorem State.setPtp_role (h : Nat) (v : Ptp) (s : State) : (s.setPtp h v).role = s.role := rfl
@[simp] theorem State.setPtp_cipher (h : Nat) (v : Ptp) (s : State) : (s.setPtp h v).cipher = s.cipher := rfl
@[simp] theorem State.setPtp_mem (h : Nat) (v : Ptp) (s : State) : (s.setPtp h v).mem = s.mem := rfl
@[simp] theorem State.setPtp_pair (h : Nat) (v : Ptp) (s : State) : (s.setPtp h v).pair = s.pair := rfl
@[simp] theorem State.setPtp_pwr (h : Nat) (v : Ptp) (s : State) : (s.setPtp h v).pwr = s.pwr := rfl
@[simp] theorem State.setPtp_fuse (h : Nat) (v : Ptp) (s : State) : (s.setPtp h v).fuse = s.fuse := rfl
@[simp] theorem State.setPtp_lc (h : Nat) (v : Ptp) (s : State) : (s.setPtp h v).lc = s.lc := rfl
@[simp] theorem State.setPtp_bist (h : Nat) (v : Ptp) (s : State) : (s.setPtp h v).bist = s.bist := rfl
@[simp] theorem State.setPtp_boot (h : Nat) (v : Ptp) (s : State) : (s.setPtp h v).boot = s.boot := rfl
@[simp] theorem State.setPtp_hot (h : Nat) (v : Ptp) (s : State) : (s.setPtp h v).hot = s.hot := rfl

@[simp] theorem State.setTrib_pending (t : Nat) (v : Trib) (s : State) : (s.setTrib t v).pending = s.pending := rfl
@[simp] theorem State.setTrib_out (t : Nat) (v : Trib) (s : State) : (s.setTrib t v).out = s.out := rfl
@[simp] theorem State.setTrib_clk (t : Nat) (v : Trib) (s : State) : (s.setTrib t v).clk = s.clk := rfl
@[simp] theorem State.setTrib_dev (t : Nat) (v : Trib) (s : State) : (s.setTrib t v).dev = s.dev := rfl
@[simp] theorem State.setTrib_rings (t : Nat) (v : Trib) (s : State) : (s.setTrib t v).rings = s.rings := rfl
@[simp] theorem State.setTrib_cmd (t : Nat) (v : Trib) (s : State) : (s.setTrib t v).cmd = s.cmd := rfl
@[simp] theorem State.setTrib_spi (t : Nat) (v : Trib) (s : State) : (s.setTrib t v).spi = s.spi := rfl
@[simp] theorem State.setTrib_evt (t : Nat) (v : Trib) (s : State) : (s.setTrib t v).evt = s.evt := rfl
@[simp] theorem State.setTrib_fatal (t : Nat) (v : Trib) (s : State) : (s.setTrib t v).fatal = s.fatal := rfl
@[simp] theorem State.setTrib_cnt (t : Nat) (v : Trib) (s : State) : (s.setTrib t v).cnt = s.cnt := rfl
@[simp] theorem State.setTrib_insts (t : Nat) (v : Trib) (s : State) : (s.setTrib t v).insts = s.insts := rfl
@[simp] theorem State.setTrib_allocs (t : Nat) (v : Trib) (s : State) : (s.setTrib t v).allocs = s.allocs := rfl
@[simp] theorem State.setTrib_lig (t : Nat) (v : Trib) (s : State) : (s.setTrib t v).lig = s.lig := rfl
@[simp] theorem State.setTrib_queues (t : Nat) (v : Trib) (s : State) : (s.setTrib t v).queues = s.queues := rfl
@[simp] theorem State.setTrib_tbl (t : Nat) (v : Trib) (s : State) : (s.setTrib t v).tbl = s.tbl := rfl
@[simp] theorem State.setTrib_cls (t : Nat) (v : Trib) (s : State) : (s.setTrib t v).cls = s.cls := rfl
@[simp] theorem State.setTrib_lanes (t : Nat) (v : Trib) (s : State) : (s.setTrib t v).lanes = s.lanes := rfl
@[simp] theorem State.setTrib_macs (t : Nat) (v : Trib) (s : State) : (s.setTrib t v).macs = s.macs := rfl
@[simp] theorem State.setTrib_role (t : Nat) (v : Trib) (s : State) : (s.setTrib t v).role = s.role := rfl
@[simp] theorem State.setTrib_cipher (t : Nat) (v : Trib) (s : State) : (s.setTrib t v).cipher = s.cipher := rfl
@[simp] theorem State.setTrib_mem (t : Nat) (v : Trib) (s : State) : (s.setTrib t v).mem = s.mem := rfl
@[simp] theorem State.setTrib_pair (t : Nat) (v : Trib) (s : State) : (s.setTrib t v).pair = s.pair := rfl
@[simp] theorem State.setTrib_pwr (t : Nat) (v : Trib) (s : State) : (s.setTrib t v).pwr = s.pwr := rfl
@[simp] theorem State.setTrib_fuse (t : Nat) (v : Trib) (s : State) : (s.setTrib t v).fuse = s.fuse := rfl
@[simp] theorem State.setTrib_lc (t : Nat) (v : Trib) (s : State) : (s.setTrib t v).lc = s.lc := rfl
@[simp] theorem State.setTrib_bist (t : Nat) (v : Trib) (s : State) : (s.setTrib t v).bist = s.bist := rfl
@[simp] theorem State.setTrib_boot (t : Nat) (v : Trib) (s : State) : (s.setTrib t v).boot = s.boot := rfl
@[simp] theorem State.setTrib_hot (t : Nat) (v : Trib) (s : State) : (s.setTrib t v).hot = s.hot := rfl

@[simp] theorem State.modTrib_pending (t : Nat) (f : Trib → Trib) (s : State) : (s.modTrib t f).pending = s.pending := rfl
@[simp] theorem State.modTrib_out (t : Nat) (f : Trib → Trib) (s : State) : (s.modTrib t f).out = s.out := rfl
@[simp] theorem State.modTrib_clk (t : Nat) (f : Trib → Trib) (s : State) : (s.modTrib t f).clk = s.clk := rfl
@[simp] theorem State.modTrib_dev (t : Nat) (f : Trib → Trib) (s : State) : (s.modTrib t f).dev = s.dev := rfl
@[simp] theorem State.modTrib_rings (t : Nat) (f : Trib → Trib) (s : State) : (s.modTrib t f).rings = s.rings := rfl
@[simp] theorem State.modTrib_cmd (t : Nat) (f : Trib → Trib) (s : State) : (s.modTrib t f).cmd = s.cmd := rfl
@[simp] theorem State.modTrib_spi (t : Nat) (f : Trib → Trib) (s : State) : (s.modTrib t f).spi = s.spi := rfl
@[simp] theorem State.modTrib_evt (t : Nat) (f : Trib → Trib) (s : State) : (s.modTrib t f).evt = s.evt := rfl
@[simp] theorem State.modTrib_fatal (t : Nat) (f : Trib → Trib) (s : State) : (s.modTrib t f).fatal = s.fatal := rfl
@[simp] theorem State.modTrib_cnt (t : Nat) (f : Trib → Trib) (s : State) : (s.modTrib t f).cnt = s.cnt := rfl
@[simp] theorem State.modTrib_insts (t : Nat) (f : Trib → Trib) (s : State) : (s.modTrib t f).insts = s.insts := rfl
@[simp] theorem State.modTrib_allocs (t : Nat) (f : Trib → Trib) (s : State) : (s.modTrib t f).allocs = s.allocs := rfl
@[simp] theorem State.modTrib_lig (t : Nat) (f : Trib → Trib) (s : State) : (s.modTrib t f).lig = s.lig := rfl
@[simp] theorem State.modTrib_queues (t : Nat) (f : Trib → Trib) (s : State) : (s.modTrib t f).queues = s.queues := rfl
@[simp] theorem State.modTrib_tbl (t : Nat) (f : Trib → Trib) (s : State) : (s.modTrib t f).tbl = s.tbl := rfl
@[simp] theorem State.modTrib_cls (t : Nat) (f : Trib → Trib) (s : State) : (s.modTrib t f).cls = s.cls := rfl
@[simp] theorem State.modTrib_lanes (t : Nat) (f : Trib → Trib) (s : State) : (s.modTrib t f).lanes = s.lanes := rfl
@[simp] theorem State.modTrib_macs (t : Nat) (f : Trib → Trib) (s : State) : (s.modTrib t f).macs = s.macs := rfl
@[simp] theorem State.modTrib_role (t : Nat) (f : Trib → Trib) (s : State) : (s.modTrib t f).role = s.role := rfl
@[simp] theorem State.modTrib_cipher (t : Nat) (f : Trib → Trib) (s : State) : (s.modTrib t f).cipher = s.cipher := rfl
@[simp] theorem State.modTrib_mem (t : Nat) (f : Trib → Trib) (s : State) : (s.modTrib t f).mem = s.mem := rfl
@[simp] theorem State.modTrib_pair (t : Nat) (f : Trib → Trib) (s : State) : (s.modTrib t f).pair = s.pair := rfl
@[simp] theorem State.modTrib_pwr (t : Nat) (f : Trib → Trib) (s : State) : (s.modTrib t f).pwr = s.pwr := rfl
@[simp] theorem State.modTrib_fuse (t : Nat) (f : Trib → Trib) (s : State) : (s.modTrib t f).fuse = s.fuse := rfl
@[simp] theorem State.modTrib_lc (t : Nat) (f : Trib → Trib) (s : State) : (s.modTrib t f).lc = s.lc := rfl
@[simp] theorem State.modTrib_bist (t : Nat) (f : Trib → Trib) (s : State) : (s.modTrib t f).bist = s.bist := rfl
@[simp] theorem State.modTrib_boot (t : Nat) (f : Trib → Trib) (s : State) : (s.modTrib t f).boot = s.boot := rfl
@[simp] theorem State.modTrib_hot (t : Nat) (f : Trib → Trib) (s : State) : (s.modTrib t f).hot = s.hot := rfl

@[simp] theorem State.setTpath_pending (p : Nat) (v : TPath) (s : State) : (s.setTpath p v).pending = s.pending := rfl
@[simp] theorem State.setTpath_out (p : Nat) (v : TPath) (s : State) : (s.setTpath p v).out = s.out := rfl
@[simp] theorem State.setTpath_clk (p : Nat) (v : TPath) (s : State) : (s.setTpath p v).clk = s.clk := rfl
@[simp] theorem State.setTpath_dev (p : Nat) (v : TPath) (s : State) : (s.setTpath p v).dev = s.dev := rfl
@[simp] theorem State.setTpath_rings (p : Nat) (v : TPath) (s : State) : (s.setTpath p v).rings = s.rings := rfl
@[simp] theorem State.setTpath_cmd (p : Nat) (v : TPath) (s : State) : (s.setTpath p v).cmd = s.cmd := rfl
@[simp] theorem State.setTpath_spi (p : Nat) (v : TPath) (s : State) : (s.setTpath p v).spi = s.spi := rfl
@[simp] theorem State.setTpath_evt (p : Nat) (v : TPath) (s : State) : (s.setTpath p v).evt = s.evt := rfl
@[simp] theorem State.setTpath_fatal (p : Nat) (v : TPath) (s : State) : (s.setTpath p v).fatal = s.fatal := rfl
@[simp] theorem State.setTpath_cnt (p : Nat) (v : TPath) (s : State) : (s.setTpath p v).cnt = s.cnt := rfl
@[simp] theorem State.setTpath_insts (p : Nat) (v : TPath) (s : State) : (s.setTpath p v).insts = s.insts := rfl
@[simp] theorem State.setTpath_allocs (p : Nat) (v : TPath) (s : State) : (s.setTpath p v).allocs = s.allocs := rfl
@[simp] theorem State.setTpath_lig (p : Nat) (v : TPath) (s : State) : (s.setTpath p v).lig = s.lig := rfl
@[simp] theorem State.setTpath_queues (p : Nat) (v : TPath) (s : State) : (s.setTpath p v).queues = s.queues := rfl
@[simp] theorem State.setTpath_tbl (p : Nat) (v : TPath) (s : State) : (s.setTpath p v).tbl = s.tbl := rfl
@[simp] theorem State.setTpath_cls (p : Nat) (v : TPath) (s : State) : (s.setTpath p v).cls = s.cls := rfl
@[simp] theorem State.setTpath_lanes (p : Nat) (v : TPath) (s : State) : (s.setTpath p v).lanes = s.lanes := rfl
@[simp] theorem State.setTpath_macs (p : Nat) (v : TPath) (s : State) : (s.setTpath p v).macs = s.macs := rfl
@[simp] theorem State.setTpath_role (p : Nat) (v : TPath) (s : State) : (s.setTpath p v).role = s.role := rfl
@[simp] theorem State.setTpath_cipher (p : Nat) (v : TPath) (s : State) : (s.setTpath p v).cipher = s.cipher := rfl
@[simp] theorem State.setTpath_mem (p : Nat) (v : TPath) (s : State) : (s.setTpath p v).mem = s.mem := rfl
@[simp] theorem State.setTpath_pair (p : Nat) (v : TPath) (s : State) : (s.setTpath p v).pair = s.pair := rfl
@[simp] theorem State.setTpath_pwr (p : Nat) (v : TPath) (s : State) : (s.setTpath p v).pwr = s.pwr := rfl
@[simp] theorem State.setTpath_fuse (p : Nat) (v : TPath) (s : State) : (s.setTpath p v).fuse = s.fuse := rfl
@[simp] theorem State.setTpath_lc (p : Nat) (v : TPath) (s : State) : (s.setTpath p v).lc = s.lc := rfl
@[simp] theorem State.setTpath_bist (p : Nat) (v : TPath) (s : State) : (s.setTpath p v).bist = s.bist := rfl
@[simp] theorem State.setTpath_boot (p : Nat) (v : TPath) (s : State) : (s.setTpath p v).boot = s.boot := rfl
@[simp] theorem State.setTpath_hot (p : Nat) (v : TPath) (s : State) : (s.setTpath p v).hot = s.hot := rfl

@[simp] theorem State.setVcat_pending (g : Nat) (v : Vcat) (s : State) : (s.setVcat g v).pending = s.pending := rfl
@[simp] theorem State.setVcat_out (g : Nat) (v : Vcat) (s : State) : (s.setVcat g v).out = s.out := rfl
@[simp] theorem State.setVcat_clk (g : Nat) (v : Vcat) (s : State) : (s.setVcat g v).clk = s.clk := rfl
@[simp] theorem State.setVcat_dev (g : Nat) (v : Vcat) (s : State) : (s.setVcat g v).dev = s.dev := rfl
@[simp] theorem State.setVcat_rings (g : Nat) (v : Vcat) (s : State) : (s.setVcat g v).rings = s.rings := rfl
@[simp] theorem State.setVcat_cmd (g : Nat) (v : Vcat) (s : State) : (s.setVcat g v).cmd = s.cmd := rfl
@[simp] theorem State.setVcat_spi (g : Nat) (v : Vcat) (s : State) : (s.setVcat g v).spi = s.spi := rfl
@[simp] theorem State.setVcat_evt (g : Nat) (v : Vcat) (s : State) : (s.setVcat g v).evt = s.evt := rfl
@[simp] theorem State.setVcat_fatal (g : Nat) (v : Vcat) (s : State) : (s.setVcat g v).fatal = s.fatal := rfl
@[simp] theorem State.setVcat_cnt (g : Nat) (v : Vcat) (s : State) : (s.setVcat g v).cnt = s.cnt := rfl
@[simp] theorem State.setVcat_insts (g : Nat) (v : Vcat) (s : State) : (s.setVcat g v).insts = s.insts := rfl
@[simp] theorem State.setVcat_allocs (g : Nat) (v : Vcat) (s : State) : (s.setVcat g v).allocs = s.allocs := rfl
@[simp] theorem State.setVcat_lig (g : Nat) (v : Vcat) (s : State) : (s.setVcat g v).lig = s.lig := rfl
@[simp] theorem State.setVcat_queues (g : Nat) (v : Vcat) (s : State) : (s.setVcat g v).queues = s.queues := rfl
@[simp] theorem State.setVcat_tbl (g : Nat) (v : Vcat) (s : State) : (s.setVcat g v).tbl = s.tbl := rfl
@[simp] theorem State.setVcat_cls (g : Nat) (v : Vcat) (s : State) : (s.setVcat g v).cls = s.cls := rfl
@[simp] theorem State.setVcat_lanes (g : Nat) (v : Vcat) (s : State) : (s.setVcat g v).lanes = s.lanes := rfl
@[simp] theorem State.setVcat_macs (g : Nat) (v : Vcat) (s : State) : (s.setVcat g v).macs = s.macs := rfl
@[simp] theorem State.setVcat_role (g : Nat) (v : Vcat) (s : State) : (s.setVcat g v).role = s.role := rfl
@[simp] theorem State.setVcat_cipher (g : Nat) (v : Vcat) (s : State) : (s.setVcat g v).cipher = s.cipher := rfl
@[simp] theorem State.setVcat_mem (g : Nat) (v : Vcat) (s : State) : (s.setVcat g v).mem = s.mem := rfl
@[simp] theorem State.setVcat_pair (g : Nat) (v : Vcat) (s : State) : (s.setVcat g v).pair = s.pair := rfl
@[simp] theorem State.setVcat_pwr (g : Nat) (v : Vcat) (s : State) : (s.setVcat g v).pwr = s.pwr := rfl
@[simp] theorem State.setVcat_fuse (g : Nat) (v : Vcat) (s : State) : (s.setVcat g v).fuse = s.fuse := rfl
@[simp] theorem State.setVcat_lc (g : Nat) (v : Vcat) (s : State) : (s.setVcat g v).lc = s.lc := rfl
@[simp] theorem State.setVcat_bist (g : Nat) (v : Vcat) (s : State) : (s.setVcat g v).bist = s.bist := rfl
@[simp] theorem State.setVcat_boot (g : Nat) (v : Vcat) (s : State) : (s.setVcat g v).boot = s.boot := rfl
@[simp] theorem State.setVcat_hot (g : Nat) (v : Vcat) (s : State) : (s.setVcat g v).hot = s.hot := rfl

@[simp] theorem State.setCirc_pending (c : Nat) (v : Circ) (s : State) : (s.setCirc c v).pending = s.pending := rfl
@[simp] theorem State.setCirc_out (c : Nat) (v : Circ) (s : State) : (s.setCirc c v).out = s.out := rfl
@[simp] theorem State.setCirc_clk (c : Nat) (v : Circ) (s : State) : (s.setCirc c v).clk = s.clk := rfl
@[simp] theorem State.setCirc_dev (c : Nat) (v : Circ) (s : State) : (s.setCirc c v).dev = s.dev := rfl
@[simp] theorem State.setCirc_rings (c : Nat) (v : Circ) (s : State) : (s.setCirc c v).rings = s.rings := rfl
@[simp] theorem State.setCirc_cmd (c : Nat) (v : Circ) (s : State) : (s.setCirc c v).cmd = s.cmd := rfl
@[simp] theorem State.setCirc_spi (c : Nat) (v : Circ) (s : State) : (s.setCirc c v).spi = s.spi := rfl
@[simp] theorem State.setCirc_evt (c : Nat) (v : Circ) (s : State) : (s.setCirc c v).evt = s.evt := rfl
@[simp] theorem State.setCirc_fatal (c : Nat) (v : Circ) (s : State) : (s.setCirc c v).fatal = s.fatal := rfl
@[simp] theorem State.setCirc_cnt (c : Nat) (v : Circ) (s : State) : (s.setCirc c v).cnt = s.cnt := rfl
@[simp] theorem State.setCirc_insts (c : Nat) (v : Circ) (s : State) : (s.setCirc c v).insts = s.insts := rfl
@[simp] theorem State.setCirc_allocs (c : Nat) (v : Circ) (s : State) : (s.setCirc c v).allocs = s.allocs := rfl
@[simp] theorem State.setCirc_lig (c : Nat) (v : Circ) (s : State) : (s.setCirc c v).lig = s.lig := rfl
@[simp] theorem State.setCirc_queues (c : Nat) (v : Circ) (s : State) : (s.setCirc c v).queues = s.queues := rfl
@[simp] theorem State.setCirc_tbl (c : Nat) (v : Circ) (s : State) : (s.setCirc c v).tbl = s.tbl := rfl
@[simp] theorem State.setCirc_cls (c : Nat) (v : Circ) (s : State) : (s.setCirc c v).cls = s.cls := rfl
@[simp] theorem State.setCirc_lanes (c : Nat) (v : Circ) (s : State) : (s.setCirc c v).lanes = s.lanes := rfl
@[simp] theorem State.setCirc_macs (c : Nat) (v : Circ) (s : State) : (s.setCirc c v).macs = s.macs := rfl
@[simp] theorem State.setCirc_role (c : Nat) (v : Circ) (s : State) : (s.setCirc c v).role = s.role := rfl
@[simp] theorem State.setCirc_cipher (c : Nat) (v : Circ) (s : State) : (s.setCirc c v).cipher = s.cipher := rfl
@[simp] theorem State.setCirc_mem (c : Nat) (v : Circ) (s : State) : (s.setCirc c v).mem = s.mem := rfl
@[simp] theorem State.setCirc_pair (c : Nat) (v : Circ) (s : State) : (s.setCirc c v).pair = s.pair := rfl
@[simp] theorem State.setCirc_pwr (c : Nat) (v : Circ) (s : State) : (s.setCirc c v).pwr = s.pwr := rfl
@[simp] theorem State.setCirc_fuse (c : Nat) (v : Circ) (s : State) : (s.setCirc c v).fuse = s.fuse := rfl
@[simp] theorem State.setCirc_lc (c : Nat) (v : Circ) (s : State) : (s.setCirc c v).lc = s.lc := rfl
@[simp] theorem State.setCirc_bist (c : Nat) (v : Circ) (s : State) : (s.setCirc c v).bist = s.bist := rfl
@[simp] theorem State.setCirc_boot (c : Nat) (v : Circ) (s : State) : (s.setCirc c v).boot = s.boot := rfl
@[simp] theorem State.setCirc_hot (c : Nat) (v : Circ) (s : State) : (s.setCirc c v).hot = s.hot := rfl

@[simp] theorem State.setMsp_pending (k : Nat) (v : Msp) (s : State) : (s.setMsp k v).pending = s.pending := rfl
@[simp] theorem State.setMsp_out (k : Nat) (v : Msp) (s : State) : (s.setMsp k v).out = s.out := rfl
@[simp] theorem State.setMsp_clk (k : Nat) (v : Msp) (s : State) : (s.setMsp k v).clk = s.clk := rfl
@[simp] theorem State.setMsp_dev (k : Nat) (v : Msp) (s : State) : (s.setMsp k v).dev = s.dev := rfl
@[simp] theorem State.setMsp_rings (k : Nat) (v : Msp) (s : State) : (s.setMsp k v).rings = s.rings := rfl
@[simp] theorem State.setMsp_cmd (k : Nat) (v : Msp) (s : State) : (s.setMsp k v).cmd = s.cmd := rfl
@[simp] theorem State.setMsp_spi (k : Nat) (v : Msp) (s : State) : (s.setMsp k v).spi = s.spi := rfl
@[simp] theorem State.setMsp_evt (k : Nat) (v : Msp) (s : State) : (s.setMsp k v).evt = s.evt := rfl
@[simp] theorem State.setMsp_fatal (k : Nat) (v : Msp) (s : State) : (s.setMsp k v).fatal = s.fatal := rfl
@[simp] theorem State.setMsp_cnt (k : Nat) (v : Msp) (s : State) : (s.setMsp k v).cnt = s.cnt := rfl
@[simp] theorem State.setMsp_insts (k : Nat) (v : Msp) (s : State) : (s.setMsp k v).insts = s.insts := rfl
@[simp] theorem State.setMsp_allocs (k : Nat) (v : Msp) (s : State) : (s.setMsp k v).allocs = s.allocs := rfl
@[simp] theorem State.setMsp_lig (k : Nat) (v : Msp) (s : State) : (s.setMsp k v).lig = s.lig := rfl
@[simp] theorem State.setMsp_queues (k : Nat) (v : Msp) (s : State) : (s.setMsp k v).queues = s.queues := rfl
@[simp] theorem State.setMsp_tbl (k : Nat) (v : Msp) (s : State) : (s.setMsp k v).tbl = s.tbl := rfl
@[simp] theorem State.setMsp_cls (k : Nat) (v : Msp) (s : State) : (s.setMsp k v).cls = s.cls := rfl
@[simp] theorem State.setMsp_lanes (k : Nat) (v : Msp) (s : State) : (s.setMsp k v).lanes = s.lanes := rfl
@[simp] theorem State.setMsp_macs (k : Nat) (v : Msp) (s : State) : (s.setMsp k v).macs = s.macs := rfl
@[simp] theorem State.setMsp_role (k : Nat) (v : Msp) (s : State) : (s.setMsp k v).role = s.role := rfl
@[simp] theorem State.setMsp_cipher (k : Nat) (v : Msp) (s : State) : (s.setMsp k v).cipher = s.cipher := rfl
@[simp] theorem State.setMsp_mem (k : Nat) (v : Msp) (s : State) : (s.setMsp k v).mem = s.mem := rfl
@[simp] theorem State.setMsp_pair (k : Nat) (v : Msp) (s : State) : (s.setMsp k v).pair = s.pair := rfl
@[simp] theorem State.setMsp_pwr (k : Nat) (v : Msp) (s : State) : (s.setMsp k v).pwr = s.pwr := rfl
@[simp] theorem State.setMsp_fuse (k : Nat) (v : Msp) (s : State) : (s.setMsp k v).fuse = s.fuse := rfl
@[simp] theorem State.setMsp_lc (k : Nat) (v : Msp) (s : State) : (s.setMsp k v).lc = s.lc := rfl
@[simp] theorem State.setMsp_bist (k : Nat) (v : Msp) (s : State) : (s.setMsp k v).bist = s.bist := rfl
@[simp] theorem State.setMsp_boot (k : Nat) (v : Msp) (s : State) : (s.setMsp k v).boot = s.boot := rfl
@[simp] theorem State.setMsp_hot (k : Nat) (v : Msp) (s : State) : (s.setMsp k v).hot = s.hot := rfl

/-! ## The shared operations -/

@[refl] theorem Books.refl (s : State) : Books s s := rfl

theorem Books.trans {s t u : State} (h : Books s t) (k : Books t u) : Books s u :=
  Eq.trans k (congrArg (fun x : State => { x with
    out := u.out, evt := u.evt, cnt := u.cnt, stamps := u.stamps, notes := u.notes, role := u.role, cmd := u.cmd, spi := u.spi
    hot := { x.hot with held := u.hot.held } }) h)

theorem Books.eq {s t : State} (h : Books s t) :
    t = { s with
      out := t.out, evt := t.evt, cnt := t.cnt, stamps := t.stamps, notes := t.notes, role := t.role, cmd := t.cmd, spi := t.spi
      hot := { s.hot with held := t.hot.held } } := h

theorem Books.pending {s t : State} (h : Books s t) : t.pending = s.pending := (congrArg State.pending h.eq :)
theorem Books.freeCtr {s t : State} (h : Books s t) : t.freeCtr = s.freeCtr := (congrArg State.freeCtr h.eq :)
theorem Books.clk {s t : State} (h : Books s t) : t.clk = s.clk := (congrArg State.clk h.eq :)
theorem Books.latchPcie {s t : State} (h : Books s t) : t.latchPcie = s.latchPcie := (congrArg State.latchPcie h.eq :)
theorem Books.latchSpi {s t : State} (h : Books s t) : t.latchSpi = s.latchSpi := (congrArg State.latchSpi h.eq :)
theorem Books.latchBar4 {s t : State} (h : Books s t) : t.latchBar4 = s.latchBar4 := (congrArg State.latchBar4 h.eq :)
theorem Books.dev {s t : State} (h : Books s t) : t.dev = s.dev := (congrArg State.dev h.eq :)
theorem Books.rings {s t : State} (h : Books s t) : t.rings = s.rings := (congrArg State.rings h.eq :)
theorem Books.fatal {s t : State} (h : Books s t) : t.fatal = s.fatal := (congrArg State.fatal h.eq :)
theorem Books.bw {s t : State} (h : Books s t) : t.bw = s.bw := (congrArg State.bw h.eq :)
theorem Books.insts {s t : State} (h : Books s t) : t.insts = s.insts := (congrArg State.insts h.eq :)
theorem Books.allocs {s t : State} (h : Books s t) : t.allocs = s.allocs := (congrArg State.allocs h.eq :)
theorem Books.maps {s t : State} (h : Books s t) : t.maps = s.maps := (congrArg State.maps h.eq :)
theorem Books.lig {s t : State} (h : Books s t) : t.lig = s.lig := (congrArg State.lig h.eq :)
theorem Books.queues {s t : State} (h : Books s t) : t.queues = s.queues := (congrArg State.queues h.eq :)
theorem Books.rrLast {s t : State} (h : Books s t) : t.rrLast = s.rrLast := (congrArg State.rrLast h.eq :)
theorem Books.shapers {s t : State} (h : Books s t) : t.shapers = s.shapers := (congrArg State.shapers h.eq :)
theorem Books.policers {s t : State} (h : Books s t) : t.policers = s.policers := (congrArg State.policers h.eq :)
theorem Books.gates {s t : State} (h : Books s t) : t.gates = s.gates := (congrArg State.gates h.eq :)
theorem Books.qSel {s t : State} (h : Books s t) : t.qSel = s.qSel := (congrArg State.qSel h.eq :)
theorem Books.shSel {s t : State} (h : Books s t) : t.shSel = s.shSel := (congrArg State.shSel h.eq :)
theorem Books.workers {s t : State} (h : Books s t) : t.workers = s.workers := (congrArg State.workers h.eq :)
theorem Books.tbl {s t : State} (h : Books s t) : t.tbl = s.tbl := (congrArg State.tbl h.eq :)
theorem Books.cls {s t : State} (h : Books s t) : t.cls = s.cls := (congrArg State.cls h.eq :)
theorem Books.laneTable {s t : State} (h : Books s t) : t.laneTable = s.laneTable := (congrArg State.laneTable h.eq :)
theorem Books.lanes {s t : State} (h : Books s t) : t.lanes = s.lanes := (congrArg State.lanes h.eq :)
theorem Books.macs {s t : State} (h : Books s t) : t.macs = s.macs := (congrArg State.macs h.eq :)
theorem Books.helloAt {s t : State} (h : Books s t) : t.helloAt = s.helloAt := (congrArg State.helloAt h.eq :)
theorem Books.rateLow {s t : State} (h : Books s t) : t.rateLow = s.rateLow := (congrArg State.rateLow h.eq :)
theorem Books.tribs {s t : State} (h : Books s t) : t.tribs = s.tribs := (congrArg State.tribs h.eq :)
theorem Books.tpaths {s t : State} (h : Books s t) : t.tpaths = s.tpaths := (congrArg State.tpaths h.eq :)
theorem Books.vcats {s t : State} (h : Books s t) : t.vcats = s.vcats := (congrArg State.vcats h.eq :)
theorem Books.circs {s t : State} (h : Books s t) : t.circs = s.circs := (congrArg State.circs h.eq :)
theorem Books.msps {s t : State} (h : Books s t) : t.msps = s.msps := (congrArg State.msps h.eq :)
theorem Books.pms {s t : State} (h : Books s t) : t.pms = s.pms := (congrArg State.pms h.eq :)
theorem Books.pmSec {s t : State} (h : Books s t) : t.pmSec = s.pmSec := (congrArg State.pmSec h.eq :)
theorem Books.binSec {s t : State} (h : Books s t) : t.binSec = s.binSec := (congrArg State.binSec h.eq :)
theorem Books.tribPathSel {s t : State} (h : Books s t) : t.tribPathSel = s.tribPathSel := (congrArg State.tribPathSel h.eq :)
theorem Books.tb {s t : State} (h : Books s t) : t.tb = s.tb := (congrArg State.tb h.eq :)
theorem Books.time {s t : State} (h : Books s t) : t.time = s.time := (congrArg State.time h.eq :)
theorem Books.outputs {s t : State} (h : Books s t) : t.outputs = s.outputs := (congrArg State.outputs h.eq :)
theorem Books.captures {s t : State} (h : Books s t) : t.captures = s.captures := (congrArg State.captures h.eq :)
theorem Books.ptp {s t : State} (h : Books s t) : t.ptp = s.ptp := (congrArg State.ptp h.eq :)
theorem Books.tod {s t : State} (h : Books s t) : t.tod = s.tod := (congrArg State.tod h.eq :)
theorem Books.egressFree {s t : State} (h : Books s t) : t.egressFree = s.egressFree := (congrArg State.egressFree h.eq :)
theorem Books.cipher {s t : State} (h : Books s t) : t.cipher = s.cipher := (congrArg State.cipher h.eq :)
theorem Books.mem {s t : State} (h : Books s t) : t.mem = s.mem := (congrArg State.mem h.eq :)
theorem Books.waitUp {s t : State} (h : Books s t) : t.waitUp = s.waitUp := (congrArg State.waitUp h.eq :)
theorem Books.waitDown {s t : State} (h : Books s t) : t.waitDown = s.waitDown := (congrArg State.waitDown h.eq :)
theorem Books.pair {s t : State} (h : Books s t) : t.pair = s.pair := (congrArg State.pair h.eq :)
theorem Books.pwr {s t : State} (h : Books s t) : t.pwr = s.pwr := (congrArg State.pwr h.eq :)
theorem Books.tempC {s t : State} (h : Books s t) : t.tempC = s.tempC := (congrArg State.tempC h.eq :)
theorem Books.hotPs {s t : State} (h : Books s t) : t.hotPs = s.hotPs := (congrArg State.hotPs h.eq :)
theorem Books.fuse {s t : State} (h : Books s t) : t.fuse = s.fuse := (congrArg State.fuse h.eq :)
theorem Books.lc {s t : State} (h : Books s t) : t.lc = s.lc := (congrArg State.lc h.eq :)
theorem Books.bist {s t : State} (h : Books s t) : t.bist = s.bist := (congrArg State.bist h.eq :)
theorem Books.jtag {s t : State} (h : Books s t) : t.jtag = s.jtag := (congrArg State.jtag h.eq :)
theorem Books.boot {s t : State} (h : Books s t) : t.boot = s.boot := (congrArg State.boot h.eq :)
theorem Books.hot_powered {s t : State} (h : Books s t) : t.hot.powered = s.hot.powered := (congrArg (fun x => x.hot.powered) h.eq :)
theorem Books.hot_recognised {s t : State} (h : Books s t) : t.hot.recognised = s.hot.recognised := (congrArg (fun x => x.hot.recognised) h.eq :)
theorem Books.hot_quiesced {s t : State} (h : Books s t) : t.hot.quiesced = s.hot.quiesced := (congrArg (fun x => x.hot.quiesced) h.eq :)
theorem Books.hot_lastTrip {s t : State} (h : Books s t) : t.hot.lastTrip = s.hot.lastTrip := (congrArg (fun x => x.hot.lastTrip) h.eq :)
theorem Books.hot_trips {s t : State} (h : Books s t) : t.hot.trips = s.hot.trips := (congrArg (fun x => x.hot.trips) h.eq :)
theorem Books.hot_atPs {s t : State} (h : Books s t) : t.hot.atPs = s.hot.atPs := (congrArg (fun x => x.hot.atPs) h.eq :)

theorem emit_books (o : Out) (s : State) : Books s (emit o s) := rfl

theorem markStarted_books (c : Cmd) (s : State) : Books s (markStarted c s) := rfl

/-- What reporting and counting can do from s to t: nothing beside what goes out, records, counters and their notes, the worker's link to its
manager, and what waits there in quiesce. -/
def Noted (s t : State) : Prop :=
  t = { s with
    out := t.out, evt := t.evt, cnt := t.cnt, stamps := t.stamps, notes := t.notes, role := t.role, hot := { s.hot with held := t.hot.held } }

@[refl] theorem Noted.refl (s : State) : Noted s s := rfl

theorem Noted.trans {s t u : State} (h : Noted s t) (k : Noted t u) : Noted s u :=
  Eq.trans k (congrArg (fun x : State => { x with
    out := u.out, evt := u.evt, cnt := u.cnt, stamps := u.stamps, notes := u.notes, role := u.role, hot := { x.hot with held := u.hot.held } }) h)

theorem Noted.eq {s t : State} (h : Noted s t) : t = { s with
    out := t.out, evt := t.evt, cnt := t.cnt, stamps := t.stamps, notes := t.notes, role := t.role, hot := { s.hot with held := t.hot.held } } := h

theorem Noted.cmd {s t : State} (h : Noted s t) : t.cmd = s.cmd := (congrArg State.cmd h.eq :)

theorem Noted.books {s t : State} (h : Noted s t) : Books s t := by
  have e := h.eq
  generalize t.out = a, t.evt = b, t.cnt = c, t.stamps = d, t.notes = f, t.role = g, t.hot.held = k at e
  subst e
  exact rfl

theorem emit_noted (o : Out) (s : State) : Noted s (emit o s) := rfl

theorem hwSet_noted (a b : Nat) (s : State) : Noted s (hwSet a b s) := rfl

theorem noteRc_noted (k b n : Nat) (s : State) : Noted s (noteRc k b n s) := rfl

theorem setCause_noted (b : Nat) (s : State) : Noted s (setCause b s) := by
  unfold setCause
  dsimp only
  split
  · exact hwSet_noted _ _ s
  · split <;> exact rfl

/-- What putting something out on a lane can do: it goes out, or stays with the lane in quiesce (20 R443). -/
theorem putLane_noted (n : Nat) (x : Out) (s : State) : Noted s (putLane n x s) := by
  unfold putLane
  split
  · split
    · split <;> exact rfl
    · exact emit_noted _ s
  · exact Noted.refl s

theorem sendUp_noted (c : Carried) (s : State) : Noted s (sendUp c s).2 := by
  unfold sendUp
  split
  · exact rfl
  · refine Noted.trans ?_ (putLane_noted _ _ _)
    exact rfl

theorem copyEvent_noted (r : Rec) (s : State) : Noted s (copyEvent r s) := by
  unfold copyEvent
  split
  · exact Noted.refl s
  · exact sendUp_noted _ _

theorem enterEvent_noted (r : Rec) (s : State) : Noted s (enterEvent r s) := by
  unfold enterEvent
  dsimp only
  split
  · refine Noted.trans (Noted.trans ?_ (copyEvent_noted _ _)) (emit_noted _ _)
    exact rfl
  · refine Noted.trans ?_ (copyEvent_noted _ _)
    exact rfl

theorem turnAway_noted (r : Rec) (s : State) : Noted s (turnAway r s) := rfl

theorem pushEvent_noted (e : Ev) (k i d : Nat) (s : State) : Noted s (pushEvent e k i d s) := by
  unfold pushEvent
  dsimp only
  split
  · exact enterEvent_noted _ _
  · exact turnAway_noted _ _

theorem raiseOvf_noted (k : Nat) (s : State) : Noted s (raiseOvf k s) := by
  unfold raiseOvf
  dsimp only
  split
  · refine Noted.trans (Noted.trans ?_ (pushEvent_noted _ _ _ _ _)) (pushEvent_noted _ _ _ _ _)
    exact rfl
  · refine Noted.trans ?_ (pushEvent_noted _ _ _ _ _)
    exact rfl

theorem addCounter_noted (k n : Nat) (s : State) : Noted s (addCounter k n s) := by
  have note (x : Bool) (f : Cnt) : Noted s { noteRc (incrementNotes + k) 0 n (if x then hwSet ovfStamps (ovfIndex k s.cnt) s else s) with cnt := f } := by
    cases x <;> exact rfl
  unfold addCounter
  dsimp only
  split
  · exact (note _ _).trans (raiseOvf_noted _ _)
  · exact note _ _

theorem count_noted (c : Ctr) (n : Nat) (s : State) : Noted s (count c n s) := addCounter_noted _ _ _

theorem countN_noted (c : Ctr) (j n : Nat) (s : State) : Noted s (countN c j n s) := addCounter_noted _ _ _

theorem raise_noted (e : Ev) (k i d : Nat) (s : State) : Noted s (raise e k i d s) :=
  (addCounter_noted _ _ _).trans (pushEvent_noted _ _ _ _ _)

theorem pushError_noted (e : ErrCode) (k i d : Nat) (s : State) : Noted s (pushError e k i d s) := by
  unfold pushError turnErrorAway
  dsimp only
  split
  · split <;> exact rfl
  · refine Noted.trans ?_ (count_noted _ _ _)
    exact rfl

theorem hwSet_books (a b : Nat) (s : State) : Books s (hwSet a b s) := (hwSet_noted a b s).books
theorem noteRc_books (k b n : Nat) (s : State) : Books s (noteRc k b n s) := (noteRc_noted k b n s).books
theorem setCause_books (b : Nat) (s : State) : Books s (setCause b s) := (setCause_noted b s).books
theorem putLane_books (n : Nat) (x : Out) (s : State) : Books s (putLane n x s) := (putLane_noted n x s).books
theorem copyEvent_books (r : Rec) (s : State) : Books s (copyEvent r s) := (copyEvent_noted r s).books
theorem pushEvent_books (e : Ev) (k i d : Nat) (s : State) : Books s (pushEvent e k i d s) := (pushEvent_noted e k i d s).books
theorem raiseOvf_books (k : Nat) (s : State) : Books s (raiseOvf k s) := (raiseOvf_noted k s).books
theorem addCounter_books (k n : Nat) (s : State) : Books s (addCounter k n s) := (addCounter_noted k n s).books
theorem count_books (c : Ctr) (n : Nat) (s : State) : Books s (count c n s) := (count_noted c n s).books
theorem countN_books (c : Ctr) (j n : Nat) (s : State) : Books s (countN c j n s) := (countN_noted c j n s).books
theorem raise_books (e : Ev) (k i d : Nat) (s : State) : Books s (raise e k i d s) := (raise_noted e k i d s).books
theorem pushError_books (e : ErrCode) (k i d : Nat) (s : State) : Books s (pushError e k i d s) := (pushError_noted e k i d s).books
theorem sendUp_books (c : Carried) (s : State) : Books s (sendUp c s).2 := (sendUp_noted c s).books

@[simp] theorem hwSet_cmd (a b : Nat) (s : State) : (hwSet a b s).cmd = s.cmd := (hwSet_noted a b s).cmd
@[simp] theorem noteRc_cmd (k b n : Nat) (s : State) : (noteRc k b n s).cmd = s.cmd := (noteRc_noted k b n s).cmd
@[simp] theorem setCause_cmd (b : Nat) (s : State) : (setCause b s).cmd = s.cmd := (setCause_noted b s).cmd
@[simp] theorem putLane_cmd (n : Nat) (x : Out) (s : State) : (putLane n x s).cmd = s.cmd := (putLane_noted n x s).cmd
@[simp] theorem copyEvent_cmd (r : Rec) (s : State) : (copyEvent r s).cmd = s.cmd := (copyEvent_noted r s).cmd
@[simp] theorem pushEvent_cmd (e : Ev) (k i d : Nat) (s : State) : (pushEvent e k i d s).cmd = s.cmd := (pushEvent_noted e k i d s).cmd
@[simp] theorem raiseOvf_cmd (k : Nat) (s : State) : (raiseOvf k s).cmd = s.cmd := (raiseOvf_noted k s).cmd
@[simp] theorem addCounter_cmd (k n : Nat) (s : State) : (addCounter k n s).cmd = s.cmd := (addCounter_noted k n s).cmd
@[simp] theorem count_cmd (c : Ctr) (n : Nat) (s : State) : (count c n s).cmd = s.cmd := (count_noted c n s).cmd
@[simp] theorem countN_cmd (c : Ctr) (j n : Nat) (s : State) : (countN c j n s).cmd = s.cmd := (countN_noted c j n s).cmd
@[simp] theorem raise_cmd (e : Ev) (k i d : Nat) (s : State) : (raise e k i d s).cmd = s.cmd := (raise_noted e k i d s).cmd
@[simp] theorem pushError_cmd (e : ErrCode) (k i d : Nat) (s : State) : (pushError e k i d s).cmd = s.cmd := (pushError_noted e k i d s).cmd

theorem deliverReply_books (r : Reply) (s : State) : Books s (deliverReply r s) := by
  unfold deliverReply
  split
  · dsimp only
    split
    · refine Books.trans ?_ (count_books _ _ _)
      exact rfl
    · exact rfl
  · dsimp only
    split
    · refine Books.trans ?_ (setCause_books _ _)
      exact rfl
    · exact rfl
  · split
    · exact sendUp_books _ _
    · exact Books.refl s
  · exact Books.refl s

theorem replyTo_books (c : Cmd) (st : Status) (l : Bool) (d : Nat) (p : Bytes) (s : State) : Books s (replyTo c st l d p s) := by
  unfold replyTo
  dsimp only
  split
  · exact Books.refl s
  · exact deliverReply_books _ _

theorem completeNop_books (c : Cmd) (s : State) : Books s (completeNop c s) := by
  unfold completeNop
  refine Books.trans ?_ (replyTo_books _ _ _ _ _ _)
  exact rfl

theorem foldl_books {α : Type} (f : State → α → State) (hf : ∀ s a, Books s (f s a)) (l : List α) : ∀ s, Books s (l.foldl f s) := by
  induction l with
  | nil => intro s; exact Books.refl s
  | cons a l ih => intro s; exact (hf s a).trans (ih _)

theorem sweepNops_books (s : State) : Books s (sweepNops s) := by
  unfold sweepNops
  refine foldl_books _ (fun s c => ?_) _ s
  split
  · exact Books.refl s
  · exact completeNop_books c s

/-- What completing a command can do beside its reply: nothing outside the books (02 R49). -/
theorem complete_books (c : Cmd) (st : Status) (d : Nat) (p : Bytes) (s : State) : Books s (complete c st d p s) := by
  unfold complete
  dsimp only
  refine Books.trans (Books.trans ?_ (replyTo_books _ _ _ _ _ _)) (sweepNops_books _)
  exact rfl

@[simp] theorem setCause_pending (b : Nat) (s : State) : (setCause b s).pending = s.pending := (setCause_books _ _).pending
@[simp] theorem setCause_freeCtr (b : Nat) (s : State) : (setCause b s).freeCtr = s.freeCtr := (setCause_books _ _).freeCtr
@[simp] theorem setCause_clk (b : Nat) (s : State) : (setCause b s).clk = s.clk := (setCause_books _ _).clk
@[simp] theorem setCause_latchPcie (b : Nat) (s : State) : (setCause b s).latchPcie = s.latchPcie := (setCause_books _ _).latchPcie
@[simp] theorem setCause_latchSpi (b : Nat) (s : State) : (setCause b s).latchSpi = s.latchSpi := (setCause_books _ _).latchSpi
@[simp] theorem setCause_latchBar4 (b : Nat) (s : State) : (setCause b s).latchBar4 = s.latchBar4 := (setCause_books _ _).latchBar4
@[simp] theorem setCause_dev (b : Nat) (s : State) : (setCause b s).dev = s.dev := (setCause_books _ _).dev
@[simp] theorem setCause_rings (b : Nat) (s : State) : (setCause b s).rings = s.rings := (setCause_books _ _).rings
@[simp] theorem setCause_fatal (b : Nat) (s : State) : (setCause b s).fatal = s.fatal := (setCause_books _ _).fatal
@[simp] theorem setCause_bw (b : Nat) (s : State) : (setCause b s).bw = s.bw := (setCause_books _ _).bw
@[simp] theorem setCause_insts (b : Nat) (s : State) : (setCause b s).insts = s.insts := (setCause_books _ _).insts
@[simp] theorem setCause_allocs (b : Nat) (s : State) : (setCause b s).allocs = s.allocs := (setCause_books _ _).allocs
@[simp] theorem setCause_maps (b : Nat) (s : State) : (setCause b s).maps = s.maps := (setCause_books _ _).maps
@[simp] theorem setCause_lig (b : Nat) (s : State) : (setCause b s).lig = s.lig := (setCause_books _ _).lig
@[simp] theorem setCause_queues (b : Nat) (s : State) : (setCause b s).queues = s.queues := (setCause_books _ _).queues
@[simp] theorem setCause_rrLast (b : Nat) (s : State) : (setCause b s).rrLast = s.rrLast := (setCause_books _ _).rrLast
@[simp] theorem setCause_shapers (b : Nat) (s : State) : (setCause b s).shapers = s.shapers := (setCause_books _ _).shapers
@[simp] theorem setCause_policers (b : Nat) (s : State) : (setCause b s).policers = s.policers := (setCause_books _ _).policers
@[simp] theorem setCause_gates (b : Nat) (s : State) : (setCause b s).gates = s.gates := (setCause_books _ _).gates
@[simp] theorem setCause_qSel (b : Nat) (s : State) : (setCause b s).qSel = s.qSel := (setCause_books _ _).qSel
@[simp] theorem setCause_shSel (b : Nat) (s : State) : (setCause b s).shSel = s.shSel := (setCause_books _ _).shSel
@[simp] theorem setCause_workers (b : Nat) (s : State) : (setCause b s).workers = s.workers := (setCause_books _ _).workers
@[simp] theorem setCause_tbl (b : Nat) (s : State) : (setCause b s).tbl = s.tbl := (setCause_books _ _).tbl
@[simp] theorem setCause_cls (b : Nat) (s : State) : (setCause b s).cls = s.cls := (setCause_books _ _).cls
@[simp] theorem setCause_laneTable (b : Nat) (s : State) : (setCause b s).laneTable = s.laneTable := (setCause_books _ _).laneTable
@[simp] theorem setCause_lanes (b : Nat) (s : State) : (setCause b s).lanes = s.lanes := (setCause_books _ _).lanes
@[simp] theorem setCause_macs (b : Nat) (s : State) : (setCause b s).macs = s.macs := (setCause_books _ _).macs
@[simp] theorem setCause_helloAt (b : Nat) (s : State) : (setCause b s).helloAt = s.helloAt := (setCause_books _ _).helloAt
@[simp] theorem setCause_rateLow (b : Nat) (s : State) : (setCause b s).rateLow = s.rateLow := (setCause_books _ _).rateLow
@[simp] theorem setCause_tribs (b : Nat) (s : State) : (setCause b s).tribs = s.tribs := (setCause_books _ _).tribs
@[simp] theorem setCause_tpaths (b : Nat) (s : State) : (setCause b s).tpaths = s.tpaths := (setCause_books _ _).tpaths
@[simp] theorem setCause_vcats (b : Nat) (s : State) : (setCause b s).vcats = s.vcats := (setCause_books _ _).vcats
@[simp] theorem setCause_circs (b : Nat) (s : State) : (setCause b s).circs = s.circs := (setCause_books _ _).circs
@[simp] theorem setCause_msps (b : Nat) (s : State) : (setCause b s).msps = s.msps := (setCause_books _ _).msps
@[simp] theorem setCause_pms (b : Nat) (s : State) : (setCause b s).pms = s.pms := (setCause_books _ _).pms
@[simp] theorem setCause_pmSec (b : Nat) (s : State) : (setCause b s).pmSec = s.pmSec := (setCause_books _ _).pmSec
@[simp] theorem setCause_binSec (b : Nat) (s : State) : (setCause b s).binSec = s.binSec := (setCause_books _ _).binSec
@[simp] theorem setCause_tribPathSel (b : Nat) (s : State) : (setCause b s).tribPathSel = s.tribPathSel := (setCause_books _ _).tribPathSel
@[simp] theorem setCause_tb (b : Nat) (s : State) : (setCause b s).tb = s.tb := (setCause_books _ _).tb
@[simp] theorem setCause_time (b : Nat) (s : State) : (setCause b s).time = s.time := (setCause_books _ _).time
@[simp] theorem setCause_outputs (b : Nat) (s : State) : (setCause b s).outputs = s.outputs := (setCause_books _ _).outputs
@[simp] theorem setCause_captures (b : Nat) (s : State) : (setCause b s).captures = s.captures := (setCause_books _ _).captures
@[simp] theorem setCause_ptp (b : Nat) (s : State) : (setCause b s).ptp = s.ptp := (setCause_books _ _).ptp
@[simp] theorem setCause_tod (b : Nat) (s : State) : (setCause b s).tod = s.tod := (setCause_books _ _).tod
@[simp] theorem setCause_egressFree (b : Nat) (s : State) : (setCause b s).egressFree = s.egressFree := (setCause_books _ _).egressFree
@[simp] theorem setCause_cipher (b : Nat) (s : State) : (setCause b s).cipher = s.cipher := (setCause_books _ _).cipher
@[simp] theorem setCause_mem (b : Nat) (s : State) : (setCause b s).mem = s.mem := (setCause_books _ _).mem
@[simp] theorem setCause_waitUp (b : Nat) (s : State) : (setCause b s).waitUp = s.waitUp := (setCause_books _ _).waitUp
@[simp] theorem setCause_waitDown (b : Nat) (s : State) : (setCause b s).waitDown = s.waitDown := (setCause_books _ _).waitDown
@[simp] theorem setCause_pair (b : Nat) (s : State) : (setCause b s).pair = s.pair := (setCause_books _ _).pair
@[simp] theorem setCause_pwr (b : Nat) (s : State) : (setCause b s).pwr = s.pwr := (setCause_books _ _).pwr
@[simp] theorem setCause_tempC (b : Nat) (s : State) : (setCause b s).tempC = s.tempC := (setCause_books _ _).tempC
@[simp] theorem setCause_hotPs (b : Nat) (s : State) : (setCause b s).hotPs = s.hotPs := (setCause_books _ _).hotPs
@[simp] theorem setCause_fuse (b : Nat) (s : State) : (setCause b s).fuse = s.fuse := (setCause_books _ _).fuse
@[simp] theorem setCause_lc (b : Nat) (s : State) : (setCause b s).lc = s.lc := (setCause_books _ _).lc
@[simp] theorem setCause_bist (b : Nat) (s : State) : (setCause b s).bist = s.bist := (setCause_books _ _).bist
@[simp] theorem setCause_jtag (b : Nat) (s : State) : (setCause b s).jtag = s.jtag := (setCause_books _ _).jtag
@[simp] theorem setCause_boot (b : Nat) (s : State) : (setCause b s).boot = s.boot := (setCause_books _ _).boot

@[simp] theorem count_pending (c : Ctr) (n : Nat) (s : State) : (count c n s).pending = s.pending := (count_books _ _ _).pending
@[simp] theorem count_freeCtr (c : Ctr) (n : Nat) (s : State) : (count c n s).freeCtr = s.freeCtr := (count_books _ _ _).freeCtr
@[simp] theorem count_clk (c : Ctr) (n : Nat) (s : State) : (count c n s).clk = s.clk := (count_books _ _ _).clk
@[simp] theorem count_latchPcie (c : Ctr) (n : Nat) (s : State) : (count c n s).latchPcie = s.latchPcie := (count_books _ _ _).latchPcie
@[simp] theorem count_latchSpi (c : Ctr) (n : Nat) (s : State) : (count c n s).latchSpi = s.latchSpi := (count_books _ _ _).latchSpi
@[simp] theorem count_latchBar4 (c : Ctr) (n : Nat) (s : State) : (count c n s).latchBar4 = s.latchBar4 := (count_books _ _ _).latchBar4
@[simp] theorem count_dev (c : Ctr) (n : Nat) (s : State) : (count c n s).dev = s.dev := (count_books _ _ _).dev
@[simp] theorem count_rings (c : Ctr) (n : Nat) (s : State) : (count c n s).rings = s.rings := (count_books _ _ _).rings
@[simp] theorem count_fatal (c : Ctr) (n : Nat) (s : State) : (count c n s).fatal = s.fatal := (count_books _ _ _).fatal
@[simp] theorem count_bw (c : Ctr) (n : Nat) (s : State) : (count c n s).bw = s.bw := (count_books _ _ _).bw
@[simp] theorem count_insts (c : Ctr) (n : Nat) (s : State) : (count c n s).insts = s.insts := (count_books _ _ _).insts
@[simp] theorem count_allocs (c : Ctr) (n : Nat) (s : State) : (count c n s).allocs = s.allocs := (count_books _ _ _).allocs
@[simp] theorem count_maps (c : Ctr) (n : Nat) (s : State) : (count c n s).maps = s.maps := (count_books _ _ _).maps
@[simp] theorem count_lig (c : Ctr) (n : Nat) (s : State) : (count c n s).lig = s.lig := (count_books _ _ _).lig
@[simp] theorem count_queues (c : Ctr) (n : Nat) (s : State) : (count c n s).queues = s.queues := (count_books _ _ _).queues
@[simp] theorem count_rrLast (c : Ctr) (n : Nat) (s : State) : (count c n s).rrLast = s.rrLast := (count_books _ _ _).rrLast
@[simp] theorem count_shapers (c : Ctr) (n : Nat) (s : State) : (count c n s).shapers = s.shapers := (count_books _ _ _).shapers
@[simp] theorem count_policers (c : Ctr) (n : Nat) (s : State) : (count c n s).policers = s.policers := (count_books _ _ _).policers
@[simp] theorem count_gates (c : Ctr) (n : Nat) (s : State) : (count c n s).gates = s.gates := (count_books _ _ _).gates
@[simp] theorem count_qSel (c : Ctr) (n : Nat) (s : State) : (count c n s).qSel = s.qSel := (count_books _ _ _).qSel
@[simp] theorem count_shSel (c : Ctr) (n : Nat) (s : State) : (count c n s).shSel = s.shSel := (count_books _ _ _).shSel
@[simp] theorem count_workers (c : Ctr) (n : Nat) (s : State) : (count c n s).workers = s.workers := (count_books _ _ _).workers
@[simp] theorem count_tbl (c : Ctr) (n : Nat) (s : State) : (count c n s).tbl = s.tbl := (count_books _ _ _).tbl
@[simp] theorem count_cls (c : Ctr) (n : Nat) (s : State) : (count c n s).cls = s.cls := (count_books _ _ _).cls
@[simp] theorem count_laneTable (c : Ctr) (n : Nat) (s : State) : (count c n s).laneTable = s.laneTable := (count_books _ _ _).laneTable
@[simp] theorem count_lanes (c : Ctr) (n : Nat) (s : State) : (count c n s).lanes = s.lanes := (count_books _ _ _).lanes
@[simp] theorem count_macs (c : Ctr) (n : Nat) (s : State) : (count c n s).macs = s.macs := (count_books _ _ _).macs
@[simp] theorem count_helloAt (c : Ctr) (n : Nat) (s : State) : (count c n s).helloAt = s.helloAt := (count_books _ _ _).helloAt
@[simp] theorem count_rateLow (c : Ctr) (n : Nat) (s : State) : (count c n s).rateLow = s.rateLow := (count_books _ _ _).rateLow
@[simp] theorem count_tribs (c : Ctr) (n : Nat) (s : State) : (count c n s).tribs = s.tribs := (count_books _ _ _).tribs
@[simp] theorem count_tpaths (c : Ctr) (n : Nat) (s : State) : (count c n s).tpaths = s.tpaths := (count_books _ _ _).tpaths
@[simp] theorem count_vcats (c : Ctr) (n : Nat) (s : State) : (count c n s).vcats = s.vcats := (count_books _ _ _).vcats
@[simp] theorem count_circs (c : Ctr) (n : Nat) (s : State) : (count c n s).circs = s.circs := (count_books _ _ _).circs
@[simp] theorem count_msps (c : Ctr) (n : Nat) (s : State) : (count c n s).msps = s.msps := (count_books _ _ _).msps
@[simp] theorem count_pms (c : Ctr) (n : Nat) (s : State) : (count c n s).pms = s.pms := (count_books _ _ _).pms
@[simp] theorem count_pmSec (c : Ctr) (n : Nat) (s : State) : (count c n s).pmSec = s.pmSec := (count_books _ _ _).pmSec
@[simp] theorem count_binSec (c : Ctr) (n : Nat) (s : State) : (count c n s).binSec = s.binSec := (count_books _ _ _).binSec
@[simp] theorem count_tribPathSel (c : Ctr) (n : Nat) (s : State) : (count c n s).tribPathSel = s.tribPathSel := (count_books _ _ _).tribPathSel
@[simp] theorem count_tb (c : Ctr) (n : Nat) (s : State) : (count c n s).tb = s.tb := (count_books _ _ _).tb
@[simp] theorem count_time (c : Ctr) (n : Nat) (s : State) : (count c n s).time = s.time := (count_books _ _ _).time
@[simp] theorem count_outputs (c : Ctr) (n : Nat) (s : State) : (count c n s).outputs = s.outputs := (count_books _ _ _).outputs
@[simp] theorem count_captures (c : Ctr) (n : Nat) (s : State) : (count c n s).captures = s.captures := (count_books _ _ _).captures
@[simp] theorem count_ptp (c : Ctr) (n : Nat) (s : State) : (count c n s).ptp = s.ptp := (count_books _ _ _).ptp
@[simp] theorem count_tod (c : Ctr) (n : Nat) (s : State) : (count c n s).tod = s.tod := (count_books _ _ _).tod
@[simp] theorem count_egressFree (c : Ctr) (n : Nat) (s : State) : (count c n s).egressFree = s.egressFree := (count_books _ _ _).egressFree
@[simp] theorem count_cipher (c : Ctr) (n : Nat) (s : State) : (count c n s).cipher = s.cipher := (count_books _ _ _).cipher
@[simp] theorem count_mem (c : Ctr) (n : Nat) (s : State) : (count c n s).mem = s.mem := (count_books _ _ _).mem
@[simp] theorem count_waitUp (c : Ctr) (n : Nat) (s : State) : (count c n s).waitUp = s.waitUp := (count_books _ _ _).waitUp
@[simp] theorem count_waitDown (c : Ctr) (n : Nat) (s : State) : (count c n s).waitDown = s.waitDown := (count_books _ _ _).waitDown
@[simp] theorem count_pair (c : Ctr) (n : Nat) (s : State) : (count c n s).pair = s.pair := (count_books _ _ _).pair
@[simp] theorem count_pwr (c : Ctr) (n : Nat) (s : State) : (count c n s).pwr = s.pwr := (count_books _ _ _).pwr
@[simp] theorem count_tempC (c : Ctr) (n : Nat) (s : State) : (count c n s).tempC = s.tempC := (count_books _ _ _).tempC
@[simp] theorem count_hotPs (c : Ctr) (n : Nat) (s : State) : (count c n s).hotPs = s.hotPs := (count_books _ _ _).hotPs
@[simp] theorem count_fuse (c : Ctr) (n : Nat) (s : State) : (count c n s).fuse = s.fuse := (count_books _ _ _).fuse
@[simp] theorem count_lc (c : Ctr) (n : Nat) (s : State) : (count c n s).lc = s.lc := (count_books _ _ _).lc
@[simp] theorem count_bist (c : Ctr) (n : Nat) (s : State) : (count c n s).bist = s.bist := (count_books _ _ _).bist
@[simp] theorem count_jtag (c : Ctr) (n : Nat) (s : State) : (count c n s).jtag = s.jtag := (count_books _ _ _).jtag
@[simp] theorem count_boot (c : Ctr) (n : Nat) (s : State) : (count c n s).boot = s.boot := (count_books _ _ _).boot

@[simp] theorem countN_pending (c : Ctr) (j n : Nat) (s : State) : (countN c j n s).pending = s.pending := (countN_books _ _ _ _).pending
@[simp] theorem countN_freeCtr (c : Ctr) (j n : Nat) (s : State) : (countN c j n s).freeCtr = s.freeCtr := (countN_books _ _ _ _).freeCtr
@[simp] theorem countN_clk (c : Ctr) (j n : Nat) (s : State) : (countN c j n s).clk = s.clk := (countN_books _ _ _ _).clk
@[simp] theorem countN_latchPcie (c : Ctr) (j n : Nat) (s : State) : (countN c j n s).latchPcie = s.latchPcie := (countN_books _ _ _ _).latchPcie
@[simp] theorem countN_latchSpi (c : Ctr) (j n : Nat) (s : State) : (countN c j n s).latchSpi = s.latchSpi := (countN_books _ _ _ _).latchSpi
@[simp] theorem countN_latchBar4 (c : Ctr) (j n : Nat) (s : State) : (countN c j n s).latchBar4 = s.latchBar4 := (countN_books _ _ _ _).latchBar4
@[simp] theorem countN_dev (c : Ctr) (j n : Nat) (s : State) : (countN c j n s).dev = s.dev := (countN_books _ _ _ _).dev
@[simp] theorem countN_rings (c : Ctr) (j n : Nat) (s : State) : (countN c j n s).rings = s.rings := (countN_books _ _ _ _).rings
@[simp] theorem countN_fatal (c : Ctr) (j n : Nat) (s : State) : (countN c j n s).fatal = s.fatal := (countN_books _ _ _ _).fatal
@[simp] theorem countN_bw (c : Ctr) (j n : Nat) (s : State) : (countN c j n s).bw = s.bw := (countN_books _ _ _ _).bw
@[simp] theorem countN_insts (c : Ctr) (j n : Nat) (s : State) : (countN c j n s).insts = s.insts := (countN_books _ _ _ _).insts
@[simp] theorem countN_allocs (c : Ctr) (j n : Nat) (s : State) : (countN c j n s).allocs = s.allocs := (countN_books _ _ _ _).allocs
@[simp] theorem countN_maps (c : Ctr) (j n : Nat) (s : State) : (countN c j n s).maps = s.maps := (countN_books _ _ _ _).maps
@[simp] theorem countN_lig (c : Ctr) (j n : Nat) (s : State) : (countN c j n s).lig = s.lig := (countN_books _ _ _ _).lig
@[simp] theorem countN_queues (c : Ctr) (j n : Nat) (s : State) : (countN c j n s).queues = s.queues := (countN_books _ _ _ _).queues
@[simp] theorem countN_rrLast (c : Ctr) (j n : Nat) (s : State) : (countN c j n s).rrLast = s.rrLast := (countN_books _ _ _ _).rrLast
@[simp] theorem countN_shapers (c : Ctr) (j n : Nat) (s : State) : (countN c j n s).shapers = s.shapers := (countN_books _ _ _ _).shapers
@[simp] theorem countN_policers (c : Ctr) (j n : Nat) (s : State) : (countN c j n s).policers = s.policers := (countN_books _ _ _ _).policers
@[simp] theorem countN_gates (c : Ctr) (j n : Nat) (s : State) : (countN c j n s).gates = s.gates := (countN_books _ _ _ _).gates
@[simp] theorem countN_qSel (c : Ctr) (j n : Nat) (s : State) : (countN c j n s).qSel = s.qSel := (countN_books _ _ _ _).qSel
@[simp] theorem countN_shSel (c : Ctr) (j n : Nat) (s : State) : (countN c j n s).shSel = s.shSel := (countN_books _ _ _ _).shSel
@[simp] theorem countN_workers (c : Ctr) (j n : Nat) (s : State) : (countN c j n s).workers = s.workers := (countN_books _ _ _ _).workers
@[simp] theorem countN_tbl (c : Ctr) (j n : Nat) (s : State) : (countN c j n s).tbl = s.tbl := (countN_books _ _ _ _).tbl
@[simp] theorem countN_cls (c : Ctr) (j n : Nat) (s : State) : (countN c j n s).cls = s.cls := (countN_books _ _ _ _).cls
@[simp] theorem countN_laneTable (c : Ctr) (j n : Nat) (s : State) : (countN c j n s).laneTable = s.laneTable := (countN_books _ _ _ _).laneTable
@[simp] theorem countN_lanes (c : Ctr) (j n : Nat) (s : State) : (countN c j n s).lanes = s.lanes := (countN_books _ _ _ _).lanes
@[simp] theorem countN_macs (c : Ctr) (j n : Nat) (s : State) : (countN c j n s).macs = s.macs := (countN_books _ _ _ _).macs
@[simp] theorem countN_helloAt (c : Ctr) (j n : Nat) (s : State) : (countN c j n s).helloAt = s.helloAt := (countN_books _ _ _ _).helloAt
@[simp] theorem countN_rateLow (c : Ctr) (j n : Nat) (s : State) : (countN c j n s).rateLow = s.rateLow := (countN_books _ _ _ _).rateLow
@[simp] theorem countN_tribs (c : Ctr) (j n : Nat) (s : State) : (countN c j n s).tribs = s.tribs := (countN_books _ _ _ _).tribs
@[simp] theorem countN_tpaths (c : Ctr) (j n : Nat) (s : State) : (countN c j n s).tpaths = s.tpaths := (countN_books _ _ _ _).tpaths
@[simp] theorem countN_vcats (c : Ctr) (j n : Nat) (s : State) : (countN c j n s).vcats = s.vcats := (countN_books _ _ _ _).vcats
@[simp] theorem countN_circs (c : Ctr) (j n : Nat) (s : State) : (countN c j n s).circs = s.circs := (countN_books _ _ _ _).circs
@[simp] theorem countN_msps (c : Ctr) (j n : Nat) (s : State) : (countN c j n s).msps = s.msps := (countN_books _ _ _ _).msps
@[simp] theorem countN_pms (c : Ctr) (j n : Nat) (s : State) : (countN c j n s).pms = s.pms := (countN_books _ _ _ _).pms
@[simp] theorem countN_pmSec (c : Ctr) (j n : Nat) (s : State) : (countN c j n s).pmSec = s.pmSec := (countN_books _ _ _ _).pmSec
@[simp] theorem countN_binSec (c : Ctr) (j n : Nat) (s : State) : (countN c j n s).binSec = s.binSec := (countN_books _ _ _ _).binSec
@[simp] theorem countN_tribPathSel (c : Ctr) (j n : Nat) (s : State) : (countN c j n s).tribPathSel = s.tribPathSel := (countN_books _ _ _ _).tribPathSel
@[simp] theorem countN_tb (c : Ctr) (j n : Nat) (s : State) : (countN c j n s).tb = s.tb := (countN_books _ _ _ _).tb
@[simp] theorem countN_time (c : Ctr) (j n : Nat) (s : State) : (countN c j n s).time = s.time := (countN_books _ _ _ _).time
@[simp] theorem countN_outputs (c : Ctr) (j n : Nat) (s : State) : (countN c j n s).outputs = s.outputs := (countN_books _ _ _ _).outputs
@[simp] theorem countN_captures (c : Ctr) (j n : Nat) (s : State) : (countN c j n s).captures = s.captures := (countN_books _ _ _ _).captures
@[simp] theorem countN_ptp (c : Ctr) (j n : Nat) (s : State) : (countN c j n s).ptp = s.ptp := (countN_books _ _ _ _).ptp
@[simp] theorem countN_tod (c : Ctr) (j n : Nat) (s : State) : (countN c j n s).tod = s.tod := (countN_books _ _ _ _).tod
@[simp] theorem countN_egressFree (c : Ctr) (j n : Nat) (s : State) : (countN c j n s).egressFree = s.egressFree := (countN_books _ _ _ _).egressFree
@[simp] theorem countN_cipher (c : Ctr) (j n : Nat) (s : State) : (countN c j n s).cipher = s.cipher := (countN_books _ _ _ _).cipher
@[simp] theorem countN_mem (c : Ctr) (j n : Nat) (s : State) : (countN c j n s).mem = s.mem := (countN_books _ _ _ _).mem
@[simp] theorem countN_waitUp (c : Ctr) (j n : Nat) (s : State) : (countN c j n s).waitUp = s.waitUp := (countN_books _ _ _ _).waitUp
@[simp] theorem countN_waitDown (c : Ctr) (j n : Nat) (s : State) : (countN c j n s).waitDown = s.waitDown := (countN_books _ _ _ _).waitDown
@[simp] theorem countN_pair (c : Ctr) (j n : Nat) (s : State) : (countN c j n s).pair = s.pair := (countN_books _ _ _ _).pair
@[simp] theorem countN_pwr (c : Ctr) (j n : Nat) (s : State) : (countN c j n s).pwr = s.pwr := (countN_books _ _ _ _).pwr
@[simp] theorem countN_tempC (c : Ctr) (j n : Nat) (s : State) : (countN c j n s).tempC = s.tempC := (countN_books _ _ _ _).tempC
@[simp] theorem countN_hotPs (c : Ctr) (j n : Nat) (s : State) : (countN c j n s).hotPs = s.hotPs := (countN_books _ _ _ _).hotPs
@[simp] theorem countN_fuse (c : Ctr) (j n : Nat) (s : State) : (countN c j n s).fuse = s.fuse := (countN_books _ _ _ _).fuse
@[simp] theorem countN_lc (c : Ctr) (j n : Nat) (s : State) : (countN c j n s).lc = s.lc := (countN_books _ _ _ _).lc
@[simp] theorem countN_bist (c : Ctr) (j n : Nat) (s : State) : (countN c j n s).bist = s.bist := (countN_books _ _ _ _).bist
@[simp] theorem countN_jtag (c : Ctr) (j n : Nat) (s : State) : (countN c j n s).jtag = s.jtag := (countN_books _ _ _ _).jtag
@[simp] theorem countN_boot (c : Ctr) (j n : Nat) (s : State) : (countN c j n s).boot = s.boot := (countN_books _ _ _ _).boot

@[simp] theorem addCounter_pending (k n : Nat) (s : State) : (addCounter k n s).pending = s.pending := (addCounter_books _ _ _).pending
@[simp] theorem addCounter_freeCtr (k n : Nat) (s : State) : (addCounter k n s).freeCtr = s.freeCtr := (addCounter_books _ _ _).freeCtr
@[simp] theorem addCounter_clk (k n : Nat) (s : State) : (addCounter k n s).clk = s.clk := (addCounter_books _ _ _).clk
@[simp] theorem addCounter_latchPcie (k n : Nat) (s : State) : (addCounter k n s).latchPcie = s.latchPcie := (addCounter_books _ _ _).latchPcie
@[simp] theorem addCounter_latchSpi (k n : Nat) (s : State) : (addCounter k n s).latchSpi = s.latchSpi := (addCounter_books _ _ _).latchSpi
@[simp] theorem addCounter_latchBar4 (k n : Nat) (s : State) : (addCounter k n s).latchBar4 = s.latchBar4 := (addCounter_books _ _ _).latchBar4
@[simp] theorem addCounter_dev (k n : Nat) (s : State) : (addCounter k n s).dev = s.dev := (addCounter_books _ _ _).dev
@[simp] theorem addCounter_rings (k n : Nat) (s : State) : (addCounter k n s).rings = s.rings := (addCounter_books _ _ _).rings
@[simp] theorem addCounter_fatal (k n : Nat) (s : State) : (addCounter k n s).fatal = s.fatal := (addCounter_books _ _ _).fatal
@[simp] theorem addCounter_bw (k n : Nat) (s : State) : (addCounter k n s).bw = s.bw := (addCounter_books _ _ _).bw
@[simp] theorem addCounter_insts (k n : Nat) (s : State) : (addCounter k n s).insts = s.insts := (addCounter_books _ _ _).insts
@[simp] theorem addCounter_allocs (k n : Nat) (s : State) : (addCounter k n s).allocs = s.allocs := (addCounter_books _ _ _).allocs
@[simp] theorem addCounter_maps (k n : Nat) (s : State) : (addCounter k n s).maps = s.maps := (addCounter_books _ _ _).maps
@[simp] theorem addCounter_lig (k n : Nat) (s : State) : (addCounter k n s).lig = s.lig := (addCounter_books _ _ _).lig
@[simp] theorem addCounter_queues (k n : Nat) (s : State) : (addCounter k n s).queues = s.queues := (addCounter_books _ _ _).queues
@[simp] theorem addCounter_rrLast (k n : Nat) (s : State) : (addCounter k n s).rrLast = s.rrLast := (addCounter_books _ _ _).rrLast
@[simp] theorem addCounter_shapers (k n : Nat) (s : State) : (addCounter k n s).shapers = s.shapers := (addCounter_books _ _ _).shapers
@[simp] theorem addCounter_policers (k n : Nat) (s : State) : (addCounter k n s).policers = s.policers := (addCounter_books _ _ _).policers
@[simp] theorem addCounter_gates (k n : Nat) (s : State) : (addCounter k n s).gates = s.gates := (addCounter_books _ _ _).gates
@[simp] theorem addCounter_qSel (k n : Nat) (s : State) : (addCounter k n s).qSel = s.qSel := (addCounter_books _ _ _).qSel
@[simp] theorem addCounter_shSel (k n : Nat) (s : State) : (addCounter k n s).shSel = s.shSel := (addCounter_books _ _ _).shSel
@[simp] theorem addCounter_workers (k n : Nat) (s : State) : (addCounter k n s).workers = s.workers := (addCounter_books _ _ _).workers
@[simp] theorem addCounter_tbl (k n : Nat) (s : State) : (addCounter k n s).tbl = s.tbl := (addCounter_books _ _ _).tbl
@[simp] theorem addCounter_cls (k n : Nat) (s : State) : (addCounter k n s).cls = s.cls := (addCounter_books _ _ _).cls
@[simp] theorem addCounter_laneTable (k n : Nat) (s : State) : (addCounter k n s).laneTable = s.laneTable := (addCounter_books _ _ _).laneTable
@[simp] theorem addCounter_lanes (k n : Nat) (s : State) : (addCounter k n s).lanes = s.lanes := (addCounter_books _ _ _).lanes
@[simp] theorem addCounter_macs (k n : Nat) (s : State) : (addCounter k n s).macs = s.macs := (addCounter_books _ _ _).macs
@[simp] theorem addCounter_helloAt (k n : Nat) (s : State) : (addCounter k n s).helloAt = s.helloAt := (addCounter_books _ _ _).helloAt
@[simp] theorem addCounter_rateLow (k n : Nat) (s : State) : (addCounter k n s).rateLow = s.rateLow := (addCounter_books _ _ _).rateLow
@[simp] theorem addCounter_tribs (k n : Nat) (s : State) : (addCounter k n s).tribs = s.tribs := (addCounter_books _ _ _).tribs
@[simp] theorem addCounter_tpaths (k n : Nat) (s : State) : (addCounter k n s).tpaths = s.tpaths := (addCounter_books _ _ _).tpaths
@[simp] theorem addCounter_vcats (k n : Nat) (s : State) : (addCounter k n s).vcats = s.vcats := (addCounter_books _ _ _).vcats
@[simp] theorem addCounter_circs (k n : Nat) (s : State) : (addCounter k n s).circs = s.circs := (addCounter_books _ _ _).circs
@[simp] theorem addCounter_msps (k n : Nat) (s : State) : (addCounter k n s).msps = s.msps := (addCounter_books _ _ _).msps
@[simp] theorem addCounter_pms (k n : Nat) (s : State) : (addCounter k n s).pms = s.pms := (addCounter_books _ _ _).pms
@[simp] theorem addCounter_pmSec (k n : Nat) (s : State) : (addCounter k n s).pmSec = s.pmSec := (addCounter_books _ _ _).pmSec
@[simp] theorem addCounter_binSec (k n : Nat) (s : State) : (addCounter k n s).binSec = s.binSec := (addCounter_books _ _ _).binSec
@[simp] theorem addCounter_tribPathSel (k n : Nat) (s : State) : (addCounter k n s).tribPathSel = s.tribPathSel := (addCounter_books _ _ _).tribPathSel
@[simp] theorem addCounter_tb (k n : Nat) (s : State) : (addCounter k n s).tb = s.tb := (addCounter_books _ _ _).tb
@[simp] theorem addCounter_time (k n : Nat) (s : State) : (addCounter k n s).time = s.time := (addCounter_books _ _ _).time
@[simp] theorem addCounter_outputs (k n : Nat) (s : State) : (addCounter k n s).outputs = s.outputs := (addCounter_books _ _ _).outputs
@[simp] theorem addCounter_captures (k n : Nat) (s : State) : (addCounter k n s).captures = s.captures := (addCounter_books _ _ _).captures
@[simp] theorem addCounter_ptp (k n : Nat) (s : State) : (addCounter k n s).ptp = s.ptp := (addCounter_books _ _ _).ptp
@[simp] theorem addCounter_tod (k n : Nat) (s : State) : (addCounter k n s).tod = s.tod := (addCounter_books _ _ _).tod
@[simp] theorem addCounter_egressFree (k n : Nat) (s : State) : (addCounter k n s).egressFree = s.egressFree := (addCounter_books _ _ _).egressFree
@[simp] theorem addCounter_cipher (k n : Nat) (s : State) : (addCounter k n s).cipher = s.cipher := (addCounter_books _ _ _).cipher
@[simp] theorem addCounter_mem (k n : Nat) (s : State) : (addCounter k n s).mem = s.mem := (addCounter_books _ _ _).mem
@[simp] theorem addCounter_waitUp (k n : Nat) (s : State) : (addCounter k n s).waitUp = s.waitUp := (addCounter_books _ _ _).waitUp
@[simp] theorem addCounter_waitDown (k n : Nat) (s : State) : (addCounter k n s).waitDown = s.waitDown := (addCounter_books _ _ _).waitDown
@[simp] theorem addCounter_pair (k n : Nat) (s : State) : (addCounter k n s).pair = s.pair := (addCounter_books _ _ _).pair
@[simp] theorem addCounter_pwr (k n : Nat) (s : State) : (addCounter k n s).pwr = s.pwr := (addCounter_books _ _ _).pwr
@[simp] theorem addCounter_tempC (k n : Nat) (s : State) : (addCounter k n s).tempC = s.tempC := (addCounter_books _ _ _).tempC
@[simp] theorem addCounter_hotPs (k n : Nat) (s : State) : (addCounter k n s).hotPs = s.hotPs := (addCounter_books _ _ _).hotPs
@[simp] theorem addCounter_fuse (k n : Nat) (s : State) : (addCounter k n s).fuse = s.fuse := (addCounter_books _ _ _).fuse
@[simp] theorem addCounter_lc (k n : Nat) (s : State) : (addCounter k n s).lc = s.lc := (addCounter_books _ _ _).lc
@[simp] theorem addCounter_bist (k n : Nat) (s : State) : (addCounter k n s).bist = s.bist := (addCounter_books _ _ _).bist
@[simp] theorem addCounter_jtag (k n : Nat) (s : State) : (addCounter k n s).jtag = s.jtag := (addCounter_books _ _ _).jtag
@[simp] theorem addCounter_boot (k n : Nat) (s : State) : (addCounter k n s).boot = s.boot := (addCounter_books _ _ _).boot

@[simp] theorem raise_pending (e : Ev) (k i d : Nat) (s : State) : (raise e k i d s).pending = s.pending := (raise_books _ _ _ _ _).pending
@[simp] theorem raise_freeCtr (e : Ev) (k i d : Nat) (s : State) : (raise e k i d s).freeCtr = s.freeCtr := (raise_books _ _ _ _ _).freeCtr
@[simp] theorem raise_clk (e : Ev) (k i d : Nat) (s : State) : (raise e k i d s).clk = s.clk := (raise_books _ _ _ _ _).clk
@[simp] theorem raise_latchPcie (e : Ev) (k i d : Nat) (s : State) : (raise e k i d s).latchPcie = s.latchPcie := (raise_books _ _ _ _ _).latchPcie
@[simp] theorem raise_latchSpi (e : Ev) (k i d : Nat) (s : State) : (raise e k i d s).latchSpi = s.latchSpi := (raise_books _ _ _ _ _).latchSpi
@[simp] theorem raise_latchBar4 (e : Ev) (k i d : Nat) (s : State) : (raise e k i d s).latchBar4 = s.latchBar4 := (raise_books _ _ _ _ _).latchBar4
@[simp] theorem raise_dev (e : Ev) (k i d : Nat) (s : State) : (raise e k i d s).dev = s.dev := (raise_books _ _ _ _ _).dev
@[simp] theorem raise_rings (e : Ev) (k i d : Nat) (s : State) : (raise e k i d s).rings = s.rings := (raise_books _ _ _ _ _).rings
@[simp] theorem raise_fatal (e : Ev) (k i d : Nat) (s : State) : (raise e k i d s).fatal = s.fatal := (raise_books _ _ _ _ _).fatal
@[simp] theorem raise_bw (e : Ev) (k i d : Nat) (s : State) : (raise e k i d s).bw = s.bw := (raise_books _ _ _ _ _).bw
@[simp] theorem raise_insts (e : Ev) (k i d : Nat) (s : State) : (raise e k i d s).insts = s.insts := (raise_books _ _ _ _ _).insts
@[simp] theorem raise_allocs (e : Ev) (k i d : Nat) (s : State) : (raise e k i d s).allocs = s.allocs := (raise_books _ _ _ _ _).allocs
@[simp] theorem raise_maps (e : Ev) (k i d : Nat) (s : State) : (raise e k i d s).maps = s.maps := (raise_books _ _ _ _ _).maps
@[simp] theorem raise_lig (e : Ev) (k i d : Nat) (s : State) : (raise e k i d s).lig = s.lig := (raise_books _ _ _ _ _).lig
@[simp] theorem raise_queues (e : Ev) (k i d : Nat) (s : State) : (raise e k i d s).queues = s.queues := (raise_books _ _ _ _ _).queues
@[simp] theorem raise_rrLast (e : Ev) (k i d : Nat) (s : State) : (raise e k i d s).rrLast = s.rrLast := (raise_books _ _ _ _ _).rrLast
@[simp] theorem raise_shapers (e : Ev) (k i d : Nat) (s : State) : (raise e k i d s).shapers = s.shapers := (raise_books _ _ _ _ _).shapers
@[simp] theorem raise_policers (e : Ev) (k i d : Nat) (s : State) : (raise e k i d s).policers = s.policers := (raise_books _ _ _ _ _).policers
@[simp] theorem raise_gates (e : Ev) (k i d : Nat) (s : State) : (raise e k i d s).gates = s.gates := (raise_books _ _ _ _ _).gates
@[simp] theorem raise_qSel (e : Ev) (k i d : Nat) (s : State) : (raise e k i d s).qSel = s.qSel := (raise_books _ _ _ _ _).qSel
@[simp] theorem raise_shSel (e : Ev) (k i d : Nat) (s : State) : (raise e k i d s).shSel = s.shSel := (raise_books _ _ _ _ _).shSel
@[simp] theorem raise_workers (e : Ev) (k i d : Nat) (s : State) : (raise e k i d s).workers = s.workers := (raise_books _ _ _ _ _).workers
@[simp] theorem raise_tbl (e : Ev) (k i d : Nat) (s : State) : (raise e k i d s).tbl = s.tbl := (raise_books _ _ _ _ _).tbl
@[simp] theorem raise_cls (e : Ev) (k i d : Nat) (s : State) : (raise e k i d s).cls = s.cls := (raise_books _ _ _ _ _).cls
@[simp] theorem raise_laneTable (e : Ev) (k i d : Nat) (s : State) : (raise e k i d s).laneTable = s.laneTable := (raise_books _ _ _ _ _).laneTable
@[simp] theorem raise_lanes (e : Ev) (k i d : Nat) (s : State) : (raise e k i d s).lanes = s.lanes := (raise_books _ _ _ _ _).lanes
@[simp] theorem raise_macs (e : Ev) (k i d : Nat) (s : State) : (raise e k i d s).macs = s.macs := (raise_books _ _ _ _ _).macs
@[simp] theorem raise_helloAt (e : Ev) (k i d : Nat) (s : State) : (raise e k i d s).helloAt = s.helloAt := (raise_books _ _ _ _ _).helloAt
@[simp] theorem raise_rateLow (e : Ev) (k i d : Nat) (s : State) : (raise e k i d s).rateLow = s.rateLow := (raise_books _ _ _ _ _).rateLow
@[simp] theorem raise_tribs (e : Ev) (k i d : Nat) (s : State) : (raise e k i d s).tribs = s.tribs := (raise_books _ _ _ _ _).tribs
@[simp] theorem raise_tpaths (e : Ev) (k i d : Nat) (s : State) : (raise e k i d s).tpaths = s.tpaths := (raise_books _ _ _ _ _).tpaths
@[simp] theorem raise_vcats (e : Ev) (k i d : Nat) (s : State) : (raise e k i d s).vcats = s.vcats := (raise_books _ _ _ _ _).vcats
@[simp] theorem raise_circs (e : Ev) (k i d : Nat) (s : State) : (raise e k i d s).circs = s.circs := (raise_books _ _ _ _ _).circs
@[simp] theorem raise_msps (e : Ev) (k i d : Nat) (s : State) : (raise e k i d s).msps = s.msps := (raise_books _ _ _ _ _).msps
@[simp] theorem raise_pms (e : Ev) (k i d : Nat) (s : State) : (raise e k i d s).pms = s.pms := (raise_books _ _ _ _ _).pms
@[simp] theorem raise_pmSec (e : Ev) (k i d : Nat) (s : State) : (raise e k i d s).pmSec = s.pmSec := (raise_books _ _ _ _ _).pmSec
@[simp] theorem raise_binSec (e : Ev) (k i d : Nat) (s : State) : (raise e k i d s).binSec = s.binSec := (raise_books _ _ _ _ _).binSec
@[simp] theorem raise_tribPathSel (e : Ev) (k i d : Nat) (s : State) : (raise e k i d s).tribPathSel = s.tribPathSel := (raise_books _ _ _ _ _).tribPathSel
@[simp] theorem raise_tb (e : Ev) (k i d : Nat) (s : State) : (raise e k i d s).tb = s.tb := (raise_books _ _ _ _ _).tb
@[simp] theorem raise_time (e : Ev) (k i d : Nat) (s : State) : (raise e k i d s).time = s.time := (raise_books _ _ _ _ _).time
@[simp] theorem raise_outputs (e : Ev) (k i d : Nat) (s : State) : (raise e k i d s).outputs = s.outputs := (raise_books _ _ _ _ _).outputs
@[simp] theorem raise_captures (e : Ev) (k i d : Nat) (s : State) : (raise e k i d s).captures = s.captures := (raise_books _ _ _ _ _).captures
@[simp] theorem raise_ptp (e : Ev) (k i d : Nat) (s : State) : (raise e k i d s).ptp = s.ptp := (raise_books _ _ _ _ _).ptp
@[simp] theorem raise_tod (e : Ev) (k i d : Nat) (s : State) : (raise e k i d s).tod = s.tod := (raise_books _ _ _ _ _).tod
@[simp] theorem raise_egressFree (e : Ev) (k i d : Nat) (s : State) : (raise e k i d s).egressFree = s.egressFree := (raise_books _ _ _ _ _).egressFree
@[simp] theorem raise_cipher (e : Ev) (k i d : Nat) (s : State) : (raise e k i d s).cipher = s.cipher := (raise_books _ _ _ _ _).cipher
@[simp] theorem raise_mem (e : Ev) (k i d : Nat) (s : State) : (raise e k i d s).mem = s.mem := (raise_books _ _ _ _ _).mem
@[simp] theorem raise_waitUp (e : Ev) (k i d : Nat) (s : State) : (raise e k i d s).waitUp = s.waitUp := (raise_books _ _ _ _ _).waitUp
@[simp] theorem raise_waitDown (e : Ev) (k i d : Nat) (s : State) : (raise e k i d s).waitDown = s.waitDown := (raise_books _ _ _ _ _).waitDown
@[simp] theorem raise_pair (e : Ev) (k i d : Nat) (s : State) : (raise e k i d s).pair = s.pair := (raise_books _ _ _ _ _).pair
@[simp] theorem raise_pwr (e : Ev) (k i d : Nat) (s : State) : (raise e k i d s).pwr = s.pwr := (raise_books _ _ _ _ _).pwr
@[simp] theorem raise_tempC (e : Ev) (k i d : Nat) (s : State) : (raise e k i d s).tempC = s.tempC := (raise_books _ _ _ _ _).tempC
@[simp] theorem raise_hotPs (e : Ev) (k i d : Nat) (s : State) : (raise e k i d s).hotPs = s.hotPs := (raise_books _ _ _ _ _).hotPs
@[simp] theorem raise_fuse (e : Ev) (k i d : Nat) (s : State) : (raise e k i d s).fuse = s.fuse := (raise_books _ _ _ _ _).fuse
@[simp] theorem raise_lc (e : Ev) (k i d : Nat) (s : State) : (raise e k i d s).lc = s.lc := (raise_books _ _ _ _ _).lc
@[simp] theorem raise_bist (e : Ev) (k i d : Nat) (s : State) : (raise e k i d s).bist = s.bist := (raise_books _ _ _ _ _).bist
@[simp] theorem raise_jtag (e : Ev) (k i d : Nat) (s : State) : (raise e k i d s).jtag = s.jtag := (raise_books _ _ _ _ _).jtag
@[simp] theorem raise_boot (e : Ev) (k i d : Nat) (s : State) : (raise e k i d s).boot = s.boot := (raise_books _ _ _ _ _).boot

@[simp] theorem pushError_pending (e : ErrCode) (k i d : Nat) (s : State) : (pushError e k i d s).pending = s.pending := (pushError_books _ _ _ _ _).pending
@[simp] theorem pushError_freeCtr (e : ErrCode) (k i d : Nat) (s : State) : (pushError e k i d s).freeCtr = s.freeCtr := (pushError_books _ _ _ _ _).freeCtr
@[simp] theorem pushError_clk (e : ErrCode) (k i d : Nat) (s : State) : (pushError e k i d s).clk = s.clk := (pushError_books _ _ _ _ _).clk
@[simp] theorem pushError_latchPcie (e : ErrCode) (k i d : Nat) (s : State) : (pushError e k i d s).latchPcie = s.latchPcie := (pushError_books _ _ _ _ _).latchPcie
@[simp] theorem pushError_latchSpi (e : ErrCode) (k i d : Nat) (s : State) : (pushError e k i d s).latchSpi = s.latchSpi := (pushError_books _ _ _ _ _).latchSpi
@[simp] theorem pushError_latchBar4 (e : ErrCode) (k i d : Nat) (s : State) : (pushError e k i d s).latchBar4 = s.latchBar4 := (pushError_books _ _ _ _ _).latchBar4
@[simp] theorem pushError_dev (e : ErrCode) (k i d : Nat) (s : State) : (pushError e k i d s).dev = s.dev := (pushError_books _ _ _ _ _).dev
@[simp] theorem pushError_rings (e : ErrCode) (k i d : Nat) (s : State) : (pushError e k i d s).rings = s.rings := (pushError_books _ _ _ _ _).rings
@[simp] theorem pushError_fatal (e : ErrCode) (k i d : Nat) (s : State) : (pushError e k i d s).fatal = s.fatal := (pushError_books _ _ _ _ _).fatal
@[simp] theorem pushError_bw (e : ErrCode) (k i d : Nat) (s : State) : (pushError e k i d s).bw = s.bw := (pushError_books _ _ _ _ _).bw
@[simp] theorem pushError_insts (e : ErrCode) (k i d : Nat) (s : State) : (pushError e k i d s).insts = s.insts := (pushError_books _ _ _ _ _).insts
@[simp] theorem pushError_allocs (e : ErrCode) (k i d : Nat) (s : State) : (pushError e k i d s).allocs = s.allocs := (pushError_books _ _ _ _ _).allocs
@[simp] theorem pushError_maps (e : ErrCode) (k i d : Nat) (s : State) : (pushError e k i d s).maps = s.maps := (pushError_books _ _ _ _ _).maps
@[simp] theorem pushError_lig (e : ErrCode) (k i d : Nat) (s : State) : (pushError e k i d s).lig = s.lig := (pushError_books _ _ _ _ _).lig
@[simp] theorem pushError_queues (e : ErrCode) (k i d : Nat) (s : State) : (pushError e k i d s).queues = s.queues := (pushError_books _ _ _ _ _).queues
@[simp] theorem pushError_rrLast (e : ErrCode) (k i d : Nat) (s : State) : (pushError e k i d s).rrLast = s.rrLast := (pushError_books _ _ _ _ _).rrLast
@[simp] theorem pushError_shapers (e : ErrCode) (k i d : Nat) (s : State) : (pushError e k i d s).shapers = s.shapers := (pushError_books _ _ _ _ _).shapers
@[simp] theorem pushError_policers (e : ErrCode) (k i d : Nat) (s : State) : (pushError e k i d s).policers = s.policers := (pushError_books _ _ _ _ _).policers
@[simp] theorem pushError_gates (e : ErrCode) (k i d : Nat) (s : State) : (pushError e k i d s).gates = s.gates := (pushError_books _ _ _ _ _).gates
@[simp] theorem pushError_qSel (e : ErrCode) (k i d : Nat) (s : State) : (pushError e k i d s).qSel = s.qSel := (pushError_books _ _ _ _ _).qSel
@[simp] theorem pushError_shSel (e : ErrCode) (k i d : Nat) (s : State) : (pushError e k i d s).shSel = s.shSel := (pushError_books _ _ _ _ _).shSel
@[simp] theorem pushError_workers (e : ErrCode) (k i d : Nat) (s : State) : (pushError e k i d s).workers = s.workers := (pushError_books _ _ _ _ _).workers
@[simp] theorem pushError_tbl (e : ErrCode) (k i d : Nat) (s : State) : (pushError e k i d s).tbl = s.tbl := (pushError_books _ _ _ _ _).tbl
@[simp] theorem pushError_cls (e : ErrCode) (k i d : Nat) (s : State) : (pushError e k i d s).cls = s.cls := (pushError_books _ _ _ _ _).cls
@[simp] theorem pushError_laneTable (e : ErrCode) (k i d : Nat) (s : State) : (pushError e k i d s).laneTable = s.laneTable := (pushError_books _ _ _ _ _).laneTable
@[simp] theorem pushError_lanes (e : ErrCode) (k i d : Nat) (s : State) : (pushError e k i d s).lanes = s.lanes := (pushError_books _ _ _ _ _).lanes
@[simp] theorem pushError_macs (e : ErrCode) (k i d : Nat) (s : State) : (pushError e k i d s).macs = s.macs := (pushError_books _ _ _ _ _).macs
@[simp] theorem pushError_helloAt (e : ErrCode) (k i d : Nat) (s : State) : (pushError e k i d s).helloAt = s.helloAt := (pushError_books _ _ _ _ _).helloAt
@[simp] theorem pushError_rateLow (e : ErrCode) (k i d : Nat) (s : State) : (pushError e k i d s).rateLow = s.rateLow := (pushError_books _ _ _ _ _).rateLow
@[simp] theorem pushError_tribs (e : ErrCode) (k i d : Nat) (s : State) : (pushError e k i d s).tribs = s.tribs := (pushError_books _ _ _ _ _).tribs
@[simp] theorem pushError_tpaths (e : ErrCode) (k i d : Nat) (s : State) : (pushError e k i d s).tpaths = s.tpaths := (pushError_books _ _ _ _ _).tpaths
@[simp] theorem pushError_vcats (e : ErrCode) (k i d : Nat) (s : State) : (pushError e k i d s).vcats = s.vcats := (pushError_books _ _ _ _ _).vcats
@[simp] theorem pushError_circs (e : ErrCode) (k i d : Nat) (s : State) : (pushError e k i d s).circs = s.circs := (pushError_books _ _ _ _ _).circs
@[simp] theorem pushError_msps (e : ErrCode) (k i d : Nat) (s : State) : (pushError e k i d s).msps = s.msps := (pushError_books _ _ _ _ _).msps
@[simp] theorem pushError_pms (e : ErrCode) (k i d : Nat) (s : State) : (pushError e k i d s).pms = s.pms := (pushError_books _ _ _ _ _).pms
@[simp] theorem pushError_pmSec (e : ErrCode) (k i d : Nat) (s : State) : (pushError e k i d s).pmSec = s.pmSec := (pushError_books _ _ _ _ _).pmSec
@[simp] theorem pushError_binSec (e : ErrCode) (k i d : Nat) (s : State) : (pushError e k i d s).binSec = s.binSec := (pushError_books _ _ _ _ _).binSec
@[simp] theorem pushError_tribPathSel (e : ErrCode) (k i d : Nat) (s : State) : (pushError e k i d s).tribPathSel = s.tribPathSel := (pushError_books _ _ _ _ _).tribPathSel
@[simp] theorem pushError_tb (e : ErrCode) (k i d : Nat) (s : State) : (pushError e k i d s).tb = s.tb := (pushError_books _ _ _ _ _).tb
@[simp] theorem pushError_time (e : ErrCode) (k i d : Nat) (s : State) : (pushError e k i d s).time = s.time := (pushError_books _ _ _ _ _).time
@[simp] theorem pushError_outputs (e : ErrCode) (k i d : Nat) (s : State) : (pushError e k i d s).outputs = s.outputs := (pushError_books _ _ _ _ _).outputs
@[simp] theorem pushError_captures (e : ErrCode) (k i d : Nat) (s : State) : (pushError e k i d s).captures = s.captures := (pushError_books _ _ _ _ _).captures
@[simp] theorem pushError_ptp (e : ErrCode) (k i d : Nat) (s : State) : (pushError e k i d s).ptp = s.ptp := (pushError_books _ _ _ _ _).ptp
@[simp] theorem pushError_tod (e : ErrCode) (k i d : Nat) (s : State) : (pushError e k i d s).tod = s.tod := (pushError_books _ _ _ _ _).tod
@[simp] theorem pushError_egressFree (e : ErrCode) (k i d : Nat) (s : State) : (pushError e k i d s).egressFree = s.egressFree := (pushError_books _ _ _ _ _).egressFree
@[simp] theorem pushError_cipher (e : ErrCode) (k i d : Nat) (s : State) : (pushError e k i d s).cipher = s.cipher := (pushError_books _ _ _ _ _).cipher
@[simp] theorem pushError_mem (e : ErrCode) (k i d : Nat) (s : State) : (pushError e k i d s).mem = s.mem := (pushError_books _ _ _ _ _).mem
@[simp] theorem pushError_waitUp (e : ErrCode) (k i d : Nat) (s : State) : (pushError e k i d s).waitUp = s.waitUp := (pushError_books _ _ _ _ _).waitUp
@[simp] theorem pushError_waitDown (e : ErrCode) (k i d : Nat) (s : State) : (pushError e k i d s).waitDown = s.waitDown := (pushError_books _ _ _ _ _).waitDown
@[simp] theorem pushError_pair (e : ErrCode) (k i d : Nat) (s : State) : (pushError e k i d s).pair = s.pair := (pushError_books _ _ _ _ _).pair
@[simp] theorem pushError_pwr (e : ErrCode) (k i d : Nat) (s : State) : (pushError e k i d s).pwr = s.pwr := (pushError_books _ _ _ _ _).pwr
@[simp] theorem pushError_tempC (e : ErrCode) (k i d : Nat) (s : State) : (pushError e k i d s).tempC = s.tempC := (pushError_books _ _ _ _ _).tempC
@[simp] theorem pushError_hotPs (e : ErrCode) (k i d : Nat) (s : State) : (pushError e k i d s).hotPs = s.hotPs := (pushError_books _ _ _ _ _).hotPs
@[simp] theorem pushError_fuse (e : ErrCode) (k i d : Nat) (s : State) : (pushError e k i d s).fuse = s.fuse := (pushError_books _ _ _ _ _).fuse
@[simp] theorem pushError_lc (e : ErrCode) (k i d : Nat) (s : State) : (pushError e k i d s).lc = s.lc := (pushError_books _ _ _ _ _).lc
@[simp] theorem pushError_bist (e : ErrCode) (k i d : Nat) (s : State) : (pushError e k i d s).bist = s.bist := (pushError_books _ _ _ _ _).bist
@[simp] theorem pushError_jtag (e : ErrCode) (k i d : Nat) (s : State) : (pushError e k i d s).jtag = s.jtag := (pushError_books _ _ _ _ _).jtag
@[simp] theorem pushError_boot (e : ErrCode) (k i d : Nat) (s : State) : (pushError e k i d s).boot = s.boot := (pushError_books _ _ _ _ _).boot

@[simp] theorem replyTo_pending (c : Cmd) (st : Status) (l : Bool) (d : Nat) (p : Bytes) (s : State) : (replyTo c st l d p s).pending = s.pending := (replyTo_books _ _ _ _ _ _).pending
@[simp] theorem replyTo_freeCtr (c : Cmd) (st : Status) (l : Bool) (d : Nat) (p : Bytes) (s : State) : (replyTo c st l d p s).freeCtr = s.freeCtr := (replyTo_books _ _ _ _ _ _).freeCtr
@[simp] theorem replyTo_clk (c : Cmd) (st : Status) (l : Bool) (d : Nat) (p : Bytes) (s : State) : (replyTo c st l d p s).clk = s.clk := (replyTo_books _ _ _ _ _ _).clk
@[simp] theorem replyTo_latchPcie (c : Cmd) (st : Status) (l : Bool) (d : Nat) (p : Bytes) (s : State) : (replyTo c st l d p s).latchPcie = s.latchPcie := (replyTo_books _ _ _ _ _ _).latchPcie
@[simp] theorem replyTo_latchSpi (c : Cmd) (st : Status) (l : Bool) (d : Nat) (p : Bytes) (s : State) : (replyTo c st l d p s).latchSpi = s.latchSpi := (replyTo_books _ _ _ _ _ _).latchSpi
@[simp] theorem replyTo_latchBar4 (c : Cmd) (st : Status) (l : Bool) (d : Nat) (p : Bytes) (s : State) : (replyTo c st l d p s).latchBar4 = s.latchBar4 := (replyTo_books _ _ _ _ _ _).latchBar4
@[simp] theorem replyTo_dev (c : Cmd) (st : Status) (l : Bool) (d : Nat) (p : Bytes) (s : State) : (replyTo c st l d p s).dev = s.dev := (replyTo_books _ _ _ _ _ _).dev
@[simp] theorem replyTo_rings (c : Cmd) (st : Status) (l : Bool) (d : Nat) (p : Bytes) (s : State) : (replyTo c st l d p s).rings = s.rings := (replyTo_books _ _ _ _ _ _).rings
@[simp] theorem replyTo_fatal (c : Cmd) (st : Status) (l : Bool) (d : Nat) (p : Bytes) (s : State) : (replyTo c st l d p s).fatal = s.fatal := (replyTo_books _ _ _ _ _ _).fatal
@[simp] theorem replyTo_bw (c : Cmd) (st : Status) (l : Bool) (d : Nat) (p : Bytes) (s : State) : (replyTo c st l d p s).bw = s.bw := (replyTo_books _ _ _ _ _ _).bw
@[simp] theorem replyTo_insts (c : Cmd) (st : Status) (l : Bool) (d : Nat) (p : Bytes) (s : State) : (replyTo c st l d p s).insts = s.insts := (replyTo_books _ _ _ _ _ _).insts
@[simp] theorem replyTo_allocs (c : Cmd) (st : Status) (l : Bool) (d : Nat) (p : Bytes) (s : State) : (replyTo c st l d p s).allocs = s.allocs := (replyTo_books _ _ _ _ _ _).allocs
@[simp] theorem replyTo_maps (c : Cmd) (st : Status) (l : Bool) (d : Nat) (p : Bytes) (s : State) : (replyTo c st l d p s).maps = s.maps := (replyTo_books _ _ _ _ _ _).maps
@[simp] theorem replyTo_lig (c : Cmd) (st : Status) (l : Bool) (d : Nat) (p : Bytes) (s : State) : (replyTo c st l d p s).lig = s.lig := (replyTo_books _ _ _ _ _ _).lig
@[simp] theorem replyTo_queues (c : Cmd) (st : Status) (l : Bool) (d : Nat) (p : Bytes) (s : State) : (replyTo c st l d p s).queues = s.queues := (replyTo_books _ _ _ _ _ _).queues
@[simp] theorem replyTo_rrLast (c : Cmd) (st : Status) (l : Bool) (d : Nat) (p : Bytes) (s : State) : (replyTo c st l d p s).rrLast = s.rrLast := (replyTo_books _ _ _ _ _ _).rrLast
@[simp] theorem replyTo_shapers (c : Cmd) (st : Status) (l : Bool) (d : Nat) (p : Bytes) (s : State) : (replyTo c st l d p s).shapers = s.shapers := (replyTo_books _ _ _ _ _ _).shapers
@[simp] theorem replyTo_policers (c : Cmd) (st : Status) (l : Bool) (d : Nat) (p : Bytes) (s : State) : (replyTo c st l d p s).policers = s.policers := (replyTo_books _ _ _ _ _ _).policers
@[simp] theorem replyTo_gates (c : Cmd) (st : Status) (l : Bool) (d : Nat) (p : Bytes) (s : State) : (replyTo c st l d p s).gates = s.gates := (replyTo_books _ _ _ _ _ _).gates
@[simp] theorem replyTo_qSel (c : Cmd) (st : Status) (l : Bool) (d : Nat) (p : Bytes) (s : State) : (replyTo c st l d p s).qSel = s.qSel := (replyTo_books _ _ _ _ _ _).qSel
@[simp] theorem replyTo_shSel (c : Cmd) (st : Status) (l : Bool) (d : Nat) (p : Bytes) (s : State) : (replyTo c st l d p s).shSel = s.shSel := (replyTo_books _ _ _ _ _ _).shSel
@[simp] theorem replyTo_workers (c : Cmd) (st : Status) (l : Bool) (d : Nat) (p : Bytes) (s : State) : (replyTo c st l d p s).workers = s.workers := (replyTo_books _ _ _ _ _ _).workers
@[simp] theorem replyTo_tbl (c : Cmd) (st : Status) (l : Bool) (d : Nat) (p : Bytes) (s : State) : (replyTo c st l d p s).tbl = s.tbl := (replyTo_books _ _ _ _ _ _).tbl
@[simp] theorem replyTo_cls (c : Cmd) (st : Status) (l : Bool) (d : Nat) (p : Bytes) (s : State) : (replyTo c st l d p s).cls = s.cls := (replyTo_books _ _ _ _ _ _).cls
@[simp] theorem replyTo_laneTable (c : Cmd) (st : Status) (l : Bool) (d : Nat) (p : Bytes) (s : State) : (replyTo c st l d p s).laneTable = s.laneTable := (replyTo_books _ _ _ _ _ _).laneTable
@[simp] theorem replyTo_lanes (c : Cmd) (st : Status) (l : Bool) (d : Nat) (p : Bytes) (s : State) : (replyTo c st l d p s).lanes = s.lanes := (replyTo_books _ _ _ _ _ _).lanes
@[simp] theorem replyTo_macs (c : Cmd) (st : Status) (l : Bool) (d : Nat) (p : Bytes) (s : State) : (replyTo c st l d p s).macs = s.macs := (replyTo_books _ _ _ _ _ _).macs
@[simp] theorem replyTo_helloAt (c : Cmd) (st : Status) (l : Bool) (d : Nat) (p : Bytes) (s : State) : (replyTo c st l d p s).helloAt = s.helloAt := (replyTo_books _ _ _ _ _ _).helloAt
@[simp] theorem replyTo_rateLow (c : Cmd) (st : Status) (l : Bool) (d : Nat) (p : Bytes) (s : State) : (replyTo c st l d p s).rateLow = s.rateLow := (replyTo_books _ _ _ _ _ _).rateLow
@[simp] theorem replyTo_tribs (c : Cmd) (st : Status) (l : Bool) (d : Nat) (p : Bytes) (s : State) : (replyTo c st l d p s).tribs = s.tribs := (replyTo_books _ _ _ _ _ _).tribs
@[simp] theorem replyTo_tpaths (c : Cmd) (st : Status) (l : Bool) (d : Nat) (p : Bytes) (s : State) : (replyTo c st l d p s).tpaths = s.tpaths := (replyTo_books _ _ _ _ _ _).tpaths
@[simp] theorem replyTo_vcats (c : Cmd) (st : Status) (l : Bool) (d : Nat) (p : Bytes) (s : State) : (replyTo c st l d p s).vcats = s.vcats := (replyTo_books _ _ _ _ _ _).vcats
@[simp] theorem replyTo_circs (c : Cmd) (st : Status) (l : Bool) (d : Nat) (p : Bytes) (s : State) : (replyTo c st l d p s).circs = s.circs := (replyTo_books _ _ _ _ _ _).circs
@[simp] theorem replyTo_msps (c : Cmd) (st : Status) (l : Bool) (d : Nat) (p : Bytes) (s : State) : (replyTo c st l d p s).msps = s.msps := (replyTo_books _ _ _ _ _ _).msps
@[simp] theorem replyTo_pms (c : Cmd) (st : Status) (l : Bool) (d : Nat) (p : Bytes) (s : State) : (replyTo c st l d p s).pms = s.pms := (replyTo_books _ _ _ _ _ _).pms
@[simp] theorem replyTo_pmSec (c : Cmd) (st : Status) (l : Bool) (d : Nat) (p : Bytes) (s : State) : (replyTo c st l d p s).pmSec = s.pmSec := (replyTo_books _ _ _ _ _ _).pmSec
@[simp] theorem replyTo_binSec (c : Cmd) (st : Status) (l : Bool) (d : Nat) (p : Bytes) (s : State) : (replyTo c st l d p s).binSec = s.binSec := (replyTo_books _ _ _ _ _ _).binSec
@[simp] theorem replyTo_tribPathSel (c : Cmd) (st : Status) (l : Bool) (d : Nat) (p : Bytes) (s : State) : (replyTo c st l d p s).tribPathSel = s.tribPathSel := (replyTo_books _ _ _ _ _ _).tribPathSel
@[simp] theorem replyTo_tb (c : Cmd) (st : Status) (l : Bool) (d : Nat) (p : Bytes) (s : State) : (replyTo c st l d p s).tb = s.tb := (replyTo_books _ _ _ _ _ _).tb
@[simp] theorem replyTo_time (c : Cmd) (st : Status) (l : Bool) (d : Nat) (p : Bytes) (s : State) : (replyTo c st l d p s).time = s.time := (replyTo_books _ _ _ _ _ _).time
@[simp] theorem replyTo_outputs (c : Cmd) (st : Status) (l : Bool) (d : Nat) (p : Bytes) (s : State) : (replyTo c st l d p s).outputs = s.outputs := (replyTo_books _ _ _ _ _ _).outputs
@[simp] theorem replyTo_captures (c : Cmd) (st : Status) (l : Bool) (d : Nat) (p : Bytes) (s : State) : (replyTo c st l d p s).captures = s.captures := (replyTo_books _ _ _ _ _ _).captures
@[simp] theorem replyTo_ptp (c : Cmd) (st : Status) (l : Bool) (d : Nat) (p : Bytes) (s : State) : (replyTo c st l d p s).ptp = s.ptp := (replyTo_books _ _ _ _ _ _).ptp
@[simp] theorem replyTo_tod (c : Cmd) (st : Status) (l : Bool) (d : Nat) (p : Bytes) (s : State) : (replyTo c st l d p s).tod = s.tod := (replyTo_books _ _ _ _ _ _).tod
@[simp] theorem replyTo_egressFree (c : Cmd) (st : Status) (l : Bool) (d : Nat) (p : Bytes) (s : State) : (replyTo c st l d p s).egressFree = s.egressFree := (replyTo_books _ _ _ _ _ _).egressFree
@[simp] theorem replyTo_cipher (c : Cmd) (st : Status) (l : Bool) (d : Nat) (p : Bytes) (s : State) : (replyTo c st l d p s).cipher = s.cipher := (replyTo_books _ _ _ _ _ _).cipher
@[simp] theorem replyTo_mem (c : Cmd) (st : Status) (l : Bool) (d : Nat) (p : Bytes) (s : State) : (replyTo c st l d p s).mem = s.mem := (replyTo_books _ _ _ _ _ _).mem
@[simp] theorem replyTo_waitUp (c : Cmd) (st : Status) (l : Bool) (d : Nat) (p : Bytes) (s : State) : (replyTo c st l d p s).waitUp = s.waitUp := (replyTo_books _ _ _ _ _ _).waitUp
@[simp] theorem replyTo_waitDown (c : Cmd) (st : Status) (l : Bool) (d : Nat) (p : Bytes) (s : State) : (replyTo c st l d p s).waitDown = s.waitDown := (replyTo_books _ _ _ _ _ _).waitDown
@[simp] theorem replyTo_pair (c : Cmd) (st : Status) (l : Bool) (d : Nat) (p : Bytes) (s : State) : (replyTo c st l d p s).pair = s.pair := (replyTo_books _ _ _ _ _ _).pair
@[simp] theorem replyTo_pwr (c : Cmd) (st : Status) (l : Bool) (d : Nat) (p : Bytes) (s : State) : (replyTo c st l d p s).pwr = s.pwr := (replyTo_books _ _ _ _ _ _).pwr
@[simp] theorem replyTo_tempC (c : Cmd) (st : Status) (l : Bool) (d : Nat) (p : Bytes) (s : State) : (replyTo c st l d p s).tempC = s.tempC := (replyTo_books _ _ _ _ _ _).tempC
@[simp] theorem replyTo_hotPs (c : Cmd) (st : Status) (l : Bool) (d : Nat) (p : Bytes) (s : State) : (replyTo c st l d p s).hotPs = s.hotPs := (replyTo_books _ _ _ _ _ _).hotPs
@[simp] theorem replyTo_fuse (c : Cmd) (st : Status) (l : Bool) (d : Nat) (p : Bytes) (s : State) : (replyTo c st l d p s).fuse = s.fuse := (replyTo_books _ _ _ _ _ _).fuse
@[simp] theorem replyTo_lc (c : Cmd) (st : Status) (l : Bool) (d : Nat) (p : Bytes) (s : State) : (replyTo c st l d p s).lc = s.lc := (replyTo_books _ _ _ _ _ _).lc
@[simp] theorem replyTo_bist (c : Cmd) (st : Status) (l : Bool) (d : Nat) (p : Bytes) (s : State) : (replyTo c st l d p s).bist = s.bist := (replyTo_books _ _ _ _ _ _).bist
@[simp] theorem replyTo_jtag (c : Cmd) (st : Status) (l : Bool) (d : Nat) (p : Bytes) (s : State) : (replyTo c st l d p s).jtag = s.jtag := (replyTo_books _ _ _ _ _ _).jtag
@[simp] theorem replyTo_boot (c : Cmd) (st : Status) (l : Bool) (d : Nat) (p : Bytes) (s : State) : (replyTo c st l d p s).boot = s.boot := (replyTo_books _ _ _ _ _ _).boot

@[simp] theorem complete_pending (c : Cmd) (st : Status) (d : Nat) (p : Bytes) (s : State) : (complete c st d p s).pending = s.pending := (complete_books _ _ _ _ _).pending
@[simp] theorem complete_freeCtr (c : Cmd) (st : Status) (d : Nat) (p : Bytes) (s : State) : (complete c st d p s).freeCtr = s.freeCtr := (complete_books _ _ _ _ _).freeCtr
@[simp] theorem complete_clk (c : Cmd) (st : Status) (d : Nat) (p : Bytes) (s : State) : (complete c st d p s).clk = s.clk := (complete_books _ _ _ _ _).clk
@[simp] theorem complete_latchPcie (c : Cmd) (st : Status) (d : Nat) (p : Bytes) (s : State) : (complete c st d p s).latchPcie = s.latchPcie := (complete_books _ _ _ _ _).latchPcie
@[simp] theorem complete_latchSpi (c : Cmd) (st : Status) (d : Nat) (p : Bytes) (s : State) : (complete c st d p s).latchSpi = s.latchSpi := (complete_books _ _ _ _ _).latchSpi
@[simp] theorem complete_latchBar4 (c : Cmd) (st : Status) (d : Nat) (p : Bytes) (s : State) : (complete c st d p s).latchBar4 = s.latchBar4 := (complete_books _ _ _ _ _).latchBar4
@[simp] theorem complete_dev (c : Cmd) (st : Status) (d : Nat) (p : Bytes) (s : State) : (complete c st d p s).dev = s.dev := (complete_books _ _ _ _ _).dev
@[simp] theorem complete_rings (c : Cmd) (st : Status) (d : Nat) (p : Bytes) (s : State) : (complete c st d p s).rings = s.rings := (complete_books _ _ _ _ _).rings
@[simp] theorem complete_fatal (c : Cmd) (st : Status) (d : Nat) (p : Bytes) (s : State) : (complete c st d p s).fatal = s.fatal := (complete_books _ _ _ _ _).fatal
@[simp] theorem complete_bw (c : Cmd) (st : Status) (d : Nat) (p : Bytes) (s : State) : (complete c st d p s).bw = s.bw := (complete_books _ _ _ _ _).bw
@[simp] theorem complete_insts (c : Cmd) (st : Status) (d : Nat) (p : Bytes) (s : State) : (complete c st d p s).insts = s.insts := (complete_books _ _ _ _ _).insts
@[simp] theorem complete_allocs (c : Cmd) (st : Status) (d : Nat) (p : Bytes) (s : State) : (complete c st d p s).allocs = s.allocs := (complete_books _ _ _ _ _).allocs
@[simp] theorem complete_maps (c : Cmd) (st : Status) (d : Nat) (p : Bytes) (s : State) : (complete c st d p s).maps = s.maps := (complete_books _ _ _ _ _).maps
@[simp] theorem complete_lig (c : Cmd) (st : Status) (d : Nat) (p : Bytes) (s : State) : (complete c st d p s).lig = s.lig := (complete_books _ _ _ _ _).lig
@[simp] theorem complete_queues (c : Cmd) (st : Status) (d : Nat) (p : Bytes) (s : State) : (complete c st d p s).queues = s.queues := (complete_books _ _ _ _ _).queues
@[simp] theorem complete_rrLast (c : Cmd) (st : Status) (d : Nat) (p : Bytes) (s : State) : (complete c st d p s).rrLast = s.rrLast := (complete_books _ _ _ _ _).rrLast
@[simp] theorem complete_shapers (c : Cmd) (st : Status) (d : Nat) (p : Bytes) (s : State) : (complete c st d p s).shapers = s.shapers := (complete_books _ _ _ _ _).shapers
@[simp] theorem complete_policers (c : Cmd) (st : Status) (d : Nat) (p : Bytes) (s : State) : (complete c st d p s).policers = s.policers := (complete_books _ _ _ _ _).policers
@[simp] theorem complete_gates (c : Cmd) (st : Status) (d : Nat) (p : Bytes) (s : State) : (complete c st d p s).gates = s.gates := (complete_books _ _ _ _ _).gates
@[simp] theorem complete_qSel (c : Cmd) (st : Status) (d : Nat) (p : Bytes) (s : State) : (complete c st d p s).qSel = s.qSel := (complete_books _ _ _ _ _).qSel
@[simp] theorem complete_shSel (c : Cmd) (st : Status) (d : Nat) (p : Bytes) (s : State) : (complete c st d p s).shSel = s.shSel := (complete_books _ _ _ _ _).shSel
@[simp] theorem complete_workers (c : Cmd) (st : Status) (d : Nat) (p : Bytes) (s : State) : (complete c st d p s).workers = s.workers := (complete_books _ _ _ _ _).workers
@[simp] theorem complete_tbl (c : Cmd) (st : Status) (d : Nat) (p : Bytes) (s : State) : (complete c st d p s).tbl = s.tbl := (complete_books _ _ _ _ _).tbl
@[simp] theorem complete_cls (c : Cmd) (st : Status) (d : Nat) (p : Bytes) (s : State) : (complete c st d p s).cls = s.cls := (complete_books _ _ _ _ _).cls
@[simp] theorem complete_laneTable (c : Cmd) (st : Status) (d : Nat) (p : Bytes) (s : State) : (complete c st d p s).laneTable = s.laneTable := (complete_books _ _ _ _ _).laneTable
@[simp] theorem complete_lanes (c : Cmd) (st : Status) (d : Nat) (p : Bytes) (s : State) : (complete c st d p s).lanes = s.lanes := (complete_books _ _ _ _ _).lanes
@[simp] theorem complete_macs (c : Cmd) (st : Status) (d : Nat) (p : Bytes) (s : State) : (complete c st d p s).macs = s.macs := (complete_books _ _ _ _ _).macs
@[simp] theorem complete_helloAt (c : Cmd) (st : Status) (d : Nat) (p : Bytes) (s : State) : (complete c st d p s).helloAt = s.helloAt := (complete_books _ _ _ _ _).helloAt
@[simp] theorem complete_rateLow (c : Cmd) (st : Status) (d : Nat) (p : Bytes) (s : State) : (complete c st d p s).rateLow = s.rateLow := (complete_books _ _ _ _ _).rateLow
@[simp] theorem complete_tribs (c : Cmd) (st : Status) (d : Nat) (p : Bytes) (s : State) : (complete c st d p s).tribs = s.tribs := (complete_books _ _ _ _ _).tribs
@[simp] theorem complete_tpaths (c : Cmd) (st : Status) (d : Nat) (p : Bytes) (s : State) : (complete c st d p s).tpaths = s.tpaths := (complete_books _ _ _ _ _).tpaths
@[simp] theorem complete_vcats (c : Cmd) (st : Status) (d : Nat) (p : Bytes) (s : State) : (complete c st d p s).vcats = s.vcats := (complete_books _ _ _ _ _).vcats
@[simp] theorem complete_circs (c : Cmd) (st : Status) (d : Nat) (p : Bytes) (s : State) : (complete c st d p s).circs = s.circs := (complete_books _ _ _ _ _).circs
@[simp] theorem complete_msps (c : Cmd) (st : Status) (d : Nat) (p : Bytes) (s : State) : (complete c st d p s).msps = s.msps := (complete_books _ _ _ _ _).msps
@[simp] theorem complete_pms (c : Cmd) (st : Status) (d : Nat) (p : Bytes) (s : State) : (complete c st d p s).pms = s.pms := (complete_books _ _ _ _ _).pms
@[simp] theorem complete_pmSec (c : Cmd) (st : Status) (d : Nat) (p : Bytes) (s : State) : (complete c st d p s).pmSec = s.pmSec := (complete_books _ _ _ _ _).pmSec
@[simp] theorem complete_binSec (c : Cmd) (st : Status) (d : Nat) (p : Bytes) (s : State) : (complete c st d p s).binSec = s.binSec := (complete_books _ _ _ _ _).binSec
@[simp] theorem complete_tribPathSel (c : Cmd) (st : Status) (d : Nat) (p : Bytes) (s : State) : (complete c st d p s).tribPathSel = s.tribPathSel := (complete_books _ _ _ _ _).tribPathSel
@[simp] theorem complete_tb (c : Cmd) (st : Status) (d : Nat) (p : Bytes) (s : State) : (complete c st d p s).tb = s.tb := (complete_books _ _ _ _ _).tb
@[simp] theorem complete_time (c : Cmd) (st : Status) (d : Nat) (p : Bytes) (s : State) : (complete c st d p s).time = s.time := (complete_books _ _ _ _ _).time
@[simp] theorem complete_outputs (c : Cmd) (st : Status) (d : Nat) (p : Bytes) (s : State) : (complete c st d p s).outputs = s.outputs := (complete_books _ _ _ _ _).outputs
@[simp] theorem complete_captures (c : Cmd) (st : Status) (d : Nat) (p : Bytes) (s : State) : (complete c st d p s).captures = s.captures := (complete_books _ _ _ _ _).captures
@[simp] theorem complete_ptp (c : Cmd) (st : Status) (d : Nat) (p : Bytes) (s : State) : (complete c st d p s).ptp = s.ptp := (complete_books _ _ _ _ _).ptp
@[simp] theorem complete_tod (c : Cmd) (st : Status) (d : Nat) (p : Bytes) (s : State) : (complete c st d p s).tod = s.tod := (complete_books _ _ _ _ _).tod
@[simp] theorem complete_egressFree (c : Cmd) (st : Status) (d : Nat) (p : Bytes) (s : State) : (complete c st d p s).egressFree = s.egressFree := (complete_books _ _ _ _ _).egressFree
@[simp] theorem complete_cipher (c : Cmd) (st : Status) (d : Nat) (p : Bytes) (s : State) : (complete c st d p s).cipher = s.cipher := (complete_books _ _ _ _ _).cipher
@[simp] theorem complete_mem (c : Cmd) (st : Status) (d : Nat) (p : Bytes) (s : State) : (complete c st d p s).mem = s.mem := (complete_books _ _ _ _ _).mem
@[simp] theorem complete_waitUp (c : Cmd) (st : Status) (d : Nat) (p : Bytes) (s : State) : (complete c st d p s).waitUp = s.waitUp := (complete_books _ _ _ _ _).waitUp
@[simp] theorem complete_waitDown (c : Cmd) (st : Status) (d : Nat) (p : Bytes) (s : State) : (complete c st d p s).waitDown = s.waitDown := (complete_books _ _ _ _ _).waitDown
@[simp] theorem complete_pair (c : Cmd) (st : Status) (d : Nat) (p : Bytes) (s : State) : (complete c st d p s).pair = s.pair := (complete_books _ _ _ _ _).pair
@[simp] theorem complete_pwr (c : Cmd) (st : Status) (d : Nat) (p : Bytes) (s : State) : (complete c st d p s).pwr = s.pwr := (complete_books _ _ _ _ _).pwr
@[simp] theorem complete_tempC (c : Cmd) (st : Status) (d : Nat) (p : Bytes) (s : State) : (complete c st d p s).tempC = s.tempC := (complete_books _ _ _ _ _).tempC
@[simp] theorem complete_hotPs (c : Cmd) (st : Status) (d : Nat) (p : Bytes) (s : State) : (complete c st d p s).hotPs = s.hotPs := (complete_books _ _ _ _ _).hotPs
@[simp] theorem complete_fuse (c : Cmd) (st : Status) (d : Nat) (p : Bytes) (s : State) : (complete c st d p s).fuse = s.fuse := (complete_books _ _ _ _ _).fuse
@[simp] theorem complete_lc (c : Cmd) (st : Status) (d : Nat) (p : Bytes) (s : State) : (complete c st d p s).lc = s.lc := (complete_books _ _ _ _ _).lc
@[simp] theorem complete_bist (c : Cmd) (st : Status) (d : Nat) (p : Bytes) (s : State) : (complete c st d p s).bist = s.bist := (complete_books _ _ _ _ _).bist
@[simp] theorem complete_jtag (c : Cmd) (st : Status) (d : Nat) (p : Bytes) (s : State) : (complete c st d p s).jtag = s.jtag := (complete_books _ _ _ _ _).jtag
@[simp] theorem complete_boot (c : Cmd) (st : Status) (d : Nat) (p : Bytes) (s : State) : (complete c st d p s).boot = s.boot := (complete_books _ _ _ _ _).boot

@[simp] theorem emit_pending (e : Out) (s : State) : (emit e s).pending = s.pending := rfl
@[simp] theorem emit_freeCtr (e : Out) (s : State) : (emit e s).freeCtr = s.freeCtr := rfl
@[simp] theorem emit_clk (e : Out) (s : State) : (emit e s).clk = s.clk := rfl
@[simp] theorem emit_latchPcie (e : Out) (s : State) : (emit e s).latchPcie = s.latchPcie := rfl
@[simp] theorem emit_latchSpi (e : Out) (s : State) : (emit e s).latchSpi = s.latchSpi := rfl
@[simp] theorem emit_latchBar4 (e : Out) (s : State) : (emit e s).latchBar4 = s.latchBar4 := rfl
@[simp] theorem emit_dev (e : Out) (s : State) : (emit e s).dev = s.dev := rfl
@[simp] theorem emit_rings (e : Out) (s : State) : (emit e s).rings = s.rings := rfl
@[simp] theorem emit_cmd (e : Out) (s : State) : (emit e s).cmd = s.cmd := rfl
@[simp] theorem emit_spi (e : Out) (s : State) : (emit e s).spi = s.spi := rfl
@[simp] theorem emit_evt (e : Out) (s : State) : (emit e s).evt = s.evt := rfl
@[simp] theorem emit_stamps (e : Out) (s : State) : (emit e s).stamps = s.stamps := rfl
@[simp] theorem emit_notes (e : Out) (s : State) : (emit e s).notes = s.notes := rfl
@[simp] theorem emit_fatal (e : Out) (s : State) : (emit e s).fatal = s.fatal := rfl
@[simp] theorem emit_cnt (e : Out) (s : State) : (emit e s).cnt = s.cnt := rfl
@[simp] theorem emit_bw (e : Out) (s : State) : (emit e s).bw = s.bw := rfl
@[simp] theorem emit_insts (e : Out) (s : State) : (emit e s).insts = s.insts := rfl
@[simp] theorem emit_allocs (e : Out) (s : State) : (emit e s).allocs = s.allocs := rfl
@[simp] theorem emit_maps (e : Out) (s : State) : (emit e s).maps = s.maps := rfl
@[simp] theorem emit_lig (e : Out) (s : State) : (emit e s).lig = s.lig := rfl
@[simp] theorem emit_queues (e : Out) (s : State) : (emit e s).queues = s.queues := rfl
@[simp] theorem emit_rrLast (e : Out) (s : State) : (emit e s).rrLast = s.rrLast := rfl
@[simp] theorem emit_shapers (e : Out) (s : State) : (emit e s).shapers = s.shapers := rfl
@[simp] theorem emit_policers (e : Out) (s : State) : (emit e s).policers = s.policers := rfl
@[simp] theorem emit_gates (e : Out) (s : State) : (emit e s).gates = s.gates := rfl
@[simp] theorem emit_qSel (e : Out) (s : State) : (emit e s).qSel = s.qSel := rfl
@[simp] theorem emit_shSel (e : Out) (s : State) : (emit e s).shSel = s.shSel := rfl
@[simp] theorem emit_workers (e : Out) (s : State) : (emit e s).workers = s.workers := rfl
@[simp] theorem emit_tbl (e : Out) (s : State) : (emit e s).tbl = s.tbl := rfl
@[simp] theorem emit_cls (e : Out) (s : State) : (emit e s).cls = s.cls := rfl
@[simp] theorem emit_laneTable (e : Out) (s : State) : (emit e s).laneTable = s.laneTable := rfl
@[simp] theorem emit_lanes (e : Out) (s : State) : (emit e s).lanes = s.lanes := rfl
@[simp] theorem emit_macs (e : Out) (s : State) : (emit e s).macs = s.macs := rfl
@[simp] theorem emit_helloAt (e : Out) (s : State) : (emit e s).helloAt = s.helloAt := rfl
@[simp] theorem emit_role (e : Out) (s : State) : (emit e s).role = s.role := rfl
@[simp] theorem emit_rateLow (e : Out) (s : State) : (emit e s).rateLow = s.rateLow := rfl
@[simp] theorem emit_tribs (e : Out) (s : State) : (emit e s).tribs = s.tribs := rfl
@[simp] theorem emit_tpaths (e : Out) (s : State) : (emit e s).tpaths = s.tpaths := rfl
@[simp] theorem emit_vcats (e : Out) (s : State) : (emit e s).vcats = s.vcats := rfl
@[simp] theorem emit_circs (e : Out) (s : State) : (emit e s).circs = s.circs := rfl
@[simp] theorem emit_msps (e : Out) (s : State) : (emit e s).msps = s.msps := rfl
@[simp] theorem emit_pms (e : Out) (s : State) : (emit e s).pms = s.pms := rfl
@[simp] theorem emit_pmSec (e : Out) (s : State) : (emit e s).pmSec = s.pmSec := rfl
@[simp] theorem emit_binSec (e : Out) (s : State) : (emit e s).binSec = s.binSec := rfl
@[simp] theorem emit_tribPathSel (e : Out) (s : State) : (emit e s).tribPathSel = s.tribPathSel := rfl
@[simp] theorem emit_tb (e : Out) (s : State) : (emit e s).tb = s.tb := rfl
@[simp] theorem emit_time (e : Out) (s : State) : (emit e s).time = s.time := rfl
@[simp] theorem emit_outputs (e : Out) (s : State) : (emit e s).outputs = s.outputs := rfl
@[simp] theorem emit_captures (e : Out) (s : State) : (emit e s).captures = s.captures := rfl
@[simp] theorem emit_ptp (e : Out) (s : State) : (emit e s).ptp = s.ptp := rfl
@[simp] theorem emit_tod (e : Out) (s : State) : (emit e s).tod = s.tod := rfl
@[simp] theorem emit_egressFree (e : Out) (s : State) : (emit e s).egressFree = s.egressFree := rfl
@[simp] theorem emit_cipher (e : Out) (s : State) : (emit e s).cipher = s.cipher := rfl
@[simp] theorem emit_mem (e : Out) (s : State) : (emit e s).mem = s.mem := rfl
@[simp] theorem emit_waitUp (e : Out) (s : State) : (emit e s).waitUp = s.waitUp := rfl
@[simp] theorem emit_waitDown (e : Out) (s : State) : (emit e s).waitDown = s.waitDown := rfl
@[simp] theorem emit_pair (e : Out) (s : State) : (emit e s).pair = s.pair := rfl
@[simp] theorem emit_pwr (e : Out) (s : State) : (emit e s).pwr = s.pwr := rfl
@[simp] theorem emit_tempC (e : Out) (s : State) : (emit e s).tempC = s.tempC := rfl
@[simp] theorem emit_hotPs (e : Out) (s : State) : (emit e s).hotPs = s.hotPs := rfl
@[simp] theorem emit_fuse (e : Out) (s : State) : (emit e s).fuse = s.fuse := rfl
@[simp] theorem emit_lc (e : Out) (s : State) : (emit e s).lc = s.lc := rfl
@[simp] theorem emit_bist (e : Out) (s : State) : (emit e s).bist = s.bist := rfl
@[simp] theorem emit_jtag (e : Out) (s : State) : (emit e s).jtag = s.jtag := rfl
@[simp] theorem emit_boot (e : Out) (s : State) : (emit e s).boot = s.boot := rfl
@[simp] theorem emit_hot (e : Out) (s : State) : (emit e s).hot = s.hot := rfl

end Sys2Proof.Machine
end

