-- ==== Sys2Proof/Laws/Step.lean ====
section
/-!
SUPPORT. What a step can do, said once: the step takes the front command; a row of the part's own acts only on a part that is on, and
leaves the queue, the supply and RESET#.
-/

namespace Sys2Proof.Machine

theorem step_cons (s : State) (c : Instr) (rest : List Instr) (h : s.pending = c :: rest) :
    step s = exec c { s with pending := rest } := by simp [step, h]

theorem step_nil (s : State) (h : s.pending = []) : step s = .next (idle s) := by simp [step, h]

@[simp] theorem keepOuter_pending (s t : State) : (keepOuter s t).pending = s.pending := rfl
@[simp] theorem keepOuter_powered (s t : State) : (keepOuter s t).hot.powered = s.hot.powered := rfl
@[simp] theorem keepOuter_inReset (s t : State) : (keepOuter s t).boot.inReset = s.boot.inReset := rfl
@[simp] theorem keepOuter_out (s t : State) : (keepOuter s t).out = t.out := rfl
@[simp] theorem keepOuter_freeCtr (s t : State) : (keepOuter s t).freeCtr = t.freeCtr := rfl
@[simp] theorem keepOuter_clk (s t : State) : (keepOuter s t).clk = t.clk := rfl
@[simp] theorem keepOuter_latchPcie (s t : State) : (keepOuter s t).latchPcie = t.latchPcie := rfl
@[simp] theorem keepOuter_latchSpi (s t : State) : (keepOuter s t).latchSpi = t.latchSpi := rfl
@[simp] theorem keepOuter_latchBar4 (s t : State) : (keepOuter s t).latchBar4 = t.latchBar4 := rfl
@[simp] theorem keepOuter_dev (s t : State) : (keepOuter s t).dev = t.dev := rfl
@[simp] theorem keepOuter_rings (s t : State) : (keepOuter s t).rings = t.rings := rfl
@[simp] theorem keepOuter_cmd (s t : State) : (keepOuter s t).cmd = t.cmd := rfl
@[simp] theorem keepOuter_spi (s t : State) : (keepOuter s t).spi = t.spi := rfl
@[simp] theorem keepOuter_evt (s t : State) : (keepOuter s t).evt = t.evt := rfl
@[simp] theorem keepOuter_stamps (s t : State) : (keepOuter s t).stamps = t.stamps := rfl
@[simp] theorem keepOuter_notes (s t : State) : (keepOuter s t).notes = t.notes := rfl
@[simp] theorem keepOuter_fatal (s t : State) : (keepOuter s t).fatal = t.fatal := rfl
@[simp] theorem keepOuter_cnt (s t : State) : (keepOuter s t).cnt = t.cnt := rfl
@[simp] theorem keepOuter_bw (s t : State) : (keepOuter s t).bw = t.bw := rfl
@[simp] theorem keepOuter_insts (s t : State) : (keepOuter s t).insts = t.insts := rfl
@[simp] theorem keepOuter_allocs (s t : State) : (keepOuter s t).allocs = t.allocs := rfl
@[simp] theorem keepOuter_maps (s t : State) : (keepOuter s t).maps = t.maps := rfl
@[simp] theorem keepOuter_lig (s t : State) : (keepOuter s t).lig = t.lig := rfl
@[simp] theorem keepOuter_queues (s t : State) : (keepOuter s t).queues = t.queues := rfl
@[simp] theorem keepOuter_rrLast (s t : State) : (keepOuter s t).rrLast = t.rrLast := rfl
@[simp] theorem keepOuter_shapers (s t : State) : (keepOuter s t).shapers = t.shapers := rfl
@[simp] theorem keepOuter_policers (s t : State) : (keepOuter s t).policers = t.policers := rfl
@[simp] theorem keepOuter_gates (s t : State) : (keepOuter s t).gates = t.gates := rfl
@[simp] theorem keepOuter_qSel (s t : State) : (keepOuter s t).qSel = t.qSel := rfl
@[simp] theorem keepOuter_shSel (s t : State) : (keepOuter s t).shSel = t.shSel := rfl
@[simp] theorem keepOuter_workers (s t : State) : (keepOuter s t).workers = t.workers := rfl
@[simp] theorem keepOuter_tbl (s t : State) : (keepOuter s t).tbl = t.tbl := rfl
@[simp] theorem keepOuter_cls (s t : State) : (keepOuter s t).cls = t.cls := rfl
@[simp] theorem keepOuter_laneTable (s t : State) : (keepOuter s t).laneTable = t.laneTable := rfl
@[simp] theorem keepOuter_lanes (s t : State) : (keepOuter s t).lanes = t.lanes := rfl
@[simp] theorem keepOuter_macs (s t : State) : (keepOuter s t).macs = t.macs := rfl
@[simp] theorem keepOuter_helloAt (s t : State) : (keepOuter s t).helloAt = t.helloAt := rfl
@[simp] theorem keepOuter_role (s t : State) : (keepOuter s t).role = t.role := rfl
@[simp] theorem keepOuter_rateLow (s t : State) : (keepOuter s t).rateLow = t.rateLow := rfl
@[simp] theorem keepOuter_tribs (s t : State) : (keepOuter s t).tribs = t.tribs := rfl
@[simp] theorem keepOuter_tpaths (s t : State) : (keepOuter s t).tpaths = t.tpaths := rfl
@[simp] theorem keepOuter_vcats (s t : State) : (keepOuter s t).vcats = t.vcats := rfl
@[simp] theorem keepOuter_circs (s t : State) : (keepOuter s t).circs = t.circs := rfl
@[simp] theorem keepOuter_msps (s t : State) : (keepOuter s t).msps = t.msps := rfl
@[simp] theorem keepOuter_pms (s t : State) : (keepOuter s t).pms = t.pms := rfl
@[simp] theorem keepOuter_pmSec (s t : State) : (keepOuter s t).pmSec = t.pmSec := rfl
@[simp] theorem keepOuter_binSec (s t : State) : (keepOuter s t).binSec = t.binSec := rfl
@[simp] theorem keepOuter_tribPathSel (s t : State) : (keepOuter s t).tribPathSel = t.tribPathSel := rfl
@[simp] theorem keepOuter_tb (s t : State) : (keepOuter s t).tb = t.tb := rfl
@[simp] theorem keepOuter_time (s t : State) : (keepOuter s t).time = t.time := rfl
@[simp] theorem keepOuter_outputs (s t : State) : (keepOuter s t).outputs = t.outputs := rfl
@[simp] theorem keepOuter_captures (s t : State) : (keepOuter s t).captures = t.captures := rfl
@[simp] theorem keepOuter_ptp (s t : State) : (keepOuter s t).ptp = t.ptp := rfl
@[simp] theorem keepOuter_tod (s t : State) : (keepOuter s t).tod = t.tod := rfl
@[simp] theorem keepOuter_egressFree (s t : State) : (keepOuter s t).egressFree = t.egressFree := rfl
@[simp] theorem keepOuter_cipher (s t : State) : (keepOuter s t).cipher = t.cipher := rfl
@[simp] theorem keepOuter_mem (s t : State) : (keepOuter s t).mem = t.mem := rfl
@[simp] theorem keepOuter_waitUp (s t : State) : (keepOuter s t).waitUp = t.waitUp := rfl
@[simp] theorem keepOuter_waitDown (s t : State) : (keepOuter s t).waitDown = t.waitDown := rfl
@[simp] theorem keepOuter_pair (s t : State) : (keepOuter s t).pair = t.pair := rfl
@[simp] theorem keepOuter_pwr (s t : State) : (keepOuter s t).pwr = t.pwr := rfl
@[simp] theorem keepOuter_tempC (s t : State) : (keepOuter s t).tempC = t.tempC := rfl
@[simp] theorem keepOuter_hotPs (s t : State) : (keepOuter s t).hotPs = t.hotPs := rfl
@[simp] theorem keepOuter_fuse (s t : State) : (keepOuter s t).fuse = t.fuse := rfl
@[simp] theorem keepOuter_lc (s t : State) : (keepOuter s t).lc = t.lc := rfl
@[simp] theorem keepOuter_bist (s t : State) : (keepOuter s t).bist = t.bist := rfl
@[simp] theorem keepOuter_jtag (s t : State) : (keepOuter s t).jtag = t.jtag := rfl
@[simp] theorem keepOuter_image (s t : State) (e : Nat) : (keepOuter s t).image e = t.image e := rfl
@[simp] theorem keepOuter_inst (s t : State) (i : Nat) : (keepOuter s t).inst i = t.inst i := rfl
@[simp] theorem keepOuter_alloc (s t : State) (c : Nat) : (keepOuter s t).alloc c = t.alloc c := rfl
@[simp] theorem keepOuter_worker (s t : State) (w : Nat) : (keepOuter s t).worker w = t.worker w := rfl
@[simp] theorem keepOuter_lane (s t : State) (n : Nat) : (keepOuter s t).lane n = t.lane n := rfl
@[simp] theorem keepOuter_blot (s t : State) (g : Nat) : (keepOuter s t).blot g = t.blot g := rfl
@[simp] theorem keepOuter_ring (s t : State) (n : Nat) : (keepOuter s t).ring n = t.ring n := rfl
@[simp] theorem keepOuter_domain (s t : State) (d : Nat) : (keepOuter s t).domain d = t.domain d := rfl
@[simp] theorem keepOuter_queue (s t : State) (q : Nat) : (keepOuter s t).queue q = t.queue q := rfl
@[simp] theorem keepOuter_shaper (s t : State) (n : Nat) : (keepOuter s t).shaper n = t.shaper n := rfl
@[simp] theorem keepOuter_gate (s t : State) (p : Nat) : (keepOuter s t).gate p = t.gate p := rfl
@[simp] theorem keepOuter_policer (s t : State) (p : Nat) : (keepOuter s t).policer p = t.policer p := rfl
@[simp] theorem keepOuter_entry (s t : State) (n : Nat) : (keepOuter s t).entry n = t.entry n := rfl
@[simp] theorem keepOuter_learnOf (s t : State) (k : Nat) : (keepOuter s t).learnOf k = t.learnOf k := rfl
@[simp] theorem keepOuter_output (s t : State) (o : Nat) : (keepOuter s t).output o = t.output o := rfl
@[simp] theorem keepOuter_capture (s t : State) (k : Nat) : (keepOuter s t).capture k = t.capture k := rfl
@[simp] theorem keepOuter_mac (s t : State) (h : Nat) : (keepOuter s t).mac h = t.mac h := rfl
@[simp] theorem keepOuter_timebase (s t : State) (n : Nat) : (keepOuter s t).timebase n = t.timebase n := rfl
@[simp] theorem keepOuter_todOf (s t : State) (i : Nat) : (keepOuter s t).todOf i = t.todOf i := rfl
@[simp] theorem keepOuter_ptpOf (s t : State) (h : Nat) : (keepOuter s t).ptpOf h = t.ptpOf h := rfl
@[simp] theorem keepOuter_trib (s t : State) (k : Nat) : (keepOuter s t).trib k = t.trib k := rfl
@[simp] theorem keepOuter_tpath (s t : State) (p : Nat) : (keepOuter s t).tpath p = t.tpath p := rfl
@[simp] theorem keepOuter_vcat (s t : State) (g : Nat) : (keepOuter s t).vcat g = t.vcat g := rfl
@[simp] theorem keepOuter_circ (s t : State) (c : Nat) : (keepOuter s t).circ c = t.circ c := rfl
@[simp] theorem keepOuter_msp (s t : State) (k : Nat) : (keepOuter s t).msp k = t.msp k := rfl
@[simp] theorem keepOuter_ownTick (s t : State) : ownTick (keepOuter s t) = ownTick t := rfl

/-- A part that is on takes its step. -/
theorem live_on {s : State} (h : On s) (f : State → State) : live f s = keepOuter s (f s) := by
  simp [live, h.powered, h.released]

/-- A part that is off takes none. -/
theorem live_off {s : State} (h : ¬ On s) (f : State → State) : live f s = s := by
  have h' : (s.hot.powered && !s.boot.inReset) = false := by
    rcases hp : s.hot.powered with _ | _ <;> rcases hr : s.boot.inReset with _ | _ <;> simp_all
    exact absurd ⟨hp, hr⟩ h
  simp [live, h']

@[simp] theorem live_pending (f : State → State) (s : State) : (live f s).pending = s.pending := by
  unfold live; split <;> rfl

/-- What a step of the part's own can do to the supply and RESET#: nothing. -/
@[simp] theorem live_powered (f : State → State) (s : State) : (live f s).hot.powered = s.hot.powered := by
  unfold live; split <;> rfl

@[simp] theorem live_inReset (f : State → State) (s : State) : (live f s).boot.inReset = s.boot.inReset := by
  unfold live; split <;> rfl

@[simp] theorem outside_pending (f : State → State) (s : State) : (outside f s).pending = s.pending := rfl

end Sys2Proof.Machine
end

