-- ==== Sys2Proof/Laws/Commands.lean ====
section
/-!
SUPPORT. What the row of a command can do, said once: a command that runs alone is executed, and completes with its one final reply.
-/

namespace Sys2Proof.Machine

/-- What the step of a row leaves of the queue, the supply and RESET# agrees with any state that has the same ones. -/
theorem keepOuter_eq {s t : State} (hp : t.pending = s.pending) (hh : t.hot.powered = s.hot.powered)
    (hb : t.boot.inReset = s.boot.inReset) : keepOuter s t = t := by
  unfold keepOuter
  rw [← hp, ← hh, ← hb]

theorem Books.keep {s x t : State} (hp : x.pending = s.pending) (hh : x.hot.powered = s.hot.powered)
    (hb : x.boot.inReset = s.boot.inReset) (h : Books x t) : Books x (keepOuter s t) := by
  rw [keepOuter_eq (h.pending.trans hp) (h.hot_powered.trans hh) ((congrArg Boot.inReset h.boot).trans hb)]
  exact h

/-- A step of the part's own leaves the queue, the supply and RESET#: what it answers is what it computes. -/
structure Outer (s t : State) : Prop where
  pending : t.pending = s.pending
  powered : t.hot.powered = s.hot.powered
  boot : t.boot = s.boot

theorem Outer.refl (s : State) : Outer s s := ⟨rfl, rfl, rfl⟩

theorem Outer.trans {s t u : State} (h : Outer s t) (k : Outer t u) : Outer s u :=
  ⟨k.pending.trans h.pending, k.powered.trans h.powered, k.boot.trans h.boot⟩

theorem Outer.keep {s t : State} (h : Outer s t) : keepOuter s t = t :=
  keepOuter_eq h.pending h.powered (congrArg Boot.inReset h.boot)

theorem Books.outer {s t : State} (h : Books s t) : Outer s t := ⟨h.pending, h.hot_powered, h.boot⟩

/-- A row of the part's own completes on a part that is on. -/
theorem completes_live {f : State → State} {s : State} {P : State → Prop} (h : On s) (hP : P (keepOuter s (f s))) :
    ∃ t, (Host.Outcome.next (live f s) : Host.Outcome State Fault Refusal) = .next t ∧ P t :=
  ⟨_, rfl, by rw [live_on h]; exact hP⟩

/-- A command that runs alone waits for no other (R53). -/
theorem Runs.first {op : Nat} {q : CmdReq} {c : Cmd} {s : State} (h : Runs op q c s) : mustFollow c s = false := by
  simp [mustFollow, h.alone]

/-- A command is found by its row. -/
theorem Runs.found {op : Nat} {q : CmdReq} {c : Cmd} {s : State} (h : Runs op q c s) : findDispatched op q s = some c := by
  simp [findDispatched, h.alone, h.isOp, h.isReq, h.fresh]

theorem Runs.marked {op : Nat} {q : CmdReq} {c : Cmd} {s : State} (h : Runs op q c s) :
    (markStarted c s).cmd = { s.cmd with executing := [{ c with started := true }] } := by
  simp [markStarted, h.alone]

/-- The one command that executes completes: its reply waits for the reply ring, and nothing but the books has changed. -/
theorem complete_alone {c c' : Cmd} {st : Status} {d : Nat} {p : Bytes} {u : State} {n : Fin 4} (hx : u.cmd.executing = [c'])
    (hs : c'.seq = c.seq) (hm : c.mute = false) (hl : c.late = false) (hw : c.restarted = false) (hr : c.req.src = .ring n) :
    (complete c st d p u).cmd.executing = [] ∧ (complete c st d p u).cmd.waiting = u.cmd.waiting ++
      [{ op := c.op, tag := c.req.tag, status := st, detail := 256 * d, tick := u.clk.tick, payload := p, src := c.req.src }] := by
  unfold complete
  simp only [hx, hs, hw, Bool.false_and, Bool.false_eq_true, if_false]
  unfold sweepNops replyTo deliverReply
  simp [hm, hl, hr, b2n, hs]
  split <;> simp

/-- A dispatched command that runs alone and whose effect is done answers, and has made its effect. -/
theorem Runs.answers {sp : CmdSpec} {eff : Cmd → State → Res} {q : CmdReq} {c : Cmd} {s u : State} {st : Status} {d : Nat} {p : Bytes}
    (h : Runs sp.op q c s) (hl : sp.lease q s = none) (he : eff c (markStarted c s) = .done st d p u)
    (hc : u.cmd = (markStarted c s).cmd) (ht : u.clk.tick = s.clk.tick) :
    Answers c st d p s (runCmd sp eff q s) ∧ Books u (runCmd sp eff q s) := by
  obtain ⟨n, hn⟩ := h.ring
  have hr : c.req.src = .ring n := by rw [h.isReq, hn]
  have hrun : runCmd sp eff q s = complete c st d p u := by
    unfold runCmd
    rw [h.found]
    simp [executeNow, execute, h.calm, h.first, h.isReq, hl, he]
  rw [hrun]
  have hx : u.cmd.executing = [{ c with started := true }] := by rw [hc, h.marked]
  obtain ⟨h1, h2⟩ := complete_alone (c := c) (st := st) (d := d) (p := p) hx rfl h.heard h.ontime h.whole hr
  exact ⟨⟨h1, by rw [h2, hc, h.marked, ht]⟩, complete_books _ _ _ _ _⟩

/-- The same of its row: the outcome is a next state that holds the reply and the effect. -/
theorem Runs.completes {sp : CmdSpec} {eff : Cmd → State → Res} {q : CmdReq} {c : Cmd} {s u : State} {st : Status} {d : Nat} {p : Bytes}
    (h : Runs sp.op q c s) (hl : sp.lease q s = none) (he : eff c (markStarted c s) = .done st d p u)
    (hc : u.cmd = (markStarted c s).cmd) (ht : u.clk.tick = s.clk.tick) {x : State}
    (hp : x.pending = s.pending) (hh : x.hot.powered = s.hot.powered) (hb : x.boot.inReset = s.boot.inReset) (hu : Books x u) :
    ∃ t, (Host.Outcome.next (live (runCmd sp eff q) s) : Host.Outcome State Fault Refusal) = .next t ∧
      Answers c st d p s t ∧ Books x t := by
  refine completes_live h.on ?_
  obtain ⟨a, b⟩ := h.answers hl he hc ht
  exact ⟨⟨a.ended, a.reply⟩, (hu.trans b).keep hp hh hb⟩

/-- A dispatched command that runs alone and completes by a later row: it goes on executing, and has made its effect. -/
theorem Runs.goesOn {sp : CmdSpec} {eff : Cmd → State → Res} {q : CmdReq} {c : Cmd} {s u : State} {P : State → Prop}
    (h : Runs sp.op q c s) (hl : sp.lease q s = none) (he : eff c (markStarted c s) = .later u) (hu : P (keepOuter s u)) :
    ∃ t, (Host.Outcome.next (live (runCmd sp eff q) s) : Host.Outcome State Fault Refusal) = .next t ∧ P t := by
  refine completes_live h.on ?_
  have hrun : runCmd sp eff q s = u := by
    unfold runCmd
    rw [h.found]
    simp [executeNow, execute, h.calm, h.first, h.isReq, hl, he]
  rw [hrun]; exact hu

/-! ## A command marked as begun: only the commands themselves change -/

@[simp] theorem markStarted_out (c : Cmd) (s : State) : (markStarted c s).out = s.out := rfl
@[simp] theorem markStarted_freeCtr (c : Cmd) (s : State) : (markStarted c s).freeCtr = s.freeCtr := rfl
@[simp] theorem markStarted_clk (c : Cmd) (s : State) : (markStarted c s).clk = s.clk := rfl
@[simp] theorem markStarted_latchPcie (c : Cmd) (s : State) : (markStarted c s).latchPcie = s.latchPcie := rfl
@[simp] theorem markStarted_latchSpi (c : Cmd) (s : State) : (markStarted c s).latchSpi = s.latchSpi := rfl
@[simp] theorem markStarted_latchBar4 (c : Cmd) (s : State) : (markStarted c s).latchBar4 = s.latchBar4 := rfl
@[simp] theorem markStarted_dev (c : Cmd) (s : State) : (markStarted c s).dev = s.dev := rfl
@[simp] theorem markStarted_rings (c : Cmd) (s : State) : (markStarted c s).rings = s.rings := rfl
@[simp] theorem markStarted_spi (c : Cmd) (s : State) : (markStarted c s).spi = s.spi := rfl
@[simp] theorem markStarted_evt (c : Cmd) (s : State) : (markStarted c s).evt = s.evt := rfl
@[simp] theorem markStarted_stamps (c : Cmd) (s : State) : (markStarted c s).stamps = s.stamps := rfl
@[simp] theorem markStarted_notes (c : Cmd) (s : State) : (markStarted c s).notes = s.notes := rfl
@[simp] theorem markStarted_fatal (c : Cmd) (s : State) : (markStarted c s).fatal = s.fatal := rfl
@[simp] theorem markStarted_cnt (c : Cmd) (s : State) : (markStarted c s).cnt = s.cnt := rfl
@[simp] theorem markStarted_bw (c : Cmd) (s : State) : (markStarted c s).bw = s.bw := rfl
@[simp] theorem markStarted_insts (c : Cmd) (s : State) : (markStarted c s).insts = s.insts := rfl
@[simp] theorem markStarted_allocs (c : Cmd) (s : State) : (markStarted c s).allocs = s.allocs := rfl
@[simp] theorem markStarted_maps (c : Cmd) (s : State) : (markStarted c s).maps = s.maps := rfl
@[simp] theorem markStarted_lig (c : Cmd) (s : State) : (markStarted c s).lig = s.lig := rfl
@[simp] theorem markStarted_queues (c : Cmd) (s : State) : (markStarted c s).queues = s.queues := rfl
@[simp] theorem markStarted_rrLast (c : Cmd) (s : State) : (markStarted c s).rrLast = s.rrLast := rfl
@[simp] theorem markStarted_shapers (c : Cmd) (s : State) : (markStarted c s).shapers = s.shapers := rfl
@[simp] theorem markStarted_policers (c : Cmd) (s : State) : (markStarted c s).policers = s.policers := rfl
@[simp] theorem markStarted_gates (c : Cmd) (s : State) : (markStarted c s).gates = s.gates := rfl
@[simp] theorem markStarted_qSel (c : Cmd) (s : State) : (markStarted c s).qSel = s.qSel := rfl
@[simp] theorem markStarted_shSel (c : Cmd) (s : State) : (markStarted c s).shSel = s.shSel := rfl
@[simp] theorem markStarted_workers (c : Cmd) (s : State) : (markStarted c s).workers = s.workers := rfl
@[simp] theorem markStarted_tbl (c : Cmd) (s : State) : (markStarted c s).tbl = s.tbl := rfl
@[simp] theorem markStarted_cls (c : Cmd) (s : State) : (markStarted c s).cls = s.cls := rfl
@[simp] theorem markStarted_laneTable (c : Cmd) (s : State) : (markStarted c s).laneTable = s.laneTable := rfl
@[simp] theorem markStarted_lanes (c : Cmd) (s : State) : (markStarted c s).lanes = s.lanes := rfl
@[simp] theorem markStarted_macs (c : Cmd) (s : State) : (markStarted c s).macs = s.macs := rfl
@[simp] theorem markStarted_helloAt (c : Cmd) (s : State) : (markStarted c s).helloAt = s.helloAt := rfl
@[simp] theorem markStarted_role (c : Cmd) (s : State) : (markStarted c s).role = s.role := rfl
@[simp] theorem markStarted_rateLow (c : Cmd) (s : State) : (markStarted c s).rateLow = s.rateLow := rfl
@[simp] theorem markStarted_tribs (c : Cmd) (s : State) : (markStarted c s).tribs = s.tribs := rfl
@[simp] theorem markStarted_tpaths (c : Cmd) (s : State) : (markStarted c s).tpaths = s.tpaths := rfl
@[simp] theorem markStarted_vcats (c : Cmd) (s : State) : (markStarted c s).vcats = s.vcats := rfl
@[simp] theorem markStarted_circs (c : Cmd) (s : State) : (markStarted c s).circs = s.circs := rfl
@[simp] theorem markStarted_msps (c : Cmd) (s : State) : (markStarted c s).msps = s.msps := rfl
@[simp] theorem markStarted_pms (c : Cmd) (s : State) : (markStarted c s).pms = s.pms := rfl
@[simp] theorem markStarted_pmSec (c : Cmd) (s : State) : (markStarted c s).pmSec = s.pmSec := rfl
@[simp] theorem markStarted_binSec (c : Cmd) (s : State) : (markStarted c s).binSec = s.binSec := rfl
@[simp] theorem markStarted_tribPathSel (c : Cmd) (s : State) : (markStarted c s).tribPathSel = s.tribPathSel := rfl
@[simp] theorem markStarted_tb (c : Cmd) (s : State) : (markStarted c s).tb = s.tb := rfl
@[simp] theorem markStarted_time (c : Cmd) (s : State) : (markStarted c s).time = s.time := rfl
@[simp] theorem markStarted_outputs (c : Cmd) (s : State) : (markStarted c s).outputs = s.outputs := rfl
@[simp] theorem markStarted_captures (c : Cmd) (s : State) : (markStarted c s).captures = s.captures := rfl
@[simp] theorem markStarted_ptp (c : Cmd) (s : State) : (markStarted c s).ptp = s.ptp := rfl
@[simp] theorem markStarted_tod (c : Cmd) (s : State) : (markStarted c s).tod = s.tod := rfl
@[simp] theorem markStarted_egressFree (c : Cmd) (s : State) : (markStarted c s).egressFree = s.egressFree := rfl
@[simp] theorem markStarted_cipher (c : Cmd) (s : State) : (markStarted c s).cipher = s.cipher := rfl
@[simp] theorem markStarted_mem (c : Cmd) (s : State) : (markStarted c s).mem = s.mem := rfl
@[simp] theorem markStarted_waitUp (c : Cmd) (s : State) : (markStarted c s).waitUp = s.waitUp := rfl
@[simp] theorem markStarted_waitDown (c : Cmd) (s : State) : (markStarted c s).waitDown = s.waitDown := rfl
@[simp] theorem markStarted_pair (c : Cmd) (s : State) : (markStarted c s).pair = s.pair := rfl
@[simp] theorem markStarted_pwr (c : Cmd) (s : State) : (markStarted c s).pwr = s.pwr := rfl
@[simp] theorem markStarted_tempC (c : Cmd) (s : State) : (markStarted c s).tempC = s.tempC := rfl
@[simp] theorem markStarted_hotPs (c : Cmd) (s : State) : (markStarted c s).hotPs = s.hotPs := rfl
@[simp] theorem markStarted_fuse (c : Cmd) (s : State) : (markStarted c s).fuse = s.fuse := rfl
@[simp] theorem markStarted_lc (c : Cmd) (s : State) : (markStarted c s).lc = s.lc := rfl
@[simp] theorem markStarted_bist (c : Cmd) (s : State) : (markStarted c s).bist = s.bist := rfl
@[simp] theorem markStarted_jtag (c : Cmd) (s : State) : (markStarted c s).jtag = s.jtag := rfl
@[simp] theorem markStarted_pending (c : Cmd) (s : State) : (markStarted c s).pending = s.pending := rfl
@[simp] theorem markStarted_hot (c : Cmd) (s : State) : (markStarted c s).hot = s.hot := rfl
@[simp] theorem markStarted_boot (c : Cmd) (s : State) : (markStarted c s).boot = s.boot := rfl
@[simp] theorem markStarted_image (c : Cmd) (s : State) (e : Nat) : (markStarted c s).image e = s.image e := rfl
@[simp] theorem markStarted_inst (c : Cmd) (s : State) (i : Nat) : (markStarted c s).inst i = s.inst i := rfl
@[simp] theorem markStarted_alloc (x : Cmd) (s : State) (c : Nat) : (markStarted x s).alloc c = s.alloc c := rfl
@[simp] theorem markStarted_worker (c : Cmd) (s : State) (w : Nat) : (markStarted c s).worker w = s.worker w := rfl
@[simp] theorem markStarted_lane (c : Cmd) (s : State) (n : Nat) : (markStarted c s).lane n = s.lane n := rfl
@[simp] theorem markStarted_blot (c : Cmd) (s : State) (g : Nat) : (markStarted c s).blot g = s.blot g := rfl
@[simp] theorem markStarted_ring (c : Cmd) (s : State) (n : Nat) : (markStarted c s).ring n = s.ring n := rfl
@[simp] theorem markStarted_domain (c : Cmd) (s : State) (d : Nat) : (markStarted c s).domain d = s.domain d := rfl
@[simp] theorem markStarted_queue (c : Cmd) (s : State) (q : Nat) : (markStarted c s).queue q = s.queue q := rfl
@[simp] theorem markStarted_shaper (c : Cmd) (s : State) (n : Nat) : (markStarted c s).shaper n = s.shaper n := rfl
@[simp] theorem markStarted_gate (c : Cmd) (s : State) (p : Nat) : (markStarted c s).gate p = s.gate p := rfl
@[simp] theorem markStarted_policer (c : Cmd) (s : State) (p : Nat) : (markStarted c s).policer p = s.policer p := rfl
@[simp] theorem markStarted_entry (c : Cmd) (s : State) (n : Nat) : (markStarted c s).entry n = s.entry n := rfl
@[simp] theorem markStarted_learnOf (c : Cmd) (s : State) (k : Nat) : (markStarted c s).learnOf k = s.learnOf k := rfl
@[simp] theorem markStarted_output (c : Cmd) (s : State) (o : Nat) : (markStarted c s).output o = s.output o := rfl
@[simp] theorem markStarted_capture (c : Cmd) (s : State) (k : Nat) : (markStarted c s).capture k = s.capture k := rfl
@[simp] theorem markStarted_mac (c : Cmd) (s : State) (h : Nat) : (markStarted c s).mac h = s.mac h := rfl
@[simp] theorem markStarted_timebase (c : Cmd) (s : State) (n : Nat) : (markStarted c s).timebase n = s.timebase n := rfl
@[simp] theorem markStarted_todOf (c : Cmd) (s : State) (i : Nat) : (markStarted c s).todOf i = s.todOf i := rfl
@[simp] theorem markStarted_ptpOf (c : Cmd) (s : State) (h : Nat) : (markStarted c s).ptpOf h = s.ptpOf h := rfl
@[simp] theorem markStarted_trib (c : Cmd) (s : State) (k : Nat) : (markStarted c s).trib k = s.trib k := rfl
@[simp] theorem markStarted_tpath (c : Cmd) (s : State) (p : Nat) : (markStarted c s).tpath p = s.tpath p := rfl
@[simp] theorem markStarted_vcat (c : Cmd) (s : State) (g : Nat) : (markStarted c s).vcat g = s.vcat g := rfl
@[simp] theorem markStarted_circ (x : Cmd) (s : State) (c : Nat) : (markStarted x s).circ c = s.circ c := rfl
@[simp] theorem markStarted_msp (c : Cmd) (s : State) (k : Nat) : (markStarted c s).msp k = s.msp k := rfl
@[simp] theorem markStarted_ownTick (c : Cmd) (s : State) : ownTick (markStarted c s) = ownTick s := rfl

/-! ## Commands that a later row completes -/

theorem Begun.running {op : Nat} {c : Cmd} {s : State} (h : Begun op c s) : running op s = some c := by
  simp [Machine.running, h.alone, h.isOp, h.started]

/-- A command that has begun and runs alone completes: its reply waits for the reply ring, and nothing but the books has changed. -/
theorem Begun.complete {op : Nat} {c : Cmd} {s u : State} (st : Status) (d : Nat) (p : Bytes) (h : Begun op c s)
    (hc : u.cmd = s.cmd) (ht : u.clk.tick = s.clk.tick) :
    Answers c st d p s (Machine.complete c st d p u) ∧ Books u (Machine.complete c st d p u) := by
  obtain ⟨n, hn⟩ := h.ring
  obtain ⟨h1, h2⟩ := complete_alone (c := c) (st := st) (d := d) (p := p) (u := u) (by rw [hc, h.alone]) rfl h.heard h.ontime h.whole hn
  exact ⟨⟨h1, by rw [h2, hc, ht]⟩, complete_books _ _ _ _ _⟩

/-- The row that completes it answers a next state that holds the reply and the effect. -/
theorem Begun.completes {op : Nat} {c : Cmd} {s u : State} {st : Status} {d : Nat} {p : Bytes} {f : State → State} (h : Begun op c s)
    (he : f s = Machine.complete c st d p u) (hc : u.cmd = s.cmd) (ht : u.clk.tick = s.clk.tick) (hp : u.pending = s.pending)
    (hh : u.hot.powered = s.hot.powered) (hb : u.boot.inReset = s.boot.inReset) :
    ∃ t, (Host.Outcome.next (live f s) : Host.Outcome State Fault Refusal) = .next t ∧ Answers c st d p s t ∧ Books u t := by
  refine completes_live h.on ?_
  obtain ⟨a, b⟩ := h.complete st d p hc ht
  rw [he]
  exact ⟨⟨a.ended, a.reply⟩, b.keep hp hh hb⟩

end Sys2Proof.Machine
end

