-- ==== Sys2Proof/Laws/Maps.lean ====
section
/-!
SUPPORT. Sparse maps: a read after a write, and the canonical form that every write keeps.
-/

namespace Sys2Proof.Machine

variable {α : Type}

theorem SMap.get_put_same (d v : α) (k : Nat) (m : SMap α) : SMap.get d (SMap.put k v m) k = v := by
  induction m with
  | nil => simp [SMap.put, SMap.get]
  | cons e m ih =>
    obtain ⟨k', v'⟩ := e
    by_cases h1 : k < k'
    · simp [SMap.put, h1, SMap.get]
    · by_cases h2 : k = k'
      · simp [SMap.put, h2, SMap.get]
      · simp [SMap.put, h1, h2, SMap.get, Ne.symm h2, ih]

theorem SMap.get_put_other (d v : α) {k j : Nat} (h : j ≠ k) (m : SMap α) :
    SMap.get d (SMap.put k v m) j = SMap.get d m j := by
  induction m with
  | nil => simp [SMap.put, SMap.get, Ne.symm h]
  | cons e m ih =>
    obtain ⟨k', v'⟩ := e
    by_cases h1 : k < k'
    · simp [SMap.put, h1, SMap.get, Ne.symm h]
    · by_cases h2 : k = k'
      · subst h2; simp [SMap.put, SMap.get, Ne.symm h]
      · simp [SMap.put, h1, h2, SMap.get, ih]

theorem SMap.get_erase_same (d : α) (k : Nat) (m : SMap α) : SMap.get d (SMap.erase k m) k = d := by
  induction m with
  | nil => rfl
  | cons e m ih =>
    obtain ⟨k', v'⟩ := e
    by_cases h : k' = k <;> simp [SMap.erase, SMap.get, h, ih]

theorem SMap.get_erase_other (d : α) {k j : Nat} (h : j ≠ k) (m : SMap α) :
    SMap.get d (SMap.erase k m) j = SMap.get d m j := by
  induction m with
  | nil => rfl
  | cons e m ih =>
    obtain ⟨k', v'⟩ := e
    by_cases h1 : k' = k
    · subst h1; simp [SMap.erase, SMap.get, Ne.symm h, ih]
    · simp [SMap.erase, h1, SMap.get, ih]

/-- A key reads as written. -/
@[simp] theorem SMap.get_set_same [DecidableEq α] (d v : α) (k : Nat) (m : SMap α) : SMap.get d (SMap.set d m k v) k = v := by
  by_cases h : v = d
  · subst h; simp [SMap.set, SMap.get_erase_same]
  · simp [SMap.set, h, SMap.get_put_same]

/-- Every other key reads as before. -/
theorem SMap.get_set_other [DecidableEq α] (d v : α) {k j : Nat} (h : j ≠ k) (m : SMap α) :
    SMap.get d (SMap.set d m k v) j = SMap.get d m j := by
  by_cases hv : v = d
  · simp [SMap.set, hv, SMap.get_erase_other d h]
  · simp [SMap.set, hv, SMap.get_put_other d v h]

@[simp] theorem SMap.get_modify_same [DecidableEq α] (d : α) (k : Nat) (f : α → α) (m : SMap α) :
    SMap.get d (SMap.modify d m k f) k = f (SMap.get d m k) := by simp [SMap.modify]

theorem SMap.get_modify_other [DecidableEq α] (d : α) {k j : Nat} (h : j ≠ k) (f : α → α) (m : SMap α) :
    SMap.get d (SMap.modify d m k f) j = SMap.get d m j := by simp [SMap.modify, SMap.get_set_other d _ h]

/-! ## The canonical form -/

/-- All keys of a map lie above k. -/
def SMap.above (k : Nat) (m : SMap α) : Prop := ∀ e ∈ m, k < e.1

theorem SMap.wf_cons [DecidableEq α] (d v : α) (k : Nat) (m : SMap α) :
    SMap.wf d ((k, v) :: m) = true ↔ v ≠ d ∧ SMap.wf d m = true ∧ ∀ e ∈ m.head?, k < e.1 := by
  cases m with
  | nil => simp [SMap.wf]
  | cons e m =>
    obtain ⟨k', v'⟩ := e
    simp only [SMap.wf, Bool.and_eq_true, decide_eq_true_eq, List.head?_cons, Option.mem_def, Option.some.injEq, forall_eq']
    tauto

theorem SMap.wf_above [DecidableEq α] (d : α) (m : SMap α) : ∀ (k : Nat) (v : α), SMap.wf d ((k, v) :: m) = true → SMap.above k m := by
  induction m with
  | nil => intro k v _ e he; cases he
  | cons e m ih =>
    intro k v h x hx
    obtain ⟨k', v'⟩ := e
    have h1 := (SMap.wf_cons d v k ((k', v') :: m)).1 h
    have hk : k < k' := h1.2.2 (k', v') (by simp)
    rcases List.mem_cons.1 hx with rfl | hx
    · exact hk
    · exact lt_trans hk (ih k' v' h1.2.1 x hx)

theorem SMap.wf_of_above [DecidableEq α] (d v : α) (k : Nat) (m : SMap α) (hv : v ≠ d) (hm : SMap.wf d m = true) (ha : SMap.above k m) :
    SMap.wf d ((k, v) :: m) = true := by
  refine (SMap.wf_cons d v k m).2 ⟨hv, hm, fun e he => ha e ?_⟩
  cases m with
  | nil => cases he
  | cons x m => simp at he; subst he; simp

theorem SMap.wf_tail [DecidableEq α] (d : α) (e : Nat × α) (m : SMap α) (h : SMap.wf d (e :: m) = true) : SMap.wf d m = true :=
  ((SMap.wf_cons d e.2 e.1 m).1 h).2.1

theorem SMap.erase_sub (k : Nat) (m : SMap α) : ∀ e ∈ SMap.erase k m, e ∈ m := by
  induction m with
  | nil => intro e he; exact he
  | cons x m ih =>
    intro e he
    obtain ⟨k', v'⟩ := x
    by_cases h : k' = k
    · simp only [SMap.erase, h, if_true] at he; exact List.mem_cons_of_mem _ (ih e he)
    · simp only [SMap.erase, h, if_false] at he
      rcases List.mem_cons.1 he with rfl | he
      · simp
      · exact List.mem_cons_of_mem _ (ih e he)

theorem SMap.wf_erase [DecidableEq α] (d : α) (k : Nat) (m : SMap α) (h : SMap.wf d m = true) : SMap.wf d (SMap.erase k m) = true := by
  induction m with
  | nil => exact h
  | cons x m ih =>
    obtain ⟨k', v'⟩ := x
    have ht := SMap.wf_tail d _ m h
    by_cases hk : k' = k
    · simp only [SMap.erase, hk, if_true]; exact ih ht
    · simp only [SMap.erase, hk, if_false]
      refine SMap.wf_of_above d v' k' _ ((SMap.wf_cons d v' k' m).1 h).1 (ih ht) ?_
      intro e he
      exact SMap.wf_above d m k' v' h e (SMap.erase_sub k m e he)

theorem SMap.put_above {j k : Nat} (v : α) (m : SMap α) (hj : j < k) (ha : SMap.above j m) : SMap.above j (SMap.put k v m) := by
  induction m with
  | nil => intro e he; simp [SMap.put] at he; subst he; exact hj
  | cons x m ih =>
    obtain ⟨k', v'⟩ := x
    intro e he
    have ha' : SMap.above j m := fun e he => ha e (List.mem_cons_of_mem _ he)
    by_cases h1 : k < k'
    · simp only [SMap.put, h1, if_true] at he
      rcases List.mem_cons.1 he with rfl | he
      · exact hj
      · exact ha e he
    · by_cases h2 : k = k'
      · subst h2
        simp only [SMap.put, lt_irrefl, if_false, if_true] at he
        rcases List.mem_cons.1 he with rfl | he
        · exact hj
        · exact ha' e he
      · simp only [SMap.put, h1, h2, if_false] at he
        rcases List.mem_cons.1 he with rfl | he
        · exact ha _ (by simp)
        · exact ih ha' e he

theorem SMap.wf_put [DecidableEq α] (d v : α) (k : Nat) (m : SMap α) (hv : v ≠ d) (h : SMap.wf d m = true) :
    SMap.wf d (SMap.put k v m) = true := by
  induction m with
  | nil => simp [SMap.put, SMap.wf, hv]
  | cons x m ih =>
    obtain ⟨k', v'⟩ := x
    have ht := SMap.wf_tail d _ m h
    have hab := SMap.wf_above d m k' v' h
    by_cases h1 : k < k'
    · simp only [SMap.put, h1, if_true]
      refine SMap.wf_of_above d v k _ hv h ?_
      intro e he
      rcases List.mem_cons.1 he with rfl | he
      · exact h1
      · exact lt_trans h1 (hab e he)
    · by_cases h2 : k = k'
      · subst h2
        simp only [SMap.put, lt_irrefl, if_false, if_true]
        exact SMap.wf_of_above d v k m hv ht hab
      · simp only [SMap.put, h1, h2, if_false]
        refine SMap.wf_of_above d v' k' _ ((SMap.wf_cons d v' k' m).1 h).1 (ih ht) ?_
        exact SMap.put_above v m (by omega) hab

/-- A write keeps the canonical form. -/
theorem SMap.wf_set [DecidableEq α] (d v : α) (k : Nat) (m : SMap α) (h : SMap.wf d m = true) : SMap.wf d (SMap.set d m k v) = true := by
  by_cases hv : v = d
  · simp only [SMap.set, hv, if_true]; exact SMap.wf_erase d k m h
  · simp only [SMap.set, hv, if_false]; exact SMap.wf_put d v k m hv h

/-- A change keeps the canonical form. -/
theorem SMap.wf_modify [DecidableEq α] (d : α) (k : Nat) (f : α → α) (m : SMap α) (h : SMap.wf d m = true) :
    SMap.wf d (SMap.modify d m k f) = true := SMap.wf_set d _ k m h

/-- A run of bytes written keeps the canonical form. -/
theorem SMap.wf_setBytes (d : Byte) (bs : Bytes) : ∀ (a : Nat) (m : SMap Byte), SMap.wf d m = true → SMap.wf d (SMap.setBytes d m a bs) = true := by
  induction bs with
  | nil => intro a m h; exact h
  | cons b bs ih => intro a m h; exact ih (a + 1) _ (SMap.wf_set d b a m h)

/-- A byte outside a run written reads as before. -/
theorem SMap.get_setBytes_outside (d : Byte) (bs : Bytes) : ∀ (a j : Nat) (m : SMap Byte), (j < a ∨ a + bs.length ≤ j) →
    SMap.get d (SMap.setBytes d m a bs) j = SMap.get d m j := by
  induction bs with
  | nil => intro a j m _; rfl
  | cons b bs ih =>
    intro a j m h
    simp only [List.length_cons] at h
    rw [SMap.setBytes, ih (a + 1) j _ (by omega), SMap.get_set_other d b (by omega)]

end Sys2Proof.Machine
end

