-- ==== Sys2Proof/Laws/Fibre.lean ====
section
/-!
SUPPORT. What the shared operations of the fibre families can do: a change of an instance, of its state, of the tick channel, and the
withdrawal of what has not launched.
-/

namespace Sys2Proof.Machine

@[simp] theorem inst_setInst_same (s : State) (i : Nat) (v : Inst) : (s.setInst i v).inst i = v := by
  simp [State.inst, State.setInst]

theorem inst_setInst_other (s : State) {i j : Nat} (h : j ≠ i) (v : Inst) : (s.setInst i v).inst j = s.inst j := by
  simp [State.inst, State.setInst, SMap.get_set_other _ _ h]

@[simp] theorem inst_modInst_same (s : State) (i : Nat) (f : Inst → Inst) : (s.modInst i f).inst i = f (s.inst i) := by
  simp [State.modInst]

theorem inst_modInst_other (s : State) {i j : Nat} (h : j ≠ i) (f : Inst → Inst) : (s.modInst i f).inst j = s.inst j := by
  simp [State.modInst, inst_setInst_other s h]

@[simp] theorem alloc_setAlloc_same (s : State) (c : Nat) (v : AllocCtx) : (s.setAlloc c v).alloc c = v := by
  simp [State.alloc, State.setAlloc]

theorem alloc_setAlloc_other (s : State) {c d : Nat} (h : d ≠ c) (v : AllocCtx) : (s.setAlloc c v).alloc d = s.alloc d := by
  simp [State.alloc, State.setAlloc, SMap.get_set_other _ _ h]

@[simp] theorem setAlloc_inst (c i : Nat) (v : AllocCtx) (s : State) : (s.setAlloc c v).inst i = s.inst i := rfl
@[simp] theorem modInst_alloc (c i : Nat) (f : Inst → Inst) (s : State) : (s.modInst i f).alloc c = s.alloc c := rfl
@[simp] theorem setInst_alloc (c i : Nat) (v : Inst) (s : State) : (s.setInst i v).alloc c = s.alloc c := rfl

theorem inst_of_insts {s t : State} (h : t.insts = s.insts) (i : Nat) : t.inst i = s.inst i := by simp [State.inst, h]
theorem alloc_of_allocs {s t : State} (h : t.allocs = s.allocs) (c : Nat) : t.alloc c = s.alloc c := by simp [State.alloc, h]

@[simp] theorem emit_inst (o : Out) (s : State) (x : Nat) : (emit o s).inst x = s.inst x := rfl
@[simp] theorem emit_alloc (o : Out) (s : State) (x : Nat) : (emit o s).alloc x = s.alloc x := rfl
@[simp] theorem count_inst (c : Ctr) (n : Nat) (s : State) (x : Nat) : (count c n s).inst x = s.inst x := inst_of_insts (by simp) x
@[simp] theorem count_alloc (c : Ctr) (n : Nat) (s : State) (x : Nat) : (count c n s).alloc x = s.alloc x := alloc_of_allocs (by simp) x
@[simp] theorem countN_inst (c : Ctr) (j n : Nat) (s : State) (x : Nat) : (countN c j n s).inst x = s.inst x := inst_of_insts (by simp) x
@[simp] theorem countN_alloc (c : Ctr) (j n : Nat) (s : State) (x : Nat) : (countN c j n s).alloc x = s.alloc x := alloc_of_allocs (by simp) x
@[simp] theorem raise_inst (e : Ev) (k i d : Nat) (s : State) (x : Nat) : (raise e k i d s).inst x = s.inst x := inst_of_insts (by simp) x
@[simp] theorem raise_alloc (e : Ev) (k i d : Nat) (s : State) (x : Nat) : (raise e k i d s).alloc x = s.alloc x := alloc_of_allocs (by simp) x
@[simp] theorem complete_inst (c : Cmd) (st : Status) (d : Nat) (p : Bytes) (s : State) (x : Nat) : (complete c st d p s).inst x = s.inst x := inst_of_insts (by simp) x
@[simp] theorem complete_alloc (c : Cmd) (st : Status) (d : Nat) (p : Bytes) (s : State) (x : Nat) : (complete c st d p s).alloc x = s.alloc x := alloc_of_allocs (by simp) x

/-- A PLOAM message that is heard is acted on. -/
theorem Heard.acts {i : Nat} {m : PloamRx} {s : State} (h : Heard i m s) (f : State → State) : withPloam i m f s = f s := by
  have e : examines i s = true := by simp [examines, h.awake]
  have w : fireWake 2 s = s := by simp [fireWake, h.awake]
  unfold withPloam
  simp only [h.synced, h.whole, h.kept, e, h.intact, w]
  rcases h.addressed with a | a <;> simp [a]

/-- The step of a heard PLOAM message. -/
theorem Heard.row {i : Nat} {m : PloamRx} {s : State} (h : Heard i m s) (f : State → State) :
    live (fun s => withPloam i m f s) s = keepOuter s (f s) := by
  rw [live_on h.on, h.acts]

/-- The tick channel changes only where the clock stands and its events. -/
theorem retick_clk (s : State) : Books { s with clk := (retick s).clk } (retick s) := by
  unfold retick
  dsimp only
  split
  · rfl
  · split
    · rfl
    · split
      · rfl
      · exact (Books.refl _).trans (by simp only [raise_clk]; exact raise_books _ _ _ _ _)
    all_goals
      first
      | (split <;> first | rfl | (simp only [raise_clk]; exact raise_books _ _ _ _ _))

theorem Books.withClk {s t : State} (h : Books s t) (k : Clk) : Books { s with clk := k } { t with clk := k } :=
  (congrArg (fun x : State => { x with clk := k }) h.eq :)

theorem retick_tick (s : State) : (retick s).clk.tick = s.clk.tick ∧ (retick s).clk.shift = s.clk.shift ∧
    (retick s).clk.nowPs = s.clk.nowPs ∧ (retick s).clk.t0Ps = s.clk.t0Ps := by
  unfold retick
  dsimp only
  split
  · simp
  · split <;> first | simp | (split <;> simp)

@[simp] theorem retick_cmd (s : State) : (retick s).cmd = s.cmd := by
  unfold retick
  dsimp only
  split
  · rfl
  · split <;> first | rfl | simp | (split <;> simp)

@[simp] theorem retick_ownTick (s : State) : ownTick (retick s) = ownTick s := by
  simp [ownTick, retick_tick]

/-! ## Withdrawal of what has not launched -/

/-- What the withdrawal of bursts of instance i can do from s to t. -/
structure Undone (i : Nat) (s t : State) : Prop where
  rest : t = { s with
    out := t.out, evt := t.evt, cnt := t.cnt, stamps := t.stamps, notes := t.notes, role := t.role, hot := { s.hot with held := t.hot.held }
    insts := t.insts, allocs := t.allocs, lig := t.lig, queues := t.queues, shapers := t.shapers, workers := t.workers }
  own : ∃ a b c d e f, t.inst i = { s.inst i with sched := a, upOwn := b, upHost := c, omcc := d, usSeq := e, laserOn := f }
  other : ∀ j, j ≠ i → ∃ d, t.inst j = { s.inst j with omcc := d }
  lig : ∃ a b c, t.lig = { s.lig with usNext := a, returns := b, cont := c }
  alloc : ∀ c, ∃ k, t.alloc c = { s.alloc c with cont := k }

theorem Undone.refl (i : Nat) (s : State) : Undone i s s :=
  ⟨rfl, ⟨_, _, _, _, _, _, rfl⟩, fun _ _ => ⟨_, rfl⟩, ⟨_, _, _, rfl⟩, fun _ => ⟨_, rfl⟩⟩

theorem Undone.trans {i : Nat} {s t u : State} (h : Undone i s t) (k : Undone i t u) : Undone i s u := by
  refine ⟨?_, ?_, fun j hj => ?_, ?_, fun c => ?_⟩
  · exact Eq.trans k.rest (congrArg (fun x : State => { x with
      out := u.out, evt := u.evt, cnt := u.cnt, stamps := u.stamps, notes := u.notes, role := u.role, hot := { x.hot with held := u.hot.held }
      insts := u.insts, allocs := u.allocs, lig := u.lig, queues := u.queues, shapers := u.shapers, workers := u.workers }) h.rest)
  · obtain ⟨_, _, _, _, _, _, e⟩ := h.own
    obtain ⟨_, _, _, _, _, _, e'⟩ := k.own
    exact ⟨_, _, _, _, _, _, by rw [e', e]⟩
  · obtain ⟨_, e⟩ := h.other j hj
    obtain ⟨_, e'⟩ := k.other j hj
    exact ⟨_, by rw [e', e]⟩
  · obtain ⟨_, _, _, e⟩ := h.lig
    obtain ⟨_, _, _, e'⟩ := k.lig
    exact ⟨_, _, _, by rw [e', e]⟩
  · obtain ⟨_, e⟩ := h.alloc c
    obtain ⟨_, e'⟩ := k.alloc c
    exact ⟨_, by rw [e', e]⟩

/-- Reporting withdraws nothing. -/
theorem Noted.undone {s t : State} (h : Noted s t) (i : Nat) : Undone i s t := by
  have e := h.eq
  have hi : t.insts = s.insts := (congrArg State.insts e :)
  have ha : t.allocs = s.allocs := (congrArg State.allocs e :)
  have hl : t.lig = s.lig := (congrArg State.lig e :)
  refine ⟨?_, ⟨_, _, _, _, _, _, by rw [inst_of_insts hi i]⟩, fun j _ => ⟨_, by rw [inst_of_insts hi j]⟩, ⟨_, _, _, by rw [hl]⟩,
    fun c => ⟨_, by rw [alloc_of_allocs ha c]⟩⟩
  generalize t.out = a, t.evt = b, t.cnt = c, t.stamps = d, t.notes = f, t.role = g, t.hot.held = k at e
  subst e
  rfl

theorem modInst_undone {i : Nat} {f : Inst → Inst} (s : State)
    (h : ∃ a b c d e g, f (s.inst i) = { s.inst i with sched := a, upOwn := b, upHost := c, omcc := d, usSeq := e, laserOn := g }) :
    Undone i s (s.modInst i f) := by
  refine ⟨rfl, ?_, fun j hj => ⟨_, inst_modInst_other s hj f⟩, ⟨_, _, _, rfl⟩, fun _ => ⟨_, rfl⟩⟩
  obtain ⟨_, _, _, _, _, _, e⟩ := h
  exact ⟨_, _, _, _, _, _, by rw [inst_modInst_same, e]⟩

theorem undone_fold {α : Type} (i : Nat) (f : State → α → State) (hf : ∀ s a, Undone i s (f s a)) (l : List α) :
    ∀ s, Undone i s (l.foldl f s) := by
  induction l with
  | nil => intro s; exact Undone.refl i s
  | cons a l ih => intro s; exact (hf s a).trans (ih _)

theorem wakeShapers_eq (l : List Nat) : ∀ s : State, wakeShapers l s = { s with shapers := (wakeShapers l s).shapers } := by
  unfold wakeShapers
  induction l with
  | nil => intro s; rfl
  | cons a l ih =>
    intro s
    simp only [List.foldl_cons]
    split
    · exact Eq.trans (ih _) rfl
    · exact ih s

theorem returnFrames_undone (i q : Nat) (fs : List Frame) (s : State) : Undone i s (returnFrames q fs s) := by
  unfold returnFrames
  split
  · exact Undone.refl i s
  · dsimp only
    rw [wakeShapers_eq]
    unfold noteWaiting
    split <;> exact ⟨rfl, ⟨_, _, _, _, _, _, rfl⟩, fun _ _ => ⟨_, rfl⟩, ⟨_, _, _, rfl⟩, fun _ => ⟨_, rfl⟩⟩

theorem withdrawPull_undone (i w g : Nat) (s : State) : Undone i s (withdrawPull w g s) := by
  unfold withdrawPull
  split
  · exact Undone.refl i s
  · have h : ∀ (f : Worker → Worker), Undone i s (s.modWorker w f) := fun f =>
      ⟨rfl, ⟨_, _, _, _, _, _, rfl⟩, fun _ _ => ⟨_, rfl⟩, ⟨_, _, _, rfl⟩, fun _ => ⟨_, rfl⟩⟩
    dsimp only
    split
    · exact (h _).trans ((putLane_noted _ _ _).undone i)
    · exact (h _).trans ((count_noted _ _ _).undone i)

theorem omcc_undone (i k : Nat) (l : List Bytes) (s : State) :
    Undone i s (s.modInst k (fun x => { x with omcc := l ++ x.omcc })) := by
  by_cases h : k = i
  · subst h; exact modInst_undone s ⟨_, _, _, _, _, _, rfl⟩
  · refine ⟨rfl, ⟨_, _, _, _, _, _, inst_modInst_other s (Ne.symm h) _⟩, fun j _ => ?_, ⟨_, _, _, rfl⟩, fun _ => ⟨_, rfl⟩⟩
    by_cases g : j = k
    · subst g; exact ⟨_, inst_modInst_same s j _⟩
    · exact ⟨_, inst_modInst_other s g _⟩

theorem cont_undone (i c : Nat) (s : State) (v : AllocCtx) (hv : ∃ k, v = { s.alloc c with cont := k }) :
    Undone i s (s.setAlloc c v) := by
  obtain ⟨k', rfl⟩ := hv
  refine ⟨rfl, ⟨_, _, _, _, _, _, rfl⟩, fun _ _ => ⟨_, rfl⟩, ⟨_, _, _, rfl⟩, fun d => ?_⟩
  by_cases h : d = c
  · subst h; exact ⟨k', alloc_setAlloc_same _ _ _⟩
  · exact ⟨_, alloc_setAlloc_other _ h _⟩

theorem lig_undone (i : Nat) (s : State) (v : Lig) (h : ∃ a b c, v = { s.lig with usNext := a, returns := b, cont := c }) :
    Undone i s { s with lig := v } := by
  obtain ⟨a, b, c, rfl⟩ := h
  exact ⟨rfl, ⟨_, _, _, _, _, _, rfl⟩, fun _ _ => ⟨_, rfl⟩, ⟨a, b, c, rfl⟩, fun _ => ⟨_, rfl⟩⟩

theorem frames_undone (i : Nat) (l : List Taken) (s : State) :
    Undone i s (l.foldl (fun s (t : Taken) => returnFrames t.queue [t.frame] s) s) :=
  undone_fold i _ (fun s t => returnFrames_undone i _ _ s) l s

theorem restoreAlloc_undone (i : Nat) (a : Alloc) (s : State) : Undone i s (restoreAlloc a s) := by
  unfold restoreAlloc
  extract_lets u b g v w
  have hw : Undone i v w := by
    unfold w
    split
    · exact Undone.refl i v
    · exact omcc_undone i _ _ v
  exact (((frames_undone i _ s).trans (lig_undone i u _ ⟨_, _, _, rfl⟩)).trans hw).trans (cont_undone i _ w _ ⟨_, rfl⟩)

theorem withdrawAlloc_undone (i : Nat) (a : Alloc) (s : State) : Undone i s (withdrawAlloc a s) := by
  unfold withdrawAlloc
  split
  · exact withdrawPull_undone i _ _ s
  · exact Undone.refl i s

theorem restorePloam_undone (i : Nat) (u : UpItem) (s : State) : Undone i s (restorePloam i u s) := by
  unfold restorePloam
  refine modInst_undone s ?_
  dsimp only
  split <;> split <;> first | exact ⟨_, _, _, _, _, _, rfl⟩ | (split <;> exact ⟨_, _, _, _, _, _, rfl⟩)

theorem untakeBonded_undone (i : Nat) (e : Entry) (s : State) : Undone i s (untakeBonded e s) := by
  unfold untakeBonded
  split
  · dsimp only
    exact (frames_undone i _ s).trans (lig_undone i _ _ ⟨_, _, _, rfl⟩)
  · exact Undone.refl i s

theorem cancelEntry_undone (i : Nat) (e : Entry) (s : State) : Undone i s (cancelEntry i e s) := by
  unfold cancelEntry
  extract_lets u v
  have h1 : Undone i s u := by
    refine undone_fold i _ (fun s a => ?_) _ s
    refine Undone.trans ?_ (withdrawAlloc_undone i _ _)
    split
    · exact restoreAlloc_undone i _ _
    · exact Undone.refl i s
  have h2 : Undone i u v := by
    unfold v
    split
    · exact restorePloam_undone i _ u
    · exact Undone.refl i u
  refine (h1.trans h2).trans ?_
  split
  · exact Undone.refl i v
  · split
    · exact untakeBonded_undone i e v
    · exact (count_noted _ _ _).undone i

/-- What BURST_CANCEL can do (05 R140). -/
theorem cancelBursts_undone (i : Nat) (s : State) : Undone i s (cancelBursts i s) := by
  unfold cancelBursts
  dsimp only
  refine Undone.trans (modInst_undone s ⟨_, _, _, _, _, _, rfl⟩) (undone_fold i _ (fun s e => cancelEntry_undone i e s) _ _)

/-- What a change of state of instance i to st can do (03 R73, R74; 05 R140). -/
structure Entered (i st : Nat) (s t : State) : Prop where
  rest : t = { s with
    out := t.out, evt := t.evt, cnt := t.cnt, stamps := t.stamps, notes := t.notes, role := t.role, hot := { s.hot with held := t.hot.held }
    clk := t.clk, insts := t.insts, allocs := t.allocs, lig := t.lig, queues := t.queues, shapers := t.shapers, workers := t.workers }
  own : ∃ a b c d e f g, t.inst i =
    { s.inst i with st, sleepAllowed := g, sched := a, upOwn := b, upHost := c, omcc := d, usSeq := e, laserOn := f }
  other : ∀ j, j ≠ i → ∃ d, t.inst j = { s.inst j with omcc := d }
  lig : ∃ a b c, t.lig = { s.lig with usNext := a, returns := b, cont := c }
  alloc : ∀ c, ∃ k, t.alloc c = { s.alloc c with cont := k }
  time : t.clk.tick = s.clk.tick ∧ t.clk.shift = s.clk.shift ∧ t.clk.nowPs = s.clk.nowPs ∧ t.clk.t0Ps = s.clk.t0Ps

/-- The tick channel's change is reported beside it. -/
theorem retick_noted (s : State) : Noted { s with clk := (retick s).clk } (retick s) := by
  unfold retick
  dsimp only
  split
  · exact Noted.refl s
  · split
    · exact Noted.refl _
    all_goals split <;> first | exact Noted.refl _ | (simp only [raise_clk]; exact raise_noted _ _ _ _ _)

theorem enterState_entered (i st : Nat) (s : State) : Entered i st s (enterState i st s) := by
  unfold enterState
  dsimp only
  split
  · rename_i h
    exact ⟨rfl, ⟨_, _, _, _, _, _, _, by rw [← h]⟩, fun _ _ => ⟨_, rfl⟩, ⟨_, _, _, rfl⟩, fun _ => ⟨_, rfl⟩, rfl, rfl, rfl, rfl⟩
  · have h1 : ∀ (d : Inst → Bool) (u : State), u = (s.modInst i fun x => { x with st := st, sleepAllowed := d x }) → Entered i st s u := by
      rintro d u rfl
      exact ⟨rfl, ⟨_, _, _, _, _, _, _, by rw [inst_modInst_same]⟩, fun j hj => ⟨_, inst_modInst_other s hj _⟩, ⟨_, _, _, rfl⟩,
        fun _ => ⟨_, rfl⟩, rfl, rfl, rfl, rfl⟩
    have h2 := h1 (fun x => x.sleepAllowed && (decide (st = 0x51) || decide (st = 0x52))) _ rfl
    generalize (s.modInst i fun x => { x with st := st, sleepAllowed := _ }) = u at h2 ⊢
    have h3 : Undone i u (if stateLaunches st then raise .instStateChange 1 i ((s.inst i).st + 256 * st) u
        else cancelBursts i (raise .instStateChange 1 i ((s.inst i).st + 256 * st) u)) := by
      split
      · exact (raise_noted _ _ _ _ _).undone i
      · exact ((raise_noted _ _ _ _ _).undone i).trans (cancelBursts_undone i _)
    generalize (if stateLaunches st = true then _ else _) = v at h3 ⊢
    obtain ⟨a, b, c, d, e, f, e1⟩ := h3.own
    obtain ⟨_, _, _, _, _, _, g, e2⟩ := h2.own
    obtain ⟨r1, r2, r3, e3⟩ := h3.lig
    obtain ⟨_, _, _, e4⟩ := h2.lig
    have e5 := (retick_noted v).eq
    have hi : (retick v).insts = v.insts := (congrArg State.insts e5 :)
    have hl : (retick v).lig = v.lig := (congrArg State.lig e5 :)
    have ha : (retick v).allocs = v.allocs := (congrArg State.allocs e5 :)
    refine ⟨?_, ⟨a, b, c, d, e, f, g, ?_⟩, fun j hj => ?_, ⟨r1, r2, r3, ?_⟩, fun c => ?_, ?_⟩
    · rw [e5, h3.rest, h2.rest]
    · rw [inst_of_insts hi, e1, e2]
    · obtain ⟨d, e6⟩ := h3.other j hj
      obtain ⟨_, e7⟩ := h2.other j hj
      exact ⟨d, by rw [inst_of_insts hi, e6, e7]⟩
    · rw [hl, e3, e4]
    · obtain ⟨k, e6⟩ := h3.alloc c
      obtain ⟨_, e7⟩ := h2.alloc c
      exact ⟨k, by rw [alloc_of_allocs ha, e6, e7]⟩
    · have h4 := retick_tick v
      have h5 := h2.time
      have h6 : v.clk = u.clk := (congrArg State.clk h3.rest :)
      rw [h6] at h4
      exact ⟨h4.1.trans h5.1, h4.2.1.trans h5.2.1, h4.2.2.1.trans h5.2.2.1, h4.2.2.2.trans h5.2.2.2⟩

@[simp] theorem enterState_st (i st : Nat) (s : State) : ((enterState i st s).inst i).st = st := by
  obtain ⟨_, _, _, _, _, _, _, e⟩ := (enterState_entered i st s).own
  rw [e]

@[simp] theorem enterState_cmd (i st : Nat) (s : State) : (enterState i st s).cmd = s.cmd :=
  (congrArg State.cmd (enterState_entered i st s).rest :)

@[simp] theorem enterState_tick (i st : Nat) (s : State) : (enterState i st s).clk.tick = s.clk.tick := (enterState_entered i st s).time.1

@[simp] theorem enterState_ownTick (i st : Nat) (s : State) : ownTick (enterState i st s) = ownTick s := by
  have h := (enterState_entered i st s).time
  simp [ownTick, h.2.1]

/-- Into a state that may launch: only the state changes, and the tick channel follows. -/
theorem enterState_launching {i st : Nat} {s : State} (hl : stateLaunches st = true) (hn : (s.inst i).st ≠ st) :
    Books { s.modInst i (fun x => { x with st, sleepAllowed := x.sleepAllowed && (decide (st = 0x51) || decide (st = 0x52)) }) with
            clk := (enterState i st s).clk } (enterState i st s) := by
  unfold enterState
  simp only [hn, hl, if_true, if_false]
  exact Books.trans ((raise_books _ _ _ _ _).withClk _) (retick_clk _)

@[simp] theorem retick_inst (s : State) (j : Nat) : (retick s).inst j = s.inst j :=
  inst_of_insts (congrArg State.insts (retick_noted s).eq :) j

/-- A change of state of an instance that has nothing to launch: only the state, the sleep permission and the light of the instance change. -/
theorem enterState_idle {i st : Nat} {s : State} (hs : (s.inst i).sched = []) (hn : (s.inst i).st ≠ st) :
    (enterState i st s).inst i =
      { s.inst i with st, sleepAllowed := (s.inst i).sleepAllowed && (decide (st = 0x51) || decide (st = 0x52))
                      laserOn := (s.inst i).laserOn && stateLaunches st } := by
  unfold enterState
  simp only [hn, if_false]
  rw [retick_inst]
  have hr : ∀ (e : Ev) (k j d : Nat) (u : State), (raise e k j d u).inst i = u.inst i := fun e k j d u => inst_of_insts (raise_insts _ _ _ _ _) i
  rcases hl : stateLaunches st with _ | _
  · have hc : ∀ u : State, (u.inst i).sched = [] → (cancelBursts i u).inst i = { u.inst i with laserOn := false } := by
      intro u hu
      unfold cancelBursts
      simp [hu]
    simp only [Bool.false_eq_true, if_false]
    rw [hc _ (by rw [hr, inst_modInst_same]; exact hs), hr, inst_modInst_same]
    simp
  · simp only [if_true]
    rw [hr, inst_modInst_same]
    simp

@[simp] theorem removeMember_none {i : Nat} {s : State} (h : s.lig.phase = .none) : removeMember i s = s := by simp [removeMember, h]

/-- Freeing the slots of an instance leaves the instances. -/
@[simp] theorem freeSlots_cmd (i : Nat) (s : State) : (freeSlots i s).cmd = s.cmd := rfl
@[simp] theorem freeSlots_inst (i j : Nat) (s : State) : (freeSlots i s).inst j = s.inst j := rfl

/-- No host PLOAM waits, and those in prepared bursts are gone. -/
theorem failHostPloam_inst (i j : Nat) (s : State) :
    (failHostPloam i s).inst j = (s.modInst i (fun x => { x with upHost := [], sched := x.sched.map Entry.orphaned })).inst j := by
  unfold failHostPloam
  dsimp only
  have h : ∀ (l : List Cmd) (u : State), (l.foldl (fun s c => complete c .notFound 0 [] s) u).insts = u.insts := by
    intro l
    induction l with
    | nil => intro u; rfl
    | cons a l ih => intro u; simp [ih]
  exact inst_of_insts (h _ _) j

/-- ONU-ID and EqD are gone, and no host PLOAM waits. -/
theorem dropIdentity_inst (i : Nat) (s : State) :
    (dropIdentity i s).inst i =
      { s.inst i with onuId := none, eqd := 0, to1 := none, upOwn := [], upHost := [], sched := (s.inst i).sched.map Entry.orphaned } := by
  unfold dropIdentity
  rw [failHostPloam_inst]
  simp

theorem dropIdentity_other {i j : Nat} (h : j ≠ i) (s : State) : (dropIdentity i s).inst j = s.inst j := by
  unfold dropIdentity
  rw [failHostPloam_inst, inst_modInst_other _ h]
  simp [inst_modInst_other _ h]

theorem dropIdentity_cmd {i : Nat} {s : State} (h : (s.inst i).upHost = []) (g : (s.inst i).sched = []) : (dropIdentity i s).cmd = s.cmd := by
  simp [dropIdentity, failHostPloam, h, g]

theorem dropIdentity_rest (i : Nat) (s : State) :
    Books { s with insts := (dropIdentity i s).insts, allocs := (dropIdentity i s).allocs } (dropIdentity i s) := by
  unfold dropIdentity failHostPloam
  dsimp only
  have h : ∀ (l : List Cmd) (u : State), Books u (l.foldl (fun s c => complete c .notFound 0 [] s) u) :=
    fun l u => foldl_books _ (fun s c => complete_books _ _ _ _ _) l u
  refine Books.trans ?_ (h _ _)
  simp only [(h _ _).insts, (h _ _).allocs]
  rfl

@[simp] theorem dropIdentity_clk (i : Nat) (s : State) : (dropIdentity i s).clk = s.clk := (dropIdentity_rest i s).clk
@[simp] theorem dropIdentity_lig (i : Nat) (s : State) : (dropIdentity i s).lig = s.lig := (dropIdentity_rest i s).lig

theorem goDark_eq (i : Nat) (s : State) : goDark i s = { s with out := (goDark i s).out } := by
  unfold goDark
  split <;> rfl

@[simp] theorem goDark_inst (i j : Nat) (s : State) : (goDark i s).inst j = s.inst j := inst_of_insts (congrArg State.insts (goDark_eq i s) :) j

@[simp] theorem laserOff_inst (i : Nat) (s : State) :
    (laserOff i s).inst i = { s.inst i with txLocked := false, txGrid := none, fine := 0, fineNext := none } := by
  unfold laserOff goDark
  split <;> simp

theorem laserOff_other {i j : Nat} (h : j ≠ i) (s : State) : (laserOff i s).inst j = s.inst j := by
  unfold laserOff
  rw [goDark_inst, inst_modInst_other s h]

theorem laserOff_outer (i : Nat) (s : State) : Outer s (laserOff i s) := by
  unfold laserOff
  rw [goDark_eq]
  exact ⟨rfl, rfl, rfl⟩

theorem goDark_lig (i : Nat) (s : State) : (goDark i s).lig = s.lig := (congrArg State.lig (goDark_eq i s) :)

theorem laserOff_lig (i : Nat) (s : State) : (laserOff i s).lig = s.lig := goDark_lig i _

theorem Noted.outer {s t : State} (h : Noted s t) : Outer s t := h.books.outer

theorem Undone.outer {i : Nat} {s t : State} (h : Undone i s t) : Outer s t :=
  ⟨(congrArg State.pending h.rest :), (congrArg (fun x => x.hot.powered) h.rest :), (congrArg State.boot h.rest :)⟩

theorem Entered.outer {i st : Nat} {s t : State} (h : Entered i st s t) : Outer s t :=
  ⟨(congrArg State.pending h.rest :), (congrArg (fun x => x.hot.powered) h.rest :), (congrArg State.boot h.rest :)⟩

theorem enterState_outer (i st : Nat) (s : State) : Outer s (enterState i st s) := (enterState_entered i st s).outer

theorem dropIdentity_outer (i : Nat) (s : State) : Outer s (dropIdentity i s) :=
  Outer.trans (t := { s with insts := (dropIdentity i s).insts, allocs := (dropIdentity i s).allocs }) ⟨rfl, rfl, rfl⟩ (dropIdentity_rest i s).outer

theorem modInst_outer (i : Nat) (f : Inst → Inst) (s : State) : Outer s (s.modInst i f) := ⟨rfl, rfl, rfl⟩

theorem foldl_outer {α : Type} (f : State → α → State) (hf : ∀ s a, Outer s (f s a)) (l : List α) : ∀ s, Outer s (l.foldl f s) := by
  induction l with
  | nil => exact Outer.refl
  | cons a l ih => intro s; exact (hf s a).trans (ih _)

/-- An instance that yields its laser's wavelength leaves every other's fields, but for OMCI messages that a cancelled burst gives back. -/
theorem yieldTx_other {i j : Nat} (h : j ≠ i) (s : State) : ∃ d, (yieldTx i s).inst j = { s.inst j with omcc := d } := by
  unfold yieldTx
  dsimp only
  have hr : ∀ u : State, (raise .usWlConflict 1 i 0 u).inst j = u.inst j := fun u => inst_of_insts (raise_insts _ _ _ _ _) j
  rw [hr, laserOff_other h]
  split
  · exact (enterState_entered i _ s).other j h
  · split
    · exact (enterState_entered i _ s).other j h
    · exact ⟨_, rfl⟩

theorem yieldTx_outer (i : Nat) (s : State) : Outer s (yieldTx i s) := by
  unfold yieldTx
  dsimp only
  refine Outer.trans (Outer.trans ?_ (laserOff_outer i _)) (raise_noted _ _ _ _ _).outer
  split
  · exact enterState_outer _ _ _
  · split
    · exact enterState_outer _ _ _
    · exact Outer.refl s

theorem yieldTxs_other {i : Nat} (l : List Nat) (h : ∀ j ∈ l, i ≠ j) :
    ∀ s : State, ∃ d, (l.foldl (fun s j => yieldTx j s) s).inst i = { s.inst i with omcc := d } := by
  induction l with
  | nil => intro s; exact ⟨_, rfl⟩
  | cons a l ih =>
    intro s
    obtain ⟨_, e⟩ := yieldTx_other (h a (List.mem_cons_self)) s
    obtain ⟨d, e'⟩ := ih (fun j hj => h j (List.mem_cons_of_mem _ hj)) (yieldTx a s)
    exact ⟨d, by rw [List.foldl_cons, e', e]⟩

/-- What tuning the laser to an index leaves of its instance (03 R69, R70). -/
theorem takeTx_inst (i : Nat) (g : Int) (s : State) : ∃ d, (takeTx i g s).inst i =
    { s.inst i with txGrid := some g, txLocked := false, fine := 0, fineNext := none, txClock := clockNo s, omcc := d } := by
  unfold takeTx
  dsimp only
  obtain ⟨d, e⟩ := yieldTxs_other (i := i) ((List.range 4).filter (fun j => decide (j ≠ i) && decide ((s.inst j).txGrid = some g)))
    (fun j hj => by have k := (List.mem_filter.1 hj).2; simp at k; exact fun e => k.1 e.symm) (tuneTx i (some g) s)
  exact ⟨d, by rw [e, tuneTx, inst_modInst_same]⟩

theorem takeTx_outer (i : Nat) (g : Int) (s : State) : Outer s (takeTx i g s) := by
  unfold takeTx
  exact Outer.trans (modInst_outer i _ s) (foldl_outer _ (fun s j => yieldTx_outer j s) _ _)

theorem useProfile_learned (i : Nat) (p : Profile) (s : State) :
    ((useProfile i p s).inst i).burst = (s.inst i).burst ∧ ((useProfile i p s).inst i).profiles = (s.inst i).profiles := by
  unfold useProfile
  dsimp only
  split
  · simp
  · obtain ⟨d, e⟩ := takeTx_inst i p.usGrid (s.modInst i fun x => { x with usChId := p.usChId, dsChId := p.dsChId, usRate := p.usRate })
    rw [e]
    simp

theorem useProfile_outer (i : Nat) (p : Profile) (s : State) : Outer s (useProfile i p s) := by
  unfold useProfile
  dsimp only
  split
  · exact modInst_outer i _ s
  · exact (modInst_outer i _ s).trans (takeTx_outer _ _ _)

/-- What PROFILE_LEARNING_COMPLETE leaves: what has been learned (03 Table 3.4). -/
theorem tryProfiles_learned (i : Nat) (q : Bool) (s : State) :
    ((tryProfiles i q s).inst i).burst = (s.inst i).burst ∧ ((tryProfiles i q s).inst i).profiles = (s.inst i).profiles := by
  unfold tryProfiles
  extract_lets x ps held u
  have hu : u.inst i = s.inst i := by
    unfold u
    split
    · rfl
    · exact inst_of_insts (raise_insts _ _ _ _ _) i
  split
  · split
    · rename_i p _
      obtain ⟨_, _, _, _, _, _, _, e⟩ := (enterState_entered i (if x.st = 0x12 then 0x23 else 0x90) (useProfile i p u)).own
      rw [e]
      have h := useProfile_learned i p u
      rw [hu] at h
      exact h
    · rw [hu]; exact ⟨rfl, rfl⟩
  · exact ⟨rfl, rfl⟩

theorem tryProfiles_outer (i : Nat) (q : Bool) (s : State) : Outer s (tryProfiles i q s) := by
  unfold tryProfiles
  extract_lets x ps held u
  have hu : Outer s u := by
    unfold u
    split
    · exact Outer.refl s
    · exact (raise_noted _ _ _ _ _).outer
  split
  · split
    · exact (hu.trans (useProfile_outer _ _ _)).trans (enterState_outer _ _ _)
    · exact hu
  · exact Outer.refl s

/-- What the release of a slot can do beside its instances and contexts (05 R129). -/
def Freed (s t : State) : Prop :=
  t = { s with
    out := t.out, evt := t.evt, cnt := t.cnt, stamps := t.stamps, notes := t.notes, role := t.role, hot := { s.hot with held := t.hot.held }
    workers := t.workers }

theorem Freed.trans {s t u : State} (h : Freed s t) (k : Freed t u) : Freed s u :=
  Eq.trans k (congrArg (fun x : State => { x with
    out := u.out, evt := u.evt, cnt := u.cnt, stamps := u.stamps, notes := u.notes, role := u.role, hot := { x.hot with held := u.hot.held }
    workers := u.workers }) h)

theorem Noted.freed {s t : State} (h : Noted s t) : Freed s t := by
  have e := h.eq
  generalize t.out = a, t.evt = b, t.cnt = c, t.stamps = d, t.notes = f, t.role = g, t.hot.held = k at e
  subst e
  rfl

theorem Freed.insts {s t : State} (h : Freed s t) : t.insts = s.insts := (congrArg State.insts h :)
theorem Freed.allocs {s t : State} (h : Freed s t) : t.allocs = s.allocs := (congrArg State.allocs h :)

theorem Freed.books {s t : State} (h : Freed s t) : Books { s with workers := t.workers } t := by
  have e : t = _ := h
  generalize t.out = a, t.evt = b, t.cnt = c, t.stamps = d, t.notes = f, t.role = g, t.hot.held = k, t.workers = w at e ⊢
  subst e
  rfl

theorem withdrawAlloc_freed (a : Alloc) (s : State) : Freed s (withdrawAlloc a s) := by
  have h : ∀ (w : Nat) (f : Worker → Worker), Freed s (s.modWorker w f) := fun _ _ => rfl
  unfold withdrawAlloc
  split
  · unfold withdrawPull
    split
    · rfl
    · dsimp only
      split
      · exact (h _ _).trans (putLane_noted _ _ _).freed
      · exact (h _ _).trans (count_noted _ _ _).freed
  · rfl

theorem withdrawAllocs_freed (l : List Alloc) : ∀ s : State, Freed s (l.foldl (fun s g => withdrawAlloc g s) s) := by
  induction l with
  | nil => intro s; rfl
  | cons a l ih => intro s; exact (withdrawAlloc_freed a s).trans (ih _)

theorem Books.withSlots {s t : State} (h : Books s t) (a : SMap Inst) (b : SMap AllocCtx) :
    Books { s with insts := a, allocs := b } { t with insts := a, allocs := b } :=
  (congrArg (fun x : State => { x with insts := a, allocs := b }) h.eq :)

theorem releaseSlot_rest (c : Nat) (s : State) :
    Books { s with insts := (releaseSlot c s).insts, allocs := (releaseSlot c s).allocs, workers := (releaseSlot c s).workers }
      (releaseSlot c s) := by
  generalize ht : releaseSlot c s = t
  unfold releaseSlot at ht
  extract_lets a at ht
  split at ht
  · rename_i i mine gone u v w x recent _
    subst ht
    have h1 := (withdrawAllocs_freed gone s).books
    have h2 : Books v x := Books.trans (countN_noted _ _ _ _).books (raise_noted _ _ _ _ _).books
    have hw : x.workers = u.workers := h2.workers
    generalize ha : ((x.modInst i recent).setAlloc c _).insts = a, hb : ((x.modInst i recent).setAlloc c _).allocs = b
    have e : (x.modInst i recent).setAlloc c
        { skipped := (s.alloc c).skipped + gone.length, granted := (s.alloc c).granted, grantedNow := (s.alloc c).grantedNow,
          mapBytes := (s.alloc c).mapBytes } = { x with insts := a, allocs := b } := by rw [← ha, ← hb]; rfl
    rw [e]
    show Books { s with insts := a, allocs := b, workers := x.workers } _
    have h3 : Books { u with insts := a, allocs := b } { x with insts := a, allocs := b } := h2.withSlots a b
    have h1' : Books { s with workers := u.workers } u := h1
    rw [← hw] at h1'
    exact (h1'.withSlots a b).trans h3
  · subst ht; rfl

theorem releaseSlot_inst (c j : Nat) (s : State) :
    ∃ a b, (releaseSlot c s).inst j = { s.inst j with sched := a, recent := b } := by
  generalize ht : releaseSlot c s = t
  unfold releaseSlot at ht
  extract_lets a at ht
  split at ht
  · rename_i i mine gone u v w x recent _
    subst ht
    have hu : u.inst j = s.inst j := inst_of_insts (withdrawAllocs_freed gone s).insts j
    have hx : x.inst j = v.inst j := by rw [raise_inst, countN_inst]
    rw [setAlloc_inst]
    by_cases h : j = i
    · subst h
      rw [inst_modInst_same, hx, inst_modInst_same, hu]
      exact ⟨_, _, rfl⟩
    · rw [inst_modInst_other _ h, hx, inst_modInst_other _ h, hu]
      exact ⟨_, _, rfl⟩
  · subst ht; exact ⟨_, _, rfl⟩

theorem enterState_launching_inst {i st : Nat} {s : State} (hl : stateLaunches st = true) (hn : (s.inst i).st ≠ st) :
    (enterState i st s).inst i =
      { s.inst i with st, sleepAllowed := (s.inst i).sleepAllowed && (decide (st = 0x51) || decide (st = 0x52)) } := by
  unfold enterState
  simp only [hn, hl, if_true, if_false]
  rw [retick_inst, raise_inst, inst_modInst_same]

theorem yieldRx_lig (i : Nat) (s : State) : (yieldRx i s).lig = s.lig ∧ Outer s (yieldRx i s) := by
  unfold yieldRx tuneRx
  dsimp only
  split
  · exact ⟨rfl, rfl, rfl, rfl⟩
  · exact ⟨by simp, (modInst_outer i _ s).trans (raise_noted _ _ _ _ _).outer⟩

theorem yieldRx_other {i j : Nat} (h : j ≠ i) (s : State) : (yieldRx i s).inst j = s.inst j := by
  unfold yieldRx tuneRx
  dsimp only
  split
  · rw [inst_modInst_other _ h, inst_modInst_other _ h]
  · rw [raise_inst, inst_modInst_other _ h]

theorem yieldRxs_facts {i : Nat} (l : List Nat) (h : ∀ j ∈ l, i ≠ j) : ∀ s : State,
    (l.foldl (fun s j => yieldRx j s) s).inst i = s.inst i ∧ (l.foldl (fun s j => yieldRx j s) s).lig = s.lig ∧
      Outer s (l.foldl (fun s j => yieldRx j s) s) := by
  induction l with
  | nil => intro s; exact ⟨rfl, rfl, Outer.refl s⟩
  | cons a l ih =>
    intro s
    obtain ⟨e1, e2, e3⟩ := ih (fun j hj => h j (List.mem_cons_of_mem _ hj)) (yieldRx a s)
    rw [List.foldl_cons]
    exact ⟨e1.trans (yieldRx_other (h a List.mem_cons_self) s), e2.trans (yieldRx_lig a s).1, (yieldRx_lig a s).2.trans e3⟩

/-- What tuning the receiver to an index can do to its instance (03 R68, R70). -/
theorem takeRx_facts (i : Nat) (g : Int) (q : Bool) (s : State) :
    (∃ a b c, (takeRx i g q s).inst i = { s.inst i with rxGrid := a, rxLocked := b, rxClock := c }) ∧ (takeRx i g q s).lig = s.lig ∧
      Outer s (takeRx i g q s) := by
  unfold takeRx
  split
  · extract_lets u
    have hu : u.inst i = s.inst i ∧ u.lig = s.lig ∧ Outer s u := by
      unfold u
      split
      · exact ⟨rfl, rfl, Outer.refl s⟩
      · exact ⟨by simp, by simp, (raise_noted _ _ _ _ _).outer⟩
    split
    · exact ⟨⟨_, _, _, by rw [hu.1]⟩, hu.2⟩
    · exact ⟨⟨none, false, _, by rw [tuneRx, inst_modInst_same, hu.1]⟩, hu.2.1, hu.2.2.trans (modInst_outer i _ u)⟩
  · dsimp only
    obtain ⟨e1, e2, e3⟩ := yieldRxs_facts (i := i)
      ((List.range 4).filter (fun j => decide (j ≠ i) && decide ((s.inst j).rxGrid = some g))) (fun j hj => by have k := (List.mem_filter.1 hj).2; simp at k; exact fun e => k.1 e.symm) (tuneRx i (some g) s)
    exact ⟨⟨some g, false, _, by rw [e1, tuneRx, inst_modInst_same]⟩, e2, (modInst_outer i _ s).trans e3⟩

/-- What going on to hunt can do to its instance (03 R71, R78). -/
theorem resumeHunt_facts (i : Nat) (s : State) :
    (∃ a b c d e, (resumeHunt i s).inst i = { s.inst i with rxGrid := a, rxLocked := b, rxClock := c, dwell := d, scan := e }) ∧
      (resumeHunt i s).lig = s.lig ∧ Outer s (resumeHunt i s) := by
  unfold resumeHunt
  extract_lets u
  have take : ∀ (g : Int) (e : Nat), (∃ a b c d e', (takeRx i g false (u.modInst i fun x => { x with scan := e })).inst i =
      { s.inst i with rxGrid := a, rxLocked := b, rxClock := c, dwell := d, scan := e' }) := by
    intro g e
    obtain ⟨⟨a, b, c, h⟩, -, -⟩ := takeRx_facts i g false (u.modInst i fun x => { x with scan := e })
    exact ⟨a, b, c, ownTick s, e, by rw [h, inst_modInst_same, inst_modInst_same]⟩
  split
  · split
    · exact ⟨⟨_, _, _, ownTick s, _, inst_modInst_same s i _⟩, rfl, modInst_outer i _ s⟩
    · rename_i g _ _
      obtain ⟨⟨a, b, c, h⟩, h2, h3⟩ := takeRx_facts i g false u
      exact ⟨⟨a, b, c, ownTick s, _, by rw [h, inst_modInst_same]⟩, h2, (modInst_outer i _ s).trans h3⟩
  · split
    · exact ⟨⟨_, _, _, ownTick s, _, inst_modInst_same s i _⟩, rfl, modInst_outer i _ s⟩
    · have h := takeRx_facts i (scanOrder.getD (nextScan i (u.inst i).scan u) 0) false
        (u.modInst i fun x => { x with scan := nextScan i (u.inst i).scan u })
      exact ⟨take _ _, h.2.1, ((modInst_outer i _ s).trans (modInst_outer i _ u)).trans h.2.2⟩

/-- What putting the laser out and forgetting the burst profiles does to an instance (03 R74). -/
theorem laserOut_facts (i : Nat) (s : State) :
    (laserOff i (dropBurstProfiles i s)).inst i =
        { (s.inst i) with burst := [], txLocked := false, txGrid := none, fine := 0, fineNext := none } ∧
      (laserOff i (dropBurstProfiles i s)).lig = s.lig ∧ Outer s (laserOff i (dropBurstProfiles i s)) := by
  refine ⟨?_, laserOff_lig i _, (modInst_outer i _ s).trans (laserOff_outer i _)⟩
  rw [laserOff_inst, dropBurstProfiles, inst_modInst_same]

/-- What the state O1.1 entered goes on to: O1.2 at once where synchronisation is held, else the hunt (03 Table 3.4). -/
theorem enterO11_rest {i : Nat} {s v w : State} (hl : s.lig.phase = .none)
    (hv : (v.inst i).sync.state = (s.inst i).sync.state ∧ (v.inst i).tune = none ∧ (v.inst i).txLocked = false) (hvl : v.lig = s.lig)
    (hvo : Outer s v) (he : Entered i 0x11 v w) :
    let t := if (w.inst i).sync.state = 2 then enterState i 0x12 w else resumeHunt i w
    (t.inst i).st = (if (s.inst i).sync.state = 2 then 0x12 else 0x11) ∧ (t.inst i).tune = none ∧ (t.inst i).txLocked = false ∧
      t.lig.phase = .none ∧ Outer s t := by
  intro t
  unfold t
  obtain ⟨_, _, _, _, _, _, _, e⟩ := he.own
  obtain ⟨_, _, _, e'⟩ := he.lig
  have hwl : w.lig.phase = .none := (congrArg Lig.phase e' :).trans ((congrArg Lig.phase hvl :).trans hl)
  have hs : (w.inst i).sync.state = (s.inst i).sync.state := (congrArg (fun x : Inst => x.sync.state) e :).trans hv.1
  have ht : (w.inst i).tune = none := (congrArg Inst.tune e :).trans hv.2.1
  have hx : (w.inst i).txLocked = false := (congrArg Inst.txLocked e :).trans hv.2.2
  have hw : Outer s w := hvo.trans he.outer
  rw [hs]
  split
  · have he2 := enterState_entered i 0x12 w
    obtain ⟨_, _, _, _, _, _, _, e2⟩ := he2.own
    obtain ⟨_, _, _, e2'⟩ := he2.lig
    exact ⟨enterState_st _ _ _, (congrArg Inst.tune e2 :).trans ht, (congrArg Inst.txLocked e2 :).trans hx,
      (congrArg Lig.phase e2' :).trans hwl, hw.trans he2.outer⟩
  · obtain ⟨⟨_, _, _, _, _, e2⟩, e3, e4⟩ := resumeHunt_facts i w
    rw [e2, e3]
    exact ⟨(congrArg Inst.st e :), ht, hx, hwl, hw.trans e4⟩

/-- What entering O1.1 from another state does (03 Table 3.4). -/
theorem enterO11_facts (i : Nat) (s : State) (hl : s.lig.phase = .none) :
    ((enterO11 i s).inst i).st = (if (s.inst i).sync.state = 2 then 0x12 else 0x11) ∧ ((enterO11 i s).inst i).tune = none ∧
      ((enterO11 i s).inst i).txLocked = false ∧ (enterO11 i s).lig.phase = .none ∧ Outer s (enterO11 i s) := by
  obtain ⟨hu, hul, huo⟩ := laserOut_facts i s
  unfold enterO11
  extract_lets u v w
  have hv : (v.inst i).sync.state = (s.inst i).sync.state ∧ (v.inst i).tune = none ∧ (v.inst i).txLocked = false := by
    rw [inst_modInst_same]
    exact ⟨congrArg (fun x => x.sync.state) hu, rfl, congrArg Inst.txLocked hu⟩
  have hvl : v.lig = s.lig := (State.modInst_lig i _ u).trans hul
  have hvo : Outer s v := huo.trans (modInst_outer i _ u)
  have he : Entered i 0x11 v w := enterState_entered i 0x11 v
  clear_value w
  clear_value v
  clear_value u
  exact enterO11_rest hl hv hvl hvo he

end Sys2Proof.Machine
end

