-- ==== Sys2Proof/Laws/Records.lean ====
section
/-!
SUPPORT. The records of State that are kept by number (lanes, queues, workers and so on): what is read back after one of them has
been written, and what an advance of the present instant leaves.
-/

namespace Sys2Proof.Machine

@[simp] theorem worker_setWorker_same (s : State) (n : Nat) (v : Worker) : (s.setWorker n v).worker n = v := by
  simp [State.worker, State.setWorker]

theorem worker_setWorker_other (s : State) {n k : Nat} (h : k ≠ n) (v : Worker) : (s.setWorker n v).worker k = s.worker k := by
  simp [State.worker, State.setWorker, SMap.get_set_other _ _ h]

@[simp] theorem lane_setLane_same (s : State) (n : Nat) (v : Lane) : (s.setLane n v).lane n = v := by
  simp [State.lane, State.setLane]

theorem lane_setLane_other (s : State) {n k : Nat} (h : k ≠ n) (v : Lane) : (s.setLane n v).lane k = s.lane k := by
  simp [State.lane, State.setLane, SMap.get_set_other _ _ h]

@[simp] theorem blot_setBlot_same (s : State) (n : Nat) (v : BlotGroup) : (s.setBlot n v).blot n = v := by
  simp [State.blot, State.setBlot]

theorem blot_setBlot_other (s : State) {n k : Nat} (h : k ≠ n) (v : BlotGroup) : (s.setBlot n v).blot k = s.blot k := by
  simp [State.blot, State.setBlot, SMap.get_set_other _ _ h]

@[simp] theorem ring_setRing_same (s : State) (n : Nat) (v : Ring) : (s.setRing n v).ring n = v := by
  simp [State.ring, State.setRing]

theorem ring_setRing_other (s : State) {n k : Nat} (h : k ≠ n) (v : Ring) : (s.setRing n v).ring k = s.ring k := by
  simp [State.ring, State.setRing, SMap.get_set_other _ _ h]

@[simp] theorem domain_setDomain_same (s : State) (n : Nat) (v : Domain) : (s.setDomain n v).domain n = v := by
  simp [State.domain, State.setDomain]

theorem domain_setDomain_other (s : State) {n k : Nat} (h : k ≠ n) (v : Domain) : (s.setDomain n v).domain k = s.domain k := by
  simp [State.domain, State.setDomain, SMap.get_set_other _ _ h]

@[simp] theorem queue_setQueue_same (s : State) (n : Nat) (v : Queue) : (s.setQueue n v).queue n = v := by
  simp [State.queue, State.setQueue]

theorem queue_setQueue_other (s : State) {n k : Nat} (h : k ≠ n) (v : Queue) : (s.setQueue n v).queue k = s.queue k := by
  simp [State.queue, State.setQueue, SMap.get_set_other _ _ h]

@[simp] theorem shaper_setShaper_same (s : State) (n : Nat) (v : Shaper) : (s.setShaper n v).shaper n = v := by
  simp [State.shaper, State.setShaper]

theorem shaper_setShaper_other (s : State) {n k : Nat} (h : k ≠ n) (v : Shaper) : (s.setShaper n v).shaper k = s.shaper k := by
  simp [State.shaper, State.setShaper, SMap.get_set_other _ _ h]

@[simp] theorem gate_setGate_same (s : State) (n : Nat) (v : Gate) : (s.setGate n v).gate n = v := by
  simp [State.gate, State.setGate]

theorem gate_setGate_other (s : State) {n k : Nat} (h : k ≠ n) (v : Gate) : (s.setGate n v).gate k = s.gate k := by
  simp [State.gate, State.setGate, SMap.get_set_other _ _ h]

@[simp] theorem output_setOutput_same (s : State) (n : Nat) (v : OutCh) : (s.setOutput n v).output n = v := by
  simp [State.output, State.setOutput]

theorem output_setOutput_other (s : State) {n k : Nat} (h : k ≠ n) (v : OutCh) : (s.setOutput n v).output k = s.output k := by
  simp [State.output, State.setOutput, SMap.get_set_other _ _ h]

@[simp] theorem capture_setCapture_same (s : State) (n : Nat) (v : Capture) : (s.setCapture n v).capture n = v := by
  simp [State.capture, State.setCapture]

theorem capture_setCapture_other (s : State) {n k : Nat} (h : k ≠ n) (v : Capture) : (s.setCapture n v).capture k = s.capture k := by
  simp [State.capture, State.setCapture, SMap.get_set_other _ _ h]

@[simp] theorem mac_setMac_same (s : State) (n : Nat) (v : Mac) : (s.setMac n v).mac n = v := by
  simp [State.mac, State.setMac]

theorem mac_setMac_other (s : State) {n k : Nat} (h : k ≠ n) (v : Mac) : (s.setMac n v).mac k = s.mac k := by
  simp [State.mac, State.setMac, SMap.get_set_other _ _ h]

@[simp] theorem timebase_setTimebase_same (s : State) (n : Nat) (v : Tbase) : (s.setTimebase n v).timebase n = v := by
  simp [State.timebase, State.setTimebase]

theorem timebase_setTimebase_other (s : State) {n k : Nat} (h : k ≠ n) (v : Tbase) : (s.setTimebase n v).timebase k = s.timebase k := by
  simp [State.timebase, State.setTimebase, SMap.get_set_other _ _ h]

@[simp] theorem todOf_setTod_same (s : State) (n : Nat) (v : Tod) : (s.setTod n v).todOf n = v := by
  simp [State.todOf, State.setTod]

theorem todOf_setTod_other (s : State) {n k : Nat} (h : k ≠ n) (v : Tod) : (s.setTod n v).todOf k = s.todOf k := by
  simp [State.todOf, State.setTod, SMap.get_set_other _ _ h]

@[simp] theorem ptpOf_setPtp_same (s : State) (n : Nat) (v : Ptp) : (s.setPtp n v).ptpOf n = v := by
  simp [State.ptpOf, State.setPtp]

theorem ptpOf_setPtp_other (s : State) {n k : Nat} (h : k ≠ n) (v : Ptp) : (s.setPtp n v).ptpOf k = s.ptpOf k := by
  simp [State.ptpOf, State.setPtp, SMap.get_set_other _ _ h]

@[simp] theorem trib_setTrib_same (s : State) (n : Nat) (v : Trib) : (s.setTrib n v).trib n = v := by
  simp [State.trib, State.setTrib]

theorem trib_setTrib_other (s : State) {n k : Nat} (h : k ≠ n) (v : Trib) : (s.setTrib n v).trib k = s.trib k := by
  simp [State.trib, State.setTrib, SMap.get_set_other _ _ h]

@[simp] theorem tpath_setTpath_same (s : State) (n : Nat) (v : TPath) : (s.setTpath n v).tpath n = v := by
  simp [State.tpath, State.setTpath]

theorem tpath_setTpath_other (s : State) {n k : Nat} (h : k ≠ n) (v : TPath) : (s.setTpath n v).tpath k = s.tpath k := by
  simp [State.tpath, State.setTpath, SMap.get_set_other _ _ h]

@[simp] theorem vcat_setVcat_same (s : State) (n : Nat) (v : Vcat) : (s.setVcat n v).vcat n = v := by
  simp [State.vcat, State.setVcat]

theorem vcat_setVcat_other (s : State) {n k : Nat} (h : k ≠ n) (v : Vcat) : (s.setVcat n v).vcat k = s.vcat k := by
  simp [State.vcat, State.setVcat, SMap.get_set_other _ _ h]

@[simp] theorem circ_setCirc_same (s : State) (n : Nat) (v : Circ) : (s.setCirc n v).circ n = v := by
  simp [State.circ, State.setCirc]

theorem circ_setCirc_other (s : State) {n k : Nat} (h : k ≠ n) (v : Circ) : (s.setCirc n v).circ k = s.circ k := by
  simp [State.circ, State.setCirc, SMap.get_set_other _ _ h]

@[simp] theorem msp_setMsp_same (s : State) (n : Nat) (v : Msp) : (s.setMsp n v).msp n = v := by
  simp [State.msp, State.setMsp]

theorem msp_setMsp_other (s : State) {n k : Nat} (h : k ≠ n) (v : Msp) : (s.setMsp n v).msp k = s.msp k := by
  simp [State.msp, State.setMsp, SMap.get_set_other _ _ h]

@[simp] theorem worker_modWorker_same (s : State) (n : Nat) (f : Worker → Worker) : (s.modWorker n f).worker n = f (s.worker n) := by
  simp [State.modWorker]

theorem worker_modWorker_other (s : State) {n k : Nat} (h : k ≠ n) (f : Worker → Worker) : (s.modWorker n f).worker k = s.worker k := by
  simp [State.modWorker, worker_setWorker_other s h]

@[simp] theorem lane_modLane_same (s : State) (n : Nat) (f : Lane → Lane) : (s.modLane n f).lane n = f (s.lane n) := by
  simp [State.modLane]

theorem lane_modLane_other (s : State) {n k : Nat} (h : k ≠ n) (f : Lane → Lane) : (s.modLane n f).lane k = s.lane k := by
  simp [State.modLane, lane_setLane_other s h]

@[simp] theorem trib_modTrib_same (s : State) (n : Nat) (f : Trib → Trib) : (s.modTrib n f).trib n = f (s.trib n) := by
  simp [State.modTrib]

theorem trib_modTrib_other (s : State) {n k : Nat} (h : k ≠ n) (f : Trib → Trib) : (s.modTrib n f).trib k = s.trib k := by
  simp [State.modTrib, trib_setTrib_other s h]

/-- An advance moves the present instant up to a given one, never back, and changes nothing else. -/
theorem advanceTo_eq (ps : Nat) (s : State) : advanceTo ps s = { s with clk := { s.clk with nowPs := max s.clk.nowPs ps } } := rfl

@[simp] theorem advanceTo_nowPs (ps : Nat) (s : State) : (advanceTo ps s).clk.nowPs = max s.clk.nowPs ps := rfl

@[simp] theorem advanceTo_pending (ps : Nat) (s : State) : (advanceTo ps s).pending = s.pending := rfl
@[simp] theorem advanceTo_out (ps : Nat) (s : State) : (advanceTo ps s).out = s.out := rfl
@[simp] theorem advanceTo_freeCtr (ps : Nat) (s : State) : (advanceTo ps s).freeCtr = s.freeCtr := rfl
@[simp] theorem advanceTo_latchPcie (ps : Nat) (s : State) : (advanceTo ps s).latchPcie = s.latchPcie := rfl
@[simp] theorem advanceTo_latchSpi (ps : Nat) (s : State) : (advanceTo ps s).latchSpi = s.latchSpi := rfl
@[simp] theorem advanceTo_latchBar4 (ps : Nat) (s : State) : (advanceTo ps s).latchBar4 = s.latchBar4 := rfl
@[simp] theorem advanceTo_dev (ps : Nat) (s : State) : (advanceTo ps s).dev = s.dev := rfl
@[simp] theorem advanceTo_rings (ps : Nat) (s : State) : (advanceTo ps s).rings = s.rings := rfl
@[simp] theorem advanceTo_cmd (ps : Nat) (s : State) : (advanceTo ps s).cmd = s.cmd := rfl
@[simp] theorem advanceTo_spi (ps : Nat) (s : State) : (advanceTo ps s).spi = s.spi := rfl
@[simp] theorem advanceTo_evt (ps : Nat) (s : State) : (advanceTo ps s).evt = s.evt := rfl
@[simp] theorem advanceTo_stamps (ps : Nat) (s : State) : (advanceTo ps s).stamps = s.stamps := rfl
@[simp] theorem advanceTo_notes (ps : Nat) (s : State) : (advanceTo ps s).notes = s.notes := rfl
@[simp] theorem advanceTo_fatal (ps : Nat) (s : State) : (advanceTo ps s).fatal = s.fatal := rfl
@[simp] theorem advanceTo_cnt (ps : Nat) (s : State) : (advanceTo ps s).cnt = s.cnt := rfl
@[simp] theorem advanceTo_bw (ps : Nat) (s : State) : (advanceTo ps s).bw = s.bw := rfl
@[simp] theorem advanceTo_insts (ps : Nat) (s : State) : (advanceTo ps s).insts = s.insts := rfl
@[simp] theorem advanceTo_allocs (ps : Nat) (s : State) : (advanceTo ps s).allocs = s.allocs := rfl
@[simp] theorem advanceTo_maps (ps : Nat) (s : State) : (advanceTo ps s).maps = s.maps := rfl
@[simp] theorem advanceTo_lig (ps : Nat) (s : State) : (advanceTo ps s).lig = s.lig := rfl
@[simp] theorem advanceTo_queues (ps : Nat) (s : State) : (advanceTo ps s).queues = s.queues := rfl
@[simp] theorem advanceTo_rrLast (ps : Nat) (s : State) : (advanceTo ps s).rrLast = s.rrLast := rfl
@[simp] theorem advanceTo_shapers (ps : Nat) (s : State) : (advanceTo ps s).shapers = s.shapers := rfl
@[simp] theorem advanceTo_policers (ps : Nat) (s : State) : (advanceTo ps s).policers = s.policers := rfl
@[simp] theorem advanceTo_gates (ps : Nat) (s : State) : (advanceTo ps s).gates = s.gates := rfl
@[simp] theorem advanceTo_qSel (ps : Nat) (s : State) : (advanceTo ps s).qSel = s.qSel := rfl
@[simp] theorem advanceTo_shSel (ps : Nat) (s : State) : (advanceTo ps s).shSel = s.shSel := rfl
@[simp] theorem advanceTo_workers (ps : Nat) (s : State) : (advanceTo ps s).workers = s.workers := rfl
@[simp] theorem advanceTo_tbl (ps : Nat) (s : State) : (advanceTo ps s).tbl = s.tbl := rfl
@[simp] theorem advanceTo_cls (ps : Nat) (s : State) : (advanceTo ps s).cls = s.cls := rfl
@[simp] theorem advanceTo_laneTable (ps : Nat) (s : State) : (advanceTo ps s).laneTable = s.laneTable := rfl
@[simp] theorem advanceTo_lanes (ps : Nat) (s : State) : (advanceTo ps s).lanes = s.lanes := rfl
@[simp] theorem advanceTo_macs (ps : Nat) (s : State) : (advanceTo ps s).macs = s.macs := rfl
@[simp] theorem advanceTo_helloAt (ps : Nat) (s : State) : (advanceTo ps s).helloAt = s.helloAt := rfl
@[simp] theorem advanceTo_role (ps : Nat) (s : State) : (advanceTo ps s).role = s.role := rfl
@[simp] theorem advanceTo_rateLow (ps : Nat) (s : State) : (advanceTo ps s).rateLow = s.rateLow := rfl
@[simp] theorem advanceTo_tribs (ps : Nat) (s : State) : (advanceTo ps s).tribs = s.tribs := rfl
@[simp] theorem advanceTo_tpaths (ps : Nat) (s : State) : (advanceTo ps s).tpaths = s.tpaths := rfl
@[simp] theorem advanceTo_vcats (ps : Nat) (s : State) : (advanceTo ps s).vcats = s.vcats := rfl
@[simp] theorem advanceTo_circs (ps : Nat) (s : State) : (advanceTo ps s).circs = s.circs := rfl
@[simp] theorem advanceTo_msps (ps : Nat) (s : State) : (advanceTo ps s).msps = s.msps := rfl
@[simp] theorem advanceTo_pms (ps : Nat) (s : State) : (advanceTo ps s).pms = s.pms := rfl
@[simp] theorem advanceTo_pmSec (ps : Nat) (s : State) : (advanceTo ps s).pmSec = s.pmSec := rfl
@[simp] theorem advanceTo_binSec (ps : Nat) (s : State) : (advanceTo ps s).binSec = s.binSec := rfl
@[simp] theorem advanceTo_tribPathSel (ps : Nat) (s : State) : (advanceTo ps s).tribPathSel = s.tribPathSel := rfl
@[simp] theorem advanceTo_tb (ps : Nat) (s : State) : (advanceTo ps s).tb = s.tb := rfl
@[simp] theorem advanceTo_time (ps : Nat) (s : State) : (advanceTo ps s).time = s.time := rfl
@[simp] theorem advanceTo_outputs (ps : Nat) (s : State) : (advanceTo ps s).outputs = s.outputs := rfl
@[simp] theorem advanceTo_captures (ps : Nat) (s : State) : (advanceTo ps s).captures = s.captures := rfl
@[simp] theorem advanceTo_ptp (ps : Nat) (s : State) : (advanceTo ps s).ptp = s.ptp := rfl
@[simp] theorem advanceTo_tod (ps : Nat) (s : State) : (advanceTo ps s).tod = s.tod := rfl
@[simp] theorem advanceTo_egressFree (ps : Nat) (s : State) : (advanceTo ps s).egressFree = s.egressFree := rfl
@[simp] theorem advanceTo_cipher (ps : Nat) (s : State) : (advanceTo ps s).cipher = s.cipher := rfl
@[simp] theorem advanceTo_mem (ps : Nat) (s : State) : (advanceTo ps s).mem = s.mem := rfl
@[simp] theorem advanceTo_waitUp (ps : Nat) (s : State) : (advanceTo ps s).waitUp = s.waitUp := rfl
@[simp] theorem advanceTo_waitDown (ps : Nat) (s : State) : (advanceTo ps s).waitDown = s.waitDown := rfl
@[simp] theorem advanceTo_pair (ps : Nat) (s : State) : (advanceTo ps s).pair = s.pair := rfl
@[simp] theorem advanceTo_pwr (ps : Nat) (s : State) : (advanceTo ps s).pwr = s.pwr := rfl
@[simp] theorem advanceTo_tempC (ps : Nat) (s : State) : (advanceTo ps s).tempC = s.tempC := rfl
@[simp] theorem advanceTo_hotPs (ps : Nat) (s : State) : (advanceTo ps s).hotPs = s.hotPs := rfl
@[simp] theorem advanceTo_fuse (ps : Nat) (s : State) : (advanceTo ps s).fuse = s.fuse := rfl
@[simp] theorem advanceTo_lc (ps : Nat) (s : State) : (advanceTo ps s).lc = s.lc := rfl
@[simp] theorem advanceTo_bist (ps : Nat) (s : State) : (advanceTo ps s).bist = s.bist := rfl
@[simp] theorem advanceTo_jtag (ps : Nat) (s : State) : (advanceTo ps s).jtag = s.jtag := rfl
@[simp] theorem advanceTo_boot (ps : Nat) (s : State) : (advanceTo ps s).boot = s.boot := rfl
@[simp] theorem advanceTo_hot (ps : Nat) (s : State) : (advanceTo ps s).hot = s.hot := rfl

/-- A write that reaches the registers of a part that is awake acts. -/
theorem hostWrite_awake {s : State} (h : asleep s = false) (f : State → State) : hostWrite f s = f s := by simp [hostWrite, h]

/-- A read that reaches the registers of a part that is awake acts. -/
theorem hostRead_awake {s : State} (h : asleep s = false) (p : Path) (a : Nat) (f : State → State) : hostRead p a f s = f s := by
  simp [hostRead, h]

end Sys2Proof.Machine
end

