-- ==== Sys2Proof/WellFormed.lean ====
section
/-!
DEFINITION. Which commands can occur: fields within the widths that the manual gives them, addresses within their BAR and aligned
where the row says so. No meaning asks for it; statements may.
-/

namespace Sys2Proof

/-- A command header's fields have the widths of 02 Table 2.5, and LENGTH its range. -/
def CmdReq.wf (q : CmdReq) : Bool :=
  decide (q.tag < 2 ^ 16 ∧ q.kind < 2 ^ 8 ∧ q.index < 2 ^ 8 ∧ q.payload.length ≤ 4096)

/-- ONU-ID has 10 bits, SeqNo 8 (03 R74). -/
def PloamRx.wf (m : PloamRx) : Bool := decide (m.onuId < 2 ^ 10 ∧ m.seqno < 2 ^ 8)

/-- Alloc-ID has 14 bits, the burst profile 2 (05 R119). -/
def Grant.wf (g : Grant) : Bool := decide (g.allocId < 2 ^ 14 ∧ g.profile < 4)

/-- The size of a BAR (02 Table 2.1). -/
def Bar.size : Bar → Nat
  | .bar0 => 2 ^ 22
  | .bar2 => 2 ^ 26
  | .bar4 => 2 ^ 16

/-- Replicated commands and data (15 R361). -/
def MirrorData.wf : MirrorData → Bool
  | .command op q _ => decide (op < 2 ^ 16) && q.wf
  | .flow f w => decide (f < 2 ^ 20 ∧ w.length = 8)
  | .staged n w => decide (n < 2 ^ 22 ∧ w.length = 4)
  | .allocId _ id => match id with | some a => decide (a < 2 ^ 14) | none => true

/-- Block codes of 17 Table 17.3, memory groups of 14 Table 14.1. -/
def FaultUnit.wf (u : FaultUnit) : Bool := decide (u.block < 50 ∧ (u.group < 38 ∨ u.group = 0xFF) ∧ u.cell < 2 ^ 16)

/-- PSync has 64 bits (04 R95). -/
def psyncOk : Option Nat → Bool
  | some e => decide (e ≤ 64)
  | none => true

/-- A command that can occur. -/
def Instr.wf : Instr → Bool
  | .tickEdge _ => true
  | .leaseExpiry => true
  | .shaperRefill => true
  | .learnCommit => true
  | .ageingStep => true
  | .counterWindowClose => true
  | .perfBinClose => true
  | .powerDecision _ => true
  | .digestExchange => true
  | .blotterStep => true
  | .tickOverrun _ => true
  | .cellFault u => u.wf
  | .unmappedAccess _ _ bar addr => decide (addr < bar.size ∧ addr % 4 = 0)
  | .unalignedAccess _ _ bar addr => decide (addr < bar.size)
  | .registerWrite _ addr _ _ => decide (addr < 2 ^ 22 ∧ addr % 4 = 0)
  | .tickCountRead _ => true
  | .ringEnable _ => true
  | .ringDisable _ => true
  | .doorbell _ _ => true
  | .commandDispatch desc _ => decide (desc.length < 2 ^ 32)
  | .replyPost desc => decide (desc.length < 2 ^ 32)
  | .hostDelivery desc => decide (desc.length < 2 ^ 32)
  | .evtPop _ _ => true
  | .errPop _ _ => true
  | .spiStatus => true
  | .spiRead addr _ => decide (addr < 2 ^ 24)
  | .spiWrite addr _ => decide (addr < 2 ^ 24)
  | .spiCmdPush _ => true
  | .spiReplyPull _ => true
  | .nop q => q.wf
  | .authNonce q => q.wf
  | .nonceExpiry => true
  | .outputsEnable q => q.wf
  | .regionReset q => q.wf
  | .regionResetComplete _ => true
  | .cancel q => q.wf
  | .txTuneLock _ => true
  | .rxTuneLock _ => true
  | .laserLockLoss _ => true
  | .lineModeDwellExpiry _ => true
  | .scanDwellExpiry _ => true
  | .instConfig q => q.wf
  | .instStart q => q.wf
  | .instStop q => q.wf
  | .instQuery q => q.wf
  | .setRegistrationId q => q.wf
  | .burstProfile _ m _ psbu _ _ => m.wf && decide (psbu < 2 ^ 16)
  | .assignOnuId _ m _ _ _ => m.wf
  | .rangingTime _ m _ _ => m.wf
  | .deactivateOnuId _ m => m.wf
  | .disableSerialNumber _ m _ _ _ => m.wf
  | .channelProfile _ m _ _ => m.wf
  | .tuningControl _ m _ => m.wf
  | .tuningExecute _ => true
  | .tuningTargetPloam _ m => m.wf
  | .adjustTxWavelength _ m _ => m.wf
  | .protectionControl _ m _ _ => m.wf
  | .requestRegistration _ m => m.wf
  | .assignAllocId _ m _ _ => m.wf
  | .keyControl _ m _ => m.wf
  | .sleepAllow _ m _ => m.wf
  | .changePowerLevel _ m _ => m.wf
  | .powerConsumptionInquire _ m => m.wf
  | .ploamRx _ m raw => m.wf && decide (raw.length = 48)
  | .to1Expiry _ => true
  | .to2Expiry _ => true
  | .to3To4Expiry _ => true
  | .to5Expiry _ => true
  | .ligStart q => q.wf
  | .ligProposeTimeout => true
  | .ligAccept _ m _ _ _ _ _ => m.wf
  | .ligGroupActivate => true
  | .ligReject _ m _ _ => m.wf
  | .ligRelease _ m _ _ => m.wf
  | .ligMemberRejoin _ => true
  | .ligStop q => q.wf
  | .ligReleaseAck _ m => m.wf
  | .ligStopTimeout => true
  | .dsPhyFrame _ psync _ _ => psyncOk psync
  | .dsCodeword _ _ _ _ => true
  | .dsSignalWindowEnd _ => true
  | .xgemFrame _ _ _ _ _ _ _ => true
  | .ligFragmentArrival _ _ hdr _ => decide (hdr.seq < 2 ^ 20)
  | .ligGapClose => true
  | .dsSfcLoRead _ _ => true
  | .omciTx q => q.wf
  | .ploamTx q => q.wf
  | .dsPortBind q => q.wf
  | .dsPortUnbind q => q.wf
  | .dsPortQuery q => q.wf
  | .grantIntake _ g => g.wf
  | .pullIssue _ _ => true
  | .burstPreparation _ => true
  | .burstEnable _ => true
  | .burstLaunch _ => true
  | .pullFeedDeadline _ => true
  | .burstEnd _ => true
  | .allocSlotRelease _ => true
  | .allocConfig q => q.wf
  | .allocQuery q => q.wf
  | .usNextTickRead _ _ => true
  | .tableLock q => q.wf
  | .tableRenew q => q.wf
  | .tableUnlock q => q.wf
  | .search q => q.wf
  | .next q => q.wf
  | .flushByPort q => q.wf
  | .tableAudit q => q.wf
  | .learnConfig q => q.wf
  | .ageConfig q => q.wf
  | .tblLeaseKill _ _ => true
  | .tableWindowWrite _ addr _ => decide (addr < 2 ^ 25 ∧ addr % 4 = 0)
  | .tableWindowRead _ addr => decide (addr < 2 ^ 26 ∧ addr % 4 = 0)
  | .flowContextStage _ addr _ => decide (2 ^ 25 ≤ addr ∧ addr < 2 ^ 26 ∧ addr % 4 = 0)
  | .flowContextCommit _ addr _ => decide (2 ^ 25 ≤ addr ∧ addr < 2 ^ 26 ∧ addr % 4 = 0)
  | .frameDispatch => true
  | .frameVerdict => true
  | .recirculateDispatch => true
  | .reorderRelease _ => true
  | .parserEngineFault _ => true
  | .clsBuildComplete => true
  | .clsDrainComplete => true
  | .clsConfig q => q.wf
  | .clsBuild q rules => q.wf && rules.all (fun r => decide (r.length = 224))
  | .clsSwap q => q.wf
  | .clsProbe q => q.wf
  | .egressPick _ _ => true
  | .shaperWheelSlot _ => true
  | .gateEntryBoundary _ => true
  | .gateListStart _ => true
  | .qBytesRead _ => true
  | .queueConfig q => q.wf
  | .queueQuery q => q.wf
  | .shaperConfig q => q.wf
  | .shaperQuery q => q.wf
  | .policerProfile q => q.wf
  | .gateList q => q.wf
  | .laneSignalDetect _ => true
  | .laneSignalLoss _ => true
  | .laneBlockReceived _ _ => true
  | .laneTrainingMarker _ => true
  | .laneIdleExitTimeout _ => true
  | .laneCellFault _ => true
  | .laneHdrErrRead _ _ _ => true
  | .macFrameReceived _ _ _ => true
  | .macTxUnderrun _ => true
  | .macLinkChange _ _ => true
  | .laneTableLoad q => q.wf
  | .laneConfig q => q.wf
  | .laneQuery q => q.wf
  | .laneIdle q => q.wf
  | .macConfig q => q.wf
  | .macQuery q => q.wf
  | .mapiynFrameRx _ _ _ _ => true
  | .helloTimer _ => true
  | .helloRx _ _ => true
  | .rangingExchange _ => true
  | .rangeReqRx _ _ => true
  | .rangeRspRx _ _ _ _ => true
  | .rangeRspTimeout _ => true
  | .rangingBackoffExpiry _ => true
  | .alignRx _ _ _ => true
  | .tickBlockRx _ _ _ _ => true
  | .timeNRx _ _ _ _ _ => true
  | .mapRx _ _ _ _ => true
  | .mapReport _ => true
  | .pullRx _ _ _ _ _ => true
  | .pullServe _ => true
  | .pullCancelRx _ => true
  | .pullDoneRx _ _ _ _ => true
  | .pullWindowMissed _ _ => true
  | .leaveRx _ _ => true
  | .leaveAckRx _ => true
  | .removalHoldExpiry _ => true
  | .workerCmdTimeout _ _ => true
  | .workerConfig q => q.wf
  | .workerQuery q => q.wf
  | .workerRecover q => q.wf
  | .workerRerange q => q.wf
  | .workerRelease q => q.wf
  | .workerCmd q => q.wf
  | .workerImage q _ => q.wf
  | .tribFramePattern _ _ => true
  | .tribStmFrame _ _ => true
  | .tribLofTimer _ => true
  | .cesPacketEmit _ => true
  | .cesPacketRx _ => true
  | .cesPlayoutDue _ => true
  | .mspWtrExpiry _ => true
  | .pmSecond => true
  | .tribPathStatusRead _ => true
  | .tribPortConfig q => q.wf
  | .tribPathConfig q => q.wf
  | .vcatConfig q => q.wf
  | .mspConfig q => q.wf
  | .mspCommand q => q.wf
  | .pmRead q => q.wf
  | .comparatorFire _ => true
  | .outputPulseEnd _ => true
  | .ppsOutSecond => true
  | .captureEdge _ _ => true
  | .refclkLoss => true
  | .refclkInValid => true
  | .tb0CorrectionEnd => true
  | .servoHoldTimeout _ => true
  | .ponTodSample _ => true
  | .tbNsRead _ _ => true
  | .timeConfig q => q.wf
  | .timeSet q => q.wf
  | .servoConfig q => q.wf
  | .servoSample q => q.wf
  | .ponTod q => q.wf
  | .outputConfig q => q.wf
  | .captureConfig q => q.wf
  | .captureRead q => q.wf
  | .ptpConfig q => q.wf
  | .ptpTx q => q.wf
  | .ptpRxRead q => q.wf
  | .keyDataWrite _ _ _ => true
  | .keyCommit _ => true
  | .keyZeroise _ => true
  | .keyAbort _ => true
  | .keyStagingTimeout => true
  | .cipherEngineFault _ => true
  | .cipherConfig q => q.wf
  | .ponKeyBind q => q.wf
  | .usEncrypt q => q.wf
  | .linkKeyBind q => q.wf
  | .phaseSelect q => q.wf
  | .keyQuery q => q.wf
  | .tamper _ => true
  | .memError _ word _ => decide (word < 2 ^ 24)
  | .memEccRead _ _ => true
  | .scratchStatusRead _ _ => true
  | .scratchPortAccess _ _ => true
  | .seqLockRevoke => true
  | .blotterBorrow _ => true
  | .blotterTestEnd _ _ => true
  | .blotterRestoreEnd _ => true
  | .blotterSaveTimeout _ => true
  | .txnGrant => true
  | .txnComplete _ => true
  | .txnLimitRevoke _ => true
  | .waitTickRevoke => true
  | .txnFreezeExpiry => true
  | .blotterConfig q => q.wf
  | .blotterQuery q => q.wf
  | .txnFreeze q => q.wf
  | .scratchOp q => q.wf
  | .mDigestRx _ _ _ => true
  | .mLaunchRx _ _ _ => true
  | .mLoanReqRx _ _ _ _ _ => true
  | .mLoanAckRx _ _ => true
  | .loanActRelease => true
  | .loanActClaim => true
  | .mHealthRx _ _ _ _ => true
  | .mSwitchRx _ _ _ _ _ => true
  | .switchoverAtSwitch _ => true
  | .partnerGone _ _ => true
  | .actInChange _ => true
  | .actOutClaim => true
  | .mirrorReplicatedRx _ _ r => r.wf
  | .mirrorBulkCopyRx _ _ _ _ _ => true
  | .mirrorScratchWriteRx _ _ _ _ => true
  | .mirrorKeyTransferRx _ _ _ key _ => decide (key.length = 32)
  | .resyncPassEnd _ => true
  | .mirrorLinkLoss => true
  | .standbyHealthTest _ _ => true
  | .pairConfig q => q.wf
  | .pairSwitch q => q.wf
  | .pairResync q => q.wf
  | .pairQuery q => q.wf
  | .sleepEntryStart => true
  | .sleepAbortPoint _ => true
  | .sleepIndicationTimeout => true
  | .sleepSampleStart => true
  | .sleepSampleEnd => true
  | .wakeEvent _ => true
  | .wakeComplete => true
  | .pwrWake _ _ => true
  | .domainOffGrantTimeout _ => true
  | .domainPowerUpComplete _ => true
  | .sleepConfig q => q.wf
  | .domainPower q => q.wf
  | .clockSwitch q => q.wf
  | .padRelease q => q.wf
  | .powerQuery q => q.wf
  | .lcAdvance q => q.wf
  | .lcFuseVerified _ => true
  | .bistRun q => q.wf
  | .bistComplete _ => true
  | .trstAssert => true
  | .jtagInstructionUpdate _ => true
  | .counterRead _ k => decide (k < 2 ^ 20)
  | .bwBytesLoRead _ _ => true
  | .instFlapRead _ _ _ => true
  | .counterConfig q => q.wf
  | .counterChain q => q.wf
  | .counterClear q _ => q.wf
  | .snapshot q => q.wf
  | .bwConfig q => q.wf
  | .fatalCondition _ _ => true
  | .fatalChipReset => true
  | .coldReset _ => true
  | .warmReset => true
  | .perstAssert => true
  | .bootGo _ _ => true
  | .imageChunkRx _ _ _ _ => true
  | .imageDelivered _ _ _ => true
  | .commandReady => true
  | .hotswapClose => true
  | .hotswapTrip _ => true
  | .ejectRecognised => true
  | .quiesceStart => true
  | .ejectEnd => true
  | .keyCommitComplete => true
  | .workerImageTimeout _ => true
  | .perstDeassert => true
  | .resetDeassert _ => true
  | .functionLevelReset => true

end Sys2Proof
end

