-- ==== Sys2Proof/Tests/Slice0.lean ====
section
/-!
SUPPORT. The model's own tests: ill-formed commands that the check refuses, states and operands that meet the hypotheses of every
clause of every obligation, and single steps whose results the manual gives.
-/

namespace Sys2Proof.Tests

set_option Elab.async false

open Sys2Proof.Machine

/-! ## States to start from -/

/-- The part after command-ready, PERST# deasserted. -/
def ready : State := { State.reset with dev := { quill := 3 }, boot := { perst := false } }

theorem on (s : State) (h : (s.hot.powered, s.boot.inReset) = (true, false) := by rfl) : On s :=
  ⟨congrArg Prod.fst h, congrArg Prod.snd h⟩

theorem awake (s : State) (h : (s.hot.powered, s.boot.inReset, asleep s) = (true, false, false) := by rfl) : Awake s := by
  simp only [Prod.mk.injEq] at h
  exact ⟨⟨h.1, h.2.1⟩, h.2.2⟩

theorem reaches (p : Path) (s : State)
    (h : (s.hot.powered, s.boot.inReset, asleep s, pathUp p s) = (true, false, false, true) := by rfl) : Reaches p s := by
  simp only [Prod.mk.injEq] at h
  exact ⟨⟨⟨h.1, h.2.1⟩, h.2.2.1⟩, h.2.2.2⟩

theorem due (k : Nat) (s : State)
    (h : (s.hot.powered, s.boot.inReset, asleep s, carriedTick k s, s.clk.itemsDone.contains k,
      decide (s.clk.nowPs ≤ strokeEnd (itemDeadline k) s), itemWaits k s) = (true, false, false, none, false, true, false) := by decide) :
    Due k s := by
  simp only [Prod.mk.injEq] at h
  obtain ⟨a, b, c, d, e, f, g⟩ := h
  exact ⟨⟨⟨a, b⟩, c⟩, d, e, of_decide_eq_true f, g⟩

theorem plain (s : State) (h : (s.pair.enable, s.dev.isolated) = (false, 0) := by rfl) : Plain s :=
  ⟨congrArg Prod.fst h, congrArg Prod.snd h⟩

/-- The state s in which one command, with this opcode and request, executes. -/
def trial (op : Nat) (q : CmdReq) (s : State) : State := { s with cmd := { s.cmd with executing := [{ op, req := q }] } }

/-- The same with the command begun. -/
def begun (op : Nat) (q : CmdReq) (s : State) : State :=
  { s with cmd := { s.cmd with executing := [{ op, req := q, started := true }] } }

theorem runs (op : Nat) (q : CmdReq) (s : State)
    (h : (s.hot.powered, s.boot.inReset, s.fatal.asserted, q.src) = (true, false, false, .ring 0) := by rfl) :
    Runs op q { op, req := q } (trial op q s) := by
  simp only [Prod.mk.injEq] at h
  obtain ⟨a, b, c, d⟩ := h
  exact ⟨⟨a, b⟩, c, rfl, rfl, rfl, rfl, rfl, rfl, rfl, ⟨0, d⟩⟩

theorem begins (op : Nat) (q : CmdReq) (s : State)
    (h : (s.hot.powered, s.boot.inReset, q.src) = (true, false, .ring 0) := by rfl) :
    Begun op { op, req := q, started := true } (begun op q s) := by
  simp only [Prod.mk.injEq] at h
  obtain ⟨a, b, d⟩ := h
  exact ⟨⟨a, b⟩, rfl, rfl, rfl, rfl, rfl, rfl, ⟨0, d⟩⟩

/-- A request for target index `index` with payload `payload`. -/
def req (index : Nat) (payload : Bytes := []) : CmdReq := { index, payload }

/-- `ready` with instance 0 changed. -/
def inst0 (f : Inst → Inst) : State := ready.modInst 0 f

/-- A broadcast PLOAM message heard by instance 0. -/
def hears (s : State) : State := s.modInst 0 fun x => { x with sync := { x.sync with state := 2 } }

theorem heard (s : State) (h : (s.hot.powered, s.boot.inReset, s.pwr.state, ((hears s).inst 0).sync.state, ((hears s).inst 0).sync.frameLost) =
    (true, false, .awake, 2, false) := by rfl) : Heard 0 {} (hears s) := by
  simp only [Prod.mk.injEq] at h
  obtain ⟨a, b, c, d, e⟩ := h
  exact ⟨⟨a, b⟩, c, d, e, rfl, .inl rfl, rfl⟩

/-- A valid image in a state, with one rule that matches everything and forwards. -/
def imageIn (st : ImgState) : Image := { state := st, valid := true, rules := [1 :: List.replicate 223 0] }

/-- `ready` with a lane changed. -/
def lane (n : Nat) (x : Lane) : State := ready.setLane n x

/-! ## Ill-formed commands are refused by the check -/

theorem test_wf_header : (Instr.nop {}).wf = true ∧ (Instr.nop { tag := 2 ^ 16 }).wf = false ∧ (Instr.nop { kind := 256 }).wf = false ∧
    (Instr.nop { index := 256 }).wf = false ∧ (Instr.nop { payload := List.replicate 4096 0 }).wf = true ∧
    (Instr.nop { payload := List.replicate 4097 0 }).wf = false := by decide +kernel

theorem test_wf_ploam : (Instr.deactivateOnuId 0 { onuId := 1023, seqno := 255 }).wf = true ∧
    (Instr.deactivateOnuId 0 { onuId := 1024 }).wf = false ∧ (Instr.deactivateOnuId 0 { seqno := 256 }).wf = false ∧
    (Instr.burstProfile 0 {} 0 (2 ^ 16) true true).wf = false ∧ (Instr.ploamRx 0 {} (List.replicate 47 0)).wf = false := by decide +kernel

theorem test_wf_fibre : (Instr.grantIntake 0 { allocId := 2 ^ 14 }).wf = false ∧ (Instr.grantIntake 0 { profile := 4 }).wf = false ∧
    (Instr.dsPhyFrame 0 (some 65) none true).wf = false ∧ (Instr.dsPhyFrame 0 (some 64) none true).wf = true ∧
    (Instr.ligFragmentArrival 0 1 { seq := 2 ^ 20 } []).wf = false := by decide

theorem test_wf_addresses : (Instr.registerWrite .pcie (2 ^ 22) 0 {}).wf = false ∧ (Instr.registerWrite .pcie 2 0 {}).wf = false ∧
    (Instr.unmappedAccess .pcie true .bar4 (2 ^ 16)).wf = false ∧ (Instr.unmappedAccess .pcie true .bar2 6).wf = false ∧
    (Instr.unalignedAccess .pcie true .bar0 (2 ^ 22)).wf = false ∧ (Instr.spiRead (2 ^ 24) 1).wf = false ∧
    (Instr.spiWrite (2 ^ 24) []).wf = false ∧ (Instr.tableWindowWrite .pcie (2 ^ 25) 0).wf = false ∧
    (Instr.tableWindowRead .pcie (2 ^ 26)).wf = false ∧ (Instr.flowContextStage .pcie 0 0).wf = false ∧
    (Instr.flowContextCommit .pcie (2 ^ 26) 0).wf = false ∧ (Instr.counterRead .pcie (2 ^ 20)).wf = false := by decide +kernel

theorem test_wf_others : (Instr.commandDispatch { length := 2 ^ 32 } []).wf = false ∧ (Instr.replyPost { length := 2 ^ 32 }).wf = false ∧
    (Instr.hostDelivery { length := 2 ^ 32 }).wf = false ∧ (Instr.cellFault { block := 50 }).wf = false ∧
    (Instr.cellFault { group := 38 }).wf = false ∧ (Instr.cellFault { cell := 2 ^ 16 }).wf = false ∧
    (Instr.memError 0 (2 ^ 24) true).wf = false ∧ (Instr.clsBuild {} [[]]).wf = false ∧
    (Instr.mirrorKeyTransferRx {} [] 0 [] true).wf = false ∧ (Instr.mirrorReplicatedRx {} [] (.flow (2 ^ 20) [])).wf = false ∧
    (Instr.mirrorReplicatedRx {} [] (.command (2 ^ 16) {} 0)).wf = false ∧ (Instr.mirrorReplicatedRx {} [] (.staged (2 ^ 22) [])).wf = false ∧
    (Instr.mirrorReplicatedRx {} [] (.allocId 0 (some (2 ^ 14)))).wf = false := by decide +kernel

/-- The table gives no row any bits, so no word spells a command. -/
theorem test_no_word_decodes : decodeTableWord 32 0xFFFFFFFF = none := by decide

/-! ## Hypotheses of the statements about the whole machine -/

theorem witness_StepRunsTheFrontCommand : ∃ (c : Instr) (rest : List Instr) (s : State), s.pending = c :: rest :=
  ⟨.refclkLoss, [.commandReady], { ready with pending := [.refclkLoss, .commandReady] }, rfl⟩

theorem witness_EmptyQueueIdles : ∃ s : State, s.pending = [] := ⟨ready, rfl⟩

theorem dark_reset : Dark State.reset := ⟨rfl, ⟨rfl, rfl⟩, rfl, fun _ => rfl, ⟨rfl, rfl⟩, rfl, rfl⟩

theorem witness_EveryStepKeepsTheDark :
    (∃ s t : State, DarkWhenOff s ∧ step s = .next t ∧ On s) ∧ (∃ s t : State, DarkWhenOff s ∧ step s = .next t ∧ ¬ On s) :=
  ⟨⟨State.reset, _, fun _ => dark_reset, rfl, ⟨rfl, rfl⟩⟩,
   ⟨{ State.reset with boot := { inReset := true } }, _, fun _ => ⟨rfl, ⟨rfl, rfl⟩, rfl, fun _ => rfl, ⟨rfl, rfl⟩, rfl, rfl⟩, rfl,
    fun h => absurd h.released (by decide)⟩⟩

theorem witness_RowsKeepQueueAndSupply : ∃ (i : Instr) (s : State), fromOutside i = false ∧ ¬ On s :=
  ⟨.refclkLoss, { ready with hot := { powered := false } }, rfl, fun h => absurd h.powered (by decide)⟩

/-- A command of ring 1 as the manual's Table 2.5 lays it out. -/
def bytesOf (op len kind index flags : Nat) (body : Bytes := []) : Bytes :=
  le 2 op ++ le 2 9 ++ le 2 len ++ le 1 kind ++ le 1 index ++ le 4 flags ++ zeros 20 ++ body

/-- Quill is about to take these bytes from ring 1 of state s, as opcode and request, in state u0, and numbers them in state u. -/
def Takes (s : State) (desc : Desc) (data : Bytes) (op : Nat) (q : CmdReq) (u0 u : State) : Prop :=
  On s ∧ canDispatch s = true ∧ nextSource s = some 3 ∧ desc.fetched = true ∧ desc.owner = true ∧ s.cmd.waiting.length < 63 ∧
    (op, q) = parseCmd (.ring 1) (fit (min desc.length 4128) data) ∧
    u0 = consume 1 (emit (.ownerCleared 1 (s.ring 1).cons) s) ∧ u = (newCmd op q u0).2 ∧
    desc.length = 32 + u16 (fit (min desc.length 4128) data) 4 ∧ u16 (fit (min desc.length 4128) data) 4 ≤ 4096

/-- Reserved fields and flags are as Table 2.5 has them. -/
abbrev Clean (q : CmdReq) : Prop := q.reserved = 0 ∧ q.flags.toNat < 16 ∧ (q.atTick = false → q.execTick = 0)

theorem witness_RefusalsFollowTable2_9 :
    (∃ (s : State) (desc : Desc), On s ∧ canDispatch s = true ∧ nextSource s = some 3 ∧ desc.fetched = true ∧ desc.owner = true ∧
      s.cmd.waiting.length < 63 ∧ desc.length ≠ 32 + u16 (fit (min desc.length 4128) []) 4) ∧
    (∃ s desc data op q u0 u, Takes s desc data op q u0 u ∧ ¬ Clean q) ∧
    (∃ s desc data op q u0 u, Takes s desc data op q u0 u ∧ Clean q ∧ specOf op q u0 = none) ∧
    (∃ s desc data op q u0 u sp, Takes s desc data op q u0 u ∧ Clean q ∧ specOf op q u0 = some sp ∧ q.kind ≠ sp.kind) ∧
    (∃ s desc data op q u0 u sp, Takes s desc data op q u0 u ∧ Clean q ∧ specOf op q u0 = some sp ∧ q.kind = sp.kind ∧
      q.index < targetCount q.kind ∧ sp.target q.index = true ∧ sp.life q u = false) ∧
    (∃ s desc data op q u0 u sp, Takes s desc data op q u0 u ∧ Clean q ∧ specOf op q u0 = some sp ∧ q.kind = sp.kind ∧
      q.index < targetCount q.kind ∧ sp.target q.index = true ∧ sp.life q u = true ∧ (authStep sp q u).1 = false) ∧
    (∃ s desc data op q u0 u sp st v, Takes s desc data op q u0 u ∧ Clean q ∧ specOf op q u0 = some sp ∧ q.kind = sp.kind ∧
      q.index < targetCount q.kind ∧ sp.target q.index = true ∧ sp.life q u = true ∧ authStep sp q u = (true, v) ∧
      sp.check q v = some st) ∧
    (∃ s desc data op q u0 u sp v, Takes s desc data op q u0 u ∧ Clean q ∧ specOf op q u0 = some sp ∧ q.kind = sp.kind ∧
      q.index < targetCount q.kind ∧ sp.target q.index = true ∧ sp.life q u = true ∧ authStep sp q u = (true, v) ∧
      sp.check q v = none ∧ q.force = true ∧ sp.force = false) ∧
    (∃ s desc data op q u0 u sp st v, Takes s desc data op q u0 u ∧ Clean q ∧ specOf op q u0 = some sp ∧ q.kind = sp.kind ∧
      q.index < targetCount q.kind ∧ sp.target q.index = true ∧ sp.life q u = true ∧ authStep sp q u = (true, v) ∧
      sp.check q v = none ∧ (q.force = true → sp.force = true) ∧ sp.lease q v = some st) := by
  let s : State := { ready.setRing 1 { size := 16, enable := true, prod := 1 } with lc := {} }
  let r : State := { s with lc := { state := 4 } }
  have takes (s : State) (h : (s.hot.powered, s.boot.inReset) = (true, false) := by rfl) (len : Nat) (data : Bytes)
      (k : canDispatch s = true ∧ nextSource s = some 3 ∧ s.cmd.waiting.length < 63 ∧
        len = 32 + u16 (fit (min len 4128) data) 4 ∧ u16 (fit (min len 4128) data) 4 ≤ 4096) :
      Takes s { length := len } data (parseCmd (.ring 1) (fit (min len 4128) data)).1 (parseCmd (.ring 1) (fit (min len 4128) data)).2 _ _ :=
    ⟨on s h, k.1, k.2.1, rfl, rfl, k.2.2.1, rfl, rfl, rfl, k.2.2.2.1, k.2.2.2.2⟩
  exact ⟨⟨s, { length := 31 }, on _, by decide⟩,
    ⟨s, _, _, _, _, _, _, takes s rfl 32 (bytesOf 0x0100 0 0 0 16) (by decide), by decide⟩,
    ⟨s, _, _, _, _, _, _, takes s rfl 32 (bytesOf 0x0FFF 0 0 0 0) (by decide), by decide, rfl⟩,
    ⟨s, _, _, _, _, _, _, _, takes s rfl 32 (bytesOf 0x0100 0 1 0 0) (by decide), by decide, rfl, by decide⟩,
    ⟨r, _, _, _, _, _, _, _, takes r rfl 32 (bytesOf 0x0201 0 1 0 0) (by decide), by decide, rfl, by decide⟩,
    ⟨s, _, _, _, _, _, _, _, takes s rfl 32 (bytesOf 0x0100 0 0 0 8) (by decide), by decide, rfl, by decide⟩,
    ⟨s, _, _, _, _, _, _, _, _, _, takes s rfl 33 (bytesOf 0x0100 1 0 0 0 [0]) (by decide), by decide, rfl, by decide, by decide, by decide, by decide,
      rfl, rfl⟩,
    ⟨s, _, _, _, _, _, _, _, _, takes s rfl 32 (bytesOf 0x0100 0 0 0 2) (by decide), by decide, rfl, by decide, by decide, by decide, by decide,
      rfl, rfl, by decide, by decide⟩,
    ⟨s, _, _, _, _, _, _, _, _, _, takes s rfl 36 (bytesOf 0x0301 4 0 0 0 [0, 0, 0, 0]) (by decide), by decide, rfl, by decide, by decide, by decide,
      by decide, rfl, rfl, by decide, rfl⟩⟩

theorem witness_LatchedReadsAreCoherent :
    (∃ (s : State) (ps : Nat), Reaches .spi s ∧ nextLaunch 3 s = some ps) ∧
    (∃ (s : State) (k : Nat), Reaches .bar4 s ∧ (counterWindow .bar4 s).1 ≤ k ∧ k + 1 = (counterWindow .bar4 s).1 + (counterWindow .bar4 s).2.1 ∧
      s.dev.ctrl.getLsbD 2 = true ∧ k % 2 = 1 ∧ SMap.get false s.cnt.chained (k - 1) = true) ∧
    (∃ (s : State) (k : Nat), Reaches .pcie s ∧ (counterWindow .pcie s).1 = k ∧ k % 2 = 0) ∧
    (∃ q c s, Runs 0x0E03 q c s ∧ u16 q.body 4 = 2 ∧ hasTurn 3 [34] s = true) :=
  ⟨⟨ready.modInst 3 fun x => { x with sched := [{ atPs := 5, endPs := 5 }] }, 5, reaches .spi _, by decide⟩,
   ⟨{ ready with dev := { quill := 3, ctrl := 7 }, cnt := { chained := [(16382, true)] } }, 16383, reaches .bar4 _, by decide⟩,
   ⟨ready, 0, reaches .pcie _, by decide⟩, ⟨_, _, _, runs 0x0E03 (req 0 [0, 0, 0, 0, 2, 0]) ready, by decide⟩⟩

theorem witness_ClearingReadsLoseNothing :
    (∃ s : State, Reaches .spi s ∧ (s.lane 35).prbs = true ∧ (s.lane 35).state = .locked ∧ (s.lane 35).loopback ≠ 1 ∧
      (s.lane 35).eidleAt = none ∧ (s.lane 35).burstEnd = none ∧ rcNow (2 * hdrErrAddr 35) s = none ∧ rcNow (2 * hdrErrAddr 35 + 1) s = none) ∧
    (∃ s : State, Reaches .pcie s ∧ Plain s ∧ domainOn (groupDomain 37) s = true ∧ rcNow (2 * 0xA0000) s = none ∧
      rcNow (2 * 0xA0000 + 1) s = none ∧ s.dev.quill = 3) :=
  ⟨⟨lane 35 { prbs := true, state := .locked, prbsErr := 65535 }, reaches .spi _, by decide⟩, ⟨ready, reaches .pcie _, plain _, by decide⟩⟩

theorem witness_PairAndSleepRowsFrame : ∃ (i : Instr) (s t : State), ofPairOrSleep i = true ∧ exec i s = .next t :=
  ⟨.partnerGone none false, ready, _, rfl, rfl⟩

/-! ## Hypotheses of the statements about the fibres -/

theorem witness_TuningEventsTakeEffect :
    (∃ s, On s ∧ (s.inst 0).txGrid ≠ none ∧ (s.inst 0).rxGrid ≠ none ∧ (s.inst 0).txLocked = true) ∧
    (∃ s, On s ∧ (s.inst 3).st = 0x11 ∧ (s.inst 3).sync.state < 2 ∧ (s.inst 3).cfg.lineMode = 2 ∧ (s.inst 3).cfg.startGrid ≠ none ∧
      1024 ≤ ticksSince (s.inst 3).dwell s) ∧
    (∃ s, On s ∧ (s.inst 0).st = 0x11 ∧ (s.inst 0).sync.state < 2 ∧ (s.inst 0).cfg.lineMode ≠ 2 ∧ (s.inst 0).cfg.startGrid = none ∧
      64 ≤ ticksSince (s.inst 0).dwell s) :=
  ⟨⟨inst0 fun x => { x with txGrid := some 0, rxGrid := some 0, txLocked := true }, on _, by decide⟩,
   ⟨{ ready with clk := { tick := 1024 } }.modInst 3 fun x => { x with st := 0x11, sync := { state := 1 }, cfg := { startGrid := some 0 } },
    on _, by decide⟩,
   ⟨{ ready with clk := { tick := 64 } }.modInst 0 fun x => { x with st := 0x11, sync := { state := 0 }, cfg := { lineMode := 0 } },
    on _, by decide⟩⟩

theorem witness_InstanceCommandsAnswer :
    (∃ q c s, Runs 0x0200 q c s ∧ (s.inst q.index).st = 0x10) ∧ (∃ q c s, Runs 0x0201 q c s ∧ (s.inst q.index).st = 0x10 ∧ (s.inst q.index).sched = [] ∧
      ∀ j, j ≠ q.index → (s.inst j).rxClock ≠ clockNo s) ∧
    (∃ q c s, Runs 0x0202 q c s ∧ (s.inst q.index).st ≠ 0x10 ∧ (s.inst q.index).laserOn = false ∧ s.lig.phase = .none ∧
      (s.inst q.index).upHost = [] ∧ (s.inst q.index).sched = []) ∧
    (∃ q c s, Runs 0x0203 q c s) ∧ (∃ q c s, Runs 0x0204 q c s) :=
  ⟨⟨_, _, _, runs 0x0200 (req 3) ready, by decide⟩, ⟨_, _, _, runs 0x0201 (req 0) ready, by decide, by decide, fun _ _ => Nat.zero_ne_one⟩,
   ⟨_, _, _, runs 0x0202 (req 0) (inst0 fun x => { x with st := 0x51 }), by decide⟩, ⟨_, _, _, runs 0x0203 (req 0) ready⟩,
   ⟨_, _, _, runs 0x0204 (req 0) ready⟩⟩

theorem vssn_word (s : State) : ∃ v : Word, v.toNat = vssnOf 0 s :=
  ⟨BitVec.ofNat 32 (vssnOf 0 s), by simp only [vssnOf, BitVec.toNat_ofNat]; omega⟩

theorem witness_IdentityMessagesTakeEffect :
    (∃ m s, Heard 0 m s ∧ SMap.get {} (s.inst 0).burst 3 ≠ { stored := true, valid := true, fec := false, psbu := 0 }) ∧
    (∃ m s, Heard 0 m s ∧ (s.inst 0).st = 0x23 ∧ ∃ vssn : Word, vssn.toNat = vssnOf 0 s) ∧
    (∃ m s, Heard 0 m s ∧ (s.inst 0).st = 0x40 ∧ 800000 ≤ (s.inst 0).cfg.eqdLimit ∧ (s.inst 0).flapExit = none ∧
      (∃ vssn : Word, vssn.toNat = vssnOf 0 s) ∧ s.lig.phase = .none) ∧
    (∃ m s, Heard 0 m s ∧ ∃ p : Profile, ∀ e ∈ (s.inst 0).profiles, e.profile.index ≠ p.index) :=
  ⟨⟨_, _, heard ready, by decide⟩,
   ⟨_, _, heard (inst0 fun x => { x with st := 0x23 }), by decide, vssn_word _⟩,
   ⟨_, _, heard (inst0 fun x => { x with st := 0x40 }), by decide, by decide, by decide, vssn_word _, by decide⟩,
   ⟨_, _, heard ready, {}, by decide⟩⟩

theorem witness_TuningMessagesTakeEffect :
    (∃ m s, Heard 0 m s ∧ ∃ r : TuneReq, (s.inst 0).st = 0x51 ∧ profileUsable (s.inst 0) r.profile = true ∧
      rxHeld 0 r.profile.dsGrid s = false ∧ txHeld 0 r.profile.usGrid s = false) ∧
    (∃ m s, Heard 0 m s ∧ (s.inst 0).st = 0x90 ∧ (s.inst 0).onuId = some m.onuId ∧ (s.inst 0).txLocked = true) ∧
    (∃ m s, Heard 0 m s ∧ (∃ h v : Int, v = (s.inst 0).fineNext.getD (s.inst 0).fine + h ∧ v.natAbs = 20) ∧
      (∃ h v : Int, v = (s.inst 0).fineNext.getD (s.inst 0).fine + h ∧ v.natAbs = 21) ∧ (s.inst 0).onuId ≠ none) ∧
    (∃ r : TuneReq, ∃ s, On s ∧ (s.inst 0).tune = some r ∧ (s.inst 0).st = 0x52 ∧ (s.inst 0).sync.state = 2 ∧
      (s.inst 0).sync.sfc = r.superframe ∧ s.lig.phase = .none) :=
  ⟨⟨_, _, heard (inst0 fun x => { x with st := 0x51, mode := 1 }), { profile := { dsGrid := -106, usGrid := 22 } }, by decide⟩,
   ⟨_, _, heard (inst0 fun x => { x with st := 0x90, onuId := some 0x3FF, txLocked := true }), by decide⟩,
   ⟨_, _, heard (inst0 fun x => { x with onuId := some 1 }), ⟨-20, _, rfl, by decide⟩, ⟨21, _, rfl, by decide⟩, by decide⟩,
   ⟨{}, inst0 fun x => { x with st := 0x52, tune := some {}, sync := { state := 2 } }, on _, by decide⟩⟩

theorem witness_ServiceMessagesTakeEffect :
    (∃ m s, Heard 0 m s ∧ (s.inst 0).onuId ≠ none ∧
      (ctxsOf 0).find? (fun c => decide ((s.alloc c).allocId = some 1024) && !(s.alloc c).freed) = none ∧
      (ctxsOf 0).find? (fun c => decide ((s.alloc c).allocId = none) && !namedReservoir c s) = some 0) ∧
    (∃ m s, Heard 0 m s ∧ (s.inst 0).onuId ≠ none ∧
      (ctxsOf 0).find? (fun c => decide ((s.alloc c).allocId = some 1024) && !(s.alloc c).freed) = some 1) ∧
    (∃ m s, Heard 0 m s ∧ ponSlot 0 2 s = some 9 ∧ (s.inst 0).usKeyIndex ≠ 1 ∧ ponKeyLoaded 0 1 s = true) ∧
    (∃ m s, Heard 0 m s ∧ (s.inst 0).power = 1) ∧
    (∃ m s, Heard 0 m s ∧ (∃ raw, ¬ (u8 raw 2 = 0xD5 ∧ beNat (slice raw 4 2) = 0x0D5E)) ∧ (s.queue 12292).frames.length < 64) :=
  ⟨⟨_, _, heard (inst0 fun x => { x with onuId := some 1 }), by decide, by decide, by decide⟩,
   ⟨_, _, heard ((inst0 fun x => { x with onuId := some 1 }).setAlloc 1 { allocId := some 1024 }), by decide, by decide⟩,
   ⟨_, _, heard { ready with cipher := { ready.cipher with pon := [(1, some 8), (2, some 9)], slots := [(8, { loaded := true })] } }, by decide⟩,
   ⟨_, _, heard (inst0 fun x => { x with st := 0x51, power := 1 }), by decide⟩,
   ⟨_, _, heard ready, ⟨[], by decide⟩, by decide⟩⟩

theorem witness_ActivationTimersExpire :
    (∃ s, On s ∧ s.lig.phase = .none ∧ (s.inst 0).st = 0x40 ∧ ranOut (800 * (s.inst 0).cfg.to1) (s.inst 0).to1 s = true) ∧
    (∃ s, On s ∧ s.lig.phase = .none ∧ (s.inst 0).st = 0x60 ∧ ranOut (80 * (s.inst 0).cfg.to2) (s.inst 0).to2 s = true) ∧
    (∃ (r : TuneReq) (s : State), On s ∧ s.lig.phase = .none ∧ (s.inst 0).tune = some r ∧ (s.inst 0).st = 0x90 ∧
      ranOut r.to4 (s.inst 0).to4 s = true) ∧
    (∃ s, On s ∧ s.lig.phase = .none ∧ (s.inst 0).st = 0x52 ∧ ranOut (80 * (s.inst 0).cfg.to5) (s.inst 0).to5 s = true) :=
  ⟨⟨{ inst0 (fun x => { x with st := 0x40, to1 := some 0 }) with clk := { tick := 80001 } }, on _, by decide⟩,
   ⟨{ inst0 (fun x => { x with st := 0x60, to2 := some 0 }) with clk := { tick := 801 } }, on _, by decide⟩,
   ⟨{ to4 := 5 }, { inst0 (fun x => { x with st := 0x90, to4 := some 0, tune := some { to4 := 5 } }) with clk := { tick := 6 } }, on _, by decide⟩,
   ⟨{ inst0 (fun x => { x with st := 0x52, to5 := some 0 }) with clk := { tick := 1601 } }, on _, by decide⟩⟩

/-- Instances 0 and 1 in O5.1 with a group in the given state. -/
def group (g : Lig) : State :=
  { (inst0 fun x => { x with st := 0x51 }).modInst 1 fun x => { x with st := 0x51 } with lig := g }

theorem witness_LigatureRowsTakeEffect :
    (∃ q c s, Runs 0x0205 q c s ∧ s.lig.phase = .none ∧ bitsOf 4 (u8 q.body 0) ≠ [] ∧
      (∀ i ∈ bitsOf 4 (u8 q.body 0), i < 4 ∧ (s.inst i).inO5 = true)) ∧
    (∃ s, On s ∧ s.lig.phase = .negotiating ∧ ranFor 8000 s.lig.proposedAt s = true ∧ s.lig.proposals < 3 ∧
      anchorOf s.lig.proposed s = some 0) ∧
    (∃ s, On s ∧ s.lig.phase = .negotiating ∧ ranFor 8000 s.lig.proposedAt s = true ∧ 3 ≤ s.lig.proposals) ∧
    (∃ m s, ∃ (token : BitVec 16) (mask : BitVec 8) (startSfc : Word), Heard 0 m s ∧ s.lig.phase = .negotiating ∧
      s.lig.token = token.toNat ∧ ligAnchor s = some 0 ∧
      2 ≤ (s.lig.proposed.filter (fun j => bit mask.toNat (memberIndex j s))).length ∧
      8 ≤ signed 32 (startSfc.toNat + 2 ^ 32 - (s.inst 0).sync.sfc % 2 ^ 32) ∧
      signed 32 (startSfc.toNat + 2 ^ 32 - (s.inst 0).sync.sfc % 2 ^ 32) ≤ 8000) ∧
    (∃ s, On s ∧ ligAnchor s = some 0 ∧ s.lig.phase = .accepted ∧ (s.inst 0).sync.state = 2 ∧
      (s.inst 0).sync.sfc % 2 ^ 32 = s.lig.startSfc ∧ s.lig.suspended = []) ∧
    (∃ m s, ∃ token : BitVec 16, Heard 0 m s ∧ s.lig.token = token.toNat ∧ ligAnchor s = some 0 ∧ s.lig.phase = .negotiating) ∧
    (∃ m s, ∃ token : BitVec 16, Heard 0 m s ∧ s.lig.token = token.toNat ∧ ligAnchor s = some 0 ∧ s.lig.phase = .active) ∧
    (∃ s t₀, On s ∧ s.lig.rejoin.find? (fun e => decide (e.1 = 1)) = some (1, t₀) ∧ t₀ ≠ ownTick s ∧ (s.inst 1).inO5 = true) ∧
    (∃ q c s, Runs 0x0206 q c s ∧ s.lig.phase = .negotiating) ∧ (∃ q c s, Runs 0x0206 q c s ∧ s.lig.phase = .active) ∧
    (∃ m s, Heard 0 m s ∧ s.lig.phase = .stopping ∧ s.lig.stopAt ≠ none ∧ s.lig.stopBy = some 0) ∧
    (∃ s, On s ∧ s.lig.phase = .stopping ∧ ranFor 64 s.lig.stopAt s = true) :=
  ⟨⟨_, _, _, runs 0x0205 (req 0 [3, 0, 0, 0]) (group {}), by decide⟩,
   ⟨{ group { phase := .negotiating, proposed := [0, 1], proposals := 2, proposedAt := some 0 } with clk := { tick := 8000 } }, on _, by decide⟩,
   ⟨{ group { phase := .negotiating, proposals := 3, proposedAt := some 0 } with clk := { tick := 8000 } }, on _, by decide⟩,
   ⟨_, _, 7, 3, 8, heard (group { phase := .negotiating, token := 7, proposed := [0, 1] }), by decide⟩,
   ⟨hears (group { phase := .accepted, members := [0, 1], startSfc := 0 }), on _, by decide⟩,
   ⟨_, _, 7, heard (group { phase := .negotiating, token := 7, proposed := [0, 1] }), by decide⟩,
   ⟨_, _, 7, heard (group { phase := .active, token := 7, members := [0, 1] }), by decide⟩,
   ⟨group { phase := .active, members := [0, 1], suspended := [1], rejoin := [(1, 5)] }, 5, on _, by decide⟩,
   ⟨_, _, _, runs 0x0206 (req 0 [0, 0, 0, 0]) (group { phase := .negotiating }), by decide⟩,
   ⟨_, _, _, runs 0x0206 (req 0 [0, 0, 0, 0]) (group { phase := .active }), by decide⟩,
   ⟨_, _, heard (group { phase := .stopping, members := [0, 1], stopAt := some 0, stopBy := some 0 }), by decide⟩,
   ⟨{ group { phase := .stopping, stopAt := some 0 } with clk := { tick := 64 } }, on _, by decide⟩⟩

theorem witness_DownstreamRowsTakeEffect :
    (∃ s, On s ∧ s.pwr.state = .awake ∧ (s.inst 0).rxLocked = true ∧ (s.inst 0).sync.state = 0) ∧
    (∃ s, On s ∧ s.pwr.state = .awake ∧ (s.inst 0).rxLocked = true ∧ (s.inst 0).sync.state = 2 ∧
      (∃ sfc : BitVec 51, sfc.toNat = ((s.inst 0).sync.sfc + 1) % 2 ^ 51) ∧ (s.inst 0).sync.frameLost = false) ∧
    (∃ s, On s ∧ s.pwr.state = .awake ∧ (s.inst 0).sync.state = 2 ∧ 8000 ≤ (s.inst 0).sync.winTicks ∧
      (s.inst 0).sync.winBits < 1000 * (s.inst 0).sync.winCorrected ∧ (s.inst 0).sync.badRun < 8 ∧ (s.inst 0).sync.goodRun < 64) ∧
    (∃ s port, On s ∧ s.pwr.state = .awake ∧ (s.inst 0).sync.state = 2 ∧ (s.inst 0).sync.frameLost = false ∧
      (s.inst 0).sync.payloadLost = false ∧ port ≠ 0xFFFF ∧ isOmcc 0 port s = false ∧ SMap.get {} (s.inst 0).reasm port = {} ∧
      (SMap.get {} (s.inst 0).ports port).bound = true ∧ (SMap.get {} (s.inst 0).ports port).encrypt = false ∧
      (SMap.get {} (s.inst 0).ports port).bonded = false) ∧
    (∃ s port seq, On s ∧ s.pwr.state = .awake ∧ expectsBonded 0 s = true ∧ (SMap.get {} (s.inst 0).ports port).bonded = true ∧
      (s.inst 0).sync.state = 2 ∧ s.lig.resync = false ∧ s.lig.held = [] ∧ s.lig.partOpen = false ∧ seq % 2 ^ 20 = s.lig.dsNext) ∧
    (∃ (s : State) (h : Held), On s ∧ s.pwr.state = .awake ∧ s.lig.held = [h] ∧ (h.atPs + 64000000) / 800 < s.clk.nowPs / 800 ∧ h.seq < 2 ^ 20 ∧
      h.seq ≠ s.lig.dsNext) ∧
    (∃ s, On s ∧ s.pwr.state = .awake ∧ pathUp .pcie s = true) :=
  ⟨⟨inst0 fun x => { x with rxLocked := true, sync := { state := 0 } }, on _, by decide⟩,
   ⟨inst0 fun x => { x with rxLocked := true, sync := { state := 2, sfc := 2 ^ 51 - 1 } }, on _, by decide, by decide, by decide, ⟨0, by decide⟩, by decide⟩,
   ⟨inst0 fun x => { x with sync := { state := 2, winTicks := 8000, winBits := 999, winCorrected := 1, badRun := 7, goodRun := 63 } },
    on _, by decide⟩,
   ⟨inst0 fun x => { x with sync := { state := 2 }, ports := [(1, { bound := true })] }, 1, on _, by decide⟩,
   ⟨{ inst0 fun x => { x with sync := { state := 2 }, ports := [(1, { bound := true, bonded := true })] } with
      lig := { phase := .active, members := [0, 1] } }, 1, 2 ^ 20, on _, by decide⟩,
   ⟨{ ready with lig := { phase := .active, members := [0, 1],
                          held := [{ seq := 2 ^ 20 - 1, first := true, last := true, member := 0, atPs := 0, port := 1, data := [] }] }
                 clk := { nowPs := 64000800 } }, _, on _, by decide, rfl, by decide⟩,
   ⟨ready, on _, by decide⟩⟩

theorem witness_FibreServiceCommandsAnswer :
    (∃ q c s, Runs 0x0F00 q c s ∧ (s.inst q.index).omcc.length < 64 ∧ (s.inst q.index).onuId ≠ none) ∧
    (∃ q c s, Runs 0x0F01 q c s ∧ (s.inst q.index).onuId ≠ none ∧ (s.inst q.index).upHost.length < 4) ∧
    (∃ q c s, Runs 0x0F02 q c s ∧ (SMap.get {} (s.inst q.index).ports (u16 q.body 0)).bound = true ∧ s.lig.phase = .none) ∧
    (∃ q c s, Runs 0x0F02 q c s ∧ (s.inst q.index).ports.length < 4096 ∧ s.lig.phase = .none) ∧
    (∃ q c s, Runs 0x0F03 q c s ∧ (SMap.get {} (s.inst q.index).ports (u16 q.body 0)).bound = true) ∧
    (∃ q c s, Runs 0x0F04 q c s ∧ (SMap.get {} (s.inst q.index).ports (u16 q.body 0)).bound = true) ∧
    (∃ q c s, Runs 0x0210 q c s) ∧ (∃ q c s, Runs 0x0211 q c s) :=
  ⟨⟨_, _, _, runs 0x0F00 (req 0 [0, 0, 0, 0]) (inst0 fun x => { x with onuId := some 1, omcc := List.replicate 63 [] }), by decide⟩,
   ⟨_, _, _, runs 0x0F01 (req 0) (inst0 fun x => { x with onuId := some 1, upHost := List.replicate 3 { msg := .none } }), by decide⟩,
   ⟨_, _, _, runs 0x0F02 (req 0) (inst0 fun x => { x with ports := [(0, { bound := true })] }), by decide⟩,
   ⟨_, _, _, runs 0x0F02 (req 0) ready, by decide⟩,
   ⟨_, _, _, runs 0x0F03 (req 0) (inst0 fun x => { x with ports := [(0, { bound := true })] }), by decide⟩,
   ⟨_, _, _, runs 0x0F04 (req 0) (inst0 fun x => { x with ports := [(0, { bound := true })] }), by decide⟩,
   ⟨_, _, _, runs 0x0210 (req 0) ready⟩, ⟨_, _, _, runs 0x0211 (req 0) ready⟩⟩

/-- Instance 0 in O5.1 with slot 0 assigned and a burst profile stored. -/
def granted : State :=
  (hears (inst0 fun x => { x with st := 0x51, usRate := 4, onuId := some 1, burst := [(0, { stored := true, valid := true })],
                                  sync := { phyPs := 2000000 } })).setAlloc 0 { allocId := some 1 }

theorem granted_intime : granted.clk.nowPs <
    upFrame (granted.inst 0) + 0 - bytesPs (granted.inst 0).usRate 0 - 1000000 := by
  have h : 2000000 ≤ upFrame (granted.inst 0) := Nat.le_add_right _ _
  have z : bytesPs (granted.inst 0).usRate 0 = 0 := by decide
  have n : granted.clk.nowPs = 0 := rfl
  omega

theorem witness_BurstRowsTakeEffect :
    (∃ (s : State) (g : Grant) (b : BurstProfile) (c : Nat), On s ∧ s.pwr.state = .awake ∧ (s.inst 0).sync.state = 2 ∧
      (s.inst 0).sync.frameLost = false ∧ (s.inst 0).sync.mapLost = false ∧ g.hecOk = true ∧ g.sn = false ∧ g.tooSmall = false ∧
      g.startPs + g.linePs ≤ 125000000 ∧ (s.inst 0).sched = [] ∧ pairStandby s = false ∧
      (ctxsOf 0).find? (fun c => decide ((s.alloc c).allocId = some g.allocId)) = some c ∧ stateLaunches (s.inst 0).st = true ∧
      (s.alloc c).cfg.feed ≠ 1 ∧ burstOf (s.inst 0) g.profile = some b ∧
      s.clk.nowPs < upFrame (s.inst 0) + g.startPs - bytesPs (s.inst 0).usRate b.psbu - 1000000) ∧
    (∃ (s : State) (p : Pull), On s ∧
      (s.worker (s.alloc 0).cfg.worker).pulls.find? (fun p => decide (p.ctx = 0) && decide (p.inst = 0) && !p.sent) = some p ∧
      max s.clk.nowPs (p.atPs - 250000000) + delayPs (s.alloc 0).cfg.worker s + (s.worker (s.alloc 0).cfg.worker).leadNs * 1000 ≤ p.atPs ∧
      (s.lane (s.alloc 0).cfg.worker).transmits = true ∧ pairStandby s = false) ∧
    (∃ (s : State) (e : Entry), On s ∧ (s.inst 0).sched = [e] ∧ e.prepared = false ∧ e.shadow = false ∧
      statePermits (s.inst 0) e = true ∧ (s.inst 0).txLocked = true ∧ lowerFirst 0 e s = false ∧
      lightFor 0 e (advanceTo (e.atPs - 1000000) s) = true) ∧
    (∃ (s : State) (e : Entry), On s ∧ (s.inst 0).sched.find? (fun e => e.prepared && !e.enabled && !e.shadow) = some e) ∧
    (∃ (s : State) (e : Entry) (u : UpItem) (v : Nat), On s ∧
      (s.inst 0).sched.find? (fun e => e.prepared && !e.launched && (e.enabled || e.shadow)) = some e ∧
      e.shadow = false ∧ e.ploam = some u ∧ u.eqd = some v) ∧
    (∃ (s : State) (e : Entry) (a : Alloc), On s ∧ (s.inst 0).sched = [e] ∧ e.prepared = true ∧ e.allocs = [a] ∧ a.filled = false ∧
      pullOf a s = none) ∧
    (∃ (s : State) (e : Entry), On s ∧ (s.inst 0).sched = [e] ∧ e.launched = true) ∧ (∃ s : State, On s ∧ (s.alloc 1023).freed = true) ∧
    (∃ (s : State) (ps : Nat), On s ∧ pathUp .spi s = true ∧ s.pwr.state = .awake ∧ nextLaunch 0 s = some ps) :=
  ⟨⟨granted, { allocId := 1, linePs := 125000000 }, { stored := true, valid := true }, 0, on _, by decide, by decide, by decide,
    by decide, by decide, by decide, by decide, by decide, by decide, by decide, by decide, by decide, by decide, by decide, granted_intime⟩,
   ⟨ready.setWorker 0 { pulls := [{ gid := 0, inst := 0, ctx := 0, budget := 0, atPs := 0, feedPs := 0, endPs := 0 }] }, _, on _, rfl, by decide⟩,
   ⟨{ inst0 fun x => { x with st := 0x51, txLocked := true, sched := [{ atPs := 0, endPs := 0 }] } with
      dev := { quill := 3, outputs := 15 } }, _, on _, rfl, by decide⟩,
   ⟨inst0 fun x => { x with sched := [{ atPs := 0, endPs := 0, prepared := true }] }, _, on _, rfl⟩,
   ⟨inst0 fun x => { x with sched := [{ atPs := 0, endPs := 0, prepared := true, enabled := true,
                                        ploam := some { msg := .none, eqd := some 7 } }] }, _, _, _, on _, rfl, rfl, rfl, rfl⟩,
   ⟨inst0 fun x => { x with sched := [{ atPs := 0, endPs := 0, prepared := true, allocs := [{ ctx := 0, allocId := 1, payload := 0 }] }] },
    _, _, on _, rfl, rfl, rfl, rfl, rfl⟩,
   ⟨inst0 fun x => { x with sched := [{ atPs := 0, endPs := 0, launched := true }] }, _, on _, rfl, rfl⟩,
   ⟨ready.setAlloc 1023 { freed := true }, on _, by decide⟩,
   ⟨inst0 fun x => { x with sched := [{ atPs := 5, endPs := 5 }] }, 5, on _, by decide⟩⟩

/-! ## Hypotheses of the statements about forwarding -/

/-- One lease over table block 0. -/
def lease0 : Lease := { id := 1, owner := 0, remaining := 64, taken := 0, blocks := 1 }

/-- `ready` with a change of the forwarding table. -/
def table (f : Tbl → Tbl) : State := { ready with tbl := f ready.tbl }

theorem witness_TableLockCommandsAnswer :
    (∃ q c s, Runs 0x0300 q c s ∧ (∀ b ∈ bitsOf 16 (u16 q.body 0), isolated b s = false ∧ locked b s = false) ∧ s.bist.run = none ∧
      s.tbl.leases.length < 16) ∧
    (∃ q c s l, Runs 0x0301 q c s ∧ leaseById q.leaseId.toNat s = some l) ∧
    (∃ q c s l, Runs 0x0302 q c s ∧ leaseById q.leaseId.toNat s = some l ∧ u8 q.body 0 = 1) ∧
    (∃ q c s l, Runs 0x0302 q c s ∧ leaseById q.leaseId.toNat s = some l ∧ u8 q.body 0 ≠ 1 ∧ l.overflowed = true) ∧
    (∃ q c s l, Runs 0x0302 q c s ∧ leaseById q.leaseId.toNat s = some l ∧ u8 q.body 0 ≠ 1 ∧ l.overflowed = false ∧
      hasTurn 2 (leaseGroups l) s = true) ∧
    (∃ q c s, Runs 0x0307 q c s) ∧ (∃ q c s, Runs 0x0308 q c s) :=
  ⟨⟨_, _, _, runs 0x0300 (req 0 [0xFE, 0xFF, 0, 0]) (table fun t => { t with leases := [lease0] }), by decide⟩,
   ⟨_, _, _, _, runs 0x0301 { leaseId := 1 } (table fun t => { t with leases := [lease0] }), rfl⟩,
   ⟨_, _, _, _, runs 0x0302 { leaseId := 1, payload := [1] } (table fun t => { t with leases := [lease0] }), rfl, by decide⟩,
   ⟨_, _, _, _, runs 0x0302 { leaseId := 1 } (table fun t => { t with leases := [{ lease0 with overflowed := true }] }), rfl, by decide⟩,
   ⟨_, _, _, _, runs 0x0302 { leaseId := 1 } (table fun t => { t with leases := [lease0] }), rfl, by decide⟩,
   ⟨_, _, _, runs 0x0307 (req 0) ready⟩, ⟨_, _, _, runs 0x0308 (req 0) ready⟩⟩

/-- The MAC key 5 of VRF 0, and a table that holds it in its first candidate cell. -/
def key5 : TKey := { ty := 0, key := 5 }
def holds5 : State := setEntry (4096 * (cells key5).1) (makeEntry 0 5 0 5) ready

theorem witness_TableSearchCommandsAnswer :
    (∃ q c s n, Runs 0x0303 q c s ∧ s.tbl.corrupt = [] ∧
      key5 = { ty := u8 q.body 0, key := BitVec.ofNat 64 (u64 q.body 8), lo := BitVec.ofNat 64 (u64 q.body 16), vrf := u16 q.body 2 } ∧
      matchesIn key5 (cells key5).1 s = [n] ∧ matchesIn key5 (cells key5).2 s = []) ∧
    (∃ q c s, Runs 0x0303 q c s ∧ s.tbl.corrupt = [] ∧
      key5 = { ty := u8 q.body 0, key := BitVec.ofNat 64 (u64 q.body 8), lo := BitVec.ofNat 64 (u64 q.body 16), vrf := u16 q.body 2 } ∧
      matchesIn key5 (cells key5).1 s = [] ∧ matchesIn key5 (cells key5).2 s = []) ∧
    (∃ q c s, Runs 0x0304 q c s) ∧
    (∃ q c s, Runs 0x0305 q c s ∧ q.leaseId = 0 ∧ leaseById 0 s = none ∧ (∀ b ∈ bitsOf 16 (flushMask q.body), leaseOf b s = none)) ∧
    (∃ q c s, Runs 0x0306 q c s ∧ q.kind = 6) ∧ (∃ q c s, Runs 0x0306 q c s ∧ q.kind ≠ 6) :=
  ⟨⟨_, _, _, 4096 * (cells key5).1, runs 0x0303 (req 0 [0, 0, 0, 0, 0, 0, 0, 0, 5]) holds5, by decide +kernel⟩,
   ⟨_, _, _, runs 0x0303 (req 0 [0, 0, 0, 0, 0, 0, 0, 0, 5]) ready, by decide⟩,
   ⟨_, _, _, runs 0x0304 (req 0) ready⟩, ⟨_, _, _, runs 0x0305 (req 0) ready, by decide⟩,
   ⟨_, _, _, runs 0x0306 { kind := 6 } ready, by decide⟩, ⟨_, _, _, runs 0x0306 (req 0) ready, by decide⟩⟩

/-- A learn record of the tick before. -/
def rec5 : LearnRec := { key := 5, source := 0, tick := 0xFFFFFFFF }

theorem witness_TableItemsTakeEffect :
    (∃ s, Due 3 s ∧ s.tbl.leases ≠ [] ∧ ∀ l ∈ s.tbl.leases, l.remaining ≠ 0) ∧
    (∃ s l, Due 3 s ∧ s.tbl.leases = [l] ∧ l.remaining = 0 ∧ s.cmd.executing = []) ∧
    (∃ s r n, Due 6 s ∧ s.tbl.learn = [r] ∧ r.tick ≠ ownTick s ∧ deferredNow r s = false ∧ s.tbl.corrupt = [] ∧
      matchesIn { ty := 0, key := r.key } (cells { ty := 0, key := r.key }).1 s = [] ∧
      matchesIn { ty := 0, key := r.key } (cells { ty := 0, key := r.key }).2 s = [] ∧
      freeIn (if freeCount (cells { ty := 0, key := r.key }).1 s < freeCount (cells { ty := 0, key := r.key }).2 s
              then (cells { ty := 0, key := r.key }).2 else (cells { ty := 0, key := r.key }).1) s = some n) ∧
    (∃ s r, Due 6 s ∧ s.tbl.learn = [r] ∧ r.tick ≠ ownTick s ∧ deferredNow r s = true) ∧
    (∃ s n e, Due 7 s ∧ s.tbl.age.interval ≠ 0 ∧ tickDiff s.clk.tick s.tbl.ageBase % s.tbl.age.interval = 0 ∧ s.tbl.entries = [(n, e)] ∧
      entryValid e = true ∧ entryType e < 2 ∧ isolated (n / 262144) s = false ∧ locked (n / 262144) s = false ∧ entryAge e = 1) ∧
    (∃ s n e, Due 7 s ∧ s.tbl.age.interval ≠ 0 ∧ tickDiff s.clk.tick s.tbl.ageBase % s.tbl.age.interval = 0 ∧ s.tbl.entries = [(n, e)] ∧
      entryValid e = true ∧ entryType e < 2 ∧ isolated (n / 262144) s = false ∧ locked (n / 262144) s = false ∧ entryAge e = 0) ∧
    (∃ s n e, Due 7 s ∧ s.tbl.age.interval ≠ 0 ∧ tickDiff s.clk.tick s.tbl.ageBase % s.tbl.age.interval = 0 ∧ s.tbl.entries = [(n, e)] ∧
      entryValid e = true ∧ entryType e < 2 ∧ isolated (n / 262144) s = false ∧ locked (n / 262144) s = false ∧ entryAge e = 15) ∧
    (∃ (v : Word) (s : State), Reaches .spi s ∧ leaseById v.toNat s = none) ∧
    (∃ (v : Word) (s : State) (l : Lease), Reaches .spi s ∧ leaseById v.toNat s = some l ∧ s.cmd.executing = []) :=
  ⟨⟨table fun t => { t with leases := [lease0, { lease0 with id := 2, blocks := 2, remaining := 1 }] }, due 3 _, by decide⟩,
   ⟨table fun t => { t with leases := [{ lease0 with remaining := 0 }] }, _, due 3 _, rfl, by decide⟩,
   ⟨table fun t => { t with learn := [rec5] }, _, 4096 * (cells key5).1, due 6 _, rfl, by decide +kernel⟩,
   ⟨table fun t => { t with learn := [rec5], leases := [{ lease0 with blocks := 0xFFFF }] }, _, due 6 _, rfl, by decide +kernel⟩,
   ⟨table fun t => { t with entries := [(0, makeEntry 0 5 0 1)] }, _, _, due 7 _, by decide, by decide, rfl, by decide⟩,
   ⟨table fun t => { t with entries := [(0, makeEntry 0 5 0 0)] }, _, _, due 7 _, by decide, by decide, rfl, by decide⟩,
   ⟨table fun t => { t with entries := [(0, makeEntry 0 5 0 15)] }, _, _, due 7 _, by decide, by decide, rfl, by decide⟩,
   ⟨2, table fun t => { t with leases := [lease0] }, reaches .spi _, rfl⟩,
   ⟨1, table fun t => { t with leases := [lease0] }, _, reaches .spi _, rfl, rfl⟩⟩

theorem witness_TableWindowRowsTakeEffect :
    (∃ addr s n l, Reaches .pcie s ∧ addr % 4 = 0 ∧ addr < 0x2000000 ∧ windowEntry addr s = some n ∧ leaseOf (n / 262144) s = some l ∧
      leaseById l.id s = some l ∧ stagedCount s < 65536) ∧
    (∃ addr s n, Reaches .pcie s ∧ addr % 4 = 0 ∧ addr < 0x2000000 ∧ windowEntry addr s = some n ∧ leaseOf (n / 262144) s = none ∧
      addr / 4 % 4 = 0) ∧
    (∃ addr s, Reaches .pcie s ∧ addr % 4 = 0 ∧ addr < 0x2000000 ∧ windowEntry addr s = none) ∧
    (∃ addr s n, Reaches .pcie s ∧ addr % 4 = 0 ∧ addr < 0x2000000 ∧ windowEntry addr s = some n ∧ addr / 4 % 4 ≠ 0 ∧
      SMap.get 0 (s.latch .pcie).tblEntry (addr / 0x400000) = n + 1) ∧
    (∃ s f, Reaches .pcie s ∧ f < 2 ^ 20 ∧ s.tbl.held = none) ∧ (∃ s f, Reaches .pcie s ∧ f < 2 ^ 20 ∧ s.tbl.held = some f) :=
  ⟨⟨0x1C00000, table fun t => { t with winMap := [(7, 0x100)], leases := [lease0] }, 0, lease0, reaches .pcie _, by decide⟩,
   ⟨0, table fun t => { t with winMap := [(0, 0x100)] }, 0, reaches .pcie _, by decide⟩,
   ⟨0x1FFFFFC, ready, reaches .pcie _, by decide⟩,
   ⟨12, { table (fun t => { t with winMap := [(0, 0x100)] }) with latchPcie := { tblEntry := [(0, 1)] } }, 0, reaches .pcie _, by decide⟩,
   ⟨ready, 2 ^ 20 - 1, reaches .pcie _, by decide⟩, ⟨table fun t => { t with held := some 9 }, 9, reaches .pcie _, by decide⟩⟩

/-- `ready` with a change of the classifier. -/
def classifier (f : Cls → Cls) : State := { ready with cls := f ready.cls }

/-- All that the command number 0 reads from host memory has been read. -/
def fetchedAll (s : State) : State := { s with mem := { s.mem with fetches := [(0, some { left := 0 })] } }

theorem witness_ClassifierCommandsAnswer :
    (∃ q c s, Runs 0x0400 q c s ∧ (q.atTick || c.due.isSome) = false) ∧ (∃ q c s, Runs 0x0400 q c s ∧ (q.atTick || c.due.isSome) = true) ∧
    (∃ q c s, Runs 0x0401 q c s ∧ (∀ k ∈ [0, 1], (s.image k).state ≠ .building) ∧ (s.image (u8 q.body 0)).state ≠ .draining ∧
      (s.image (u8 q.body 0)).state ≠ .active ∧ s.cls.swapTo = none ∧ breachesRank 0 hostRead_ s = false) ∧
    (∃ (e : Fin 2) (c : Cmd) (s : State), Begun 0x0401 c s ∧ (s.image e).state = .building ∧ (∀ k, k < e.val → (s.image k).state ≠ .building) ∧
      targetFrozen (24 + e.val) s = false ∧ fetched c s = true ∧ ruleFault (s.image e).comps (s.image e).rules = none ∧
      (Config.freeValue s.freeCtr % 2 ^ 24 ≤ 4194304 ∨ 4194304 < Config.freeValue s.freeCtr % 2 ^ 24)) ∧
    (∃ (e : Fin 2) (c : Cmd) (s : State) (d : Nat), Begun 0x0401 c s ∧ (s.image e).state = .building ∧
      (∀ k, k < e.val → (s.image k).state ≠ .building) ∧ targetFrozen (24 + e.val) s = false ∧ fetched c s = true ∧
      ruleFault (s.image e).comps (s.image e).rules = some d) ∧
    (∃ q c s, Runs 0x0402 q c s ∧ (s.image (u8 q.body 0)).state = .active) ∧
    (∃ q c s, Runs 0x0402 q c s ∧ (s.image (u8 q.body 0)).state = .ready ∧
      (∀ k ∈ [0, 1], (s.image k).state ≠ .building ∧ (s.image k).state ≠ .draining) ∧ s.cls.swapTo = none ∧
      (q.atTick || c.due.isSome) = false) ∧
    (∃ (e : Nat) (c : Cmd) (s : State), Begun 0x0402 c s ∧ drainingImage s = some e ∧ inFlight e s = 0) ∧
    (∃ q c s k r, Runs 0x0403 q c s ∧ (s.image (u8 q.body 1)).state ≠ .building ∧ (s.image (u8 q.body 1)).state ≠ .empty ∧
      (s.image (u8 q.body 1)).valid = true ∧
      (classOf s.cls.cfg (s.image (u8 q.body 1)) (u8 q.body 0) (u16 q.body 2) (u16 q.body 4) false (u16 q.body 4) (q.body.drop 8)).rule =
        some (k, r) ∧ u8 r 0 ≠ 4) :=
  ⟨⟨_, _, _, runs 0x0400 (req 0) ready, rfl⟩, ⟨_, _, _, runs 0x0400 { flags := 4 } ready, rfl⟩,
   ⟨_, _, _, runs 0x0401 (req 0 (1 :: List.replicate 559 0)) ready, by decide +kernel⟩,
   ⟨1, _, _, begins 0x0401 (req 0) (fetchedAll (classifier fun x => { x with images := [(1, { state := .building })] })),
    by decide, by decide, by decide, by decide, by decide, Nat.lt_or_ge _ _ |>.symm⟩,
   ⟨1, _, _, 0, begins 0x0401 (req 0) (fetchedAll (classifier fun x => { x with images := [(1, { state := .building, rules := [[0xFF]] })] })),
    by decide, by decide, by decide, by decide, rfl⟩,
   ⟨_, _, _, runs 0x0402 (req 0) ready, by decide⟩,
   ⟨_, _, _, runs 0x0402 (req 0 [1]) (classifier fun x => { x with images := [(1, imageIn .ready)] }), by decide⟩,
   ⟨1, _, _, begins 0x0402 (req 0) (classifier fun x => { x with images := [(1, imageIn .draining)] }), by decide⟩,
   ⟨_, _, _, 0, _, runs 0x0403 (req 0 [0, 1, 0, 0, 20]) (classifier fun x => { x with images := [(1, imageIn .ready)] }),
    by decide, by decide, by decide, rfl, by decide⟩⟩

/-- A search of a frame of host port A under image A, whose one rule forwards. -/
def flight (f : Flight → Flight) : State :=
  { ready with cls := { ready.cls with images := [(0, imageIn .active)]
                                       flights := [f { frame := { data := List.replicate 20 0, ingress := 4 }, epoch := 0, cfg := {} }] } }

/-- The same with a rule of another verdict. -/
def flightOf (v k : Byte) : State :=
  let s := flight id
  { s with cls := { s.cls with images := [(0, { imageIn .active with rules := [v :: List.replicate 12 0 ++ k :: List.replicate 210 0] })] } }

theorem witness_PipelineRowsTakeEffect :
    (∃ (s : State) (f : Frame) (r : List Frame) (e : Nat) (up : Bool), On s ∧ s.waitUp = (if up then f :: r else []) ∧
      (up = false → s.waitDown = f :: r) ∧ s.cls.flights.any waitsAgain = false ∧ nextEngine s.cls.rot s = some e ∧ (s.image s.cls.epoch).valid = true) ∧
    (∃ (s : State) (f : Frame) (r : List Frame) (e : Nat) (up : Bool), On s ∧ s.waitUp = (if up then f :: r else []) ∧
      (up = false → s.waitDown = f :: r) ∧ s.cls.flights.any waitsAgain = false ∧ nextEngine s.cls.rot s = some e ∧ (s.image s.cls.epoch).valid = false) ∧
    (∃ (s : State) (f : Flight) (k : Nat) (r : Bytes), On s ∧ s.cls.flights.find? searching = some f ∧ (classFlight f s).reason = none ∧
      (classFlight f s).parse.incomplete = false ∧ (classFlight f s).rule = some (k, r) ∧ u8 r 0 ≠ 2 ∧ u8 r 0 ≠ 4) ∧
    (∃ (s : State) (f : Flight) (k : Nat) (r : Bytes), On s ∧ s.cls.flights.find? searching = some f ∧ (classFlight f s).reason = none ∧
      (classFlight f s).parse.incomplete = false ∧ (classFlight f s).rule = some (k, r) ∧ u8 r 0 = 2) ∧
    (∃ (s : State) (f : Flight) (k : Nat) (r : Bytes) (o : Nat), On s ∧ s.cls.flights.find? searching = some f ∧
      (classFlight f s).reason = none ∧ (classFlight f s).parse.incomplete = false ∧ (classFlight f s).rule = some (k, r) ∧
      u8 r 0 = 4 ∧ f.pass ≠ 2 ∧ stripAt (classFlight f s).parse (u8 r 13) = some o ∧ bit (u8 r 1) 4 = false) ∧
    (∃ (s : State) (f : Flight) (o e : Nat), On s ∧ s.cls.flights.find? waitsAgain = some f ∧ f.stage = .again o ∧
      nextEngine s.cls.rot s = some e ∧ (s.image f.epoch).valid = true) ∧
    (∃ (s : State) (f : Flight) (o e : Nat), On s ∧ s.cls.flights.find? waitsAgain = some f ∧ f.stage = .again o ∧
      nextEngine s.cls.rot s = some e ∧ (s.image f.epoch).valid = false) ∧
    (∃ (s : State) (f : Flight) (d : Decision), On s ∧ nextRelease 4 s.cls.flights [] = some (f, d) ∧ d.verdict < 3 ∧ d.key = none ∧
      d.learn = none ∧ d.copy = false ∧ 4 ≤ f.frame.ingress ∧ d.queue < 12288 ∧ u16 (flowBytes d.flow s) 2 % 8 = 1) ∧
    (∃ (s : State) (n : Nat), On s ∧ Plain s ∧ s.cls.enginesOk.getLsbD 15 = true ∧ s.cls.faulted.getLsbD 15 = false ∧
      nextEngine 16 s = some n) :=
  ⟨⟨{ flight id with waitUp := [{}] }, {}, [], 0, true, on _, by decide⟩,
   ⟨{ ready with waitDown := [{}] }, {}, [], 0, false, on _, by decide⟩,
   ⟨flight id, _, 0, 1 :: List.replicate 223 0, on _, rfl, by decide +kernel⟩,
   ⟨flightOf 2 0, _, 0, 2 :: List.replicate 223 0, on _, rfl, by decide +kernel⟩,
   ⟨flightOf 4 1, _, 0, 4 :: List.replicate 12 0 ++ 1 :: List.replicate 210 0, 0, on _, rfl, by decide +kernel⟩,
   ⟨flight fun f => { f with stage := .again 14 }, _, 14, 0, on _, rfl, by decide⟩,
   ⟨flight fun f => { f with stage := .again 14, epoch := 1 }, _, 14, 0, on _, rfl, by decide⟩,
   ⟨{ flight (fun f => { f with stage := .done { verdict := 1 } }) with tbl := { ready.tbl with flow := [(0, 0x10000)] } }, _, _, on _, rfl, by decide⟩,
   ⟨ready, 0, on _, plain _, by decide⟩⟩

theorem witness_SchedulerCommandsAnswer :
    (∃ q c s, Runs 0x0500 q c s) ∧ (∃ q c s, Runs 0x0501 q c s) ∧ (∃ q c s, Runs 0x0502 q c s) ∧ (∃ q c s, Runs 0x0503 q c s) ∧
    (∃ q c s, Runs 0x0504 q c s) ∧
    (∃ q c s, Runs 0x0505 q c s ∧ gateStart (gateListOf q.body) (tbNow (gateListOf q.body).timebase s) ≠ tbNow (gateListOf q.body).timebase s ∧
      (s.gate (u8 q.body 0)).pending = none) ∧
    (∃ q c s, Runs 0x0505 q c s ∧ gateStart (gateListOf q.body) (tbNow (gateListOf q.body).timebase s) = tbNow (gateListOf q.body).timebase s ∧
      (s.gate (u8 q.body 0)).pending = none) :=
  ⟨⟨_, _, _, runs 0x0500 (req 0) ready⟩, ⟨_, _, _, runs 0x0501 (req 0) ready⟩, ⟨_, _, _, runs 0x0502 (req 0) ready⟩,
   ⟨_, _, _, runs 0x0503 (req 0) ready⟩, ⟨_, _, _, runs 0x0504 (req 0) ready⟩,
   ⟨_, _, _, runs 0x0505 (req 0 [0, 0, 1, 0, 1, 0, 0, 0]) ready, by decide⟩, ⟨_, _, _, runs 0x0505 (req 0) ready, by decide⟩⟩

/-- A tributary port of the legacy lane 24, enabled, with one frame in its first queue. -/
def tribEgress : State :=
  ((ready.setTrib 0 { enable := true }).setLane 24 { state := .legacy }).setQueue (portQueues 36).1 { frames := [{ data := [1, 2] }] }

/-- Host port A with its link up, with one frame in its first queue. -/
def hostEgress : State :=
  (ready.setMac 0 { cfg := { mode := 1 }, link := true }).setQueue (portQueues 32).1 { frames := [{ data := [1, 2] }] }

/-- Worker lane 0 of the manager, locked in W4, with one frame in its first queue. -/
def workerEgress : State :=
  ((({ ready with dev := { quill := 3, role := 1 } }).setWorker 0 { state := 4 }).setLane 0 { state := .locked }).setQueue
    (portQueues 0).1 { frames := [{ data := [1, 2] }] }

/-- What the pick of an egress port asks of the state (08 R210, R212). -/
def PicksFrame (p : Nat) (s : State) : Prop := On s ∧ portUp p s = true ∧ schedTested s = false ∧ portFree p s ≤ s.clk.nowPs ∧
  pairHalts s = false ∧ pairStandby s = false ∧ (32 ≤ p → p < 36 → (s.mac (p - 32)).sending = none ∧ (s.ptpOf (p - 32)).waiting = []) ∧
  (portBusy p s).find? (fun q => headTooLong p q 0 s) = none ∧
  ∃ q u f v, pick (1024 + p) ((portBusy p s).filter (fun q => eligible q s && headFits p q 0 s)) s = (some q, u) ∧
    dequeue q u = (some f, v) ∧ (p < 32 → linkProtected p s = false ∧ (s.lane p).transmits = true)

theorem witness_SchedulerRowsTakeEffect :
    (∃ s, PicksFrame 0 s) ∧ (∃ s, PicksFrame 32 s) ∧ (∃ s, PicksFrame 36 s) ∧
    (∃ s slot, On s ∧ (s.shaper 65535).wheel = some slot) ∧ (∃ s, On s ∧ Due 5 s) ∧ (∃ s g, On s ∧ (s.gate 35).oper = some g) ∧
    (∃ s g c, On s ∧ (s.gate 35).pending = some g ∧ Begun 0x0505 c s ∧ u8 c.req.body 0 = 35) :=
  ⟨⟨workerEgress, on _, by decide, by decide, by decide, by decide, by decide, by decide, by decide, _, _, _, _, rfl, rfl, by decide⟩,
   ⟨hostEgress, on _, by decide, by decide, by decide, by decide, by decide, by decide, by decide, _, _, _, _, rfl, rfl, by decide⟩,
   ⟨tribEgress, on _, by decide, by decide, by decide, by decide, by decide, by decide, by decide, _, _, _, _, rfl, rfl, by decide⟩,
   ⟨ready.setShaper 65535 { wheel := some 3 }, 3, on _, by decide⟩, ⟨ready, on _, due 5 _⟩,
   ⟨ready.setGate 35 { oper := some {} }, {}, on _, by decide⟩,
   ⟨_, {}, _, on _, by decide, begins 0x0505 (req 0 [35]) (ready.setGate 35 { pending := some {} }), by decide⟩⟩

/-! ## Hypotheses of the statements about lanes, host ports, workers -/

/-- A lane at rate 0 one symbol before the end of a block whose header is 1 and `h`. -/
def atBlock (st : LaneState) (h : Bool) : Lane := { state := st, rxBits := true :: h :: List.replicate 63 false, winBad := 15 }

/-- A symbol gives this lane its next block, with a header of two equal bits or of two different ones. -/
def NextBlock (x : Lane) (valid : Bool) : Prop := x.prbs = false ∧ x.loopback ≠ 1 ∧ x.eidleAt = none ∧ x.burstEnd = none ∧
  ∃ h p, (x.nextBlock [0]).1 = some (h, (if valid then !h else h), p)

theorem witness_LaneRowsTakeEffect :
    (∃ s : State, On s ∧ (s.lane 39).state = .waitSignal) ∧ (∃ s : State, On s ∧ (s.lane 39).state = .hunt) ∧
    (∃ s : State, On s ∧ (s.lane 35).state = .hunt ∧ ((s.lane 35).nextBlock []).1 = none) ∧
    (∃ s : State, On s ∧ (s.lane 0).state = .locked ∧ ((s.lane 0).nextBlock []).1 = none) ∧
    (∃ s : State, On s ∧ (s.lane 35).state = .hunt ∧ NextBlock (s.lane 35) false) ∧
    (∃ s : State, On s ∧ (s.lane 31).state = .hunt ∧ (s.lane 31).validRun < 63 ∧ NextBlock (s.lane 31) true) ∧
    (∃ s : State, On s ∧ (s.lane 35).state = .hunt ∧ 63 ≤ (s.lane 35).validRun ∧ NextBlock (s.lane 35) true) ∧
    (∃ s : State, On s ∧ (s.lane 0).state = .locked ∧ (s.lane 0).winBad < 16 ∧ (s.lane 0).winCount < 63 ∧ NextBlock (s.lane 0) true) ∧
    (∃ s : State, On s ∧ (s.lane 0).prbs = true ∧ (s.lane 0).state = .locked ∧ (s.lane 0).loopback ≠ 1 ∧ (s.lane 0).eidleAt = none ∧
      (s.lane 0).burstEnd = none) ∧
    (∃ s : State, On s ∧ (s.lane 31).state = .rxIdle ∧ (s.lane 31).signal = true ∧ (s.lane 31).idlePs = some 7 ∧ s.dev.role = 0) ∧
    (∃ s : State, On s ∧ (s.lane 31).state = .rxIdle ∧ (s.lane 31).signal = true ∧ s.dev.role = 1 ∧ (s.worker 31).state = 0 ∧
      (s.worker 31).pulls = [] ∧ (s.worker 31).tunnel = []) ∧
    (∃ s : State, On s ∧ Reaches .pcie s ∧ rcNow (2 * hdrErrAddr 39) s = none ∧ rcNow (2 * hdrErrAddr 39 + 1) s = none) :=
  ⟨⟨lane 39 { state := .waitSignal }, on _, by decide⟩, ⟨lane 39 { state := .hunt }, on _, by decide⟩,
   ⟨lane 35 (atBlock .hunt true), on _, by decide⟩, ⟨lane 0 (atBlock .locked true), on _, by decide⟩,
   ⟨lane 35 (atBlock .hunt true), on _, by decide, by decide, by decide, by decide, by decide, true, _, rfl⟩,
   ⟨lane 31 { atBlock .hunt false with validRun := 62 }, on _, by decide, by decide, by decide, by decide, by decide, by decide, true, _, rfl⟩,
   ⟨lane 35 { atBlock .hunt false with validRun := 63 }, on _, by decide, by decide, by decide, by decide, by decide, by decide, true, _, rfl⟩,
   ⟨lane 0 { atBlock .locked false with winCount := 62 }, on _, by decide, by decide, by decide, by decide, by decide, by decide, by decide,
    true, _, rfl⟩,
   ⟨lane 0 { state := .locked, prbs := true }, on _, by decide⟩,
   ⟨lane 31 { state := .rxIdle, signal := true, idlePs := some 7 }, on _, by decide⟩,
   ⟨{ lane 31 { state := .rxIdle, signal := true } with dev := { quill := 3, role := 1 } }, on _, by decide⟩,
   ⟨ready, on _, reaches .pcie _, by decide⟩⟩

/-- A lane setting table without entries, with its CRC. -/
def emptyTable : Bytes :=
  let head := le 4 0x4254534C ++ le 1 1 ++ zeros 11
  head ++ le 4 (crc32 (head ++ zeros 4 ++ zeros 12)).toNat ++ zeros 12

theorem witness_LaneCommandsAnswer :
    (∃ q c s, Runs 0x0600 q c s ∧ badTableHeader q.body = false ∧ firstBadEntry (u16 q.body 6) none (q.body.drop 32) 0 = none) ∧
    (∃ q c s, Runs 0x0601 q c s ∧ domainOn (laneDomain q.index) s = true ∧ laneInUse q.index s = false ∧
      (s.lane q.index).state = .down ∧ u8 q.body 0 ≠ 1) ∧
    (∃ q c s e b, Runs 0x0601 q c s ∧ domainOn (laneDomain q.index) s = true ∧ laneInUse q.index s = false ∧
      (s.lane q.index).state = .hunt ∧ u8 q.body 0 = 1 ∧ findSettings q.index (u8 q.body 1) s = some (e, b)) ∧
    (∃ q c s, Runs 0x0601 q c s ∧ domainOn (laneDomain q.index) s = true ∧ laneInUse q.index s = false ∧
      (s.lane q.index).state = .waitSignal ∧ u8 q.body 0 = 1 ∧ findSettings q.index (u8 q.body 1) s = none) ∧
    (∃ q c s, Runs 0x0602 q c s) ∧
    (∃ q c s, Runs 0x0603 q c s ∧ (s.lane q.index).state = .locked ∧ (s.lane q.index).eidleAt = none ∧ (s.lane q.index).burstEnd = none ∧
      u8 q.body 0 = 1 ∧ (s.lane q.index).txIdle = false ∧ idleAllowed q.index s = true ∧ (s.worker q.index).state ≠ 4 ∧
      (s.lane q.index).exitClock ≠ clockNo s) ∧
    (∃ q c s, Runs 0x0603 q c s ∧ (s.lane q.index).state = .locked ∧ (s.lane q.index).eidleAt = none ∧ (s.lane q.index).burstEnd = none ∧
      u8 q.body 0 = 1 ∧ (s.lane q.index).txIdle = true ∧ idleAllowed q.index s = true) ∧
    (∃ q c s, Runs 0x0603 q c s ∧ (s.lane q.index).state = .locked ∧ (s.lane q.index).eidleAt = none ∧ (s.lane q.index).burstEnd = none ∧
      u8 q.body 0 = 0 ∧ (s.lane q.index).txIdle = true) ∧
    (∃ q c s, Runs 0x0603 q c s ∧ (s.lane q.index).state = .locked ∧ (s.lane q.index).eidleAt = none ∧ (s.lane q.index).burstEnd = none ∧
      u8 q.body 0 = 0 ∧ (s.lane q.index).txIdle = false) ∧
    (∃ q c s, Runs 0x0604 q c s ∧ (s.mac (q.index - 36)).cfg.mode = u8 q.body 0 ∧
      (∀ n ∈ hostLanes (q.index - 36) (u8 q.body 0), (s.lane n).state ≠ .fault ∧ findSettings n 0 s ≠ none)) ∧
    (∃ q c s, Runs 0x0605 q c s) :=
  ⟨⟨_, _, _, runs 0x0600 (req 0 emptyTable) ready, by decide +kernel⟩,
   ⟨_, _, _, runs 0x0601 (req 39) ready, by decide⟩,
   ⟨_, _, _, _, _, runs 0x0601 (req 0 [1]) (lane 0 { state := .hunt }), by decide, by decide, by decide, by decide, rfl⟩,
   ⟨_, _, _, runs 0x0601 (req 0 [1]) { lane 0 { state := .waitSignal } with laneTable := some {} }, by decide⟩,
   ⟨_, _, _, runs 0x0602 (req 0) ready⟩, 
   ⟨_, _, _, runs 0x0603 (req 0 [1]) (lane 0 { state := .locked }), by decide⟩,
   ⟨_, _, _, runs 0x0603 (req 0 [1]) (lane 0 { state := .locked, txIdle := true }), by decide⟩,
   ⟨_, _, _, runs 0x0603 (req 0) (lane 0 { state := .locked, txIdle := true }), by decide⟩,
   ⟨_, _, _, runs 0x0603 (req 0) (lane 0 { state := .locked }), by decide⟩,
   ⟨_, _, _, runs 0x0604 (req 36 [2]) (ready.setMac 0 { cfg := { mode := 2 } }), by decide⟩, ⟨_, _, _, runs 0x0605 (req 36) ready⟩⟩

/-- Host port A on one lane, with its link up. -/
def hostUp (x : Mac) : State := ready.setMac 0 { x with cfg := { x.cfg with mode := 1 }, link := true }

theorem witness_MacRowsTakeEffect :
    (∃ s : State, On s ∧ asleep s = false ∧ s.pwr.state ≠ .waking ∧ s.pwr.state = .awake ∧ macMode 0 s = 1 ∧ (s.mac 0).link = true ∧
      macRoom 0 s < macHeld 0 s + (s.mac 0).cfg.maxFrame + 4) ∧
    (∃ (s : State) (data : Bytes), On s ∧ asleep s = false ∧ s.pwr.state ≠ .waking ∧ s.pwr.state = .awake ∧ macMode 0 s = 1 ∧ (s.mac 0).link = true ∧
      macHeld 0 s + (s.mac 0).cfg.maxFrame + 4 ≤ macRoom 0 s ∧ 6 ≤ data.length ∧ macPasses (s.mac 0).cfg (data.take 6) = false) ∧
    (∃ (s : State) (data : Bytes), On s ∧ asleep s = false ∧ s.pwr.state ≠ .waking ∧ s.pwr.state = .awake ∧ macMode 0 s = 1 ∧ (s.mac 0).link = true ∧
      macHeld 0 s + (s.mac 0).cfg.maxFrame + 4 ≤ macRoom 0 s ∧ 6 ≤ data.length ∧ macPasses (s.mac 0).cfg (data.take 6) = true ∧
      macErrors (s.mac 0).cfg data.length (fcsHolds data) false = 0 ∧ be16 data 12 ≠ 0x8808) ∧
    (∃ s : State, On s ∧ (s.mac 0).sending ≠ none ∧ (s.mac 0).sendCmd = none ∧ (s.mac 0).threshold ≠ 0xFFFF ∧
      s.clk.nowPs < SMap.get 0 s.egressFree 32) ∧
    (∃ s : State, On s ∧ (s.mac 0).link = true) ∧
    (∃ s : State, On s ∧ (s.mac 0).link = false ∧ macMode 0 s = 2 ∧ domainOn 10 s = true ∧
      (∀ n ∈ hostLanes 0 (macMode 0 s), (s.lane n).state = .waitSignal)) :=
  ⟨⟨{ hostUp {} with waitUp := List.replicate 27 { ingress := 4, data := List.replicate 9600 0 } }, on _, by decide, by decide, by decide,
    by decide, by decide, by decide +kernel⟩,
   ⟨hostUp {}, List.replicate 64 2, on _, by decide⟩, ⟨hostUp {}, List.replicate 60 0xFF ++ le 4 (crc32 (List.replicate 60 0xFF)).toNat, on _, by decide +kernel⟩,
   ⟨{ hostUp { sending := some {} } with egressFree := [(32, 1)] }, on _, by decide⟩, ⟨hostUp {}, on _, by decide⟩,
   ⟨((((ready.setMac 0 { cfg := { mode := 2 } }).setLane 36 { state := .waitSignal }).setLane 37 { state := .waitSignal }).setLane 38
      { state := .waitSignal }).setLane 39 { state := .waitSignal }, on _, by decide⟩⟩

/-- The manager, with worker lane 0 locked. -/
def manager (x : Worker) : State := (({ ready with dev := { quill := 3, role := 1 } }).setLane 0 { state := .locked }).setWorker 0 x

/-- A device in the worker role, with its lane locked. -/
def workerRole (r : Role) : State := ({ ready with dev := { quill := 3, role := 2 }, role := r }).setLane 0 { state := .locked }

theorem witness_HelloAndTimeBlocksTakeEffect :
    (∃ s : State, On s ∧ (s.lane 0).transmits = true ∧ pairStandby s = false) ∧ (∃ s : State, On s ∧ mapiynLane 0 s = true) ∧
    (∃ (s : State) (f : HelloFields), On s ∧ s.dev.role = 2 ∧ mapiynLane 0 s = true ∧ s.role.version = 0 ∧ s.dev.quill = 3 ∧ f.ack = true ∧
      agreedVersion 0 f.versions.toNat s ≠ 0) ∧
    (∃ (s : State) (f : HelloFields), On s ∧ s.dev.role = 1 ∧ mapiynLane 0 s = true ∧ (s.worker 0).state = 3 ∧ f.following = true ∧
      (s.worker 0).aligned = true ∧ (s.worker 0).cfg.admitEn = true ∧ (s.worker 0).slotId = f.slot.toNat ∧
      agreedVersion 0 f.versions.toNat s = (s.worker 0).version ∧ SMap.get none s.boot.images 0 = none) ∧
    (∃ s : State, ∃ delay : BitVec 20, On s ∧ s.dev.role = 1 ∧ mapiynLane 0 s = true ∧ (s.worker 0).alignDelay = delay.toNat ∧
      (s.worker 0).aligned = false) ∧
    (∃ (s : State) (d : Nat), On s ∧ s.dev.role = 2 ∧ mapiynLane 0 s = true ∧ s.role.delay = some d ∧ 2 ≤ s.role.version ∧ tb0Source s = 2 ∧
      (s.timebase 0).stepped = false) :=
  ⟨⟨ready, on _, by decide⟩, ⟨manager {}, on _, by decide⟩, ⟨workerRole {}, {}, on _, by decide⟩,
   ⟨manager { state := 3, aligned := true, version := 3 }, { following := true }, on _, by decide⟩,
   ⟨manager { alignDelay := 5 }, 5, on _, by decide⟩, ⟨workerRole { delay := some 5, version := 2 }, 5, on _, by decide⟩⟩

theorem witness_RangingRowsTakeEffect :
    (∃ s : State, On s ∧ rangesLane 0 s = true ∧ mapiynLane 0 s = true ∧ (s.worker 0).rtts.length + (s.worker 0).asked.length < 8) ∧
    (∃ s : State, On s ∧ workerPart 0 s = true) ∧
    (∃ s : State, ∃ (seq : Byte) (t1 : Nat), On s ∧ mapiynLane 0 s = true ∧ (s.worker 0).ranging = true ∧
      (s.worker 0).asked.find? (fun a => decide (a.1 = seq.toNat)) = some (seq.toNat, t1) ∧ (s.worker 0).rtts.length + 1 < 8) ∧
    (∃ s : State, ∃ (seq : Byte) (turn : BitVec 24) (t1 t4 d : Nat) (rtts : List Int), On s ∧ mapiynLane 0 s = true ∧
      (s.worker 0).ranging = true ∧ (s.worker 0).asked.find? (fun a => decide (a.1 = seq.toNat)) = some (seq.toNat, t1) ∧
      rtts = (s.worker 0).rtts ++ [2 * ((t4 : Int) - t1) - 125 * (turn.toNat : Int)] ∧ 8 ≤ rtts.length ∧
      meanDelay rtts + (s.worker 0).asymNow = d ∧ d ≤ 16 * (s.worker 0).maxDelayNow ∧ rttSpread rtts ≤ 4000 ∧
      (s.worker 0).rerange = false ∧ (s.worker 0).state = 2 ∧ (s.lane 0).transmits = true ∧ pairStandby s = false) ∧
    (∃ s : State, ∃ q at' l, On s ∧ (s.worker 0).asked = (q, at') :: l ∧ (s.worker 0).ranging = true ∧ (s.worker 0).rerange = false) ∧
    (∃ (s : State) (since : Word) (n : Nat), On s ∧ (s.worker 0).backoff = some (since, n) ∧ n ≤ ticksSince since s ∧ (s.worker 0).state = 2 ∧
      (s.worker 0).dupHeld = false) :=
  ⟨⟨manager { ranging := true, rtts := List.replicate 7 0 }, on _, by decide⟩, ⟨workerRole {}, on _, by decide⟩,
   ⟨manager { ranging := true, asked := [(255, 0)], rtts := List.replicate 6 0 }, 255, 0, on _, by decide⟩,
   ⟨manager { state := 2, ranging := true, asked := [(1, 0)], rtts := List.replicate 7 2000 }, 1, 0, 0, 1000, 8, List.replicate 8 2000,
    on _, by decide⟩,
   ⟨manager { ranging := true, asked := [(3, 5)] }, 3, 5, [], on _, by decide⟩,
   ⟨{ manager { state := 2, backoff := some (0, 64) } with clk := { tick := 64 } }, 0, 64, on _, by decide⟩⟩

/-- A frame of two bytes as it comes on a lane, its check field with it. -/
def frame2 : FrameFields := { length := 2 }
def field2 (k : Option Seal) : Bytes := [7, 8] ++ checkField (bodyOf frame2) [7, 8] k

/-- Lane 0 of the manager under link protection: phase 0 of its receive key in slot 5. -/
def sealed : State :=
  let s := manager { state := 4, linkProt := true }
  { s with cipher := { s.cipher with link := [(linkKey 0 1 0, some { slot := 5 })], slots := [(5, { loaded := true, aes256 := true, key := zeros 32 })] } }

theorem witness_GrantRelayRowsTakeEffect :
    (∃ s : State, On s ∧ s.dev.role = 1 ∧ mapiynLane 0 s = true ∧ 2 ≤ (s.worker 0).version ∧ (s.worker 0).state = 4 ∧ (s.alloc 0).cfg.feed = 1 ∧
      (s.alloc 0).cfg.worker = 0) ∧
    (∃ s : State, On s ∧ s.dev.role = 2 ∧ mapiynLane 0 s = true ∧ 2 ≤ s.role.version ∧ ctxCost 0 s + 1024 ≤ SMap.get 0 s.role.reported 0) ∧
    (∃ (s : State) (since : Nat), On s ∧ s.dev.role = 2 ∧ mapiynLane 0 s = true ∧ 2 ≤ s.role.version ∧
      ctxCost 0 s < SMap.get 0 s.role.reported 0 + 1024 ∧ SMap.get 0 s.role.reported 0 < ctxCost 0 s + 1024 ∧
      SMap.get none s.role.changed 0 = some since) ∧
    (∃ s : State, On s ∧ s.dev.role = 2 ∧ mapiynLane 0 s = true ∧ 3 ≤ s.role.version ∧ s.clk.nowPs ≤ psOfTag 0 0 s) ∧
    (∃ (s : State) (p : RolePull), On s ∧ s.dev.role = 2 ∧ mapiynLane 0 s = true ∧ s.role.pulls.find? (fun p => decide (p.gid = 63)) = some p ∧
      (s.lane 0).transmits = true ∧ pairStandby s = false) ∧
    (∃ (s : State) (p : Pull), On s ∧ s.dev.role = 1 ∧ mapiynLane 0 s = true ∧ findPull 0 63 s = some p ∧ inWindow 0 p s = true ∧
      p.begun = true ∧ pullAlloc p s = none) ∧
    (∃ (s : State) (p : Pull), On s ∧ findPull 0 63 s = some p ∧ p.begun = false ∧ p.sent = true ∧ (chargeWorker 0 s).1 = false ∧
      ∀ r ∈ (s.worker 0).pulls, r.gid ≠ 63 → r.begun = false ∧ max s.clk.nowPs (p.feedPs - 200000) + 24000 < r.atPs + delayPs 0 s) ∧
    (∃ s : State, On s ∧ mapiynLane 0 s = true ∧ asleep s = false ∧ frame2.length ≠ 0 ∧ frame2.kind = 0 ∧ frame2.pulled = false ∧
      linkProtected 0 s = false ∧ openField (bodyOf frame2) frame2.length.toNat (field2 none) none = some [7, 8] ∧
      s.dev.role = 1 ∧ (s.worker 0).state = 4) ∧
    (∃ s : State, On s ∧ mapiynLane 0 s = true ∧ asleep s = false ∧ linkProtected 0 s = false ∧ s.dev.role = 2 ∧
      openField (bodyOf frame2) frame2.length.toNat (field2 none) none = some [7, 8]) ∧
    (∃ (s : State) (k : Seal) (data : Bytes), On s ∧ mapiynLane 0 s = true ∧ asleep s = false ∧ linkProtected 0 s = true ∧
      rxSeal 0 frame2 s = some k ∧ (rxShare (linkOf 0 s) (b2n frame2.keyPhase) frame2.length.toNat s).1 = true ∧
      openField (bodyOf frame2) frame2.length.toNat (field2 (some k)) (some k) = some data ∧ s.dev.role = 1 ∧ (s.worker 0).state = 4) :=
  ⟨⟨(manager { state := 4, version := 2 }).setAlloc 0 { cfg := { feed := 1 } }, on _, by decide⟩,
   ⟨workerRole { version := 2, reported := [(0, 1024)] }, on _, by decide⟩,
   ⟨workerRole { version := 2, reported := [(0, 1023)], changed := [(0, some 5)] }, 5, on _, by decide⟩,
   ⟨workerRole { version := 3 }, on _, by decide⟩,
   ⟨workerRole { pulls := [{ gid := 63, ctx := 0, atPs := 0, budget := 0 }] }, _, on _, by decide, by decide, rfl, by decide⟩,
   ⟨manager { version := 3, pulls := [{ gid := 63, inst := 0, ctx := 0, budget := 0, atPs := 0, feedPs := 1000000, endPs := 9000000,
                                        sent := true, begun := true }] }, _, on _, by decide, by decide, rfl, by decide⟩,
   ⟨manager { credit := 15, pulls := [{ gid := 63, inst := 0, ctx := 0, budget := 0, atPs := 0, feedPs := 0, endPs := 0, sent := true }] }, _,
    on _, rfl, by decide⟩,
   ⟨manager { state := 4 }, on _, by decide +kernel⟩, ⟨workerRole {}, on _, by decide +kernel⟩,
   ⟨sealed, { key := zeros 32, salt := 0, counter := 0 }, gcmCrypt (zeros 32) (zeros 12) [7, 8], on _, by decide, by decide, by decide,
    by decide +kernel, by decide +kernel, by decide +kernel, by decide⟩⟩

theorem witness_WorkerRemovalRowsTakeEffect :
    (∃ s : State, On s ∧ mapiynLane 0 s = true ∧ s.dev.role = 2) ∧
    (∃ s : State, On s ∧ mapiynLane 0 s = true ∧ s.dev.role ≠ 2 ∧ (s.worker 0).state = 4 ∧ (s.worker 0).leaveSent = true) ∧
    (∃ s : State, On s ∧ s.dev.role = 1 ∧ (s.worker 31).state = 0 ∧ (s.worker 31).flushed = false ∧
      (s.worker 31).cfg.removalHold ≤ ticksSince ((s.worker 31).w0Tick.getD 0) s) ∧
    (∃ (s : State) (c : Cmd), On s ∧ Begun 0x0615 c s ∧ (s.worker 0).tunnel.contains c.seq = true ∧ 16000 ≤ (s.clk.tick - c.tick).toNat) ∧
    (∃ (s : State) (r : ImageRun) (c : Cmd), On s ∧ Begun 0x0620 c s ∧ SMap.get none s.boot.images 0 = some r ∧ c.seq = r.cmd ∧
      SMap.get none s.mem.fetches c.seq = none) :=
  ⟨⟨workerRole {}, on _, by decide⟩, ⟨manager { state := 4, leaveSent := true }, on _, by decide⟩,
   ⟨{ ready with dev := { quill := 3, role := 1 }, clk := { tick := 8000 } }, on _, by decide⟩,
   ⟨_, _, on _, begins 0x0615 (req 0) { manager { state := 4, tunnel := [0] } with clk := { tick := 16000 } }, by decide⟩,
   ⟨_, { cmd := 0, lastPs := 0, startTick := 0 }, _, on _, begins 0x0620 (req 0) { manager {} with boot := { perst := false, images := [(0, some { cmd := 0, lastPs := 0, startTick := 0 })] } }, by decide⟩⟩

theorem witness_WorkerCommandsAnswer :
    (∃ q c s, Runs 0x0610 q c s ∧ (s.worker q.index).state = 4 ∧ (wrkCfgOf q.body).admitEn = true ∧
      (wrkCfgOf q.body).linkProtect = (s.worker q.index).cfg.linkProtect) ∧
    (∃ q c s, Runs 0x0611 q c s) ∧
    (∃ q c s, Runs 0x0612 q c s ∧ (s.worker q.index).state = 5 ∧ (s.worker q.index).pulls = [] ∧ (s.worker q.index).tunnel = []) ∧
    (∃ q c s, Runs 0x0613 q c s ∧ (s.worker q.index).state = 3 ∧ (s.worker q.index).ranging = false) ∧
    (∃ q c s, Runs 0x0614 q c s ∧ (s.worker q.index).state = 4 ∧ (s.worker q.index).pulls = [] ∧ portBusy q.index s = [] ∧
      (s.lane q.index).transmits = true ∧ pairStandby s = false) ∧
    (∃ q c s, Runs 0x0615 q c s ∧ 2 ≤ (s.worker q.index).state ∧ (s.worker q.index).tunnel.length < 4 ∧ s.dev.role = 1 ∧
      (s.worker q.index).linkProt = false ∧ hasTurn 6 [35] s = true ∧ (s.lane q.index).transmits = true ∧ pairStandby s = false ∧
      quiesceNow s = false) ∧
    (∃ q c s, Runs 0x0620 q c s ∧ (s.worker q.index).state = 1 ∧ (s.worker q.index).helloSeen = true ∧ (s.worker q.index).peerVersions = 0 ∧
      SMap.get none s.boot.images q.index = none ∧ hasTurn 0 hostRead_ s = true) :=
  ⟨⟨_, _, _, runs 0x0610 (req 0 [5]) (manager { state := 4 }), by decide⟩, ⟨_, _, _, runs 0x0611 (req 0) ready⟩,
   ⟨_, _, _, runs 0x0612 (req 0) (manager { state := 5 }), by decide⟩, ⟨_, _, _, runs 0x0613 (req 0) (manager { state := 3 }), by decide⟩,
   ⟨_, _, _, runs 0x0614 (req 0) (manager { state := 4 }), by decide⟩, ⟨_, _, _, runs 0x0615 (req 0) (manager { state := 2, tunnel := [1, 2, 3] }), by decide⟩,
   ⟨_, _, _, runs 0x0620 (req 0) (manager { state := 1, helloSeen := true }), by decide⟩⟩

/-! ## Hypotheses of the statements about time and tributaries -/

theorem witness_TimeCommandsAnswer :
    (∃ q c s, Runs 0x0800 q c s) ∧ (∃ (q : CmdReq) (c : Cmd) (s : State) (v : Nat), Runs 0x0801 q c s ∧ u8 q.body 0 = 0 ∧ v = timeOf q.body 4 % tbWrap) ∧
    (∃ (q : CmdReq) (c : Cmd) (s : State) (v : Nat), Runs 0x0801 q c s ∧ u8 q.body 0 = 1 ∧
      v = ((((s.timebase q.index).at_ (nextClock s) : Int) + signed 64 (u64 q.body 16) * nsUnits) % (tbWrap : Int)).toNat) ∧
    (∃ q c s, Runs 0x0801 q c s ∧ u8 q.body 0 = 2 ∧ q.index < 2) ∧
    (∃ q c s, Runs 0x0801 q c s ∧ u8 q.body 0 = 2 ∧ (s.timebase q.index).state = 0) ∧
    (∃ q c s, Runs 0x0802 q c s ∧ (servoOf q.body).kind ≠ 0 ∧ (s.timebase q.index).state = 0) ∧
    (∃ q c s, Runs 0x0802 q c s ∧ (servoOf q.body).kind ≠ 0 ∧ (s.timebase q.index).state ≠ 0 ∧
      (s.timebase q.index).servo.kind = (servoOf q.body).kind) ∧
    (∃ q c s, Runs 0x0803 q c s ∧ (s.timebase q.index).state = 0) ∧ (∃ q c s, Runs 0x0803 q c s ∧ (s.timebase q.index).state ≠ 0) ∧
    (∃ (q : CmdReq) (c : Cmd) (s : State) (w : TodWait), Runs 0x0804 q c s ∧ (s.inst q.index).sync.state = 2 ∧
      w = { cmd := c.seq, sfcLo := w32 q.body 0, asymPs := signed 32 (u32 q.body 4), stamp := timeOf q.body 8 } ∧
      stampOf q.index w.sfcLo s = none ∧ 0 < tickDiff w.sfcLo (BitVec.ofNat 32 (s.inst q.index).sync.sfc)) ∧
    (∃ (q : CmdReq) (c : Cmd) (s : State) (w : TodWait) (v : Nat), Runs 0x0804 q c s ∧ (s.inst q.index).sync.state = 2 ∧
      w = { cmd := c.seq, sfcLo := w32 q.body 0, asymPs := signed 32 (u32 q.body 4), stamp := timeOf q.body 8 } ∧
      stampOf q.index w.sfcLo s = some v ∧ 1 < tb0Source s) :=
  ⟨⟨_, _, _, runs 0x0800 (req 0) ready⟩, ⟨_, _, _, _, runs 0x0801 (req 7) ready, by decide, rfl⟩,
   ⟨_, _, _, _, runs 0x0801 (req 7 (1 :: List.replicate 31 255)) ready, by decide, rfl⟩, ⟨_, _, _, runs 0x0801 (req 1 [2]) ready, by decide⟩,
   ⟨_, _, _, runs 0x0801 (req 7 [2]) ready, by decide⟩, ⟨_, _, _, runs 0x0802 (req 2 [1]) ready, by decide⟩,
   ⟨_, _, _, runs 0x0802 (req 2 [1]) (ready.setTimebase 2 { state := 3, servo := { kind := 1 } }), by decide⟩,
   ⟨_, _, _, runs 0x0803 (req 2) ready, by decide⟩, ⟨_, _, _, runs 0x0803 (req 2) (ready.setTimebase 2 { state := 3 }), by decide⟩,
   ⟨_, _, _, _, runs 0x0804 (req 0 [1]) (hears ready), by decide, rfl, by decide⟩,
   ⟨_, _, _, _, _, runs 0x0804 (req 0 [1]) (({ hears ready with dev := { quill := 3, role := 2 }, role := { delay := some 0 } }).setTod 0
      { stamps := [(1, 9)] }), by decide, rfl, rfl, by decide⟩⟩

theorem witness_OutputAndPtpCommandsAnswer :
    (∃ q c s, Runs 0x0805 q c s ∧ (s.output (u8 q.body 0)).asserted = true) ∧
    (∃ q c s, Runs 0x0805 q c s ∧ (s.output (u8 q.body 0)).asserted = false ∧ (outOf q.body).enable = false) ∧
    (∃ q c s, Runs 0x0805 q c s ∧ (s.output (u8 q.body 0)).asserted = false ∧ 8 ≤ u8 q.body 0) ∧
    (∃ q c s, Runs 0x0805 q c s ∧ (s.output (u8 q.body 0)).asserted = false ∧ (outOf q.body).enable = true ∧ u8 q.body 0 < 8 ∧
      0 < comparatorD (outOf q.body).start (tbNow (outOf q.body).timebase s)) ∧
    (∃ q c s, Runs 0x0806 q c s) ∧ (∃ q c s, Runs 0x0807 q c s) ∧ (∃ q c s, Runs 0x0808 q c s) ∧
    (∃ q c s, Runs 0x0809 q c s ∧ (s.mac (u8 q.body 0)).link = true ∧ (s.ptpOf (u8 q.body 0)).waiting.length < 4) ∧
    (∃ q c s, Runs 0x080A q c s) :=
  ⟨⟨_, _, _, runs 0x0805 (req 0) (ready.setOutput 0 { asserted := true }), by decide⟩, ⟨_, _, _, runs 0x0805 (req 0 [7]) ready, by decide⟩,
   ⟨_, _, _, runs 0x0805 (req 0 [8]) ready, by decide⟩,
   ⟨_, _, _, runs 0x0805 (req 0 ([7, 1] ++ List.replicate 30 1)) ready, by decide⟩,
   ⟨_, _, _, runs 0x0806 (req 0) ready⟩, ⟨_, _, _, runs 0x0807 (req 0) ready⟩, ⟨_, _, _, runs 0x0808 (req 0) ready⟩,
   ⟨_, _, _, runs 0x0809 (req 0) (ready.setMac 0 { link := true }), by decide⟩, ⟨_, _, _, runs 0x080A (req 0) ready⟩⟩

theorem witness_TimeRowsTakeEffect :
    (∃ (s : State) (v : Nat), On s ∧ (s.output 7).target = some v ∧ (s.output 7).cfg.enable = true ∧
      comparatorD v (tbNow (s.output 7).cfg.timebase s) ≤ 0) ∧
    (∃ s : State, On s ∧ (s.output 8).asserted = true ∧ (s.output 8).cfgNext = none ∧ (s.output 8).cfg.enable = true) ∧
    (∃ s : State, On s ∧ s.pwr.state = .awake ∧ bit (s.capture 8).edge 1 = true ∧ (s.capture 8).lastPs = none ∧
      (s.capture 8).queue.length < 16 ∧
      (∀ n, (s.timebase n).servo.kind = 2 → (s.timebase n).servo.index = 8 → (s.timebase n).servo.stepEn = false)) ∧
    (∃ s : State, On s ∧ (s.output 8).cfg.enable = true ∧ s.time.refValid = true ∧ s.time.refSel ≠ 0 ∧ s.time.correcting = true) ∧
    (∃ s : State, On s ∧ (s.timebase 2).state = 1) ∧ (∃ s : State, On s ∧ (s.timebase 7).state = 2) ∧
    (∃ (s : State) (w : TodWait) (c : Cmd), On s ∧ Begun 0x0804 c s ∧ (s.todOf 0).waiting = [w] ∧ w.cmd = c.seq ∧ w.got = none ∧
      (s.inst 0).sync.state ≠ 2) ∧
    (∃ (s : State) (w : TodWait) (c : Cmd) (v : Nat), On s ∧ Begun 0x0804 c s ∧ (s.todOf 0).waiting = [w] ∧ w.cmd = c.seq ∧
      w.got = some v ∧ 1 < tb0Source s) ∧
    (∃ s : State, On s ∧ Reaches .pcie s) :=
  ⟨⟨ready.setOutput 7 { target := some 0, cfg := { enable := true } }, 0, on _, by decide⟩,
   ⟨ready.setOutput 8 { asserted := true, cfg := { enable := true } }, on _, by decide⟩,
   ⟨ready.setCapture 8 { edge := 2, queue := List.replicate 15 (0, 1) }, on _, rfl, by decide, rfl, by decide,
     fun _ h => absurd (show (0 : Nat) = 2 from h) (by decide)⟩,
   ⟨{ ready.setOutput 8 { cfg := { enable := true } } with time := { refValid := true, refSel := 1, correcting := true } }, on _, by decide⟩,
   ⟨ready.setTimebase 2 { state := 1 }, on _, by decide⟩, ⟨ready.setTimebase 7 { state := 2 }, on _, by decide⟩,
   ⟨_, { cmd := 0, sfcLo := 1, asymPs := 0, stamp := 0 }, _, on _,
    begins 0x0804 (req 0) (ready.setTod 0 { waiting := [{ cmd := 0, sfcLo := 1, asymPs := 0, stamp := 0 }] }), by decide⟩,
   ⟨_, { cmd := 0, sfcLo := 1, asymPs := 0, stamp := 0, got := some 9 }, _, 9, on _,
    begins 0x0804 (req 0) (({ ready with dev := { quill := 3, role := 2 }, role := { delay := some 0 } }).setTod 0
      { waiting := [{ cmd := 0, sfcLo := 1, asymPs := 0, stamp := 0, got := some 9 }] }), by decide⟩,
   ⟨ready, on _, reaches .pcie _⟩⟩

theorem room_none : noJbRoom 0 = false := by simp [noJbRoom]

theorem witness_TributaryCommandsAnswer :
    (∃ q c s, Runs 0x0700 q c s ∧ carries (circuitsOn q.index s) s = false ∧ u8 q.body 0 = 1 ∧ tribLane q.index s = true ∧
      (s.trib q.index).enable = false) ∧
    (∃ q c s, Runs 0x0700 q c s ∧ carries (circuitsOn q.index s) s = false ∧ u8 q.body 0 ≠ 1 ∧ (s.trib q.index).enable = true) ∧
    (∃ q c s, Runs 0x0700 q c s ∧ carries (circuitsOn q.index s) s = false ∧ u8 q.body 0 ≠ 1 ∧ (s.trib q.index).enable = false) ∧
    (∃ q c s, Runs 0x0701 q c s ∧ (s.tpath (u16 q.body 0)).mode = 0 ∧ u8 q.body 2 ≠ 0 ∧
      noJbRoom (jbTotal (s.setTpath (u16 q.body 0) (pathOfBlock q.body))) = false) ∧
    (∃ q c s, Runs 0x0702 q c s ∧ carries [1024 + u8 q.body 0] s = false ∧ u8 q.body 1 = 0) ∧
    (∃ (q : CmdReq) (c : Cmd) (s : State) (v : Vcat), Runs 0x0702 q c s ∧ v = vcatOfBlock q.body ∧ carries [1024 + u8 q.body 0] s = false ∧
      u8 q.body 1 ≠ 0 ∧ noJbRoom (jbTotal (s.setVcat (u8 q.body 0) v)) = false) ∧
    (∃ q c s, Runs 0x0703 q c s ∧ u8 q.body 0 = 1 ∧ carries (circuitsOn q.index s) s = false) ∧
    (∃ q c s, Runs 0x0704 q c s ∧ (s.msp (q.index / 2)).enabled = false) ∧
    (∃ q c s, Runs 0x0704 q c s ∧ (s.msp (q.index / 2)).enabled = true ∧ (s.msp (q.index / 2)).request ≤ mspCode (u8 q.body 0)) ∧
    (∃ q c s, Runs 0x0704 q c s ∧ (s.msp (q.index / 2)).enabled = true ∧ u8 q.body 0 < 3 ∧ mspCode (u8 q.body 0) < (s.msp (q.index / 2)).request) ∧
    (∃ q c s b, Runs 0x0705 q c s ∧ (SMap.get none s.pms (4096 * u8 q.body 0 + u16 q.body 2)).bind (binOf (u8 q.body 1)) = some b) ∧
    (∃ q c s, Runs 0x0705 q c s ∧ (SMap.get none s.pms (4096 * u8 q.body 0 + u16 q.body 2)).bind (binOf (u8 q.body 1)) = none) :=
  ⟨⟨_, _, _, runs 0x0700 (req 0 [1]) (lane 24 { state := .legacy }), by decide⟩,
   ⟨_, _, _, runs 0x0700 (req 7) (ready.setTrib 7 { enable := true }), by decide⟩, ⟨_, _, _, runs 0x0700 (req 0) ready, by decide⟩,
   ⟨_, _, _, runs 0x0701 (req 0 [0, 0, 1]) ready, by decide, by decide, room_none⟩,
   ⟨_, _, _, runs 0x0702 (req 0 [7]) ready, by decide⟩,
   ⟨_, _, _, _, runs 0x0702 (req 0 [0, 1]) ready, rfl, by decide, by decide, room_none⟩, ⟨_, _, _, runs 0x0703 (req 0 [1]) ready, by decide⟩,
   ⟨_, _, _, runs 0x0704 (req 0) ready, by decide⟩, ⟨_, _, _, runs 0x0704 (req 6) (ready.setMsp 3 { enabled := true }), by decide⟩,
   ⟨_, _, _, runs 0x0704 (req 6 [2]) (ready.setMsp 3 { enabled := true, request := 15 }), by decide⟩,
   ⟨_, _, _, _, runs 0x0705 (req 0) { ready with pms := [(0, some {})] }, rfl⟩, ⟨_, _, _, runs 0x0705 (req 0) ready, by decide⟩⟩

/-- An enabled tributary port. -/
def tributary (k : Nat) (x : Trib) : State := ready.setTrib k { x with enable := true }

/-- A VC-12 path with its circuit on. -/
def circuit (x : Circ) : State :=
  ((ready.setTrib 0 { enable := true }).setTpath 0 { mode := 1, payload := 140 }).setCirc 0 x

theorem witness_TributaryRowsTakeEffect :
    (∃ (s : State) (l : List Bool) (y : Trib) (ev : List HuntEvent), On s ∧ (s.trib 0).enable = true ∧ (s.trib 0).align = 1 ∧
      (s.trib 0).los = false ∧ (s.trib 0).hunt (oversampling (s.lane 24).rate) (ausOf 0 s) l = (y, ev) ∧ HuntEvent.locked ∉ ev) ∧
    (∃ (s : State) (l : List Bool) (y : Trib) (ev : List HuntEvent), On s ∧ (s.trib 7).enable = true ∧ (s.trib 7).align = 1 ∧
      (s.trib 7).los = false ∧ (s.trib 7).hunt (oversampling (s.lane 31).rate) (ausOf 7 s) l = (y, ev) ∧ HuntEvent.locked ∈ ev) ∧
    (∃ (x : Trib) (b : Bool) (pos shift : Nat), pos = (x.bitNo + 1) % frameBits 1 ∧ shift = (x.shift * 2 + b2n b) % 2 ^ 48 ∧
      (∀ c ∈ x.cands, (c.push b).falseB1 1 shift = false) ∧ shift = framing ∧ (∀ c ∈ x.cands, c.pos ≠ pos) ∧ x.cands.length < 4) ∧
    (∃ (x : Trib) (b : Bool) (pos shift : Nat), pos = (x.bitNo + 1) % frameBits 1 ∧ shift = (x.shift * 2 + b2n b) % 2 ^ 48 ∧
      (∀ c ∈ x.cands, (c.push b).falseB1 1 shift = false) ∧ shift ≠ framing) ∧
    (∃ (x : Trib) (b : Bool) (pos shift : Nat) (c : Cand), pos = (x.bitNo + 1) % frameBits 1 ∧ shift = (x.shift * 2 + b2n b) % 2 ^ 48 ∧
      (∀ c ∈ x.cands, (c.push b).falseB1 1 shift = false) ∧ shift = framing ∧
      x.cands.find? (fun c => decide (c.pos = pos)) = some c ∧ 2 ≤ c.hits) ∧
    (∃ (s : State) (f : StmFrame), On s ∧ (s.trib 7).enable = true ∧ (s.msp 3).enabled = false ∧ pairStandby s = false ∧ (s.trib 7).align = 2 ∧
      (s.trib 7).los = false ∧ f.patternOk = true) ∧
    (∃ s : State, On s ∧ (s.trib 7).enable = true ∧ (s.trib 7).oof ≠ (s.trib 7).lof) ∧
    (∃ (s : State) (k : CircCfg) (l : Bool) (pay : Bytes) (u : State), On s ∧ circuitOn 0 s = true ∧ k = circCfg 0 s ∧ k.clock ≠ 1 ∧
      l = circuitFails 0 s ∧ (l = true ∨ 8 * k.payload ≤ (s.circ 0).rxBits.length) ∧
      pay = (if l then List.replicate k.payload (0xFF : Byte) else msbBytes k.payload (s.circ 0).rxBits) ∧
      u = (if l then advanceTo ((s.circ 0).emitPs + k.pktPs) s else s) ∧ l = false) ∧
    (∃ (s : State) (k : CircCfg) (l : Bool) (pay : Bytes) (u : State), On s ∧ circuitOn 0 s = true ∧ k = circCfg 0 s ∧ k.clock ≠ 1 ∧
      l = circuitFails 0 s ∧ (l = true ∨ 8 * k.payload ≤ (s.circ 0).rxBits.length) ∧
      pay = (if l then List.replicate k.payload (0xFF : Byte) else msbBytes k.payload (s.circ 0).rxBits) ∧
      u = (if l then advanceTo ((s.circ 0).emitPs + k.pktPs) s else s) ∧ l = true) ∧
    (∃ (s : State) (f : Frame) (rest : List Frame), On s ∧ (s.trib 7).rx = f :: rest ∧ circuitOfFlow f.flow s = none) ∧
    (∃ (s : State) (n : Nat) (p : JbPkt), On s ∧ circuitOn 0 s = true ∧ (s.circ 0).playing = true ∧ (s.circ 0).next = some n ∧
      SMap.get none (s.circ 0).held n = some p) ∧
    (∃ (s : State) (n : Nat), On s ∧ circuitOn 0 s = true ∧ (s.circ 0).playing = true ∧ (s.circ 0).next = some n ∧
      SMap.get none (s.circ 0).held n = none ∧ (s.circ 0).replaced < 7) ∧
    (∃ (s : State) (ps : Nat), On s ∧ (s.msp 3).wtrEnd = some ps ∧ (s.msp 3).request = 1) ∧
    (∃ (s : State) (k : Nat) (p : Pm), On s ∧ SMap.get none s.pms k = some p) ∧ (∃ s : State, On s ∧ Reaches .pcie s) ∧
    (∃ (s : State) (sec : Nat), On s ∧ Due 9 s ∧ sec = tbNow 0 (worked 9 s) / secUnits) :=
  ⟨⟨tributary 0 { align := 1 }, [true], _, _, on _, rfl, rfl, rfl, rfl, by decide⟩,
   ⟨tributary 7 { align := 1, cdrPhase := 31, cdrLast := false, shift := framing / 2, cands := [{ pos := 1, hits := 2 }] },
    [false], _, _, on _, rfl, rfl, rfl, rfl, by decide⟩,
   ⟨{ shift := framing / 2, cands := List.replicate 3 { pos := 8 } }, false, 1, framing, by decide⟩,
   ⟨{ cands := List.replicate 4 { pos := 1 } }, true, 1, 1, by decide⟩,
   ⟨{ shift := framing / 2, cands := [{ pos := 1, hits := 2 }] }, false, 1, framing, { pos := 1, hits := 2 }, by decide⟩,
   ⟨tributary 7 { align := 2 }, {}, on _, by decide⟩, ⟨tributary 7 { oof := true }, on _, by decide⟩,
   ⟨circuit { rxBits := List.replicate 1120 true }, _, _, _, _, on _, by decide, rfl, by decide, rfl, .inr (by decide +kernel), rfl, rfl, by decide⟩,
   ⟨(circuit {}).setTpath 0 { mode := 1, payload := 140, tuLop := true }, _, _, _, _, on _, by decide, rfl, by decide, rfl, .inl (by decide), rfl, rfl,
    by decide⟩,
   ⟨tributary 7 { rx := [{ flow := 1 }] }, _, _, on _, rfl, by decide⟩,
   ⟨circuit { playing := true, next := some 65535, held := [(65535, some { l := false, data := [] })] }, 65535, _, on _, by decide, by decide, by decide, rfl⟩,
   ⟨circuit { playing := true, next := some 0, replaced := 6 }, 0, on _, by decide⟩,
   ⟨ready.setMsp 3 { wtrEnd := some 5, request := 1 }, 5, on _, by decide⟩, ⟨{ ready with pms := [(0, some {})] }, 0, _, on _, rfl⟩,
   ⟨ready, on _, reaches .pcie _⟩, ⟨ready, _, on _, due 9 _, rfl⟩⟩
/-! ## Hypotheses of the statements about keys, memories and the pair -/

/-- `ready` with a change of the cipher's part. -/
def cipher (f : Cipher → Cipher) : State := { ready with cipher := f ready.cipher }

theorem witness_KeyWindowRowsTakeEffect :
    (∃ s : State, Reaches .pcie s ∧ s.cipher.busy = false ∧ s.lc.state ≠ 4 ∧ unicastBound s.cipher.slotReg.toNat s = false ∧
      (pairActive s && pairInStep s) = false ∧ s.cipher.sizeReg = true ∧ slotUse s.cipher.slotReg.toNat s = none) ∧
    (∃ s : State, Reaches .pcie s ∧ s.cipher.busy = false ∧ s.lc.state ≠ 4 ∧ unicastBound s.cipher.slotReg.toNat s = false ∧
      (pairActive s && pairInStep s) = false ∧ s.cipher.sizeReg = false ∧ ∀ b ∈ (stagedKey s).drop 16, b = 0) ∧
    (∃ (s : State) (u : Nat), Reaches .pcie s ∧ s.cipher.busy = false ∧ s.lc.state ≠ 4 ∧
      unicastBound s.cipher.slotReg.toNat s = true ∧ slotUse s.cipher.slotReg.toNat s = some u) ∧
    (∃ s : State, Reaches .pcie s ∧ s.cipher.busy = false ∧ s.lc.state = 4) ∧
    (∃ s : State, Reaches .pcie s ∧ On s ∧ s.cipher.busy = true ∧ s.cipher.committing = true) ∧
    (∃ s : State, On s ∧ s.cipher.busy = true ∧ s.cipher.committing = false) ∧
    (∃ (s : State) (t : Word), On s ∧ s.cipher.stageTick = some t ∧ 64 ≤ ticksSince t s) ∧
    (∃ s : State, On s ∧ s.cipher.enginesOk.getLsbD 15 = true ∧ s.cipher.faulted.getLsbD 15 = false) ∧
    (∃ s u : State, On s ∧ s.cipher.enginesOk.getLsbD 7 = true ∧ s.cipher.faulted.getLsbD 7 = true ∧ u = { s with cipher := { s.cipher with
      enginesOk := s.cipher.enginesOk &&& ~~~ BitVec.ofNat 16 (2 ^ 7)
      faulted := s.cipher.faulted &&& ~~~ BitVec.ofNat 16 (2 ^ 7) } }) ∧
    (∃ s u : State, On s ∧ s.cipher.enginesOk.getLsbD 8 = true ∧ s.cipher.faulted.getLsbD 8 = true ∧ u = { s with cipher := { s.cipher with
      enginesOk := s.cipher.enginesOk &&& ~~~ BitVec.ofNat 16 (2 ^ 8)
      faulted := s.cipher.faulted &&& ~~~ BitVec.ofNat 16 (2 ^ 8) } } ∧ s.cipher.tookOver.find? (fun x => decide (x.2 = some 8)) = none) :=
  ⟨⟨{ cipher (fun x => { x with sizeReg := true }) with lc := {} }, reaches .pcie _, by decide⟩,
   ⟨{ ready with lc := {} }, reaches .pcie _, by decide⟩,
   ⟨{ cipher (fun x => { x with pon := [(2, some 0)] }) with lc := {} }, 2, reaches .pcie _, by decide⟩,
   ⟨{ ready with lc := { state := 4 } }, reaches .pcie _, by decide⟩,
   ⟨cipher fun x => { x with busy := true, committing := true }, reaches .pcie _, on _, by decide⟩,
   ⟨cipher fun x => { x with busy := true }, on _, by decide⟩,
   ⟨{ cipher (fun x => { x with stageTick := some 0 }) with clk := { tick := 64 } }, 0, on _, by decide⟩,
   ⟨ready, on _, by decide⟩, ⟨cipher fun x => { x with faulted := 0x80 }, _, on _, by decide, by decide, rfl⟩,
   ⟨cipher fun x => { x with faulted := 0x100 }, _, on _, by decide, by decide, rfl, by decide⟩⟩

theorem witness_CipherCommandsAnswer :
    (∃ q c s, Runs 0x0900 q c s) ∧ (∃ q c s, Runs 0x0901 q c s ∧ u8 q.body 2 = 0 ∧ slotUse (u16 q.body 4) s = none) ∧
    (∃ q c s, Runs 0x0901 q c s ∧ u8 q.body 2 ≠ 0 ∧ SMap.get none s.cipher.pon (6 * u8 q.body 0 + u8 q.body 1) ≠ some (u16 q.body 4)) ∧
    (∃ q c s, Runs 0x0901 q c s ∧ u8 q.body 2 ≠ 0 ∧ SMap.get none s.cipher.pon (6 * u8 q.body 0 + u8 q.body 1) = some (u16 q.body 4) ∧
      (u8 q.body 1 = 2 ∨ u8 q.body 1 = 3) ∧ (s.inst (u8 q.body 0)).usKeyIndex + 1 = u8 q.body 1) ∧
    (∃ q c s, Runs 0x0901 q c s ∧ u8 q.body 2 ≠ 0 ∧ SMap.get none s.cipher.pon (6 * u8 q.body 0 + u8 q.body 1) = some (u16 q.body 4) ∧
      ¬ ((u8 q.body 1 = 2 ∨ u8 q.body 1 = 3) ∧ (s.inst (u8 q.body 0)).usKeyIndex + 1 = u8 q.body 1)) ∧
    (∃ q c s, Runs 0x0902 q c s ∧ u8 q.body 1 = 0 ∧ SMap.get false (s.inst (u8 q.body 0)).usEncrypt (u16 q.body 2) = false ∧
      (s.inst (u8 q.body 0)).usEncrypt.length < 1024) ∧
    (∃ q c s, Runs 0x0902 q c s ∧ u8 q.body 1 = 0 ∧ SMap.get false (s.inst (u8 q.body 0)).usEncrypt (u16 q.body 2) = false ∧
      1024 ≤ (s.inst (u8 q.body 0)).usEncrypt.length) ∧
    (∃ q c s, Runs 0x0902 q c s ∧ u8 q.body 1 ≠ 0 ∧ SMap.get false (s.inst (u8 q.body 0)).usEncrypt (u16 q.body 2) = true) ∧
    (∃ q c s, Runs 0x0903 q c s ∧ u8 q.body 3 = 0 ∧ slotUse (u16 q.body 4) s = none ∧
      200 < reserveSum (u8 q.body 1) (linkKey (u8 q.body 0) (u8 q.body 1) (u8 q.body 2)) s + u8 q.body 6) ∧
    (∃ q c s, Runs 0x0903 q c s ∧ u8 q.body 3 = 0 ∧ slotUse (u16 q.body 4) s = none ∧
      reserveSum (u8 q.body 1) (linkKey (u8 q.body 0) (u8 q.body 1) (u8 q.body 2)) s + u8 q.body 6 = 200) ∧
    (∃ q c s, Runs 0x0903 q c s ∧ u8 q.body 3 ≠ 0) ∧
    (∃ q c s, Runs 0x0904 q c s ∧ (linkBind (u8 q.body 0) 0 (u8 q.body 1) s).isSome = true) ∧
    (∃ q c s, Runs 0x0904 q c s ∧ linkBind (u8 q.body 0) 0 (u8 q.body 1) s = none) ∧ (∃ q c s, Runs 0x0905 q c s) :=
  ⟨⟨_, _, _, runs 0x0900 (req 0) ready⟩, ⟨_, _, _, runs 0x0901 (req 0) ready, by decide⟩,
   ⟨_, _, _, runs 0x0901 (req 0 [0, 0, 1]) ready, by decide⟩,
   ⟨_, _, _, runs 0x0901 (req 0 [0, 2, 1, 0, 7]) { cipher (fun x => { x with pon := [(2, some 7)] }) with
      insts := [(0, { usKeyIndex := 1 })] }, by decide⟩,
   ⟨_, _, _, runs 0x0901 (req 0 [0, 2, 1, 0, 7]) (cipher fun x => { x with pon := [(2, some 7)] }), by decide⟩,
   ⟨_, _, _, runs 0x0902 (req 0) (inst0 fun x => { x with usEncrypt := List.replicate 1023 (1, true) }), by decide +kernel⟩,
   ⟨_, _, _, runs 0x0902 (req 0) (inst0 fun x => { x with usEncrypt := List.replicate 1024 (1, true) }), by decide +kernel⟩,
   ⟨_, _, _, runs 0x0902 (req 0 [0, 1]) (inst0 fun x => { x with usEncrypt := [(0, true)] }), by decide⟩,
   ⟨_, _, _, runs 0x0903 (req 0 [0, 0, 0, 0, 0, 0, 201]) ready, by decide⟩, ⟨_, _, _, runs 0x0903 (req 0 [0, 0, 0, 0, 0, 0, 200]) ready, by decide⟩,
   ⟨_, _, _, runs 0x0903 (req 0 [0, 0, 0, 1]) ready, by decide⟩,
   ⟨_, _, _, runs 0x0904 (req 0) (cipher fun x => { x with link := [(0, some { slot := 0 })] }), by decide⟩,
   ⟨_, _, _, runs 0x0904 (req 0) ready, by decide⟩, ⟨_, _, _, runs 0x0905 (req 0) ready⟩⟩

/-- `ready` with a change of the memories' state. -/
def memory (f : Mem → Mem) : State := { ready with mem := f ready.mem }

theorem witness_MemoryRowsTakeEffect :
    (∃ s : State, On s ∧ domainOn (groupDomain 16) s = true ∧ domainOn (groupDomain 37) s = true ∧
      entryValid (s.entry (262144 * 15 + 0 / 2 % 262144)) = false ∧ Reaches .spi s ∧
      (rcNow (2 * 0xA0000 + 1) s = none ∧ rcNow (2 * 0xA0000) s = none) ∧ rcNow (2 * 0xA001C) s = none) ∧
    (∃ (s : State) (a : ScratchAcc), On s ∧ s.mem.seqHolder = 0 ∧ generalLo ≤ a.at_ ∧ a.at_ < generalHi ∧
      s.mem.badWords.contains (wordOf a.addr.toNat) = false ∧ a.kind = .read) ∧
    (∃ (s : State) (a : ScratchAcc), On s ∧ s.mem.seqHolder = 0 ∧ generalLo ≤ a.at_ ∧ a.at_ < generalHi ∧
      s.mem.badWords.contains (wordOf a.addr.toNat) = false ∧ a.kind = .add) ∧
    (∃ (s : State) (a : ScratchAcc), On s ∧ a.kind = .lock ∧ s.mem.seqHolder = 0) ∧
    (∃ (s : State) (a : ScratchAcc), On s ∧ a.kind = .unlock ∧ s.mem.seqHolder = 1 ∧ s.mem.seqWait = []) ∧
    (∃ s : State, On s ∧ s.mem.seqHolder ≠ 0 ∧ s.mem.seqWait = []) :=
  ⟨⟨ready, on _, by decide, by decide, by decide, reaches .spi _, by decide⟩,
   ⟨ready, { addr := BitVec.ofNat 18 (generalHi - 8) }, on _, by decide⟩, ⟨ready, { addr := BitVec.ofNat 18 generalLo, kind := .add }, on _, by decide⟩,
   ⟨ready, { kind := .lock }, on _, by decide⟩, ⟨memory fun x => { x with seqHolder := 1 }, { kind := .unlock }, on _, by decide⟩,
   ⟨memory fun x => { x with seqHolder := 2 }, on _, by decide⟩⟩

/-- `ready` with a Blotter step of a group in progress. -/
def blotting (g : Nat) (p : BlotPhase) (f : Mem → Mem := id) : State :=
  (memory f).setBlot g { step := some { phase := p, region := 0, startPs := 0, endPs := 15625000 } }

theorem witness_BlotterRowsTakeEffect :
    (∃ s : State, On s ∧ s.pwr.state ≠ .awake) ∧
    (∃ s : State, On s ∧ s.pwr.state = .awake ∧ blotDue 0 s = true ∧ underTest 0 s = false ∧ (s.blot 0).step = none ∧ 0 ∉ s.mem.owed ∧
      blotDue 37 s = false ∧ 37 ∉ s.mem.owed) ∧
    (∃ s : State, On s ∧ s.pwr.state = .awake ∧ blotDue 0 s = true ∧ (s.blot 0).step ≠ none) ∧
    (∃ s : State, On s ∧ s.pwr.state = .awake ∧ blotDue 37 s = false ∧ 37 ∈ s.mem.owed ∧ blotFree 37 s = true ∧ underTest 37 s = false ∧
      (s.blot 37).step = none) ∧
    (∃ (s : State) (b : BlotStep), On s ∧ (s.blot 37).step = some b ∧ (s.domain (groupDomain 37)).phase ≠ .stopping ∧ b.phase = .waiting) ∧
    (∃ (s : State) (b : BlotStep), On s ∧ (s.blot 37).step = some b ∧ (s.domain (groupDomain 37)).phase ≠ .stopping ∧ b.phase = .save) ∧
    (∃ (s : State) (b : BlotStep), On s ∧ (s.blot 37).step = some b ∧ (s.domain (groupDomain 37)).phase ≠ .stopping ∧ b.phase = .test ∧ Plain s ∧
      targetBusy 37 s = false) ∧
    (∃ (s : State) (b : BlotStep), On s ∧ (s.blot 25).step = some b ∧ (s.domain (groupDomain 25)).phase ≠ .stopping ∧ b.phase = .restore ∧
      s.mem.grants.any (fun x => decide (x.use = .restore 25)) = true) :=
  ⟨⟨{ ready with pwr := { state := .decided } }, on _, by decide⟩, ⟨ready, on _, by decide⟩, ⟨blotting 0 .waiting, on _, by decide⟩,
   ⟨memory fun x => { x with owed := [37] }, on _, by decide⟩, ⟨blotting 37 .waiting, _, on _, rfl, by decide, rfl⟩,
   ⟨blotting 37 .save, _, on _, rfl, by decide, rfl⟩, ⟨blotting 37 .test, _, on _, rfl, by decide, rfl, plain _, by decide⟩,
   ⟨blotting 25 .restore fun x => { x with grants := [{ port := 4, targets := [25], use := .restore 25, sincePs := 0 }] }, _, on _, rfl, by decide, rfl, by decide⟩⟩

/-- A bulk transfer over target 34. -/
def bulk : Xfer := { port := 6, targets := [34], use := .bulk, sincePs := 0 }

theorem witness_TransferRowsTakeEffect :
    (∃ s : State, On s ∧ s.cmd.executing = [] ∧ nextGrant s = none) ∧
    (∃ (s : State) (x : Xfer), On s ∧ s.cmd.executing = [] ∧ nextGrant s = some x ∧ x.use = .bulk ∧ x.again = false) ∧
    (∃ (s : State) (x : Xfer), On s ∧ s.cmd.executing = [] ∧ s.mem.grants.find? (fun x => decide (x.port = 6)) = some x ∧ x.use = .bulk ∧
      s.pair.bulkAt = none ∧ Plain s ∧ x.revoked < 3) ∧
    (∃ (s : State) (x : Xfer) (a : Nat), On s ∧ s.cmd.executing = [] ∧ s.mem.grants.find? (fun x => decide (x.port = 5)) = some x ∧
      x.use = .bulk ∧ s.pair.bulkAt = some a ∧ s.pair.kibLeft ≤ 4) ∧
    (∃ (s : State) (x : Xfer) (a : Nat), On s ∧ s.cmd.executing = [] ∧ s.mem.grants.find? (fun x => decide (x.port = 5)) = some x ∧
      x.use = .bulk ∧ s.pair.bulkAt = some a ∧ 4 < s.pair.kibLeft) ∧
    (∃ (s : State) (w h : Xfer), On s ∧ s.cmd.executing = [] ∧
      longestWait (s.mem.requests.filter
        (fun x => x.targets.any (fun t => targetBusy t s) && !x.targets.any (fun t => targetFrozen t s))) = some w ∧
      s.mem.grants.find? (fun h => w.targets.any (fun t => h.targets.contains t)) = some h ∧ w.use = .bulk ∧ h.use = .bulk) ∧
    (∃ (s : State) (f : Word) (n : Nat), On s ∧ s.cmd.executing = [] ∧ SMap.get none s.mem.freezeEnd 39 = some (f, n) ∧ n ≤ ticksSince f s) ∧
    (∃ (s : State) (f : Word) (n : Nat), On s ∧ s.cmd.executing = [] ∧ SMap.get none s.mem.freezeEnd 0 = some (f, n) ∧ ticksSince f s < n) :=
  ⟨⟨ready, on _, rfl, by decide⟩, ⟨memory fun x => { x with requests := [bulk] }, bulk, on _, by decide⟩,
   ⟨memory fun x => { x with grants := [{ bulk with revoked := 2 }] }, _, on _, rfl, rfl, rfl, rfl, plain _, by decide⟩,
   ⟨{ memory fun x => { x with grants := [{ bulk with port := 5 }] } with pair := { bulkAt := some 0, kibLeft := 4 } }, _, 0, on _, rfl, rfl, rfl, rfl, by decide⟩,
   ⟨{ memory fun x => { x with grants := [{ bulk with port := 5 }] } with pair := { bulkAt := some 0, kibLeft := 5 } }, _, 0, on _, rfl, rfl, rfl, rfl, by decide⟩,
   ⟨memory fun x => { x with grants := [bulk], requests := [{ bulk with port := 5 }] }, _, _, on _, rfl, rfl, rfl, rfl, rfl⟩,
   ⟨memory fun x => { x with freezeEnd := [(39, some (0, 0))] }, 0, 0, on _, by decide⟩,
   ⟨memory fun x => { x with freezeEnd := [(0, some (0, 1))] }, 0, 1, on _, by decide⟩⟩

theorem witness_MemoryCommandsAnswer :
    (∃ q c s, Runs 0x0A00 q c s) ∧ (∃ q c s, Runs 0x0A01 q c s) ∧
    (∃ q c s, Runs 0x0A02 q c s ∧ (bitsOf 40 (u64 q.body 0)).any (fun t => !targetFrozen t s && targetBusy t s) = false) ∧
    (∃ q c s, Runs 0x0A02 q c s ∧ (bitsOf 40 (u64 q.body 0)).any (fun t => !targetFrozen t s && targetBusy t s) = true) ∧
    (∀ op : Fin 4, ∃ q c s, Runs 0x0A03 q c s ∧ s.mem.seqHolder < 2 ∧ s.mem.badWords.contains (wordOf (scratchAcc q.body).addr.toNat) = false ∧
      s.mem.lastB = none ∧ u8 q.body 0 = op) ∧
    (∃ q c s, Runs 0x0A03 q c s ∧ s.mem.seqHolder = 2 ∧ u8 q.body 0 ≠ 0) :=
  ⟨⟨_, _, _, runs 0x0A00 (req 0) ready⟩, ⟨_, _, _, runs 0x0A01 (req 0) ready⟩, ⟨_, _, _, runs 0x0A02 (req 0 [0xFF]) ready, by decide⟩,
   ⟨_, _, _, runs 0x0A02 (req 0 [0, 0, 0, 0, 4]) (memory fun x => { x with grants := [bulk] }), by decide⟩,
   fun op => ⟨_, _, _, runs 0x0A03 (req 0 [BitVec.ofNat 8 op]) ready, by decide +revert⟩,
   ⟨_, _, _, runs 0x0A03 (req 0 [1]) (memory fun x => { x with seqHolder := 2 }), by decide⟩⟩

/-- `ready` with a change of the pair's state. -/
def paired (f : Pair → Pair) : State := { ready with pair := f { enable := true } }

theorem witness_PairLightAndHealthRowsTakeEffect :
    (∃ s : State, On s ∧ s.pair.actIn = true) ∧ (∃ s : State, On s ∧ s.pair.actIn = false ∧ s.pair.enable = false) ∧
    (∃ s : State, On s ∧ s.pair.actIn = false ∧ s.pair.enable = true ∧ s.pair.actOut = true ∧ s.pair.state = 1 ∧
      s.clk.nowPs ≤ s.pair.actOutPs + 2000000 ∧ s.pair.partnerSlot < s.dev.slotId.toNat) ∧
    (∃ s : State, On s ∧ s.pair.actIn = false ∧ s.pair.enable = true ∧ s.pair.actOut = true ∧ s.pair.state = 1 ∧
      s.clk.nowPs ≤ s.pair.actOutPs + 2000000 ∧ s.dev.slotId.toNat ≤ s.pair.partnerSlot) ∧
    (∃ s : State, On s ∧ s.pair.actIn = false ∧ s.pair.enable = true ∧ s.pair.actOut = false ∧ s.pair.state = 0 ∧
      s.pair.claiming = true ∧ s.pair.loan = none ∧ quiesceNow (advanceTo (s.pair.actInOffPs + 2000000) s) = false ∧
      s.fatal.asserted = false) ∧
    (∃ (s : State) (tag : Fin 8) (ns : BitVec 17) (l : Nat), On s ∧ pairActive s = true ∧ l = psOfTag tag ns.toNat s ∧ s.pair.loan = none ∧
      s.pair.switch = none ∧ s.clk.nowPs + 13500000 = l ∧ burstIn (l - 3500000) (l + 1000 + 2200000) s = false) ∧
    (∃ (s : State) (l : Nat), On s ∧ pairActive s = true ∧ l = psOfTag 0 13499 s ∧ s.pair.loan = none ∧ s.pair.switch = none ∧
      l < s.clk.nowPs + 13500000) ∧
    (∃ s : State, On s ∧ pairActive s = true ∧ s.pair.loan ≠ none) ∧ (∃ s : State, On s ∧ pairActive s = true ∧ s.pair.switch ≠ none) ∧
    (∃ (s : State) (l : Loan) (id : Byte), On s ∧ s.pair.loan = some l ∧ pairStandby s = true ∧ l.id = id.toNat) ∧
    (∃ (s : State) (l : Loan), On s ∧ s.pair.loan = some l ∧ pairActive s = true ∧ s.pair.actOut = true) ∧
    (∃ (s : State) (l : Loan), On s ∧ s.pair.loan = some l ∧ pairStandby s = true ∧ l.granted = true ∧ s.pair.actOut = false ∧
      s.pair.actIn = false ∧ s.pair.actInOffPs + 2000000 ≤ max s.clk.nowPs (l.atPs - 1200000) ∧
      ∃ e ∈ (s.inst l.inst).sched, e.shadow = false ∧ e.atPs = l.atPs) ∧
    (∃ (s : State) (d : BitVec 64), On s ∧ s.pair.enable = true ∧ Due 11 s ∧
      s.pair.digests.find? (fun x => decide (x.1 = s.clk.tick)) = some (s.clk.tick, d)) ∧
    (∃ (s : State) (w lo : Word) (d : BitVec 64), On s ∧ s.pair.enable = true ∧ s.pair.switch = none ∧ s.pair.state = 3 ∧
      s.pair.low = some (tickOfTag 0 s, lo) ∧
      s.pair.digests.find? (fun x => decide (x.1 = tickOfTag 0 s)) = some (tickOfTag 0 s, d) ∧ d = w ++ lo) ∧
    (∃ (s : State) (w lo : Word) (d : BitVec 64), On s ∧ s.pair.enable = true ∧ s.pair.switch = none ∧ s.pair.state = 3 ∧
      s.pair.low = some (tickOfTag 0 s, lo) ∧
      s.pair.digests.find? (fun x => decide (x.1 = tickOfTag 0 s)) = some (tickOfTag 0 s, d) ∧ d ≠ w ++ lo ∧ 2 ≤ s.pair.mismatchRun) ∧
    (∃ s : State, On s ∧ pairStandby s = true ∧ s.pair.bulkAt = none ∧ (63 : BitVec 16).toNat % 64 = 63 ∧ (62 : BitVec 16).toNat % 64 ≠ 63) ∧
    (∃ s : State, On s ∧ pairStandby s = true ∧ s.pair.testTick = none ∧ s.pair.lanesFaultTick = none ∧ s.pair.blotterFaultTick = none ∧
      s.pair.loan = none) ∧
    (∃ s : State, On s ∧ pairStandby s = true ∧ ranFor 8000 s.pair.testTick s = true ∧ s.pair.lanesFaultTick = none ∧
      s.pair.blotterFaultTick = none ∧ s.pair.loan = none) ∧
    (∃ s : State, On s ∧ pairStandby s = true ∧ s.pair.testTick ≠ none ∧ ranFor 8000 s.pair.testTick s = false) :=
  ⟨⟨paired fun x => { x with actIn := true }, on _, rfl⟩, ⟨ready, on _, by decide⟩,
   ⟨{ paired (fun x => { x with actOut := true, state := 1 }) with dev := { quill := 3, slotId := 1 }, clk := { nowPs := 2000000 } }, on _, by decide⟩,
   ⟨paired fun x => { x with actOut := true, state := 1 }, on _, by decide⟩, ⟨paired fun x => { x with claiming := true }, on _, by decide⟩,
   ⟨paired fun x => { x with state := 1 }, 0, 13500, 13500000, on _, by decide⟩,
   ⟨paired fun x => { x with state := 1 }, 13499000, on _, by decide⟩,
   ⟨paired fun x => { x with state := 1, loan := some { id := 7, inst := 0, atPs := 0, endPs := 0 } }, on _, by decide⟩,
   ⟨paired fun x => { x with state := 1, switch := some { atPs := 0, replayPs := 0, cause := 1 } }, on _, by decide⟩,
   ⟨paired fun x => { x with state := 2, loan := some { id := 7, inst := 0, atPs := 0, endPs := 0 } }, _, 7, on _, rfl, by decide⟩,
   ⟨paired fun x => { x with state := 1, actOut := true, loan := some { id := 7, inst := 0, atPs := 0, endPs := 0 } }, _, on _, rfl, by decide⟩,
   ⟨{ paired (fun x => { x with state := 2, loan := some { id := 7, inst := 0, atPs := 3200000, endPs := 0, granted := true } }) with
      insts := [(0, { sched := [{ atPs := 3200000, endPs := 3300000 }] })] }, _, on _, rfl, by decide⟩,
   ⟨paired fun x => { x with digests := [(0, 5)] }, 5, on _, rfl, due 11 _, by decide⟩,
   ⟨paired fun x => { x with state := 3, low := some (0, 5), digests := [(0, 0x200000005)] }, 2, 5, 0x200000005, on _, by decide⟩,
   ⟨paired fun x => { x with state := 3, low := some (0, 5), digests := [(0, 5)], mismatchRun := 2 }, 1, 5, 5, on _, by decide⟩,
   ⟨paired fun x => { x with state := 2 }, on _, by decide⟩, ⟨paired fun x => { x with state := 2 }, on _, by decide⟩,
   ⟨{ paired (fun x => { x with state := 3, testTick := some 0 }) with clk := { tick := 8000 } }, on _, by decide⟩,
   ⟨{ paired (fun x => { x with state := 3, testTick := some 0 }) with clk := { tick := 7999 } }, on _, by decide⟩⟩

theorem witness_SwitchoverRowsTakeEffect :
    (∃ s : State, On s ∧ pairStandby s = true ∧ s.pair.loan = none) ∧
    (∃ (s : State) (w : Switch), On s ∧ s.pair.switch = some w ∧ pairActive s = true ∧ fibreDark s = true) ∧
    (∃ (s : State) (w : Switch), On s ∧ s.pair.switch = some w ∧ pairStandby s = true ∧ s.hot.recognised = false ∧ s.pair.gapTick = none) ∧
    (∃ s : State, On s ∧ pairStandby s = true ∧ s.pair.actIn = false ∧ s.pair.actOut = false ∧ s.pair.loan = none ∧ s.pair.switch = none ∧
      s.hot.recognised = false ∧ s.pair.gapTick = none) ∧
    (∃ s : State, On s ∧ s.pair.enable = true ∧ s.pair.state = 2 ∧ s.pair.mirrorUp = true ∧ s.pair.matching = false) ∧
    (∃ s : State, On s ∧ s.pair.mirrorUp = true ∧ pairStandby s = true ∧ s.pair.actIn = true) :=
  ⟨⟨paired fun x => { x with state := 2 }, on _, by decide⟩,
   ⟨paired fun x => { x with state := 1, switch := some { atPs := 0, replayPs := 0, cause := 1 } }, _, on _, rfl, by decide⟩,
   ⟨paired fun x => { x with state := 3, switch := some { atPs := 0, replayPs := 0, cause := 1 } }, _, on _, rfl, by decide⟩,
   ⟨paired fun x => { x with state := 3 }, on _, by decide⟩, ⟨paired fun x => { x with state := 2, mirrorUp := true }, on _, by decide⟩,
   ⟨paired fun x => { x with state := 3, mirrorUp := true, actIn := true }, on _, by decide⟩⟩

/-- `ready` as a device of a pair with a loaded receive key of LINK 33. -/
def keyed (f : Pair → Pair) : State :=
  { paired f with cipher := { ready.cipher with slots := [(5, { loaded := true, key := zeros 32 })], link := [(134, some { slot := 5 })] } }

/-- A mirror frame of one byte, and the key that it opens under. -/
def frame1 : FrameFields := { length := 1 }
def seal0 : Seal := { key := zeros 16, salt := 0, counter := 0 }
def field1 : Bytes := [7] ++ checkField (bodyOf frame1) [7] (some seal0)

theorem field1_opens : openField (bodyOf frame1) frame1.length.toNat field1 (some seal0) = some (gcmCrypt (zeros 16) (zeros 12) [7]) := by
  decide +kernel

theorem witness_MirrorFramesTakeEffect :
    (∃ s : State, On s ∧ mirrorSeal frame1 s = none) ∧
    (∃ (s u : State) (k : Seal), On s ∧ mirrorSeal frame1 s = some k ∧ rxShare 33 (b2n frame1.keyPhase) frame1.length.toNat s = (false, u)) ∧
    (∃ (s u : State) (k : Seal), On s ∧ mirrorSeal frame1 s = some k ∧ rxShare 33 (b2n frame1.keyPhase) frame1.length.toNat s = (true, u) ∧
      openField (bodyOf frame1) frame1.length.toNat [] (some k) = none) ∧
    (∃ (s u : State) (k : Seal) (data : Bytes), On s ∧ mirrorSeal frame1 s = some k ∧
      rxShare 33 (b2n frame1.keyPhase) frame1.length.toNat s = (true, u) ∧
      openField (bodyOf frame1) frame1.length.toNat field1 (some k) = some data ∧ pairStandby s = true ∧ s.pair.state = 2 ∧
      isolated 0 s = false ∧ s.pair.enable = true ∧ s.mem.seqHolder ≠ 1) ∧
    (∃ (s u : State) (k : Seal) (data : Bytes), On s ∧ mirrorSeal frame1 s = some k ∧
      rxShare 33 (b2n frame1.keyPhase) frame1.length.toNat s = (true, u) ∧
      openField (bodyOf frame1) frame1.length.toNat field1 (some k) = some data ∧ pairStandby s = true ∧ s.pair.state ≠ 2) :=
  ⟨⟨ready, on _, by decide⟩,
   ⟨{ keyed (fun x => x) with cipher := { (keyed fun x => x).cipher with rxFree := [(33, 1)] } }, _, seal0, on _, by decide, rfl⟩,
   ⟨keyed fun x => x, _, seal0, on _, by decide, rfl, by decide +kernel⟩,
   ⟨keyed fun x => { x with state := 2 }, _, seal0, _, on _, by decide, rfl, field1_opens, by decide⟩,
   ⟨keyed fun x => { x with state := 3 }, _, seal0, _, on _, by decide, rfl, field1_opens, by decide⟩⟩

theorem witness_PairCommandsAnswer :
    (∃ q c s, Runs 0x0C00 q c s ∧ u8 q.body 0 = 1 ∧ mirrorBound s = false) ∧
    (∃ q c s, Runs 0x0C00 q c s ∧ u8 q.body 0 = 1 ∧ mirrorBound s = true ∧ s.pair.enable = true) ∧
    (∃ q c s, Runs 0x0C00 q c s ∧ u8 q.body 0 = 1 ∧ mirrorBound s = true ∧ s.pair.enable = false ∧ s.pair.actIn = true) ∧
    (∃ q c s, Runs 0x0C00 q c s ∧ u8 q.body 0 = 1 ∧ mirrorBound s = true ∧ s.pair.enable = false ∧ actInQuiet s = true) ∧
    (∃ q c s, Runs 0x0C00 q c s ∧ u8 q.body 0 = 1 ∧ mirrorBound s = true ∧ s.pair.enable = false ∧ s.pair.actIn = false ∧
      actInQuiet s = false) ∧
    (∃ q c s, Runs 0x0C00 q c s ∧ u8 q.body 0 ≠ 1 ∧ s.pair.enable = false) ∧
    (∃ q c s, Runs 0x0C00 q c s ∧ u8 q.body 0 ≠ 1 ∧ s.pair.enable = true ∧ pairActive s = true ∧ pairInStep s = true ∧ q.force = false) ∧
    (∃ q c s, Runs 0x0C00 q c s ∧ u8 q.body 0 ≠ 1 ∧ s.pair.enable = true ∧ pairActive s = true ∧ pairInStep s = false ∧ q.force = false) ∧
    (∃ q c s, Runs 0x0C00 q c s ∧ u8 q.body 0 ≠ 1 ∧ s.pair.enable = true ∧ pairActive s = false) ∧
    (∃ q c s, Runs 0x0C00 q c s ∧ u8 q.body 0 ≠ 1 ∧ s.pair.enable = true ∧ pairActive s = true ∧ pairInStep s = true ∧ q.force = true) ∧
    (∃ q c s, Runs 0x0C01 q c s ∧ pairActive s = false) ∧ (∃ q c s, Runs 0x0C01 q c s ∧ pairActive s = true ∧ s.pair.mirrorUp = false) ∧
    (∃ q c s, Runs 0x0C01 q c s ∧ pairActive s = true ∧ partnerReady s = true ∧ s.pair.switch = none) ∧
    (∃ q c s, Runs 0x0C02 q c s ∧ pairStandby s = false) ∧ (∃ q c s, Runs 0x0C02 q c s ∧ pairStandby s = true ∧ s.pair.mirrorUp = false) ∧
    (∃ q c s, Runs 0x0C02 q c s ∧ pairStandby s = true ∧ s.pair.mirrorUp = true) ∧ (∃ q c s, Runs 0x0C03 q c s) := by
  let bound (x : Pair) (now : Nat) : State :=
    { ready with pair := x, clk := { nowPs := now }
                 cipher := { ready.cipher with link := [(132, some { slot := 4 }), (134, some { slot := 5 })] } }
  exact ⟨⟨_, _, _, runs 0x0C00 (req 0 [1]) ready, by decide⟩, ⟨_, _, _, runs 0x0C00 (req 0 [1]) (bound { enable := true } 0), by decide⟩,
    ⟨_, _, _, runs 0x0C00 (req 0 [1]) (bound { actIn := true } 0), by decide⟩,
    ⟨_, _, _, runs 0x0C00 (req 0 [1]) (bound {} 2000000), by decide⟩, ⟨_, _, _, runs 0x0C00 (req 0 [1]) (bound {} 1999999), by decide⟩,
    ⟨_, _, _, runs 0x0C00 (req 0) ready, by decide⟩,
    ⟨_, _, _, runs 0x0C00 (req 0) (paired fun x => { x with state := 1, mirrorUp := true, partnerState := 3 }), by decide⟩,
    ⟨_, _, _, runs 0x0C00 (req 0) (paired fun x => { x with state := 1 }), by decide⟩,
    ⟨_, _, _, runs 0x0C00 (req 0) (paired fun x => { x with state := 3 }), by decide⟩,
    ⟨_, _, _, runs 0x0C00 { index := 0, flags := 2 } (paired fun x => { x with state := 1, mirrorUp := true, partnerState := 3 }), by decide⟩,
    ⟨_, _, _, runs 0x0C01 (req 0) ready, by decide⟩,
    ⟨_, _, _, runs 0x0C01 (req 0) (paired fun x => { x with state := 1 }), by decide⟩,
    ⟨_, _, _, runs 0x0C01 (req 0) (paired fun x => { x with state := 1, mirrorUp := true, partnerState := 3, partner := 63 }), by decide⟩,
    ⟨_, _, _, runs 0x0C02 (req 0) ready, by decide⟩, ⟨_, _, _, runs 0x0C02 (req 0) (paired fun x => { x with state := 2 }), by decide⟩,
    ⟨_, _, _, runs 0x0C02 (req 0) (paired fun x => { x with state := 2, mirrorUp := true }), by decide⟩, ⟨_, _, _, runs 0x0C03 (req 0) ready⟩⟩

/-! ## Hypotheses of the statements about power, the life cycle and tests -/

/-- `ready` in a state of the sleep machine. -/
def power (f : Pwr → Pwr) : State := { ready with pwr := f ready.pwr }

theorem witness_SleepRowsTakeEffect :
    (∃ s : State, On s ∧ Due 10 s ∧ s.pwr.state = .awake ∧ (∀ d, (s.domain d).phase = .on ∨ (s.domain d).phase = .off) ∧
      1 < s.pwr.idleLeft) ∧
    (∃ s : State, On s ∧ Due 10 s ∧ s.pwr.state = .awake ∧ (∀ d, (s.domain d).phase = .on ∨ (s.domain d).phase = .off) ∧
      s.pwr.idleLeft ≤ 1 ∧ maySleep s = true ∧ s.pwr.cfg.hostKeep = true) ∧
    (∃ s : State, On s ∧ s.pwr.state = .decided ∧ s.pwr.indicating ≠ [] ∧ 64 ≤ ticksSince s.pwr.decidedTick s) ∧
    (∃ s : State, On s ∧ s.pwr.state = .decided ∧ s.pwr.indicating = [] ∧ (∀ e ∈ s.mem.groups, e.2.step = none) ∧ s.pwr.fired = none) ∧
    (∃ s : State, On s ∧ s.pwr.state = .decided ∧ s.pwr.indicating = [] ∧ (∀ e ∈ s.mem.groups, e.2.step = none) ∧ s.pwr.fired = some 5) ∧
    (∀ n : Fin 4, 1 ≤ n.val → ∃ s : State, On s ∧ s.pwr.state = .entering ∧ s.pwr.abortPoint = n.val ∧ s.pwr.fired = none) ∧
    (∀ n : Fin 4, 1 ≤ n.val → ∃ s : State, On s ∧ s.pwr.state = .entering ∧ s.pwr.abortPoint = n.val ∧ s.pwr.fired = some 1) ∧
    (∃ s : State, On s ∧ s.pwr.state = .asleep ∧ (ticksSince s.pwr.asleepTick s + 1) % max 1 s.pwr.cfg.samplePeriod = 0 ∧
      s.clk.channel < 4 ∧ s.pwr.sampleLeft < 3) ∧
    (∃ s : State, On s ∧ s.pwr.state = .sampling ∧ s.pwr.sampleLeft = 0 ∧ 2 < s.pwr.cfg.samplePeriod) ∧
    (∃ s : State, On s ∧ s.pwr.state = .asleep ∧ s.pwr.cfg.hostKeep = true) ∧
    (∃ s : State, On s ∧ s.pwr.state = .decided ∧ s.pwr.fired = none) ∧
    (∃ s : State, On s ∧ s.pwr.state = .decided ∧ s.pwr.fired = some 5 ∧ s.pwr.fireClock = clockNo s) ∧
    (∃ s : State, On s ∧ s.pwr.state = .decided ∧ s.pwr.fired = some 5 ∧ s.pwr.fireClock ≠ clockNo s) ∧
    (∃ s : State, On s ∧ pathUp .spi s = true ∧ s.pwr.state = .asleep) ∧ (∃ s : State, On s ∧ pathUp .pcie s = true ∧ s.pwr.state = .sampling) ∧
    (∃ s : State, On s ∧ s.pwr.state = .waking ∧ s.pwr.heldBells = [] ∧ ∃ d, s.pwr.heldPush = some d) := by
  have all (f : Pwr → Pwr) (h : f ready.pwr = { f ready.pwr with domains := [] }) (d : Nat) :
      ((power f).domain d).phase = .on ∨ ((power f).domain d).phase = .off := by
    left
    show (SMap.get {} (f ready.pwr).domains d).phase = .on
    rw [h]; rfl
  exact ⟨⟨power fun x => { x with idleLeft := 2 }, on _, due 10 _, rfl, all _ rfl, by decide⟩,
    ⟨(power fun x => { x with idleLeft := 1, cfg := { x.cfg with enable := true, hostKeep := true } }).setInst 0 { st := 0x51, sleepAllowed := true }, on _,
      due 10 _, rfl, all (fun x => { x with idleLeft := 1, cfg := { x.cfg with enable := true, hostKeep := true } }) rfl, by decide, by decide +kernel, rfl⟩,
    ⟨{ power (fun x => { x with state := .decided, indicating := [0] }) with clk := { tick := 64 } }, on _, by decide⟩,
    ⟨power fun x => { x with state := .decided }, on _, by decide⟩, ⟨power fun x => { x with state := .decided, fired := some 5 }, on _, by decide⟩,
    fun n _ => ⟨power fun x => { x with state := .entering, abortPoint := n }, on _, rfl, rfl, rfl⟩,
    fun n _ => ⟨power fun x => { x with state := .entering, abortPoint := n, fired := some 1 }, on _, rfl, rfl, rfl⟩,
    ⟨{ power (fun x => { x with state := .asleep, sampleLeft := 2 }) with clk := { tick := 19, channel := 3 } }, on _, by decide⟩,
    ⟨power fun x => { x with state := .sampling, cfg := { x.cfg with samplePeriod := 3 } }, on _, by decide⟩,
    ⟨power fun x => { x with state := .asleep, cfg := { x.cfg with hostKeep := true } }, on _, by decide⟩,
    ⟨power fun x => { x with state := .decided }, on _, by decide⟩, ⟨power fun x => { x with state := .decided, fired := some 5, fireClock := 1 }, on _, by decide⟩,
    ⟨{ power (fun x => { x with state := .decided, fired := some 5 }) with clk := { nowPs := 1600 } }, on _, by decide⟩,
    ⟨power fun x => { x with state := .asleep }, on _, by decide⟩, ⟨power fun x => { x with state := .sampling }, on _, by decide⟩,
    ⟨power fun x => { x with state := .waking, heldPush := some default }, on _, rfl, rfl, _, rfl⟩⟩

/-- `ready` with a domain in a phase. -/
def domainIs (d : Nat) (p : DomPhase) (s : State := ready) : State := s.setDomain d { phase := p }

theorem witness_PowerCommandsAndDomains :
    (∃ q c s, Runs 0x0B00 q c s) ∧
    (∃ q c s, Runs 0x0B01 q c s ∧ u8 q.body 0 = 0 ∧ (s.domain q.index).phase = .on ∧ carriesService q.index s = true ∧ q.force = false) ∧
    (∃ q c s, Runs 0x0B01 q c s ∧ u8 q.body 0 = 0 ∧ (s.domain q.index).phase = .on ∧ q.force = true ∧ domainLocked q.index s = true) ∧
    (∃ q c s, Runs 0x0B01 q c s ∧ u8 q.body 0 = 0 ∧ (s.domain q.index).phase = .on ∧ carriesService q.index s = false ∧
      domainLocked q.index s = false) ∧
    (∃ q c s, Runs 0x0B01 q c s ∧ u8 q.body 0 = 0 ∧ (s.domain q.index).phase = .powering ∧ q.force = true ∧ domainLocked q.index s = false) ∧
    (∃ q c s, Runs 0x0B01 q c s ∧ u8 q.body 0 = 0 ∧ (s.domain q.index).phase ≠ .on ∧ (s.domain q.index).phase ≠ .powering) ∧
    (∃ q c s, Runs 0x0B01 q c s ∧ u8 q.body 0 ≠ 0 ∧ (s.domain q.index).phase = .off) ∧
    (∃ q c s, Runs 0x0B01 q c s ∧ u8 q.body 0 ≠ 0 ∧ (s.domain q.index).phase ≠ .off) ∧
    (∃ q c s, Runs 0x0B02 q c s ∧ s.pwr.clockFast = true) ∧ (∃ q c s, Runs 0x0B02 q c s ∧ s.pwr.clockFast = false) ∧
    (∃ (q : CmdReq) (c : Cmd) (s : State) (v : Bool), Runs 0x0B03 q c s ∧ s.pwr.padsLatched = true ∧ s.dev.outputs.getLsbD 3 = true ∧
      padsOwned s = false ∧ v = outLevel 8 s ∧ (8 + 8, !v) ∈ s.pwr.latched) ∧ (∃ q c s, Runs 0x0B03 q c s ∧ s.pwr.padsLatched = false) ∧
    (∃ q c s, Runs 0x0B04 q c s) ∧
    (∃ (s : State) (c : Cmd), Begun 0x0B01 c s ∧ c.req.index = 23 ∧ (s.domain 23).phase = .powering) ∧
    (∃ (s : State) (c : Cmd), Begun 0x0B01 c s ∧ c.req.index = 11 ∧ (s.domain 11).phase = .stopping ∧ domainHeld 11 s = false ∧
      domainGrants 11 s ≠ []) :=
  ⟨⟨_, _, _, runs 0x0B00 (req 0) ready⟩,
   ⟨_, _, _, runs 0x0B01 (req 7) (ready.setWorker 0 { state := 1 }), by decide⟩,
   ⟨_, _, _, runs 0x0B01 { index := 11, flags := 2 } { ready with tbl := { ready.tbl with leases := [{ id := 1, owner := 0, remaining := 64, taken := 0, blocks := 0xFFFF }] } }, by decide +kernel⟩,
   ⟨_, _, _, runs 0x0B01 (req 7) ready, by decide⟩,
   ⟨_, _, _, runs 0x0B01 { index := 7, flags := 2 } (domainIs 7 .powering), by decide⟩,
   ⟨_, _, _, runs 0x0B01 (req 7) (domainIs 7 .stopping), by decide⟩, ⟨_, _, _, runs 0x0B01 (req 7 [1]) (domainIs 7 .off), by decide⟩,
   ⟨_, _, _, runs 0x0B01 (req 7 [1]) ready, by decide⟩,
   ⟨_, _, _, runs 0x0B02 (req 0) (power fun x => { x with clockFast := true }), rfl⟩, ⟨_, _, _, runs 0x0B02 (req 0) (power fun x => { x with clockFast := false }), rfl⟩,
   
   ⟨_, _, _, _, runs 0x0B03 (req 0) { power (fun x => { x with padsLatched := true, latched := [(16, true), (16, false)] }) with
      dev := { quill := 3, outputs := 8 } }, rfl, by decide, by decide, rfl, by decide⟩, ⟨_, _, _, runs 0x0B03 (req 0) ready, by decide⟩,
   ⟨_, _, _, runs 0x0B04 (req 0) ready⟩, ⟨_, _, begins 0x0B01 (req 23) (domainIs 23 .powering), by decide⟩,
   ⟨_, _, begins 0x0B01 (req 11) (domainIs 11 .stopping { ready with mem := { ready.mem with
      grants := (List.range 38).map fun t => { port := 6, targets := [t], use := .bulk, sincePs := 0 } } }), by decide +kernel⟩⟩

theorem witness_LifeCycleAndTestRowsTakeEffect :
    (∃ q c s, Runs 0x0D00 q c s ∧ s.bist.run ≠ none) ∧ (∃ q c s, Runs 0x0D00 q c s ∧ s.lc.programming ≠ none) ∧
    (∃ q c s, Runs 0x0D00 q c s ∧ s.bist.run = none ∧ s.lc.programming = none ∧ u8 q.body 0 = 3 ∧ carriesAny s = true ∧ q.force = false) ∧
    (∃ q c s, Runs 0x0D00 q c s ∧ s.bist.run = none ∧ s.lc.programming = none ∧ u8 q.body 0 = 4 ∧ carriesAny s = true ∧ q.force = true) ∧
    (∀ t0 : Fin 4, ∃ q c s, Runs 0x0D00 q c s ∧ s.bist.run = none ∧ s.lc.programming = none ∧ u8 q.body 0 = t0.val + 1 ∧ carriesAny s = false) ∧
    (∃ (s : State) (c : Cmd) (r : LcRun), Begun 0x0D00 c s ∧ s.lc.programming = some r) ∧
    (∃ q c s, Runs 0x0D01 q c s ∧ u8 q.body 0 < 50 ∧ s.bist.run ≠ none) ∧
    (∃ q c s, Runs 0x0D01 q c s ∧ u8 q.body 0 < 50 ∧ s.bist.run = none ∧ s.dev.isolated.getLsbD (u8 q.body 0) = true) ∧
    (∃ q c s, Runs 0x0D01 q c s ∧ s.bist.run = none ∧ s.dev.isolated.getLsbD (u8 q.body 0) = false ∧ u8 q.body 0 < 16 ∧
      locked (u8 q.body 0) s = true) ∧
    (∃ q c s, Runs 0x0D01 q c s ∧ s.bist.run = none ∧ s.dev.isolated.getLsbD (u8 q.body 0) = false ∧ 16 ≤ u8 q.body 0 ∧ u8 q.body 0 < 50 ∧
      testable (u8 q.body 0) s = false ∧ q.force = false) ∧
    (∃ q c s, Runs 0x0D01 q c s ∧ s.bist.run = none ∧ s.dev.isolated.getLsbD (u8 q.body 0) = false ∧ u8 q.body 0 < 50 ∧
      ¬ (u8 q.body 0 < 16 ∧ locked (u8 q.body 0) s = true) ∧ testable (u8 q.body 0) s = true) ∧
    (∃ (s : State) (c : Cmd) (r : BistRun), Begun 0x0D01 c s ∧ Plain s ∧ (∀ d, (s.domain d).phase ≠ .stopping) ∧
      s.bist.run = some r ∧ r.rest = [] ∧ 16 ≤ r.block ∧ s.lc.state = 3 ∧
      r.failed = 0 ∧ (∃ sig : Word, sig ≠ Config.bistSignature r.block (if r.full then 2 else 1)) ∧
      ∃ sig : Word, sig = Config.bistSignature r.block (if r.full then 2 else 1)) ∧
    (∃ s : State, On s ∧ padsOwned s = false ∧ s.lc.state = 0) ∧ (∃ s : State, On s ∧ s.lc.state ≠ 0 ∧ s.lc.state ≠ 3) ∧
    (∃ s : State, On s ∧ padsOwned s = true ∧ s.dev.outputs.getLsbD 3 = true ∧ s.pwr.padsLatched = false) :=
  ⟨⟨_, _, _, runs 0x0D00 (req 0) { ready with bist := { run := some { block := 0, full := false } } }, by decide⟩,
   ⟨_, _, _, runs 0x0D00 (req 0) { ready with lc := { programming := some { target := 1 } } }, by decide⟩,
   ⟨_, _, _, runs 0x0D00 (req 0 [3]) { inst0 (fun x => { x with st := 0x51 }) with lc := {} }, by decide +kernel⟩,
   ⟨_, _, _, runs 0x0D00 { index := 0, payload := [4], flags := 2 } { inst0 (fun x => { x with st := 0x51 }) with lc := {} }, by decide +kernel⟩,
   fun t0 => ⟨_, _, _, runs 0x0D00 (req 0 [BitVec.ofNat 8 (t0 + 1)]) { ready with lc := {} }, by decide +revert +kernel⟩,
   ⟨_, _, _, begins 0x0D00 (req 0) { ready with lc := { programming := some { target := 1 } } }, rfl⟩,
   ⟨_, _, _, runs 0x0D01 (req 0) { ready with bist := { run := some { block := 0, full := false } } }, by decide⟩,
   ⟨_, _, _, runs 0x0D01 (req 0) { ready with dev := { quill := 3, isolated := 1 } }, by decide⟩,
   ⟨_, _, _, runs 0x0D01 (req 0) { ready with tbl := { ready.tbl with leases := [{ id := 1, owner := 0, remaining := 64, taken := 0, blocks := 1 }] } }, by decide⟩,
   ⟨_, _, _, runs 0x0D01 (req 0 [49]) ready, by decide⟩, ⟨_, _, _, runs 0x0D01 (req 0 [15]) ready, by decide⟩,
   ⟨_, _, { block := 16, full := false }, begins 0x0D01 (req 0) { ready with bist := { run := some { block := 16, full := false } }, lc := { state := 3 } }, plain _,
    fun _ => (by decide : DomPhase.on ≠ .stopping), rfl, rfl, by decide, rfl, rfl, ⟨Config.bistSignature 16 1 + 1, by simp⟩, _, rfl⟩,
   ⟨{ ready with lc := {} }, on _, by decide⟩, ⟨{ ready with lc := { state := 2 } }, on _, by decide⟩,
   ⟨{ ready with jtag := 4, dev := { quill := 3, outputs := 8 } }, on _, by decide⟩⟩

/-! ## Hypotheses of the statements about the device -/

theorem witness_RegisterAccessRowsTakeEffect :
    (∃ s : State, Reaches .pcie s ∧ addrDefined .bar0 0x3FFFFC s = false ∧ addrDefined .bar0 0x1022 s = true) ∧
    (∃ (s : State) (k : Nat), Reaches .spi s ∧ 4096 * s.cnt.winBase.toNat ≤ k ∧ k < 4096 * s.cnt.winBase.toNat + 4096 ∧ k % 2 = 1 ∧
      SMap.get false s.cnt.chained (k - 1) = false) ∧
    (∃ (s : State) (k : Nat), Reaches .spi s ∧ 4096 * s.cnt.winBase.toNat ≤ k ∧ k < 4096 * s.cnt.winBase.toNat + 4096 ∧ k % 2 = 0) ∧
    (∃ (s : State) (k : Nat), Reaches .bar4 s ∧ s.dev.ctrl.getLsbD 2 = false ∧ 16384 * s.cnt.userBase.toNat ≤ k ∧
      k < 16384 * s.cnt.userBase.toNat + 16384) ∧
    (∃ s : State, Awake s ∧ s.dev.quill = 3 ∧ s.evt.turnedAt ≠ clockNo s ∧ s.evt.errTurnedAt ≠ clockNo s ∧ (1 : Word).getLsbD 0 = true) ∧
    (∃ (s : State) (r : Rec) (rest : List Rec), Awake s ∧ s.dev.quill ≠ 0 ∧ s.evt.turnedAt = clockNo s ∧ s.evt.turned = r :: rest) ∧
    (∃ (s : State) (r : Rec) (rest : List Rec), Awake s ∧ s.dev.quill ≠ 0 ∧ s.evt.errTurnedAt = clockNo s ∧ s.evt.errTurned = r :: rest) ∧
    (∃ s : State, Awake s ∧ s.dev.quill ≠ 0 ∧ s.dev.quill ≠ 3) :=
  ⟨⟨ready, reaches .pcie _, by decide⟩, ⟨ready, 4095, reaches .spi _, by decide⟩,
   ⟨ready, 4094, reaches .spi _, by decide⟩,
   ⟨ready, _, reaches .bar4 _, by decide, Nat.le_refl _, Nat.lt_add_of_pos_right (by decide)⟩, ⟨ready, awake _, by decide⟩,
   ⟨{ ready with evt := { turnedAt := 1, turned := [⟨0, 0, 0, 0, 0, 0⟩] } }, _, _, awake _, by decide, by decide, rfl⟩,
   ⟨{ ready with evt := { errTurnedAt := 1, errTurned := [⟨0, 0, 0, 0, 0, 0⟩] } }, _, _, awake _, by decide, by decide, rfl⟩, ⟨{ ready with dev := { quill := 1 } }, awake _, by decide⟩⟩

/-- `ready` with a ring. -/
def ring (n : Nat) (r : Ring) : State := ready.setRing n r

/-- A ring of sixteen entries with one command in it. -/
def filled (n : Nat) : State := ring n { size := 16, enable := true, prod := 1 }

theorem witness_CommandTransportRowsTakeEffect :
    (∃ s : State, On s ∧ Awake s ∧ s.dev.quill ≠ 0 ∧ (s.ring 4).enable = false ∧ ringSizeOk (s.ring 4).size.toNat = true) ∧
    (∃ s : State, On s ∧ Awake s ∧ s.dev.quill ≠ 0 ∧ (s.ring 4).enable = false ∧ ringSizeOk (s.ring 4).size.toNat = false) ∧
    (∃ (s : State) (p : BitVec 12), On s ∧ s.dev.quill ≠ 0 ∧ (s.ring 0).enable = true ∧ (s.ring 0).stopped = false ∧ s.pwr.state = .awake ∧
      p.toNat < (s.ring 0).size.toNat ∧ ((s.ring 0).prod + (s.ring 0).size.toNat - (s.ring 0).cons) % (s.ring 0).size.toNat ≤
        (p.toNat + (s.ring 0).size.toNat - (s.ring 0).cons) % (s.ring 0).size.toNat) ∧
    (∃ (s : State) (p : BitVec 12), On s ∧ s.dev.quill ≠ 0 ∧ (s.ring 0).enable = true ∧ (s.ring 0).stopped = false ∧ s.pwr.state = .awake ∧
      (s.ring 0).size.toNat = p.toNat) ∧
    (∃ s : State, On s ∧ s.dev.quill ≠ 0 ∧ (s.ring 0).enable = true ∧ (s.ring 0).stopped = false ∧ s.pwr.state = .asleep) ∧
    (∃ s : State, On s ∧ canDispatch s = true ∧ nextSource s = none) ∧ (∃ s : State, On s ∧ canDispatch s = false) ∧
    (∃ s : State, On s ∧ canDispatch s = true ∧ nextSource s = some 3) ∧
    (∃ (s : State) (desc : Desc), On s ∧ canDispatch s = true ∧ nextSource s = some 0 ∧ desc.fetched = true ∧ desc.owner = true ∧ desc.length = 32) ∧
    (∃ (s : State) (d : Bytes), On s ∧ canDispatch s = true ∧ nextSource s = some 1 ∧ s.spi.mail = some d ∧ d.length ≠ 32 + u16 d 4) ∧
    (∃ (s : State) (desc : Desc) (r : Reply) (rest : List Reply), On s ∧ s.cmd.waiting = r :: rest ∧ replyReady s = true ∧
      desc.fetched = true ∧ desc.owner = true ∧ 32 ≤ desc.length) ∧
    (∃ (s : State) (desc : Desc) (q : Nat) (f : Frame) (rest : List Frame), On s ∧ s.cmd.waiting = [] ∧ replyReady s = true ∧ hostQueue s = (some q, s) ∧
      (s.queue q).frames = f :: rest ∧ desc.fetched = true ∧ desc.owner = true ∧ 32 ≤ desc.length ∧
      (packetBytes f false).length ≤ desc.length) ∧
    (∃ s : State, On s ∧ s.dev.quill = 3 ∧ s.dev.ctrl.getLsbD 1 = true ∧ s.pwr.state = .awake ∧ s.spi.cmdFree = true ∧ s.spi.replies = []) ∧
    (∃ (s : State) (r : Reply) (rest : List Reply), On s ∧ s.dev.quill = 3 ∧ s.dev.ctrl.getLsbD 1 = true ∧ s.pwr.state = .awake ∧
      s.spi.cmdFree = false ∧ s.spi.replies = r :: rest) ∧
    (∃ (s : State) (x : Nonce), On s ∧ s.cmd.nonceRings = some x ∧ s.cmd.nonceSpi = none ∧ s.role.nonce = none ∧ 512 ≤ ticksSince x.tick s) ∧
    (∃ (s : State) (x : Nonce), On s ∧ s.cmd.nonceRings = some x ∧ s.cmd.nonceSpi = none ∧ s.role.nonce = none ∧ ticksSince x.tick s < 512) ∧
    (∃ (s : State) (addr : Nat), On s ∧ Reaches .pcie s ∧ addrDefined .bar0 addr s = false ∧ addr % 4 = 0) ∧
    (∃ s : State, On s ∧ Awake s ∧ s.dev.quill = 3) :=
  ⟨⟨ring 4 { size := 4096 }, on _, awake _, by decide⟩, ⟨ring 4 { size := 17 }, on _, awake _, by decide⟩,
   ⟨filled 0, 15, on _, by decide⟩, ⟨filled 0, 16, on _, by decide⟩, ⟨{ filled 0 with pwr := { state := .asleep } }, on _, by decide⟩,
   ⟨ready, on _, by decide⟩, ⟨{ ready with dev := { quill := 1 } }, on _, by decide⟩,
   ⟨filled 1, on _, by decide⟩, ⟨filled 0, { length := 32 }, on _, by decide⟩, ⟨{ ready with spi := { mail := some [] } }, [], on _, by decide⟩,
   ⟨{ filled 4 with cmd := { waiting := [{ op := 0, tag := 0, status := .ok, detail := 0, tick := 0, payload := [], src := .spi }] } }, { length := 32 }, _, _,
    on _, rfl, by decide⟩,
   ⟨(filled 4).setQueue 12288 { frames := [{}] }, { length := 32 }, 12288, {}, [], on _, rfl, by decide, rfl, rfl, by decide⟩,
   ⟨ready, on _, by decide⟩,
   ⟨{ ready with spi := { cmdFree := false, replies := [{ op := 0, tag := 0, status := .ok, detail := 0, tick := 0, payload := [], src := .spi }] } },
    _, _, on _, rfl, rfl, rfl, rfl, rfl⟩,
   ⟨{ ready with cmd := { nonceRings := some { value := [], tick := 0 } }, clk := { tick := 512 } }, _, on _, rfl, rfl, rfl, by decide⟩,
   ⟨{ ready with cmd := { nonceRings := some { value := [], tick := 0 } }, clk := { tick := 511 } }, _, on _, rfl, rfl, rfl, by decide⟩,
   ⟨ready, 0x3FFFFC, on _, reaches .pcie _, by decide⟩, ⟨ready, on _, awake _, rfl⟩⟩

theorem witness_DeviceCommandsAnswer :
    (∃ q c s, Runs 0x0100 q c s ∧ s.cmd.pendingSet = []) ∧ (∃ q c s, Runs 0x0101 q c s) ∧ (∃ q c s, Runs 0x0102 q c s ∧ s.pwr.padsLatched = true) ∧
    (∃ q c s, Runs 0x0102 q c s ∧ s.pwr.padsLatched = false) ∧
    (∃ q c s, Runs 0x0103 q c s ∧ u8 q.body 0 < 5 ∧ pairActive s = true ∧ q.force = false) ∧
    (∃ q c s, Runs 0x0103 q c s ∧ u8 q.body 0 < 5 ∧ pairActive s = false ∧ (∀ i : Fin 4, (s.inst i).inO5 = false) ∧
      s.dev.resetting.getLsbD (u8 q.body 0) = true) ∧
    (∃ q c s, Runs 0x0103 q c s ∧ u8 q.body 0 < 5 ∧ (∃ i : Fin 4, (s.inst i).inO5 = true) ∧ q.force = false) ∧
    (∃ q c s, Runs 0x0103 q c s ∧ u8 q.body 0 < 5 ∧ q.force = true ∧ s.dev.resetting.getLsbD (u8 q.body 0) = false) ∧
    (∃ q c s, Runs 0x0104 q c s ∧ s.cmd.pendingSet.find? (fun e => e.req.atTick && decide (e.req.tag = u16 q.body 0) && fromSource (u8 q.body 2) e) = none) ∧
    (∃ q c s e, Runs 0x0104 q c s ∧
      s.cmd.pendingSet.find? (fun e => e.req.atTick && decide (e.req.tag = u16 q.body 0) && fromSource (u8 q.body 2) e) = some e) :=
  ⟨⟨_, _, _, runs 0x0100 (req 0) ready, rfl⟩, ⟨_, _, _, runs 0x0101 (req 0) ready⟩,
   ⟨_, _, _, runs 0x0102 (req 0) { ready with pwr := { padsLatched := true } }, rfl⟩, ⟨_, _, _, runs 0x0102 (req 0) ready, by decide⟩,
   ⟨_, _, _, runs 0x0103 (req 0 [4]) { ready with pair := { enable := true, state := 1 } }, by decide⟩,
   ⟨_, _, _, runs 0x0103 (req 0 [4]) { ready with dev := { quill := 3, resetting := 16 } }, by decide⟩,
   ⟨_, _, _, runs 0x0103 (req 0) (inst0 fun x => { x with st := 0x51 }), by decide, ⟨0, by decide⟩, by decide⟩,
   ⟨_, _, _, runs 0x0103 { flags := 2, payload := [4] } ready, by decide⟩, ⟨_, _, _, runs 0x0104 (req 0) ready, by decide⟩,
   ⟨_, _, _, _, runs 0x0104 (req 0) { ready with cmd := { pendingSet := [{ op := 0x0100, req := { flags := 4 } }] } }, rfl⟩⟩

theorem witness_CounterCommandsAnswer :
    (∃ q c s, Runs 0x0E00 q c s) ∧
    (∃ q c s, Runs 0x0E01 q c s ∧ u8 q.body 4 = 0 ∧ SMap.get false s.cnt.chained (u32 q.body 0) = false ∧ s.cmd.waiting.length < 63) ∧
    (∃ q c s, Runs 0x0E01 q c s ∧ u8 q.body 4 ≠ 0) ∧
    (∃ (q : CmdReq) (c : Cmd) (s : State) (k m : Nat), Runs 0x0E02 q c s ∧ hasTurn 3 [34] s = true ∧ s.cmd.waiting.length < 63 ∧
      u32 q.body 0 ≤ k ∧ k < u32 q.body 0 + u32 q.body 4 ∧ s.notes = [(incrementNotes + k, { clock := clockNo s, added := m })]) ∧
    (∃ q c s, Runs 0x0E02 q c s ∧ hasTurn 3 [34] s = false ∧ breachesRank 3 [34] s = false) ∧
    (∃ q c s, Runs 0x0E02 q c s ∧ hasTurn 3 [34] s = false ∧ breachesRank 3 [34] s = true) ∧
    (∃ q c s, Runs 0x0E03 q c s ∧ hasTurn 3 [34] s = true ∧ bit (u8 q.body 6) 0 = true ∧ s.cmd.waiting.length < 63) ∧
    (∃ q c s, Runs 0x0E03 q c s ∧ hasTurn 3 [34] s = true ∧ bit (u8 q.body 6) 0 = false) ∧
    (∃ q c s, Runs 0x0E03 q c s ∧ hasTurn 3 [34] s = false ∧ breachesRank 3 [34] s = false) ∧
    (∃ q c s, Runs 0x0E03 q c s ∧ hasTurn 3 [34] s = false ∧ breachesRank 3 [34] s = true) ∧
    (∃ q c s, Runs 0x0E04 q c s ∧ u16 q.body 0 ≠ s.bw.windowTicks) ∧ (∃ q c s, Runs 0x0E04 q c s ∧ u16 q.body 0 = s.bw.windowTicks) := by
  let frozen : State := { ready with mem := { frozen := 2 ^ 34 } }
  let held : State := { ready with mem := { grants := [{ port := 3, targets := [34], use := .bulk, sincePs := 0 }] } }
  exact ⟨⟨_, _, _, runs 0x0E00 (req 0) ready⟩, ⟨_, _, _, runs 0x0E01 (req 0) ready, by decide⟩, ⟨_, _, _, runs 0x0E01 (req 0 [0, 0, 0, 0, 1]) ready, by decide⟩,
    ⟨_, _, _, 5, 7, runs 0x0E02 (req 0 [5, 0, 0, 0, 1]) { ready with notes := [(incrementNotes + 5, { clock := 1, added := 7 })] }, by decide⟩,
    ⟨_, _, _, runs 0x0E02 (req 0) frozen, by decide⟩, ⟨_, _, _, runs 0x0E02 (req 0) held, by decide⟩,
    ⟨_, _, _, runs 0x0E03 (req 0 [0, 0, 0, 0, 2, 0, 1]) ready, by decide⟩, ⟨_, _, _, runs 0x0E03 (req 0) ready, by decide⟩,
    ⟨_, _, _, runs 0x0E03 (req 0) frozen, by decide⟩, ⟨_, _, _, runs 0x0E03 (req 0) held, by decide⟩,
    ⟨_, _, _, runs 0x0E04 (req 0) ready, by decide⟩, ⟨_, _, _, runs 0x0E04 (req 0 [0x40, 0x1F]) ready, by decide⟩⟩

theorem witness_TickAndFaultRowsTakeEffect :
    (∃ (s : State) (p : Nat), On s ∧ s.clk.state = .free ∧ s.clk.alignAtPs = none ∧ s.hotPs = some p ∧
      p + 100000000 ≤ max s.clk.nowPs (s.clk.t0Ps + tickPs)) ∧
    (∃ s : State, On s ∧ s.clk.state = .locked ∧ s.clk.alignAtPs = none ∧ s.clk.channel < 4 ∧ s.pwr.state ≠ .asleep) ∧
    (∃ s : State, On s ∧ itemOpen 1 s = false) ∧ (∃ s : State, On s ∧ s.clk.overrunNow.contains 11 = true) ∧
    (∃ s : State, On s ∧ itemOpen 8 s = true ∧ s.clk.overrunNow.contains 8 = false ∧ SMap.get 0 s.clk.overrunRun 8 + 1 < 16) ∧
    (∃ s : State, On s ∧ itemOpen 8 s = true ∧ s.clk.overrunNow.contains 8 = false ∧ SMap.get 0 s.clk.overrunRun 8 = 15 ∧ itemRegion 8 = 5 ∧
      s.fatal.asserted = false) ∧
    (∃ s : State, On s ∧ Due 8 s ∧ tickDiff s.clk.tick s.bw.base % (max 1 s.bw.windowTicks : Nat) = 0) ∧
    (∃ s : State, On s ∧ Due 8 s ∧ s.bw.ended = true) ∧
    (∃ s : State, On s ∧ Due 8 s ∧ tickDiff s.clk.tick s.bw.base % (max 1 s.bw.windowTicks : Nat) ≠ 0 ∧
      s.bw.ended = false) ∧
    (∃ (s : State) (u : FaultUnit), On s ∧ Plain s ∧ u.spare = true ∧ s.bist.run = none) ∧
    (∃ (s : State) (u : FaultUnit) (key : Nat), On s ∧ Plain s ∧ u.spare = false ∧ 26 ≤ u.block ∧ u.block < 34 ∧
      key = (u.region.val * 64 + u.block % 64) * 2 ^ 32 + (u.group % 256 * 2 ^ 24 + u.cell % 65536) ∧ s.dev.faulted.contains key = false) ∧
    (∃ (s : State) (u : FaultUnit) (key : Nat), On s ∧ Plain s ∧ u.spare = false ∧ 26 ≤ u.block ∧ u.block < 34 ∧
      key = (u.region.val * 64 + u.block % 64) * 2 ^ 32 + (u.group % 256 * 2 ^ 24 + u.cell % 65536) ∧ s.dev.faulted.contains key = true ∧
      SMap.get false s.mem.bankSpare (u.block - 26) = false) ∧
    (∃ s : State, On s ∧ s.hotPs = none ∧ s.fatal.asserted = false) ∧
    (∃ (s : State) (p at_ : Nat), On s ∧ s.hotPs = some p ∧ at_ = max s.clk.nowPs (p + 100000000) ∧ s.fatal.asserted = true) ∧
    (∃ (s : State) (r : Fin 5) (c : Cmd), On s ∧ Begun 0x0103 c s ∧ s.dev.resetting.getLsbD r = true ∧ u8 c.req.body 0 = r ∧ (r = 1 ∨ r = 2)) :=
  ⟨⟨{ ready with hotPs := some 25000000 }, _, on _, rfl, rfl, rfl, by decide⟩, ⟨{ ready with clk := { state := .locked, channel := 3 } }, on _, by decide⟩,
   ⟨ready, on _, by decide⟩, ⟨{ ready with clk := { overrunNow := [11] } }, on _, by decide⟩,
   ⟨{ ready with clk := { overrunRun := [(8, 14)] } }, on _, by decide⟩, ⟨{ ready with clk := { overrunRun := [(8, 15)] } }, on _, by decide⟩,
   ⟨ready, on _, due 8 _, by decide⟩, ⟨{ ready with clk := { tick := 1 }, bw := { ended := true } }, on _, due 8 _, rfl⟩,
   ⟨{ ready with clk := { tick := 1 } }, on _, due 8 _, by decide⟩,
   ⟨ready, { spare := true }, on _, plain _, by decide⟩, ⟨ready, { block := 33 }, _, on _, plain _, rfl, by decide, by decide, rfl, by decide⟩,
   ⟨{ ready with dev := { quill := 3, faulted := [26 * 2 ^ 32 + 0xFF * 2 ^ 24] } }, { block := 26 }, _, on _, plain _, rfl, by decide, by decide,
    rfl, by decide⟩,
   ⟨ready, on _, by decide⟩, ⟨{ ready with hotPs := some 0, fatal := { asserted := true } }, 0, _, on _, rfl, rfl, rfl⟩,
   ⟨_, 2, _, on _, begins 0x0103 (req 0 [2]) { ready with dev := { quill := 3, resetting := 4 } }, by decide⟩⟩

theorem witness_ResetRowsTakeEffect :
    (∃ s : State, s.hot.powered = true ∧ s.boot.inReset = true ∧ s.lc.programming = none) ∧ (∃ s : State, s.hot.powered = false) ∧
    (∃ s : State, On s ∧ s.fatal.asserted = true) ∧ (∃ s : State, On s ∧ s.mem.grants = [] ∧ s.cmd.executing = [] ∧ s.tbl.leases = []) :=
  ⟨⟨{ ready with boot := { inReset := true }, lc := {} }, rfl, rfl, rfl⟩, ⟨{ ready with hot := { powered := false } }, rfl⟩,
   ⟨{ ready with fatal := { asserted := true } }, on _, rfl⟩, ⟨ready, on _, rfl, rfl, rfl⟩⟩

/-- A chunk of one byte, and the data blocks in which it comes. -/
def chunk (n : BitVec 16) : FrameFields := { length := 1, kind := 1, subPort := n }
def chunkField (n : BitVec 16) : Bytes := [9] ++ checkField (bodyOf (chunk n)) [9] none

theorem witness_BootAndInsertionRowsTakeEffect :
    (∃ s : State, Reaches .pcie s ∧ s.dev.quill = 1 ∧ pathPermitted .pcie s = true) ∧ (∃ s : State, Reaches .pcie s ∧ s.dev.quill = 3) ∧
    (∃ s : State, On s ∧ pathPermitted .manager s = true ∧ mapiynLane 0 s = true ∧ s.dev.quill = 1 ∧
      openField (bodyOf (chunk 0)) (chunk 0).length.toNat (chunkField 0) none = some [9] ∧ s.boot.manager = none) ∧
    (∃ (s : State) (d : Delivery), On s ∧ pathPermitted .manager s = true ∧ mapiynLane 0 s = true ∧ s.dev.quill = 4 ∧
      openField (bodyOf (chunk 1)) (chunk 1).length.toNat (chunkField 1) none = some [9] ∧ s.boot.manager = some d ∧ d.complete = false ∧
      d.next = 1) ∧
    (∃ s : State, On s ∧ pathPermitted .manager s = true ∧ mapiynLane 0 s = true ∧ s.dev.quill = 1 ∧
      openField (bodyOf (chunk 0)) (chunk 0).length.toNat [] none = none) ∧
    (∃ (s : State) (d : Delivery), On s ∧ pathPermitted .manager s = true ∧ mapiynLane 0 s = true ∧ s.dev.quill = 1 ∧
      s.boot.manager = some d ∧ d.next ≠ (chunk 0).subPort.toNat) ∧
    (∃ (s : State) (d : Delivery), On s ∧ s.boot.manager = some d ∧ d.complete = true ∧ s.dev.quill = 1 ∧ imageFault d.data = some 1 ∧
      s.boot.fetching = true ∧ hasTurn 1 hostRead_ s = true) ∧
    (∃ s : State, On s ∧ s.boot.fetching = true ∧ hasTurn 1 hostRead_ s = true ∧ s.dev.quill = 4 ∧ imageFault (fit s.boot.length []) = some 1) ∧
    (∃ s : State, On s ∧ s.dev.quill = 2) ∧ (∃ s : State, s.hot.powered = false ∧ s.hot.lastTrip = none) ∧
    (∃ s : State, s.hot.powered = false ∧ s.hot.lastTrip = some .current) ∧ (∃ s : State, s.hot.powered = true ∧ s.lc.programming = none) ∧
    (∃ s : State, s.hot.powered = true ∧ s.hot.recognised = false ∧ s.dev.quill ≠ 3) ∧
    (∃ s : State, s.hot.recognised = true ∧ s.hot.quiesced = false ∧ pairActive s = false ∧ s.hot.held = []) ∧
    (∃ (s : State) (field : Bytes), s.hot.held = [(0, 0, field)] ∧ (s.lane 0).transmits = true ∧ laneCarries 0 (.mapiyn 0 0 field) s = true) := by
  let fed (quill : Nat) (d : Option Delivery) : State :=
    { lane 0 { state := .locked } with dev := { quill, role := 2, bootSrc := 1 }, boot := { perst := false, manager := d, fetching := true } }
  exact ⟨⟨{ ready with dev := { quill := 1 } }, reaches .pcie _, by decide⟩, ⟨ready, reaches .pcie _, rfl⟩,
    ⟨fed 1 none, on _, by decide, by decide, rfl, by decide +kernel, rfl⟩,
    ⟨fed 4 (some { next := 1, data := [], complete := false }), _, on _, by decide, by decide, rfl, by decide +kernel, rfl, rfl, rfl⟩,
    ⟨fed 1 none, on _, by decide, by decide, rfl, by decide +kernel⟩,
    ⟨fed 1 (some { next := 1, data := [], complete := false }), _, on _, by decide, by decide, rfl, rfl, by decide⟩,
    ⟨fed 1 (some { next := 2, data := [], complete := true }), _, on _, rfl, rfl, rfl, by decide, rfl, by decide⟩,
    ⟨fed 4 none, on _, rfl, by decide, rfl, by decide⟩,
    ⟨{ ready with dev := { quill := 2 } }, on _, rfl⟩, ⟨{ ready with hot := { powered := false } }, rfl, rfl⟩,
    ⟨{ ready with hot := { powered := false, lastTrip := some .current } }, rfl, rfl⟩, ⟨{ ready with lc := {} }, rfl, rfl⟩,
    ⟨{ ready with dev := { quill := 1 } }, rfl, rfl, by decide⟩, ⟨{ ready with hot := { recognised := true } }, rfl, rfl, by decide, rfl⟩,
    ⟨{ ready with hot := { held := [(0, 0, [])] } }, _, rfl, by decide, by decide⟩⟩
/-! ## Worked examples of the manual -/

/-- 00 R8: 0x0000_0010 − 0xFFFF_FFF0 is +32 ticks. -/
theorem test_tick_difference : tickDiff 0x00000010 0xFFFFFFF0 = 32 := by decide

/-- 13, "checking the window": the AES-128 zero key has KCV 0x66_E94B. -/
theorem test_kcv_of_the_zero_key : kcvOf { loaded := true, key := zeros 32 } = 0x66E94B := by decide +kernel

/-- 09 Table 9.9: the first underrun of a port whose MAX_FRAME is 9,600 raises TX_THRESHOLD from 256 to 384; the line is free 1.28 ns later. -/
theorem test_first_underrun :
    (match exec (.macTxUnderrun 1) { ready.setMac 1 { cfg := { mode := 1 }, sending := some {} } with egressFree := [(33, 1000)] } with
      | .next t => ((t.mac 1).threshold, SMap.get 0 t.egressFree 33) | _ => (0, 0)) = (384, 1280) := by decide +kernel

/-- 08 Table 8.3: after 1,200 ns at 1.25 bytes per ns a CREDIT of −1,496 is +4; the wheel slot of −1,496 at 18,000 ns is at 19,200 ns. -/
theorem test_shaper_example : ∀ sh : Shaper, sh = { cfg := { rate := 10000000, burst := 3000 }, credit := -1496 * 65536, atPs := 18000000 } →
    sh.creditAt 19200000 = 4 * 65536 ∧ (sh.onWheel 18000000).wheel = some 19200000 := by rintro _ rfl; decide

/-- 18, "a 64-bit frame count": the low counter of a chained pair wraps and carries, without OVF. -/
theorem test_chained_carry : ∀ s : State, s = addCounter 20868 1 { ready with cnt := { chained := [(20868, true)], value := [(20868, 0xFFFFFFFF)] } } →
    SMap.get 0 s.cnt.value 20868 = 0 ∧ SMap.get 0 s.cnt.value 20869 = 1 ∧ s.cnt.ovf = [] ∧ s.evt.fifo = [] := by rintro _ rfl; decide +kernel

/-- 12, "starting an external converter": the target lies 1,399,990,000 ns ahead of TB0. -/
theorem test_comparator_example : comparatorD (timeOfFields 1738000000 0 0) (timeOfFields 1737999998 600010000 0) = 1399990000 := by decide

/-- A group of instances 0 and 1 with NEXT_SEQ 0x0_1F41 that holds fragment 0x0_1F42 (04 Table 4.8 at T0 + 2,600 ns). -/
def reorder : State :=
  { ready with
    insts := [(0, { sync := { state := 2 }, ports := [(7, { bound := true, bonded := true, flowTag := 3 })] }),
              (1, { sync := { state := 2 }, ports := [(7, { bound := true, bonded := true, flowTag := 3 })] })]
    clk := { nowPs := 3100000 }
    lig := { phase := .active, members := [0, 1], dsNext := 0x1F41, lastSeq := [(0, some 0x1F42)], lastPs := [(0, 2600000), (1, 1800000)]
             held := [{ seq := 0x1F42, first := true, last := true, member := 0, atPs := 2600000, port := 7, data := [2] }] } }

/-- 04 Table 4.8, T0 + 3,100 ns: CP1's 0x0_1F41 is released and the held 0x0_1F42 after it. -/
theorem test_reorder_release :
    (match exec (.ligFragmentArrival 1 7 { seq := 0x1F41, first := true, last := true } [1]) reorder with
      | .next t => (t.lig.dsNext, t.lig.held.length, t.waitDown.map (fun f => f.data)) | _ => (0, 0, [])) = (0x1F43, 0, [[1], [2]]) := by
  decide +kernel

/-- 04 Table 4.8, T0 + 40,000 ns: CP1's 0x0_1F43 comes after NEXT_SEQ has reached 0x0_1F45 and is late. -/
theorem test_reorder_late :
    (match exec (.ligFragmentArrival 1 7 { seq := 0x1F43, first := true, last := false } [1])
        { reorder with lig := { reorder.lig with dsNext := 0x1F45, held := [] } } with
      | .next t => (t.lig.dsNext, t.waitDown.length, SMap.get 0 t.cnt.value (Ctr.ligDsLate.index 0)) | _ => (0, 0, 0)) = (0x1F45, 0, 1) := by
  decide +kernel

/-- 11 Table 11.2, 290.5 µs: the third hit of candidate B brings port 3 in frame at B's offset. -/
theorem test_hunting_example : ∀ r : Trib × List HuntEvent, r = Trib.huntBit 1
      { align := 1, bitNo := 404, shift := framing / 2, cands := [{ pos := 405, hits := 2 }] } false →
    (r.1.align, r.1.offset, r.2) = (2, 405, [.locked]) := by rintro _ rfl; decide

/-- OUTPUTS_ENABLE as the second command of 02 Table 2.16 sends it. -/
def lateCommand : CmdReq := { src := .ring 1, tag := 0x52, flags := 5, execTick := 0x30D3F, payload := [13, 0, 0, 0, 0, 0, 0, 0] }

/-- 02 Table 2.16: SET_MASK 0xD, dispatched late in tick 0x0003_0D41, answers OK with DETAIL 0x0000_0001 and ENABLED 0x0000_000D. -/
theorem test_late_command :
    (match exec (.outputsEnable lateCommand) { ready with
        clk := { tick := 0x30D41 }, cmd := { executing := [{ op := 0x0102, req := lateCommand, late := true }] } } with
      | .next t => t.cmd.waiting | _ => []) =
    [{ op := 0x0102, tag := 0x52, status := .ok, detail := 1, tick := 0x30D41, payload := [13, 0, 0, 0], src := .ring 1 }] := by
  decide +kernel

end Sys2Proof.Tests
end

section
/-!
PROOFS. Rows on a part that is on: what a step of the part's own answers where it leaves the queue, the supply and RESET# (19 R415, R421).
-/

namespace Sys2Proof.Machine

/-- A step that computes t and leaves the outer state answers t. -/
theorem live_eq {s t : State} {f : State → State} (h : On s) (hf : f s = t) (ho : Outer s t) : live f s = t := by
  rw [live_on h, hf, ho.keep]

/-- The same over a path that reaches the registers. -/
theorem via_eq {p : Path} {s t : State} {f : State → State} (h : Reaches p s) (hf : f s = t) (ho : Outer s t) : via p f s = t :=
  live_eq h.awake.on ((if_pos h.up).trans hf) ho

/-- The same over whichever path, once the ROM runs. -/
theorem served_eq {s t : State} {f : State → State} (h : On s) (hq : s.dev.quill ≠ 0) (hf : f s = t) (ho : Outer s t) : served f s = t :=
  live_eq h ((if_neg hq).trans hf) ho

/-- The same once firmware runs. -/
theorem ready_eq {s t : State} {f : State → State} (h : On s) (hq : s.dev.quill = 3) (hf : f s = t) (ho : Outer s t) : ready f s = t :=
  live_eq h ((if_pos hq).trans hf) ho

theorem Reaches.quill {p : Path} {s : State} (h : Reaches p s) : s.dev.quill ≠ 0 := by
  have := h.up
  simp only [pathUp, Bool.and_eq_true, decide_eq_true_eq] at this
  exact this.1

theorem emit_outer (o : Out) (s : State) : Outer s (emit o s) := ⟨rfl, rfl, rfl⟩

theorem setRing_outer (n : Nat) (r : Ring) (s : State) : Outer s (s.setRing n r) := ⟨rfl, rfl, rfl⟩

theorem setLatch_outer (p : Path) (l : Latch) (s : State) : Outer s (s.setLatch p l) := by
  cases p <;> exact ⟨rfl, rfl, rfl⟩

theorem answer_outer (p : Path) (a : Nat) (v : Word) (s : State) : Outer s (answer p a v s) := emit_outer _ s

end Sys2Proof.Machine
end

section
/-!
PROOFS. Read latches (00 R460): a read of a first word latches the others for its path, and they read as latched.
-/

namespace Sys2Proof.Machine

@[simp] theorem latch_setLatch_same (p : Path) (l : Latch) (s : State) : (s.setLatch p l).latch p = l := by cases p <;> rfl

theorem latch_setLatch_other {p p' : Path} (h : p' ≠ p) (l : Latch) (s : State) : (s.setLatch p l).latch p' = s.latch p' := by
  cases p <;> cases p' <;> simp_all [State.latch, State.setLatch]

@[simp] theorem latch_emit (p : Path) (o : Out) (s : State) : (emit o s).latch p = s.latch p := by cases p <;> rfl

@[simp] theorem setLatch_cnt (p : Path) (l : Latch) (s : State) : (s.setLatch p l).cnt = s.cnt := by cases p <;> rfl

/-! ## Reads of a first word -/

/-- The counter read, once it is inside its path's window (18 R408, R412). -/
theorem execCounterRead_inside {p : Path} {k : Nat} {s : State} (h : asleep s = false) (hl : (counterWindow p s).1 ≤ k)
    (hu : k < (counterWindow p s).1 + (counterWindow p s).2.1) (hb : p = .bar4 → s.dev.ctrl.getLsbD 2 = true) :
    execCounterRead p k s = readCounter p ((counterWindow p s).2.2 + 4 * (k - (counterWindow p s).1)) k s := by
  have hin : ¬ (k < (counterWindow p s).1 ∨ (counterWindow p s).1 + (counterWindow p s).2.1 ≤ k) := by omega
  have hopen : ¬ (p = .bar4 ∧ s.dev.ctrl.getLsbD 2 = false) := fun ⟨hp, hc⟩ => Bool.false_ne_true (hc.symm.trans (hb hp))
  simp only [execCounterRead, hin, if_false, hostRead_awake h, hopen]

theorem readCounter_outer (p : Path) (a k : Nat) (s : State) : Outer s (readCounter p a k s) := by
  unfold readCounter
  dsimp only
  split
  · exact (setLatch_outer _ _ _).trans (answer_outer _ _ _ _)
  · exact answer_outer _ _ _ _

/-- A read of an even counter answers its value and latches the counter after it. -/
theorem readCounter_even {k : Nat} (h : k % 2 = 0) (p : Path) (a : Nat) (s : State) :
    readCounter p a k s = answer p a (SMap.get 0 s.cnt.value k)
      (s.setLatch p { s.latch p with cntHigh := SMap.set 0 (s.latch p).cntHigh (k + 1) (SMap.get 0 s.cnt.value (k + 1)) }) := by
  simp [readCounter, counterSeen, h]

/-- A read of the odd half of a chained pair answers what was latched. -/
theorem readCounter_chained {k : Nat} {s : State} (h : k % 2 = 1) (hc : SMap.get false s.cnt.chained (k - 1) = true) (p : Path) (a : Nat) :
    readCounter p a k s = answer p a (SMap.get 0 (s.latch p).cntHigh k) s := by
  simp [readCounter, counterSeen, h, hc]

theorem counterRead_latches {p : Path} {k : Nat} {s : State} (h : Reaches p s) (hl : (counterWindow p s).1 ≤ k)
    (hu : k < (counterWindow p s).1 + (counterWindow p s).2.1) (hb : p = .bar4 → s.dev.ctrl.getLsbD 2 = true) :
    exec (.counterRead p k) s = .next (readCounter p ((counterWindow p s).2.2 + 4 * (k - (counterWindow p s).1)) k s) :=
  congrArg Host.Outcome.next (via_eq h (execCounterRead_inside h.awake.awake hl hu hb) (readCounter_outer _ _ _ _))

/-- A read of a first word over a path that reaches the registers: it is answered, and the others are latched. -/
theorem via_latchingRead {p : Path} {s : State} {f : State → State} {a : Nat} {v : Word} {l : Latch} (h : Reaches p s)
    (hf : f s = answer p a v (s.setLatch p l)) : via p f s = emit (.value p a v) (s.setLatch p l) :=
  via_eq h hf ((setLatch_outer _ _ _).trans (answer_outer _ _ _ _))

theorem tickCountRead_latches {p : Path} {s : State} (h : Reaches p s) :
    exec (.tickCountRead p) s = .next (emit (.value p 0x1004 s.clk.tick)
      (s.setLatch p { s.latch p with tickPhase := BitVec.ofNat 32 (tickPhase s) })) :=
  congrArg Host.Outcome.next (via_latchingRead h rfl)

theorem bwBytesLoRead_latches {p : Path} {s : State} (h : Reaches p s) (n : Fin 96) (b : BwTotal) (hb : b = SMap.get {} s.bw.closed n) :
    exec (.bwBytesLoRead p n) s = .next (emit (.value p (0xE1000 + 0x10 * n.val) (BitVec.ofNat 32 b.bytes)) (s.setLatch p { s.latch p with
      bwHi := SMap.set 0 (s.latch p).bwHi n (BitVec.ofNat 32 (min 65535 s.bw.closedTicks * 65536 + b.bytes / 2 ^ 32)),
      bwFrames := SMap.set 0 (s.latch p).bwFrames n (BitVec.ofNat 32 b.frames),
      bwEnd := SMap.set 0 (s.latch p).bwEnd n s.bw.closedAt })) := by
  subst hb
  exact congrArg Host.Outcome.next (via_latchingRead h (by simp only [execBwBytesLoRead, hostRead_awake h.awake.awake, bwClosed]))

theorem dsSfcLoRead_latches {p : Path} {s : State} (h : Reaches p s) (i : Fin 4) :
    exec (.dsSfcLoRead p i) s = .next (emit (.value p (0x10104 + 0x4000 * i.val) (BitVec.ofNat 32 (s.inst i).sync.sfc))
      (s.setLatch p { s.latch p with dsSfcHi := SMap.set 0 (s.latch p).dsSfcHi i (BitVec.ofNat 32 ((s.inst i).sync.sfc / 2 ^ 32)) })) :=
  congrArg Host.Outcome.next (via_latchingRead h (hostRead_awake h.awake.awake _ _ _))

theorem usNextTickRead_latches {p : Path} {s : State} (h : Reaches p s) (i : Fin 4) (ps : Nat) (hl : nextLaunch i s = some ps) :
    exec (.usNextTickRead p i) s = .next (emit (.value p (0x10208 + 0x4000 * i.val) (tickOf ps s).1)
      (s.setLatch p { s.latch p with usNextNs := SMap.set 0 (s.latch p).usNextNs i (BitVec.ofNat 32 (tickOf ps s).2) })) :=
  congrArg Host.Outcome.next (via_latchingRead h ((hostRead_awake h.awake.awake _ _ _).trans (by simp only [hl])))

theorem tbNsRead_latches {p : Path} {s : State} (h : Reaches p s) (n : Fin 8) :
    exec (.tbNsRead p n) s = .next
      (emit (.value p (0x80000 + 0x20 * n.val) (BitVec.ofNat 32 (tbNow n s / nsUnits % 1000000000))) (s.setLatch p { s.latch p with
        tbSecLo := SMap.set 0 (s.latch p).tbSecLo n (BitVec.ofNat 32 (tbNow n s / secUnits)),
        tbSecHi := SMap.set 0 (s.latch p).tbSecHi n
          (BitVec.ofNat 32 (tbNow n s % nsUnits * 65536 + tbNow n s / secUnits / 2 ^ 32)) })) :=
  congrArg Host.Outcome.next (via_latchingRead h (hostRead_awake h.awake.awake _ _ _))

/-- A read of an even counter answers it and latches the next one, for its path alone (18 R408). -/
theorem counterRead_even {p : Path} {k : Nat} {s : State} (h : Reaches p s) (hl : (counterWindow p s).1 ≤ k)
    (hu : k < (counterWindow p s).1 + (counterWindow p s).2.1) (hb : p = .bar4 → s.dev.ctrl.getLsbD 2 = true) (he : k % 2 = 0) :
    Completes (.counterRead p k) s fun t =>
      .value p ((counterWindow p s).2.2 + 4 * (k - (counterWindow p s).1)) (SMap.get 0 s.cnt.value k) ∈ t.out ∧
      SMap.get 0 (t.latch p).cntHigh (k + 1) = SMap.get 0 s.cnt.value (k + 1) ∧ (∀ p', p' ≠ p → t.latch p' = s.latch p') ∧
      t.cnt = s.cnt := by
  refine ⟨_, counterRead_latches h hl hu hb, ?_⟩
  rw [readCounter_even he]
  refine ⟨List.mem_cons_self, ?_, fun p' hp' => ?_, setLatch_cnt _ _ _⟩
  · rw [answer, latch_emit, latch_setLatch_same, SMap.get_set_same]
  · rw [answer, latch_emit, latch_setLatch_other hp']

/-! ## Second words over SPI -/

/-- An SPI read of a word that no read changes, and that is there, answers its value (02 R67). -/
theorem readWord_plain {p : Path} {a v : Nat} {s : State} (h : asleep s = false) (hs : readSpecial p a s = none)
    (hv : readPlain p a s = some v) : readWord p a s = emit (.value p a (BitVec.ofNat 32 v)) s := by
  unfold readWord
  rw [hs, hv]
  dsimp only
  rw [hostRead_awake h, ite_self]
  rfl

theorem execSpiRead_succ {a n : Nat} {s t : State} (ha : a % 4 = 0) (h : readWord .spi a s = t) :
    execSpiRead a (n + 1) s = execSpiRead (a + 4) n t := by
  simp [execSpiRead, ha, h]

theorem readPlain_fibre {a : Nat} (h : a / 0x10000 = 1) (p : Path) (s : State) : readPlain p a s = readFibre p (a % 0x10000) s := by
  simp [readPlain, h]

theorem readPlain_time {a : Nat} (h : a / 0x10000 = 8) (p : Path) (s : State) : readPlain p a s = readTime p (a % 0x10000) s := by
  simp [readPlain, h]

theorem readPlain_counters {a : Nat} (h : a / 0x10000 = 0xE) (p : Path) (s : State) :
    readPlain p a s = readCounters p (a % 0x10000) s := by
  simp [readPlain, h]

/-- The second words of the fibre registers (04 R114, 05 R141) latch nothing. -/
theorem readSpecial_fibre {a : Nat} (h : a / 0x10000 = 1) (k : Nat) (hk : a % 0x10000 % 0x4000 = k) (h1 : k ≠ 0x010) (h2 : k ≠ 0x104)
    (h3 : k ≠ 0x208) (p : Path) (s : State) : readSpecial p a s = none := by
  simp only [readSpecial, h]
  split
  · exact absurd ‹_› (by omega)
  · exact absurd ‹_› (by omega)
  · exact absurd ‹_› (by omega)
  · rfl

theorem readSpecial_time {a : Nat} (h : a / 0x10000 = 8) (hk : a % 0x20 ≠ 0) (p : Path) (s : State) : readSpecial p a s = none := by
  have hn : ¬ (a % 0x10000 < 0x100 ∧ a % 0x10000 % 0x20 = 0) := by omega
  simp only [readSpecial, h, hn, if_false]

theorem readSpecial_counters {a : Nat} (h : a / 0x10000 = 0xE) (h1 : a % 0x10000 < 0x4000) (hk : a % 0x10 ≠ 0) (p : Path) (s : State) :
    readSpecial p a s = none := by
  have h2 : ¬ (0x4000 ≤ a % 0x10000 ∧ a % 0x10000 < 0x8000) := by omega
  have h3 : ¬ (0x1000 ≤ a % 0x10000 ∧ a % 0x10000 < 0x1600 ∧ a % 0x10000 % 0x10 = 0) := by omega
  simp only [readSpecial, h, h2, h3, if_false]

/-- BW_BYTES_HI, BW_FRAMES and BW_WINDOW_END of a port read as latched for the path (18 R411). -/
theorem readCounters_latched {n k : Nat} (hn : n < 96) (hk : k = 4 ∨ k = 8 ∨ k = 0xC) (p : Path) (s : State) :
    readCounters p (0x1000 + 0x10 * n + k) s = some (SMap.get 0
      (if k = 4 then (s.latch p).bwHi else if k = 8 then (s.latch p).bwFrames else (s.latch p).bwEnd) n).toNat := by
  have hin : 0x1000 ≤ 0x1000 + 0x10 * n + k ∧ 0x1000 + 0x10 * n + k < 0x1600 := by omega
  have h0 : 0x1000 + 0x10 * n + k ≠ 0 := by omega
  have h4 : 0x1000 + 0x10 * n + k ≠ 4 := by omega
  have hp : (0x1000 + 0x10 * n + k - 0x1000) / 0x10 = n := by omega
  have hw : (0x1000 + 0x10 * n + k) % 0x10 = k := by omega
  simp only [readCounters, h0, h4, hin, hp, hw, if_false, if_true, and_self]
  rcases hk with rfl | rfl | rfl <;> rfl

/-- TB_SEC_LO and TB_SEC_HI of a timebase read as latched for the path (12 R319). -/
theorem readTime_latched {n k : Nat} (hn : n < 8) (hk : k = 4 ∨ k = 8) (p : Path) (s : State) :
    readTime p (0x20 * n + k) s = some (SMap.get 0 (if k = 4 then (s.latch p).tbSecLo else (s.latch p).tbSecHi) n).toNat := by
  have hin : 0x20 * n + k < 0x100 := by omega
  have hp : (0x20 * n + k) / 0x20 = n := by omega
  have hw : (0x20 * n + k) % 0x20 = k := by omega
  simp only [readTime, hin, hp, hw, if_true]
  rcases hk with rfl | rfl <;> rfl

/-- DS_SFC_HI and US_NEXT_NS of a fibre read as latched for the path (04 R114, 05 R141). -/
theorem readFibre_latched {i k : Nat} (hk : k = 0x108 ∨ k = 0x20C) (p : Path) (s : State) :
    readFibre p (0x4000 * i + k) s =
      some (SMap.get 0 (if k = 0x108 then (s.latch p).dsSfcHi else (s.latch p).usNextNs) i).toNat := by
  have hp : (0x4000 * i + k) / 0x4000 = i := by omega
  have hw : (0x4000 * i + k) % 0x4000 = k := by omega
  simp only [readFibre, hp, hw]
  rcases hk with rfl | rfl <;> rfl

/-- One word of an SPI read that reading does not change: it is answered as latched, and the read goes on at the next address (02 R67). -/
theorem execSpiRead_plain {a b n : Nat} {v : Word} {s : State} (h : asleep s = false) (ha : a % 4 = 0) (hb : b = a + 4)
    (hs : readSpecial .spi a s = none) (hv : readPlain .spi a s = some v.toNat) :
    execSpiRead a (n + 1) s = execSpiRead b n (emit (.value .spi a v) s) :=
  hb ▸ execSpiRead_succ ha ((readWord_plain h hs hv).trans (by rw [BitVec.ofNat_toNat, BitVec.setWidth_eq]))

theorem spiRead_bw {a b n k m : Nat} {s : State} (h : asleep s = false) (hn : n < 96) (hk : k = 4 ∨ k = 8 ∨ k = 0xC)
    (ha : a = 0xE1000 + 0x10 * n + k) (hb : b = a + 4) : execSpiRead a (m + 1) s = execSpiRead b m (emit (.value .spi a
      (SMap.get 0 (if k = 4 then s.latchSpi.bwHi else if k = 8 then s.latchSpi.bwFrames else s.latchSpi.bwEnd) n)) s) := by
  have hr : a / 0x10000 = 0xE := by omega
  have ho : a % 0x10000 = 0x1000 + 0x10 * n + k := by omega
  exact execSpiRead_plain h (by omega) hb (readSpecial_counters hr (by omega) (by omega) _ _)
    (by rw [readPlain_counters hr, ho]; exact readCounters_latched hn hk _ _)

theorem spiRead_time {a b n k m : Nat} {s : State} (h : asleep s = false) (hn : n < 8) (hk : k = 4 ∨ k = 8)
    (ha : a = 0x80000 + 0x20 * n + k) (hb : b = a + 4) : execSpiRead a (m + 1) s = execSpiRead b m (emit (.value .spi a
      (SMap.get 0 (if k = 4 then s.latchSpi.tbSecLo else s.latchSpi.tbSecHi) n)) s) := by
  have hr : a / 0x10000 = 8 := by omega
  have ho : a % 0x10000 = 0x20 * n + k := by omega
  exact execSpiRead_plain h (by omega) hb (readSpecial_time hr (by omega) _ _)
    (by rw [readPlain_time hr, ho]; exact readTime_latched hn hk _ _)

theorem spiRead_fibre {a b i k m : Nat} {s : State} (h : asleep s = false) (hi : i < 4) (hk : k = 0x108 ∨ k = 0x20C)
    (ha : a = 0x10000 + 0x4000 * i + k) (hb : b = a + 4) : execSpiRead a (m + 1) s = execSpiRead b m (emit (.value .spi a
      (SMap.get 0 (if k = 0x108 then s.latchSpi.dsSfcHi else s.latchSpi.usNextNs) i)) s) := by
  have hr : a / 0x10000 = 1 := by omega
  have ho : a % 0x10000 = 0x4000 * i + k := by omega
  exact execSpiRead_plain h (by omega) hb (readSpecial_fibre hr k (by omega) (by omega) (by omega) (by omega) _ _)
    (by rw [readPlain_fibre hr, ho]; exact readFibre_latched hk _ _)

theorem spiRead_tickPhase {m : Nat} {s : State} (h : asleep s = false) :
    execSpiRead 0x1008 (m + 1) s = execSpiRead 0x100C m (emit (.value .spi 0x1008 s.latchSpi.tickPhase) s) :=
  execSpiRead_plain h rfl rfl rfl rfl

/-- An SPI read over a path that reaches the registers answers what it computes. -/
theorem spiRead_eq {a n : Nat} {s t : State} (h : Reaches .spi s) (hf : execSpiRead a n s = t) (ho : Outer s t) :
    exec (.spiRead a n) s = .next t :=
  congrArg Host.Outcome.next (served_eq h.awake.on h.quill hf ho)

theorem spiRead_tickPhase_latched {s : State} (h : Reaches .spi s) :
    exec (.spiRead 0x1008 1) s = .next (emit (.value .spi 0x1008 s.latchSpi.tickPhase) s) :=
  spiRead_eq h (spiRead_tickPhase h.awake.awake) (emit_outer _ _)

theorem spiRead_bw_latched {s : State} (h : Reaches .spi s) (n : Fin 96) : exec (.spiRead (0xE1004 + 0x10 * n.val) 3) s = .next
    (emit (.value .spi (0xE100C + 0x10 * n.val) (SMap.get 0 s.latchSpi.bwEnd n))
      (emit (.value .spi (0xE1008 + 0x10 * n.val) (SMap.get 0 s.latchSpi.bwFrames n))
        (emit (.value .spi (0xE1004 + 0x10 * n.val) (SMap.get 0 s.latchSpi.bwHi n)) s))) := by
  have ha := h.awake.awake
  refine spiRead_eq h ?_ ⟨rfl, rfl, rfl⟩
  calc execSpiRead (0xE1004 + 0x10 * n.val) 3 s
    _ = execSpiRead (0xE1008 + 0x10 * n.val) 2 _ := spiRead_bw (k := 4) ha n.isLt (by decide) (by omega) (by omega)
    _ = execSpiRead (0xE100C + 0x10 * n.val) 1 _ := spiRead_bw (k := 8) ha n.isLt (by decide) (by omega) (by omega)
    _ = execSpiRead (0xE1010 + 0x10 * n.val) 0 _ := spiRead_bw (k := 0xC) ha n.isLt (by decide) (by omega) (by omega)

theorem spiRead_fibre_latched {s : State} (h : Reaches .spi s) (i : Fin 4) :
    exec (.spiRead (0x10108 + 0x4000 * i.val) 1) s = .next
      (emit (.value .spi (0x10108 + 0x4000 * i.val) (SMap.get 0 s.latchSpi.dsSfcHi i)) s) ∧
    exec (.spiRead (0x1020C + 0x4000 * i.val) 1) s = .next
      (emit (.value .spi (0x1020C + 0x4000 * i.val) (SMap.get 0 s.latchSpi.usNextNs i)) s) :=
  ⟨spiRead_eq h (spiRead_fibre (k := 0x108) (m := 0) h.awake.awake i.isLt (by decide) (by omega) rfl) (emit_outer _ _),
    spiRead_eq h (spiRead_fibre (k := 0x20C) (m := 0) h.awake.awake i.isLt (by decide) (by omega) rfl) (emit_outer _ _)⟩

theorem spiRead_time_latched {s : State} (h : Reaches .spi s) (n : Fin 8) : exec (.spiRead (0x80004 + 0x20 * n.val) 2) s = .next
    (emit (.value .spi (0x80008 + 0x20 * n.val) (SMap.get 0 s.latchSpi.tbSecHi n))
      (emit (.value .spi (0x80004 + 0x20 * n.val) (SMap.get 0 s.latchSpi.tbSecLo n)) s)) := by
  have ha := h.awake.awake
  refine spiRead_eq h ?_ ⟨rfl, rfl, rfl⟩
  calc execSpiRead (0x80004 + 0x20 * n.val) 2 s
    _ = execSpiRead (0x80008 + 0x20 * n.val) 1 _ := spiRead_time (k := 4) ha n.isLt (by decide) (by omega) (by omega)
    _ = execSpiRead (0x8000C + 0x20 * n.val) 0 _ := spiRead_time (k := 8) ha n.isLt (by decide) (by omega) (by omega)

/-! ## SNAPSHOT (18 R414) -/

/-- What SNAPSHOT leaves of the counters: its range is cleared with CLEAR alone (18 R414). -/
def snapshotLeaves (q : CmdReq) (s : State) : State :=
  if bit (u8 q.body 6) 0 then clearCounters false (u32 q.body 0) (u16 q.body 4) s else s

/-- Whatever does not look at the counters is as before. -/
theorem snapshotLeaves_rest {α : Type} (f : State → α) (hf : ∀ (s : State) (x : Cnt), f { s with cnt := x } = f s) (q : CmdReq) (s : State) :
    f (snapshotLeaves q s) = f s := by
  unfold snapshotLeaves
  split
  · exact hf s _
  · rfl

/-- SNAPSHOT of two counters captures both in the state in which the counter engine has its turn. -/
theorem effSnapshot_pair {c : Cmd} {s : State} (hn : u16 c.req.body 4 = 2) (ht : hasTurn 3 [34] s = true) :
    effSnapshot c s = .ok (le 4 s.clk.tick.toNat ++ le 4 (tickNs s) ++ zeros 8 ++
      le 4 (SMap.get 0 s.cnt.value (u32 c.req.body 0)).toNat ++ le 4 (SMap.get 0 s.cnt.value (u32 c.req.body 0 + 1)).toNat)
      (snapshotLeaves c.req (passXfer 3 s)) := by
  have hr : List.range 2 = [0, 1] := rfl
  simp only [effSnapshot, withCounterMemory, withXfer, ht, if_true, snapshotLeaves, hn, hr, List.map_cons, List.map_nil,
    List.flatten_cons, List.flatten_nil, List.append_nil, List.append_assoc, Nat.add_zero]
  rfl

/-- SNAPSHOT of two counters answers the values that both hold when it is executed (18 R414). -/
theorem snapshot_pair {q : CmdReq} {c : Cmd} {s : State} (hn : u16 q.body 4 = 2) (h : Runs 0x0E03 q c s) (ht : hasTurn 3 [34] s = true) :
    Completes (.snapshot q) s fun t => Answers c .ok 0 (le 4 s.clk.tick.toNat ++ le 4 (tickNs s) ++ zeros 8 ++
      le 4 (SMap.get 0 s.cnt.value (u32 q.body 0)).toNat ++ le 4 (SMap.get 0 s.cnt.value (u32 q.body 0 + 1)).toNat) s t := by
  have hu {α : Type} (f : State → α) (hf : ∀ (s : State) (x : Cnt), f { s with cnt := x } = f s) :=
    snapshotLeaves_rest f hf c.req (passXfer 3 (markStarted c s))
  have he := effSnapshot_pair (c := c) (s := markStarted c s) (by rw [h.isReq, hn]) ht
  obtain ⟨t, hx, ha, -⟩ := Runs.completes (sp := specSnapshot q) h rfl he (hu (·.cmd) fun _ _ => rfl) (hu (·.clk.tick) fun _ _ => rfl)
    (hu (·.pending) fun _ _ => rfl) (hu (·.hot.powered) fun _ _ => rfl) (hu (·.boot.inReset) fun _ _ => rfl) (Books.refl _)
  rw [h.isReq] at ha
  exact ⟨t, hx, ha⟩

/-- Settles O7: each first word's row answers and latches, and each second word's SPI read answers the latch. -/
theorem latchedReadsAreCoherent : Obligations.LatchedReadsAreCoherent := by
  unfold Obligations.LatchedReadsAreCoherent
  intro s
  refine ⟨fun p h => ⟨tickCountRead_latches h, bwBytesLoRead_latches h, dsSfcLoRead_latches h, usNextTickRead_latches h,
    tbNsRead_latches h, fun k hl hu hb => ⟨counterRead_even h hl hu hb, fun ho hc => ?odd⟩⟩,
    fun p k => ?atReset, fun h => ⟨spiRead_tickPhase_latched h, spiRead_bw_latched h, spiRead_fibre_latched h, spiRead_time_latched h⟩,
    ?snapshot⟩
  case odd =>
    rw [counterRead_latches h hl hu hb, readCounter_chained ho hc]
    rfl
  case atReset => cases p <;> rfl
  case snapshot =>
    rintro q c k rfl hn h ht
    exact snapshot_pair hn h ht

end Sys2Proof.Machine
end

section
/-!
PROOFS. The order of Table 2.9 (02 R48): what taking a command from a ring does, check by check.
-/

namespace Sys2Proof.Machine

theorem fit_length (n : Nat) (p : Bytes) : (fit n p).length = n := by
  simp only [fit, zeros, List.length_append, List.length_take, List.length_replicate]
  omega

theorem parseCmd_payload_length (src : Src) (d : Bytes) : (parseCmd src d).2.payload.length = u16 d 4 := fit_length _ _

theorem parseCmd_src (src : Src) (d : Bytes) : (parseCmd src d).2.src = src := rfl

/-- Reserved fields and flags are as Table 2.5 has them. -/
def CleanHeader (q : CmdReq) : Prop := q.reserved = 0 ∧ q.flags.toNat < 16 ∧ (q.atTick = false → q.execTick = 0)

/-- Step 2 of Table 2.9, as the model tests it. -/
theorem not_cleanHeader_iff (q : CmdReq) :
    (q.reserved ≠ 0 ∨ 16 ≤ q.flags.toNat ∨ (!q.atTick && decide (q.execTick ≠ 0)) = true) ↔ ¬ CleanHeader q := by
  simp only [CleanHeader, Bool.and_eq_true, Bool.not_eq_true', decide_eq_true_eq]
  have : 16 ≤ q.flags.toNat ↔ ¬ q.flags.toNat < 16 := by omega
  tauto

/-- The only reply that a validation leaves waits for the reply ring; nothing outside the books has changed. -/
structure Replied (op : Nat) (q : CmdReq) (st : Status) (detail : Nat) (u t : State) : Prop where
  same : t.cmd.executing = u.cmd.executing ∧ t.cmd.pendingSet = u.cmd.pendingSet
  reply : t.cmd.waiting = u.cmd.waiting ++
    [{ op, tag := q.tag, status := st, detail := 256 * detail, tick := u.clk.tick, payload := [], src := q.src }]
  books : Books u t

/-- A final reply to a command of a ring, while fewer than 63 wait: it is the last to fall due, and no stall begins (02 R46). -/
theorem replyTo_replied {c : Cmd} {st : Status} {d : Nat} {u : State} {n : Fin 4} (hr : c.req.src = .ring n) (hm : c.mute = false)
    (hl : c.late = false) (hw : u.cmd.waiting.length < 63) : Replied c.op c.req st d u (replyTo c st true d [] u) := by
  have hfew : ¬ 64 ≤ u.cmd.waiting.length + 1 := by omega
  have h : replyTo c st true d [] u = { u with cmd := { u.cmd with waiting := u.cmd.waiting ++
      [{ op := c.op, tag := c.req.tag, status := st, detail := 256 * d, tick := u.clk.tick, payload := [], src := c.req.src }] } } := by
    simp [replyTo, deliverReply, hr, hm, hl, b2n, hfew]
  rw [h]
  exact ⟨⟨rfl, rfl⟩, rfl, rfl⟩

theorem Replied.of_books {op : Nat} {q : CmdReq} {st : Status} {d : Nat} {s u t : State} (h : Replied op q st d u t) (hb : Books s u)
    (he : u.cmd.executing = s.cmd.executing) (hp : u.cmd.pendingSet = s.cmd.pendingSet) (hw : u.cmd.waiting = s.cmd.waiting) :
    Replied op q st d s t :=
  ⟨⟨h.same.1.trans he, h.same.2.trans hp⟩, by rw [h.reply, hw, hb.clk], hb.trans h.books⟩

/-- What authentication leaves: the source's nonce, once presented, is gone (02 R54, R55). -/
theorem authStep_leaves {sp : CmdSpec} {q : CmdReq} {n : Fin 4} (hr : q.src = .ring n) (u : State) :
    (authStep sp q u).2 = { u with cmd := { u.cmd with nonceRings := (authStep sp q u).2.cmd.nonceRings } } := by
  unfold authStep
  split
  · split
    · rw [hr]; rfl
    · rfl
  · rfl

/-- A command that validation refuses gets its one reply (02 R48). -/
theorem submit_refused {sp : CmdSpec} {q : CmdReq} {s t : State} {st : Status} {n : Fin 4} {d : Nat} (hr : q.src = .ring n)
    (hw : s.cmd.waiting.length < 63) (hv : validate sp q (newCmd sp.op q s).2 = (some st, t))
    (ht : t = { (newCmd sp.op q s).2 with cmd := { (newCmd sp.op q s).2.cmd with nonceRings := t.cmd.nonceRings } })
    (hd : (if (headerCheck sp q (newCmd sp.op q s).2).isNone && decide (sp.check q t = some .badParam) && decide (st = .badParam)
      then sp.detail q t else 0) = d) : Replied sp.op q st d s (submit sp q s) := by
  have hs : submit sp q s = replyTo (newCmd sp.op q s).1 st true d [] t := by
    unfold submit
    simp only [hv, hd]
  rw [hs]
  refine Replied.of_books (u := t) (replyTo_replied (c := (newCmd sp.op q s).1) (n := n) hr rfl rfl ?_) ?_ ?_ ?_ ?_ <;> rw [ht]
  · exact hw
  all_goals rfl

/-! ## The checks in their order -/

section checks

variable {sp : CmdSpec} {q : CmdReq} {u : State} (hlen : q.payload.length ≤ 4096)

include hlen

theorem headerCheck_badParam (hc : ¬ CleanHeader q) : headerCheck sp q u = some .badParam := by
  have h0 : ¬ 4096 < q.payload.length := by omega
  simp only [headerCheck, h0, if_false, (not_cleanHeader_iff q).2 hc, if_true]

theorem headerCheck_badTarget (hc : CleanHeader q) (ht : q.kind ≠ sp.kind ∨ targetCount q.kind ≤ q.index ∨ sp.target q.index = false) :
    headerCheck sp q u = some .badTarget := by
  have h0 : ¬ 4096 < q.payload.length := by omega
  have h1 := mt (not_cleanHeader_iff q).1 (not_not.2 hc)
  simp only [headerCheck, h0, h1, ht, if_false, if_true]

/-- With a clean header and a target that the opcode takes, the life-cycle state decides. -/
theorem headerCheck_life (hc : CleanHeader q) (hk : q.kind = sp.kind) (hi : q.index < targetCount q.kind) (ht : sp.target q.index = true) :
    headerCheck sp q u = if sp.life q u then none else some .notPermitted := by
  have h0 : ¬ 4096 < q.payload.length := by omega
  have h1 := mt (not_cleanHeader_iff q).1 (not_not.2 hc)
  have h2 : ¬ (q.kind ≠ sp.kind ∨ targetCount q.kind ≤ q.index ∨ sp.target q.index = false) := by
    rintro (h | h | h)
    · exact h hk
    · omega
    · exact Bool.false_ne_true (h.symm.trans ht)
  simp only [headerCheck, h0, h1, h2, if_false]

end checks

theorem validate_header {sp : CmdSpec} {q : CmdReq} {u : State} {st : Status} (h : headerCheck sp q u = some st) :
    validate sp q u = (some st, u) := by simp only [validate, h]

theorem validate_auth {sp : CmdSpec} {q : CmdReq} {u : State} (h : headerCheck sp q u = none) (ha : (authStep sp q u).1 = false) :
    validate sp q u = (some .authFailed, (authStep sp q u).2) := by
  simp only [validate, h, ha, Bool.false_eq_true, if_false]

theorem validate_param {sp : CmdSpec} {q : CmdReq} {u v : State} (h : headerCheck sp q u = none) (ha : authStep sp q u = (true, v)) :
    validate sp q u = (paramCheck sp q v, v) := by simp only [validate, h, ha, if_true]

theorem paramCheck_check {sp : CmdSpec} {q : CmdReq} {v : State} {st : Status} (h : sp.check q v = some st) :
    paramCheck sp q v = some st := by simp only [paramCheck, h]

theorem paramCheck_force {sp : CmdSpec} {q : CmdReq} {v : State} (h : sp.check q v = none) (hf : q.force = true)
    (hs : sp.force = false) : paramCheck sp q v = some .badParam := by
  simp only [paramCheck, h, hf, hs, Bool.not_false, Bool.and_self, if_true]

theorem paramCheck_lease {sp : CmdSpec} {q : CmdReq} {v : State} (h : sp.check q v = none) (hf : q.force = true → sp.force = true) :
    paramCheck sp q v = sp.lease q v := by
  have h' : ¬ (q.force && !sp.force) = true := by
    simp only [Bool.and_eq_true, Bool.not_eq_true', not_and, Bool.not_eq_false]
    exact hf
  simp only [paramCheck, h, h', if_false, Bool.false_eq_true]

/-! ## Taking ring 1's command -/

section taking

variable {src : Src} {n op : Nat} {d : Bytes} {q : CmdReq} {s : State} (hp : parseCmd src d = (op, q))

include hp

theorem parsed_src : q.src = src := by
  have := parseCmd_src src d
  rwa [hp] at this

theorem parsed_payload_length : q.payload.length = u16 d 4 := by
  have := parseCmd_payload_length src d
  rwa [hp] at this

theorem takeCommand_badLength (h : ¬ (n = 32 + u16 d 4 ∧ u16 d 4 ≤ 4096)) : takeCommand src n d s = refuse op q .badLength s := by
  have h' : n ≠ 32 + u16 d 4 ∨ 4096 < u16 d 4 := by omega
  simp only [takeCommand, hp, h', if_true]

theorem takeCommand_submit {sp : CmdSpec} (h : n = 32 + u16 d 4 ∧ u16 d 4 ≤ 4096) (hs : specOf op q s = some sp) :
    takeCommand src n d s = submit sp q s := by
  have h' : ¬ (n ≠ 32 + u16 d 4 ∨ 4096 < u16 d 4) := by omega
  simp only [takeCommand, hp, h', if_false, hs]

/-- A command of an undefined opcode is refused for its header first. -/
theorem takeCommand_undefined (h : n = 32 + u16 d 4 ∧ u16 d 4 ≤ 4096) (hs : specOf op q s = none) :
    (CleanHeader q → takeCommand src n d s = refuse op q .badOpcode s) ∧
    (¬ CleanHeader q → takeCommand src n d s = refuse op q .badParam s) := by
  have h' : ¬ (n ≠ 32 + u16 d 4 ∨ 4096 < u16 d 4) := by omega
  simp only [takeCommand, hp, h', if_false, hs]
  exact ⟨fun hc => if_neg (mt (not_cleanHeader_iff _).1 (not_not.2 hc)), fun hc => if_pos ((not_cleanHeader_iff _).2 hc)⟩

end taking

theorem refuse_replied {op : Nat} {q : CmdReq} {st : Status} {s : State} {n : Fin 4} (hr : q.src = .ring n)
    (hw : s.cmd.waiting.length < 63) : Replied op q st 0 s (refuse op q st s) :=
  Replied.of_books (u := (newCmd op q s).2) (replyTo_replied (c := (newCmd op q s).1) hr rfl rfl hw) rfl rfl rfl rfl

theorem specOf_op {op : Nat} {q : CmdReq} {s : State} {sp : CmdSpec} (h : specOf op q s = some sp) : sp.op = op := by
  have := List.find?_some h
  exact of_decide_eq_true this

/-- COMMAND_DISPATCH takes ring n's command: the descriptor is PCIe's transfer, OWNER is cleared, CONS moves on (02 R44, R46). -/
theorem takeFromRing_owned {n : Nat} {desc : Desc} (hf : desc.fetched = true) (ho : desc.owner = true) (data : Bytes) (s : State) :
    takeFromRing n desc data s = takeCommand (.ring (Fin.ofNat 4 n)) desc.length (fit (min desc.length 4128) data)
      (consume n (emit (.ownerCleared n (s.ring n).cons) s)) := by
  simp only [takeFromRing, hf, ho, Bool.not_true, Bool.false_eq_true, if_false]

theorem execCommandDispatch_ring1 {desc : Desc} {data : Bytes} {s : State} (hd : canDispatch s = true) (hn : nextSource s = some 3) :
    execCommandDispatch desc data s = takeFromRing 1 desc data s := by
  simp [execCommandDispatch, hd, hn]

/-- A reply that taking ring 1's command leaves is the refusal of that command. -/
theorem Replied.refused {op : Nat} {q : CmdReq} {st : Status} {d : Nat} {s t : State} (hr : q.src = .ring 1)
    (h : Replied op q st d (consume 1 (emit (.ownerCleared 1 (s.ring 1).cons) s)) t) : Refused op q st d s t := by
  refine ⟨h.same, by rw [h.reply, hr]; rfl, ?_⟩
  have hb : Books { s with rings := t.rings, mem := { s.mem with order := t.mem.order } }
      (consume 1 (emit (.ownerCleared 1 (s.ring 1).cons) s)) := by
    rw [h.books.rings, h.books.mem]
    rfl
  exact hb.trans h.books

/-- The row that takes ring 1's command and refuses it answers a next state that holds the refusal. -/
theorem completes_refused {s : State} {desc : Desc} {data d : Bytes} {op : Nat} {q : CmdReq} {st : Status} {detail : Nat} (hon : On s)
    (hd : canDispatch s = true) (hn : nextSource s = some 3) (hf : desc.fetched = true) (ho : desc.owner = true)
    (hq : q.src = .ring 1) (hdata : d = fit (min desc.length 4128) data)
    (h : Replied op q st detail (consume 1 (emit (.ownerCleared 1 (s.ring 1).cons) s))
      (takeCommand (.ring 1) desc.length d (consume 1 (emit (.ownerCleared 1 (s.ring 1).cons) s)))) :
    Completes (.commandDispatch desc data) s fun t => Refused op q st detail s t := by
  have he : execCommandDispatch desc data s =
      takeCommand (.ring 1) desc.length d (consume 1 (emit (.ownerCleared 1 (s.ring 1).cons) s)) := by
    rw [execCommandDispatch_ring1 hd hn, takeFromRing_owned hf ho, ← hdata]
    rfl
  have hout : Outer s (takeCommand (.ring 1) desc.length d (consume 1 (emit (.ownerCleared 1 (s.ring 1).cons) s))) :=
    Outer.trans (t := consume 1 (emit (.ownerCleared 1 (s.ring 1).cons) s)) ⟨rfl, rfl, rfl⟩ h.books.outer
  exact ⟨_, congrArg Host.Outcome.next (live_eq hon he hout), h.refused hq⟩

theorem submit_header_refused {sp : CmdSpec} {q : CmdReq} {s : State} {st : Status} {n : Fin 4} (hr : q.src = .ring n)
    (hw : s.cmd.waiting.length < 63) (h : headerCheck sp q (newCmd sp.op q s).2 = some st) : Replied sp.op q st 0 s (submit sp q s) :=
  submit_refused hr hw (validate_header h) rfl (by simp [h])

theorem submit_auth_refused {sp : CmdSpec} {q : CmdReq} {s : State} {n : Fin 4} (hr : q.src = .ring n)
    (hw : s.cmd.waiting.length < 63) (h : headerCheck sp q (newCmd sp.op q s).2 = none)
    (ha : (authStep sp q (newCmd sp.op q s).2).1 = false) : Replied sp.op q .authFailed 0 s (submit sp q s) :=
  submit_refused hr hw (validate_auth h ha) (authStep_leaves hr _) (by simp)

/-- DETAIL is the opcode's own only where its payload check fails (02 Table 2.9 step 7). -/
theorem submit_param_refused {sp : CmdSpec} {q : CmdReq} {s v : State} {st : Status} {d : Nat} {n : Fin 4} (hr : q.src = .ring n)
    (hw : s.cmd.waiting.length < 63) (h : headerCheck sp q (newCmd sp.op q s).2 = none)
    (ha : authStep sp q (newCmd sp.op q s).2 = (true, v)) (hp : paramCheck sp q v = some st)
    (hd : (if sp.check q v = some .badParam ∧ st = .badParam then sp.detail q v else 0) = d) : Replied sp.op q st d s (submit sp q s) := by
  have hv := authStep_leaves (sp := sp) hr (newCmd sp.op q s).2
  rw [ha] at hv
  refine submit_refused hr hw ((validate_param h ha).trans (by rw [hp])) hv ?_
  rw [← hd]
  simp only [h, Option.isNone_none, Bool.true_and, Bool.and_eq_true, decide_eq_true_eq]

/-- Settles O6: taking ring 1's command comes to one refusal for each check of Table 2.9, in their order. -/
theorem refusalsFollowTable2_9 : Obligations.RefusalsFollowTable2_9 := by
  unfold Obligations.RefusalsFollowTable2_9
  rintro s u0 u v desc data d op q ok1 ok2 run hon hd hn hf ho hw hdata hparse hu0 hu rfl rfl rfl
  have hp := hparse.symm
  have hsrc := parsed_src hp
  have hw0 : u0.cmd.waiting.length < 63 := by rw [hu0]; exact hw
  have refused {st : Status} {detail : Nat} (h : Replied op q st detail u0 (takeCommand (.ring 1) desc.length d u0)) :
      Completes (.commandDispatch desc data) s fun t => Refused op q st detail s t := by
    rw [hu0] at h
    exact completes_refused hon hd hn hf ho hsrc hdata h
  refine ⟨fun h1 => refused ?badLength, fun h1 h2 => refused ?badHeader, fun h1 h2 hs => refused ?badOpcode, fun sp h1 h2 hs => ?defined⟩
  case badLength =>
    rw [takeCommand_badLength hp h1]
    exact refuse_replied hsrc hw0
  case badHeader =>
    cases hs : specOf op q u0 with
    | none =>
      rw [(takeCommand_undefined hp h1 hs).2 h2]
      exact refuse_replied hsrc hw0
    | some sp =>
      rw [takeCommand_submit hp h1 hs, ← specOf_op hs]
      exact submit_header_refused hsrc hw0 (headerCheck_badParam ((parsed_payload_length hp).trans_le h1.2) h2)
  case badOpcode =>
    rw [(takeCommand_undefined hp h1 hs).1 h2]
    exact refuse_replied hsrc hw0
  case defined =>
    have hlen := (parsed_payload_length hp).trans_le h1.2
    have hsub := takeCommand_submit hp h1 hs
    have hop := specOf_op hs
    subst hop
    rw [hsub] at refused
    subst hu
    refine ⟨fun ht => refused (submit_header_refused hsrc hw0 (headerCheck_badTarget hlen h2 ht)), fun hk hi ht => ?_⟩
    have hlife := headerCheck_life (u := (newCmd sp.op q u0).2) hlen h2 hk hi ht
    refine ⟨fun hl => refused (submit_header_refused hsrc hw0 (hlife.trans (if_neg (Bool.eq_false_iff.1 hl)))), fun hl ha => ?_, fun hl ha => ?_⟩
    · exact refused (submit_auth_refused hsrc hw0 (hlife.trans (if_pos hl)) ha)
    · have param {st : Status} {detail : Nat} (hp : paramCheck sp q v = some st)
          (hd : (if sp.check q v = some .badParam ∧ st = .badParam then sp.detail q v else 0) = detail) :=
        refused (submit_param_refused hsrc hw0 (hlife.trans (if_pos hl)) ha hp hd)
      exact ⟨fun st hc => param (paramCheck_check hc) (by simp [hc]),
        fun hc hf hsp => param (paramCheck_force hc hf hsp) (by simp [hc]),
        fun st hc hf hl => param ((paramCheck_lease hc hf).trans hl) (by simp [hc])⟩

end Sys2Proof.Machine
end

section
/-!
PROOFS. The command transport: rings, doorbells, dispatch, the reply ring and the packets on it (02 R42–R49), the SPI port (02 R66, R67),
nonces (02 R55), and addresses without a register (02 R36, R37).
-/

namespace Sys2Proof.Machine

/-! ## Rings and doorbells (02 R42, R43) -/

theorem ringError_outer (n : Nat) (code : BitVec 8) (s : State) : Outer s (ringError n code s) :=
  Outer.trans (t := hwSet (0x200C + 0x40 * n) 1 (s.setRing n _)) ⟨rfl, rfl, rfl⟩ (setCause_noted _ _).outer

theorem ringEnable_starts {n : Fin 5} {s : State} (h : Awake s) (hq : s.dev.quill ≠ 0) (he : (s.ring n).enable = false)
    (hz : ringSizeOk (s.ring n).size.toNat = true) : exec (.ringEnable n) s = .next (s.setRing n
      { s.ring n with enable := true, stopped := false, cons := 0, prod := 0, blocked := false }) := by
  have hf : execRingEnable n s = s.setRing n
      { s.ring n with enable := true, stopped := false, cons := 0, prod := 0, blocked := false } := by
    simp only [execRingEnable, hostWrite_awake h.awake, he, hz, if_true, if_false, Bool.false_eq_true]
  exact congrArg Host.Outcome.next (served_eq h.on hq hf (setRing_outer _ _ _))

theorem ringEnable_badSize {n : Fin 5} {s : State} (h : Awake s) (hq : s.dev.quill ≠ 0) (he : (s.ring n).enable = false)
    (hz : ringSizeOk (s.ring n).size.toNat = false) : exec (.ringEnable n) s = .next (ringError n 1
      (s.setRing n { s.ring n with cons := 0, prod := 0, blocked := false })) := by
  have hf : execRingEnable n s = ringError n 1 (s.setRing n { s.ring n with cons := 0, prod := 0, blocked := false }) := by
    simp only [execRingEnable, hostWrite_awake h.awake, he, hz, if_false, Bool.false_eq_true]
  exact congrArg Host.Outcome.next (served_eq h.on hq hf ((setRing_outer _ _ _).trans (ringError_outer _ _ _)))

theorem ringDisable_clears {n : Fin 5} {s : State} (h : Awake s) (hq : s.dev.quill ≠ 0) :
    exec (.ringDisable n) s = .next (s.setRing n { s.ring n with enable := false, stopped := false }) := by
  have hf : execRingDisable n s = s.setRing n { s.ring n with enable := false, stopped := false } := by
    simp only [execRingDisable, hostWrite_awake h.awake]
  exact congrArg Host.Outcome.next (served_eq h.on hq hf (setRing_outer _ _ _))

/-- A wake source does nothing while the part is awake (16 R377). -/
theorem fireWake_awake {s : State} (h : s.pwr.state = .awake) (cause : Nat) : fireWake cause s = s := by
  simp only [fireWake, h]

theorem asleep_of_awake {s : State} (h : s.pwr.state = .awake) : asleep s = false := by
  simp only [asleep, h, reduceCtorEq, decide_false, Bool.or_self]

/-- A doorbell of a part that is awake takes effect at once (02 R43). -/
theorem execDoorbell_awake {s : State} (h : s.pwr.state = .awake) (n p : Nat) : execDoorbell n p s = applyBell n p s := by
  simp only [execDoorbell, asleep_of_awake h, fireWake_awake h, h, reduceCtorEq, decide_false, Bool.or_self, Bool.false_eq_true, if_false]

/-- PROD moves forward inside a ring that runs. -/
theorem applyBell_taken {n p : Nat} {s : State} (he : (s.ring n).enable = true) (hs : (s.ring n).stopped = false)
    (hp : p < (s.ring n).size.toNat)
    (hm : ((s.ring n).prod + (s.ring n).size.toNat - (s.ring n).cons) % (s.ring n).size.toNat ≤
      (p + (s.ring n).size.toNat - (s.ring n).cons) % (s.ring n).size.toNat) :
    applyBell n p s = s.setRing n { s.ring n with prod := p, blocked := false } := by
  have hmax : max 1 (s.ring n).size.toNat = (s.ring n).size.toNat := by omega
  have hin : ¬ ((s.ring n).size.toNat ≤ p ∨ (p + (s.ring n).size.toNat - (s.ring n).cons) % (s.ring n).size.toNat <
      ((s.ring n).prod + (s.ring n).size.toNat - (s.ring n).cons) % (s.ring n).size.toNat) := by omega
  simp only [applyBell, he, hs, hmax, hin, Bool.not_true, Bool.or_self, Bool.false_eq_true, if_false]

/-- PROD outside the ring stops it. -/
theorem applyBell_outside {n p : Nat} {s : State} (he : (s.ring n).enable = true) (hs : (s.ring n).stopped = false)
    (hp : (s.ring n).size.toNat ≤ p) : applyBell n p s = ringError n 2 s := by
  simp only [applyBell, he, hs, hp, Bool.not_true, Bool.or_self, Bool.false_eq_true, if_false, true_or, if_true]

theorem doorbell_taken {n : Fin 5} {p : BitVec 12} {s : State} (h : On s) (hq : s.dev.quill ≠ 0) (he : (s.ring n).enable = true)
    (hs : (s.ring n).stopped = false) (ha : s.pwr.state = .awake) (hp : p.toNat < (s.ring n).size.toNat)
    (hm : ((s.ring n).prod + (s.ring n).size.toNat - (s.ring n).cons) % (s.ring n).size.toNat ≤
      (p.toNat + (s.ring n).size.toNat - (s.ring n).cons) % (s.ring n).size.toNat) :
    exec (.doorbell n p) s = .next (s.setRing n { s.ring n with prod := p.toNat, blocked := false }) := by
  have hf := (execDoorbell_awake ha n p.toNat).trans (applyBell_taken he hs hp hm)
  exact congrArg Host.Outcome.next (served_eq h hq hf (setRing_outer _ _ _))

theorem doorbell_outside {n : Fin 5} {p : BitVec 12} {s : State} (h : On s) (hq : s.dev.quill ≠ 0) (he : (s.ring n).enable = true)
    (hs : (s.ring n).stopped = false) (ha : s.pwr.state = .awake) (hp : (s.ring n).size.toNat ≤ p.toNat) :
    exec (.doorbell n p) s = .next (ringError n 2 s) := by
  have hf := (execDoorbell_awake ha n p.toNat).trans (applyBell_outside he hs hp)
  exact congrArg Host.Outcome.next (served_eq h hq hf (ringError_outer _ _ _))

/-- Asleep, a doorbell is held and wakes the part (16 R379, Table 16.4). -/
theorem doorbell_asleep {n : Fin 5} {p : BitVec 12} {s : State} (h : On s) (hq : s.dev.quill ≠ 0) (ha : s.pwr.state = .asleep) :
    Completes (.doorbell n p) s fun t => t.pwr.state = .waking ∧ t.pwr.wakeCause = 8 ∧
      t.pwr.heldBells = s.pwr.heldBells ++ [(n.val, p.toNat)] ∧ t.rings = s.rings := by
  have hf : execDoorbell n p.toNat s = fireWake 8 { s with pwr := { s.pwr with heldBells := s.pwr.heldBells ++ [(n.val, p.toNat)] } } := by
    simp only [execDoorbell, asleep, ha, decide_true, Bool.true_or, if_true]
  simp only [fireWake, ha] at hf
  exact ⟨_, congrArg Host.Outcome.next (served_eq h hq hf ⟨rfl, rfl, rfl⟩), rfl, rfl, rfl, rfl⟩

/-! ## COMMAND_DISPATCH (02 R46) -/

theorem commandDispatch_idle {desc : Desc} {data : Bytes} {s : State} (h : On s) (hd : canDispatch s = false ∨ nextSource s = none) :
    exec (.commandDispatch desc data) s = .next s := by
  have hf : execCommandDispatch desc data s = s := by
    rcases hd with hd | hd
    · simp only [execCommandDispatch, hd, Bool.not_false, if_true]
    · simp only [execCommandDispatch, hd, ite_self]
  exact congrArg Host.Outcome.next (live_eq h hf (Outer.refl s))

theorem commandDispatch_unreadable {desc : Desc} {data : Bytes} {s : State} (h : On s) (hd : canDispatch s = true)
    (hn : nextSource s = some 3) (hf : desc.fetched = false) : exec (.commandDispatch desc data) s = .next (ringError 1 3 s) := by
  have he : execCommandDispatch desc data s = ringError 1 3 s := by
    rw [execCommandDispatch_ring1 hd hn]
    simp only [takeFromRing, hf, Bool.not_false, if_true]
  exact congrArg Host.Outcome.next (live_eq h he (ringError_outer _ _ _))

theorem commandDispatch_unowned {desc : Desc} {data : Bytes} {s : State} (h : On s) (hd : canDispatch s = true)
    (hn : nextSource s = some 3) (hf : desc.fetched = true) (ho : desc.owner = false) :
    exec (.commandDispatch desc data) s = .next (s.setRing 1 { s.ring 1 with blocked := true }) := by
  have he : execCommandDispatch desc data s = s.setRing 1 { s.ring 1 with blocked := true } := by
    rw [execCommandDispatch_ring1 hd hn]
    simp only [takeFromRing, hf, ho, Bool.not_true, Bool.not_false, Bool.false_eq_true, if_false, if_true]
  exact congrArg Host.Outcome.next (live_eq h he (setRing_outer _ _ _))

/-! ## A NOP of ring 0 (02 R59) -/

/-- The header of a NOP and its TAG (02 Table 2.5). -/
theorem parseCmd_nopBytes (b0 b1 : Byte) :
    parseCmd (.ring 0) ([0, 1, b0, b1] ++ zeros 28) = (0x0100, { tag := b0.toNat + 256 * b1.toNat }) := by
  simp [parseCmd, zeros, u16, u8, w32, u32, slice, leNat, fit, List.replicate]

theorem parseCmd_nop {tag : Nat} (h : tag < 65536) :
    parseCmd (.ring 0) (fit (min 32 4128) (le 2 0x0100 ++ le 2 tag ++ zeros 28)) = (0x0100, { tag := tag }) := by
  have ht : (BitVec.ofNat 8 tag).toNat + 256 * (BitVec.ofNat 8 (tag / 256)).toNat = tag := by
    simp only [BitVec.toNat_ofNat]
    omega
  have hp := parseCmd_nopBytes (BitVec.ofNat 8 tag) (BitVec.ofNat 8 (tag / 256))
  rwa [ht] at hp

/-- A command without flags. -/
theorem flags_none {q : CmdReq} (h : q.flags = 0) : q.async = false ∧ q.force = false ∧ q.atTick = false ∧ q.auth = false := by
  simp [CmdReq.async, CmdReq.force, CmdReq.atTick, CmdReq.auth, h]

/-- A NOP without flags is valid, and leaves the state (02 R48, R59). -/
theorem validate_nop (tag : Nat) (u : State) : validate specNop { tag := tag } u = (none, u) := by
  obtain ⟨-, hforce, -, hauth⟩ := flags_none (q := { tag := tag }) rfl
  have hc : CleanHeader { tag := tag } := ⟨rfl, Nat.zero_lt_succ _, fun _ => rfl⟩
  have hh : headerCheck specNop { tag := tag } u = none := headerCheck_life (Nat.zero_le _) hc rfl Nat.zero_lt_one rfl
  have ha : authStep specNop { tag := tag } u = (true, u) := by simp only [authStep, hauth, Bool.false_eq_true, if_false]; rfl
  have hl : specNop.check { tag := tag } u = none := by simp [specNop, lenIs, CmdReq.body]
  rw [validate_param hh ha, paramCheck_lease hl fun h => absurd (hforce.symm.trans h) Bool.false_ne_true]
  rfl

theorem acceptCmd_nop {c : Cmd} (ho : c.op = 0x0100) (hf : c.req.flags = 0) (u : State) : acceptCmd specNop c u = begin c u := by
  obtain ⟨-, -, hat, -⟩ := flags_none hf
  have hr : replicatedClass 0x0100 = false := by decide
  simp only [acceptCmd, ho, hr, hat, Bool.false_and, Bool.false_eq_true, if_false]

/-- It begins: it is executing, as taken. -/
theorem submit_nop (tag : Nat) (s : State) :
    submit specNop { tag := tag } s = begin (newCmd 0x0100 { tag := tag } s).1 (newCmd 0x0100 { tag := tag } s).2 := by
  have hv : validate specNop { tag := tag } (newCmd specNop.op { tag := tag } s).2 = (none, (newCmd specNop.op { tag := tag } s).2) :=
    validate_nop _ _
  simp only [submit, hv]
  exact acceptCmd_nop rfl rfl _

theorem begin_plain {c : Cmd} (ho : c.op ≠ 0x0B04) (hf : c.req.flags = 0) (u : State) :
    begin c u = { noteActivity u with cmd := { u.cmd with executing := u.cmd.executing ++ [c] } } := by
  obtain ⟨hasync, -⟩ := flags_none hf
  simp only [begin, ho, hasync, Bool.false_eq_true, if_false]
  rfl

theorem takeCommand_nop {tag : Nat} (h : tag < 65536) (s : State) :
    takeCommand (.ring 0) 32 (fit (min 32 4128) (le 2 0x0100 ++ le 2 tag ++ zeros 28)) s =
      begin (newCmd 0x0100 { tag := tag } s).1 (newCmd 0x0100 { tag := tag } s).2 := by
  have hp := parseCmd_nop h
  have hl : u16 (fit (min 32 4128) (le 2 0x0100 ++ le 2 tag ++ zeros 28)) 4 = 0 := (parsed_payload_length hp).symm
  exact (takeCommand_submit hp (by omega) rfl).trans (submit_nop tag s)

theorem execCommandDispatch_ring0 {desc : Desc} {data : Bytes} {s : State} (hd : canDispatch s = true) (hn : nextSource s = some 0) :
    execCommandDispatch desc data s = takeFromRing 0 desc data { s with cmd := { s.cmd with turn := 1 } } := by
  simp [execCommandDispatch, hd, hn]

theorem commandDispatch_nop {desc : Desc} {tag : Nat} {s : State} (h : On s) (hd : canDispatch s = true) (hn : nextSource s = some 0)
    (ht : tag < 65536) (hf : desc.fetched = true) (ho : desc.owner = true) (hl : desc.length = 32) :
    Completes (.commandDispatch desc (le 2 0x0100 ++ le 2 tag ++ zeros 28)) s fun t =>
      (∃ c, t.cmd.executing = s.cmd.executing ++ [c] ∧ c.op = 0x0100 ∧ c.req = { tag := tag } ∧ c.started = false) ∧
      (t.ring 0).cons = ((s.ring 0).cons + 1) % max 1 (s.ring 0).size.toNat ∧ t.cmd.turn = 1 := by
  obtain ⟨u, hu⟩ : ∃ u, u = consume 0 (emit (.ownerCleared 0 (s.ring 0).cons) { s with cmd := { s.cmd with turn := 1 } }) := ⟨_, rfl⟩
  have hring : (u.ring 0).cons = ((s.ring 0).cons + 1) % max 1 (s.ring 0).size.toNat := by
    rw [hu]
    exact congrArg Ring.cons (ring_setRing_same _ 0 _)
  have hexec : u.cmd.executing = s.cmd.executing := by rw [hu]; rfl
  have hturn : u.cmd.turn = 1 := by rw [hu]; rfl
  have hout : Outer s u := by rw [hu]; exact ⟨rfl, rfl, rfl⟩
  have he : execCommandDispatch desc (le 2 0x0100 ++ le 2 tag ++ zeros 28) s =
      begin (newCmd 0x0100 { tag := tag } u).1 (newCmd 0x0100 { tag := tag } u).2 := by
    rw [execCommandDispatch_ring0 hd hn, takeFromRing_owned hf ho, hl, hu]
    exact takeCommand_nop ht _
  rw [begin_plain (show (0x0100 : Nat) ≠ 0x0B04 by decide) rfl] at he
  exact ⟨_, congrArg Host.Outcome.next (live_eq h he (hout.trans ⟨rfl, rfl, rfl⟩)),
    ⟨_, congrArg (· ++ [_]) hexec, rfl, rfl, rfl⟩, hring, hturn⟩

theorem Noted.spi {s t : State} (h : Noted s t) : t.spi = s.spi := (congrArg State.spi h.eq :)

theorem setCause_out (b : Nat) (s : State) : ∃ l, (setCause b s).out = l ++ s.out := by
  unfold setCause
  dsimp only
  split
  · exact ⟨[], rfl⟩
  · split
    · exact ⟨[_], rfl⟩
    · exact ⟨[], rfl⟩

/-- What has gone out stays in the history. -/
theorem mem_setCause_out {o : Out} {s : State} (h : o ∈ s.out) (b : Nat) : o ∈ (setCause b s).out := by
  obtain ⟨l, hl⟩ := setCause_out b s
  rw [hl]
  exact List.mem_append_right l h

/-! ## The mailbox (02 R66) -/

/-- A reply of the mailbox waits behind those due before it. -/
theorem deliverReply_spi {r : Reply} (h : r.src = .spi) (s : State) :
    (deliverReply r s).cmd = s.cmd ∧ (deliverReply r s).spi = { s.spi with replies := s.spi.replies ++ [r] } := by
  simp only [deliverReply, h]
  split
  · exact ⟨setCause_cmd _ _, (setCause_noted _ _).spi⟩
  · exact ⟨rfl, rfl⟩

theorem execCommandDispatch_mail {desc : Desc} {data d : Bytes} {s : State} (hd : canDispatch s = true) (hn : nextSource s = some 1)
    (hm : s.spi.mail = some d) : execCommandDispatch desc data s = takeCommand .spi d.length d
      { s with cmd := { s.cmd with turn := 2 }, spi := { s.spi with mail := none } } := by
  simp [execCommandDispatch, hd, hn, hm]

theorem commandDispatch_mail_badLength {desc : Desc} {data d : Bytes} {s : State} (h : On s) (hd : canDispatch s = true)
    (hn : nextSource s = some 1) (hm : s.spi.mail = some d) (hl : d.length ≠ 32 + u16 d 4) :
    Completes (.commandDispatch desc data) s fun t => t.spi.mail = none ∧ t.cmd.executing = s.cmd.executing ∧
      t.spi.replies = s.spi.replies ++
        [{ op := u16 d 0, tag := u16 d 2, status := .badLength, detail := 0, tick := s.clk.tick, payload := [], src := .spi }] := by
  obtain ⟨u, hu⟩ : ∃ u : State, u = { s with
    cmd := { s.cmd with turn := 2, nextSeq := s.cmd.nextSeq + 1 }, spi := { s.spi with mail := none } } := ⟨_, rfl⟩
  have he : execCommandDispatch desc data s = deliverReply
      { op := u16 d 0, tag := u16 d 2, status := .badLength, detail := 0, tick := s.clk.tick, payload := [], src := .spi } u := by
    rw [execCommandDispatch_mail hd hn hm, takeCommand_badLength rfl fun h => hl h.1, hu]
    rfl
  have hout : Outer s u := by rw [hu]; exact ⟨rfl, rfl, rfl⟩
  obtain ⟨hcmd, hspi⟩ := deliverReply_spi
    (r := { op := u16 d 0, tag := u16 d 2, status := .badLength, detail := 0, tick := s.clk.tick, payload := [], src := .spi }) rfl u
  refine ⟨_, congrArg Host.Outcome.next (live_eq h he (hout.trans (deliverReply_books _ _).outer)), ?_, ?_, ?_⟩
  · rw [hspi, hu]
  · rw [hcmd, hu]
  · rw [hspi, hu]

/-! ## The reply ring (02 R44–R46) -/

/-- A descriptor that the host has left for the next reply, and that has room for a header. -/
structure Free (desc : Desc) : Prop where
  fetched : desc.fetched = true
  owner : desc.owner = true
  room : 32 ≤ desc.length

/-- Bytes are written into a free descriptor, cut where it is too short, and INT_CAUSE.REPLY is set. -/
theorem postTo_free {desc : Desc} (h : Free desc) (data long : Bytes) (out : Nat → Bytes → Out) (f : State → State) (s : State) :
    postTo desc data long out f s = setCause 0 (f (consume 4 (emit (out (s.ring 4).cons
      (if desc.length < data.length then long.take desc.length else data)) s))) := by
  have hr : ¬ desc.length < 32 := by have := h.room; omega
  simp only [postTo, h.fetched, h.owner, hr, Bool.not_true, Bool.false_eq_true, if_false]

theorem consume_outer (n : Nat) (s : State) : Outer s (consume n s) := ⟨rfl, rfl, rfl⟩

@[simp] theorem consume_ring (n : Nat) (s : State) : (consume n s).ring n = { s.ring n with cons := ((s.ring n).cons + 1) % max 1 (s.ring n).size.toNat } :=
  ring_setRing_same _ n _

theorem ring_of_rings {s t : State} (h : t.rings = s.rings) (n : Nat) : t.ring n = s.ring n := by simp only [State.ring, h]

theorem queue_of_queues {s t : State} (h : t.queues = s.queues) (q : Nat) : t.queue q = s.queue q := by simp only [State.queue, h]

theorem replyPost_posts {desc : Desc} {r : Reply} {rest : List Reply} {s : State} (h : On s) (hw : s.cmd.waiting = r :: rest)
    (hr : replyReady s = true) (hd : Free desc) : Completes (.replyPost desc) s fun t => t.cmd.waiting = rest ∧
      t.cmd.executing = s.cmd.executing ∧ (t.ring 4).cons = ((s.ring 4).cons + 1) % max 1 (s.ring 4).size.toNat ∧
      .reply (s.ring 4).cons desc.addr (if desc.length < r.bytes.length
        then ({ r with detail := r.detail + 2 } : Reply).bytes.take desc.length else r.bytes) ∈ t.out := by
  obtain ⟨u, hu⟩ : ∃ u : State, u = { consume 4 (emit (.reply (s.ring 4).cons desc.addr (if desc.length < r.bytes.length
      then ({ r with detail := r.detail + 2 } : Reply).bytes.take desc.length else r.bytes)) s) with
    cmd := { s.cmd with waiting := rest, stalled := s.cmd.stalled && decide (64 ≤ rest.length) } } := ⟨_, rfl⟩
  have he : execReplyPost desc s = setCause 0 u := by
    simp only [execReplyPost, hw, hr, if_true, postTo_free hd, hu]
    rfl
  have hout : Outer s (setCause 0 u) := Outer.trans (t := u) (by rw [hu]; exact ⟨rfl, rfl, rfl⟩) (setCause_noted 0 u).outer
  refine ⟨_, congrArg Host.Outcome.next (live_eq h he hout), ?_, ?_, ?_, mem_setCause_out ?_ 0⟩
  · rw [setCause_cmd, hu]
  · rw [setCause_cmd, hu]
  · rw [ring_of_rings (setCause_rings 0 u), hu]
    exact congrArg Ring.cons (consume_ring 4 _)
  · rw [hu]
    exact List.mem_cons_self

/-! ## Unsolicited packets (08 R211, R212) -/

/-- A fold of steps that touch shapers alone touches shapers alone. -/
theorem foldl_shapers {α : Type} {f : State → α → State} (hf : ∀ s a, f s a = { s with shapers := (f s a).shapers }) (l : List α) :
    ∀ s : State, l.foldl f s = { s with shapers := (l.foldl f s).shapers } := by
  induction l with
  | nil => exact fun _ => rfl
  | cons a l ih =>
    intro s
    rw [List.foldl_cons, ih (f s a), hf s a]

theorem noteWaiting_noted (q : Nat) (s : State) : Noted s (noteWaiting q s) := by
  unfold noteWaiting
  split <;> exact rfl

theorem noteWaiting_out (q : Nat) (s : State) : (noteWaiting q s).out = s.out := by
  unfold noteWaiting
  split <;> rfl

/-- The head frame leaves its queue; nothing goes out by it. -/
theorem dequeue_head {q : Nat} {s : State} {f : Frame} {rest : List Frame} (h : (s.queue q).frames = f :: rest) :
    ((dequeue q s).2.queue q).frames = rest ∧ (dequeue q s).2.out = s.out ∧ Outer s (dequeue q s).2 := by
  obtain ⟨u, hu⟩ : ∃ u, u = s.setQueue q { s.queue q with
    frames := rest, deficit := if rest.isEmpty then 0 else (s.queue q).deficit - f.len } := ⟨_, rfl⟩
  have hs : (dequeue q s).2 = { noteWaiting q u with shapers := (dequeue q s).2.shapers } := by
    simp only [dequeue, h, ← hu]
    rw [foldl_shapers (fun s n => by split <;> rfl), foldl_shapers (fun _ _ => rfl)]
  have hn := noteWaiting_noted q u
  have hq : (dequeue q s).2.queues = u.queues := (congrArg State.queues hs).trans hn.books.queues
  have ho : (dequeue q s).2.out = u.out := (congrArg State.out hs).trans (noteWaiting_out q u)
  have hou : Outer s u := by rw [hu]; exact ⟨rfl, rfl, rfl⟩
  refine ⟨?_, by rw [ho, hu]; rfl, (hou.trans hn.outer).trans (by rw [hs]; exact ⟨rfl, rfl, rfl⟩)⟩
  rw [queue_of_queues hq, hu, queue_setQueue_same]

theorem hostDelivery_posts {desc : Desc} {q : Nat} {f : Frame} {rest : List Frame} {s : State} (h : On s) (hw : s.cmd.waiting = [])
    (hr : replyReady s = true) (hq : hostQueue s = (some q, s)) (hf : (s.queue q).frames = f :: rest) (hd : Free desc)
    (hl : (packetBytes f false).length ≤ desc.length) : Completes (.hostDelivery desc) s fun t =>
      (t.queue q).frames = rest ∧ .packet (s.ring 4).cons desc.addr (packetBytes f false) ∈ t.out := by
  obtain ⟨u, hu⟩ : ∃ u, u = consume 4 (emit (.packet (s.ring 4).cons desc.addr (packetBytes f false)) s) := ⟨_, rfl⟩
  have he : execHostDelivery desc s = setCause 0 (dequeue q u).2 := by
    have hno : ¬ (s.cmd.waiting ≠ [] ∨ replyReady s = false) := by simp [hw, hr]
    have hfree : (desc.fetched && desc.owner && decide (32 ≤ desc.length)) = true := by simp [hd.fetched, hd.owner, hd.room]
    have hfit : ¬ desc.length < (packetBytes f false).length := by omega
    simp only [execHostDelivery, hno, hq, hf, hfree, if_false, if_true, postTo_free hd, hfit, hu]
  obtain ⟨hrest, hsame, hout⟩ := dequeue_head (q := q) (s := u) (f := f) (rest := rest) (by rw [hu]; exact hf)
  have hou : Outer s u := by rw [hu]; exact ⟨rfl, rfl, rfl⟩
  refine ⟨_, congrArg Host.Outcome.next (live_eq h he ((hou.trans hout).trans (setCause_noted _ _).outer)), ?_, mem_setCause_out ?_ 0⟩
  · rw [queue_of_queues (setCause_queues 0 _) q, hrest]
  · rw [hsame, hu]
    exact List.mem_cons_self

/-! ## The SPI port (02 R66, R67) -/

theorem spiCmdPush_free {data : Bytes} {s : State} (h : On s) (hq : s.dev.quill = 3) (hc : s.dev.ctrl.getLsbD 1 = true)
    (ha : s.pwr.state = .awake) (hf : s.spi.cmdFree = true) :
    exec (.spiCmdPush data) s = .next { s with spi := { s.spi with mail := some data, cmdFree := false } } := by
  have he : execSpiCmdPush data s = { s with spi := { s.spi with mail := some data, cmdFree := false } } := by
    simp only [execSpiCmdPush, hf, hc, hq, asleep_of_awake ha, ha, ne_eq, not_true_eq_false, reduceCtorEq, decide_false, Bool.not_true,
      Bool.or_self, Bool.false_eq_true, if_false]
    exact fireWake_awake (s := { s with spi := { s.spi with mail := some data, cmdFree := false } }) ha 8
  exact congrArg Host.Outcome.next (served_eq h (by omega) he ⟨rfl, rfl, rfl⟩)

theorem spiCmdPush_busy {data : Bytes} {s : State} (h : On s) (hq : s.dev.quill ≠ 0) (hf : s.spi.cmdFree = false) :
    exec (.spiCmdPush data) s = .next (count .spiCmdDropped 0 s) := by
  have he : execSpiCmdPush data s = count .spiCmdDropped 0 s := by
    simp only [execSpiCmdPush, hf, Bool.not_false, Bool.true_or, if_true]
  exact congrArg Host.Outcome.next (served_eq h hq he (count_noted _ _ _).outer)

theorem spiReplyPull_none {n : Nat} {s : State} (h : On s) (hq : s.dev.quill ≠ 0) (hr : s.spi.replies = []) :
    exec (.spiReplyPull n) s = .next (emit (.spiOut (zeros n)) s) := by
  have he : execSpiReplyPull n s = emit (.spiOut (zeros n)) s := by simp only [execSpiReplyPull, hr]
  exact congrArg Host.Outcome.next (served_eq h hq he (emit_outer _ _))

theorem spiReplyPull_part {n : Nat} {r : Reply} {rest : List Reply} {s : State} (h : On s) (hq : s.dev.quill ≠ 0)
    (hr : s.spi.replies = r :: rest) (hn : n < r.bytes.length) :
    exec (.spiReplyPull n) s = .next (emit (.spiOut (fit n r.bytes)) s) := by
  have he : execSpiReplyPull n s = emit (.spiOut (fit n r.bytes)) s := by simp only [execSpiReplyPull, hr, hn, if_true]
  exact congrArg Host.Outcome.next (served_eq h hq he (emit_outer _ _))

theorem freeMailbox_eq (s : State) : freeMailbox s = { s with spi := { s.spi with cmdFree := (freeMailbox s).spi.cmdFree } } := by
  unfold freeMailbox
  dsimp only
  split <;> rfl

theorem spiReplyPull_whole {n : Nat} {r : Reply} {rest : List Reply} {s : State} (h : On s) (hq : s.dev.quill ≠ 0)
    (hr : s.spi.replies = r :: rest) (hn : r.bytes.length ≤ n) :
    Completes (.spiReplyPull n) s fun t => t.spi.replies = rest ∧ .spiOut (fit n r.bytes) ∈ t.out := by
  obtain ⟨u, hu⟩ : ∃ u : State, u = freeMailbox { emit (.spiOut (fit n r.bytes)) s with spi := { s.spi with replies := rest } } := ⟨_, rfl⟩
  have he : execSpiReplyPull n s = if rest.isEmpty then u else setCause 4 u := by
    have hn' : ¬ n < r.bytes.length := by omega
    simp only [execSpiReplyPull, hr, hn', if_false, hu]
    rfl
  rw [freeMailbox_eq] at hu
  have hout : Outer s u := by rw [hu]; exact ⟨rfl, rfl, rfl⟩
  have hrep : u.spi.replies = rest := by rw [hu]
  have hmem : .spiOut (fit n r.bytes) ∈ u.out := by rw [hu]; exact List.mem_cons_self
  by_cases hb : rest.isEmpty = true
  · exact ⟨u, congrArg Host.Outcome.next (served_eq h hq (he.trans (if_pos hb)) hout), hrep, hmem⟩
  · exact ⟨setCause 4 u, congrArg Host.Outcome.next (served_eq h hq (he.trans (if_neg hb)) (hout.trans (setCause_noted _ _).outer)),
      (congrArg Spi.replies (setCause_noted 4 u).spi).trans hrep, mem_setCause_out hmem 4⟩

/-- The bits of SPI STATUS (02 Table 2.15). -/
theorem statusBits (a b c : Bool) : (BitVec.ofNat 8 (b2n a + 2 * b2n b + 4 * b2n c)).getLsbD 0 = a ∧
    (BitVec.ofNat 8 (b2n a + 2 * b2n b + 4 * b2n c)).getLsbD 1 = b ∧ (BitVec.ofNat 8 (b2n a + 2 * b2n b + 4 * b2n c)).getLsbD 2 = c := by
  revert a b c
  decide

theorem spiStatus_answers {s : State} (h : On s) (hq : s.dev.quill ≠ 0) : Completes .spiStatus s fun t =>
    ∃ v : Byte, .spiOut [v] ∈ t.out ∧ v.getLsbD 0 = (s.spi.cmdFree && decide (s.dev.quill = 3)) ∧
      v.getLsbD 1 = !s.spi.replies.isEmpty ∧ v.getLsbD 2 = decide (s.dev.quill = 3) := by
  exact ⟨_, congrArg Host.Outcome.next (served_eq h hq rfl (emit_outer _ _)), _, List.mem_cons_self, statusBits _ _ _⟩

/-- HOST_SCRATCH is a register that every path writes (02 R36, R67). -/
theorem spiWrite_hostScratch {v : Word} {s : State} (h : Awake s) (hq : s.dev.quill = 3) :
    Completes (.spiWrite 0x1020 [v]) s fun t => t.dev.hostScratch = v := by
  have he : execSpiWrite 0x1020 [v] s = { s with dev := { s.dev with hostScratch := v } } := by
    have hdef : bar0Defined 0x1020 s = true := rfl
    have hw : writeWord .spi 0x1020 v false s = hostWrite (fun s => { s with dev := { s.dev with hostScratch := v } }) s := by
      simp only [writeWord, hdef]
      rfl
    exact hw.trans (hostWrite_awake h.awake _)
  exact ⟨_, congrArg Host.Outcome.next (ready_eq h.on hq he ⟨rfl, rfl, rfl⟩), rfl⟩

/-! ## Nonces, addresses without a register, records -/

/-- A nonce ends 512 ticks after its issue (02 R55). -/
theorem nonceExpiry_rings {x : Nonce} {s : State} (h : On s) (hx : s.cmd.nonceRings = some x) (hs : s.cmd.nonceSpi = none)
    (hr : s.role.nonce = none) : exec .nonceExpiry s = .next { s with cmd := { s.cmd with nonceRings := liveNonce s (some x) } } := by
  have he : execNonceExpiry s = { s with cmd := { s.cmd with nonceRings := liveNonce s (some x) } } := by
    have hspi : liveNonce s s.cmd.nonceSpi = s.cmd.nonceSpi := by rw [hs]; rfl
    have hrole : liveNonce s s.role.nonce = s.role.nonce := by rw [hr]; rfl
    rw [execNonceExpiry, hspi, hrole, hx]
  exact congrArg Host.Outcome.next (live_eq h he ⟨rfl, rfl, rfl⟩)

theorem liveNonce_old {x : Nonce} {s : State} (h : 512 ≤ ticksSince x.tick s) : liveNonce s (some x) = none := if_pos h

theorem liveNonce_young {x : Nonce} {s : State} (h : ticksSince x.tick s < 512) : liveNonce s (some x) = some x := if_neg (by omega)

/-- A write of an address at which no register is, is counted alone (02 R36). -/
theorem unmappedWrite_counted {p : Path} {bar : Bar} {addr : Nat} {s : State} (h : Reaches p s) (hd : addrDefined bar addr s = false)
    (ha : addr % 4 = 0) : exec (.unmappedAccess p true bar addr) s = .next (count .unmappedAccess 0 s) := by
  have he : execUnmappedAccess p true bar addr s = count .unmappedAccess 0 s := by
    simp only [execUnmappedAccess, hd, ha, ne_eq, not_true_eq_false, Bool.false_eq_true, or_self, if_false, if_true,
      hostWrite_awake h.awake.awake]
  exact congrArg Host.Outcome.next (via_eq h he (count_noted _ _ _).outer)

/-- Whether a register is at an address is a matter of its word (02 R36, R37). -/
theorem addrDefined_word {a b : Nat} (h : a / 4 = b / 4) (bar : Bar) (s : State) : addrDefined bar a s = addrDefined bar b s := by
  simp only [addrDefined, h]

/-- So is a write that is not aligned to a word. -/
theorem unalignedWrite_counted {p : Path} {bar : Bar} {addr : Nat} {s : State} (h : Reaches p s) (hd : addrDefined bar addr s = false) :
    exec (.unalignedAccess p true bar addr) s = .next (count .unmappedAccess 0 s) := by
  have he : execUnalignedAccess p true bar addr s = count .unmappedAccess 0 s := by
    simp only [execUnalignedAccess, hd, Bool.false_eq_true, if_false, if_true, hostWrite_awake h.awake.awake]
  exact congrArg Host.Outcome.next (via_eq h he (count_noted _ _ _).outer)

theorem evtPop_drops {s : State} (h : Awake s) (hq : s.dev.quill ≠ 0) :
    Completes (.evtPop 1 false) s fun t => t.evt.fifo = s.evt.fifo.drop 1 := by
  have he : execEvtPop 1 false s = { s with evt := { s.evt with fifo := s.evt.fifo.drop 1 } } := hostWrite_awake h.awake _
  exact ⟨_, congrArg Host.Outcome.next (served_eq h.on hq he ⟨rfl, rfl, rfl⟩), rfl⟩

theorem errPop_drops {s : State} (h : Awake s) (hq : s.dev.quill ≠ 0) :
    Completes (.errPop 1 false) s fun t => t.evt.errFifo = s.evt.errFifo.drop 1 := by
  have he : execErrPop 1 false s = { s with evt := { s.evt with errFifo := s.evt.errFifo.drop 1 } } := hostWrite_awake h.awake _
  exact ⟨_, congrArg Host.Outcome.next (served_eq h.on hq he ⟨rfl, rfl, rfl⟩), rfl⟩

/-- Settles O55: each row of the transport has its own rule above. -/
theorem commandTransportRowsTakeEffect : Obligations.CommandTransportRowsTakeEffect := by
  unfold Obligations.CommandTransportRowsTakeEffect
  intro s h
  refine ⟨fun ha hq n => ⟨ringEnable_starts ha hq, ringEnable_badSize ha hq, ringDisable_clears ha hq⟩,
    fun hq n p he hs => ⟨doorbell_taken h hq he hs, doorbell_outside h hq he hs, doorbell_asleep h hq⟩,
    fun desc data => commandDispatch_idle h,
    fun desc data hd hn => ⟨commandDispatch_unreadable h hd hn, commandDispatch_unowned h hd hn⟩,
    fun desc tag => commandDispatch_nop h, fun desc data d => commandDispatch_mail_badLength h,
    fun desc r rest hw hr hf ho hl => replyPost_posts h hw hr ⟨hf, ho, hl⟩,
    fun desc q f rest hw hr hq hfr hf ho hl => hostDelivery_posts h hw hr hq hfr ⟨hf, ho, hl⟩,
    fun data hq hc ha => ⟨spiCmdPush_free h hq hc ha, spiCmdPush_busy h (by omega)⟩,
    fun n hq => ⟨spiReplyPull_none h hq, fun r rest hr => ⟨spiReplyPull_part h hq hr, spiReplyPull_whole h hq hr⟩⟩,
    fun x hx hs hr => ?nonces, fun p bar addr hp hd ha => ⟨⟨_, unmappedWrite_counted hp hd ha, rfl⟩, ⟨_, unalignedWrite_counted hp ?_, rfl⟩⟩,
    fun ha hq => ⟨evtPop_drops ha hq, errPop_drops ha hq, spiStatus_answers h hq, fun v => spiWrite_hostScratch ha⟩⟩
  case nonces =>
    rw [nonceExpiry_rings h hx hs hr]
    refine ⟨fun ho => by rw [liveNonce_old ho], fun hy => ?_⟩
    rw [liveNonce_young hy, ← hx]
  · rw [addrDefined_word (b := addr) (by omega), hd]

end Sys2Proof.Machine
end

section
/-!
PROOFS. REGION_RESET of the Backplane region (02 R62; 19 Table 19.2): every worker goes to W0, and what waits in its tunnel fails.
-/

namespace Sys2Proof.Machine

/-- REGION_RESET of the Backplane region, alone. -/
def backplaneReset : Cmd := { op := 0x0103, req := { payload := [3, 0, 0, 0] } }

/-- It runs while worker 0 is in W2 and its tunnel holds a command of the same number. -/
def backplaneTrial : State :=
  { State.reset with cmd := { executing := [backplaneReset] }, workers := [(0, { state := 2, tunnel := [backplaneReset.seq] })] }

theorem backplaneTrial_runs : Runs 0x0103 backplaneReset.req backplaneReset backplaneTrial :=
  ⟨⟨rfl, rfl⟩, rfl, rfl, rfl, rfl, rfl, rfl, rfl, rfl, ⟨0, rfl⟩⟩

/-- Worker 0's way to W0 ends REGION_RESET itself with PEER_ABSENT. -/
theorem backplaneTrial_ends : (live (execRegionReset backplaneReset.req) backplaneTrial).cmd.executing = [] := by decide +kernel

/-- Refutes O56: where worker 0's tunnel names REGION_RESET's own number, the reset of the Backplane region ends that command with
PEER_ABSENT, and it is executing no more. The statement asks nothing of the other books that name commands; no run is claimed to reach
such a state. -/
theorem not_deviceCommandsAnswer : ¬ Obligations.DeviceCommandsAnswer := by
  unfold Obligations.DeviceCommandsAnswer
  intro h
  obtain ⟨-, -, -, hreset, -⟩ := h backplaneReset.req backplaneReset backplaneTrial
  obtain ⟨-, hbegin⟩ := hreset 3 (by decide) (by decide) backplaneTrial_runs
  obtain ⟨-, hnew⟩ := hbegin (.inl ⟨by decide, by decide⟩)
  obtain ⟨t, ht, -, -, -, x, hx, -⟩ := hnew (by decide)
  have he : t = live (execRegionReset backplaneReset.req) backplaneTrial := (Host.Outcome.next.inj ht).symm
  rw [he, backplaneTrial_ends] at hx
  exact absurd hx List.not_mem_nil

end Sys2Proof.Machine
end

section
/-!
PROOFS. The front of the queue, and the state right after reset (02 R46; 19 R415).
-/

namespace Sys2Proof.Machine

/-- Settles O1: it is the model's rule for a step on a queue with a front. -/
theorem stepRunsTheFrontCommand : Obligations.StepRunsTheFrontCommand := by
  unfold Obligations.StepRunsTheFrontCommand
  exact fun c rest s h => step_cons s c rest h

/-- No command, no PON, no ring, no pair, no lease and no grant at power good (19 R415). -/
theorem dark_reset : Dark State.reset where
  quill := rfl
  commands := ⟨rfl, rfl⟩
  instances := rfl
  rings := fun _ => rfl
  pair := ⟨rfl, rfl⟩
  leases := rfl
  grants := rfl

/-- Settles O3: each value is the one that State.reset writes down, and a dark part keeps the supply's invariant. -/
theorem resetStateHolds : Obligations.ResetStateHolds := by
  have latches (p : Path) : State.reset.latch p = {} := by cases p <;> rfl
  exact ⟨rfl, rfl, rfl, rfl, rfl, rfl, rfl, rfl, rfl, rfl, fun _ => rfl, fun _ => rfl, rfl, fun _ => rfl, fun _ => rfl, fun _ => rfl,
    fun _ => rfl, rfl, rfl, rfl, rfl, rfl, latches, dark_reset, fun _ => dark_reset⟩

end Sys2Proof.Machine
end

section
/-!
PROOFS. Messages and rows of a fibre channel pair: the step of a heard PLOAM message (03 R74, R76), and what the shared operations of the
fibre families leave.
-/

namespace Sys2Proof.Machine

/-- A row whose effect is t, with the outer state as before, completes with what holds of t. -/
theorem live_completes {s : State} {f : State → State} {P : State → Prop} (h : On s) (t : State) (hf : f s = t) (ho : Outer s t) (hP : P t) :
    ∃ t, (Host.Outcome.next (live f s) : Host.Outcome State Fault Refusal) = .next t ∧ P t :=
  ⟨t, congrArg Host.Outcome.next (live_eq h hf ho), hP⟩

/-- A heard message whose effect is t, with the outer state as before, is answered by t. -/
theorem Heard.next {i : Nat} {m : PloamRx} {s t : State} {f : State → State} (h : Heard i m s) (hf : f s = t) (ho : Outer s t) :
    (Host.Outcome.next (live (fun s => withPloam i m f s) s) : Host.Outcome State Fault Refusal) = .next t :=
  congrArg Host.Outcome.next (live_eq h.on ((h.acts f).trans hf) ho)

/-- The same where only a property of t is asked for. -/
theorem Heard.completes {i : Nat} {m : PloamRx} {s : State} {f : State → State} {P : State → Prop} (h : Heard i m s) (t : State)
    (hf : f s = t) (ho : Outer s t) (hP : P t) :
    ∃ t, (Host.Outcome.next (live (fun s => withPloam i m f s) s) : Host.Outcome State Fault Refusal) = .next t ∧ P t :=
  live_completes h.on t ((h.acts f).trans hf) ho hP

/-! ## Only one channel pair has changed -/

/-- From s to t no part of the state but channel pair i has changed. -/
structure Touched (i : Nat) (s t : State) : Prop where
  rest : t = { s with insts := t.insts }
  other : ∀ j, j ≠ i → t.inst j = s.inst j

theorem Touched.trans {i : Nat} {s t u : State} (h : Touched i s t) (k : Touched i t u) : Touched i s u :=
  ⟨Eq.trans k.rest (congrArg (fun x : State => { x with insts := u.insts }) h.rest), fun j hj => (k.other j hj).trans (h.other j hj)⟩

theorem modInst_touched (i : Nat) (f : Inst → Inst) (s : State) : Touched i s (s.modInst i f) := ⟨rfl, fun _ hj => inst_modInst_other s hj f⟩

theorem sendOwn_touched (i : Nat) (u : UpItem) (s : State) : Touched i s (sendOwn i u s) := modInst_touched i _ s

theorem Touched.outer {i : Nat} {s t : State} (h : Touched i s t) : Outer s t :=
  ⟨(congrArg State.pending h.rest :), (congrArg (fun x => x.hot.powered) h.rest :), (congrArg State.boot h.rest :)⟩

@[simp] theorem sendOwn_inst_same (i : Nat) (u : UpItem) (s : State) :
    (sendOwn i u s).inst i = { s.inst i with upOwn := (s.inst i).upOwn ++ [u] } := inst_modInst_same s i _

/-! ## Only channel pairs and what is noted have changed -/

theorem Noted.insts_trans {s t u : State} (h : Noted { s with insts := t.insts } t) (k : Noted { t with insts := u.insts } u) :
    Noted { s with insts := u.insts } u :=
  Noted.trans (congrArg (fun x : State => { x with insts := u.insts }) h.eq :) k

theorem Noted.insts_outer {s t : State} (h : Noted { s with insts := t.insts } t) : Outer s t :=
  Outer.trans (t := { s with insts := t.insts }) ⟨rfl, rfl, rfl⟩ h.outer

/-! ## Into a state that may launch -/

/-- What a channel pair holds once it is in state st, as far as the change of state goes (03 R73; 16 R375). -/
def Inst.entered (x : Inst) (st : Nat) : Inst :=
  { x with st, sleepAllowed := x.sleepAllowed && (decide (st = 0x51) || decide (st = 0x52)) }

section launching

variable {i st : Nat} {s u : State} (hl : stateLaunches st = true) (hn : (u.inst i).st ≠ st)

include hl hn

theorem enterState_launching_same : (enterState i st u).inst i = (u.inst i).entered st := enterState_launching_inst hl hn

/-- Into a state that may launch, nothing but the channel pair, the tick channel and the books changes. -/
theorem enterState_launching_rest : Books { u with insts := (enterState i st u).insts, clk := (enterState i st u).clk } (enterState i st u) := by
  have h := enterState_launching hl hn
  rw [h.insts]
  exact h

theorem enterState_launching_other {j : Nat} (hj : j ≠ i) : (enterState i st u).inst j = u.inst j :=
  (inst_of_insts (s := u.modInst i fun x => x.entered st) (enterState_launching hl hn).insts j).trans (inst_modInst_other u hj _)

theorem enterState_launching_alloc (c : Nat) : (enterState i st u).alloc c = u.alloc c :=
  alloc_of_allocs (enterState_launching_rest hl hn).allocs c

/-- The same after a change of the channel pair itself. -/
theorem Touched.enters (h : Touched i s u) : (∀ j, j ≠ i → (enterState i st u).inst j = s.inst j) ∧
    Books { s with insts := (enterState i st u).insts, clk := (enterState i st u).clk } (enterState i st u) := by
  refine ⟨fun j hj => (enterState_launching_other hl hn hj).trans (h.other j hj), ?_⟩
  have hb := enterState_launching_rest hl hn
  rw [h.rest] at hb
  rw [h.rest]
  exact hb

end launching

/-! ## Slots -/

theorem setAlloc_outer (c : Nat) (v : AllocCtx) (s : State) : Outer s (s.setAlloc c v) := ⟨rfl, rfl, rfl⟩

theorem releaseSlot_outer (c : Nat) (s : State) : Outer s (releaseSlot c s) :=
  Outer.trans (t := { s with insts := (releaseSlot c s).insts, allocs := (releaseSlot c s).allocs, workers := (releaseSlot c s).workers })
    ⟨rfl, rfl, rfl⟩ (releaseSlot_rest c s).outer

theorem releaseSlot_ownTick (c : Nat) (s : State) : ownTick (releaseSlot c s) = ownTick s := by
  simp only [ownTick, (releaseSlot_rest c s).clk]

end Sys2Proof.Machine
end

section
/-!
PROOFS. The messages that give and take a channel pair's identity, and profiles (03 R74, R77, R78, R81; 05 R129; Table 3.4).
-/

namespace Sys2Proof.Machine

theorem burstProfile_stores {i index : Fin 4} {m : PloamRx} {psbu : Nat} {fec fits : Bool} {s : State} (h : Heard i m s)
    (hn : SMap.get {} (s.inst i).burst index ≠ { stored := true, valid := fits, fec, psbu }) :
    Completes (.burstProfile i m index psbu fec fits) s fun t =>
      SMap.get {} (t.inst i).burst index = { stored := true, valid := fits, fec, psbu } := by
  refine h.completes _ (if_neg hn) ((modInst_outer _ _ _).trans (tryProfiles_outer _ _ _)) ?_
  rw [(tryProfiles_learned _ _ _).1, inst_modInst_same, SMap.get_set_same]

theorem assignOnuId_ranges {i : Fin 4} {m : PloamRx} {vssn : Word} {onuId : BitVec 10} {s : State} (h : Heard i m s)
    (hst : (s.inst i).st = 0x23) (hv : vssn.toNat = vssnOf i s) :
    Completes (.assignOnuId i m vendorId vssn onuId) s fun t => (t.inst i).st = 0x40 ∧ (t.inst i).onuId = some onuId.toNat ∧
      (t.inst i).to1 = some (ownTick s) ∧ (t.alloc (256 * i)).allocId = some onuId.toNat := by
  obtain ⟨_, _, hi⟩ := releaseSlot_inst (256 * i) i s
  obtain ⟨r, hr⟩ : ∃ r, r = releaseSlot (256 * i) s := ⟨_, rfl⟩
  obtain ⟨v, hv'⟩ : ∃ v, v = r.setAlloc (256 * i) { r.alloc (256 * i) with allocId := some onuId.toNat } := ⟨_, rfl⟩
  obtain ⟨u, hu⟩ : ∃ u, u = v.modInst i fun x => { x with onuId := some onuId.toNat, to1 := some (ownTick v) } := ⟨_, rfl⟩
  have ho : Outer s u := by
    rw [hu, hv', hr]
    exact ((releaseSlot_outer _ _).trans (setAlloc_outer _ _ _)).trans (modInst_outer _ _ _)
  have hvi : v.inst i = r.inst i := by rw [hv', setAlloc_inst]
  have hvt : ownTick v = ownTick s := by
    rw [hv', ← releaseSlot_ownTick (256 * i) s, hr]
    rfl
  have hui : u.inst i = { r.inst i with onuId := some onuId.toNat, to1 := some (ownTick s) } := by
    rw [hu, inst_modInst_same, hvi, hvt]
  have hn : (u.inst i).st ≠ 0x40 := by
    rw [hui, hr, hi, hst]
    decide
  refine h.completes (enterState i 0x40 u) ?_ (ho.trans (enterState_outer _ _ _)) ?_
  · rw [hu, hv', hr]
    exact if_pos ⟨hst, rfl, hv⟩
  · rw [enterState_launching_same rfl hn, enterState_launching_alloc rfl hn, hui]
    refine ⟨rfl, rfl, rfl, ?_⟩
    rw [hu, modInst_alloc, hv', alloc_setAlloc_same]

/-- Without a noted exit, entering O5 is a change of state alone (03 R83). -/
theorem noteEntry_none {i : Nat} {s : State} (h : (s.inst i).flapExit = none) : noteEntry i s = s := by
  simp only [noteEntry, h]

theorem rangingTime_accepted {i : Fin 4} {m : PloamRx} {eqd : Nat} {s : State} (h : Heard i m s) (hst : (s.inst i).st = 0x40)
    (he : eqd ≤ (s.inst i).cfg.eqdLimit) (hf : (s.inst i).flapExit = none) :
    Completes (.rangingTime i m eqd false) s fun t => (t.inst i).st = 0x51 ∧ (t.inst i).to1 = none ∧
      (t.inst i).upOwn = (s.inst i).upOwn ++ [{ msg := .acknowledge 0 m.seqno, eqd := some eqd }] ∧
      (∀ j, j ≠ i.val → t.inst j = s.inst j) ∧ Books { s with insts := t.insts, clk := t.clk } t := by
  obtain ⟨v, hv⟩ : ∃ v, v = s.modInst i fun x => { x with to1 := none } := ⟨_, rfl⟩
  have hvi : v.inst i = { s.inst i with to1 := none } := by rw [hv, inst_modInst_same]
  obtain ⟨u, hu⟩ : ∃ u, u = sendOwn i { msg := .acknowledge 0 m.seqno, eqd := some eqd } v := ⟨_, rfl⟩
  have hui : u.inst i = { v.inst i with upOwn := (v.inst i).upOwn ++ [{ msg := .acknowledge 0 m.seqno, eqd := some eqd }] } := by
    rw [hu, sendOwn_inst_same]
  have ht : Touched i s u := by
    rw [hu, hv]
    exact (modInst_touched _ _ _).trans (sendOwn_touched _ _ _)
  have hn : (u.inst i).st ≠ 0x51 := by
    rw [hui, hvi, hst]
    decide
  have hx := enterState_launching_same rfl hn
  have hgood : decide (0 ≤ (eqd : Int) ∧ (eqd : Int) ≤ (s.inst i).cfg.eqdLimit) = true := by
    simp only [decide_eq_true_eq]
    omega
  obtain ⟨hother, hbooks⟩ := ht.enters rfl hn
  refine h.completes (enterState i 0x51 u) ?_ (ht.outer.trans (enterState_outer _ _ _)) ?_
  · simp only [hst, hgood, if_true, Bool.false_eq_true, if_false, enterO5, Int.toNat_natCast, ← hv, ← hu]
    exact noteEntry_none (by rw [hx, hui, hvi]; exact hf)
  · rw [hx, hui, hvi]
    exact ⟨rfl, rfl, rfl, hother, hbooks⟩

theorem deactivateOnuId_inO4 {i : Fin 4} {m : PloamRx} {s : State} (h : Heard i m s) (hst : (s.inst i).st = 0x40) :
    Completes (.deactivateOnuId i m) s fun t => (t.inst i).st = 0x23 ∧ (t.inst i).onuId = none ∧ (t.inst i).eqd = 0 ∧
      (t.inst i).to1 = none := by
  refine h.completes (dropIdentity i (enterState i 0x23 s)) (if_pos hst) ((enterState_outer _ _ _).trans (dropIdentity_outer _ _)) ?_
  rw [dropIdentity_inst]
  exact ⟨enterState_st _ _ _, rfl, rfl, rfl⟩

/-- A change of state leaves the group's phase. -/
theorem enterState_ligPhase (i st : Nat) (s : State) : (enterState i st s).lig.phase = s.lig.phase := by
  obtain ⟨_, _, _, e⟩ := (enterState_entered i st s).lig
  rw [e]

theorem disableSerialNumber_inO4 {i : Fin 4} {m : PloamRx} {vssn : Word} {s : State} (h : Heard i m s) (hst : (s.inst i).st = 0x40)
    (hv : vssn.toNat = vssnOf i s) (hl : s.lig.phase = .none) :
    Completes (.disableSerialNumber i m vendorId vssn false) s fun t => (t.inst i).st = 0x70 ∧ (t.inst i).onuId = none ∧
      (t.inst i).txGrid = none ∧ (t.inst i).txLocked = false := by
  obtain ⟨u, hu⟩ : ∃ u, u = enterState i 0x70 s := ⟨_, rfl⟩
  have hul : removeMember i u = u := removeMember_none (by rw [hu, enterState_ligPhase, hl])
  have hust : (u.inst i).st = 0x70 := by rw [hu, enterState_st]
  have ho5 : ¬ ((s.inst i).inO5 || decide ((s.inst i).st = 0x60)) = true := by
    simp only [Inst.inO5, hst]
    decide
  have hmem : [0x23, 0x40, 0x51, 0x52, 0x60, 0x81, 0x82, 0x90].contains (s.inst i).st = true := by
    rw [hst]
    rfl
  obtain ⟨v, hv'⟩ : ∃ v, v = u.modInst i fun x => { x with tune := none, to2 := none, to3 := none, to4 := none, to5 := none } := ⟨_, rfl⟩
  have hvst : (v.inst i).st = 0x70 := by rw [hv', inst_modInst_same, hust]
  have hvo : Outer s v := by
    rw [hv', hu]
    exact (enterState_outer _ _ _).trans (modInst_outer _ _ _)
  refine h.completes (laserOff i (dropIdentity i v)) ?_ (hvo.trans ((dropIdentity_outer _ _).trans (laserOff_outer _ _))) ?_
  · rw [hv', ← hul, hu]
    simp only [hv, hmem, ho5, and_self, if_true, Bool.false_eq_true, if_false]
  · rw [laserOff_inst, dropIdentity_inst]
    exact ⟨hvst, rfl, rfl, rfl⟩

theorem channelProfile_new {i : Fin 4} {m : PloamRx} {p : Profile} {raw : Bytes} {s : State} (h : Heard i m s)
    (hn : ∀ e ∈ (s.inst i).profiles, e.profile.index ≠ p.index) : Completes (.channelProfile i m (some p) raw) s fun t =>
      ∃ e ∈ (t.inst i).profiles, e.profile = p ∧ e.tick = ownTick s ∧ e.usable = profileUsable (s.inst i) p := by
  have hf : (s.inst i).profiles.find? (fun e => decide (e.profile.index = p.index)) = none :=
    List.find?_eq_none.2 fun e he => by simpa using hn e he
  obtain ⟨n, hnew⟩ : ∃ n : StoredProfile, n = { profile := p, usable := profileUsable (s.inst i) p, tick := ownTick s } := ⟨_, rfl⟩
  obtain ⟨u, hu⟩ : ∃ u, u = if n.usable then s else count .channelProfileUnusable i s := ⟨_, rfl⟩
  have ho : Outer s u := by
    rw [hu]
    split
    · exact Outer.refl s
    · exact (count_noted _ _ _).outer
  refine h.completes (tryProfiles i false (u.modInst i fun x => { x with
      profiles := (s.inst i).profiles.filter (fun e => e.profile.index ≠ p.index) ++ [n] })) ?_
    ((ho.trans (modInst_outer _ _ _)).trans (tryProfiles_outer _ _ _)) ⟨n, ?_, ?_⟩
  · simp only [hf, hu, hnew]
  · rw [(tryProfiles_learned _ _ _).2, inst_modInst_same]
    exact List.mem_append_right _ List.mem_cons_self
  · rw [hnew]
    exact ⟨rfl, rfl, rfl⟩

/-- Settles O12: each message that is heard has its own rule above. -/
theorem identityMessagesTakeEffect : Obligations.IdentityMessagesTakeEffect := by
  unfold Obligations.IdentityMessagesTakeEffect
  intro i m s h
  exact ⟨fun _ _ _ _ => burstProfile_stores h, fun _ _ => assignOnuId_ranges h, fun _ => rangingTime_accepted h, deactivateOnuId_inO4 h,
    fun _ => disableSerialNumber_inO4 h, fun _ _ => channelProfile_new h, fun _ => h.next rfl (modInst_outer _ _ _)⟩

end Sys2Proof.Machine
end

section
/-!
PROOFS. The messages of tuning and protection, TUNING_EXECUTE (03 R72, R79; Tables 3.4, 3.5), and the activation timers (03 R75).
-/

namespace Sys2Proof.Machine

/-! ## Shared operations -/

theorem acknowledge_touched (i code seqno : Nat) (s : State) : Touched i s (acknowledge i code seqno s) := sendOwn_touched _ _ _

/-- What noting an entry to O5 can do: the flap book of its channel pair alone changes (03 R83). -/
theorem noteEntry_facts (i : Nat) (s : State) : (∃ a b c, (noteEntry i s).inst i =
    { s.inst i with flapExit := a, flapCount := b, flapArmed := c }) ∧ Outer s (noteEntry i s) := by
  unfold noteEntry
  extract_lets x u n v
  have hu : u.inst i = { s.inst i with flapExit := none } ∧ Outer s u := ⟨inst_setInst_same s i _, rfl, rfl, rfl⟩
  have hv : v.inst i = { u.inst i with flapCount := n } ∧ Outer u v := by
    refine ⟨(count_inst _ _ _ i).trans (inst_modInst_same u i fun y => { y with flapCount := n } :), ?_⟩
    exact (modInst_outer i _ u).trans ((noteRc_noted _ _ _ _).outer.trans (count_noted _ _ _).outer)
  clear_value v
  split
  · exact ⟨⟨_, _, _, rfl⟩, Outer.refl s⟩
  · split
    · split
      · rw [raise_inst, inst_modInst_same, hv.1, hu.1]
        exact ⟨⟨_, _, _, rfl⟩, (hu.2.trans hv.2).trans ((modInst_outer i _ v).trans (raise_noted _ _ _ _ _).outer)⟩
      · rw [hv.1, hu.1]
        exact ⟨⟨_, _, _, rfl⟩, hu.2.trans hv.2⟩
    · exact ⟨⟨_, _, _, hu.1⟩, hu.2⟩

/-! ## Messages -/

theorem tuningControl_accepted {i : Fin 4} {m : PloamRx} {req : TuneReq} {s : State} (h : Heard i m s) (hst : (s.inst i).st = 0x51)
    (hu : profileUsable (s.inst i) req.profile = true) (hr : rxHeld i req.profile.dsGrid s = false)
    (hx : txHeld i req.profile.usGrid s = false) :
    Completes (.tuningControl i m req) s fun t => (t.inst i).st = 0x52 ∧ (t.inst i).tune = some req ∧
      (t.inst i).to5 = some (ownTick s) ∧ (t.inst i).upOwn = (s.inst i).upOwn ++ [{ msg := .tuningResponse true 0 }] ∧
      (∀ j, j ≠ i.val → t.inst j = s.inst j) ∧ Books { s with insts := t.insts, clk := t.clk } t := by
  obtain ⟨v, hv⟩ : ∃ v, v = s.modInst i fun x => { x with tune := some req, to5 := some (ownTick s) } := ⟨_, rfl⟩
  obtain ⟨w, hw⟩ : ∃ w, w = sendOwn i { msg := .tuningResponse true 0 } v := ⟨_, rfl⟩
  have hwi : w.inst i = { s.inst i with
      tune := some req, to5 := some (ownTick s), upOwn := (s.inst i).upOwn ++ [{ msg := .tuningResponse true 0 }] } := by
    rw [hw, sendOwn_inst_same, hv, inst_modInst_same]
  have ht : Touched i s w := by
    rw [hw, hv]
    exact (modInst_touched _ _ _).trans (sendOwn_touched _ _ _)
  have hn : (w.inst i).st ≠ 0x52 := by
    rw [hwi, hst]
    decide
  obtain ⟨hother, hbooks⟩ := ht.enters rfl hn
  refine h.completes (enterState i 0x52 w) ?_ (ht.outer.trans (enterState_outer _ _ _)) ?_
  · simp only [hst, hu, hr, hx, hw, hv, Bool.not_true, Bool.or_self, Bool.false_eq_true, if_true, if_false]
  · rw [enterState_launching_same rfl hn, hwi]
    exact ⟨rfl, rfl, rfl, rfl, hother, hbooks⟩

theorem tuningTargetPloam_completes {i : Fin 4} {m : PloamRx} {s : State} (h : Heard i m s) (hst : (s.inst i).st = 0x90)
    (hid : (s.inst i).onuId = some m.onuId) (hx : (s.inst i).txLocked = true) :
    Completes (.tuningTargetPloam i m) s fun t => (t.inst i).st = 0x51 ∧ (t.inst i).to4 = none ∧ (t.inst i).tune = none := by
  obtain ⟨v, hv⟩ : ∃ v, v = s.modInst i fun x => { x with to4 := none, tune := none } := ⟨_, rfl⟩
  have hvi : v.inst i = { s.inst i with to4 := none, tune := none } := by rw [hv, inst_modInst_same]
  have hn : (v.inst i).st ≠ 0x51 := by
    rw [hvi, hst]
    decide
  obtain ⟨⟨_, _, _, he⟩, ho⟩ := noteEntry_facts i (enterState i 0x51 v)
  refine h.completes (enterO5 i 0x51 v) (by rw [hv]; exact if_pos ⟨hst, hid, hx⟩) ?_ ?_
  · refine Outer.trans (t := v) ?_ ((enterState_outer _ _ _).trans ho)
    rw [hv]
    exact modInst_outer _ _ _
  · rw [enterO5, he, enterState_launching_same rfl hn, hvi]
    exact ⟨rfl, rfl, rfl⟩

theorem adjustTxWavelength_within {i : Fin 4} {m : PloamRx} {d v : Int} {s : State} (h : Heard i m s)
    (hv : v = (s.inst i).fineNext.getD (s.inst i).fine + d) (hb : v.natAbs ≤ 20) :
    exec (.adjustTxWavelength i m d) s = .next (s.modInst i fun x => { x with fineNext := some v }) := by
  subst hv
  exact h.next (if_pos hb) (modInst_outer _ _ _)

theorem adjustTxWavelength_beyond {i : Fin 4} {m : PloamRx} {d v : Int} {s : State} (h : Heard i m s)
    (hv : v = (s.inst i).fineNext.getD (s.inst i).fine + d) (hb : 20 < v.natAbs) :
    Completes (.adjustTxWavelength i m d) s fun t =>
      t.inst i = { s.inst i with upOwn := (s.inst i).upOwn ++ [{ msg := .acknowledge 1 m.seqno }] } := by
  subst hv
  refine h.completes _ (if_neg (by omega)) ((acknowledge_touched _ _ _ _).outer.trans (count_noted _ _ _).outer) ?_
  rw [count_inst, acknowledge, sendOwn_inst_same]

/-! ## Delivery to the host (04 R107) -/

/-- A frame enters a queue's tail; beside queues and shapers only the books change. -/
theorem pushFrame_rest (q : Nat) (f : Frame) (s : State) :
    Books { s with queues := (pushFrame q f s).queues, shapers := (pushFrame q f s).shapers } (pushFrame q f s) := by
  unfold pushFrame noteWaiting
  dsimp only
  rw [wakeShapers_eq]
  split <;> exact rfl

theorem pushFrame_frames (q : Nat) (f : Frame) (s : State) : ((pushFrame q f s).queue q).frames = (s.queue q).frames ++ [f] := by
  have hq : (noteWaiting q (wakeShapers (s.queue q).shapers.list s)).queue q = s.queue q := by
    rw [queue_of_queues (noteWaiting_noted q _).books.queues, wakeShapers_eq]
    rfl
  simp only [pushFrame, queue_setQueue_same, hq]

theorem pushFrame_outer (q : Nat) (f : Frame) (s : State) : Outer s (pushFrame q f s) :=
  Outer.trans (t := { s with queues := (pushFrame q f s).queues, shapers := (pushFrame q f s).shapers }) ⟨rfl, rfl, rfl⟩
    (pushFrame_rest q f s).outer

/-- A message for the host takes a TAG; nothing else of its channel pair changes. -/
theorem deliverPloam_inst (i : Nat) (raw : Bytes) (s : State) :
    (deliverPloam i raw s).inst i = { s.inst i with ploamTag := ((s.inst i).ploamTag + 1) % 65536 } := by
  unfold deliverPloam
  dsimp only
  split
  · rw [count_inst, inst_setInst_same]
  · exact (inst_of_insts (pushFrame_rest _ _ _).insts i).trans (inst_setInst_same s i _)

theorem deliverPloam_outer (i : Nat) (raw : Bytes) (s : State) : Outer s (deliverPloam i raw s) := by
  unfold deliverPloam
  extract_lets x u q payload
  have hu : Outer s u := ⟨rfl, rfl, rfl⟩
  split
  · exact hu.trans (count_noted _ _ _).outer
  · exact hu.trans (pushFrame_outer _ _ _)

/-- While fewer than 64 wait, it is queued with the TAG it has taken. -/
theorem deliverPloam_queues {i : Nat} {raw : Bytes} {s : State} (hq : (s.queue (12292 + i)).frames.length < 64) :
    ∃ f, ((deliverPloam i raw s).queue (12292 + i)).frames = (s.queue (12292 + i)).frames ++ [f] ∧
      f.pkt = some { op := 0x0F81, tag := (s.inst i).ploamTag, tick := s.clk.tick } := by
  have hroom : ¬ 64 ≤ ((s.setInst i { s.inst i with ploamTag := ((s.inst i).ploamTag + 1) % 65536 }).queue (12292 + i)).frames.length :=
    Nat.not_le.2 hq
  simp only [deliverPloam, hroom, if_false, pushFrame_frames]
  exact ⟨_, rfl, rfl⟩

theorem protectionControl_stores {i : Fin 4} {m : PloamRx} {pair : Nat} {raw : Bytes} {s : State} (h : Heard i m s)
    (hst : (s.inst i).st = 0x51) : Completes (.protectionControl i m pair raw) s fun t => (t.inst i).st = 0x52 ∧
      (t.inst i).protPair = some pair ∧ (t.inst i).to5 = some (ownTick s) := by
  obtain ⟨v, hv⟩ : ∃ v, v = acknowledge i 0 m.seqno (s.modInst i fun x => { x with protPair := some pair, to5 := some (ownTick s) }) :=
    ⟨_, rfl⟩
  have hvi : v.inst i = { s.inst i with
      protPair := some pair, to5 := some (ownTick s), upOwn := (s.inst i).upOwn ++ [{ msg := .acknowledge 0 m.seqno }] } := by
    rw [hv, acknowledge, sendOwn_inst_same, inst_modInst_same]
  have hvo : Outer s v := by
    rw [hv]
    exact (modInst_outer _ _ _).trans (acknowledge_touched _ _ _ _).outer
  have hn : (v.inst i).st ≠ 0x52 := by
    rw [hvi, hst]
    decide
  refine h.completes (deliverPloam i raw (enterState i 0x52 v)) ?_ (hvo.trans ((enterState_outer _ _ _).trans (deliverPloam_outer _ _ _))) ?_
  · rw [hv]
    exact congrArg (deliverPloam i raw) (if_pos hst)
  · rw [deliverPloam_inst, enterState_launching_same rfl hn, hvi]
    exact ⟨rfl, rfl, rfl⟩

theorem requestRegistration_answered {i : Fin 4} {m : PloamRx} {s : State} (h : Heard i m s) (ho : (s.inst i).onuId ≠ none) :
    exec (.requestRegistration i m) s = .next (s.modInst i fun x =>
      { x with upOwn := x.upOwn ++ [{ msg := .registration (fit 36 x.regId) }] }) :=
  h.next (if_pos (Option.isSome_iff_ne_none.2 ho)) (modInst_outer _ _ _)

/-! ## TUNING_EXECUTE -/

/-- Giving up a receive wavelength changes channel pairs and the books alone. -/
theorem yieldRx_rest (i : Nat) (s : State) : Noted { s with insts := (yieldRx i s).insts } (yieldRx i s) := by
  unfold yieldRx tuneRx
  dsimp only
  split
  · exact rfl
  · rw [raise_insts]
    exact raise_noted _ _ _ _ _

theorem yieldRxs_rest (l : List Nat) (s : State) : ∀ t : State, Noted { s with insts := t.insts } t →
    Noted { s with insts := (l.foldl (fun s j => yieldRx j s) t).insts } (l.foldl (fun s j => yieldRx j s) t) := by
  induction l with
  | nil => exact fun _ h => h
  | cons a l ih => exact fun t h => ih (yieldRx a t) (h.insts_trans (yieldRx_rest a t))

/-- So does asking for one (03 R70). -/
theorem takeRx_rest (i : Nat) (g : Int) (q : Bool) (s : State) : Noted { s with insts := (takeRx i g q s).insts } (takeRx i g q s) := by
  unfold takeRx
  split
  · extract_lets u
    have hu : Noted s u := by
      unfold u
      split
      · exact Noted.refl s
      · exact raise_noted _ _ _ _ _
    split
    · rw [hu.books.insts]
      exact hu
    · exact (congrArg (fun x : State => { x with insts := (tuneRx i none u).insts }) hu.eq :)
  · exact yieldRxs_rest _ s _ rfl

theorem takeRx_ownTick (i : Nat) (g : Int) (q : Bool) (s : State) : ownTick (takeRx i g q s) = ownTick s := by
  simp only [ownTick, (takeRx_rest i g q s).books.clk]

theorem laserOff_ownTick (i : Nat) (s : State) : ownTick (laserOff i s) = ownTick s := by
  unfold laserOff
  rw [goDark_eq]
  rfl

theorem yieldTx_ownTick (i : Nat) (s : State) : ownTick (yieldTx i s) = ownTick s := by
  have hr (u : State) : ownTick (raise .usWlConflict 1 i 0 u) = ownTick u := by simp only [ownTick, raise_clk]
  unfold yieldTx
  dsimp only
  rw [hr, laserOff_ownTick]
  split
  · exact enterState_ownTick _ _ _
  · split
    · exact enterState_ownTick _ _ _
    · rfl

theorem takeTx_ownTick (i : Nat) (g : Int) (s : State) : ownTick (takeTx i g s) = ownTick s := by
  unfold takeTx
  exact List.foldlRecOn (motive := fun u => ownTick u = ownTick s) _ _ rfl fun u hu j _ => (yieldTx_ownTick j u).trans hu

/-- Tuning the laser to a target, or putting it out where the target is held (03 R70, Table 3.4). -/
def retuneTx (i : Nat) (g : Int) (s : State) : State :=
  if txHeld i g s then laserOff i (raise .usWlConflict 1 i 0 s) else takeTx i g s

/-- What it leaves of its channel pair. -/
theorem retuneTx_facts (i : Nat) (g : Int) (s : State) : ((retuneTx i g s).inst i).st = (s.inst i).st ∧
    ((retuneTx i g s).inst i).burst = (s.inst i).burst ∧ ownTick (retuneTx i g s) = ownTick s ∧ Outer s (retuneTx i g s) := by
  unfold retuneTx
  split
  · rw [laserOff_inst, raise_inst, laserOff_ownTick]
    refine ⟨rfl, rfl, ?_, (raise_noted _ _ _ _ _).outer.trans (laserOff_outer _ _)⟩
    simp only [ownTick, raise_clk]
  · obtain ⟨_, e⟩ := takeTx_inst i g s
    rw [e, takeTx_ownTick]
    exact ⟨rfl, rfl, rfl, takeTx_outer _ _ _⟩

theorem tuningExecute_tunes {i : Fin 4} {r : TuneReq} {s : State} (h : On s) (ht : (s.inst i).tune = some r) (hst : (s.inst i).st = 0x52)
    (hy : (s.inst i).sync.state = 2) (hf : (s.inst i).sync.sfc = r.superframe) (hl : s.lig.phase = .none) :
    Completes (.tuningExecute i) s fun t => (t.inst i).st = 0x81 ∧ (t.inst i).to3 = some (ownTick s) ∧
      (t.inst i).to4 = some (ownTick s) ∧ (t.inst i).to5 = none ∧ (t.inst i).sync.state = 0 ∧ (t.inst i).burst = [] := by
  obtain ⟨a, ha⟩ : ∃ a, a = enterState i 0x81 s := ⟨_, rfl⟩
  have hal : removeMember i a = a := removeMember_none (by rw [ha, enterState_ligPhase, hl])
  obtain ⟨b, hb⟩ : ∃ b, b = dropBurstProfiles i (abortReassembly i false a) := ⟨_, rfl⟩
  have hbi : (b.inst i).st = 0x81 ∧ (b.inst i).burst = [] := by
    rw [hb, dropBurstProfiles, inst_modInst_same]
    refine ⟨?_, rfl⟩
    simp only [abortReassembly, Bool.false_eq_true, if_false, inst_modInst_same, ha, enterState_st]
  have hbt : ownTick b = ownTick s := by
    rw [← enterState_ownTick i 0x81 s, ← ha, hb]
    rfl
  have hbo : Outer s b := by
    refine Outer.trans (t := a) (by rw [ha]; exact enterState_outer _ _ _) ?_
    rw [hb]
    exact ⟨rfl, rfl, rfl⟩
  obtain ⟨d, hd⟩ : ∃ d, d = takeRx i r.profile.dsGrid false b := ⟨_, rfl⟩
  obtain ⟨⟨_, _, _, hdi⟩, -, hdo⟩ := takeRx_facts i r.profile.dsGrid false b
  have hdt : ownTick d = ownTick s := by rw [hd, takeRx_ownTick, hbt]
  obtain ⟨hst', hburst, htick, hout⟩ := retuneTx_facts i r.profile.usGrid d
  obtain ⟨e, he⟩ : ∃ e, e = retuneTx i r.profile.usGrid d := ⟨_, rfl⟩
  have hexec : execTuningExecute i s = e.modInst i fun x => { x with
      to3 := some (ownTick e), to4 := some (ownTick e), to5 := none, sync := { x.sync with state := 0, misses := 0, kept := none } } := by
    simp only [execTuningExecute, ht, hst, hy, hf, and_self, if_true, ← ha, hal, ← hb, ← hd]
    rw [he]
    rfl
  refine live_completes h _ hexec ?_ ?_
  · refine Outer.trans ?_ (modInst_outer _ _ e)
    rw [he]
    refine Outer.trans ?_ hout
    rw [hd]
    exact hbo.trans hdo
  · rw [inst_modInst_same, he, htick, hdt]
    refine ⟨?_, rfl, rfl, rfl, rfl, ?_⟩
    · exact hst'.trans (by rw [hd, hdi]; exact hbi.1)
    · exact hburst.trans (by rw [hd, hdi]; exact hbi.2)

/-- Settles O13: each message, and the execution of a tuning, has its own rule above. -/
theorem tuningMessagesTakeEffect : Obligations.TuningMessagesTakeEffect := by
  unfold Obligations.TuningMessagesTakeEffect
  intro i s
  exact ⟨fun m h => ⟨fun _ => tuningControl_accepted h, tuningTargetPloam_completes h,
    fun _ _ hv => ⟨adjustTxWavelength_within h hv, adjustTxWavelength_beyond h hv⟩, fun _ _ => protectionControl_stores h,
    requestRegistration_answered h⟩, fun _ => tuningExecute_tunes⟩

end Sys2Proof.Machine
end

section
/-!
PROOFS. The messages of service: Alloc-IDs (05 R129), keys (13 R333), sleep (16 R375), launch power (21 R458), the consumption report and
what goes on to the host (03 R76; 04 R107).
-/

namespace Sys2Proof.Machine

/-! ## Alloc-IDs (05 R129) -/

theorem assignAllocId_assigns {i : Fin 4} {m : PloamRx} {id : BitVec 14} {c : Nat} {s : State} (h : Heard i m s)
    (ho : (s.inst i).onuId ≠ none)
    (hn : (ctxsOf i).find? (fun c => decide ((s.alloc c).allocId = some id.toNat) && !(s.alloc c).freed) = none)
    (hc : (ctxsOf i).find? (fun c => decide ((s.alloc c).allocId = none) && !namedReservoir c s) = some c) :
    Completes (.assignAllocId i m id true) s fun t => (t.alloc c).allocId = some id.toNat ∧ (∀ d, d ≠ c → t.alloc d = s.alloc d) ∧
      Books { s with allocs := t.allocs } t := by
  have hid : ¬ (s.inst i).onuId.isNone = true := fun h => ho (Option.isNone_iff_eq_none.1 h)
  refine h.completes (raise .allocAssigned 1 i (c % 256 + 256 * id.toNat) (s.setAlloc c { s.alloc c with allocId := some id.toNat })) ?_
    ((setAlloc_outer _ _ _).trans (raise_noted _ _ _ _ _).outer) ⟨?_, fun d hd => ?_, ?_⟩
  · simp only [hid, hn, hc, if_true, Bool.false_eq_true, if_false]
  · rw [raise_alloc, alloc_setAlloc_same]
  · rw [raise_alloc, alloc_setAlloc_other _ hd]
  · rw [raise_allocs]
    exact raise_books _ _ _ _ _

theorem assignAllocId_deallocates {i : Fin 4} {m : PloamRx} {id : BitVec 14} {c : Nat} {s : State} (h : Heard i m s)
    (ho : (s.inst i).onuId ≠ none)
    (hc : (ctxsOf i).find? (fun c => decide ((s.alloc c).allocId = some id.toNat) && !(s.alloc c).freed) = some c) :
    exec (.assignAllocId i m id false) s = .next (if c % 256 = 0 then s else s.setAlloc c { s.alloc c with freed := true }) := by
  have hid : ¬ (s.inst i).onuId.isNone = true := fun h => ho (Option.isNone_iff_eq_none.1 h)
  refine h.next (by simp only [hid, hc, Bool.false_eq_true, if_false]) ?_
  split
  · exact Outer.refl s
  · exact setAlloc_outer _ _ _

/-! ## Keys (13 R333; 15 R361) -/

/-- A frame on the mirror link changes the pair's books of the link and what is noted alone. -/
theorem sendMirrorFrame_rest (k : Nat) (d : Bytes) (s : State) :
    Books { s with pair := (sendMirrorFrame k d s).2.pair } (sendMirrorFrame k d s).2 := by
  unfold sendMirrorFrame
  dsimp only
  split
  · split
    · rw [(putLane_books _ _ _).pair]
      exact putLane_books _ _ _
    · rw [(count_books _ _ _).pair]
      exact count_books _ _ _
  · exact Books.refl s

/-- A key is written into its slot; beside it only the mirror link and the books change. -/
theorem storeKey_rest (n : Nat) (k : KeySlot) (s : State) :
    Books { s with cipher := { s.cipher with slots := SMap.set {} s.cipher.slots n k }, pair := (storeKey n k s).pair } (storeKey n k s) := by
  unfold storeKey
  dsimp only
  split
  · exact sendMirrorFrame_rest _ _ _
  · exact Books.refl _

theorem storeKey_outer (n : Nat) (k : KeySlot) (s : State) : Outer s (storeKey n k s) :=
  Outer.trans (t := { s with cipher := { s.cipher with slots := SMap.set {} s.cipher.slots n k }, pair := (storeKey n k s).pair })
    ⟨rfl, rfl, rfl⟩ (storeKey_rest n k s).outer

theorem keySlot_of_cipher {s t : State} (h : t.cipher = s.cipher) (n : Nat) : keySlot n t = keySlot n s := by
  simp only [keySlot, h]

theorem keySlot_storeKey_same (n : Nat) (k : KeySlot) (s : State) : keySlot n (storeKey n k s) = k := by
  rw [keySlot, (storeKey_rest n k s).cipher, SMap.get_set_same]

theorem keySlot_storeKey_other {n j : Nat} (h : j ≠ n) (k : KeySlot) (s : State) : keySlot j (storeKey n k s) = keySlot j s := by
  rw [keySlot, (storeKey_rest n k s).cipher, SMap.get_set_other _ _ h]
  rfl

theorem keyControl_loads {i : Fin 4} {m : PloamRx} {index : Fin 2} {n : Nat} {s : State} (h : Heard i m s)
    (hp : ponSlot i (2 + index) s = some n) (hu : (s.inst i).usKeyIndex ≠ index.val + 1) (hk : ponKeyLoaded i 1 s = true) :
    Completes (.keyControl i m index) s fun t => (t.inst i).usKeyNext = some (index.val + 1) ∧
      (∃ r, (t.inst i).upOwn = (s.inst i).upOwn ++ [{ msg := .keyReport (index.val + 1) r }]) ∧ (keySlot n t).loaded = true ∧
      (keySlot n t).aes256 = false ∧ (keySlot n t).key = le 16 (Config.freeValue s.freeCtr % 2 ^ 128) ∧
      (∀ k, k ≠ n → keySlot k t = keySlot k s) := by
  obtain ⟨k, hk'⟩ : ∃ k, k = le 16 (Config.freeValue s.freeCtr % 2 ^ 128) := ⟨_, rfl⟩
  obtain ⟨u, hu'⟩ : ∃ u, u = storeKey n { loaded := true, aes256 := false, key := k } { s with freeCtr := s.freeCtr + 1 } := ⟨_, rfl⟩
  have hui : u.inst i = s.inst i := by
    rw [hu']
    exact inst_of_insts (storeKey_rest _ _ _).insts i
  obtain ⟨r, hr⟩ : ∃ r, r = Config.keyReport (((ponSlot i 1 s).map (fun m => (keySlot m s).key.take 16)).getD []) k := ⟨_, rfl⟩
  obtain ⟨v, hv⟩ : ∃ v, v = sendOwn i { msg := .keyReport (index + 1) r } (u.modInst i fun x => { x with usKeyNext := some (index + 1) }) :=
    ⟨_, rfl⟩
  have hvi : v.inst i = { s.inst i with
      usKeyNext := some (index.val + 1), upOwn := (s.inst i).upOwn ++ [{ msg := .keyReport (index + 1) r }] } := by
    rw [hv, sendOwn_inst_same, inst_modInst_same, hui]
  have hvo : Outer s v := by
    rw [hv, hu']
    exact Outer.trans (t := { s with freeCtr := s.freeCtr + 1 }) ⟨rfl, rfl, rfl⟩
      ((storeKey_outer _ _ _).trans ((modInst_outer _ _ _).trans (sendOwn_touched _ _ _).outer))
  have hslot (j : Nat) : keySlot j (raise .ponKeyNew 1 i (index + 1) v) = keySlot j u := by
    rw [keySlot_of_cipher (raise_cipher _ _ _ _ _), hv]
    rfl
  have hno : ¬ ((s.inst i).usKeyIndex = index.val + 1 ∨ ponKeyLoaded i 1 s = false) := by simp [hu, hk]
  refine h.completes (raise .ponKeyNew 1 i (index + 1) v) ?_ (hvo.trans (raise_noted _ _ _ _ _).outer) ?_
  · simp only [hp, hno, if_false, takeFree]
    rw [hv, hu', hr, hk']
    rfl
  · rw [raise_inst, hvi, hslot, hu', keySlot_storeKey_same]
    refine ⟨rfl, ⟨r, rfl⟩, rfl, rfl, hk', fun j hj => ?_⟩
    rw [hslot, hu', keySlot_storeKey_other hj]
    rfl

/-! ## Launch power, the consumption report, and what goes on to the host -/

theorem changePowerLevel_up {i : Fin 4} {m : PloamRx} {s : State} (h : Heard i m s) (hp : (s.inst i).power < 2) :
    exec (.changePowerLevel i m true) s = .next (s.modInst i fun x => { x with power := x.power + 1 }) := by
  refine h.next ?_ (modInst_outer _ _ _)
  simp only [hp, decide_true, Bool.and_self, if_true]
  rfl

theorem changePowerLevel_down {i : Fin 4} {m : PloamRx} {s : State} (h : Heard i m s) (hp : 0 < (s.inst i).power) :
    exec (.changePowerLevel i m false) s = .next (s.modInst i fun x => { x with power := x.power - 1 }) := by
  refine h.next ?_ (modInst_outer _ _ _)
  simp only [hp, decide_true, Bool.not_false, Bool.false_and, Bool.false_eq_true, Bool.and_self, if_true, if_false]
  rfl

theorem powerConsumptionInquire_answered {i : Fin 4} {m : PloamRx} {s : State} (h : Heard i m s) :
    Completes (.powerConsumptionInquire i m) s fun t => t.freeCtr = s.freeCtr + 1 ∧
      (t.inst i).upOwn = (s.inst i).upOwn ++ [{ msg := .powerReport (Config.freeValue s.freeCtr % 2 ^ 32) }] := by
  refine h.completes (sendOwn i { msg := .powerReport (Config.freeValue s.freeCtr % 2 ^ 32) } { s with freeCtr := s.freeCtr + 1 }) rfl
    ⟨rfl, rfl, rfl⟩ ⟨rfl, ?_⟩
  rw [sendOwn_inst_same]
  rfl

theorem ploamRx_delivered {i : Fin 4} {m : PloamRx} {raw : Bytes} {s : State} (h : Heard i m s)
    (hr : ¬ (u8 raw 2 = 0xD5 ∧ beNat (slice raw 4 2) = 0x0D5E)) (hq : (s.queue (12292 + i)).frames.length < 64) :
    Completes (.ploamRx i m raw) s fun t => (t.inst i).ploamTag = ((s.inst i).ploamTag + 1) % 65536 ∧
      ∃ f, (t.queue (12292 + i)).frames = (s.queue (12292 + i)).frames ++ [f] ∧
        f.pkt = some { op := 0x0F81, tag := (s.inst i).ploamTag, tick := s.clk.tick } :=
  h.completes (deliverPloam i raw s) (if_neg hr) (deliverPloam_outer _ _ _) ⟨by rw [deliverPloam_inst], deliverPloam_queues hq⟩

/-- Settles O14: each message that is heard has its own rule above. -/
theorem serviceMessagesTakeEffect : Obligations.ServiceMessagesTakeEffect := by
  unfold Obligations.ServiceMessagesTakeEffect
  intro i m s h
  exact ⟨fun _ _ => assignAllocId_assigns h, fun _ _ => assignAllocId_deallocates h, fun _ _ => keyControl_loads h,
    fun _ => h.next rfl (modInst_outer _ _ _), changePowerLevel_up h, changePowerLevel_down h, powerConsumptionInquire_answered h,
    fun _ => ploamRx_delivered h⟩

end Sys2Proof.Machine
end

section
/-!
PROOFS. The activation timers TO1 to TO5 (03 R75, R83, Table 3.4).
-/

namespace Sys2Proof.Machine

theorem to1Expiry_inO4 {i : Fin 4} {s : State} (h : On s) (hst : (s.inst i).st = 0x40)
    (hr : ranOut (800 * (s.inst i).cfg.to1) (s.inst i).to1 s = true) :
    Completes (.to1Expiry i) s fun t => (t.inst i).st = 0x23 ∧ (t.inst i).onuId = none ∧ (t.inst i).eqd = 0 := by
  refine live_completes h (dropIdentity i (enterState i 0x23 s)) (if_pos ⟨hst, hr⟩) ((enterState_outer _ _ _).trans (dropIdentity_outer _ _)) ?_
  rw [dropIdentity_inst]
  exact ⟨enterState_st _ _ _, rfl, rfl⟩

theorem to2Expiry_inO6 {i : Fin 4} {s : State} (h : On s) (hl : s.lig.phase = .none) (hst : (s.inst i).st = 0x60)
    (hr : ranOut (80 * (s.inst i).cfg.to2) (s.inst i).to2 s = true) : Completes (.to2Expiry i) s fun t =>
      (t.inst i).st = (if (s.inst i).sync.state = 2 then 0x12 else 0x11) ∧ (t.inst i).onuId = none := by
  obtain ⟨u, hu⟩ : ∃ u, u = noteExit i s := ⟨_, rfl⟩
  have hsync : (u.inst i).sync = (s.inst i).sync := by rw [hu, noteExit, inst_modInst_same]
  have hul : u.lig.phase = .none := by
    rw [hu]
    exact hl
  have huo : Outer s u := by
    rw [hu]
    exact modInst_outer _ _ _
  obtain ⟨hust, -, -, hlig, hout⟩ := enterO11_facts i u hul
  obtain ⟨v, hv⟩ : ∃ v, v = enterO11 i u := ⟨_, rfl⟩
  rw [← hv] at hust hlig hout
  have hstays : removeMember i (dropIdentity i v) = dropIdentity i v := removeMember_none (by rw [dropIdentity_lig, hlig])
  refine live_completes h (dropIdentity i v) ?_ (huo.trans (hout.trans (dropIdentity_outer _ _))) ?_
  · rw [← hstays, hv, hu]
    exact if_pos ⟨hst, hr⟩
  · rw [dropIdentity_inst, ← hsync]
    exact ⟨hust, rfl⟩

theorem to3To4Expiry_inO9 {i : Fin 4} {r : TuneReq} {s : State} (h : On s) (hl : s.lig.phase = .none) (ht : (s.inst i).tune = some r)
    (hst : (s.inst i).st = 0x90) (hr : ranOut r.to4 (s.inst i).to4 s = true) : Completes (.to3To4Expiry i) s fun t =>
      (t.inst i).st = (if (s.inst i).sync.state = 2 then 0x12 else 0x11) ∧ (t.inst i).tune = none ∧ (t.inst i).txLocked = false := by
  obtain ⟨hust, hutune, hutx, -, huo⟩ := enterO11_facts i s hl
  have htuning : ¬ ((s.inst i).st = 0x81 ∨ (s.inst i).st = 0x82) := by omega
  refine live_completes h (raise .tuningFailed 1 i 0 (enterO11 i s)) ?_ (huo.trans (raise_noted _ _ _ _ _).outer) ?_
  · simp only [execTo3To4Expiry, ht]
    exact (if_neg fun hc => htuning hc.1).trans (if_pos ⟨hst, hr⟩)
  · rw [raise_inst]
    exact ⟨hust, hutune, hutx⟩

theorem to5Expiry_inO52 {i : Fin 4} {s : State} (h : On s) (hst : (s.inst i).st = 0x52)
    (hr : ranOut (80 * (s.inst i).cfg.to5) (s.inst i).to5 s = true) :
    Completes (.to5Expiry i) s fun t => (t.inst i).st = 0x51 ∧ (t.inst i).to5 = none ∧ (t.inst i).tune = none ∧
      (∀ j, j ≠ i.val → t.inst j = s.inst j) ∧ Books { s with insts := t.insts, clk := t.clk } t := by
  obtain ⟨u, hu⟩ : ∃ u, u = s.modInst i fun x => { x with to5 := none, tune := none } := ⟨_, rfl⟩
  have hui : u.inst i = { s.inst i with to5 := none, tune := none } := by rw [hu, inst_modInst_same]
  have ht : Touched i s u := by
    rw [hu]
    exact modInst_touched _ _ _
  have hn : (u.inst i).st ≠ 0x51 := by
    rw [hui, hst]
    decide
  obtain ⟨hother, hbooks⟩ := ht.enters rfl hn
  refine live_completes h (enterState i 0x51 u) (by rw [hu]; exact if_pos ⟨hst, hr⟩) (ht.outer.trans (enterState_outer _ _ _)) ?_
  rw [enterState_launching_same rfl hn, hui]
  exact ⟨rfl, rfl, rfl, hother, hbooks⟩

/-- Settles O15: each timer has its own rule above. -/
theorem activationTimersExpire : Obligations.ActivationTimersExpire := by
  unfold Obligations.ActivationTimersExpire
  exact fun _ _ h hl => ⟨to1Expiry_inO4 h, to2Expiry_inO6 h hl, fun _ => to3To4Expiry_inO9 h hl, to5Expiry_inO52 h⟩

end Sys2Proof.Machine
end

section
/-!
PROOFS. The commands of a channel pair: INST_CONFIG, INST_START, INST_STOP, INST_QUERY and SET_REGISTRATION_ID (03 R72, R74, R91, R92).
-/

namespace Sys2Proof.Machine

theorem instConfig_held {q : CmdReq} {c : Cmd} {s : State} (h : Runs 0x0200 q c s) (hst : (s.inst q.index).st = 0x10) :
    Completes (.instConfig q) s fun t => Answers c .ok 0 [] s t ∧ Books (s.modInst q.index fun x => { x with
      cfg := { x.cfg with lineMode := (instCfgOf q.body).lineMode, usRates := (instCfgOf q.body).usRates
                          startGrid := (instCfgOf q.body).startGrid }
      cfgNext := some (instCfgOf q.body) }) t := by
  obtain rfl := h.isReq
  obtain ⟨f, hf⟩ : ∃ f : Inst → Inst, f = fun x => { x with
      cfg := { x.cfg with lineMode := (instCfgOf c.req.body).lineMode, usRates := (instCfgOf c.req.body).usRates
                          startGrid := (instCfgOf c.req.body).startGrid }
      cfgNext := some (instCfgOf c.req.body) } := ⟨_, rfl⟩
  have he : effInstConfig c (markStarted c s) = .ok [] ((markStarted c s).modInst c.req.index f) := by
    have hheld : ¬ ((s.inst c.req.index).st ≠ 0x10 ∧ ((instCfgOf c.req.body).lineMode ≠ (s.inst c.req.index).cfg.lineMode ∨
      (instCfgOf c.req.body).usRates ≠ (s.inst c.req.index).cfg.usRates ∨
      (instCfgOf c.req.body).startGrid ≠ (s.inst c.req.index).cfg.startGrid)) := fun h => h.1 hst
    simp only [effInstConfig, markStarted_inst, hheld, if_false, hf]
    rfl
  rw [← hf]
  exact Runs.completes (sp := specInstConfig) h rfl he rfl rfl rfl rfl rfl rfl

/-! ## INST_START -/

/-- Asking for a receive wavelength leaves the receiver without lock, or without a wavelength (03 R68, R70). -/
theorem takeRx_untuned (i : Nat) (g : Int) (q : Bool) (s : State) :
    ((takeRx i g q s).inst i).rxLocked = false ∨ ((takeRx i g q s).inst i).rxGrid = none := by
  unfold takeRx
  split
  · extract_lets u
    split
    · exact .inr ‹_›
    · exact .inl (by rw [tuneRx, inst_modInst_same])
  · refine .inl ?_
    dsimp only
    rw [(yieldRxs_facts _ (fun j hj => ?_) _).1, tuneRx, inst_modInst_same]
    have hne := (List.mem_filter.1 hj).2
    simp only [Bool.and_eq_true, decide_eq_true_eq] at hne
    exact hne.1.symm

/-- Where no other channel pair was tuned in the present clock, a wavelength that is not held is no other's (03 R70). -/
theorem noLosers {i : Nat} {g : Int} {s : State} (hc : ∀ j, j ≠ i → (s.inst j).rxClock ≠ clockNo s) (hg : rxHeld i g s = false) :
    (List.range 4).filter (fun j => decide (j ≠ i) && decide ((s.inst j).rxGrid = some g)) = [] := by
  refine List.filter_eq_nil_iff.2 fun j hj hl => ?_
  simp only [Bool.and_eq_true, decide_eq_true_eq] at hl
  refine Bool.false_ne_true (hg.symm.trans (List.any_eq_true.2 ⟨j, hj, ?_⟩))
  simp [hl.1, hl.2, hc j hl.1]

/-- So no other gives one up. -/
theorem takeRx_other {i : Nat} {g : Int} {q : Bool} {s : State} (hc : ∀ j, j ≠ i → (s.inst j).rxClock ≠ clockNo s) {j : Nat}
    (hj : j ≠ i) : (takeRx i g q s).inst j = s.inst j := by
  unfold takeRx
  split
  · extract_lets u
    have hu : u.inst j = s.inst j := by
      unfold u
      split
      · rfl
      · exact raise_inst _ _ _ _ _ _
    split
    · exact hu
    · exact (inst_modInst_other u hj _).trans hu
  · rw [noLosers hc (Bool.eq_false_iff.2 ‹_›)]
    show (tuneRx i (some g) s).inst j = s.inst j
    exact inst_modInst_other s hj _

/-- From s to t channel pair i has begun to hunt (03 R71, Table 3.4). -/
structure Hunts (i : Nat) (s t : State) : Prop where
  state : (t.inst i).st = (s.inst i).st
  sync : (t.inst i).sync.state = 0
  untuned : (t.inst i).rxLocked = false ∨ (t.inst i).rxGrid = none
  rate : (t.inst i).usRate = 0
  dwell : (t.inst i).dwell = ownTick s
  other : ∀ j, j ≠ i → t.inst j = s.inst j
  rest : Noted { s with insts := t.insts } t

theorem startHunt_hunts {i : Nat} {s : State} (hc : ∀ j, j ≠ i → (s.inst j).rxClock ≠ clockNo s) : Hunts i s (startHunt i s) := by
  unfold startHunt
  extract_lets n u
  have hui : u.inst i = { s.inst i with mode := huntMode (s.inst i), usRate := 0, scan := n, dwell := ownTick s
                                        sync := { (s.inst i).sync with state := 0, misses := 0, kept := none } } := inst_modInst_same s i _
  have huj (j : Nat) (hj : j ≠ i) : u.inst j = s.inst j := inst_modInst_other s hj _
  have hur : Noted { s with insts := u.insts } u := rfl
  generalize (u.inst i).cfg.startGrid.getD (scanOrder.getD n 0) = g
  have huc (j : Nat) (hj : j ≠ i) : (u.inst j).rxClock ≠ clockNo u := by
    rw [huj j hj]
    exact hc j hj
  clear_value u
  obtain ⟨⟨_, _, _, hi⟩, -, -⟩ := takeRx_facts i g false u
  have hn := takeRx_untuned i g false u
  have ho := fun j (hj : j ≠ i) => (takeRx_other (g := g) (q := false) huc hj).trans (huj j hj)
  refine ⟨?_, ?_, hn, ?_, ?_, ho, hur.insts_trans (takeRx_rest i g false u)⟩ <;> rw [hi, hui]

theorem cancelBursts_idle {i : Nat} {s : State} (h : (s.inst i).sched = []) : cancelBursts i s = s.modInst i fun x =>
    { x with sched := x.sched.filter (fun e => e.launched), laserOn := x.laserOn && x.sched.any (fun e => e.launched) } := by
  unfold cancelBursts
  simp only [h, List.filter_nil, List.reverse_nil, List.foldl_nil]

/-- A change of state of a channel pair with nothing to launch leaves the others. -/
theorem enterState_idle_other {i j st : Nat} {s : State} (hs : (s.inst i).sched = []) (hj : j ≠ i) :
    (enterState i st s).inst j = s.inst j := by
  unfold enterState
  dsimp only
  split
  · rfl
  · rw [retick_inst]
    split
    · rw [raise_inst, inst_modInst_other _ hj]
    · rw [cancelBursts_idle (by rw [raise_inst, inst_modInst_same]; exact hs), inst_modInst_other _ hj, raise_inst, inst_modInst_other _ hj]

theorem instStart_hunts {q : CmdReq} {c : Cmd} {s : State} (h : Runs 0x0201 q c s) (hst : (s.inst q.index).st = 0x10)
    (hs : (s.inst q.index).sched = []) (hc : ∀ j, j ≠ q.index → (s.inst j).rxClock ≠ clockNo s) :
    Completes (.instStart q) s fun t => Answers c .ok 0 [] s t ∧ (t.inst q.index).st = 0x11 ∧ (t.inst q.index).sync.state = 0 ∧
      ((t.inst q.index).rxLocked = false ∨ (t.inst q.index).rxGrid = none) ∧ (t.inst q.index).usRate = 0 ∧
      (t.inst q.index).dwell = ownTick s ∧ (∀ j, j ≠ q.index → t.inst j = s.inst j) := by
  obtain rfl := h.isReq
  obtain ⟨v, hv⟩ : ∃ v, v = enterState c.req.index 0x11 (markStarted c s) := ⟨_, rfl⟩
  have hvj (j : Nat) (hj : j ≠ c.req.index) : v.inst j = s.inst j := by
    rw [hv]
    exact enterState_idle_other (s := markStarted c s) hs hj
  have hvc : clockNo v = clockNo s := by
    have ht := (enterState_entered c.req.index 0x11 (markStarted c s)).time
    simp only [clockNo, hv, ht.2.2.1, markStarted_clk]
  have hvt : v.clk.tick = s.clk.tick := by rw [hv, enterState_tick, markStarted_clk]
  have hvo : Outer s v := by
    rw [hv]
    exact Outer.trans (t := markStarted c s) ⟨rfl, rfl, rfl⟩ (enterState_outer _ _ _)
  have hvw : ownTick v = ownTick s := by rw [hv, enterState_ownTick, markStarted_ownTick]
  have hh : Hunts c.req.index v (startHunt c.req.index v) := startHunt_hunts fun j hj => by
    rw [hvj j hj, hvc]
    exact hc j hj
  have he : effInstStart c (markStarted c s) = .ok [] (startHunt c.req.index v) := by
    rw [hv]
    exact if_pos hst
  have ho : Outer s (startHunt c.req.index v) := hvo.trans hh.rest.insts_outer
  obtain ⟨t, hx, ha, hb⟩ := Runs.completes (sp := specInstStart) h rfl he
    (by rw [hh.rest.cmd, hv]; exact enterState_cmd _ _ _) (by rw [hh.rest.books.clk]; exact hvt) ho.pending ho.powered
    (congrArg Boot.inReset ho.boot) (Books.refl _)
  have hi := inst_of_insts hb.insts
  refine ⟨t, hx, ha, ?_⟩
  rw [hi, hh.state, hh.sync, hh.rate, hh.dwell, hvw, hv, enterState_st, ← hv]
  exact ⟨rfl, rfl, hh.untuned, rfl, rfl, fun j hj => (hi j).trans ((hh.other j hj).trans (hvj j hj))⟩

/-! ## INST_STOP -/

theorem setSd_facts (i : Nat) (b : Bool) (s : State) : (∃ y, (setSd i b s).inst i = { s.inst i with sync := y }) ∧
    Noted { s with insts := (setSd i b s).insts } (setSd i b s) := by
  unfold setSd
  split
  · exact ⟨⟨_, rfl⟩, Noted.refl s⟩
  · rw [raise_inst, inst_modInst_same, raise_insts]
    exact ⟨⟨_, rfl⟩, raise_noted _ _ _ _ _⟩

theorem setSf_facts (i : Nat) (b : Bool) (s : State) : (∃ y, (setSf i b s).inst i = { s.inst i with sync := y }) ∧
    Noted { s with insts := (setSf i b s).insts } (setSf i b s) := by
  unfold setSf
  split
  · exact ⟨⟨_, rfl⟩, Noted.refl s⟩
  · rw [raise_inst, inst_modInst_same, raise_insts]
    exact ⟨⟨_, rfl⟩, raise_noted _ _ _ _ _⟩

/-- From s to t channel pair i has stopped, with nothing begun (03 Table 3.4, INST_STOP). -/
structure Stops (i : Nat) (s t : State) : Prop where
  held : (t.inst i).st = 0x10 ∧ (t.inst i).onuId = none ∧ (t.inst i).eqd = 0 ∧ (t.inst i).profiles = [] ∧ (t.inst i).burst = [] ∧
    (t.inst i).txGrid = none ∧ (t.inst i).txLocked = false ∧ (t.inst i).rxGrid = none ∧ (t.inst i).rxLocked = false
  dark : (t.inst i).laserOn = false
  cmd : t.cmd = s.cmd
  tick : t.clk.tick = s.clk.tick
  outer : Outer s t

theorem stopInstance_stops {i : Nat} {s : State} (hst : (s.inst i).st ≠ 0x10) (hd : (s.inst i).laserOn = false)
    (hl : s.lig.phase = .none) (hh : (s.inst i).upHost = []) (hs : (s.inst i).sched = []) : Stops i s (stopInstance i s) := by
  obtain ⟨a, ha⟩ : ∃ a, a = enterState i 0x10 s := ⟨_, rfl⟩
  have hai : a.inst i = { s.inst i with st := 0x10, sleepAllowed := false, laserOn := false } := by
    rw [ha, enterState_idle hs hst, hd]
    simp only [Bool.false_and, Nat.reduceEqDiff, decide_false, Bool.or_self, Bool.and_false]
  have hal : removeMember i a = a := removeMember_none (by rw [ha, enterState_ligPhase, hl])
  obtain ⟨⟨_, hb⟩, hbr⟩ := setSd_facts i false a
  obtain ⟨⟨_, hc⟩, hcr⟩ := setSf_facts i false (setSd i false a)
  obtain ⟨b, hb'⟩ : ∃ b, b = setSf i false (setSd i false a) := ⟨_, rfl⟩
  rw [← hb', hb, hai] at hc
  rw [← hb'] at hcr
  have hab := hbr.insts_trans hcr
  have hdi := dropIdentity_inst i (dropProfiles i b)
  have hdr := dropIdentity_rest i (dropProfiles i b)
  have hdc : (dropIdentity i (dropProfiles i b)).cmd = b.cmd :=
    dropIdentity_cmd (by rw [dropProfiles, inst_modInst_same, hc]; exact hh) (by rw [dropProfiles, inst_modInst_same, hc]; exact hs)
  obtain ⟨d, hd'⟩ : ∃ d, d = dropIdentity i (dropProfiles i b) := ⟨_, rfl⟩
  rw [← hd'] at hdi hdr hdc
  have he : stopInstance i s = laserOff i (d.modInst i Inst.stopped) := by
    simp only [stopInstance, hst, if_false, ← ha, hal, ← hb', ← hd']
  have hi : (stopInstance i s).inst i = { (d.inst i).stopped with txLocked := false, txGrid := none, fine := 0, fineNext := none } := by
    rw [he, laserOff_inst, inst_modInst_same]
  rw [hdi, dropProfiles, inst_modInst_same, hc] at hi
  have hlaser : (laserOff i (d.modInst i Inst.stopped)).cmd = d.cmd ∧ (laserOff i (d.modInst i Inst.stopped)).clk = d.clk := by
    unfold laserOff
    rw [goDark_eq]
    exact ⟨rfl, rfl⟩
  refine ⟨?_, ?_, ?_, ?_, ?_⟩
  · rw [hi]
    exact ⟨rfl, rfl, rfl, rfl, rfl, rfl, rfl, rfl, rfl⟩
  · rw [hi]
    rfl
  · rw [he, hlaser.1, hdc, hab.cmd, ha]
    exact enterState_cmd _ _ _
  · rw [he, hlaser.2, hdr.clk]
    show b.clk.tick = _
    rw [hab.books.clk, ha]
    exact enterState_tick _ _ _
  · rw [he, hd']
    refine Outer.trans (t := a) (by rw [ha]; exact enterState_outer _ _ _) (hab.insts_outer.trans ?_)
    exact (modInst_outer i _ b).trans ((dropIdentity_outer _ _).trans ((modInst_outer i _ _).trans (laserOff_outer _ _)))

theorem instStop_stops {q : CmdReq} {c : Cmd} {s : State} (h : Runs 0x0202 q c s) (hst : (s.inst q.index).st ≠ 0x10)
    (hd : (s.inst q.index).laserOn = false) (hl : s.lig.phase = .none) (hh : (s.inst q.index).upHost = [])
    (hs : (s.inst q.index).sched = []) : Completes (.instStop q) s fun t => Answers c .ok 0 [] s t ∧
      (t.inst q.index).st = 0x10 ∧ (t.inst q.index).onuId = none ∧ (t.inst q.index).eqd = 0 ∧ (t.inst q.index).profiles = [] ∧
      (t.inst q.index).burst = [] ∧ (t.inst q.index).txGrid = none ∧ (t.inst q.index).txLocked = false ∧
      (t.inst q.index).rxGrid = none ∧ (t.inst q.index).rxLocked = false := by
  obtain rfl := h.isReq
  have hstop : Stops c.req.index (markStarted c s) (stopInstance c.req.index (markStarted c s)) := stopInstance_stops hst hd hl hh hs
  have he : effInstStop c (markStarted c s) = .ok [] (stopInstance c.req.index (markStarted c s)) := by
    simp only [effInstStop, hstop.dark, Bool.false_eq_true, if_false]
  obtain ⟨t, hx, ha, hb⟩ := Runs.completes (sp := specInstStop) h rfl he hstop.cmd hstop.tick hstop.outer.pending hstop.outer.powered
    (congrArg Boot.inReset hstop.outer.boot) (Books.refl _)
  refine ⟨t, hx, ha, ?_⟩
  rw [inst_of_insts hb.insts]
  exact hstop.held

/-! ## INST_QUERY and SET_REGISTRATION_ID -/

theorem instQuery_answers {q : CmdReq} {c : Cmd} {s : State} (h : Runs 0x0203 q c s) : Completes (.instQuery q) s fun t =>
    Answers c .ok 0 (le 4 (instStatus q.index s) ++ le 4 (instIds q.index s) ++ le 4 (instGrid q.index s) ++ le 4 (s.inst q.index).eqd ++
      (s.inst q.index).cfg.bytes ++ le 4 (vssnOf q.index s)) s t ∧ Books s t := by
  obtain rfl := h.isReq
  exact Runs.completes (sp := specInstQuery) h rfl rfl rfl rfl rfl rfl rfl (markStarted_books c s)

theorem setRegistrationId_stores {q : CmdReq} {c : Cmd} {s : State} (h : Runs 0x0204 q c s) :
    Completes (.setRegistrationId q) s fun t => Answers c .ok 0 [] s t ∧
      Books (s.modInst q.index fun x => { x with regId := q.body }) t := by
  obtain rfl := h.isReq
  exact Runs.completes (sp := specSetRegistrationId) (u := (markStarted c s).modInst c.req.index fun x => { x with regId := c.req.body })
    h rfl rfl rfl rfl rfl rfl rfl rfl

/-- Settles O11: each command has its own rule above. -/
theorem instanceCommandsAnswer : Obligations.InstanceCommandsAnswer := by
  unfold Obligations.InstanceCommandsAnswer
  exact fun _ _ _ => ⟨instConfig_held, instStart_hunts, instStop_stops, instQuery_answers, setRegistrationId_stores⟩

end Sys2Proof.Machine
end

section
/-!
PROOFS. The ligature group: proposal, the head end's answers, activation, members and stop (03 R86–R90, R93; 04 R108).
-/

namespace Sys2Proof.Machine

/-! ## What the operations on the group leave -/

/-- With a proposed member in O5 there is an anchor. -/
theorem anchorOf_some {l : List Nat} {j : Nat} {s : State} (hj : j ∈ l) (h4 : j < 4) (h5 : (s.inst j).inO5 = true) :
    ∃ a, anchorOf l s = some a := by
  refine Option.isSome_iff_exists.1 (List.find?_isSome.2 ⟨j, List.mem_range.2 h4, ?_⟩)
  simp [hj, h5]

theorem propose_some {a : Nat} {s : State} (h : anchorOf s.lig.proposed s = some a) :
    propose s = sendOwn a { msg := .vendor 0x01 (fit 32 (proposeBody s)), propose := true }
      { s with lig := { s.lig with proposals := s.lig.proposals + 1, proposedAt := none } } := by
  simp only [propose, h]

/-- The proposal's bytes depend on the token, the members and what the members hold alone (03 Table 3.9). -/
theorem proposeBody_congr {s t : State} (hl : t.lig.token = s.lig.token ∧ t.lig.proposed = s.lig.proposed)
    (hi : ∀ i, (t.inst i).onuId = (s.inst i).onuId ∧ (t.inst i).dsChId = (s.inst i).dsChId ∧ (t.inst i).usChId = (s.inst i).usChId ∧
      (t.inst i).usRate = (s.inst i).usRate) : proposeBody t = proposeBody s := by
  simp only [proposeBody, hl, hi]

theorem completeRunning_books (op : Nat) (st : Status) (d : Nat) (p : Bytes) (s : State) : Books s (completeRunning op st d p s) := by
  unfold completeRunning
  split
  · exact complete_books _ _ _ _ _
  · exact Books.refl s

theorem completeRunning_none {op : Nat} {s : State} (h : running op s = none) (st : Status) (d : Nat) (p : Bytes) :
    completeRunning op st d p s = s := by
  simp only [completeRunning, h]

/-- The end of a negotiation drops its proposals and leaves of the group what is under way alone (03 R87). -/
theorem endNegotiation_rest (r : Nat) (s : State) :
    Books { dropProposals s with lig := { usNext := s.lig.usNext, returns := s.lig.returns, cont := s.lig.cont } } (endNegotiation r s) :=
  completeRunning_books _ _ _ _ _

theorem endNegotiation_outer (r : Nat) (s : State) : Outer s (endNegotiation r s) :=
  Outer.trans (t := { dropProposals s with lig := { usNext := s.lig.usNext, returns := s.lig.returns, cont := s.lig.cont } })
    ⟨rfl, rfl, rfl⟩ (endNegotiation_rest r s).outer

theorem endNegotiation_cmd {s : State} (h : running 0x0205 s = none) (r : Nat) : (endNegotiation r s).cmd = s.cmd :=
  (congrArg State.cmd (completeRunning_none
    (s := { dropProposals s with lig := { usNext := s.lig.usNext, returns := s.lig.returns, cont := s.lig.cont } }) h _ _ _) :)

theorem dropProposals_insts {s t : State} (h : t.insts = s.insts) : (dropProposals t).insts = (dropProposals s).insts := by
  simp only [dropProposals, h]

/-- A release is queued on the anchor, where there is one. -/
theorem sendRelease_eq (r : Nat) (s : State) : sendRelease r s = { s with insts := (sendRelease r s).insts } := by
  unfold sendRelease
  split <;> rfl

theorem sendStatus_eq (c k : Nat) (s : State) : sendStatus c k s = { s with insts := (sendStatus c k s).insts } := by
  unfold sendStatus
  split <;> rfl

theorem finishLigStop_lig (s : State) : (finishLigStop s).lig = s.lig :=
  List.foldlRecOn (motive := fun (u : State) => u.lig = s.lig) _ _ rfl fun _ hu _ _ => (complete_lig _ _ _ _ _).trans hu

theorem markBondeds_lig (b : Bool) (l : List Nat) (s : State) : (l.foldl (fun s i => markBonded b i s) s).lig = s.lig :=
  List.foldlRecOn (motive := fun (u : State) => u.lig = s.lig) _ _ rfl fun _ hu _ _ => hu

/-- A group that has dissolved leaves nothing but what is under way upstream (03 R89). -/
theorem dissolveGroup_lig (s : State) : ∃ a b c, (dissolveGroup s).lig = { usNext := a, returns := b, cont := c } :=
  ⟨_, _, _, finishLigStop_lig _⟩

/-! ## Proposal (03 R86) -/

theorem ligStart_negotiates {q : CmdReq} {c : Cmd} {s : State} (h : Runs 0x0205 q c s) (hp : s.lig.phase = .none)
    (hne : bitsOf 4 (u8 q.body 0) ≠ []) (hm : ∀ i ∈ bitsOf 4 (u8 q.body 0), i < 4 ∧ (s.inst i).inO5 = true) :
    Completes (.ligStart q) s fun t => t.cmd.executing = [{ c with started := true }] ∧ t.cmd.waiting = s.cmd.waiting ∧
      t.lig.phase = .negotiating ∧ t.lig.token ≠ 0 ∧ t.lig.proposed = bitsOf 4 (u8 q.body 0) ∧ t.lig.proposals = 1 := by
  obtain rfl := h.isReq
  obtain ⟨l, hl⟩ : ∃ l, l = bitsOf 4 (u8 c.req.body 0) := ⟨_, rfl⟩
  rw [← hl] at hne hm ⊢
  obtain ⟨v, hv⟩ : ∃ v : State, v = { markStarted c s with
    freeCtr := s.freeCtr + 1
    lig := { s.lig with phase := .negotiating, token := 1 + Config.freeValue s.freeCtr % 2 ^ 16 % 65535, proposed := l, proposals := 0 } } :=
    ⟨_, rfl⟩
  obtain ⟨j, hj⟩ := List.exists_mem_of_ne_nil l hne
  obtain ⟨a, ha⟩ : ∃ a, anchorOf v.lig.proposed v = some a := by
    rw [hv]
    exact anchorOf_some hj (hm j hj).1 (hm j hj).2
  have hall : ¬ ((markStarted c s).lig.phase ≠ .none ∨ l.all (fun i => ((markStarted c s).inst i).inO5) = false) := by
    rintro (hx | hx)
    · exact hx hp
    · exact Bool.false_ne_true (hx.symm.trans (List.all_eq_true.2 fun i hi => (hm i hi).2))
  have he : effLigStart c (markStarted c s) = .later (propose v) := by
    simp only [effLigStart, ← hl, hall, if_false, takeFree, hv]
    rfl
  refine h.goesOn (sp := specLigStart) rfl he ?_
  rw [propose_some ha, hv, keepOuter_cmd, keepOuter_lig]
  exact ⟨(congrArg CmdState.executing h.marked :), (congrArg CmdState.waiting h.marked :), rfl, by simp [sendOwn], rfl, rfl⟩

theorem ligProposeTimeout_repeats {a : Nat} {s : State} (h : On s) (hp : s.lig.phase = .negotiating)
    (hr : ranFor 8000 s.lig.proposedAt s = true) (hn : s.lig.proposals < 3) (ha : anchorOf s.lig.proposed s = some a) :
    Completes .ligProposeTimeout s fun t => t.lig = { s.lig with proposals := s.lig.proposals + 1, proposedAt := none } ∧
      (t.inst a).upOwn = (s.inst a).upOwn ++ [{ msg := .vendor 0x01 (fit 32 (proposeBody t)), propose := true }] := by
  obtain ⟨u, hu⟩ : ∃ u : State, u = { s with lig := { s.lig with proposals := s.lig.proposals + 1, proposedAt := none } } := ⟨_, rfl⟩
  obtain ⟨p, hp'⟩ : ∃ p : UpItem, p = { msg := .vendor 0x01 (fit 32 (proposeBody s)), propose := true } := ⟨_, rfl⟩
  have hui (i : Nat) : u.inst i = s.inst i := by rw [hu]; rfl
  have hbody : proposeBody (sendOwn a p u) = proposeBody s := by
    refine proposeBody_congr (by rw [hu]; exact ⟨rfl, rfl⟩) fun i => ?_
    rw [← hui i]
    by_cases hi : i = a
    · subst hi
      rw [sendOwn_inst_same]
      exact ⟨rfl, rfl, rfl, rfl⟩
    · rw [(sendOwn_touched a p u).other i hi]
      exact ⟨rfl, rfl, rfl, rfl⟩
  refine live_completes h (sendOwn a p u) ?_ ?_ ⟨?_, ?_⟩
  · simp only [execLigProposeTimeout, hp, hr, hn, and_self, if_true, propose_some ha, hu, hp']
  · rw [hu]
    exact ⟨rfl, rfl, rfl⟩
  · rw [hu]
    rfl
  · rw [sendOwn_inst_same, hbody, hui, hp']

theorem ligProposeTimeout_ends {s : State} (h : On s) (hp : s.lig.phase = .negotiating) (hr : ranFor 8000 s.lig.proposedAt s = true)
    (hn : 3 ≤ s.lig.proposals) :
    Completes .ligProposeTimeout s fun t => t.lig.phase = .none ∧ t.insts = (dropProposals s).insts := by
  have hno : ¬ s.lig.proposals < 3 := by omega
  refine live_completes h (endNegotiation 1 (raise .ligatureUnanswered 0 0 0 s)) ?_
    ((raise_noted _ _ _ _ _).outer.trans (endNegotiation_outer _ _)) ⟨?_, ?_⟩
  · simp only [execLigProposeTimeout, hp, hr, hno, and_self, if_true, if_false]
  · rw [(endNegotiation_rest _ _).lig]
  · exact (endNegotiation_rest _ _).insts.trans (dropProposals_insts (raise_insts _ _ _ _ _))

/-! ## The head end's answers (03 R87, R89) -/

theorem ligAccept_accepted {i : Fin 4} {m : PloamRx} {token : BitVec 16} {mask : BitVec 8} {startSfc : Word} {first n : BitVec 16} {s : State}
    (h : Heard i m s) (hp : s.lig.phase = .negotiating) (ht : s.lig.token = token.toNat) (ha : ligAnchor s = some i.val)
    (hm : 2 ≤ (s.lig.proposed.filter (fun j => bit mask.toNat (memberIndex j s))).length)
    (h1 : 8 ≤ signed 32 (startSfc.toNat + 2 ^ 32 - (s.inst i).sync.sfc % 2 ^ 32))
    (h2 : signed 32 (startSfc.toNat + 2 ^ 32 - (s.inst i).sync.sfc % 2 ^ 32) ≤ 8000) :
    exec (.ligAccept i m token mask startSfc first n) s = .next { acknowledge i 0 m.seqno s with
      lig := { s.lig with phase := .accepted, members := s.lig.proposed.filter (fun j => bit mask.toNat (memberIndex j s))
                          startSfc := startSfc.toNat, portFirst := first.toNat, portCount := n.toNat } } := by
  obtain ⟨u, hu⟩ : ∃ u, u = acknowledge i 0 m.seqno s := ⟨_, rfl⟩
  have hul : u.lig = s.lig := by rw [hu]; rfl
  have hus : (u.inst i).sync = (s.inst i).sync := by rw [hu, acknowledge, sendOwn_inst_same]
  have hidx (j : Nat) : memberIndex j u = memberIndex j s := by simp only [memberIndex, hul]
  have hlen : ¬ (s.lig.proposed.filter (fun j => bit mask.toNat (memberIndex j s))).length < 2 := by omega
  have hahead : ¬ (signed 32 (startSfc.toNat + 2 ^ 32 - (s.inst i).sync.sfc % 2 ^ 32) < 8 ∨
    8000 < signed 32 (startSfc.toNat + 2 ^ 32 - (s.inst i).sync.sfc % 2 ^ 32)) := by omega
  refine h.next ?_ (Outer.trans (t := acknowledge i 0 m.seqno s) (acknowledge_touched _ _ _ _).outer ⟨rfl, rfl, rfl⟩)
  simp only [hp, ht, ha, and_self, if_true, ← hu, hul, hus, hidx, hlen, hahead, if_false]

theorem ligReject_ends {i : Fin 4} {m : PloamRx} {token : BitVec 16} {reason : Byte} {s : State} (h : Heard i m s)
    (ht : s.lig.token = token.toNat) (ha : ligAnchor s = some i.val) (hp : s.lig.phase = .negotiating) :
    Completes (.ligReject i m token reason) s fun t => t.lig.phase = .none ∧ t.lig.proposed = [] ∧
      t.insts = (dropProposals s).insts := by
  refine h.completes (endNegotiation 2 (raise .ligatureRejected 0 0 0 s)) (if_pos ⟨hp, ht, ha⟩)
    ((raise_noted _ _ _ _ _).outer.trans (endNegotiation_outer _ _)) ?_
  rw [(endNegotiation_rest _ _).lig]
  exact ⟨rfl, rfl, (endNegotiation_rest _ _).insts.trans (dropProposals_insts (raise_insts _ _ _ _ _))⟩

theorem ligRelease_dissolves {i : Fin 4} {m : PloamRx} {token : BitVec 16} {reason : Byte} {s : State} (h : Heard i m s)
    (ht : s.lig.token = token.toNat) (ha : ligAnchor s = some i.val) (hp : s.lig.phase = .active) :
    Completes (.ligRelease i m token reason) s fun t => t.lig.phase = .none ∧ t.lig.members = [] := by
  have he : execLigRelease i m token.toNat s = dissolveGroup s := by
    unfold execLigRelease
    rw [h.acts]
    simp only [ht, ha, hp, and_self, if_true]
  obtain ⟨_, _, _, hl⟩ := dissolveGroup_lig s
  refine completes_live h.on ?_
  rw [he, keepOuter_lig, hl]
  exact ⟨rfl, rfl⟩

theorem ligGroupActivate_activates {a : Nat} {s : State} (h : On s) (ha : ligAnchor s = some a) (hp : s.lig.phase = .accepted)
    (hy : (s.inst a).sync.state = 2) (hf : (s.inst a).sync.sfc % 2 ^ 32 = s.lig.startSfc) (hs : s.lig.suspended = []) :
    Completes .ligGroupActivate s fun t => t.lig.phase = .active ∧ t.lig.members = s.lig.members ∧ t.lig.usNext = 0 ∧
      t.lig.dsNext = 0 ∧ t.lig.held = [] := by
  refine completes_live h ?_
  simp only [execLigGroupActivate, ha, hp, hy, hf, hs, and_self, if_true, List.foldl_nil, keepOuter_lig, finishLigStart,
    (completeRunning_books _ _ _ _ _).lig, markBondeds_lig]

/-! ## Members (03 R88) and stop (03 R90) -/

theorem ligMemberRejoin_rejoins {i : Fin 4} {t₀ : Word} {s : State} (h : On s)
    (hf : s.lig.rejoin.find? (fun e => decide (e.1 = i.val)) = some (i.val, t₀)) (ht : t₀ ≠ ownTick s) (h5 : (s.inst i).inO5 = true) :
    Completes (.ligMemberRejoin i) s fun t => ¬ i.val ∈ t.lig.suspended ∧ (∀ e ∈ t.lig.rejoin, e.1 ≠ i.val) ∧
      t.lig.members = s.lig.members ∧ SMap.get 0 t.lig.lastPs i = s.clk.nowPs := by
  obtain ⟨u, hu⟩ : ∃ u : State, u = { s with lig := { s.lig with
    rejoin := s.lig.rejoin.filter (fun e => e.1 ≠ i.val), suspended := s.lig.suspended.filter (· ≠ i.val)
    lastSeq := SMap.set none s.lig.lastSeq i none, lastPs := SMap.set 0 s.lig.lastPs i s.clk.nowPs } } := ⟨_, rfl⟩
  refine live_completes h (sendStatus 2 i u) ?_ ?_ ?_
  · simp only [execLigMemberRejoin, hf, ht, h5, ne_eq, not_false_eq_true, and_self, if_true, hu]
  · rw [sendStatus_eq, hu]
    exact ⟨rfl, rfl, rfl⟩
  · rw [sendStatus_eq, hu]
    refine ⟨fun hm => ?_, fun e he => ?_, rfl, SMap.get_set_same _ _ _ _⟩
    · exact of_decide_eq_true (List.mem_filter.1 hm).2 rfl
    · exact of_decide_eq_true (List.mem_filter.1 he).2

theorem ligStop_negotiating {q : CmdReq} {c : Cmd} {s : State} (h : Runs 0x0206 q c s) (hp : s.lig.phase = .negotiating) :
    Completes (.ligStop q) s fun t => Answers c .ok 0 [] s t ∧ t.lig.phase = .none := by
  obtain rfl := h.isReq
  obtain ⟨u, hu⟩ : ∃ u, u = sendRelease 1 (markStarted c s) := ⟨_, rfl⟩
  have heq : u = { markStarted c s with insts := u.insts } := by
    rw [hu]
    exact sendRelease_eq _ _
  have hcmd : u.cmd = (markStarted c s).cmd := (congrArg State.cmd heq :)
  have hrun : running 0x0205 u = none := by simp [running, hcmd, h.marked, h.isOp]
  have he : effLigStop c (markStarted c s) = .ok [] (endNegotiation 6 u) := by
    simp only [effLigStop, markStarted_lig, hp, hu]
  have hrest := endNegotiation_rest 6 u
  have ho : Outer s (endNegotiation 6 u) := Outer.trans (t := u) (by rw [heq]; exact ⟨rfl, rfl, rfl⟩) (endNegotiation_outer _ _)
  obtain ⟨t, hx, ha, hb⟩ := Runs.completes (sp := specLigStop) h rfl he ((endNegotiation_cmd hrun 6).trans hcmd)
    (by rw [hrest.clk, heq]; rfl) ho.pending ho.powered (congrArg Boot.inReset ho.boot) (Books.refl _)
  refine ⟨t, hx, ha, ?_⟩
  rw [hb.lig, hrest.lig]

/-- The release of a LIG_STOP is queued on the anchor, or its wait begins at once (03 R90). -/
theorem releaseOnAnchor_facts (s : State) : (releaseOnAnchor s).cmd = s.cmd ∧ (releaseOnAnchor s).lig.phase = s.lig.phase ∧
    (releaseOnAnchor s).lig.members = s.lig.members := by
  unfold releaseOnAnchor
  split <;> exact ⟨rfl, rfl, rfl⟩

theorem ligStop_active {q : CmdReq} {c : Cmd} {s : State} (h : Runs 0x0206 q c s) (hp : s.lig.phase = .active) :
    Completes (.ligStop q) s fun t => t.cmd.executing = [{ c with started := true }] ∧ t.lig.phase = .stopping ∧
      t.lig.members = s.lig.members := by
  obtain rfl := h.isReq
  obtain ⟨u, hu⟩ : ∃ u : State, u = { markStarted c s with
    lig := { s.lig with phase := .stopping, stopAt := none, stopBy := none, ackAt := none } } := ⟨_, rfl⟩
  have he : effLigStop c (markStarted c s) = .later (releaseOnAnchor u) := by
    simp only [effLigStop, markStarted_lig, hp, hu]
  obtain ⟨hcmd, hphase, hmembers⟩ := releaseOnAnchor_facts u
  refine h.goesOn (sp := specLigStop) rfl he ?_
  rw [keepOuter_cmd, keepOuter_lig, hcmd, hphase, hmembers, hu]
  exact ⟨congrArg CmdState.executing h.marked, rfl, rfl⟩

theorem ligReleaseAck_noted {i : Fin 4} {m : PloamRx} {s : State} (h : Heard i m s) (hp : s.lig.phase = .stopping)
    (ha : s.lig.stopAt ≠ none) (hb : s.lig.stopBy = some i.val) :
    exec (.ligReleaseAck i m) s = .next { s with lig := { s.lig with ackAt := some (ownTick s) } } :=
  h.next (if_pos ⟨hp, Option.isSome_iff_ne_none.2 ha, hb⟩) ⟨rfl, rfl, rfl⟩

theorem ligStopTimeout_dissolves {s : State} (h : On s) (hp : s.lig.phase = .stopping) (hr : ranFor 64 s.lig.stopAt s = true) :
    Completes .ligStopTimeout s fun t => t.lig.phase = .none ∧ t.lig.members = [] ∧ t.lig.held = [] := by
  have he : execLigStopTimeout s = dissolveGroup s := if_pos ⟨hp, hr⟩
  obtain ⟨_, _, _, hl⟩ := dissolveGroup_lig s
  refine completes_live h ?_
  rw [he, keepOuter_lig, hl]
  exact ⟨rfl, rfl, rfl⟩

/-- Settles O16: each row of the group's life has its own rule above. -/
theorem ligatureRowsTakeEffect : Obligations.LigatureRowsTakeEffect := by
  unfold Obligations.LigatureRowsTakeEffect
  exact fun s => ⟨fun _ _ => ligStart_negotiates, fun _ => ligProposeTimeout_repeats, ligProposeTimeout_ends,
    fun _ _ _ _ _ _ _ => ligAccept_accepted, fun _ => ligGroupActivate_activates,
    fun _ _ _ _ h ht ha => ⟨ligReject_ends h ht ha, ligRelease_dissolves h ht ha⟩, fun _ _ => ligMemberRejoin_rejoins,
    fun _ _ h => ⟨ligStop_negotiating h, ligStop_active h⟩, fun _ _ => ligReleaseAck_noted, ligStopTimeout_dissolves⟩

end Sys2Proof.Machine
end

section
/-!
PROOFS. Downstream reception: frame sync and codewords (04 R95–R101), XGEM frames (R102–R105), and bonded fragments (R108–R111).
-/

namespace Sys2Proof.Machine

theorem examines_awake {s : State} (h : s.pwr.state = .awake) (i : Nat) : examines i s = true := by
  simp only [examines, h]

theorem modSync_outer (i : Nat) (f : Sync → Sync) (s : State) : Outer s (modSync i f s) := modInst_outer i _ s

@[simp] theorem modSync_inst_same (i : Nat) (f : Sync → Sync) (s : State) :
    (modSync i f s).inst i = { s.inst i with sync := f (s.inst i).sync } := inst_modInst_same s i _

@[simp] theorem stampFrame_inst (i v : Nat) (s : State) (j : Nat) : (stampFrame i v s).inst j = s.inst j := rfl

theorem stampFrame_outer (i v : Nat) (s : State) : Outer s (stampFrame i v s) := ⟨rfl, rfl, rfl⟩

/-! ## Frame sync (R95, R96) -/

/-- What a new PHY frame leaves of its channel pair (R100, R103). -/
theorem newFrame_facts (i : Nat) (intact : Bool) (s : State) :
    (∃ r p, (newFrame i intact s).inst i = { s.inst i with reasm := r, mapSeen := true, sync := { (s.inst i).sync with
      phyPs := s.clk.nowPs, intactPs := p, frameLost := false, mapLost := false, payloadLost := false } }) ∧
    Outer s (newFrame i intact s) := by
  unfold newFrame
  extract_lets x stale reasm u
  have hi : u.inst i = { s.inst i with reasm, mapSeen := true } := by rw [countN_inst, inst_modInst_same]
  have hclk : u.clk = s.clk := countN_clk _ _ _ _
  have hu : Outer s u := (modInst_outer i _ s).trans (countN_noted _ _ _ _).outer
  rw [modSync_inst_same, hi, hclk]
  exact ⟨⟨_, _, rfl⟩, hu.trans (modSync_outer _ _ _)⟩

/-- A superframe counter as received fits the receiver's counter. -/
theorem map_sfc_mod (sfc : Option (BitVec 51)) : (sfc.map BitVec.toNat).map (· % 2 ^ 51) = sfc.map BitVec.toNat := by
  cases sfc with
  | none => rfl
  | some v => exact congrArg some (BitVec.toNat_mod_cancel v)

theorem dsPhyFrame_hunt {i : Fin 4} {s : State} (h : On s) (ha : s.pwr.state = .awake) (sfc : Option (BitVec 51))
    (hr : (s.inst i).rxLocked = true) (hy : (s.inst i).sync.state = 0) (here : Bool) :
    exec (.dsPhyFrame i (some 0) sfc here) s = .next (s.modInst i fun x => { x with
      sync := { x.sync with state := 1, kept := sfc.map BitVec.toNat, phyPs := s.clk.nowPs } }) := by
  refine congrArg Host.Outcome.next (live_eq h ?_ (modInst_outer _ _ _))
  simp only [execDsPhyFrame, hr, examines_awake ha, hy, Bool.not_true, Bool.or_self, Bool.false_eq_true, if_false, if_true, map_sfc_mod]
  rfl

/-- In SYNC, a frame whose PSync is present and whose superframe counter is the next one keeps SYNC (R96). -/
theorem execDsPhyFrame_inSync {i errors v : Nat} {s : State} (hr : (s.inst i).rxLocked = true) (he : examines i s = true)
    (hy : (s.inst i).sync.state = 2) (hn : errors ≤ 2) (hv : v = ((s.inst i).sync.sfc + 1) % 2 ^ 51) :
    execDsPhyFrame i (some errors) (some v) true s =
      stampFrame i v (modSync i (fun y => { y with misses := 0, sfc := v }) (newFrame i true s)) := by
  have hmod : v % 2 ^ 51 = v := by omega
  simp only [execDsPhyFrame, hr, he, hy, hn, hmod, ← hv, decide_true, stampFrame_inst, modSync_inst_same, Bool.not_true, Bool.or_self,
    Bool.false_eq_true, if_false, if_true, and_true, OfNat.ofNat_ne_zero, Nat.reduceEqDiff, Nat.reduceLeDiff]

theorem dsPhyFrame_inSync {i : Fin 4} {s : State} (h : On s) (ha : s.pwr.state = .awake) (errors : Nat) (sfc : BitVec 51)
    (hr : (s.inst i).rxLocked = true) (hy : (s.inst i).sync.state = 2) (hn : errors ≤ 2)
    (hv : sfc.toNat = ((s.inst i).sync.sfc + 1) % 2 ^ 51) :
    Completes (.dsPhyFrame i (some errors) (some sfc) true) s fun t =>
      (t.inst i).sync.state = 2 ∧ (t.inst i).sync.misses = 0 ∧ (t.inst i).sync.sfc = sfc.toNat ∧
      (t.inst i).sync.phyPs = s.clk.nowPs ∧ (t.inst i).st = (s.inst i).st := by
  obtain ⟨⟨_, _, hi⟩, ho⟩ := newFrame_facts i true s
  refine live_completes h _ (execDsPhyFrame_inSync hr (examines_awake ha i) hy hn hv)
    (ho.trans ((modSync_outer _ _ _).trans (stampFrame_outer _ _ _))) ?_
  rw [stampFrame_inst, modSync_inst_same, hi]
  exact ⟨hy, rfl, rfl, rfl, rfl⟩

/-! ## Codewords (R99, R100) -/

theorem execDsCodeword_corrected {i : Nat} {s : State} (he : examines i s = true) (hy : (s.inst i).sync.state = 2) (n bits : Nat)
    (content : List CwContent) : execDsCodeword i (some n) bits content s =
      let u := modSync i (fun y => { y with winCorrected := y.winCorrected + n, winBits := y.winBits + bits }) s
      if n = 0 then u else countN .dsBitsCorrected i n (count .dsCwCorrected i u) :=
  if_neg (by simp [hy, he])

theorem execDsCodeword_uncorrectable {i : Nat} {s : State} (he : examines i s = true) (hy : (s.inst i).sync.state = 2) (bits : Nat)
    (content : List CwContent) : execDsCodeword i none bits content s = content.foldl (fun s c => loseContent i c s)
      (count .dsCwUncorrectable i (modSync i (fun y => { y with badNow := true, winBits := y.winBits + bits }) s)) :=
  if_neg (by simp [hy, he])

theorem dsCodeword_corrected {i : Fin 4} {s : State} (h : On s) (ha : s.pwr.state = .awake) (n bits : Nat) (w : List CwContent)
    (hy : (s.inst i).sync.state = 2) : Completes (.dsCodeword i (some n) bits w) s fun t =>
      Books (s.modInst i fun x => { x with sync := { x.sync with
        winCorrected := x.sync.winCorrected + n, winBits := x.sync.winBits + bits } }) t := by
  obtain ⟨u, hu⟩ : ∃ u, u = s.modInst i fun x => { x with sync := { x.sync with
    winCorrected := x.sync.winCorrected + n, winBits := x.sync.winBits + bits } } := ⟨_, rfl⟩
  have hb : Books u (if n = 0 then u else countN .dsBitsCorrected i n (count .dsCwCorrected i u)) := by
    split
    · exact Books.refl u
    · exact (count_books _ _ _).trans (countN_books _ _ _ _)
  have ho : Outer s u := by
    rw [hu]
    exact modInst_outer _ _ _
  rw [← hu]
  refine live_completes h _ ?_ (ho.trans hb.outer) hb
  rw [hu]
  exact execDsCodeword_corrected (examines_awake ha i) hy n bits w

/-- With part of the HLend an uncorrectable codeword takes the frame's map, PLOAM partition and payload (Table 4.3). -/
theorem loseContent_hlend {i : Nat} {s : State} (hf : (s.inst i).sync.frameLost = false) :
    (loseContent i .hlend s).inst i = { s.inst i with mapSeen := false, sync := { (s.inst i).sync with
      frameLost := true, mapLost := true, payloadLost := true } } ∧
    Noted { s with insts := (loseContent i .hlend s).insts } (loseContent i .hlend s) := by
  simp only [loseContent, hf, Bool.false_eq_true, if_false]
  refine ⟨?_, ?_⟩
  · rw [count_inst, modSync_inst_same, inst_modInst_same]
  · rw [count_insts]
    exact count_noted _ _ _

theorem dsCodeword_hlendLost {i : Fin 4} {s : State} (h : On s) (ha : s.pwr.state = .awake) (bits : Nat)
    (hy : (s.inst i).sync.state = 2) (hf : (s.inst i).sync.frameLost = false) :
    Completes (.dsCodeword i none bits [.hlend]) s fun t =>
      (t.inst i).sync.frameLost = true ∧ (t.inst i).sync.mapLost = true ∧ (t.inst i).sync.payloadLost = true ∧
      Books { s with insts := t.insts } t := by
  obtain ⟨u, hu⟩ : ∃ u, u = count .dsCwUncorrectable i
    (modSync i (fun y => { y with badNow := true, winBits := y.winBits + bits }) s) := ⟨_, rfl⟩
  have huf : (u.inst i).sync.frameLost = false := by
    rw [hu, count_inst, modSync_inst_same]
    exact hf
  have hur : Noted { s with insts := u.insts } u := by
    rw [hu, count_insts]
    exact count_noted _ _ _
  obtain ⟨hi, hr⟩ := loseContent_hlend huf
  have hrest := hur.insts_trans hr
  refine live_completes h (loseContent i .hlend u) ?_ hrest.insts_outer ?_
  · rw [hu]
    exact execDsCodeword_uncorrectable (examines_awake ha i) hy bits [.hlend]
  · rw [hi]
    exact ⟨rfl, rfl, rfl, hrest.books⟩

/-! ## The signal window (R101, Table 4.4) -/

theorem setSd_inst (i : Nat) (b : Bool) (s : State) :
    (setSd i b s).inst i = { s.inst i with sync := { (s.inst i).sync with sd := b } } := by
  unfold setSd
  split
  · rw [← ‹(s.inst i).sync.sd = b›]
  · rw [raise_inst, inst_modInst_same]

theorem dsSignalWindowEnd_degraded {i : Fin 4} {s : State} (h : On s) (hy : (s.inst i).sync.state = 2)
    (hw : 8000 ≤ (s.inst i).sync.winTicks) (hb : (s.inst i).sync.winBits < 1000 * (s.inst i).sync.winCorrected)
    (h1 : (s.inst i).sync.badRun < 8) (h2 : (s.inst i).sync.goodRun < 64) :
    Completes (.dsSignalWindowEnd i) s fun t => (t.inst i).sync.sd = true ∧ (t.inst i).sync.winTicks = 0 ∧
      (t.inst i).sync.winCorrected = 0 ∧ (t.inst i).sync.winBits = 0 ∧ Books { s with insts := t.insts } t := by
  have hbad : ¬ 8 ≤ (s.inst i).sync.badRun := by omega
  have hgood : ¬ 64 ≤ (s.inst i).sync.goodRun := by omega
  obtain ⟨-, hr⟩ := setSd_facts i true s
  have hrest := hr.insts_trans (u := modSync i (fun y => { y with winTicks := 0, winCorrected := 0, winBits := 0 }) (setSd i true s)) rfl
  refine live_completes h _ ?_ hrest.insts_outer ?_
  · simp only [execDsSignalWindowEnd, hy, hw, hb, hbad, hgood, ne_eq, not_true_eq_false, if_false, if_true]
  · rw [modSync_inst_same, setSd_inst]
    exact ⟨rfl, rfl, rfl, rfl, hrest.books⟩

/-! ## XGEM frames (R102–R105) -/

theorem keyFault_clear {i port : Nat} {s : State} (he : (SMap.get {} (s.inst i).ports port).encrypt = false) :
    keyFault i port 0 s = none := by
  simp only [keyFault, he, Bool.false_and, Bool.false_eq_true, if_true, if_false]

/-- A unit that comes whole in one frame passes to the split as it came (R103). -/
theorem reassemble_whole {i port : Nat} {secure : Bool} {data : Bytes} {s : State} (hr : SMap.get {} (s.inst i).reasm port = {})
    (hl : data.length ≤ 16383) : reassemble i port true secure data s =
      splitUnit i port secure data (s.modInst i fun x => { x with reasm := SMap.set {} x.reasm port {} }) := by
  have hfit : ¬ 16383 < 0 + data.length := by omega
  simp only [reassemble, hr, List.length_nil, hfit, List.nil_append, Bool.false_or, Bool.false_eq_true, if_true, if_false]

/-- The OMCC port does not depend on what is being put together. -/
theorem isOmcc_modReasm (i port : Nat) (f : SMap Reasm → SMap Reasm) (s : State) :
    isOmcc i port (s.modInst i fun x => { x with reasm := f x.reasm }) = isOmcc i port s := by
  unfold isOmcc
  rw [inst_modInst_same]
  rfl

theorem splitUnit_ordinary {i port : Nat} {secure : Bool} {data : Bytes} {s : State} (ho : isOmcc i port s = false)
    (hb : (SMap.get {} (s.inst i).ports port).bonded = false) : splitUnit i port secure data s = toDownstream i port data s := by
  simp only [splitUnit, ho, hb, Bool.false_and, Bool.false_eq_true, if_false]

/-- A whole clear unit of a bound port that is not bonded goes to the pipeline. -/
theorem execXgemFrame_clear {i port : Nat} {data : Bytes} {s : State} (hx : examines i s = true) (hy : (s.inst i).sync.state = 2)
    (hf : (s.inst i).sync.frameLost = false) (hp : (s.inst i).sync.payloadLost = false) (hidle : port ≠ 0xFFFF)
    (ho : isOmcc i port s = false) (hr : SMap.get {} (s.inst i).reasm port = {}) (hl : data.length ≤ 16383)
    (hb : (SMap.get {} (s.inst i).ports port).bound = true) (he : (SMap.get {} (s.inst i).ports port).encrypt = false)
    (hn : (SMap.get {} (s.inst i).ports port).bonded = false) : execXgemFrame i 0 port 0 true data false s =
      toDownstream i port data (s.modInst i fun x => { x with reasm := SMap.set {} x.reasm port {} }) := by
  have hs : ¬ ((s.inst i).sync.state ≠ 2 ∨ (s.inst i).sync.frameLost = true ∨ (s.inst i).sync.payloadLost = true ∨
      examines i s = false) := by
    simp [hy, hf, hp, hx]
  have hknown : portKnown i port s = true := by simp only [portKnown, hb, Bool.or_true]
  have hpass : execXgemFrame i 0 port 0 true data false s = reassemble i port true false data s := by
    simp only [execXgemFrame, hs, hidle, hknown, keyFault_clear he, decrypt, Nat.reduceEqDiff, Bool.not_true, Bool.false_eq_true, if_true,
      if_false, ne_eq, not_true_eq_false, decide_false]
  rw [hpass, reassemble_whole hr hl]
  refine splitUnit_ordinary ((isOmcc_modReasm _ _ _ _).trans ho) ?_
  rw [inst_modInst_same]
  exact hn

theorem xgemFrame_clear {i : Fin 4} {s : State} (h : On s) (ha : s.pwr.state = .awake) (port : BitVec 16) (data : Bytes)
    (hy : (s.inst i).sync.state = 2) (hf : (s.inst i).sync.frameLost = false) (hp : (s.inst i).sync.payloadLost = false)
    (hidle : port ≠ 0xFFFF) (ho : isOmcc i port.toNat s = false) (hr : SMap.get {} (s.inst i).reasm port.toNat = {})
    (hl : data.length ≤ 16383) (hb : (SMap.get {} (s.inst i).ports port.toNat).bound = true)
    (he : (SMap.get {} (s.inst i).ports port.toNat).encrypt = false) (hn : (SMap.get {} (s.inst i).ports port.toNat).bonded = false) :
    Completes (.xgemFrame i 0 port 0 true data false) s fun t => t.waitDown = s.waitDown ++
      [{ data, ingress := i, tag := (SMap.get {} (s.inst i).ports port.toNat).flowTag, port := port.toNat
         phyPs := (s.inst i).sync.phyPs }] ∧ t.lig = s.lig := by
  have hidle' : port.toNat ≠ 0xFFFF := fun e => hidle (BitVec.eq_of_toNat_eq e)
  refine live_completes h _ (execXgemFrame_clear (examines_awake ha i) hy hf hp hidle' ho hr hl hb he hn) ⟨rfl, rfl, rfl⟩ ⟨?_, rfl⟩
  simp only [toDownstream, intoPipeline, flowTagOf, inst_modInst_same]
  rfl

/-! ## Bonded fragments (R108–R111) -/

theorem seqDiff_self (a : Nat) : seqDiff a a = 0 := by
  have hz : (a + 2 ^ 20 - a % 2 ^ 20) % 2 ^ 20 = 0 := by omega
  simp only [seqDiff, signed, hz]
  rfl

/-- A released fragment leaves NEXT_SEQ and what is held (R111). -/
theorem releaseFragment_facts (h : Held) (s : State) : (releaseFragment h s).lig.held = s.lig.held ∧
    (releaseFragment h s).lig.dsNext = s.lig.dsNext ∧ (releaseFragment h s).insts = s.insts ∧ Outer s (releaseFragment h s) := by
  unfold releaseFragment
  extract_lets g u
  split
  · have hu : Noted s u := by
      unfold u
      split
      · exact count_noted _ _ _
      · exact Noted.refl s
    split <;> exact ⟨rfl, rfl, hu.books.insts, hu.outer.trans ⟨rfl, rfl, rfl⟩⟩
  · split
    · split <;> exact ⟨rfl, rfl, rfl, rfl, rfl, rfl⟩
    · split
      · rw [count_lig, count_insts]
        exact ⟨rfl, rfl, rfl, Outer.trans (t := { s with lig := { s.lig with partLost := false } }) ⟨rfl, rfl, rfl⟩ (count_noted _ _ _).outer⟩
      · exact ⟨rfl, rfl, rfl, rfl, rfl, rfl⟩

/-- A fragment that is a whole frame goes to the pipeline as it is released, whatever was begun before it. -/
theorem releaseFragment_whole {h : Held} {s : State} (hf : h.first = true) (hl : h.last = true) :
    (releaseFragment h s).waitDown = s.waitDown ++
      [{ data := h.data, ingress := h.member, tag := h.tag, port := h.port, phyPs := h.phyPs }] := by
  simp only [releaseFragment, hf, hl, if_true, intoPipeline]
  split
  · rw [count_waitDown]
  · rfl

/-- The fragment with the number NEXT_SEQ is released at once while nothing is held (Table 4.7). -/
theorem arrive_next {n : Nat} {h : Held} {s : State} (hs : h.seq = s.lig.dsNext) (hh : s.lig.held = []) :
    arrive (n + 1) h s = releaseFragment h { s with lig := { s.lig with dsNext := (s.lig.dsNext + 1) % 2 ^ 20, outRun := 0 } } := by
  obtain ⟨v, hv⟩ : ∃ v : State, v = { s with lig := { s.lig with dsNext := (s.lig.dsNext + 1) % 2 ^ 20, outRun := 0 } } := ⟨_, rfl⟩
  have hheld : (releaseFragment h v).lig.held = [] := by
    rw [(releaseFragment_facts h v).1, hv]
    exact hh
  simp only [arrive, hs, seqDiff_self, if_true, ← hv, hheld, List.length_nil, releaseRun]

theorem ligFragmentArrival_next {i : Fin 4} {s : State} (h : On s) (port : BitVec 16) (seq : Nat) (data : Bytes)
    (he : expectsBonded i s = true) (hb : (SMap.get {} (s.inst i).ports port.toNat).bonded = true) (hy : (s.inst i).sync.state = 2)
    (hr : s.lig.resync = false) (hh : s.lig.held = []) (hq : seq % 2 ^ 20 = s.lig.dsNext) :
    Completes (.ligFragmentArrival i port { seq, first := true, last := true } data) s fun t =>
      t.lig.dsNext = (s.lig.dsNext + 1) % 2 ^ 20 ∧ t.lig.held = [] ∧ t.waitDown = s.waitDown ++
      [{ data, ingress := i, tag := (SMap.get {} (s.inst i).ports port.toNat).flowTag, port := port.toNat
         phyPs := (s.inst i).sync.phyPs }] := by
  obtain ⟨u, hu⟩ : ∃ u : State, u = { s with lig := { s.lig with
    lastSeq := SMap.set none s.lig.lastSeq i (some (seq % 2 ^ 20)), lastPs := SMap.set 0 s.lig.lastPs i s.clk.nowPs, resync := false } } :=
    ⟨_, rfl⟩
  obtain ⟨f, hf⟩ : ∃ f : Held, f = { seq := seq % 2 ^ 20, first := true, last := true, member := i, atPs := s.clk.nowPs
                                     port := port.toNat, data, tag := flowTagOf i port.toNat s, phyPs := (s.inst i).sync.phyPs } := ⟨_, rfl⟩
  have hexec : execLigFragmentArrival i port.toNat { seq, first := true, last := true } data s = arrive (u.lig.held.length + 2) f u := by
    simp only [execLigFragmentArrival, he, hb, hy, fragmentArrival, hr, Bool.and_self, decide_true, Bool.not_true, Bool.false_eq_true,
      if_true, if_false, hu, hf]
    rfl
  have hnext := arrive_next (n := u.lig.held.length + 1) (h := f) (s := u) (by rw [hf, hu]; exact hq) (by rw [hu]; exact hh)
  obtain ⟨hheld, hseq, -, ho⟩ := releaseFragment_facts f { u with lig := { u.lig with dsNext := (u.lig.dsNext + 1) % 2 ^ 20, outRun := 0 } }
  refine live_completes h _ (hexec.trans hnext) (Outer.trans ?_ ho) ⟨hseq.trans ?_, hheld.trans ?_, ?_⟩
  · rw [hu]
    exact ⟨rfl, rfl, rfl⟩
  · rw [hu]
  · rw [hu]
    exact hh
  · rw [releaseFragment_whole (by rw [hf]) (by rw [hf]), hf, hu]
    rfl

/-! ## The gap (R110, R111) -/

theorem lowestHeld_single {h : Held} {g : Lig} (hg : g.held = [h]) : lowestHeld g = some h := by
  simp only [lowestHeld, hg, List.foldl_cons, List.foldl_nil]

/-- A lone held fragment with the number NEXT_SEQ is released, and nothing is held any more. -/
theorem releaseRun_single {h : Held} {s : State} (hh : s.lig.held = [h]) (hs : h.seq = s.lig.dsNext) :
    releaseRun 1 s = releaseFragment h { s with lig := { s.lig with held := [], dsNext := (s.lig.dsNext + 1) % 2 ^ 20 } } := by
  have hgone : s.lig.held.filter (fun x => x.seq ≠ h.seq) = [] := by simp [hh]
  simp only [releaseRun, lowestHeld_single hh, hs, if_true]
  rw [← hs, hgone]

/-- Closing the gap moves NEXT_SEQ to the lowest held fragment and then releases the run that begins with it. -/
theorem closeGap_lowest {h : Held} {s : State} (hl : lowestHeld s.lig = some h) : ∃ v, releaseRun v.lig.held.length v = closeGap s ∧
    v.lig.held = s.lig.held ∧ v.lig.dsNext = h.seq ∧ v.insts = s.insts ∧ Outer s v := by
  obtain ⟨u, hu⟩ : ∃ u, u = countN .ligDsGapSeq 0 (seqDiff h.seq s.lig.dsNext).toNat (count .ligDsGapClosed 0 s) := ⟨_, rfl⟩
  have hnoted : Noted s u := by
    rw [hu]
    exact (count_noted _ _ _).trans (countN_noted _ _ _ _)
  refine ⟨{ u with lig := { u.lig with
    dsNext := h.seq, partOpen := false, partLost := u.lig.partOpen || u.lig.partLost, partData := [] } }, ?_,
    (congrArg Lig.held hnoted.books.lig :), rfl, hnoted.books.insts, hnoted.outer.trans ⟨rfl, rfl, rfl⟩⟩
  unfold closeGap
  rw [hl, hu]

/-- The gap before a lone held fragment closes: it is released, and NEXT_SEQ is past it. -/
theorem closeGap_single {h : Held} {s : State} (hh : s.lig.held = [h]) : (closeGap s).lig.held = [] ∧
    (closeGap s).lig.dsNext = (h.seq + 1) % 2 ^ 20 ∧ (closeGap s).insts = s.insts ∧ Outer s (closeGap s) := by
  obtain ⟨v, he, hvh, hvn, hvi, hvo⟩ := closeGap_lowest (lowestHeld_single hh)
  rw [hvh, hh, List.length_singleton, releaseRun_single (hvh.trans hh) hvn.symm] at he
  obtain ⟨hheld, hseq, hi, ho⟩ := releaseFragment_facts h
    { v with lig := { v.lig with held := [], dsNext := (v.lig.dsNext + 1) % 2 ^ 20 } }
  rw [← he]
  refine ⟨hheld, hseq.trans ?_, hi.trans hvi, hvo.trans (Outer.trans ?_ ho)⟩
  · rw [hvn]
  · exact ⟨rfl, rfl, rfl⟩

/-- A gap closes at the latest 64 µs after the oldest held fragment came (R110). -/
theorem gapPs_le (t : Nat) (s : State) : gapPs t s ≤ t + 64000000 := Nat.min_le_left _ _

theorem ligGapClose_skewEnd {s : State} (hon : On s) (h : Held) (hh : s.lig.held = [h])
    (hp : (h.atPs + 64000000) / 800 < s.clk.nowPs / 800) :
    Completes .ligGapClose s fun t => t.lig.held = [] ∧ t.lig.dsNext = (h.seq + 1) % 2 ^ 20 ∧ t.insts = s.insts := by
  have hold : oldestHeld s = some h.atPs := by
    simp only [oldestHeld, hh, List.map_cons, List.map_nil]
    rfl
  have hpast : gapPs h.atPs s / 800 < s.clk.nowPs / 800 := (Nat.div_le_div_right (gapPs_le _ _)).trans_lt hp
  obtain ⟨hheld, hseq, hi, ho⟩ := closeGap_single hh
  exact live_completes hon (closeGap s) (by simp only [execLigGapClose, hold, hpast, if_true]) ho ⟨hheld, hseq, hi⟩

/-- Settles O17: each row has its own rule above; the read of DS_SFC_LO is one of the latched reads. -/
theorem downstreamRowsTakeEffect : Obligations.DownstreamRowsTakeEffect := by
  unfold Obligations.DownstreamRowsTakeEffect
  exact fun i s h ha => ⟨dsPhyFrame_hunt h ha, dsPhyFrame_inSync h ha, dsCodeword_corrected h ha, dsCodeword_hlendLost h ha,
    dsSignalWindowEnd_degraded h, xgemFrame_clear h ha,
    fun port seq data he hb hy hr hh _ hq => ligFragmentArrival_next h port seq data he hb hy hr hh hq,
    fun e hh hp _ _ => ligGapClose_skewEnd h e hh hp,
    fun _ hp => dsSfcLoRead_latches ⟨⟨h, asleep_of_awake ha⟩, hp⟩ i⟩

end Sys2Proof.Machine
end

section
/-!
PROOFS. The commands of a fibre's service: OMCI_TX, PLOAM_TX, the port bindings (04 R116–R118) and the allocation slots (05 R143, R144).
-/

namespace Sys2Proof.Machine

/-- A command that changes its channel pair alone, and is done, answers OK with that change. -/
theorem Runs.changesInst {sp : CmdSpec} {eff : Cmd → State → Res} {q : CmdReq} {c : Cmd} {s : State} {p : Bytes} {i : Nat}
    {f : Inst → Inst} (h : Runs sp.op q c s) (hl : sp.lease q s = none)
    (he : eff c (markStarted c s) = .ok p ((markStarted c s).modInst i f)) :
    ∃ t, (Host.Outcome.next (live (runCmd sp eff q) s) : Host.Outcome State Fault Refusal) = .next t ∧
      Answers c .ok 0 p s t ∧ Books (s.modInst i f) t :=
  h.completes hl he rfl rfl rfl rfl rfl rfl

/-- The same of a command that changes one slot. -/
theorem Runs.changesAlloc {sp : CmdSpec} {eff : Cmd → State → Res} {q : CmdReq} {c : Cmd} {s : State} {p : Bytes} {ctx : Nat}
    {a : AllocCtx} (h : Runs sp.op q c s) (hl : sp.lease q s = none)
    (he : eff c (markStarted c s) = .ok p ((markStarted c s).setAlloc ctx a)) :
    ∃ t, (Host.Outcome.next (live (runCmd sp eff q) s) : Host.Outcome State Fault Refusal) = .next t ∧
      Answers c .ok 0 p s t ∧ Books (s.setAlloc ctx a) t :=
  h.completes hl he rfl rfl rfl rfl rfl rfl

/-! ## Messages of the host (04 R116, R117) -/

theorem omciTx_queues {q : CmdReq} {c : Cmd} {s : State} (h : Runs 0x0F00 q c s) (hn : (s.inst q.index).omcc.length < 64)
    (ho : (s.inst q.index).onuId ≠ none) : Completes (.omciTx q) s fun t => Answers c .ok 0 [] s t ∧
      Books (s.modInst q.index fun x => { x with omcc := x.omcc ++ [q.body.drop 4] }) t := by
  obtain rfl := h.isReq
  have hroom : ¬ 64 ≤ (s.inst c.req.index).omcc.length := by omega
  have hid : ¬ (s.inst c.req.index).onuId.isNone = true := fun h => ho (Option.isNone_iff_eq_none.1 h)
  exact Runs.changesInst (sp := specOmciTx) (eff := effOmciTx) h rfl ((if_neg hroom).trans (if_neg hid))

theorem ploamTx_queues {q : CmdReq} {c : Cmd} {s : State} (h : Runs 0x0F01 q c s) (ho : (s.inst q.index).onuId ≠ none)
    (hn : (s.inst q.index).upHost.length < 4) : Completes (.ploamTx q) s fun t =>
      t.cmd.executing = [{ c with started := true }] ∧ t.cmd.waiting = s.cmd.waiting ∧
      Books (s.modInst q.index fun x => { x with upHost := x.upHost ++
        [{ msg := .host (u8 q.body 0) (if u8 q.body 1 = 1 then u8 q.body 2 else 256) (q.body.drop 4), cmd := some c.seq }] }) t := by
  obtain rfl := h.isReq
  have hroom : ¬ 4 ≤ (s.inst c.req.index).upHost.length := by omega
  have hid : ¬ (s.inst c.req.index).onuId.isNone = true := fun h => ho (Option.isNone_iff_eq_none.1 h)
  refine h.goesOn (sp := specPloamTx) (eff := effPloamTx) rfl ((if_neg hid).trans (if_neg hroom)) ⟨?_, ?_, rfl⟩
  · exact (congrArg CmdState.executing h.marked :)
  · exact (congrArg CmdState.waiting h.marked :)

/-! ## Port bindings (04 R118) -/

/-- A binding made while there is no group is not bonded. -/
theorem effDsPortBind_alone {c : Cmd} {s : State}
    (hr : (SMap.get {} (s.inst c.req.index).ports (u16 c.req.body 0)).bound = true ∨ (s.inst c.req.index).ports.length < 4096)
    (hl : s.lig.phase = .none) : effDsPortBind c s = .ok [] (s.modInst c.req.index fun x => { x with
      ports := SMap.set {} x.ports (u16 c.req.body 0)
        { bound := true, encrypt := bit (u8 c.req.body 2) 0, multicast := bit (u8 c.req.body 2) 1, flowTag := u16 c.req.body 4 } }) := by
  have hroom : ¬ ((SMap.get {} (s.inst c.req.index).ports (u16 c.req.body 0)).bound = false ∧ 4096 ≤ (s.inst c.req.index).ports.length) := by
    rintro ⟨hb, hf⟩
    rcases hr with hr | hr
    · exact Bool.false_ne_true (hb.symm.trans hr)
    · omega
  simp only [effDsPortBind, hroom, hl, reduceCtorEq, decide_false, Bool.or_self, Bool.false_and, if_false]
  rfl

theorem dsPortBind_binds {q : CmdReq} {c : Cmd} {s : State} (b : PortBind) (h : Runs 0x0F02 q c s)
    (hr : (SMap.get {} (s.inst q.index).ports (u16 q.body 0)).bound = true ∨ (s.inst q.index).ports.length < 4096)
    (hl : s.lig.phase = .none)
    (hb : b = { bound := true, encrypt := bit (u8 q.body 2) 0, multicast := bit (u8 q.body 2) 1, flowTag := u16 q.body 4 }) :
    Completes (.dsPortBind q) s fun t => Answers c .ok 0 [] s t ∧
      Books (s.modInst q.index fun x => { x with ports := SMap.set {} x.ports (u16 q.body 0) b }) t := by
  obtain rfl := h.isReq
  subst hb
  exact Runs.changesInst (sp := specDsPortBind) h rfl (effDsPortBind_alone (s := markStarted c s) hr hl)

theorem dsPortUnbind_removes {q : CmdReq} {c : Cmd} {s : State} (h : Runs 0x0F03 q c s)
    (hb : (SMap.get {} (s.inst q.index).ports (u16 q.body 0)).bound = true) :
    Completes (.dsPortUnbind q) s fun t => Answers c .ok 0 [] s t ∧
      Books (s.modInst q.index fun x => { x with ports := SMap.set {} x.ports (u16 q.body 0) {} }) t := by
  obtain rfl := h.isReq
  exact Runs.changesInst (sp := specDsPortUnbind) (eff := effDsPortUnbind) h rfl (if_pos hb)

theorem dsPortQuery_answers {q : CmdReq} {c : Cmd} {s : State} (b : PortBind) (h : Runs 0x0F04 q c s)
    (hb : SMap.get {} (s.inst q.index).ports (u16 q.body 0) = b) (hbound : b.bound = true) :
    Completes (.dsPortQuery q) s fun t => Answers c .ok 0
      (le 2 (u16 q.body 0) ++ le 1 (b2n b.encrypt + 2 * b2n b.multicast +
        64 * b2n (decide ((s.inst q.index).onuId = some (u16 q.body 0))) + 128 * b2n b.bonded) ++ zeros 1 ++
        le 2 b.flowTag ++ zeros 2) s t ∧ Books s t := by
  obtain rfl := h.isReq
  subst hb
  exact Runs.completes (sp := specDsPortQuery) (eff := effDsPortQuery) h rfl (if_pos hbound) rfl rfl rfl rfl rfl (markStarted_books c s)

/-! ## Allocation slots (05 R143, R144) -/

theorem allocConfig_held {q : CmdReq} {c : Cmd} {s : State} (ctx : Nat) (h : Runs 0x0210 q c s) (hc : ctx = 256 * q.index + u8 q.body 0) :
    Completes (.allocConfig q) s fun t => Answers c .ok 0 [] s t ∧
      Books (s.setAlloc ctx { s.alloc ctx with next := some (allocCfgOf q.body) }) t := by
  obtain rfl := h.isReq
  subst hc
  exact Runs.changesAlloc (sp := specAllocConfig) (eff := effAllocConfig) h rfl rfl

theorem allocQuery_answers {q : CmdReq} {c : Cmd} {s : State} (ctx : Nat) (h : Runs 0x0211 q c s) (hc : ctx = 256 * q.index + u8 q.body 0) :
    Completes (.allocQuery q) s fun t =>
      Answers c .ok 0 (le 2 ((s.alloc ctx).allocId.getD 0xFFFF) ++ le 2 (8 * ctx) ++ (s.alloc ctx).cfg.bytes (u8 q.body 0) ++
        le 4 (s.alloc ctx).granted ++ le 4 (s.alloc ctx).skipped) s t ∧
      Books (s.setAlloc ctx { s.alloc ctx with skipped := 0 }) t := by
  obtain rfl := h.isReq
  subst hc
  exact Runs.changesAlloc (sp := specAllocQuery) (eff := effAllocQuery) h rfl rfl

/-- Settles O18: each command has its own rule above. -/
theorem fibreServiceCommandsAnswer : Obligations.FibreServiceCommandsAnswer := by
  unfold Obligations.FibreServiceCommandsAnswer
  exact fun _ _ _ => ⟨omciTx_queues, ploamTx_queues, dsPortBind_binds, dsPortUnbind_removes, dsPortQuery_answers, allocConfig_held,
    allocQuery_answers⟩

end Sys2Proof.Machine
end

section
/-!
PROOFS. Upstream bursts (05): intake of a grant, pull, preparation, enable, launch, feed deadline, end, the release of a slot, and the read
of US_NEXT_TICK (R119–R141).
-/

namespace Sys2Proof.Machine

/-! ## What a burst's content leaves -/

/-- From s to t the outer state and the clock are as before, and so are each channel pair's schedule, EqD and light. -/
structure Steady (s t : State) : Prop where
  outer : Outer s t
  clk : t.clk = s.clk
  sched : ∀ j, (t.inst j).sched = (s.inst j).sched
  eqd : ∀ j, (t.inst j).eqd = (s.inst j).eqd
  laserOn : ∀ j, (t.inst j).laserOn = (s.inst j).laserOn

theorem Steady.of_insts {s t : State} (ho : Outer s t) (hc : t.clk = s.clk) (hi : t.insts = s.insts) : Steady s t :=
  ⟨ho, hc, fun j => by rw [inst_of_insts hi], fun j => by rw [inst_of_insts hi], fun j => by rw [inst_of_insts hi]⟩

theorem Steady.refl (s : State) : Steady s s := .of_insts (.refl s) rfl rfl

theorem Steady.trans {s t u : State} (h : Steady s t) (k : Steady t u) : Steady s u :=
  ⟨h.outer.trans k.outer, k.clk.trans h.clk, fun j => (k.sched j).trans (h.sched j), fun j => (k.eqd j).trans (h.eqd j),
    fun j => (k.laserOn j).trans (h.laserOn j)⟩

theorem Books.steady {s t : State} (h : Books s t) : Steady s t := .of_insts h.outer h.clk h.insts

theorem foldl_steady {α : Type} {f : State → α → State} (hf : ∀ s a, Steady s (f s a)) (l : List α) : ∀ s, Steady s (l.foldl f s) := by
  induction l with
  | nil => exact Steady.refl
  | cons a l ih => exact fun s => (hf s a).trans (ih _)

theorem setInst_steady {i : Nat} {v : Inst} {s : State} (hs : v.sched = (s.inst i).sched) (he : v.eqd = (s.inst i).eqd)
    (hl : v.laserOn = (s.inst i).laserOn) : Steady s (s.setInst i v) := by
  have hv (j : Nat) : (s.setInst i v).inst j = if j = i then v else s.inst j := by
    split
    · next h => rw [h, inst_setInst_same]
    · next h => exact inst_setInst_other s h v
  refine ⟨⟨rfl, rfl, rfl⟩, rfl, fun j => ?_, fun j => ?_, fun j => ?_⟩ <;> rw [hv] <;> split <;> simp_all

theorem modInst_steady {i : Nat} {f : Inst → Inst} {s : State} (hs : (f (s.inst i)).sched = (s.inst i).sched)
    (he : (f (s.inst i)).eqd = (s.inst i).eqd) (hl : (f (s.inst i)).laserOn = (s.inst i).laserOn) : Steady s (s.modInst i f) :=
  setInst_steady hs he hl

theorem setAlloc_steady (c : Nat) (v : AllocCtx) (s : State) : Steady s (s.setAlloc c v) := .of_insts ⟨rfl, rfl, rfl⟩ rfl rfl

theorem setLig_steady (v : Lig) (s : State) : Steady s { s with lig := v } := .of_insts ⟨rfl, rfl, rfl⟩ rfl rfl

theorem count_steady (c : Ctr) (n : Nat) (s : State) : Steady s (count c n s) := (count_books c n s).steady

theorem countN_steady (c : Ctr) (j n : Nat) (s : State) : Steady s (countN c j n s) := (countN_books c j n s).steady

theorem takeFree_steady (w : Nat) (s : State) : Steady s (takeFree w s).2 := .of_insts ⟨rfl, rfl, rfl⟩ rfl rfl

/-! ## Queues: the pick and the dequeue (08 R211) -/

theorem setQueue_steady (q : Nat) (v : Queue) (s : State) : Steady s (s.setQueue q v) := .of_insts ⟨rfl, rfl, rfl⟩ rfl rfl

theorem setShaper_steady (n : Nat) (v : Shaper) (s : State) : Steady s (s.setShaper n v) := .of_insts ⟨rfl, rfl, rfl⟩ rfl rfl

theorem dequeue_steady (q : Nat) (s : State) : Steady s (dequeue q s).2 := by
  unfold dequeue
  split
  · exact Steady.refl s
  · have hmark (s : State) (n : Nat) : Steady s (if shaperIdle n s then s.setShaper n { s.shaper n with emptied := clockNo s } else s) := by
      split
      · exact setShaper_steady _ _ s
      · exact Steady.refl s
    exact ((setQueue_steady _ _ s).trans (noteWaiting_noted _ _).books.steady).trans
      ((foldl_steady (fun s n => setShaper_steady n _ s) _ _).trans (foldl_steady hmark _ _))

theorem drrRound_steady (qs : List Nat) : ∀ s, Steady s (drrRound qs s).2 := by
  induction qs with
  | nil => exact Steady.refl
  | cons q qs ih =>
    intro s
    unfold drrRound
    dsimp only
    split
    · exact setQueue_steady _ _ s
    · exact (setQueue_steady _ _ s).trans (ih _)

theorem drrRounds_steady (qs : List Nat) (n : Nat) : ∀ s, Steady s (drrRounds qs n s).2 := by
  induction n with
  | zero => exact Steady.refl
  | succ n ih =>
    intro s
    have hr := drrRound_steady qs s
    unfold drrRounds
    split
    · next heq => rw [heq] at hr; exact hr
    · next heq => rw [heq] at hr; exact hr.trans (ih _)

theorem pick_steady (k : Nat) (qs : List Nat) (s : State) : Steady s (pick k qs s).2 := by
  unfold pick
  split
  · exact Steady.refl s
  · extract_lets level key last goesOn order
    split
    · exact Steady.refl s
    · have hr := drrRounds_steady order 256 s
      split
      · next heq => rw [heq] at hr; exact hr.trans (.of_insts ⟨rfl, rfl, rfl⟩ rfl rfl)
      · next heq => rw [heq] at hr; exact hr

/-! ## The passes over an allocation (R130–R139) -/

theorem nextSeq_steady (b : Bool) (s : State) : Steady s (nextSeq b s).2 := by
  cases b
  · exact Steady.refl s
  · exact setLig_steady _ s

theorem leaveRest_steady (k : PassKind) (p : Piece) (s : State) : Steady s (leaveRest k p s) := by
  unfold leaveRest
  split
  · exact setLig_steady _ s
  · exact setAlloc_steady _ _ s

theorem fillCont_steady (i ctx : Nat) (frag : Bool) (f : Fill) (s : State) : Steady s (fillCont i ctx frag f s).2.2 := by
  unfold fillCont
  extract_lets a
  split
  · exact Steady.refl s
  · split
    · exact (setAlloc_steady _ _ s).trans (count_steady _ _ _)
    · split
      · exact setAlloc_steady _ _ s
      · split
        · exact setAlloc_steady _ _ s
        · exact Steady.refl s

theorem fillOmcc_steady (i n : Nat) : ∀ f s, Steady s (fillOmcc i n f s).2 := by
  induction n with
  | zero => exact fun _ => Steady.refl
  | succ n ih =>
    intro f s
    unfold fillOmcc
    split
    · exact Steady.refl s
    · split
      · exact (modInst_steady rfl rfl rfl).trans (ih _ _)
      · exact Steady.refl s

/-- A frame leaves its queue and takes its number. -/
theorem takeFrame_steady (q : Nat) (b : Bool) (s : State) : Steady s (nextSeq b (dequeue q s).2).2 :=
  (dequeue_steady q s).trans (nextSeq_steady b _)

theorem fillQueues_steady (k : PassKind) (src n : Nat) : ∀ f s, Steady s (fillQueues k src n f s).2 := by
  induction n with
  | zero => exact fun _ => Steady.refl
  | succ n ih =>
    intro f s
    have hp := pick_steady src ((ctxQueues src).filter (fun q => eligible q s)) s
    unfold fillQueues
    generalize pick src _ s = r at hp
    obtain ⟨q, u⟩ := r
    cases q with
    | none => exact hp
    | some q =>
      refine hp.trans ?_
      dsimp only
      split
      · exact Steady.refl u
      · next fr _ =>
        split
        · exact ((dequeue_steady q u).trans (count_steady _ _ _)).trans (ih _ _)
        · split
          · refine (Steady.trans ?_ (takeFrame_steady q (k.bonded && inBondRange fr.port u) _)).trans (ih _ _)
            split
            · exact count_steady _ _ u
            · exact Steady.refl u
          · split
            · exact Steady.refl u
            · exact (takeFrame_steady q _ u).trans (leaveRest_steady _ _ _)

theorem fillReturns_steady (i : Nat) (ps : List Piece) : ∀ f s, Steady s (fillReturns i ps f s).2.2 := by
  induction ps with
  | nil => exact fun _ s => setLig_steady _ s
  | cons p ps ih =>
    intro f s
    unfold fillReturns
    split
    · exact (count_steady _ _ s).trans (ih _ _)
    · split
      · exact ih _ s
      · exact setLig_steady _ s

theorem fillBondCont_steady (i : Nat) (f : Fill) (s : State) : Steady s (fillBondCont i f s).2.2 := by
  unfold fillBondCont
  split
  · exact Steady.refl s
  · split
    · exact (setLig_steady _ s).trans (count_steady _ _ _)
    · split
      · exact (nextSeq_steady true s).trans (setLig_steady _ _)
      · split
        · exact (nextSeq_steady true s).trans (setLig_steady _ _)
        · exact Steady.refl s

theorem fillLocal_steady (i ctx : Nat) (withCont : Bool) (f : Fill) (s : State) : Steady s (fillLocal i ctx withCont f s).2 := by
  unfold fillLocal
  extract_lets frag
  have hc : Steady s (if withCont then fillCont i ctx frag f s else (true, f, s)).2.2 := by
    split
    · exact fillCont_steady i ctx frag f s
    · exact Steady.refl s
  generalize (if withCont = true then fillCont i ctx frag f s else (true, f, s)) = r at hc
  obtain ⟨on, g, u⟩ := r
  refine hc.trans ?_
  dsimp only
  split
  · split
    · exact (fillOmcc_steady i _ g u).trans (fillQueues_steady _ _ _ _ _)
    · exact fillQueues_steady _ _ _ g u
  · exact Steady.refl u

theorem fillBonded_steady (i ctx : Nat) (f : Fill) (s : State) : Steady s (fillBonded i ctx f s).2 := by
  unfold fillBonded
  extract_lets src group
  split
  · exact Steady.refl s
  · have hr := fillReturns_steady i s.lig.returns f s
    generalize fillReturns i s.lig.returns f s = r at hr
    obtain ⟨on, g, u⟩ := r
    refine hr.trans ?_
    dsimp only
    have hb : Steady u (if on then fillBondCont i g u else (false, g, u)).2.2 := by
      split
      · exact fillBondCont_steady i g u
      · exact Steady.refl u
    generalize (if on = true then fillBondCont i g u else (false, g, u)) = r at hb
    obtain ⟨on, g, v⟩ := r
    refine hb.trans ?_
    dsimp only
    split
    · exact Steady.refl v
    · split
      · exact fillQueues_steady _ _ _ g v
      · have hc := fillCont_steady i ctx true g v
        generalize fillCont i ctx true g v = r at hc
        obtain ⟨on, g, w⟩ := r
        refine hc.trans ?_
        dsimp only
        split
        · exact fillQueues_steady _ _ _ g w
        · exact Steady.refl w

theorem fillAlloc_steady (i : Nat) (a : Alloc) (s : State) : Steady s (fillAlloc i a s).2 := by
  rcases hf : (s.alloc a.ctx).cfg.feed with _ | _ | n <;> simp only [fillAlloc, hf]
  · exact fillLocal_steady i a.ctx true _ s
  · exact Steady.refl s
  · exact fillBonded_steady i a.ctx _ s

theorem fillAlloc_ctx (i : Nat) (a : Alloc) (s : State) : (fillAlloc i a s).1.ctx = a.ctx := rfl

theorem fillAllocs_steady (i : Nat) (as : List Alloc) : ∀ s, Steady s (fillAllocs i as s).2 := by
  induction as with
  | nil => exact Steady.refl
  | cons a as ih => exact fun s => (fillAlloc_steady i a s).trans (ih _)

theorem fillAllocs_ctx (i : Nat) (as : List Alloc) : ∀ s, (fillAllocs i as s).1.map (fun a => a.ctx) = as.map (fun a => a.ctx) := by
  induction as with
  | nil => exact fun _ => rfl
  | cons a as ih => exact fun s => congrArg (a.ctx :: ·) (ih _)

theorem sampleDbru_ctx (i : Nat) (s : State) (a : Alloc) : (sampleDbru i s a).ctx = a.ctx := by
  unfold sampleDbru
  split <;> rfl

/-! ## The intake of a grant (R119, R123) -/

/-- The launch entry of a grant of one context that joins no other (R119 step 5). -/
def launchEntry (x : Inst) (g : Grant) (b : BurstProfile) (c : Nat) : Entry :=
  { atPs := upFrame x + g.startPs - bytesPs x.usRate b.psbu, endPs := upFrame x + g.startPs + g.linePs
    profile := g.profile, psbu := b.psbu, fec := b.fec, ploamu := g.ploamu
    allocs := [{ ctx := c, allocId := g.allocId, payload := g.payload, areaPs := upFrame x + g.startPs + g.areaPs
                 startPs := upFrame x + g.startPs, endPs := upFrame x + g.startPs + g.linePs, ploamu := g.ploamu, dbru := g.dbru }] }

/-- A grant in time, of a context that no worker feeds, becomes the one entry of an empty schedule. -/
theorem writeGrant_first {i c : Nat} {g : Grant} {b : BurstProfile} {s : State} (hs : (s.inst i).sched = []) (hp : pairStandby s = false)
    (hf : (s.alloc c).cfg.feed ≠ 1) (hn : g.sn = false)
    (ht : s.clk.nowPs < upFrame (s.inst i) + g.startPs - bytesPs (s.inst i).usRate b.psbu - 1000000) :
    ((writeGrant i g b (some c) false s).inst i).sched = [launchEntry (s.inst i) g b c] ∧
    ((writeGrant i g b (some c) false s).inst i).mapSeen = (s.inst i).mapSeen ∧
    (writeGrant i g b (some c) false s).allocs = s.allocs ∧ Outer s (writeGrant i g b (some c) false s) := by
  have hfeed (f : Inst → Inst) : ((s.modInst i f).alloc c).cfg.feed ≠ 1 := hf
  have hstandby (f h : Inst → Inst) : pairStandby ((s.modInst i f).modInst i h) = false := hp
  have hj (start : Nat) : joins [] start g.profile false = none := rfl
  have hd (l u : Nat) : displaced [] l u s.clk.nowPs = some [] := rfl
  have hroom : ¬ 2048 ≤ 0 := by decide
  simp only [writeGrant, hs, hj, hd, Nat.not_le.2 ht, hroom, if_false, List.length_nil, List.foldl_nil, Option.map_some, pullFor, hfeed,
    decide_false, Bool.false_and, Bool.false_eq_true, askLoan, hstandby, hn, Bool.or_false, inst_modInst_same, List.filter_nil, insertEntry]
  exact ⟨rfl, trivial, rfl, rfl, rfl, rfl⟩

/-- A matched grant of the right size and a usable profile is entered in the ledger and written (R119, R120). -/
theorem takeGrant_served {i c : Nat} {g : Grant} {b : BurstProfile} {s : State} (ha : s.pwr.state = .awake) (hg : g.tooSmall = false)
    (hz : g.startPs + g.linePs ≤ tickPs) (hb : burstOf (s.inst i) g.profile = some b) : takeGrant i g (some c) false s =
      writeGrant i g b (some c) false (s.setAlloc c { s.alloc c with grantedNow := (s.alloc c).grantedNow + g.payload }) := by
  have hwake (n : Nat) (v : AllocCtx) : fireWake n (s.setAlloc c v) = s.setAlloc c v := fireWake_awake (s := s.setAlloc c v) ha n
  have hawake (v : AllocCtx) : asleep (s.setAlloc c v) = false := asleep_of_awake (s := s.setAlloc c v) ha
  simp only [takeGrant, hwake, hawake, hg, setAlloc_inst, hb, Nat.not_lt.2 hz, Option.isSome_some, Bool.not_false, Bool.and_self,
    Bool.false_eq_true, or_self, if_true, if_false]

/-- A whole grant of an own context is taken in on a channel pair in SYNC (R119). -/
theorem execGrantIntake_own {i c : Nat} {g : Grant} {s : State} (ha : s.pwr.state = .awake) (hy : (s.inst i).sync.state = 2)
    (hl : (s.inst i).sync.frameLost = false) (hm : (s.inst i).sync.mapLost = false) (hg : g.hecOk = true) (hn : g.sn = false)
    (hc : (ctxsOf i).find? (fun c => decide ((s.alloc c).allocId = some g.allocId)) = some c) :
    execGrantIntake i g s = takeGrant i g (some c) false (s.modInst i fun x => { x with mapSeen := true }) := by
  have hmatch : matchAlloc i g.allocId (s.modInst i fun x => { x with mapSeen := true }) = some (c, false) := by
    show matchAlloc i g.allocId s = some (c, false)
    simp only [matchAlloc, hc]
  simp only [execGrantIntake, hy, hl, hm, examines_awake ha, hg, hn, hmatch, ne_eq, not_true_eq_false, Bool.false_eq_true, reduceCtorEq,
    or_self, if_false, Bool.not_true, Bool.not_false, Bool.true_or, if_true]

theorem grantIntake_schedules {i : Fin 4} {s : State} (h : On s) (g : Grant) (b : BurstProfile) (c : Nat) (ha : s.pwr.state = .awake)
    (hy : (s.inst i).sync.state = 2) (hl : (s.inst i).sync.frameLost = false) (hm : (s.inst i).sync.mapLost = false)
    (hg : g.hecOk = true) (hn : g.sn = false) (hz : g.tooSmall = false) (hline : g.startPs + g.linePs ≤ 125000000)
    (hs : (s.inst i).sched = []) (hp : pairStandby s = false)
    (hc : (ctxsOf i).find? (fun c => decide ((s.alloc c).allocId = some g.allocId)) = some c) (hf : (s.alloc c).cfg.feed ≠ 1)
    (hb : burstOf (s.inst i) g.profile = some b)
    (ht : s.clk.nowPs < upFrame (s.inst i) + g.startPs - bytesPs (s.inst i).usRate b.psbu - 1000000) :
    Completes (.grantIntake i g) s fun t => (t.alloc c).grantedNow = (s.alloc c).grantedNow + g.payload ∧
      (t.inst i).mapSeen = true ∧ (t.inst i).sched = [launchEntry (s.inst i) g b c] := by
  obtain ⟨u, hu⟩ : ∃ u, u = s.modInst i fun x => { x with mapSeen := true } := ⟨_, rfl⟩
  have hui : u.inst i = { s.inst i with mapSeen := true } := by rw [hu, inst_modInst_same]
  have hua : u.alloc c = s.alloc c := by rw [hu, modInst_alloc]
  obtain ⟨v, hv⟩ : ∃ v, v = u.setAlloc c { u.alloc c with grantedNow := (u.alloc c).grantedNow + g.payload } := ⟨_, rfl⟩
  have hvi : v.inst i = { s.inst i with mapSeen := true } := by rw [hv, setAlloc_inst, hui]
  have hva : v.alloc c = { s.alloc c with grantedNow := (s.alloc c).grantedNow + g.payload } := by rw [hv, alloc_setAlloc_same, hua]
  have hou : Outer s v := by rw [hv, hu]; exact ⟨rfl, rfl, rfl⟩
  have hexec : execGrantIntake i g s = writeGrant i g b (some c) false v := by
    rw [execGrantIntake_own ha hy hl hm hg hn hc, ← hu, hv]
    exact takeGrant_served (by rw [hu]; exact ha) hz hline (by rw [hui]; exact hb)
  obtain ⟨hsched, hseen, hallocs, hout⟩ := writeGrant_first (i := i) (c := c) (g := g) (b := b) (s := v) (by rw [hvi]; exact hs)
    (by rw [hv, hu]; exact hp) (by rw [hva]; exact hf) hn (by rw [hvi, hv, hu]; exact ht)
  refine live_completes h _ hexec (hou.trans hout) ⟨?_, ?_, ?_⟩
  · rw [alloc_of_allocs hallocs, hva]
  · rw [hseen, hvi]
  · rw [hsched, hvi]
    rfl

/-! ## A pull in time (10 R266) -/

/-- Off a standby a control block goes out on a lane that transmits. -/
theorem sendBlock_sent {n : Nat} {s : State} (ht : (s.lane n).transmits = true) (hp : pairStandby s = false) (type body : Nat) :
    sendBlock n type body s = emit (.block n type body) s := by
  simp only [sendBlock, putLane, ht, laneCarries, hp, Bool.not_false, Bool.true_or, Bool.and_self, if_true]

/-- A worker once the PULL of a GRANT_ID has been sent. -/
def Worker.pullSent (gid : Nat) (x : Worker) : Worker :=
  { x with pulls := x.pulls.map (fun q => if q.gid = gid then { q with sent := true } else q) }

theorem Worker.pullSent_marks {gid : Nat} {x : Worker} : ∀ q ∈ (x.pullSent gid).pulls, q.gid = gid → q.sent = true := by
  intro q hq hg
  obtain ⟨r, -, rfl⟩ := List.mem_map.1 hq
  by_cases hr : r.gid = gid
  · rw [if_pos hr]
  · rw [if_neg hr] at hg
    exact absurd hg hr

theorem sendPull_timely {w : Nat} {p : Pull} {s : State} (ht : s.clk.nowPs + delayPs w s + (s.worker w).leadNs * 1000 ≤ p.atPs)
    (hl : (s.lane w).transmits = true) (hp : pairStandby s = false) : ∃ body, sendPull w p s =
      (true, emit (.block w 0x69 body) (s.setWorker w ((s.worker w).pullSent p.gid))) :=
  ⟨_, (if_pos ht).trans (congrArg (Prod.mk true) (sendBlock_sent (s := s.setWorker w ((s.worker w).pullSent p.gid)) hl hp 0x69 _))⟩

theorem pullIssue_sends {i : Fin 4} {s : State} (h : On s) (ctx : Fin 1024) (p : Pull) (w : Nat) (hw : w = (s.alloc ctx).cfg.worker)
    (hf : (s.worker w).pulls.find? (fun p => decide (p.ctx = ctx.val) && decide (p.inst = i.val) && !p.sent) = some p)
    (ht : max s.clk.nowPs (p.atPs - 250000000) + delayPs w s + (s.worker w).leadNs * 1000 ≤ p.atPs)
    (hl : (s.lane w).transmits = true) (hp : pairStandby s = false) :
    Completes (.pullIssue i ctx) s fun t => t.clk.nowPs = max s.clk.nowPs (p.atPs - 250000000) ∧
      (∃ body, Out.block w 0x69 body ∈ t.out) ∧ ∀ x ∈ (t.worker w).pulls, x.gid = p.gid → x.sent = true := by
  obtain ⟨body, he⟩ := sendPull_timely (s := advanceTo (p.atPs - 250000000) s) (p := p) ht hl hp
  have hexec : execPullIssue i ctx s = emit (.block w 0x69 body)
      ((advanceTo (p.atPs - 250000000) s).setWorker w ((s.worker w).pullSent p.gid)) := by
    subst hw
    simp only [execPullIssue, hf, he, if_true]
    rfl
  refine live_completes h _ hexec ⟨rfl, rfl, rfl⟩ ⟨rfl, ⟨body, List.mem_cons_self⟩, ?_⟩
  exact (worker_setWorker_same (advanceTo (p.atPs - 250000000) s) w ((s.worker w).pullSent p.gid)).symm ▸ Worker.pullSent_marks

/-! ## The entry of a schedule that launches at an instant -/

theorem advanceTo_outer (ps : Nat) (s : State) : Outer s (advanceTo ps s) := ⟨rfl, rfl, rfl⟩

theorem modEntry_outer (i l : Nat) (f : Entry → Entry) (s : State) : Outer s (modEntry i l f s) := modInst_outer i _ s

@[simp] theorem modEntry_clk (i l : Nat) (f : Entry → Entry) (s : State) : (modEntry i l f s).clk = s.clk := rfl

@[simp] theorem modEntry_sched (i l : Nat) (f : Entry → Entry) (s : State) :
    ((modEntry i l f s).inst i).sched = (s.inst i).sched.map (fun e => if e.atPs = l then f e else e) := by
  rw [modEntry, inst_modInst_same]

/-- In a schedule of one entry that one changes. -/
theorem modEntry_only {i : Nat} {e : Entry} {s : State} (h : (s.inst i).sched = [e]) (f : Entry → Entry) :
    ((modEntry i e.atPs f s).inst i).sched = [f e] := by
  rw [modEntry_sched, h, List.map_singleton, if_pos rfl]

/-- What a change makes hold of each entry that launches at an instant, holds of all that launch then. -/
theorem modEntry_all {i l : Nat} {f : Entry → Entry} {P : Entry → Prop} (hP : ∀ e, P (f e)) (s : State) :
    ∀ e ∈ ((modEntry i l f s).inst i).sched, e.atPs = l → P e := by
  intro e he hat
  rw [modEntry_sched] at he
  obtain ⟨d, -, rfl⟩ := List.mem_map.1 he
  split
  · exact hP d
  · next hd => exact absurd (by rwa [if_neg hd] at hat) hd

/-! ## Preparation at P (R124–R126, R131, R135) -/

theorem keySwitch_steady (i : Nat) (s : State) : Steady s (keySwitch i s) := by
  unfold keySwitch
  split
  · exact Steady.refl s
  · refine (takeFree_steady 1 s).trans ?_
    dsimp only
    split
    · exact modInst_steady rfl rfl rfl
    · exact Steady.refl _

theorem formPloam_steady (i : Nat) (u : UpItem) (s : State) : Steady s (formPloam i u s).2 := by
  unfold formPloam
  extract_lets x given seq msg wire
  dsimp only
  split
  · exact setInst_steady rfl rfl rfl
  · exact Steady.refl s

theorem takePloam_steady (i : Nat) (e : Entry) (s : State) : Steady s (takePloam i e s).2 := by
  unfold takePloam
  extract_lets x form
  have hform (u : UpItem) (s : State) : Steady s (form u s).2 := formPloam_steady i u s
  clear_value form
  split
  · exact Steady.refl s
  · split
    · exact hform _ s
    · split
      · refine Steady.trans ?_ (hform _ _)
        exact setInst_steady rfl rfl rfl
      · refine Steady.trans ?_ (hform _ _)
        exact setInst_steady rfl rfl rfl
      · exact hform _ s

/-- A permitted burst of the device's own with the laser locked and light allowed has its content taken and is prepared. -/
theorem execBurstPreparation_permitted {i : Nat} {e : Entry} {s : State} (hs : (s.inst i).sched = [e]) (hp : e.prepared = false)
    (hsh : e.shadow = false) (hst : statePermits (s.inst i) e = true) (htx : (s.inst i).txLocked = true)
    (hlow : lowerFirst i e s = false) (hlight : lightFor i e (advanceTo e.prepPs s) = true) :
    ∃ (u : State) (e' : Entry), execBurstPreparation i s = modEntry i e.atPs (fun _ => e') u ∧ Steady (advanceTo e.prepPs s) u ∧
      e'.prepared = true ∧ e'.atPs = e.atPs ∧ e'.power = (s.inst i).power ∧
      e'.allocs.map (fun a => a.ctx) = e.allocs.map (fun a => a.ctx) := by
  have hi : (advanceTo e.prepPs s).inst i = s.inst i := rfl
  have hroom : ¬ 2 ≤ 0 := by decide
  have hfind : [e].find? (fun e => !e.prepared) = some e := by simp [hp]
  have hbusy : ([e].filter (fun f => f.prepared && !f.launched)).length = 0 := by simp [hp]
  unfold execBurstPreparation
  simp only [hs, hfind, hlow, hi, hst, hbusy, hsh, htx, hlight, hroom, Bool.not_true, Bool.not_false, Bool.and_false,
    Bool.false_eq_true, if_false]
  refine ⟨_, _, rfl, ((keySwitch_steady i _).trans (fillAllocs_steady i _ _)).trans (takePloam_steady i e _), rfl, rfl, rfl, ?_⟩
  rw [List.map_map]
  exact (List.map_congr_left fun a _ => sampleDbru_ctx i _ a).trans (fillAllocs_ctx i _ _)

theorem burstPreparation_prepares {i : Fin 4} {s : State} (h : On s) (e : Entry) (hs : (s.inst i).sched = [e]) (hp : e.prepared = false)
    (hsh : e.shadow = false) (hst : statePermits (s.inst i) e = true) (htx : (s.inst i).txLocked = true)
    (hlow : lowerFirst i e s = false) (hlight : lightFor i e (advanceTo (e.atPs - 1000000) s) = true) :
    Completes (.burstPreparation i) s fun t => t.clk.nowPs = max s.clk.nowPs (e.atPs - 1000000) ∧
      ∃ e', (t.inst i).sched = [e'] ∧ e'.prepared = true ∧ e'.atPs = e.atPs ∧ e'.power = (s.inst i).power ∧
        e'.allocs.map (fun a => a.ctx) = e.allocs.map (fun a => a.ctx) := by
  obtain ⟨u, e', hexec, hu, he'⟩ := execBurstPreparation_permitted hs hp hsh hst htx hlow hlight
  refine live_completes h _ hexec ((advanceTo_outer _ s).trans (hu.outer.trans (modEntry_outer _ _ _ u))) ⟨?_, e', ?_, he'⟩
  · rw [modEntry_clk, hu.clk]
    rfl
  · exact modEntry_only ((hu.sched i).trans hs) _

/-! ## Enable at L − 12.8 ns -/

theorem burstEnable_enables {i : Fin 4} {s : State} (h : On s) (e : Entry)
    (hf : (s.inst i).sched.find? (fun e => e.prepared && !e.enabled && !e.shadow) = some e) :
    Completes (.burstEnable i) s fun t => (t.inst i).laserOn = true ∧ t.clk.nowPs = max s.clk.nowPs (e.atPs - 12800) ∧
      ∀ f ∈ (t.inst i).sched, f.atPs = e.atPs → f.enabled = true := by
  obtain ⟨u, hu⟩ : ∃ u, u = (advanceTo (e.atPs - 12800) s).modInst i fun x => { x with laserOn := true } := ⟨_, rfl⟩
  have hlaser : (u.inst i).laserOn = true := by rw [hu, inst_modInst_same]
  have hout : Outer s u := by rw [hu]; exact ⟨rfl, rfl, rfl⟩
  have hnow : u.clk.nowPs = max s.clk.nowPs (e.atPs - 12800) := by rw [hu]; rfl
  have hexec : execBurstEnable i s = modEntry i e.atPs (fun e => { e with enabled := true }) u := by simp only [execBurstEnable, hf, hu]
  refine live_completes h _ hexec (hout.trans (modEntry_outer _ _ _ u)) ⟨?_, hnow, modEntry_all (by exact fun _ => rfl) u⟩
  rw [modEntry, inst_modInst_same]
  exact hlaser

/-! ## Launch at L (R121; 03 R81) -/

theorem payloadOnLine_steady (i : Nat) (p : Piece) (s : State) : Steady s (payloadOnLine i p s).2 := by
  unfold payloadOnLine
  extract_lets d
  split
  · exact Steady.refl s
  · unfold fibreCrypt
    split
    · exact takeFree_steady 128 s
    · exact Steady.refl s

theorem payloadsOnLine_steady (i : Nat) (ps : List Piece) : ∀ s, Steady s (payloadsOnLine i ps s).2 := by
  induction ps with
  | nil => exact Steady.refl
  | cons p ps ih => exact fun s => (payloadOnLine_steady i p s).trans (ih _)

theorem putPieces_steady (i ctx : Nat) (ps : List Piece) (s : State) : Steady s (putPieces i ctx ps s) :=
  (payloadsOnLine_steady i ps s).trans (emit_books _ _).steady

theorem putBurst_steady (i : Nat) (e : Entry) (s : State) : Steady s (putBurst i e s) :=
  (payloadsOnLine_steady i _ s).trans (emit_books _ _).steady

theorem bwCount_steady (port bytes : Nat) (s : State) : Steady s (bwCount port bytes s) := .of_insts ⟨rfl, rfl, rfl⟩ rfl rfl

theorem piecesSent_steady (i : Nat) (ps : List Piece) (s : State) : Steady s (piecesSent i ps s) :=
  (foldl_steady (fun s _ => bwCount_steady _ _ s) ps s).trans (countN_steady _ _ _ _)

theorem noteActivity_steady (s : State) : Steady s (noteActivity s) := .of_insts ⟨rfl, rfl, rfl⟩ rfl rfl

theorem setPair_steady (v : Pair) (s : State) : Steady s { s with pair := v } := .of_insts ⟨rfl, rfl, rfl⟩ rfl rfl

theorem sendMirror_steady (type body : Nat) (s : State) : Steady s (sendMirror type body s) := by
  unfold sendMirror
  split
  · exact (putLane_books _ _ s).steady
  · exact Steady.refl s

theorem reportLaunch_steady (i : Nat) (launched : Bool) (s : State) : Steady s (reportLaunch i launched s) := by
  unfold reportLaunch
  split
  · exact (setPair_steady _ s).trans (sendMirror_steady _ _ _)
  · exact Steady.refl s

/-- Beside the EqD that a sent message confirms, the sending touches no schedule and no light (03 R81). -/
theorem ploamSent_steady {u : UpItem} {v : Nat} (h : u.eqd = some v) (i : Nat) (s : State) :
    Steady (s.modInst i fun x => { x with eqd := v }) (ploamSent i u s) := by
  unfold ploamSent
  rw [h]
  extract_lets a lig b lig' c pwr d
  have hb : Steady a b := by
    unfold b
    split
    · exact setLig_steady _ a
    · exact Steady.refl a
  have hc : Steady b c := by
    unfold c
    split
    · exact setLig_steady _ b
    · exact Steady.refl b
  have hd : Steady c d := by
    unfold d
    split
    · exact .of_insts ⟨rfl, rfl, rfl⟩ rfl rfl
    · exact Steady.refl c
  refine ((hb.trans hc).trans hd).trans ?_
  split
  · exact Steady.refl d
  · split
    · exact (complete_books _ _ _ _ d).steady
    · exact Steady.refl d

/-- The content of a burst goes out, where the laser is locked, and is counted. -/
def burstSent (i : Nat) (e : Entry) (s : State) : State :=
  let s := if (s.inst i).txLocked then putBurst i e s else s
  let s := piecesSent i (e.allocs.flatMap (fun a => a.pieces)) (countN .usGrants i (max 1 e.allocs.length) (count .usBursts i s))
  if e.busy then noteActivity s else s

theorem burstSent_steady (i : Nat) (e : Entry) (s : State) : Steady s (burstSent i e s) := by
  unfold burstSent
  extract_lets a b
  have ha : Steady s a := by
    unfold a
    split
    · exact putBurst_steady i e s
    · exact Steady.refl s
  have hb : Steady a b := ((count_steady _ _ a).trans (countN_steady _ _ _ _)).trans (piecesSent_steady _ _ _)
  refine (ha.trans hb).trans ?_
  split
  · exact noteActivity_steady b
  · exact Steady.refl b

/-- BURST_LAUNCH of a burst of the device's own that carries a message. -/
theorem execBurstLaunch_own {i : Nat} {e : Entry} {u : UpItem} {s : State}
    (hf : (s.inst i).sched.find? (fun e => e.prepared && !e.launched && (e.enabled || e.shadow)) = some e) (hsh : e.shadow = false)
    (hu : e.ploam = some u) : execBurstLaunch i s = reportLaunch i true (ploamSent i u
      (burstSent i e (modEntry i e.atPs (fun e => { e with launched := true }) (advanceTo e.atPs s)))) := by
  simp only [execBurstLaunch, hf, hsh, hu, Bool.false_eq_true, if_false]
  rfl

theorem burstLaunch_launches {i : Fin 4} {s : State} (h : On s) (e : Entry) (u : UpItem) (v : Nat)
    (hf : (s.inst i).sched.find? (fun e => e.prepared && !e.launched && (e.enabled || e.shadow)) = some e) (hsh : e.shadow = false)
    (hu : e.ploam = some u) (hv : u.eqd = some v) :
    Completes (.burstLaunch i) s fun t => (t.inst i).eqd = v ∧ t.clk.nowPs = max s.clk.nowPs e.atPs ∧
      ∀ f ∈ (t.inst i).sched, f.atPs = e.atPs → f.launched = true := by
  obtain ⟨w, hw⟩ : ∃ w, w = modEntry i e.atPs (fun e => { e with launched := true }) (advanceTo e.atPs s) := ⟨_, rfl⟩
  have hlaunched : ∀ f ∈ (w.inst i).sched, f.atPs = e.atPs → f.launched = true := by
    rw [hw]
    exact modEntry_all (by exact fun _ => rfl) _
  have hnow : w.clk.nowPs = max s.clk.nowPs e.atPs := by rw [hw]; rfl
  have hout : Outer s w := by rw [hw]; exact (advanceTo_outer _ s).trans (modEntry_outer _ _ _ _)
  have hsent := burstSent_steady i e w
  obtain ⟨b, hb⟩ : ∃ b, b = (burstSent i e w).modInst i fun x => { x with eqd := v } := ⟨_, rfl⟩
  have hbi : b.inst i = { (burstSent i e w).inst i with eqd := v } := by rw [hb, inst_modInst_same]
  have hbo : Outer s b := by rw [hb]; exact (hout.trans hsent.outer).trans (modInst_outer _ _ _)
  have hbc : b.clk = w.clk := by rw [hb]; exact hsent.clk
  have hafter : Steady b (reportLaunch i true (ploamSent i u (burstSent i e w))) := by
    rw [hb]
    exact (ploamSent_steady hv i _).trans (reportLaunch_steady i true _)
  refine live_completes h _ ((execBurstLaunch_own hf hsh hu).trans (by rw [hw])) (hbo.trans hafter.outer) ⟨?_, ?_, ?_⟩
  · rw [hafter.eqd, hbi]
  · rw [hafter.clk, hbc, hnow]
  · rw [hafter.sched, hbi]
    exact (hsent.sched i).symm ▸ hlaunched

/-! ## The feed deadline (R133) -/

/-- An allocation into which the Nib has placed its own filling: the one whose payload area starts at an instant. -/
def Alloc.nibFilled (start : Nat) (f : Fill) (b : Alloc) : Alloc :=
  if b.areaPs = start then
    { b with filled := true, pieces := b.pieces ++ f.pieces, taken := b.taken ++ f.taken, omci := b.omci ++ f.omci }
  else b

/-- A burst into one of whose allocations the Nib has placed its own filling. -/
def Entry.nibFilled (start : Nat) (f : Fill) (e : Entry) : Entry := { e with allocs := e.allocs.map (Alloc.nibFilled start f) }

/-- What the Nib's filling of an allocation of a burst does to the schedule (R133). -/
theorem nibFill_steady (i : Nat) (e : Entry) (a : Alloc) (room : Nat) (s : State) : ∃ (u : State) (f : Fill), Steady s u ∧
    Steady (modEntry i e.atPs (Entry.nibFilled a.areaPs f) u) (nibFill i e a room s) := by
  have hl := fillLocal_steady i a.ctx false { room } s
  unfold nibFill
  generalize fillLocal i a.ctx false { room } s = r at hl
  obtain ⟨f, u⟩ := r
  refine ⟨u, f, hl, ?_⟩
  dsimp only
  split
  · exact (putPieces_steady _ _ _ _).trans (piecesSent_steady _ _ _)
  · exact Steady.refl _

theorem pullFeedDeadline_fills {i : Fin 4} {s : State} (h : On s) (e : Entry) (a : Alloc) (hs : (s.inst i).sched = [e])
    (hp : e.prepared = true) (ha : e.allocs = [a]) (hf : a.filled = false) (hpull : pullOf a s = none) :
    Completes (.pullFeedDeadline i) s fun t => t.clk.nowPs = max s.clk.nowPs (a.areaPs - 96000) ∧
      ∃ e', (t.inst i).sched = [e'] ∧ ∀ b ∈ e'.allocs, b.filled = true := by
  have hused : pulledBytes a s = 0 := by rw [pulledBytes, hpull]; rfl
  have hbytes : bytesPs (s.inst i).usRate 0 = 0 := by simp [bytesPs]
  have hexec : execPullFeedDeadline i s = nibFill i e a a.payload (advanceTo (a.areaPs - 96000) s) := by
    simp [execPullFeedDeadline, hs, hp, ha, hf, hused, hbytes]
  obtain ⟨u, f, hu, ht⟩ := nibFill_steady i e a a.payload (advanceTo (a.areaPs - 96000) s)
  have hout : Outer s (nibFill i e a a.payload (advanceTo (a.areaPs - 96000) s)) :=
    (advanceTo_outer _ s).trans ((hu.outer.trans (modEntry_outer _ _ _ u)).trans ht.outer)
  refine live_completes h _ hexec hout ⟨?_, e.nibFilled a.areaPs f, ?_, ?_⟩
  · rw [ht.clk, modEntry_clk, hu.clk]
    rfl
  · rw [ht.sched]
    exact modEntry_only ((hu.sched i).trans hs) _
  · intro b hb
    simp only [Entry.nibFilled, ha, List.map_singleton, List.mem_singleton] at hb
    rw [hb, Alloc.nibFilled, if_pos rfl]

/-! ## The end of a burst -/

/-- From s to t the outer state and the clock are as before, and so are the launch instants of a channel pair's schedule. -/
structure SameLaunches (i : Nat) (s t : State) : Prop where
  outer : Outer s t
  clk : t.clk = s.clk
  launches : (t.inst i).sched.map (fun e => e.atPs) = (s.inst i).sched.map (fun e => e.atPs)

theorem SameLaunches.trans {i : Nat} {s t u : State} (h : SameLaunches i s t) (k : SameLaunches i t u) : SameLaunches i s u :=
  ⟨h.outer.trans k.outer, k.clk.trans h.clk, k.launches.trans h.launches⟩

theorem Steady.sameLaunches {s t : State} (h : Steady s t) (i : Nat) : SameLaunches i s t :=
  ⟨h.outer, h.clk, congrArg _ (h.sched i)⟩

theorem modEntry_sameLaunches {i l : Nat} {f : Entry → Entry} (hf : ∀ e, (f e).atPs = e.atPs) (s : State) :
    SameLaunches i s (modEntry i l f s) := by
  refine ⟨modEntry_outer i l f s, rfl, ?_⟩
  rw [modEntry_sched, List.map_map]
  refine List.map_congr_left fun e _ => ?_
  show (if e.atPs = l then f e else e).atPs = e.atPs
  split
  · exact hf e
  · rfl

theorem nibFill_sameLaunches (i : Nat) (e : Entry) (a : Alloc) (room : Nat) (s : State) : SameLaunches i s (nibFill i e a room s) := by
  obtain ⟨u, f, hu, ht⟩ := nibFill_steady i e a room s
  exact ((hu.sameLaunches i).trans (modEntry_sameLaunches (by exact fun _ => rfl) u)).trans (ht.sameLaunches i)

theorem fillRests_sameLaunches (i : Nat) (e : Entry) (s : State) : SameLaunches i s (fillRests i e s) := by
  unfold fillRests
  generalize e.allocs.filter (fun a => !a.filled) = l
  induction l generalizing s with
  | nil => exact (Steady.refl s).sameLaunches i
  | cons a l ih => exact (nibFill_sameLaunches i e a _ s).trans (ih _)

theorem lightAfter_steady (i : Nat) (e : Entry) (s : State) : Steady s (lightAfter i e s) := by
  unfold lightAfter
  split
  · unfold endLoan
    extract_lets u
    split
    · exact setPair_steady _ s
    · exact setPair_steady _ s
  · split
    · exact setPair_steady _ s
    · exact Steady.refl s

theorem goDark_steady (i : Nat) (s : State) : Steady s (goDark i s) := by
  unfold goDark
  split
  · exact Steady.refl s
  · exact (emit_books _ s).steady

theorem completeRunningAt_steady (op index : Nat) (st : Status) (p : Bytes) (s : State) : Steady s (completeRunningAt op index st p s) := by
  unfold completeRunningAt
  split
  · exact (complete_books _ _ _ _ s).steady
  · exact Steady.refl s

/-- The pull windows of a burst's allocations close. -/
def closeWindows (e : Entry) (s : State) : State :=
  e.allocs.foldl (fun s a => match a.gid with
    | some g => s.modWorker (s.alloc a.ctx).cfg.worker (fun w => { w with pulls := w.pulls.filter (fun p => p.gid ≠ g) })
    | none => s) s

theorem closeWindows_steady (e : Entry) (s : State) : Steady s (closeWindows e s) := by
  refine foldl_steady (fun s a => ?_) e.allocs s
  split
  · exact .of_insts ⟨rfl, rfl, rfl⟩ rfl rfl
  · exact Steady.refl s

/-- A burst leaves the schedule, and its channel pair's light goes out unless another burst is enabled. -/
def dropEntry (i : Nat) (e : Entry) (s : State) : State :=
  s.modInst i fun x => { x with sched := x.sched.filter (fun f => f.atPs ≠ e.atPs)
                                laserOn := (x.sched.filter (fun f => f.atPs ≠ e.atPs)).any (fun f => f.enabled) }

/-- What BURST_END of a launched burst comes to: the rests are filled, the windows close, the burst leaves the schedule; what follows
touches no schedule. -/
theorem execBurstEnd_steady {i : Nat} {e : Entry} {s : State} (hf : (s.inst i).sched.find? (fun e => e.launched) = some e) :
    Steady (dropEntry i e (closeWindows e (advanceTo e.endPs (fillRests i e s)))) (execBurstEnd i s) := by
  unfold execBurstEnd
  split
  next hnone => exact absurd (hnone.symm.trans hf) (Option.some_ne_none e).symm
  next d hd =>
  obtain rfl := Option.some.inj (hf.symm.trans hd)
  extract_lets u v w x y
  have hx : Steady w x := lightAfter_steady i e w
  have hy : Steady x y := by
    unfold y
    split
    · exact Steady.refl x
    · exact goDark_steady i x
  refine (hx.trans hy).trans ?_
  split
  · exact Steady.refl y
  · exact completeRunningAt_steady _ _ _ _ y

theorem burstEnd_ends {i : Fin 4} {s : State} (h : On s) (e : Entry) (hs : (s.inst i).sched = [e]) (hl : e.launched = true) :
    Completes (.burstEnd i) s fun t => (t.inst i).sched = [] ∧ (t.inst i).laserOn = false ∧ t.clk.nowPs = max s.clk.nowPs e.endPs := by
  have hfill := fillRests_sameLaunches i e s
  obtain ⟨u, hu⟩ : ∃ u, u = closeWindows e (advanceTo e.endPs (fillRests i e s)) := ⟨_, rfl⟩
  have hclose : Steady (advanceTo e.endPs (fillRests i e s)) u := hu ▸ closeWindows_steady e _
  have hnow : u.clk.nowPs = max s.clk.nowPs e.endPs := by rw [hclose.clk, advanceTo_nowPs, hfill.clk]
  have hall : (u.inst i).sched.map (fun e => e.atPs) = [e.atPs] := by
    rw [hclose.sched]
    exact hfill.launches.trans (by rw [hs]; rfl)
  have hnone : (u.inst i).sched.filter (fun f => f.atPs ≠ e.atPs) = [] := by
    refine List.filter_eq_nil_iff.2 fun f hf => ?_
    have : f.atPs ∈ [e.atPs] := hall ▸ List.mem_map_of_mem hf
    simpa using this
  have hdrop : (dropEntry i e u).inst i = { u.inst i with sched := [], laserOn := false } := by
    rw [dropEntry, inst_modInst_same, hnone]
    rfl
  have hend : Steady (dropEntry i e u) (execBurstEnd i s) := hu ▸ execBurstEnd_steady (by rw [hs]; simp [hl])
  refine live_completes h _ rfl ((hfill.outer.trans ((advanceTo_outer _ _).trans (hclose.outer.trans (modInst_outer _ _ u)))).trans hend.outer)
    ⟨?_, ?_, ?_⟩
  · rw [hend.sched, hdrop]
  · rw [hend.laserOn, hdrop]
  · rw [hend.clk]
    exact hnow

/-! ## The release of a slot (R129) -/

/-- A freed slot keeps only its ledger, what was skipped, and its occupancy; every other is as before. -/
theorem releaseSlot_freed {c : Nat} {s : State} (hf : (s.alloc c).freed = true) :
    (∃ n, (releaseSlot c s).alloc c = { skipped := n, granted := (s.alloc c).granted, grantedNow := (s.alloc c).grantedNow,
                                         mapBytes := (s.alloc c).mapBytes }) ∧
    ∀ d, d ≠ c → (releaseSlot c s).alloc d = s.alloc d := by
  unfold releaseSlot
  extract_lets a i mine gone u v w x recent
  rw [if_pos (show a.freed = true from hf)]
  refine ⟨⟨_, alloc_setAlloc_same _ _ _⟩, fun d hd => ?_⟩
  rw [alloc_setAlloc_other _ hd, modInst_alloc, raise_alloc, countN_alloc, modInst_alloc]
  exact alloc_of_allocs (withdrawAllocs_freed gone s).allocs d

theorem allocSlotRelease_releases {s : State} (h : On s) (ctx : Fin 1024) (hf : (s.alloc ctx).freed = true) :
    Completes (.allocSlotRelease ctx) s fun t => (t.alloc ctx).allocId = none ∧ (t.alloc ctx).freed = false ∧ (t.alloc ctx).cfg = {} ∧
      (∀ d, d ≠ ctx.val → t.alloc d = s.alloc d) ∧
      Books { s with insts := t.insts, allocs := t.allocs, workers := t.workers } t := by
  obtain ⟨⟨n, hn⟩, hother⟩ := releaseSlot_freed hf
  exact live_completes h (releaseSlot ctx s) rfl (releaseSlot_outer _ s)
    ⟨by rw [hn], by rw [hn], by rw [hn], hother, releaseSlot_rest ctx s⟩

/-- Settles O19: each row of a burst has its own rule above; the read of US_NEXT_TICK is one of the latched reads. -/
theorem burstRowsTakeEffect : Obligations.BurstRowsTakeEffect := by
  unfold Obligations.BurstRowsTakeEffect
  exact fun i s h => ⟨grantIntake_schedules h, pullIssue_sends h, burstPreparation_prepares h, burstEnable_enables h,
    burstLaunch_launches h, pullFeedDeadline_fills h, burstEnd_ends h, allocSlotRelease_releases h,
    fun _ ps hu ha hl => usNextTickRead_latches ⟨⟨h, asleep_of_awake ha⟩, hu⟩ i ps hl⟩

end Sys2Proof.Machine
end

section
/-!
PROOFS. The forwarding table's layer (06): operations that read and change the table alone, searches of a clean table, items 3, 6 and 7
when they are due (01 R29–R34), and accesses over a path that reaches the registers.
-/

namespace Sys2Proof.Machine

/-! ## Operations that read and change the table alone -/

/-- f changes the table alone, and its change depends on the table alone. -/
def TableAlone (f : State → State) : Prop := ∃ g : Tbl → Tbl, ∀ s, f s = { s with tbl := g s.tbl }

/-- The change that f makes to a table can be read off from any state that holds that table. -/
theorem TableAlone.of {f : State → State} (h : ∀ s t : State, f s = { s with tbl := (f { t with tbl := s.tbl }).tbl }) : TableAlone f :=
  ⟨fun x => (f { State.reset with tbl := x }).tbl, fun s => h s State.reset⟩

theorem TableAlone.from_table {f : State → State} (h : TableAlone f) (s t : State) : f s = { s with tbl := (f { t with tbl := s.tbl }).tbl } := by
  obtain ⟨g, hg⟩ := h
  rw [hg, hg]

theorem TableAlone.eq {f : State → State} (h : TableAlone f) (s : State) : f s = { s with tbl := (f s).tbl } := by
  obtain ⟨g, hg⟩ := h
  rw [hg]

theorem TableAlone.tbl {f : State → State} (h : TableAlone f) {s t : State} (e : s.tbl = t.tbl) : (f s).tbl = (f t).tbl := by
  obtain ⟨g, hg⟩ := h
  rw [hg, hg, e]

theorem TableAlone.cmd {f : State → State} (h : TableAlone f) (s : State) : (f s).cmd = s.cmd := (congrArg State.cmd (h.eq s) :)

theorem TableAlone.clk {f : State → State} (h : TableAlone f) (s : State) : (f s).clk = s.clk := (congrArg State.clk (h.eq s) :)

theorem TableAlone.outer {f : State → State} (h : TableAlone f) (s : State) : Outer s (f s) :=
  ⟨(congrArg State.pending (h.eq s) :), (congrArg (fun x => x.hot.powered) (h.eq s) :), (congrArg State.boot (h.eq s) :)⟩

/-- States that agree beside the books agree so after the same operation on their tables. -/
theorem TableAlone.books {f : State → State} (h : TableAlone f) {s t : State} (b : Books s t) : Books (f s) (f t) := by
  obtain ⟨g, hg⟩ := h
  rw [hg, hg]
  exact (congrArg (fun x : State => { x with tbl := g x.tbl }) b.eq :)

/-- The same, where beside the books only the table is said to have changed. -/
theorem TableAlone.books_tbl {f : State → State} (h : TableAlone f) {s t : State} (b : Books (f s) t) : Books { s with tbl := t.tbl } t := by
  rw [b.tbl, ← h.eq]
  exact b

theorem TableAlone.comp {f g : State → State} (hf : TableAlone f) (hg : TableAlone g) : TableAlone fun s => f (g s) := by
  obtain ⟨f', hf⟩ := hf
  obtain ⟨g', hg⟩ := hg
  exact ⟨fun x => f' (g' x), fun s => (hf (g s)).trans (by rw [hg])⟩

theorem TableAlone.foldl {α : Type} {f : State → α → State} (h : ∀ a, TableAlone fun s => f s a) (l : List α) :
    TableAlone fun s => l.foldl f s := by
  induction l with
  | nil => exact ⟨id, fun _ => rfl⟩
  | cons a l ih => exact ih.comp (h a)

theorem setEntry_alone (n : Nat) (e : TEntry) : TableAlone (setEntry n e) := .of fun _ _ => rfl

theorem clearEntry_alone (n : Nat) : TableAlone (clearEntry n) := .of fun _ _ => rfl

theorem setLease_alone (l : Lease) : TableAlone (setLease l) := .of fun _ _ => rfl

theorem dropLease_alone (id : Nat) : TableAlone (dropLease id) := .of fun _ _ => rfl

theorem publish_alone (l : Lease) : TableAlone (publish l) := by
  refine TableAlone.foldl (fun e => ?_) l.staged
  obtain ⟨n, v⟩ := e
  cases v with
  | none => exact ⟨id, fun _ => rfl⟩
  | some v =>
    obtain ⟨g, hg⟩ := setEntry_alone n v
    refine ⟨fun x => if bit x.isolated (n / 262144) then x else g x, fun s => ?_⟩
    simp only [isolated, hg]
    split <;> rfl

/-- A flush outside leases invalidates entries by the table alone (R175). -/
theorem flushUnlocked_alone (mask flow : Nat) (static : Bool) : TableAlone fun s => (flushUnlocked mask flow static s).2 := by
  have hclear (l : List (Nat × TEntry)) : TableAlone fun s => l.foldl (fun s e => clearEntry e.1 s) s :=
    TableAlone.foldl (fun e => clearEntry_alone e.1) l
  exact .of fun s t => (hclear _).from_table s t

/-- A command that runs alone and whose effect is a change of the table, made at once, answers with that change made. -/
theorem Runs.changesTable {sp : CmdSpec} {eff : Cmd → State → Res} {q : CmdReq} {c : Cmd} {s : State} {st : Status} {d : Nat} {p : Bytes}
    {f : State → State} (h : Runs sp.op q c s) (hl : sp.lease q s = none) (hf : TableAlone f)
    (he : eff c (markStarted c s) = .done st d p (f (markStarted c s))) :
    ∃ t, (Host.Outcome.next (live (runCmd sp eff q) s) : Host.Outcome State Fault Refusal) = .next t ∧
      Answers c st d p s t ∧ Books (f s) t :=
  h.completes hl he (hf.cmd _) (congrArg Clk.tick (hf.clk _)) (hf.outer s).pending (hf.outer s).powered
    (congrArg Boot.inReset (hf.outer s).boot) (hf.books (markStarted_books c s))

/-- The same of a command that only reads. -/
theorem Runs.reads {sp : CmdSpec} {eff : Cmd → State → Res} {q : CmdReq} {c : Cmd} {s : State} {st : Status} {d : Nat} {p : Bytes}
    (h : Runs sp.op q c s) (hl : sp.lease q s = none) (he : eff c (markStarted c s) = .done st d p (markStarted c s)) :
    ∃ t, (Host.Outcome.next (live (runCmd sp eff q) s) : Host.Outcome State Fault Refusal) = .next t ∧
      Answers c st d p s t ∧ Books s t :=
  h.changesTable hl ⟨id, fun _ => rfl⟩ he

/-! ## Entries -/

/-- An entry written reads as written, its PAD zero and its PARITY computed; the zero entry as zero. -/
theorem entry_setEntry_same (n : Nat) (e : TEntry) (s : State) :
    (setEntry n e s).entry n = if e = 0 then 0 else withParity (noPad e) := SMap.get_set_same _ _ _ _

theorem entry_of_single {n : Nat} {e : TEntry} {s : State} (h : s.tbl.entries = [(n, e)]) : s.entry n = e := by
  simp [State.entry, h, SMap.get]

/-- Bits gathered one by one into a number stay below the next power of two. -/
theorem foldl_bits_lt (f : Nat → Bool) (n : Nat) : (List.range n).foldl (fun a k => a + b2n (f k) * 2 ^ k) 0 < 2 ^ n := by
  induction n with
  | zero => exact Nat.one_pos
  | succ n ih =>
    rw [List.range_succ, List.foldl_append, List.foldl_cons, List.foldl_nil, pow_succ]
    have hn : b2n (f n) * 2 ^ n ≤ 1 * 2 ^ n := Nat.mul_le_mul_right _ (by unfold b2n; split <;> decide)
    omega

theorem parityOf_lt (e : TEntry) : parityOf e < 256 := foldl_bits_lt _ 8

/-- The PARITY byte lies below VALID. -/
theorem entryValid_withParity (e : TEntry) : entryValid (withParity e) = entryValid e := by
  have hp : (parityOf e).testBit 127 = false := Nat.testBit_lt_two_pow (lt_trans (parityOf_lt e) (by decide))
  have hm : Nat.testBit 0xFF 127 = false := by decide
  simp only [entryValid, withParity, BitVec.getLsbD_or, BitVec.getLsbD_and, BitVec.getLsbD_not, BitVec.getLsbD_ofNat, hp, hm]
  simp

theorem entryValid_noPad (e : TEntry) : entryValid (noPad e) = entryValid e := by
  simp [entryValid, noPad]

theorem entryValid_invalidated (e : TEntry) : entryValid (invalidated e) = false := by
  simp [entryValid, invalidated]

/-- A cleared entry is not valid. -/
theorem entryValid_clearEntry (n : Nat) (s : State) : entryValid ((clearEntry n s).entry n) = false := by
  rw [clearEntry, entry_setEntry_same]
  split
  · simp [entryValid]
  · rw [entryValid_withParity, entryValid_noPad, entryValid_invalidated]

/-- An IPv4 or MAC entry is no half of an IPv6 pair. -/
theorem invalidate_single {n : Nat} {s : State} (h : entryType (s.entry n) < 2) : invalidate n s = clearEntry n s := by
  have h2 : entryType (s.entry n) ≠ 2 := by omega
  have h3 : entryType (s.entry n) ≠ 3 := by omega
  simp [invalidate, pairOf, h2, h3]

/-! ## Searches of a table with no parity fault (R150–R152) -/

theorem checkCell_clean {s : State} (h : s.tbl.corrupt = []) (g : Nat) : checkCell g s = s := by
  simp [checkCell, corruptIn, h]

/-- A key that neither cell holds is not found, and the search changes nothing. -/
theorem tblSearch_miss {k : TKey} {s : State} (hc : s.tbl.corrupt = []) (h1 : matchesIn k (cells k).1 s = [])
    (h2 : matchesIn k (cells k).2 s = []) : tblSearch k s = (none, s) := by
  simp [tblSearch, checkCell_clean hc, h1, h2]

/-- A key that is valid once, in its first cell, is found there, and the search changes nothing. -/
theorem tblSearch_first {k : TKey} {s : State} {n : Nat} (hc : s.tbl.corrupt = []) (h1 : matchesIn k (cells k).1 s = [n])
    (h2 : matchesIn k (cells k).2 s = []) : tblSearch k s = (some { at_ := n, both := false }, s) := by
  simp [tblSearch, checkCell_clean hc, h1, h2]

/-! ## Items of Table 1.8 that are due, and accesses -/

theorem Due.itemTick {k : Nat} {s : State} (h : Due k s) : itemTick k s = s.clk.tick := by
  simp [Machine.itemTick, h.carried]

/-- An item that is due does its work on the state that notes it as done (01 R29). -/
theorem Due.runs {k : Nat} {s : State} (h : Due k s) (f : State → State) : itemRow k f s = f (worked k s) := by
  have hawake := h.awake.awake
  have hfree := h.free
  have hcarried := h.carried
  have hundone := h.undone
  have hlate : ¬ strokeEnd (itemDeadline k) s < s.clk.nowPs := Nat.not_lt.2 h.inTime
  simp only [itemRow, hawake, hfree, hcarried, hundone, hlate, Option.isSome_none, Bool.false_and, Bool.or_self, decide_false,
    Bool.false_eq_true, if_false, worked]

theorem worked_outer (k : Nat) (s : State) : Outer s (worked k s) := ⟨rfl, rfl, rfl⟩

/-- A write over a path that reaches the registers takes effect. -/
theorem Reaches.write {p : Path} {s t : State} {f : State → State} (h : Reaches p s) (hf : f s = t) (ho : Outer s t) :
    (Host.Outcome.next (via p (hostWrite f) s) : Host.Outcome State Fault Refusal) = .next t :=
  congrArg Host.Outcome.next (via_eq h ((hostWrite_awake h.awake.awake f).trans hf) ho)

end Sys2Proof.Machine
end

section
/-!
PROOFS. TABLE_LOCK, TABLE_RENEW, TABLE_UNLOCK, LEARN_CONFIG and AGE_CONFIG (06 R155–R161, R165).
-/

namespace Sys2Proof.Machine

/-! ## The mirror link (15 R358, R361) -/

/-- What a frame of the mirror link can do: beside the pair's own counts only what is noted. -/
theorem sendMirrorFrame_noted (k : Nat) (d : Bytes) (s : State) :
    Noted { s with pair := (sendMirrorFrame k d s).2.pair } (sendMirrorFrame k d s).2 := by
  unfold sendMirrorFrame
  dsimp only
  split
  · split
    · rw [(putLane_books _ _ _).pair]
      exact putLane_noted _ _ _
    · rw [(count_books _ _ _).pair]
      exact count_noted _ _ _
  · exact Noted.refl s

theorem Noted.withPair {s t : State} (h : Noted s t) (p : Pair) : Noted { s with pair := p } { t with pair := p } :=
  (congrArg (fun x : State => { x with pair := p }) h.eq :)

theorem mirrorOut_noted (d : MirrorData) (s : State) : Noted { s with pair := (mirrorOut d s).pair } (mirrorOut d s) := by
  have hsent := sendMirrorFrame_noted 0 (Config.mirrorFrame d) s
  unfold mirrorOut
  dsimp only
  split
  · split
    · exact hsent.withPair _
    · exact hsent
  · exact Noted.refl s

theorem Noted.tbl {s t : State} (h : Noted s t) : t.tbl = s.tbl := h.books.tbl

@[simp] theorem mirrorOut_cmd (d : MirrorData) (s : State) : (mirrorOut d s).cmd = s.cmd := (mirrorOut_noted d s).cmd
@[simp] theorem mirrorOut_clk (d : MirrorData) (s : State) : (mirrorOut d s).clk = s.clk := (mirrorOut_noted d s).books.clk
@[simp] theorem mirrorOut_tbl (d : MirrorData) (s : State) : (mirrorOut d s).tbl = s.tbl := (mirrorOut_noted d s).tbl

theorem mirrorOut_outer (d : MirrorData) (s : State) : Outer s (mirrorOut d s) :=
  Outer.trans (t := { s with pair := (mirrorOut d s).pair }) ⟨rfl, rfl, rfl⟩ (mirrorOut_noted d s).outer

/-- The staged entries of a lease go to the partner (15 R361). -/
def mirrorStaged (l : Lease) (s : State) : State :=
  l.staged.foldl (fun s e => match e.2 with
    | some v => mirrorOut (.staged e.1 ((List.range 4).map (entryWord v))) s
    | none => s) s

/-- What sending data to the partner leaves of commands, clock, table and the outer state: all of it. -/
structure Mirrored (s t : State) : Prop where
  cmd : t.cmd = s.cmd
  clk : t.clk = s.clk
  tbl : t.tbl = s.tbl
  outer : Outer s t

theorem Mirrored.refl (s : State) : Mirrored s s := ⟨rfl, rfl, rfl, .refl s⟩

theorem Mirrored.trans {s t u : State} (h : Mirrored s t) (k : Mirrored t u) : Mirrored s u :=
  ⟨k.cmd.trans h.cmd, k.clk.trans h.clk, k.tbl.trans h.tbl, h.outer.trans k.outer⟩

theorem mirrorOut_mirrored (d : MirrorData) (s : State) : Mirrored s (mirrorOut d s) :=
  ⟨mirrorOut_cmd d s, mirrorOut_clk d s, mirrorOut_tbl d s, mirrorOut_outer d s⟩

theorem mirrorStaged_mirrored (l : Lease) (s : State) : Mirrored s (mirrorStaged l s) := by
  unfold mirrorStaged
  induction l.staged generalizing s with
  | nil => exact .refl s
  | cons e m ih =>
    obtain ⟨n, v⟩ := e
    cases v with
    | none => exact ih s
    | some v => exact (mirrorOut_mirrored _ s).trans (ih _)

/-! ## Leases -/

/-- A command that names a lease which is there passes the lease check (R50). -/
theorem namesLease_some {q : CmdReq} {s : State} {l : Lease} (h : leaseById q.leaseId.toNat s = some l) : namesLease q s = none := by
  simp [namesLease, leaseStatus, h]

/-- TABLE_LOCK of free blocks, with room for a lease, takes them for the owner of the command's source (R155). -/
theorem effTableLock_takes {c : Cmd} {s : State}
    (hfree : ∀ b ∈ bitsOf 16 (u16 c.req.body 0), isolated b s = false ∧ locked b s = false) (hb : s.bist.run = none)
    (hn : s.tbl.leases.length < 16) : effTableLock c s =
      .ok (le 4 s.tbl.nextLease ++ le 4 (s.clk.tick.toNat + leaseTicks c.req.body 2)) { s with tbl := { s.tbl with
        leases := s.tbl.leases ++ [{ id := s.tbl.nextLease, owner := ownerOf c.req.src, remaining := leaseTicks c.req.body 2,
                                     taken := ownTick s, blocks := u16 c.req.body 0 }]
        nextLease := s.tbl.nextLease % 0xFFFFFFFF + 1 } } := by
  have hisolated : ¬ ((bitsOf 16 (u16 c.req.body 0)).any fun b => isolated b s) = true := by
    simpa using fun b hb => (hfree b hb).1
  have hlocked : ¬ ((bitsOf 16 (u16 c.req.body 0)).any fun b => locked b s) = true := by
    simpa using fun b hb => (hfree b hb).2
  have hbist : ¬ underBist (u16 c.req.body 0) s = true := by simp [underBist, hb]
  have hroom : ¬ 16 ≤ s.tbl.leases.length := by omega
  exact (if_neg hisolated).trans ((if_neg hbist).trans ((if_neg hlocked).trans (if_neg hroom)))

theorem tableLock_takes {q : CmdReq} {c : Cmd} {s : State} (h : Runs 0x0300 q c s)
    (hfree : ∀ b ∈ bitsOf 16 (u16 q.body 0), isolated b s = false ∧ locked b s = false) (hb : s.bist.run = none)
    (hn : s.tbl.leases.length < 16) : Completes (.tableLock q) s fun t =>
      Answers c .ok 0 (le 4 s.tbl.nextLease ++ le 4 (s.clk.tick.toNat + leaseTicks q.body 2)) s t ∧
      Books { s with tbl := { s.tbl with
        leases := s.tbl.leases ++ [{ id := s.tbl.nextLease, owner := 0, remaining := leaseTicks q.body 2, taken := ownTick s,
                                     blocks := u16 q.body 0 }],
        nextLease := s.tbl.nextLease % 0xFFFFFFFF + 1 } } t := by
  obtain ⟨n, hsrc⟩ := h.ring
  obtain rfl := h.isReq
  have he := effTableLock_takes (c := c) (s := markStarted c s) hfree hb hn
  rw [hsrc] at he
  exact Runs.completes (sp := specTableLock) h rfl he rfl rfl rfl rfl rfl rfl

theorem tableRenew_renews {q : CmdReq} {c : Cmd} {s : State} (l : Lease) (h : Runs 0x0301 q c s)
    (hl : leaseById q.leaseId.toNat s = some l) : Completes (.tableRenew q) s fun t =>
      Answers c .ok 0 (le 4 (s.clk.tick.toNat + leaseTicks q.body 0)) s t ∧
      Books (setLease { l with remaining := leaseTicks q.body 0, taken := ownTick s } s) t := by
  obtain rfl := h.isReq
  have hl' : leaseById c.req.leaseId.toNat (markStarted c s) = some l := hl
  refine Runs.changesTable (sp := specTableRenew) (eff := effTableRenew) h (namesLease_some hl) (setLease_alone _) ?_
  simp only [effTableRenew, hl', Res.ok, markStarted_clk, markStarted_ownTick]

/-! ## TABLE_UNLOCK (R158, R160) -/

theorem tableUnlock_discards {q : CmdReq} {c : Cmd} {s : State} {l : Lease} (h : Runs 0x0302 q c s)
    (hl : leaseById q.leaseId.toNat s = some l) (hd : u8 q.body 0 = 1) : Completes (.tableUnlock q) s fun t =>
      Answers c .ok 0 (le 4 0 ++ le 4 s.clk.tick.toNat) s t ∧ Books (dropLease l.id s) t := by
  obtain rfl := h.isReq
  have hl' : leaseById c.req.leaseId.toNat (markStarted c s) = some l := hl
  refine Runs.changesTable (sp := specTableUnlock) (eff := effTableUnlock) h (namesLease_some hl) (dropLease_alone _) ?_
  simp only [effTableUnlock, hl', hd, if_true, Res.ok, markStarted_clk]

/-- An overflowed lease publishes nothing. -/
theorem tableUnlock_overflowed {q : CmdReq} {c : Cmd} {s : State} {l : Lease} (h : Runs 0x0302 q c s)
    (hl : leaseById q.leaseId.toNat s = some l) (hd : u8 q.body 0 ≠ 1) (ho : l.overflowed = true) : Completes (.tableUnlock q) s fun t =>
      Answers c .tableFull 0 [] s t ∧ Books (dropLease l.id s) t := by
  obtain rfl := h.isReq
  have hl' : leaseById c.req.leaseId.toNat (markStarted c s) = some l := hl
  refine Runs.changesTable (sp := specTableUnlock) (eff := effTableUnlock) h (namesLease_some hl) (dropLease_alone _) ?_
  simp only [effTableUnlock, hl', hd, ho, if_true, if_false, Res.fail]

theorem published_of_tbl {s t : State} {l : Lease} (h : t.tbl = s.tbl) : published l t = published l s := by
  simp only [published, isolated, h]

/-- A publication mirrors the staged entries, makes them current, and drops the lease. -/
theorem effTableUnlock_publishes {c : Cmd} {s : State} {l : Lease} (hl : leaseById c.req.leaseId.toNat s = some l)
    (hd : u8 c.req.body 0 ≠ 1) (ho : l.overflowed = false) (ht : hasTurn 2 (leaseGroups l) s = true) : effTableUnlock c s =
      .ok (le 4 (published l s) ++ le 4 s.clk.tick.toNat) (dropLease l.id (publish l (mirrorStaged l (passXfer 2 s)))) := by
  have hm := mirrorStaged_mirrored l (passXfer 2 s)
  have he : effTableUnlock c s = .ok (le 4 (published l (mirrorStaged l (passXfer 2 s))) ++
      le 4 (mirrorStaged l (passXfer 2 s)).clk.tick.toNat) (dropLease l.id (publish l (mirrorStaged l (passXfer 2 s)))) := by
    simp only [effTableUnlock, hl, hd, ho, ht, if_false, Bool.false_eq_true, Bool.not_true]
    rfl
  rw [he, published_of_tbl hm.tbl, hm.clk]
  rfl

theorem tableUnlock_publishes {q : CmdReq} {c : Cmd} {s : State} {l : Lease} (h : Runs 0x0302 q c s)
    (hl : leaseById q.leaseId.toNat s = some l) (hd : u8 q.body 0 ≠ 1) (ho : l.overflowed = false)
    (ht : hasTurn 2 (leaseGroups l) s = true) : Completes (.tableUnlock q) s fun t =>
      Answers c .ok 0 (le 4 (published l s) ++ le 4 s.clk.tick.toNat) s t ∧ t.tbl = (dropLease l.id (publish l s)).tbl := by
  obtain rfl := h.isReq
  have hf : TableAlone fun s => dropLease l.id (publish l s) := (dropLease_alone l.id).comp (publish_alone l)
  have hm := mirrorStaged_mirrored l (passXfer 2 (markStarted c s))
  have hout := hm.outer.trans (hf.outer _)
  obtain ⟨t, hx, ha, hb⟩ := Runs.completes (sp := specTableUnlock) h (namesLease_some hl)
    (effTableUnlock_publishes (s := markStarted c s) hl hd ho ht) ((hf.cmd _).trans hm.cmd)
    (congrArg Clk.tick ((hf.clk _).trans hm.clk)) hout.pending hout.powered (congrArg Boot.inReset hout.boot) (Books.refl _)
  exact ⟨t, hx, ha, hb.tbl.trans (hf.tbl hm.tbl)⟩

/-! ## Settings for the next tick edge (R161, R165) -/

theorem learnConfig_held {q : CmdReq} {c : Cmd} {s : State} (h : Runs 0x0307 q c s) :
    Completes (.learnConfig q) s fun t => Answers c .ok 0 [] s t ∧
      Books { s with tbl := { s.tbl with learnNext := SMap.set none s.tbl.learnNext (u8 q.body 0)
                                                (some { en := bit (u8 q.body 1) 0, template := BitVec.ofNat 44 (u64 q.body 4) }) } } t := by
  obtain rfl := h.isReq
  exact Runs.completes (sp := specLearnConfig) (eff := effLearnConfig) h rfl rfl rfl rfl rfl rfl rfl rfl

theorem ageConfig_held {q : CmdReq} {c : Cmd} {s : State} (h : Runs 0x0308 q c s) :
    Completes (.ageConfig q) s fun t => Answers c .ok 0 [] s t ∧
      Books { s with tbl := { s.tbl with ageNext := some { interval := u16 q.body 0, init := u8 q.body 2,
                                                           moveLimit := u16 q.body 4 } } } t := by
  obtain rfl := h.isReq
  exact Runs.completes (sp := specAgeConfig) (eff := effAgeConfig) h rfl rfl rfl rfl rfl rfl rfl rfl

/-- Settles O20: each command, and each way that an unlock ends, has its own rule above. -/
theorem tableLockCommandsAnswer : Obligations.TableLockCommandsAnswer := by
  unfold Obligations.TableLockCommandsAnswer
  exact fun _ _ _ => ⟨tableLock_takes, tableRenew_renews,
    fun _ h hl => ⟨tableUnlock_discards h hl, tableUnlock_overflowed h hl, tableUnlock_publishes h hl⟩,
    learnConfig_held, ageConfig_held⟩

end Sys2Proof.Machine
end

section
/-!
PROOFS. SEARCH, NEXT, FLUSH_BY_PORT and TABLE_AUDIT (06 R150, R169, R174, R175).
-/

namespace Sys2Proof.Machine

/-- The key that SEARCH names. -/
def searchKey (p : Bytes) : TKey :=
  { ty := u8 p 0, key := BitVec.ofNat 64 (u64 p 8), lo := BitVec.ofNat 64 (u64 p 16), vrf := u16 p 2 }

/-- SEARCH of a key that is valid once, in its first cell, answers its position and its content. -/
theorem effSearch_first {c : Cmd} {s : State} {n : Nat} (hc : s.tbl.corrupt = [])
    (h1 : matchesIn (searchKey c.req.body) (cells (searchKey c.req.body)).1 s = [n])
    (h2 : matchesIn (searchKey c.req.body) (cells (searchKey c.req.body)).2 s = []) : effSearch c s =
      .ok (le 1 (n / 262144) ++ le 1 (n / 4096 % 64) ++ le 2 (n % 4096) ++ le 1 0 ++ zeros 3 ++ entryBytes (s.entry n) ++
        (if (searchKey c.req.body).ty = 2 then entryBytes (s.entry (n + 1)) else zeros 16)) s := by
  have hs : tblSearch (searchKey c.req.body) s = (some { at_ := n, both := false }, s) := tblSearch_first hc h1 h2
  simp only [searchKey] at hs ⊢
  simp only [effSearch, hs]
  rfl

theorem effSearch_miss {c : Cmd} {s : State} (hc : s.tbl.corrupt = [])
    (h1 : matchesIn (searchKey c.req.body) (cells (searchKey c.req.body)).1 s = [])
    (h2 : matchesIn (searchKey c.req.body) (cells (searchKey c.req.body)).2 s = []) : effSearch c s = .fail .notFound s := by
  have hs : tblSearch (searchKey c.req.body) s = (none, s) := tblSearch_miss hc h1 h2
  simp only [searchKey] at hs
  simp only [effSearch, hs]

theorem search_answers {q : CmdReq} {c : Cmd} {s : State} (k : TKey) (n : Nat) (h : Runs 0x0303 q c s) (hc : s.tbl.corrupt = [])
    (hk : k = searchKey q.body) :
    (matchesIn k (cells k).1 s = [n] → matchesIn k (cells k).2 s = [] → Completes (.search q) s fun t =>
      Answers c .ok 0 (le 1 (n / 262144) ++ le 1 (n / 4096 % 64) ++ le 2 (n % 4096) ++ le 1 0 ++ zeros 3 ++
        entryBytes (s.entry n) ++ (if k.ty = 2 then entryBytes (s.entry (n + 1)) else zeros 16)) s t ∧ Books s t) ∧
    (matchesIn k (cells k).1 s = [] → matchesIn k (cells k).2 s = [] → Completes (.search q) s fun t =>
      Answers c .notFound 0 [] s t ∧ Books s t) := by
  obtain rfl := h.isReq
  subst hk
  exact ⟨fun h1 h2 => Runs.reads (sp := specSearch) h rfl (effSearch_first (s := markStarted c s) hc h1 h2),
    fun h1 h2 => Runs.reads (sp := specSearch) h rfl (effSearch_miss (s := markStarted c s) hc h1 h2)⟩

/-- NEXT lists the valid entries of the asked types from its start on, as far as MAX (R174). -/
theorem next_answers {q : CmdReq} {c : Cmd} {s : State} (hits got : List (Nat × BitVec 128)) (h : Runs 0x0304 q c s)
    (hh : hits = s.tbl.entries.filter (fun e =>
      decide (u8 q.body 0 * 262144 + u8 q.body 1 * 4096 + u16 q.body 2 ≤ e.1) && entryValid e.2 &&
        bit (u8 q.body 4) (entryType e.2) && !isolated (e.1 / 262144) s))
    (hg : got = hits.take (u8 q.body 5)) : Completes (.next q) s fun t => Answers c .ok 0
      (le 2 got.length ++
        (if got.length < u8 q.body 5 || decide (4194304 ≤ (got.getLast?.map (fun e => e.1 + 1)).getD 0) then [0xFF, 0, 0, 0]
         else position ((got.getLast?.map (fun e => e.1 + 1)).getD 0)) ++ zeros 2 ++
        got.flatMap (fun e => position e.1 ++ entryBytes e.2)) s t ∧ Books s t := by
  obtain rfl := h.isReq
  subst hh
  subst hg
  exact Runs.reads (sp := specNext) (eff := effNext) h rfl rfl

/-! ## FLUSH_BY_PORT (R175) -/

/-- A flush of unlocked blocks needs no lease. -/
theorem flushLease_unlocked {q : CmdReq} {s : State} (hb : ∀ b ∈ bitsOf 16 (flushMask q.body), leaseOf b s = none) :
    flushLease q s = none := by
  have hother : ¬ ((bitsOf 16 (flushMask q.body)).any fun b => match leaseOf b s with
      | some l => decide (l.id ≠ q.leaseId.toNat)
      | none => false) = true := by
    rw [List.any_eq_true]
    rintro ⟨b, hm, hx⟩
    rw [hb b hm] at hx
    exact Bool.false_ne_true hx
  exact if_neg hother

theorem flushUnlocked_leases (mask flow : Nat) (static : Bool) (s : State) :
    (flushUnlocked mask flow static s).2.tbl.leases = s.tbl.leases :=
  List.foldlRecOn (motive := fun t : State => t.tbl.leases = s.tbl.leases) _ _ rfl fun _ ht _ _ => ht

/-- Without a lease, what a flush finds outside leases is all that it does. -/
theorem effFlushByPort_unleased {c : Cmd} {s : State} (hl : leaseById c.req.leaseId.toNat s = none) : effFlushByPort c s =
    .ok (le 4 (flushUnlocked (flushMask c.req.body) (flushFlow c.req.body s) (bit (u8 c.req.body 1) 0) s).1)
      (flushUnlocked (flushMask c.req.body) (flushFlow c.req.body s) (bit (u8 c.req.body 1) 0) s).2 := by
  have hnone : leaseById c.req.leaseId.toNat
      (flushUnlocked (flushMask c.req.body) (flushFlow c.req.body s) (bit (u8 c.req.body 1) 0) s).2 = none := by
    rw [leaseById, flushUnlocked_leases]
    exact hl
  simp only [effFlushByPort, hnone, Nat.add_zero]

theorem flushByPort_flushes {q : CmdReq} {c : Cmd} {s : State} (h : Runs 0x0305 q c s) (hid : q.leaseId = 0) (hl : leaseById 0 s = none)
    (hb : ∀ b ∈ bitsOf 16 (flushMask q.body), leaseOf b s = none) : Completes (.flushByPort q) s fun t =>
      Answers c .ok 0 (le 4 (flushUnlocked (flushMask q.body) (flushFlow q.body s) (bit (u8 q.body 1) 0) s).1) s t ∧
      Books (flushUnlocked (flushMask q.body) (flushFlow q.body s) (bit (u8 q.body 1) 0) s).2 t := by
  obtain rfl := h.isReq
  have hnone : leaseById c.req.leaseId.toNat (markStarted c s) = none := by rw [hid]; exact hl
  exact Runs.changesTable (sp := specFlushByPort) h (flushLease_unlocked hb)
    (flushUnlocked_alone (flushMask c.req.body) (flushFlow c.req.body s) (bit (u8 c.req.body 1) 0)) (effFlushByPort_unleased hnone)

/-! ## TABLE_AUDIT (R169) -/

theorem tableAudit_block {q : CmdReq} {c : Cmd} {s : State} (h : Runs 0x0306 q c s) (hk : q.kind = 6) :
    Completes (.tableAudit q) s fun t => Answers c .ok 0 (le 4 s.clk.tick.toNat ++ le 2 s.tbl.isolated ++ zeros 2 ++
      (List.range 64).flatMap (fun g => le 8 (digest ((64 * q.index + g) * 4096) 4096 s))) s t ∧ Books s t := by
  obtain rfl := h.isReq
  exact Runs.reads (sp := specTableAudit c.req) (eff := effTableAudit) h rfl (if_pos hk)

theorem tableAudit_device {q : CmdReq} {c : Cmd} {s : State} (h : Runs 0x0306 q c s) (hk : q.kind ≠ 6) :
    Completes (.tableAudit q) s fun t => Answers c .ok 0 (le 4 s.clk.tick.toNat ++ le 2 s.tbl.isolated ++ zeros 2 ++
      (List.range 16).flatMap (fun b => le 8 (digest (b * 262144) 262144 s))) s t ∧ Books s t := by
  obtain rfl := h.isReq
  exact Runs.reads (sp := specTableAudit c.req) (eff := effTableAudit) h rfl (if_neg hk)

/-- Settles O21: each command has its own rule above. -/
theorem tableSearchCommandsAnswer : Obligations.TableSearchCommandsAnswer := by
  unfold Obligations.TableSearchCommandsAnswer
  exact fun _ _ _ => ⟨search_answers, next_answers, flushByPort_flushes, tableAudit_block, tableAudit_device⟩

end Sys2Proof.Machine
end

section
/-!
PROOFS. Lease expiry, learning, ageing and the kill register (06 R156–R165).
-/

namespace Sys2Proof.Machine

/-! ## Revocation (R156, R159) -/

/-- While no command is executing, revoking a lease drops it, and beside that only its blocks' events are reported. -/
theorem revokeLease_books {s : State} (l : Lease) (h : s.cmd.executing = []) : Books (dropLease l.id s) (revokeLease l s) := by
  have hstop : stopLeased l.id s = s := by simp only [stopLeased, h, List.filter_nil, List.foldl_nil]
  rw [revokeLease, hstop]
  exact foldl_books _ (fun s b => raise_books _ _ _ _ s) _ _

theorem leaseExpiry_idles {s : State} (h : Due 3 s) (hl : ∀ l ∈ s.tbl.leases, l.remaining ≠ 0) :
    exec .leaseExpiry s = .next (worked 3 s) := by
  have hnone : (worked 3 s).tbl.leases.filter (fun l => decide (l.remaining = 0)) = [] :=
    List.filter_eq_nil_iff.2 fun l hm hz => hl l hm (of_decide_eq_true hz)
  have hf : execLeaseExpiry s = worked 3 s := (h.runs _).trans (by rw [hnone]; rfl)
  exact congrArg Host.Outcome.next (live_eq h.awake.on hf (worked_outer 3 s))

theorem leaseExpiry_drops {s : State} (l : Lease) (h : Due 3 s) (hl : s.tbl.leases = [l]) (hz : l.remaining = 0)
    (hx : s.cmd.executing = []) : Completes .leaseExpiry s fun t =>
      t.tbl = { s.tbl with leases := [] } ∧ Books { worked 3 s with tbl := t.tbl } t := by
  have hone : (worked 3 s).tbl.leases.filter (fun l => decide (l.remaining = 0)) = [l] := by simp [worked, hl, hz]
  have hf : execLeaseExpiry s = revokeLease l (worked 3 s) := (h.runs _).trans (by rw [hone]; rfl)
  have hb : Books (dropLease l.id (worked 3 s)) (revokeLease l (worked 3 s)) := revokeLease_books l hx
  have hout : Outer s (revokeLease l (worked 3 s)) := ((worked_outer 3 s).trans ((dropLease_alone l.id).outer _)).trans hb.outer
  refine live_completes h.awake.on _ hf hout ⟨?_, (dropLease_alone l.id).books_tbl hb⟩
  rw [hb.tbl]
  simp [dropLease, worked, hl]

theorem tblLeaseKill_unknown {p : Path} {v : Word} {s : State} (h : Reaches p s) (hl : leaseById v.toNat s = none) :
    exec (.tblLeaseKill p v) s = .next s :=
  h.write (by simp only [hl]) (.refl s)

theorem tblLeaseKill_drops {p : Path} {v : Word} {s : State} (h : Reaches p s) (l : Lease) (hl : leaseById v.toNat s = some l)
    (hx : s.cmd.executing = []) : Completes (.tblLeaseKill p v) s fun t =>
      t.tbl = { s.tbl with leases := s.tbl.leases.filter (fun x => x.id ≠ l.id) } ∧ Books { s with tbl := t.tbl } t := by
  have hb := revokeLease_books l hx
  have hout : Outer s (revokeLease l s) := ((dropLease_alone l.id).outer s).trans hb.outer
  exact ⟨revokeLease l s, h.write (by simp only [hl]) hout, hb.tbl, (dropLease_alone l.id).books_tbl hb⟩

/-! ## Learning (R162, R163) -/

/-- A learned key is entered at a free place of the cell with more free entries. -/
theorem insertLearned_free {key : BitVec 64} {result : BitVec 44} {n : Nat} {s : State}
    (h : freeIn (if freeCount (cells { ty := 0, key }).1 s < freeCount (cells { ty := 0, key }).2 s
      then (cells { ty := 0, key }).2 else (cells { ty := 0, key }).1) s = some n) :
    insertLearned key result s = (true, setEntry n (makeEntry 0 key result s.tbl.age.init) s) := by
  simp only [insertLearned, h]

/-- The record is committed to the table as it stands (R162), which has no place for its key yet. -/
theorem commitRecord_new {r : LearnRec} {n : Nat} {s : State} (hc : s.tbl.corrupt = [])
    (h1 : matchesIn { ty := 0, key := r.key } (cells { ty := 0, key := r.key }).1 s = [])
    (h2 : matchesIn { ty := 0, key := r.key } (cells { ty := 0, key := r.key }).2 s = [])
    (hn : freeIn (if freeCount (cells { ty := 0, key := r.key }).1 s < freeCount (cells { ty := 0, key := r.key }).2 s
      then (cells { ty := 0, key := r.key }).2 else (cells { ty := 0, key := r.key }).1) s = some n) :
    commitRecord r s = count .learnCommits 0 (setEntry n (makeEntry 0 r.key (s.learnOf r.source).template s.tbl.age.init) s) := by
  simp only [commitRecord, tblSearch_miss hc h1 h2, insertLearned_free hn, if_true]

/-- Item 6's state once the one record has left the queue. -/
def unqueued (s : State) : State := { worked 6 s with tbl := { s.tbl with learn := [] } }

/-- The record's key entered at place n, with its source's template and the initial age. -/
def entered (r : LearnRec) (n : Nat) (s : State) : State :=
  setEntry n (makeEntry 0 r.key (s.learnOf r.source).template s.tbl.age.init) (unqueued s)

/-- Item 6 with a single record of an earlier tick defers it or commits it. -/
theorem execLearnCommit_single {s : State} {r : LearnRec} (h : Due 6 s) (hl : s.tbl.learn = [r]) (ht : r.tick ≠ ownTick s) :
    execLearnCommit s = if deferredNow r s then { worked 6 s with tbl := { s.tbl with learn := [{ r with deferred := true }] } }
      else commitRecord r (unqueued s) := by
  have hlearn : (worked 6 s).tbl.learn = [r] := hl
  have hold : (worked 6 s).tbl.learn.filter (fun r => decide (r.tick ≠ ownTick (worked 6 s))) = [r] := by
    have htick : r.tick ≠ ownTick (worked 6 s) := ht
    simp [hlearn, htick]
  refine (h.runs _).trans ?_
  dsimp only
  rw [hold]
  simp only [List.foldl_cons, List.foldl_nil, hlearn, List.map_cons, List.map_nil, List.filter_cons, List.filter_nil, and_self,
    if_true, decide_true, Bool.not_true, Bool.false_eq_true, if_false]
  rfl

theorem learnCommit_enters {s : State} (r : LearnRec) (g n : Nat) (h : Due 6 s) (hl : s.tbl.learn = [r]) (ht : r.tick ≠ ownTick s)
    (hd : deferredNow r s = false) (hc : s.tbl.corrupt = [])
    (h1 : matchesIn { ty := 0, key := r.key } (cells { ty := 0, key := r.key }).1 s = [])
    (h2 : matchesIn { ty := 0, key := r.key } (cells { ty := 0, key := r.key }).2 s = [])
    (hg : g = (if freeCount (cells { ty := 0, key := r.key }).1 s < freeCount (cells { ty := 0, key := r.key }).2 s
      then (cells { ty := 0, key := r.key }).2 else (cells { ty := 0, key := r.key }).1))
    (hn : freeIn g s = some n) : Completes .learnCommit s fun t =>
      t.tbl = { (setEntry n (makeEntry 0 r.key (s.learnOf r.source).template s.tbl.age.init) s).tbl with learn := [] } ∧
      Books { worked 6 s with tbl := t.tbl } t := by
  subst hg
  have hf : execLearnCommit s = count .learnCommits 0 (entered r n s) := (execLearnCommit_single h hl ht).trans
    ((if_neg (hd ▸ Bool.false_ne_true)).trans (commitRecord_new (s := unqueued s) hc h1 h2 hn))
  have hb := count_books .learnCommits 0 (entered r n s)
  have hout : Outer s (entered r n s) := ⟨rfl, rfl, rfl⟩
  exact live_completes h.awake.on _ hf (hout.trans hb.outer) ⟨hb.tbl, by rw [hb.tbl]; exact hb⟩

theorem learnCommit_defers {s : State} (r : LearnRec) (h : Due 6 s) (hl : s.tbl.learn = [r]) (ht : r.tick ≠ ownTick s)
    (hd : deferredNow r s = true) : exec .learnCommit s =
      .next { worked 6 s with tbl := { s.tbl with learn := [{ r with deferred := true }] } } :=
  congrArg Host.Outcome.next (live_eq h.awake.on ((execLearnCommit_single h hl ht).trans (if_pos hd)) ⟨rfl, rfl, rfl⟩)

/-! ## Ageing (R165) -/

/-- What ageing does to a valid IPv4 or MAC entry of a block that is neither isolated nor locked. -/
theorem ageEntry_single {n : Nat} {s : State} (hv : entryValid (s.entry n) = true) (ht : entryType (s.entry n) < 2)
    (hi : isolated (n / 262144) s = false) (hk : locked (n / 262144) s = false) : ageEntry n s =
      if entryAge (s.entry n) = 15 then s
      else if entryAge (s.entry n) = 0 then count .agedOut 0 (clearEntry n s)
      else setEntry n (withAge (s.entry n) (entryAge (s.entry n) - 1)) s := by
  have hfree : ¬ (¬ entryValid (s.entry n) = true ∨ isolated (n / 262144) s = true ∨ locked (n / 262144) s = true) := by
    simp [hv, hi, hk]
  have hpair : ¬ (entryType (s.entry n) = 3 ∧ (pairOf n s).isSome = true) := by omega
  rw [← invalidate_single ht]
  exact (if_neg hfree).trans (if_neg hpair)

/-- Item 7 in a tick of the interval ages the one entry of the table. -/
theorem execAgeingStep_single {s : State} {n : Nat} {e : BitVec 128} (h : Due 7 s) (hi : s.tbl.age.interval ≠ 0)
    (ht : tickDiff s.clk.tick s.tbl.ageBase % s.tbl.age.interval = 0) (hs : s.tbl.entries = [(n, e)]) :
    execAgeingStep s = ageEntry n (worked 7 s) := by
  have hdue : ageDue (itemTick 7 s) (worked 7 s) = true := by simp [h.itemTick, ageDue, worked, hi, ht]
  have hone : (worked 7 s).tbl.entries = [(n, e)] := hs
  simp only [execAgeingStep, h.runs, hdue, if_true, hone, List.map_cons, List.map_nil, List.foldl_cons, List.foldl_nil]

theorem ageingStep_ages {s : State} (n : Nat) (e : BitVec 128) (h : Due 7 s) (hi : s.tbl.age.interval ≠ 0)
    (ht : tickDiff s.clk.tick s.tbl.ageBase % s.tbl.age.interval = 0) (hs : s.tbl.entries = [(n, e)]) (hv : entryValid e = true)
    (hy : entryType e < 2) (hb : isolated (n / 262144) s = false) (hk : locked (n / 262144) s = false) :
    (entryAge e ≠ 0 → entryAge e ≠ 15 → exec .ageingStep s = .next (setEntry n (withAge e (entryAge e - 1)) (worked 7 s))) ∧
    (entryAge e = 15 → exec .ageingStep s = .next (worked 7 s)) ∧
    (entryAge e = 0 → Completes .ageingStep s fun t =>
      entryValid (t.entry n) = false ∧ Books { worked 7 s with tbl := t.tbl } t) := by
  obtain rfl := entry_of_single hs
  have hf := (execAgeingStep_single h hi ht hs).trans (ageEntry_single (s := worked 7 s) hv hy hb hk)
  refine ⟨fun h0 h15 => ?_, fun h15 => ?_, fun h0 => ?_⟩
  · exact congrArg Host.Outcome.next (live_eq h.awake.on (hf.trans ((if_neg h15).trans (if_neg h0)))
      ((worked_outer 7 s).trans ((setEntry_alone _ _).outer _)))
  · exact congrArg Host.Outcome.next (live_eq h.awake.on (hf.trans (if_pos h15)) (worked_outer 7 s))
  · have h15 : ¬ entryAge (s.entry n) = 15 := by omega
    have hc := count_books .agedOut 0 (clearEntry n (worked 7 s))
    have hout := ((worked_outer 7 s).trans ((clearEntry_alone n).outer _)).trans hc.outer
    refine live_completes h.awake.on _ (hf.trans ((if_neg h15).trans (if_pos h0))) hout ⟨?_, (clearEntry_alone n).books_tbl hc⟩
    rw [State.entry, hc.tbl]
    exact entryValid_clearEntry n (worked 7 s)

/-- Settles O22: each item's cases, and the kill register's two, have their own rules above. -/
theorem tableItemsTakeEffect : Obligations.TableItemsTakeEffect := by
  unfold Obligations.TableItemsTakeEffect
  exact fun _ => ⟨leaseExpiry_idles, leaseExpiry_drops, learnCommit_enters, learnCommit_defers, ageingStep_ages,
    fun _ _ h => ⟨tblLeaseKill_unknown h, tblLeaseKill_drops h⟩⟩

end Sys2Proof.Machine
end

section
/-!
PROOFS. The table windows and flow contexts of BAR2 (06 R157, R160, R170–R172), and Q_BYTES (08 R220).
-/

namespace Sys2Proof.Machine

/-! ## Window writes (R157, R160, R171) -/

/-- An aligned offset of the windows. -/
theorem windowOffset_inside {addr : Nat} (ha : addr % 4 = 0) (hw : addr < 0x2000000) : ¬ (addr % 4 ≠ 0 ∨ 0x2000000 ≤ addr) := by omega

/-- With room in the staging area, a copy is staged. -/
theorem stage_room {id n : Nat} {e : TEntry} {s : State} {l : Lease} (hl : leaseById id s = some l) (hr : stagedCount s < 65536) :
    stage id n e s = setLease { l with staged := SMap.set none l.staged n (some e) } s := by
  have hroom : ¬ ((SMap.get none l.staged n).isNone = true ∧ 65536 ≤ stagedCount s) := by omega
  simp only [stage, hl, hroom, if_false]

theorem tableWindowWrite_stages {p : Path} {addr : Nat} {v : Word} {s : State} (h : Reaches p s) (n : Nat) (l : Lease)
    (ha : addr % 4 = 0) (hw : addr < 0x2000000) (hn : windowEntry addr s = some n) (ho : leaseOf (n / 262144) s = some l)
    (hl : leaseById l.id s = some l) (hr : stagedCount s < 65536) : exec (.tableWindowWrite p addr v) s =
      .next (setLease { l with staged := SMap.set none l.staged n (some (setEntryWord (seenBy l n s) (addr / 4 % 4) v)) } s) :=
  congrArg Host.Outcome.next (via_eq h (by
    simp only [execTableWindowWrite, windowOffset_inside ha hw, if_false, hostWrite_awake h.awake.awake, hn, ho, stage_room hl hr])
    ((setLease_alone _).outer s))

theorem tableWindowWrite_unlocked {p : Path} {addr : Nat} {v : Word} {s : State} (h : Reaches p s) (n : Nat)
    (ha : addr % 4 = 0) (hw : addr < 0x2000000) (hn : windowEntry addr s = some n) (ho : leaseOf (n / 262144) s = none) :
    exec (.tableWindowWrite p addr v) s = .next (count .tblWriteUnlocked 0 s) :=
  congrArg Host.Outcome.next (via_eq h (by
    simp only [execTableWindowWrite, windowOffset_inside ha hw, if_false, hostWrite_awake h.awake.awake, hn, ho]) (count_books _ _ _).outer)

theorem tableWindowWrite_unmapped {p : Path} {addr : Nat} {v : Word} {s : State} (h : Reaches p s)
    (ha : addr % 4 = 0) (hw : addr < 0x2000000) (hn : windowEntry addr s = none) :
    exec (.tableWindowWrite p addr v) s = .next (count .tblWindowUnmapped 0 s) :=
  congrArg Host.Outcome.next (via_eq h (by
    simp only [execTableWindowWrite, windowOffset_inside ha hw, if_false, hostWrite_awake h.awake.awake, hn]) (count_books _ _ _).outer)

/-! ## Window reads (R172) -/

@[simp] theorem setLatch_tbl (p : Path) (l : Latch) (s : State) : (s.setLatch p l).tbl = s.tbl := by cases p <;> rfl
@[simp] theorem setLatch_out (p : Path) (l : Latch) (s : State) : (s.setLatch p l).out = s.out := by cases p <;> rfl

/-- What a read of word 0 latches: words 1 to 3 of window w's entry, and which entry it is. -/
def windowLatch (w n : Nat) (e : TEntry) (l : Latch) : Latch :=
  { l with
    tblWords := [1, 2, 3].foldl (fun m k => SMap.set 0 m (4 * w + k) (entryWord e k)) l.tblWords
    tblEntry := SMap.set 0 l.tblEntry w (n + 1) }

theorem windowLatch_words (w n : Nat) (e : TEntry) (l : Latch) {k : Nat} (hk : k = 1 ∨ k = 2 ∨ k = 3) :
    SMap.get 0 (windowLatch w n e l).tblWords (4 * w + k) = entryWord e k := by
  simp only [windowLatch, List.foldl_cons, List.foldl_nil]
  rcases hk with rfl | rfl | rfl
  · rw [SMap.get_set_other _ _ (by omega), SMap.get_set_other _ _ (by omega), SMap.get_set_same]
  · rw [SMap.get_set_other _ _ (by omega), SMap.get_set_same]
  · exact SMap.get_set_same _ _ _ _

theorem windowLatch_entry (w n : Nat) (e : TEntry) (l : Latch) : SMap.get 0 (windowLatch w n e l).tblEntry w = n + 1 := by
  simp only [windowLatch, SMap.get_set_same]

theorem tableWindowRead_first {p : Path} {addr n : Nat} {s : State} (h : Reaches p s) (ha : addr % 4 = 0) (hw : addr < 0x2000000)
    (hn : windowEntry addr s = some n) (hk : addr / 4 % 4 = 0) : exec (.tableWindowRead p addr) s =
      .next (emit (.value p addr (entryWord (windowSees n s) 0))
        (s.setLatch p (windowLatch (addr / 0x400000) n (windowSees n s) (s.latch p)))) := by
  refine congrArg Host.Outcome.next (via_latchingRead h ?_)
  simp only [execTableWindowRead, hostRead_awake h.awake.awake, ha, not_le.2 hw, hn, hk, ne_eq, not_true_eq_false, if_true, if_false]
  rfl

theorem tableWindowRead_latched {p : Path} {addr n : Nat} {s : State} (h : Reaches p s) (ha : addr % 4 = 0) (hw : addr < 0x2000000)
    (hn : windowEntry addr s = some n) (hk : addr / 4 % 4 ≠ 0) (hl : SMap.get 0 (s.latch p).tblEntry (addr / 0x400000) = n + 1) :
    exec (.tableWindowRead p addr) s =
      .next (emit (.value p addr (SMap.get 0 (s.latch p).tblWords (4 * (addr / 0x400000) + addr / 4 % 4))) s) := by
  refine congrArg Host.Outcome.next (via_eq h ?_ (emit_outer _ s))
  simp only [execTableWindowRead, hostRead_awake h.awake.awake, ha, not_le.2 hw, hn, hk, hl, ne_eq, not_true_eq_false, if_true, if_false]
  rfl

theorem tableWindowRead_answers {p : Path} {addr : Nat} {s : State} (h : Reaches p s) (n : Nat) (ha : addr % 4 = 0)
    (hw : addr < 0x2000000) (hn : windowEntry addr s = some n) :
    (addr / 4 % 4 = 0 → Completes (.tableWindowRead p addr) s fun t =>
      t.out = .value p addr (entryWord (windowSees n s) 0) :: s.out ∧
      (∀ k, k = 1 ∨ k = 2 ∨ k = 3 → SMap.get 0 (t.latch p).tblWords (4 * (addr / 0x400000) + k) = entryWord (windowSees n s) k) ∧
      SMap.get 0 (t.latch p).tblEntry (addr / 0x400000) = n + 1 ∧ t.tbl = s.tbl) ∧
    (addr / 4 % 4 ≠ 0 → SMap.get 0 (s.latch p).tblEntry (addr / 0x400000) = n + 1 →
      exec (.tableWindowRead p addr) s = .next (emit
        (.value p addr (SMap.get 0 (s.latch p).tblWords (4 * (addr / 0x400000) + addr / 4 % 4))) s)) := by
  refine ⟨fun hk => ⟨_, tableWindowRead_first h ha hw hn hk, ?_, fun k hk => ?_, ?_, setLatch_tbl _ _ _⟩,
    tableWindowRead_latched h ha hw hn⟩
  · exact congrArg _ (setLatch_out _ _ _)
  · rw [latch_emit, latch_setLatch_same]
    exact windowLatch_words _ _ _ _ hk
  · rw [latch_emit, latch_setLatch_same]
    exact windowLatch_entry _ _ _ _

/-! ## Flow contexts (R170) -/

/-- The buffer that is free, or holds the same context already, is not abandoned. -/
theorem abandonHeld_own {f : Nat} {s : State} (h : s.tbl.held = none ∨ s.tbl.held = some f) : abandonHeld f s = s := by
  rcases h with h | h <;> simp [abandonHeld, h]

theorem flowContextStage_holds {p : Path} {addr : Nat} {v : Word} {s : State} (h : Reaches p s) (f k : Nat) (hf : f < 2 ^ 20) (hk : k < 7)
    (ha : addr = 0x2000000 + 32 * f + 4 * k) (hh : s.tbl.held = none ∨ s.tbl.held = some f) :
    exec (.flowContextStage p addr v) s = .next { s with tbl := { s.tbl with
      held := some f, heldWords := SMap.set none s.tbl.heldWords k (some v) } } := by
  have hword : (addr - 0x2000000) / 4 = 8 * f + k := by omega
  have hctx : (8 * f + k) / 8 = f := by omega
  have hmod : (8 * f + k) % 8 = k := by omega
  have hin : ¬ (addr % 4 ≠ 0 ∨ addr < 0x2000000 ∨ 0x4000000 ≤ addr ∨ k = 7) := by omega
  refine congrArg Host.Outcome.next (via_eq h ?_ ⟨rfl, rfl, rfl⟩)
  simp only [execFlowContextStage, hword, hctx, hmod, hin, if_false, hostWrite_awake h.awake.awake, abandonHeld_own hh]

/-- The 32 bytes that a commit of context f makes current: the held words, or the current ones where none is held, and v. -/
def commitBytes (f : Nat) (v : Word) (s : State) : Bytes :=
  cappedFlow ((((List.range 7).map fun k => (SMap.get none s.tbl.heldWords k).getD (SMap.get 0 s.tbl.flow (8 * f + k))) ++ [v]).flatMap
    fun w => le 4 w.toNat) s

/-- The assembly buffer is free again. -/
def released (s : State) : State := { s with tbl := { s.tbl with held := none, heldWords := [] } }

theorem execFlowContextCommit_held {p : Path} {addr f : Nat} {v : Word} {s : State} (h : Reaches p s) (hf : f < 2 ^ 20)
    (ha : addr = 0x2000000 + 32 * f + 28) (hh : s.tbl.held = some f) : execFlowContextCommit p addr v s =
      mirrorOut (.flow f ((List.range 8).map fun k => w32 (commitBytes f v s) (4 * k))) (setFlow f (commitBytes f v s) (released s)) := by
  have hword : (addr - 0x2000000) / 4 = 8 * f + 7 := by omega
  have hctx : (8 * f + 7) / 8 = f := by omega
  have hin : ¬ (addr % 4 ≠ 0 ∨ addr < 0x2000000 ∨ 0x4000000 ≤ addr ∨ (8 * f + 7) % 8 ≠ 7) := by omega
  simp only [execFlowContextCommit, hword, hctx, hin, if_false, hostWrite_awake h.awake.awake, abandonHeld_own (.inr hh)]
  rfl

/-- Words written one after another below n read as written, and every other as before. -/
theorem get_foldl_set (g : Nat → Word) (a n : Nat) (m : SMap Word) :
    (∀ k, k < n → SMap.get 0 ((List.range n).foldl (fun m k => SMap.set 0 m (a + k) (g k)) m) (a + k) = g k) ∧
    ∀ j, (j < a ∨ a + n ≤ j) → SMap.get 0 ((List.range n).foldl (fun m k => SMap.set 0 m (a + k) (g k)) m) j = SMap.get 0 m j := by
  induction n with
  | zero => exact ⟨fun k hk => absurd hk (Nat.not_lt_zero k), fun _ _ => rfl⟩
  | succ n ih =>
    obtain ⟨hin, hout⟩ := ih
    simp only [List.range_succ, List.foldl_append, List.foldl_cons, List.foldl_nil]
    refine ⟨fun k hk => ?_, fun j hj => ?_⟩
    · rcases Nat.lt_succ_iff_lt_or_eq.1 hk with hlt | rfl
      · rw [SMap.get_set_other _ _ (by omega), hin k hlt]
      · exact SMap.get_set_same _ _ _ _
    · rw [SMap.get_set_other _ _ (by omega), hout j (by omega)]

/-- The eight words of a context made current, and every other word as before. -/
theorem get_setFlow (f : Nat) (b : Bytes) (s : State) :
    (∀ k, k < 8 → SMap.get 0 (setFlow f b s).tbl.flow (8 * f + k) = w32 b (4 * k)) ∧
    ∀ j, j / 8 ≠ f → SMap.get 0 (setFlow f b s).tbl.flow j = SMap.get 0 s.tbl.flow j := by
  obtain ⟨hin, hout⟩ := get_foldl_set (fun k => w32 b (4 * k)) (8 * f) 8 s.tbl.flow
  exact ⟨hin, fun j hj => hout j (by omega)⟩

theorem setFlow_tbl (f : Nat) (b : Bytes) (s : State) : (setFlow f b s).tbl = { s.tbl with flow := (setFlow f b s).tbl.flow } := rfl

theorem setFlow_outer (f : Nat) (b : Bytes) (s : State) : Outer s (setFlow f b s) := ⟨rfl, rfl, rfl⟩

theorem flowContextCommit_commits {p : Path} {addr : Nat} {v : Word} {s : State} (h : Reaches p s) (f : Nat) (hf : f < 2 ^ 20)
    (ha : addr = 0x2000000 + 32 * f + 28) (hh : s.tbl.held = some f) : Completes (.flowContextCommit p addr v) s fun t =>
      (∀ k, k < 8 → SMap.get 0 t.tbl.flow (8 * f + k) = w32 (commitBytes f v s) (4 * k)) ∧
      (∀ j, j / 8 ≠ f → SMap.get 0 t.tbl.flow j = SMap.get 0 s.tbl.flow j) ∧
      t.tbl = { s.tbl with flow := t.tbl.flow, held := none, heldWords := [] } := by
  obtain ⟨hin, hout⟩ := get_setFlow f (commitBytes f v s) (released s)
  have hm := mirrorOut_mirrored (.flow f ((List.range 8).map fun k => w32 (commitBytes f v s) (4 * k)))
    (setFlow f (commitBytes f v s) (released s))
  have ho : Outer s (released s) := ⟨rfl, rfl, rfl⟩
  have hout' := (ho.trans (setFlow_outer f (commitBytes f v s) (released s))).trans hm.outer
  refine ⟨_, congrArg Host.Outcome.next (via_eq h (execFlowContextCommit_held h hf ha hh) hout'), ?_⟩
  beta_reduce
  rw [hm.tbl]
  exact ⟨hin, hout, setFlow_tbl f (commitBytes f v s) (released s)⟩

/-! ## Q_BYTES (08 R220) -/

theorem qBytesRead_latches {p : Path} {s : State} (h : Reaches p s) :
    exec (.qBytesRead p) s = .next (emit (.value p 0x40008 (BitVec.ofNat 32 (s.queue s.qSel).bytes))
      (s.setLatch p { s.latch p with qFrames := BitVec.ofNat 32 (s.queue s.qSel).frames.length })) :=
  congrArg Host.Outcome.next (via_latchingRead h (hostRead_awake h.awake.awake _ _ _))

/-- Settles O23: each access has its own rule above. -/
theorem tableWindowRowsTakeEffect : Obligations.TableWindowRowsTakeEffect := by
  unfold Obligations.TableWindowRowsTakeEffect
  exact fun _ _ _ _ h => ⟨tableWindowWrite_stages h, tableWindowWrite_unlocked h, tableWindowWrite_unmapped h, tableWindowRead_answers h,
    flowContextStage_holds h, flowContextCommit_commits h, qBytesRead_latches h⟩

end Sys2Proof.Machine
end

section
/-!
PROOFS. The classifier's commands (07): CLS_CONFIG, CLS_BUILD, CLS_SWAP and CLS_PROBE, with the ends of a build and of a drain (R196–R202).
-/

namespace Sys2Proof.Machine

/-! ## Images -/

@[simp] theorem image_setImage_same (e : Nat) (im : Image) (s : State) : (s.setImage e im).image e = im := SMap.get_put_same _ _ _ _

theorem image_setImage_other {e j : Nat} (h : j ≠ e) (im : Image) (s : State) : (s.setImage e im).image j = s.image j :=
  SMap.get_put_other _ _ h _

/-- An image is read off the classifier alone. -/
theorem image_of_cls {s t : State} (h : t.cls = s.cls) (e : Nat) : t.image e = s.image e := by
  simp only [State.image, h]

/-! ## CLS_CONFIG (R199) -/

/-- The settings that CLS_CONFIG's payload gives (R199). -/
def settingsOf (p : Bytes) : ClsCfg :=
  { incompleteMode := decide (u8 p 0 = 1), checkCsum := decide (u8 p 1 = 1), vxlanPort := u16 p 2, extraTpid := u16 p 4
    copyQueue := u16 p 6, malformedQueue := u16 p 8, malformedAction := u32 p 12 }

theorem clsConfig_sets {q : CmdReq} {c : Cmd} {s : State} (cfg : ClsCfg) (hcfg : cfg = settingsOf q.body) (h : Runs 0x0400 q c s) :
    ((q.atTick || c.due.isSome) = false → Completes (.clsConfig q) s fun t => Answers c .ok 0 [] s t ∧
      Books { s with cls := { s.cls with cfgNext := some cfg } } t) ∧
    ((q.atTick || c.due.isSome) = true → Completes (.clsConfig q) s fun t => Answers c .ok 0 [] s t ∧
      Books { s with cls := { s.cls with cfg := cfg } } t) := by
  obtain rfl := h.isReq
  subst hcfg
  exact ⟨fun hnow => Runs.completes (sp := specClsConfig) (eff := effClsConfig) h rfl (if_neg (hnow ▸ Bool.false_ne_true))
      rfl rfl rfl rfl rfl rfl,
    fun hitem => Runs.completes (sp := specClsConfig) (eff := effClsConfig) h rfl (if_pos hitem) rfl rfl rfl rfl rfl rfl⟩

/-! ## CLS_BUILD (R200) -/

/-- What asking for a command's data changes: what is on its way from host memory, and the requests for it. -/
theorem fetchData_books (c : Cmd) (n : Nat) (d : Bytes) (s : State) :
    Books { s with mem := { s.mem with fetches := SMap.set none s.mem.fetches c.seq (some { left := (n + 4095) / 4096, data := d }),
                                       requests := (fetchData c n d s).mem.requests } } (fetchData c n d s) := by
  unfold fetchData
  dsimp only
  split <;> rfl

/-- What is left to read is counted in transfers of 4 KiB (14 R350). -/
theorem fetchData_fetches (c : Cmd) (n : Nat) (d : Bytes) (s : State) :
    SMap.get none (fetchData c n d s).mem.fetches c.seq = some { left := (n + 4095) / 4096, data := d } := by
  have hf : (fetchData c n d s).mem.fetches = _ := congrArg Mem.fetches (fetchData_books c n d s).mem
  simp only [hf, SMap.get_set_same]

theorem fetchData_cmd (c : Cmd) (n : Nat) (d : Bytes) (s : State) : (fetchData c n d s).cmd = s.cmd := by
  unfold fetchData
  dsimp only
  split <;> rfl

/-- The image of a build that begins: its content is gone, and its payload's rules, default action and comparators are kept (R200). -/
def imageOfBuild (rules : List Bytes) (p : Bytes) : Image :=
  { state := .building, valid := false, rules := rules.take (u32 p 4), dflt := slice p 16 32, comps := slice p 48 512 }

/-- The classifier once a build has begun, before any of its rules has been asked for. -/
def buildBegun (rules : List Bytes) (p : Bytes) (s : State) : State :=
  State.setImage (u8 p 0) (imageOfBuild rules p) { s with cls := { s.cls with buildTick := ownTick s } }

theorem buildBegun_outer (rules : List Bytes) (p : Bytes) (s : State) : Outer s (buildBegun rules p s) := ⟨rfl, rfl, rfl⟩

theorem effClsBuild_begins {rules : List Bytes} {c : Cmd} {s : State} (hb : ∀ k ∈ [0, 1], (s.image k).state ≠ .building)
    (hd : (s.image (u8 c.req.body 0)).state ≠ .draining) (ha : (s.image (u8 c.req.body 0)).state ≠ .active) (hs : s.cls.swapTo = none)
    (hr : breachesRank 0 hostRead_ s = false) :
    effClsBuild rules c s = .later (fetchData c (224 * u32 c.req.body 4) [] (buildBegun rules c.req.body s)) := by
  have hfree : ¬ ([0, 1].any (fun e => decide ((s.image e).state = .building)) ||
      decide ((s.image (u8 c.req.body 0)).state = .draining) || s.cls.swapTo.isSome) = true := by
    have hnone : [0, 1].any (fun e => decide ((s.image e).state = .building)) = false :=
      List.any_eq_false.2 fun k hk => by simpa using hb k hk
    simp [hnone, hd, hs]
  have hturn : ¬ (!hasTurn 0 hostRead_ s && breachesRank 0 hostRead_ s) = true := by simp [hr]
  exact (if_neg ha).trans ((if_neg hfree).trans (if_neg hturn))

theorem clsBuild_begins {q : CmdReq} {c : Cmd} {s : State} (rules : List Bytes) (h : Runs 0x0401 q c s)
    (hb : ∀ k ∈ [0, 1], (s.image k).state ≠ .building) (hd : (s.image (u8 q.body 0)).state ≠ .draining)
    (ha : (s.image (u8 q.body 0)).state ≠ .active) (hs : s.cls.swapTo = none) (hr : breachesRank 0 hostRead_ s = false) :
    Completes (.clsBuild q rules) s fun t => GoesOn c t ∧ t.image (u8 q.body 0) = imageOfBuild rules q.body ∧
      t.cls.buildTick = ownTick s ∧
      SMap.get none t.mem.fetches c.seq = some { left := (224 * u32 q.body 4 + 4095) / 4096, data := [] } ∧
      Books { s with cls := t.cls, mem := { s.mem with fetches := t.mem.fetches, requests := t.mem.requests } } t := by
  obtain rfl := h.isReq
  have hf := fetchData_books c (224 * u32 c.req.body 4) [] (buildBegun rules c.req.body (markStarted c s))
  have hout : Outer s (fetchData c (224 * u32 c.req.body 4) [] (buildBegun rules c.req.body (markStarted c s))) :=
    ((markStarted_books c s).outer.trans (buildBegun_outer rules c.req.body (markStarted c s))).trans
      ⟨hf.pending, hf.hot_powered, hf.boot⟩
  refine h.goesOn (sp := specClsBuild) (eff := effClsBuild rules) rfl (effClsBuild_begins (s := markStarted c s) hb hd ha hs hr) ?_
  rw [hout.keep]
  refine ⟨?_, ?_, ?_, ?_, ?_⟩
  · rw [GoesOn, fetchData_cmd]
    exact (congrArg CmdState.executing h.marked :)
  · rw [image_of_cls hf.cls]
    exact image_setImage_same _ _ _
  · rw [hf.cls]
    rfl
  · exact fetchData_fetches _ _ _ _
  · rw [hf.cls, hf.mem]
    exact hf

/-! ## The end of a build (R196) -/

theorem running_of_cmd {s t : State} (h : t.cmd = s.cmd) (op : Nat) : running op t = running op s := by
  simp only [running, h]

/-- In a state with its commands, the row that completes a command completes the one that has begun. -/
theorem Begun.completeRunning {op : Nat} {c : Cmd} {s : State} (h : Begun op c s) (u : State) (hc : u.cmd = s.cmd) (st : Status) (d : Nat)
    (p : Bytes) : Machine.completeRunning op st d p u = Machine.complete c st d p u := by
  simp only [Machine.completeRunning, running_of_cmd hc, h.running]

/-- An image that builds is EMPTY once its build has failed; another image stays. -/
def failImage (e : Nat) (s : State) : State := if (s.image e).state = .building then s.setImage e { state := .empty } else s

theorem failBuild_eq (s : State) : failBuild s = failImage 1 (failImage 0 s) := rfl

theorem failImage_rest (e : Nat) (s : State) : failImage e s = { s with cls := (failImage e s).cls } := by
  unfold failImage
  split <;> rfl

theorem failBuild_rest (s : State) : failBuild s = { s with cls := (failBuild s).cls } := by
  rw [failBuild_eq]
  exact (failImage_rest 1 _).trans (congrArg (fun x : State => { x with cls := (failImage 1 (failImage 0 s)).cls }) (failImage_rest 0 s))

theorem failBuild_cmd (s : State) : (failBuild s).cmd = s.cmd := (congrArg State.cmd (failBuild_rest s) :)

theorem failBuild_clk (s : State) : (failBuild s).clk = s.clk := (congrArg State.clk (failBuild_rest s) :)

theorem failBuild_outer (s : State) : Outer s (failBuild s) :=
  ⟨(congrArg State.pending (failBuild_rest s) :), (congrArg (fun x => x.hot.powered) (failBuild_rest s) :),
    (congrArg State.boot (failBuild_rest s) :)⟩

theorem image_failImage_same {e : Nat} {s : State} (h : (s.image e).state = .building) : (failImage e s).image e = { state := .empty } := by
  rw [failImage, if_pos h, image_setImage_same]

theorem image_failImage_other {e j : Nat} (h : j ≠ e) (s : State) : (failImage e s).image j = s.image j := by
  unfold failImage
  split
  · exact image_setImage_other h _ s
  · rfl

theorem image_failBuild (e : Fin 2) {s : State} (h : (s.image e).state = .building) : (failBuild s).image e = { state := .empty } := by
  rw [failBuild_eq]
  match e with
  | 0 => exact (image_failImage_other (by decide) _).trans (image_failImage_same h)
  | 1 => exact image_failImage_same (by rw [image_failImage_other (by decide)]; exact h)

/-- The lowest image that builds is the one whose build completes. -/
theorem buildingImage_lowest (e : Fin 2) {s : State} (h : (s.image e).state = .building)
    (hlow : ∀ k, k < e.val → (s.image k).state ≠ .building) :
    [0, 1].find? (fun e => decide ((s.image e).state = .building)) = some e.val := by
  match e with
  | 0 => exact List.find?_cons_of_pos (decide_eq_true h)
  | 1 =>
    have h0 := hlow 0 Nat.one_pos
    exact (List.find?_cons_of_neg (by simpa using h0)).trans (List.find?_cons_of_pos (decide_eq_true h))

/-- The state in which a build's outcome falls: its rules have been read, and the tree's size has been chosen. -/
def compiled (c : Cmd) (s : State) : State := (takeFree 24 (endFetch c.seq s)).2

theorem takeFree_compiled (c : Cmd) (s : State) :
    takeFree 24 (endFetch c.seq s) = (Config.freeValue s.freeCtr % 2 ^ 24, compiled c s) := rfl

section buildEnds

variable {e : Fin 2} {size : Nat} {c : Cmd} {s : State} (h : Begun 0x0401 c s) (he : (s.image e).state = .building)
  (hlow : ∀ k, k < e.val → (s.image k).state ≠ .building) (hz : targetFrozen (24 + e.val) s = false) (hf : fetched c s = true)
  (hsize : size = Config.freeValue s.freeCtr % 2 ^ 24)

include h he hlow hz hf

/-- A rule that a build rejects ends it with its index. -/
theorem execClsBuildComplete_rejects {d : Nat} (hd : ruleFault (s.image e).comps (s.image e).rules = some d) :
    execClsBuildComplete s = complete c .badParam d [] (failBuild (endFetch c.seq s)) := by
  simp only [execClsBuildComplete, buildingImage_lowest e he hlow, h.running, hz, hf, hd, Bool.not_true, Bool.or_self, Bool.false_eq_true,
    if_false]
  exact h.completeRunning _ (failBuild_cmd (endFetch c.seq s)) _ _ _

include hsize

/-- Without one, the tree's size decides. -/
theorem execClsBuildComplete_compiles (hd : ruleFault (s.image e).comps (s.image e).rules = none) : execClsBuildComplete s =
      if 4194304 < size then complete c .tableFull 0 [] (failBuild (compiled c s))
      else complete c .ok 0 (le 4 (s.image e).rules.length ++ le 4 size ++ le 4 (ticksSince s.cls.buildTick s))
        ((compiled c s).setImage e { s.image e with state := .ready, valid := true, bytesUsed := size }) := by
  simp only [execClsBuildComplete, buildingImage_lowest e he hlow, h.running, hz, hf, hd, takeFree_compiled, ← hsize, Bool.not_true,
    Bool.or_self, Bool.false_eq_true, if_false]
  rw [h.completeRunning _ (failBuild_cmd (compiled c s)), h.completeRunning ((compiled c s).setImage _ _) rfl]
  rfl

end buildEnds

theorem clsBuildComplete_ends {c : Cmd} {s : State} (e : Fin 2) (size : Nat) (h : Begun 0x0401 c s) (he : (s.image e).state = .building)
    (hlow : ∀ k, k < e.val → (s.image k).state ≠ .building) (hz : targetFrozen (24 + e.val) s = false) (hf : fetched c s = true)
    (hsize : size = Config.freeValue s.freeCtr % 2 ^ 24) :
    (∀ d, ruleFault (s.image e).comps (s.image e).rules = some d → Completes .clsBuildComplete s fun t =>
      Answers c .badParam d [] s t ∧ t.image e = { state := .empty }) ∧
    (ruleFault (s.image e).comps (s.image e).rules = none →
      (size ≤ 4194304 → Completes .clsBuildComplete s fun t =>
        Answers c .ok 0 (le 4 (s.image e).rules.length ++ le 4 size ++ le 4 (ticksSince s.cls.buildTick s)) s t ∧
        t.image e = { s.image e with state := .ready, valid := true, bytesUsed := size }) ∧
      (4194304 < size → Completes .clsBuildComplete s fun t => Answers c .tableFull 0 [] s t ∧ t.image e = { state := .empty })) := by
  refine ⟨fun d hd => ?_, fun hd => ⟨fun hfits => ?_, fun hlarge => ?_⟩⟩
  · have hout := failBuild_outer (endFetch c.seq s)
    obtain ⟨t, hx, ha, hb⟩ := h.completes (execClsBuildComplete_rejects h he hlow hz hf hd) (failBuild_cmd _)
      (congrArg Clk.tick (failBuild_clk _)) hout.pending hout.powered (congrArg Boot.inReset hout.boot)
    exact ⟨t, hx, ha, (image_of_cls hb.cls e).trans (image_failBuild e he)⟩
  · have hend := (execClsBuildComplete_compiles h he hlow hz hf hsize hd).trans (if_neg (Nat.not_lt.2 hfits))
    obtain ⟨t, hx, ha, hb⟩ := h.completes hend rfl rfl rfl rfl rfl
    exact ⟨t, hx, ha, (image_of_cls hb.cls e).trans (image_setImage_same _ _ _)⟩
  · have hend := (execClsBuildComplete_compiles h he hlow hz hf hsize hd).trans (if_pos hlarge)
    have hout := failBuild_outer (compiled c s)
    obtain ⟨t, hx, ha, hb⟩ := h.completes hend (failBuild_cmd _) (congrArg Clk.tick (failBuild_clk _)) hout.pending hout.powered
      (congrArg Boot.inReset hout.boot)
    exact ⟨t, hx, ha, (image_of_cls hb.cls e).trans (image_failBuild e he)⟩

/-! ## CLS_SWAP and the end of a drain (R196, R197, R201) -/

/-- CLS_SWAP to the ACTIVE image answers zeros at once. -/
theorem clsSwap_active {q : CmdReq} {c : Cmd} {s : State} (h : Runs 0x0402 q c s) (ha : (s.image (u8 q.body 0)).state = .active) :
    Completes (.clsSwap q) s fun t => Answers c .ok 0 (le 4 0 ++ le 4 0) s t ∧ Books s t := by
  obtain rfl := h.isReq
  exact Runs.reads (sp := specClsSwap) (eff := effClsSwap) h rfl (if_pos ha)

/-- Outside item 1 a swap to a READY image waits for the swap clock. -/
theorem effClsSwap_waits {c : Cmd} {s : State} (hr : (s.image (u8 c.req.body 0)).state = .ready)
    (hb : ∀ k ∈ [0, 1], (s.image k).state ≠ .building ∧ (s.image k).state ≠ .draining) (hs : s.cls.swapTo = none)
    (ht : (c.req.atTick || c.due.isSome) = false) :
    effClsSwap c s = .later { s with cls := { s.cls with swapTo := some (u8 c.req.body 0) } } := by
  have hfree : ¬ ([0, 1].any (fun e => decide ((s.image e).state = .building) || decide ((s.image e).state = .draining)) ||
      s.cls.swapTo.isSome) = true := by
    have hnone : [0, 1].any (fun e => decide ((s.image e).state = .building) || decide ((s.image e).state = .draining)) = false :=
      List.any_eq_false.2 fun k hk => by simpa using hb k hk
    simp [hnone, hs]
  have hactive : ¬ (s.image (u8 c.req.body 0)).state = .active := by simp [hr]
  have hempty : ¬ (s.image (u8 c.req.body 0)).state = .empty := by simp [hr]
  exact (if_neg hactive).trans ((if_neg hfree).trans ((if_neg hempty).trans (if_neg (ht ▸ Bool.false_ne_true))))

theorem clsSwap_waits {q : CmdReq} {c : Cmd} {s : State} (h : Runs 0x0402 q c s) (hr : (s.image (u8 q.body 0)).state = .ready)
    (hb : ∀ k ∈ [0, 1], (s.image k).state ≠ .building ∧ (s.image k).state ≠ .draining) (hs : s.cls.swapTo = none)
    (ht : (q.atTick || c.due.isSome) = false) : Completes (.clsSwap q) s fun t =>
      GoesOn c t ∧ Books { s with cls := { s.cls with swapTo := some (u8 q.body 0) } } t := by
  obtain rfl := h.isReq
  exact h.goesOn (sp := specClsSwap) (eff := effClsSwap) rfl (effClsSwap_waits (s := markStarted c s) hr hb hs ht)
    ⟨(congrArg CmdState.executing h.marked :), rfl⟩

theorem clsDrainComplete_ends {c : Cmd} {s : State} (e : Nat) (h : Begun 0x0402 c s) (he : drainingImage s = some e) (hn : inFlight e s = 0) :
    Completes .clsDrainComplete s fun t => Answers c .ok 0 (le 4 s.cls.swapTick.toNat ++ le 4 s.clk.tick.toNat) s t ∧
      t.image e = { s.image e with state := if (s.image e).valid then .ready else .empty } ∧ Books { s with cls := t.cls } t := by
  have hf : execClsDrainComplete s = complete c .ok 0 (le 4 s.cls.swapTick.toNat ++ le 4 s.clk.tick.toNat)
      (s.setImage e { s.image e with state := if (s.image e).valid then .ready else .empty }) := by
    have hpair : (if (s.image e).valid then { s.image e with state := .ready } else { s.image e with state := .empty }) =
        { s.image e with state := if (s.image e).valid then .ready else .empty } := by
      split <;> rfl
    simp only [execClsDrainComplete, he, hn, ne_eq, not_true_eq_false, if_false, hpair]
    exact h.completeRunning (s.setImage e _) rfl _ _ _
  obtain ⟨t, hx, ha, hb⟩ := h.completes hf rfl rfl rfl rfl rfl
  refine ⟨t, hx, ha, (image_of_cls hb.cls e).trans (image_setImage_same _ _ _), ?_⟩
  rw [hb.cls]
  exact hb

/-! ## CLS_PROBE (R202) -/

/-- The first pass of a probe decides where its rule is not RECIRCULATE. -/
theorem effClsProbe_decides {c : Cmd} {s : State} {k : Nat} {r : Bytes} (hb : (s.image (u8 c.req.body 1)).state ≠ .building)
    (he : (s.image (u8 c.req.body 1)).state ≠ .empty) (hv : (s.image (u8 c.req.body 1)).valid = true)
    (hr : (classOf s.cls.cfg (s.image (u8 c.req.body 1)) (u8 c.req.body 0) (u16 c.req.body 2) (u16 c.req.body 4) false (u16 c.req.body 4)
      (c.req.body.drop 8)).rule = some (k, r)) (hk : u8 r 0 ≠ 4) :
    effClsProbe c s = .ok (probeReply 1 0xFFFFFFFF (classOf s.cls.cfg (s.image (u8 c.req.body 1)) (u8 c.req.body 0) (u16 c.req.body 2)
      (u16 c.req.body 4) false (u16 c.req.body 4) (c.req.body.drop 8))) s := by
  have hfound : ¬ ((s.image (u8 c.req.body 1)).state = .empty ∨ !(s.image (u8 c.req.body 1)).valid) := by simp [he, hv]
  simp only [effClsProbe, hb, hfound, hr, hk, if_false]

theorem clsProbe_answers {q : CmdReq} {c : Cmd} {s : State} (p : Classed) (k : Nat) (r : Bytes) (h : Runs 0x0403 q c s)
    (hb : (s.image (u8 q.body 1)).state ≠ .building) (he : (s.image (u8 q.body 1)).state ≠ .empty)
    (hv : (s.image (u8 q.body 1)).valid = true)
    (hp : p = classOf s.cls.cfg (s.image (u8 q.body 1)) (u8 q.body 0) (u16 q.body 2) (u16 q.body 4) false (u16 q.body 4) (q.body.drop 8))
    (hr : p.rule = some (k, r)) (hk : u8 r 0 ≠ 4) : Completes (.clsProbe q) s fun t =>
      Answers c .ok 0 (probeReply 1 0xFFFFFFFF p) s t ∧ Books s t := by
  obtain rfl := h.isReq
  subst hp
  exact Runs.reads (sp := specClsProbe) h rfl (effClsProbe_decides (s := markStarted c s) hb he hv hr hk)

/-- Settles O24: each command, and each way that a build ends, has its own rule above. -/
theorem classifierCommandsAnswer : Obligations.ClassifierCommandsAnswer := by
  unfold Obligations.ClassifierCommandsAnswer
  refine fun q c s => ⟨clsConfig_sets, clsBuild_begins, clsBuildComplete_ends, fun e he h => ?_, clsDrainComplete_ends, clsProbe_answers⟩
  subst he
  exact ⟨clsSwap_active h, clsSwap_waits h⟩

end Sys2Proof.Machine
end

section
/-!
PROOFS. The forwarding pipelines (07): dispatch, verdict, second dispatch, release, and the first fault of an engine (R182–R184, R190, R193,
R195).
-/

namespace Sys2Proof.Machine

/-- Where beside the books the classifier is said to have changed, it has changed into what it holds. -/
theorem Books.with_cls {s t : State} {x : Cls} (h : Books { s with cls := x } t) : t.cls = x ∧ Books { s with cls := t.cls } t := by
  obtain rfl : t.cls = x := h.cls
  exact ⟨rfl, h⟩

theorem withCls_outer (x : Cls) (s : State) : Outer s { s with cls := x } := ⟨rfl, rfl, rfl⟩

/-! ## Dispatch (R182, R195) -/

/-- The waiting frames without the one that has been taken from the upstream or the downstream pipeline. -/
def takenFrom (up : Bool) (r : List Frame) (s : State) : State :=
  { s with waitUp := if up then r else s.waitUp, waitDown := if up then s.waitDown else r }

theorem takenFrom_outer (up : Bool) (r : List Frame) (s : State) : Outer s (takenFrom up r s) := ⟨rfl, rfl, rfl⟩

theorem takeWaiting_first {up : Bool} {f : Frame} {r : List Frame} {s : State} (hu : s.waitUp = if up then f :: r else [])
    (hd : up = false → s.waitDown = f :: r) : takeWaiting s = some (f, takenFrom up r s) := by
  cases up with
  | true => simp only [takeWaiting, takenFrom, hu, if_true]
  | false => simp only [takeWaiting, takenFrom, hu, hd rfl, Bool.false_eq_true, if_false]

/-- A frame taken for engine e counts in its port's bandwidth and as activity, and the rotation goes on behind the engine. -/
def turned (f : Frame) (e : Nat) (s : State) : State :=
  let s := noteActivity (bwCount f.ingress f.len s)
  { s with cls := { s.cls with rot := (e + 1) % 16 } }

/-- The frame begins its search on engine e under the active epoch; where that has no valid image it is discarded. -/
def placed (f : Frame) (e : Nat) (s : State) : State :=
  if (s.image s.cls.epoch).valid then
    { s with cls := { s.cls with flights := s.cls.flights ++ [{ frame := f, epoch := s.cls.epoch, cfg := s.cls.cfg, engine := e }] } }
  else count .clsNoImage 0 s

section dispatch

variable {f : Frame} {r : List Frame} {e : Nat} {up : Bool} {s : State}

theorem execFrameDispatch_places (ha : s.cls.flights.any waitsAgain = false) (hu : s.waitUp = if up then f :: r else [])
    (hd : up = false → s.waitDown = f :: r) (he : nextEngine s.cls.rot s = some e) :
    execFrameDispatch s = placed f e (turned f e (takenFrom up r s)) := by
  simp only [execFrameDispatch, ha, takeWaiting_first hu hd, he, Bool.false_eq_true, if_false]
  rfl

theorem turned_cls : (turned f e (takenFrom up r s)).cls = { s.cls with rot := (e + 1) % 16 } := rfl

theorem turned_waitUp : (turned f e (takenFrom up r s)).waitUp = if up then r else s.waitUp := rfl

theorem turned_waitDown : (turned f e (takenFrom up r s)).waitDown = if up then s.waitDown else r := rfl

theorem turned_outer : Outer s (turned f e (takenFrom up r s)) :=
  (takenFrom_outer up r s).trans (((bwCount_steady _ _ _).outer.trans (noteActivity_steady _).outer).trans (withCls_outer _ _))

theorem image_turned (k : Nat) : (turned f e (takenFrom up r s)).image k = s.image k := by
  simp only [State.image, turned_cls]

theorem placed_valid (h : (s.image s.cls.epoch).valid = true) : placed f e s =
    { s with cls := { s.cls with flights := s.cls.flights ++ [{ frame := f, epoch := s.cls.epoch, cfg := s.cls.cfg, engine := e }] } } :=
  if_pos h

theorem placed_invalid (h : (s.image s.cls.epoch).valid = false) : placed f e s = count .clsNoImage 0 s :=
  if_neg (h ▸ Bool.false_ne_true)

end dispatch

theorem frameDispatch_gives {s : State} (h : On s) (f : Frame) (r : List Frame) (e : Nat) (up : Bool)
    (ha : s.cls.flights.any waitsAgain = false) (hu : s.waitUp = if up then f :: r else []) (hd : up = false → s.waitDown = f :: r)
    (he : nextEngine s.cls.rot s = some e) :
    ((s.image s.cls.epoch).valid = true → Completes .frameDispatch s fun t =>
      t.cls = { s.cls with rot := (e + 1) % 16, flights := s.cls.flights ++
        [{ frame := f, epoch := s.cls.epoch, cfg := s.cls.cfg, engine := e }] } ∧
      t.waitUp = (if up then r else s.waitUp) ∧ t.waitDown = (if up then s.waitDown else r)) ∧
    ((s.image s.cls.epoch).valid = false → Completes .frameDispatch s fun t =>
      t.cls = { s.cls with rot := (e + 1) % 16 } ∧ t.waitUp = (if up then r else s.waitUp) ∧
      t.waitDown = (if up then s.waitDown else r)) := by
  have hx := execFrameDispatch_places ha hu hd he
  have hcls : (turned f e (takenFrom up r s)).cls = _ := turned_cls
  have hup : (turned f e (takenFrom up r s)).waitUp = _ := turned_waitUp
  have hdown : (turned f e (takenFrom up r s)).waitDown = _ := turned_waitDown
  have hout : Outer s (turned f e (takenFrom up r s)) := turned_outer
  have himage : (turned f e (takenFrom up r s)).image (turned f e (takenFrom up r s)).cls.epoch = s.image s.cls.epoch := image_turned _
  generalize turned f e (takenFrom up r s) = u at hx hcls hup hdown hout himage
  refine ⟨fun hv => ?_, fun hv => ?_⟩
  · refine live_completes h _ (hx.trans (placed_valid (himage ▸ hv))) (hout.trans (withCls_outer _ u)) ⟨?_, hup, hdown⟩
    rw [hcls]
  · have hb := count_books .clsNoImage 0 u
    exact live_completes h _ (hx.trans (placed_invalid (himage ▸ hv))) (hout.trans hb.outer)
      ⟨hb.cls.trans hcls, hb.waitUp.trans hup, hb.waitDown.trans hdown⟩

/-! ## The verdict (R190, R193) -/

/-- A change of the first flight that passes a test asks of its function what it makes of that flight alone. -/
theorem changeFirst_of_find {t : Flight → Bool} {g g' : Flight → Option Flight} {x : Flight} {l : List Flight} (h : l.find? t = some x)
    (hg : g x = g' x) : changeFirst t g l = changeFirst t g' l := by
  induction l with
  | nil => rfl
  | cons y l ih =>
    by_cases hy : t y = true
    · obtain rfl : y = x := by simpa [List.find?_cons_of_pos hy] using h
      simp only [changeFirst, hy, if_true, hg]
    · have hl : l.find? t = some x := by rwa [List.find?_cons_of_neg hy] at h
      simp only [changeFirst, hy, ih hl, Bool.false_eq_true, if_false]

section verdict

variable {f : Flight} {p : Classed} {k : Nat} {r : Bytes} {s : State} (hr : p.reason = none) (hi : p.parse.incomplete = false)
  (hk : p.rule = some (k, r))

include hr hi hk

theorem endPass_done (h2 : u8 r 0 ≠ 2) (h4 : u8 r 0 ≠ 4) :
    endPass f p s = (.done (decisionOf p f.frame.ingress k r s.clk.tick), s) := by
  simp only [endPass, hr, hi, hk, h2, h4, Bool.false_eq_true, if_false]

theorem endPass_drop (h2 : u8 r 0 = 2) : endPass f p s = (.drop, count .clsRuleDrop 0 s) := by
  simp only [endPass, hr, hi, hk, h2, Bool.false_eq_true, if_false, if_true]

theorem endPass_again {o : Nat} (h4 : u8 r 0 = 4) (hp : f.pass ≠ 2) (ho : stripAt p.parse (u8 r 13) = some o) :
    endPass f p s = (.again (f.start + o) (bit (u8 r 1) 4), count .clsRecirculated 0 s) := by
  have h2 : ¬ (4 : Nat) = 2 := by decide
  simp only [endPass, hr, hi, hk, h4, h2, hp, ho, Bool.false_eq_true, if_false, if_true]

end verdict

/-- The flights of a state changed at the first whose search is under way. -/
def verdictGiven (g : Flight → Option Flight) (s : State) : State :=
  { s with cls := { s.cls with flights := changeFirst searching g s.cls.flights } }

theorem verdictGiven_congr {g g' : Flight → Option Flight} {f : Flight} {s : State} (h : s.cls.flights.find? searching = some f)
    (hg : g f = g' f) : verdictGiven g s = verdictGiven g' s := by
  rw [verdictGiven, verdictGiven, changeFirst_of_find h hg]

/-- A verdict that counts one frame, whose flight has changed. -/
theorem counted_verdict (c : Ctr) (g : Flight → Option Flight) (s : State) :
    Books (verdictGiven g s) (verdictGiven g (count c 0 s)) := by
  have hb := count_books c 0 s
  rw [verdictGiven, verdictGiven, hb.cls]
  exact (congrArg (fun x : State => { x with cls := { s.cls with flights := changeFirst searching g s.cls.flights } }) hb.eq :)

theorem frameVerdict_ends {s : State} (h : On s) (f : Flight) (p : Classed) (k : Nat) (r : Bytes) (hf : s.cls.flights.find? searching = some f)
    (hp : p = classFlight f s) (hr : p.reason = none) (hi : p.parse.incomplete = false) (hk : p.rule = some (k, r)) :
    (u8 r 0 ≠ 2 → u8 r 0 ≠ 4 → exec .frameVerdict s =
      .next (verdictGiven (fun f => some { f with stage := .done (decisionOf p f.frame.ingress k r s.clk.tick) }) s)) ∧
    (u8 r 0 = 2 → Completes .frameVerdict s fun t =>
      t.cls = { s.cls with flights := changeFirst searching (fun _ => none) s.cls.flights } ∧ Books { s with cls := t.cls } t) ∧
    (∀ o, u8 r 0 = 4 → f.pass ≠ 2 → stripAt p.parse (u8 r 13) = some o → bit (u8 r 1) 4 = false →
      Completes .frameVerdict s fun t =>
        t.cls = { s.cls with flights := changeFirst searching (fun f => some { f with stage := .again (f.start + o) }) s.cls.flights } ∧
        Books { s with cls := t.cls } t) := by
  subst hp
  refine ⟨fun h2 h4 => ?_, fun h2 => ?_, fun o h4 h1 ho hd => ?_⟩
  · have he := endPass_done (f := f) (s := s) hr hi hk h2 h4
    have hx : execFrameVerdict s = verdictGiven (fun g => some { g with
        stage := .done (decisionOf (classFlight f s) g.frame.ingress k r s.clk.tick) }) s := by
      simp only [execFrameVerdict, hf, he]
      exact verdictGiven_congr hf rfl
    exact congrArg Host.Outcome.next (live_eq h hx (withCls_outer _ s))
  · have he := endPass_drop (f := f) (s := s) hr hi hk h2
    have hx : execFrameVerdict s = verdictGiven (fun _ => none) (count .clsRuleDrop 0 s) := by
      simp only [execFrameVerdict, hf, he]
      rfl
    have hb := counted_verdict .clsRuleDrop (fun _ => none) s
    exact live_completes h _ hx ((withCls_outer _ s).trans hb.outer) hb.with_cls
  · have he := endPass_again (f := f) (s := s) hr hi hk h4 h1 ho
    have hx : execFrameVerdict s =
        verdictGiven (fun g => some { g with stage := .again (g.start + o) }) (count .clsRecirculated 0 s) := by
      simp only [execFrameVerdict, hf, he, hd, Bool.false_eq_true, if_false]
      exact verdictGiven_congr ((count_books .clsRecirculated 0 s).cls ▸ hf) rfl
    have hb := counted_verdict .clsRecirculated (fun g => some { g with stage := .again (g.start + o) }) s
    exact live_completes h _ hx ((withCls_outer _ s).trans hb.outer) hb.with_cls

/-! ## The second dispatch (R183, R193) -/

theorem recirculateDispatch_places {s : State} (h : On s) (f : Flight) (o e : Nat) (hf : s.cls.flights.find? waitsAgain = some f)
    (ho : f.stage = .again o) (he : nextEngine s.cls.rot s = some e) :
    ((s.image f.epoch).valid = true → exec .recirculateDispatch s = .next { s with cls := { s.cls with
      rot := (e + 1) % 16,
      flights := changeFirst waitsAgain (fun _ => none) s.cls.flights ++
        [{ f with pass := 2, start := o, cfg := s.cls.cfg, engine := e, stage := .search }] } }) ∧
    ((s.image f.epoch).valid = false → Completes .recirculateDispatch s fun t => t.cls = { s.cls with
      rot := (e + 1) % 16, flights := changeFirst waitsAgain (fun _ => none) s.cls.flights } ∧ Books { s with cls := t.cls } t) := by
  have hx : execRecirculateDispatch s = if (s.image f.epoch).valid then { s with cls := { s.cls with
        rot := (e + 1) % 16,
        flights := changeFirst waitsAgain (fun _ => none) s.cls.flights ++
          [{ f with pass := 2, start := o, cfg := s.cls.cfg, engine := e, stage := .search }] } }
      else count .clsNoImage 0 { s with cls := { s.cls with
        rot := (e + 1) % 16, flights := changeFirst waitsAgain (fun _ => none) s.cls.flights } } := by
    simp only [execRecirculateDispatch, hf, he, ho]
    rfl
  refine ⟨fun hv => congrArg Host.Outcome.next (live_eq h (hx.trans (if_pos hv)) (withCls_outer _ s)), fun hv => ?_⟩
  have hb := count_books .clsNoImage 0 { s with cls := { s.cls with
    rot := (e + 1) % 16, flights := changeFirst waitsAgain (fun _ => none) s.cls.flights } }
  exact live_completes h _ (hx.trans (if_neg (hv ▸ Bool.false_ne_true))) ((withCls_outer _ s).trans hb.outer) hb.with_cls

/-! ## Release (R183, R190–R192; 08 R209) -/

theorem admitFrame_outer (q colour : Nat) (f : Frame) (s : State) : Outer s (admitFrame q colour f s).2 := by
  have hrefused {u : State} (h : Books s u) : Books s (if 12296 ≤ q then count .clsExceptionRefused 0 u else u) := by
    split
    · exact h.trans (count_books _ _ _)
    · exact h
  unfold admitFrame
  dsimp only
  split
  · exact (hrefused (addCounter_books _ _ s)).outer
  · split
    · exact (hrefused (count_books _ _ s)).outer
    · exact pushFrame_outer q f s

/-- A context that is valid, neither polices nor counts lets a frame pass with its colour. -/
theorem underFlow_plain {flow : Nat} {s : State} (h : u16 (flowBytes flow s) 2 % 8 = 1) (n pre : Nat) (police : Bool) :
    underFlow flow n pre police s = (some pre, s) := by
  have hbit (k : Nat) (hk : k < 3) : bit (u16 (flowBytes flow s) 2) k = Nat.testBit 1 k := by
    rw [← h, show (8 : Nat) = 2 ^ 3 from rfl, Nat.testBit_mod_two_pow, decide_eq_true hk, Bool.true_and, bit]
  have h0 : bit (u16 (flowBytes flow s) 2) 0 = true := hbit 0 (by decide)
  have h1 : bit (u16 (flowBytes flow s) 2) 1 = false := hbit 1 (by decide)
  have h2 : bit (u16 (flowBytes flow s) 2) 2 = false := hbit 2 (by decide)
  simp only [underFlow, h0, h1, h2, Bool.not_true, Bool.false_and, Bool.false_eq_true, if_false]

/-- A decision to forward without lookup, learning or copy stands as it is. -/
theorem resolve_plain {f : Flight} {d : Decision} {s : State} (hv : d.verdict < 3) (hk : d.key = none) (hl : d.learn = none)
    (hc : d.copy = false) :
    resolve f d s = (some { queue := d.queue, flow := d.flow, cls := d.cls, colour := d.colour, cause := 0 }, s) := by
  have h3 : ¬ d.verdict = 3 := by omega
  have h5 : ¬ d.verdict = 5 := by omega
  simp only [resolve, sideEffects, h3, h5, hk, hl, hc, Bool.false_eq_true, if_false]

/-- A frame that is not from a channel pair goes to its queue under a context that lets it pass, with the context's Port-ID. -/
theorem carryOut_plain {f : Flight} {d : Decision} {s : State} (hv : d.verdict < 3) (hk : d.key = none) (hl : d.learn = none)
    (hc : d.copy = false) (hi : 4 ≤ f.frame.ingress) (hq : d.queue < 12288) (hf : u16 (flowBytes d.flow s) 2 % 8 = 1) : carryOut f d s =
      (admitFrame d.queue d.colour { f.frame with port := u16 (flowBytes d.flow s) 0, cls := d.cls, flow := d.flow } s).2 := by
  have hvalid : ¬ ((f.frame.ingress < 4 ∧ d.queue < 8192) ∨ (12288 ≤ d.queue ∧ d.queue < 12296)) := by omega
  have hhost : ¬ 12296 ≤ d.queue := by omega
  simp only [carryOut, resolve_plain hv hk hl hc, forward, hvalid, hhost, underFlow_plain hf, if_false]

theorem reorderRelease_forwards {s : State} (h : On s) (port : Fin 48) (f : Flight) (d : Decision) (u : State)
    (hn : nextRelease port s.cls.flights [] = some (f, d))
    (hu : u = { s with cls := { s.cls with flights := changeFirst (fun x => decide (x = f)) (fun _ => none) s.cls.flights } })
    (hv : d.verdict < 3) (hk : d.key = none) (hl : d.learn = none) (hc : d.copy = false) (hi : 4 ≤ f.frame.ingress) (hq : d.queue < 12288)
    (hf : u16 (flowBytes d.flow s) 2 % 8 = 1) : exec (.reorderRelease port) s = .next
      (admitFrame d.queue d.colour { f.frame with port := u16 (flowBytes d.flow s) 0, cls := d.cls, flow := d.flow } u).2 := by
  have hout : Outer s u := hu ▸ withCls_outer _ s
  have hflow : flowBytes d.flow u = flowBytes d.flow s := by rw [hu]; rfl
  have hx : execReorderRelease port s = carryOut f d u := by
    simp only [execReorderRelease, hn]
    rw [hu]
  have hcarry := carryOut_plain (s := u) hv hk hl hc hi hq (by rw [hflow]; exact hf)
  rw [hflow] at hcarry
  exact congrArg Host.Outcome.next (live_eq h (hx.trans hcarry) (hout.trans (admitFrame_outer _ _ _ u)))

/-! ## The first fault of an engine (R184) -/

/-- Without an isolated block no region is lost: each has a block. -/
theorem regionLost_plain {s : State} (h : Plain s) {r : Nat} (hr : r < 6) : regionLost r s = false := by
  obtain ⟨b, hb, hbr⟩ : ∃ b, b < 50 ∧ blockRegion b = r := by revert r; decide
  have hall : (List.range 50).all (fun b => decide (blockRegion b ≠ r) || s.dev.isolated.getLsbD b) = false :=
    List.all_eq_false.2 ⟨b, List.mem_range.2 hb, by simp [hbr, h.blocks]⟩
  rw [regionLost, hall, Bool.and_false]

/-- A fault that isolates no block goes no further, and without a pair it calls for no switchover. -/
theorem escalate_plain {f : State → State} {s : State} (h : Plain (f s)) : escalate f s = f s := by
  have hregions : (List.range 6).foldl (fun s r => if regionLost r s then regionFails r 1 s else s) (f s) = f s := by
    refine List.foldlRecOn (motive := fun t => t = f s) _ _ rfl fun t ht r hr => ?_
    subst ht
    exact if_neg (regionLost_plain h (List.mem_range.1 hr) ▸ Bool.false_ne_true)
  have hidle : triggerSwitch 3 0 (f s) = f s := by simp [triggerSwitch, pairActive, h.pair]
  rw [escalate, hregions, checkHealth, hidle, ite_self]

/-- An engine's first fault is noted, and its search begins again on the next engine. -/
def faultNoted (e n : Nat) (s : State) : Cls :=
  { s.cls with
    faulted := s.cls.faulted ||| BitVec.ofNat 16 (2 ^ e)
    flights := s.cls.flights.map (fun f => if f.engine = e && searching f then { f with engine := n } else f) }

theorem execParserEngineFault_first {s : State} {e n : Nat} (hok : s.cls.enginesOk.getLsbD e = true) (hf : s.cls.faulted.getLsbD e = false)
    (hn : nextEngine (e + 1) s = some n) : Books { s with cls := faultNoted e n s } (execParserEngineFault e s) := by
  have hb := pushError_books .cellRetry 8 1 (0xFF000000 + e)
    { s with cls := { s.cls with faulted := s.cls.faulted ||| BitVec.ofNat 16 (2 ^ e) } }
  have hn' : nextEngine (e + 1) (pushError .cellRetry 8 1 (0xFF000000 + e)
      { s with cls := { s.cls with faulted := s.cls.faulted ||| BitVec.ofNat 16 (2 ^ e) } }) = some n := by
    rw [nextEngine, hb.cls]
    exact hn
  simp only [execParserEngineFault, hok, hf, hn', Bool.false_eq_true, if_true, if_false]
  rw [hb.cls]
  exact (congrArg (fun x : State => { x with cls := faultNoted e n s }) hb.eq :)

theorem parserEngineFault_moves {s : State} (h : On s) (e : Fin 16) (n : Nat) (hp : Plain s) (hok : s.cls.enginesOk.getLsbD e = true)
    (hf : s.cls.faulted.getLsbD e = false) (hn : nextEngine (e + 1) s = some n) : Completes (.parserEngineFault e) s fun t =>
      t.cls = faultNoted e n s ∧ Books { s with cls := t.cls } t := by
  have hb := execParserEngineFault_first hok hf hn
  have hplain : Plain (execParserEngineFault e s) :=
    ⟨(congrArg Pair.enable hb.pair).trans hp.pair, (congrArg Dev.isolated hb.dev).trans hp.blocks⟩
  exact live_completes h _ (escalate_plain hplain) ((withCls_outer _ s).trans hb.outer) hb.with_cls

/-- Settles O25: each row has its own rule above. -/
theorem pipelineRowsTakeEffect : Obligations.PipelineRowsTakeEffect := by
  unfold Obligations.PipelineRowsTakeEffect
  exact fun s h => ⟨frameDispatch_gives h, frameVerdict_ends h, recirculateDispatch_places h, reorderRelease_forwards h,
    parserEngineFault_moves h⟩

end Sys2Proof.Machine
end

section
/-!
PROOFS. The step of an empty queue.
-/

namespace Sys2Proof.Machine

/-- Settles O2: it is the model's rule for a step on an empty queue, with the core clock's period of 800 ps. -/
theorem emptyQueueIdles : Obligations.EmptyQueueIdles := by
  unfold Obligations.EmptyQueueIdles
  exact step_nil

end Sys2Proof.Machine
end

section
/-!
PROOFS. The scheduler's commands (08 R208, R214, R217, R221–R223), and the start of a gate list (R217).
-/

namespace Sys2Proof.Machine

/-! ## QUEUE_CONFIG, QUEUE_QUERY, the shapers and POLICER_PROFILE (R208, R214, R221, R222) -/

theorem queueConfig_sets {q : CmdReq} {c : Cmd} {s : State} (h : Runs 0x0500 q c s) :
    Completes (.queueConfig q) s fun t => Answers c .ok 0 [] s t ∧
      Books (s.setQueue (u16 q.body 0) { s.queue (u16 q.body 0) with
        priority := u8 q.body 2, weight := u8 q.body 3, maxBytes := u32 q.body 12, yellow := u32 q.body 16, red := u32 q.body 20,
        nextShapers := some (qShapersOf q.body) }) t := by
  obtain rfl := h.isReq
  exact Runs.completes (sp := specQueueConfig) (eff := effQueueConfig) h rfl rfl rfl rfl rfl rfl rfl rfl

theorem queueQuery_answers {q : CmdReq} {c : Cmd} {s : State} (h : Runs 0x0501 q c s) :
    Completes (.queueQuery q) s fun t =>
      Answers c .ok 0 (queueBlock (u16 q.body 0) (s.queue (u16 q.body 0)) ++ le 4 (s.queue (u16 q.body 0)).bytes ++
        le 4 (s.queue (u16 q.body 0)).frames.length) s t ∧ Books s t := by
  obtain rfl := h.isReq
  exact Runs.completes (sp := specQueueQuery) (eff := effQueueQuery) h rfl rfl rfl rfl rfl rfl rfl (markStarted_books c s)

theorem shaperConfig_waits {q : CmdReq} {c : Cmd} {s : State} (h : Runs 0x0502 q c s) :
    Completes (.shaperConfig q) s fun t => GoesOn c t ∧
      Books (s.setShaper (u16 q.body 0) { s.shaper (u16 q.body 0) with next := (s.shaper (u16 q.body 0)).next ++
        [(if q.atTick || c.due.isSome then s.clk.t0Ps else s.clk.nowPs,
          { mode := u8 q.body 2, rate := u32 q.body 4, burst := u32 q.body 8 })] }) t := by
  obtain rfl := h.isReq
  exact h.goesOn (sp := specShaperConfig) (eff := effShaperConfig) rfl rfl ⟨(congrArg CmdState.executing h.marked :), rfl⟩

/-- Tick and ns of a shaper's wheel slot, zero off the wheel (R221). -/
def slotBytes (slot : Option Nat) (s : State) : Bytes :=
  match slot with
  | some ps => le 4 (tickOf ps s).1.toNat ++ le 4 (tickOf ps s).2
  | none => zeros 8

/-- What SHAPER_QUERY answers of shaper n (R221). -/
def shaperBlock (n : Nat) (x : Shaper) (s : State) : Bytes :=
  le 2 n ++ le 1 x.cfg.mode ++ zeros 1 ++ le 4 x.cfg.rate ++ le 4 x.cfg.burst ++
    le 4 (unsigned 32 (x.creditAt s.clk.nowPs / creditUnit)) ++ le 1 (shaperState n s) ++ zeros 3 ++ slotBytes x.wheel s

theorem effShaperQuery_ok (c : Cmd) (s : State) :
    effShaperQuery c s = .ok (shaperBlock (u16 c.req.body 0) (s.shaper (u16 c.req.body 0)) s) s := by
  have hzero : zeros 8 = le 4 (0 : Word).toNat ++ le 4 0 := by decide
  unfold effShaperQuery shaperBlock slotBytes
  dsimp only
  rw [List.append_assoc _ (le 4 _) (le 4 _)]
  cases (s.shaper (u16 c.req.body 0)).wheel with
  | none =>
    dsimp only
    rw [hzero]
    rfl
  | some ps => rfl

theorem shaperQuery_answers {q : CmdReq} {c : Cmd} {s : State} (n : Nat) (x : Shaper) (h : Runs 0x0503 q c s) (hn : n = u16 q.body 0)
    (hx : x = s.shaper n) : Completes (.shaperQuery q) s fun t => Answers c .ok 0 (shaperBlock n x s) s t ∧ Books s t := by
  obtain rfl := h.isReq
  subst hn hx
  exact Runs.completes (sp := specShaperQuery) (eff := effShaperQuery) h rfl (effShaperQuery_ok c (markStarted c s)) rfl rfl rfl rfl rfl
    (markStarted_books c s)

theorem policerProfile_stores {q : CmdReq} {c : Cmd} {s : State} (h : Runs 0x0504 q c s) :
    Completes (.policerProfile q) s fun t => Answers c .ok 0 [] s t ∧
      Books { s with policers := SMap.set {} s.policers (u16 q.body 0) { aware := bit (u8 q.body 2) 0, cir := u32 q.body 4,
                                                                                  pir := u32 q.body 8, cbs := u32 q.body 12,
                                                                                  pbs := u32 q.body 16 } } t := by
  obtain rfl := h.isReq
  exact Runs.completes (sp := specPolicerProfile) (eff := effPolicerProfile) h rfl rfl rfl rfl rfl rfl rfl rfl

/-! ## The start of a gate list (R217) -/

/-- The gates of a port on which a list has become the operating one: no list pends. -/
def operating (g : GateList) : Gate := { oper := if g.entries.isEmpty then none else some g }

/-- What GATE_LIST answers of a start: the value of the timebase and the tick (R217). -/
def startReply (v : Nat) (tick : Word) : Bytes := le 8 (v / secUnits) ++ le 4 (v / nsUnits % 1000000000) ++ le 4 tick.toNat

theorem startGates_completes {p : Nat} {g : GateList} {c : Cmd} {s : State} (hg : (s.gate p).pending = some g) (h : Begun 0x0505 c s)
    (hp : u8 c.req.body 0 = p) :
    startGates p s = complete c .ok 0 (startReply (s.gate p).startAt s.clk.tick) (s.setGate p (operating g)) := by
  have hfind : s.cmd.executing.find? (fun c => decide (c.op = 0x0505) && c.started && decide (u8 c.req.body 0 = p)) = some c := by
    simp [h.alone, h.isOp, h.started, hp]
  simp only [startGates, hg, State.setGate_cmd, hfind]
  rfl

/-- The list that pends becomes the operating one, and the command that waits for it answers. -/
theorem startGates_answers {p : Nat} {g : GateList} {c : Cmd} {s : State} (hg : (s.gate p).pending = some g) (h : Begun 0x0505 c s)
    (hp : u8 c.req.body 0 = p) : Answers c .ok 0 (startReply (s.gate p).startAt s.clk.tick) s (startGates p s) ∧
      Books (s.setGate p (operating g)) (startGates p s) := by
  rw [startGates_completes hg h hp]
  exact h.complete .ok 0 _ rfl rfl

/-! ## GATE_LIST (R217, R223) -/

/-- A dispatched command that runs alone has begun once it is marked. -/
theorem Runs.begun {op : Nat} {q : CmdReq} {c : Cmd} {s : State} (h : Runs op q c s) :
    Begun op { c with started := true } (markStarted c s) where
  on := ⟨h.on.powered, h.on.released⟩
  alone := (congrArg CmdState.executing h.marked :)
  isOp := h.isOp
  started := rfl
  ontime := h.ontime
  whole := h.whole
  heard := h.heard
  ring := by rw [h.isReq]; exact h.ring

/-- A command has begun in any state with the same commands and outer state. -/
theorem Begun.of_cmd {op : Nat} {c : Cmd} {s t : State} (h : Begun op c s) (ho : Outer s t) (hc : t.cmd = s.cmd) : Begun op c t where
  on := ⟨ho.powered.trans h.on.powered, (congrArg Boot.inReset ho.boot).trans h.on.released⟩
  alone := (congrArg CmdState.executing hc).trans h.alone
  isOp := h.isOp
  started := h.started
  ontime := h.ontime
  whole := h.whole
  heard := h.heard
  ring := h.ring

theorem setGate_outer (p : Nat) (v : Gate) (s : State) : Outer s (s.setGate p v) := ⟨rfl, rfl, rfl⟩

/-- A list that pends on a port until its start; the operating one goes on. -/
def listPends (p v : Nat) (g : GateList) (s : State) : State := s.setGate p { s.gate p with pending := some g, startAt := v }

theorem effGateList_pends {c : Cmd} {s : State} {g : GateList} {v : Nat} (hp : (s.gate (u8 c.req.body 0)).pending = none)
    (hg : g = gateListOf c.req.body) (hv : v = gateStart g (tbNow g.timebase s)) : effGateList c s =
      if v = tbNow g.timebase s then .later (startGates (u8 c.req.body 0) (listPends (u8 c.req.body 0) v g s))
      else .later (listPends (u8 c.req.body 0) v g s) := by
  subst hg hv
  have hfree : ¬ (s.gate (u8 c.req.body 0)).pending.isSome = true := by simp [hp]
  exact if_neg hfree

/-- Where beside the books gates are said to have changed, they have changed into what the state holds. -/
theorem Books.with_gates {s t : State} {x : SMap Gate} (h : Books { s with gates := x } t) : t.gates = x ∧ Books { s with gates := t.gates } t := by
  obtain rfl : t.gates = x := h.gates
  exact ⟨rfl, h⟩

/-- A port's gates are read off the gates alone. -/
theorem gate_of_gates {s t : State} (h : t.gates = s.gates) (p : Nat) : t.gate p = s.gate p := by
  simp only [State.gate, h]

theorem gateList_waits {q : CmdReq} {c : Cmd} {s : State} {g : GateList} {v : Nat} (h : Runs 0x0505 q c s) (hg : g = gateListOf q.body)
    (hv : v = gateStart g (tbNow g.timebase s)) (hp : (s.gate (u8 q.body 0)).pending = none) (hlate : v ≠ tbNow g.timebase s) :
    Completes (.gateList q) s fun t => GoesOn c t ∧
      Books (s.setGate (u8 q.body 0) { s.gate (u8 q.body 0) with pending := some g, startAt := v }) t := by
  obtain rfl := h.isReq
  exact h.goesOn (sp := specGateList) (eff := effGateList) rfl ((effGateList_pends (s := markStarted c s) hp hg hv).trans (if_neg hlate))
    ⟨(congrArg CmdState.executing h.marked :), rfl⟩

theorem gateList_starts {q : CmdReq} {c : Cmd} {s : State} {g : GateList} {v : Nat} (h : Runs 0x0505 q c s) (hg : g = gateListOf q.body)
    (hv : v = gateStart g (tbNow g.timebase s)) (hp : (s.gate (u8 q.body 0)).pending = none) (hnow : v = tbNow g.timebase s) :
    Completes (.gateList q) s fun t => Answers c .ok 0 (startReply v s.clk.tick) s t ∧ t.gate (u8 q.body 0) = operating g ∧
      (∀ k, k ≠ u8 q.body 0 → t.gate k = s.gate k) ∧ Books { s with gates := t.gates } t := by
  obtain rfl := h.isReq
  have heff := (effGateList_pends (s := markStarted c s) hp hg hv).trans (if_pos hnow)
  obtain ⟨u, hu⟩ : ∃ u, u = listPends (u8 c.req.body 0) v g (markStarted c s) := ⟨_, rfl⟩
  rw [← hu] at heff
  have hout : Outer s u := hu ▸ ⟨rfl, rfl, rfl⟩
  have hpends : u.gate (u8 c.req.body 0) = { s.gate (u8 c.req.body 0) with pending := some g, startAt := v } :=
    hu ▸ gate_setGate_same _ _ _
  have hothers (k : Nat) (hk : k ≠ u8 c.req.body 0) : u.gate k = s.gate k := hu ▸ gate_setGate_other (markStarted c s) hk _
  have hbegun : Begun 0x0505 { c with started := true } u := hu ▸ h.begun.of_cmd (setGate_outer _ _ _) rfl
  obtain ⟨hans, hbooks⟩ := startGates_answers (congrArg Gate.pending hpends) hbegun rfl
  have hgates : Books { s with gates := (u.setGate (u8 c.req.body 0) (operating g)).gates } (startGates (u8 c.req.body 0) u) :=
    Books.trans (by rw [hu]; rfl) hbooks
  refine h.goesOn (sp := specGateList) rfl heff ?_
  rw [(hout.trans ((setGate_outer _ _ u).trans hbooks.outer)).keep]
  refine ⟨?_, ?_, fun k hk => ?_, hgates.with_gates.2⟩
  · rw [hpends] at hans
    subst hu
    exact ⟨hans.ended, hans.reply⟩
  · exact (gate_of_gates hbooks.gates _).trans (gate_setGate_same u _ _)
  · exact (gate_of_gates hbooks.gates k).trans ((gate_setGate_other u hk _).trans (hothers k hk))

/-- Settles O26: each command, and each way that a gate list begins, has its own rule above. -/
theorem schedulerCommandsAnswer : Obligations.SchedulerCommandsAnswer := by
  unfold Obligations.SchedulerCommandsAnswer
  refine fun q c s => ⟨queueConfig_sets, queueQuery_answers, shaperConfig_waits, shaperQuery_answers, policerProfile_stores, ?_⟩
  rintro p v now g h rfl hg rfl hv hp
  exact ⟨gateList_waits h hg hv hp, gateList_starts h hg hv hp⟩

end Sys2Proof.Machine
end

section
/-!
PROOFS. The scheduler's rows: the egress pick, the timing wheel, the refill and the instants of gate lists (08 R210–R218).
-/

namespace Sys2Proof.Machine

/-! ## What the pick and the dequeue leave (R211) -/

/-- From s to t the scheduler has changed queues, its turns, shapers, and the costs that a worker has yet to report; all else is as before. -/
def Scheduled (s t : State) : Prop := ∃ qs rr sh ch,
  t = { s with queues := qs, rrLast := rr, shapers := sh, role := { s.role with changed := ch } }

theorem Scheduled.refl (s : State) : Scheduled s s := ⟨_, _, _, _, rfl⟩

theorem Scheduled.trans {s t u : State} : Scheduled s t → Scheduled t u → Scheduled s u := by
  rintro ⟨_, _, _, _, rfl⟩ ⟨_, _, _, _, rfl⟩
  exact ⟨_, _, _, _, rfl⟩

theorem foldl_scheduled {α : Type} {f : State → α → State} (hf : ∀ s a, Scheduled s (f s a)) (l : List α) :
    ∀ s, Scheduled s (l.foldl f s) := by
  induction l with
  | nil => exact Scheduled.refl
  | cons a l ih => exact fun s => (hf s a).trans (ih _)

theorem setQueue_scheduled (q : Nat) (v : Queue) (s : State) : Scheduled s (s.setQueue q v) := ⟨_, _, _, _, rfl⟩

theorem setShaper_scheduled (n : Nat) (v : Shaper) (s : State) : Scheduled s (s.setShaper n v) := ⟨_, _, _, _, rfl⟩

theorem noteWaiting_scheduled (q : Nat) (s : State) : Scheduled s (noteWaiting q s) := by
  unfold noteWaiting
  split
  · exact ⟨_, _, _, _, rfl⟩
  · exact .refl s

theorem dequeue_scheduled (q : Nat) (s : State) : Scheduled s (dequeue q s).2 := by
  unfold dequeue
  split
  · exact .refl s
  · have hmark (s : State) (n : Nat) :
        Scheduled s (if shaperIdle n s then s.setShaper n { s.shaper n with emptied := clockNo s } else s) := by
      split
      · exact setShaper_scheduled _ _ s
      · exact .refl s
    exact ((setQueue_scheduled _ _ s).trans (noteWaiting_scheduled _ _)).trans
      ((foldl_scheduled (fun s n => setShaper_scheduled n _ s) _ _).trans (foldl_scheduled hmark _ _))

theorem drrRound_scheduled (qs : List Nat) : ∀ s, Scheduled s (drrRound qs s).2 := by
  induction qs with
  | nil => exact Scheduled.refl
  | cons q qs ih =>
    intro s
    unfold drrRound
    dsimp only
    split
    · exact setQueue_scheduled _ _ s
    · exact (setQueue_scheduled _ _ s).trans (ih _)

theorem drrRounds_scheduled (qs : List Nat) (n : Nat) : ∀ s, Scheduled s (drrRounds qs n s).2 := by
  induction n with
  | zero => exact Scheduled.refl
  | succ n ih =>
    intro s
    have hround := drrRound_scheduled qs s
    unfold drrRounds
    split
    · next heq => rw [heq] at hround; exact hround
    · next heq => rw [heq] at hround; exact hround.trans (ih _)

theorem pick_scheduled (k : Nat) (qs : List Nat) (s : State) : Scheduled s (pick k qs s).2 := by
  unfold pick
  split
  · exact .refl s
  · extract_lets level key last goesOn order
    split
    · exact .refl s
    · have hrounds := drrRounds_scheduled order 256 s
      split
      · next heq => rw [heq] at hrounds; exact hrounds.trans ⟨_, _, _, _, rfl⟩
      · next heq => rw [heq] at hrounds; exact hrounds

/-- From s to t all that sending a frame asks of the state is as before: the clock, the lanes, the pair, quiesce and the links. -/
structure SameLines (s t : State) : Prop where
  outer : Outer s t
  clk : t.clk = s.clk
  lane : ∀ p, t.lane p = s.lane p
  standby : pairStandby t = pairStandby s
  quiet : quiesceNow t = quiesceNow s
  version : ∀ p, laneVersion p t = laneVersion p s
  protection : ∀ p, linkProtected p t = linkProtected p s

theorem Scheduled.lines {s t : State} : Scheduled s t → SameLines s t := by
  rintro ⟨_, _, _, _, rfl⟩
  exact ⟨⟨rfl, rfl, rfl⟩, rfl, fun _ => rfl, rfl, rfl, fun _ => rfl, fun _ => rfl⟩

theorem SameLines.framePs {s t : State} (h : SameLines s t) (p n : Nat) (b : Bool) : framePs p n b t = framePs p n b s := by
  simp only [Machine.framePs, h.lane]

/-! ## EGRESS_PICK: the frame that is sent (R210–R212) -/

/-- A port that can transmit is not in quiesce (20 R443). -/
theorem quiesceNow_of_portUp {p : Nat} {s : State} (h : portUp p s = true) : quiesceNow s = false := by
  cases hq : quiesceNow s with
  | false => rfl
  | true => simp [portUp, hq] at h

theorem advanceTo_past {ps : Nat} {s : State} (h : ps ≤ s.clk.nowPs) : advanceTo ps s = s := by
  rw [advanceTo_eq, max_eq_left h]

theorem macSettle_idle {h : Nat} {s : State} (hm : (s.mac h).sending = none) : macSettle h s = s := by
  simp only [macSettle, hm]

/-- Where no head frame is too long for its gate, none is discarded (R219). -/
theorem dropOversize_none {p fill : Nat} {s : State} (h : (portBusy p s).find? (fun q => headTooLong p q fill s) = none) (n : Nat) :
    dropOversize p fill n s = s := by
  cases n with
  | zero => rfl
  | succ n => simp only [dropOversize, h]

/-- Without a waiting PTP_TX the queues have their turn (12 R315). -/
theorem sendPtp_none {p : Nat} {s : State} (h : 32 ≤ p → p < 36 → (s.ptpOf (p - 32)).waiting = []) (fill : Nat) : sendPtp p fill s = none := by
  unfold sendPtp
  split
  · rfl
  · next hp => simp only [h (by omega) (by omega)]

section sends

variable {p : Nat} {fill q : Nat} {f : Frame} {s u v : State} (hup : portUp p s = true) (htest : schedTested s = false)
  (hfree : portFree p s ≤ s.clk.nowPs) (hhalt : pairHalts s = false)
  (hhost : 32 ≤ p → p < 36 → (s.mac (p - 32)).sending = none ∧ (s.ptpOf (p - 32)).waiting = [])
  (hlong : (portBusy p s).find? (fun q => headTooLong p q fill s) = none)
  (hpick : pick (1024 + p) ((portBusy p s).filter (fun q => eligible q s && headFits p q fill s)) s = (some q, u))
  (hdeq : dequeue q u = (some f, v))

include hup htest hfree hhalt hhost hlong hpick hdeq

/-- A free port sends the head frame of the picked queue. -/
theorem execEgressPick_sends : execEgressPick p fill s = sendAt p q fill f v := by
  have hsettle : (if 32 ≤ p ∧ p < 36 then macSettle (p - 32) s else s) = s := by
    split
    · next hp => exact macSettle_idle (hhost hp.1 hp.2).1
    · rfl
  have hptp := sendPtp_none (fun h1 h2 => (hhost h1 h2).2) fill
  simp only [execEgressPick, hup, htest, advanceTo_past hfree, hsettle, hhalt, quiesceNow_of_portUp hup, hptp, dropOversize_none hlong,
    hpick, hdeq, Bool.not_true, Bool.or_self, Bool.false_eq_true, if_false]

end sends

/-! ## The frame on the line (R210, 09 R244, 10 R253) -/

section lines

variable {p : Nat} {s : State} (hstandby : pairStandby s = false)

include hstandby

theorem sendAt_host (h1 : 32 ≤ p) (h2 : p < 36) (q fill : Nat) (f : Frame) :
    sendAt p q fill f s = hostSend (p - 32) fill f none (noteActivity s) := by
  have hstandby' : pairStandby (noteActivity s) = false := hstandby
  have hworker : ¬ p < 32 := by omega
  simp only [sendAt, hstandby', hworker, h2, Bool.false_eq_true, if_true, if_false]

theorem sendAt_trib (h : 36 ≤ p) (q fill : Nat) (f : Frame) :
    sendAt p q fill f s = emit (.frame (40 + (p - 36)) f)
      (bwCount (bwEgress p) f.len ((noteActivity s).modTrib (p - 36) (fun x => { x with rx := x.rx ++ [f] }))) := by
  have hstandby' : pairStandby (noteActivity s) = false := hstandby
  have hworker : ¬ p < 32 := by omega
  have hhost : ¬ p < 36 := by omega
  simp only [sendAt, hstandby', hworker, hhost, Bool.false_eq_true, if_false]

/-- A frame goes out on a lane that transmits, outside of quiesce (20 R443). -/
theorem putLane_plainFrame (c : Carried) (ht : (s.lane p).transmits = true) (hq : quiesceNow s = false) :
    putLane p (plainFrame p c) s = emit (plainFrame p c) s := by
  have hcarries : laneCarries p (plainFrame p c) s = true := by simp only [laneCarries, hstandby, Bool.not_false, Bool.true_or]
  simp only [putLane, ht, hcarries, Bool.and_self, if_true]
  simp only [plainFrame, hq, Bool.false_eq_true, if_false]

/-- Without link protection a frame goes out as it is; beside it only the lane's count of protected frames is written. -/
theorem sendOnLane_plain (c : Carried) (hl : linkProtected p s = false) (ht : (s.lane p).transmits = true) (hq : quiesceNow s = false) :
    ∃ r ws, sendOnLane p c s = (true, emit (plainFrame p c) { s with role := r, workers := ws }) := by
  have hout (r : Role) (ws : SMap Worker) : putLane p (plainFrame p c) { s with role := r, workers := ws } =
      emit (plainFrame p c) { s with role := r, workers := ws } :=
    putLane_plainFrame (s := { s with role := r, workers := ws }) hstandby c ht hq
  simp only [sendOnLane, hl, frameOut, Bool.false_eq_true, if_false]
  split
  · exact ⟨_, _, congrArg (Prod.mk true) (hout _ s.workers)⟩
  · exact ⟨_, _, congrArg (Prod.mk true) (hout s.role _)⟩

/-- A worker port without link protection puts the frame out and is taken for the frame's time (10 R255). -/
theorem sendAt_worker (h : p < 32) (hl : linkProtected p s = false) (ht : (s.lane p).transmits = true) (hq : quiesceNow s = false)
    (q fill : Nat) (f : Frame) : ∃ r ws, sendAt p q fill f s = bwCount (bwEgress p) f.len (occupy p (framePs p f.len false s)
      (emit (plainFrame p { sub := if 2 ≤ laneVersion p s then f.tag else 0, data := f.data })
        { noteActivity s with role := r, workers := ws })) := by
  have hstandby' : pairStandby (noteActivity s) = false := hstandby
  have hl' : linkProtected p (noteActivity s) = false := hl
  have hhold : holdPs p f.len (noteActivity s) = framePs p f.len false s := by
    simp only [holdPs, txPs, h, hl', Bool.false_eq_true, and_false, if_true, if_false]
    rfl
  obtain ⟨r, ws, hsent⟩ := sendOnLane_plain (s := noteActivity s) hstandby'
    { sub := if 2 ≤ laneVersion p (noteActivity s) then f.tag else 0, data := f.data } hl' ht hq
  refine ⟨r, ws, ?_⟩
  simp only [sendAt, hstandby', h, hsent, hhold, Bool.false_eq_true, if_true, if_false]
  rfl

end lines

/-- Each kind of port sends the head frame of the picked queue as its line does. -/
theorem egressPick_sends {s : State} (h : On s) (p : Fin 44) (fill q : Nat) (f : Frame) (u v w : State) (hup : portUp p s = true)
    (htest : schedTested s = false) (hfree : portFree p s ≤ s.clk.nowPs) (hhalt : pairHalts s = false) (hstandby : pairStandby s = false)
    (hhost : 32 ≤ p.val → p.val < 36 → (s.mac (p.val - 32)).sending = none ∧ (s.ptpOf (p.val - 32)).waiting = [])
    (hlong : (portBusy p s).find? (fun q => headTooLong p q fill s) = none)
    (hpick : pick (1024 + p.val) ((portBusy p s).filter (fun q => eligible q s && headFits p q fill s)) s = (some q, u))
    (hdeq : dequeue q u = (some f, v)) (hw : w = noteActivity v) :
    (p.val < 32 → linkProtected p s = false → (s.lane p).transmits = true → Completes (.egressPick p fill) s fun t =>
      plainFrame p { sub := if 2 ≤ laneVersion p s then f.tag else 0, data := f.data } ∈ t.out ∧ t.queues = v.queues ∧
      t.shapers = v.shapers ∧ SMap.get 0 t.egressFree p = s.clk.nowPs + framePs p f.len false s) ∧
    (32 ≤ p.val → p.val < 36 → exec (.egressPick p fill) s = .next (keepOuter s (hostSend (p.val - 32) fill f none w))) ∧
    (36 ≤ p.val → exec (.egressPick p fill) s = .next (keepOuter s
      (emit (.frame (40 + (p.val - 36)) f)
        (bwCount (bwEgress p) f.len (w.modTrib (p.val - 36) (fun x => { x with rx := x.rx ++ [f] })))))) := by
  subst hw
  have hx := execEgressPick_sends hup htest hfree hhalt hhost hlong hpick hdeq
  have hquiet := quiesceNow_of_portUp hup
  have hv : Scheduled s v := by
    have hp := pick_scheduled (1024 + p.val) ((portBusy p s).filter (fun q => eligible q s && headFits p q fill s)) s
    have hd := dequeue_scheduled q u
    rw [hpick] at hp
    rw [hdeq] at hd
    exact hp.trans hd
  have hlines := hv.lines
  have hstandby' : pairStandby v = false := hlines.standby.trans hstandby
  refine ⟨fun hp hl ht => ?_, fun h1 h2 => ?_, fun h1 => ?_⟩
  · obtain ⟨r, ws, hsent⟩ := sendAt_worker hstandby' hp ((hlines.protection p).trans hl) (hlines.lane p ▸ ht) (hlines.quiet.trans hquiet)
      q fill f
    rw [hlines.version, hlines.framePs] at hsent
    refine live_completes h _ (hx.trans hsent) (hlines.outer.trans ⟨rfl, rfl, rfl⟩) ⟨List.mem_cons_self, rfl, rfl, ?_⟩
    rw [← hlines.clk]
    exact SMap.get_set_same _ _ _ _
  · exact congrArg Host.Outcome.next ((live_on h _).trans (congrArg (keepOuter s) (hx.trans (sendAt_host hstandby' h1 h2 q fill f))))
  · exact congrArg Host.Outcome.next ((live_on h _).trans (congrArg (keepOuter s) (hx.trans (sendAt_trib hstandby' h1 q fill f))))

/-! ## The timing wheel (R213) -/

@[simp] theorem Shaper.onWheel_cfg (ps : Nat) (sh : Shaper) : (sh.onWheel ps).cfg = sh.cfg := by
  unfold Shaper.onWheel
  split <;> rfl

@[simp] theorem Shaper.onWheel_credit (ps : Nat) (sh : Shaper) : (sh.onWheel ps).credit = sh.credit := by
  unfold Shaper.onWheel
  split <;> rfl

@[simp] theorem Shaper.onWheel_next (ps : Nat) (sh : Shaper) : (sh.onWheel ps).next = sh.next := by
  unfold Shaper.onWheel
  split <;> rfl

/-- A shaper is off the wheel where its credit is not below zero. -/
theorem Shaper.onWheel_off (ps : Nat) (sh : Shaper) : (sh.onWheel ps).wheel = none ↔ 0 ≤ sh.credit := by
  unfold Shaper.onWheel
  split <;> simp [*]

theorem shaperWheelSlot_comes {s : State} (h : On s) (n : Fin 65536) (slot : Nat) (hw : (s.shaper n).wheel = some slot) :
    Completes (.shaperWheelSlot n) s fun t =>
      t.clk = { s.clk with nowPs := max s.clk.nowPs slot } ∧ (t.shaper n).cfg = (s.shaper n).cfg ∧
      (t.shaper n).credit = (s.shaper n).creditAt (max s.clk.nowPs slot) ∧
      ((t.shaper n).wheel = none ↔ 0 ≤ (t.shaper n).credit) ∧ (∀ k, k ≠ n.val → t.shaper k = s.shaper k) := by
  have hx : execShaperWheelSlot n s = (advanceTo slot s).setShaper n
      (((s.shaper n).fold (max s.clk.nowPs slot)).onWheel (max s.clk.nowPs slot)) := by
    simp only [execShaperWheelSlot, hw]
    rfl
  refine live_completes h _ hx ⟨rfl, rfl, rfl⟩ ⟨rfl, ?_, ?_, ?_, fun k hk => shaper_setShaper_other (advanceTo slot s) hk _⟩ <;>
    rw [shaper_setShaper_same]
  · exact Shaper.onWheel_cfg _ _
  · exact Shaper.onWheel_credit _ _
  · rw [Shaper.onWheel_credit]
    exact Shaper.onWheel_off _ _

/-! ## The refill (R214) -/

/-- The settings of a shaper once those accepted before an instant have been applied: the last of them. -/
def Shaper.settled (sh : Shaper) (ps : Nat) : ShCfg := (((dueSettings sh ps).1.getLast?).map (·.2)).getD sh.cfg

/-- What is kept for a later refill is not due. -/
theorem dueSettings_kept {sh sh' : Shaper} {ps : Nat} (h : sh'.next = (dueSettings sh ps).2) : (dueSettings sh' ps).1 = [] := by
  simp only [dueSettings, List.partition_eq_filter_filter] at h ⊢
  rw [h, List.filter_filter]
  simp

theorem refillShaper_shapers (n : Nat) (s : State) : refillShaper n s = { s with shapers := (refillShaper n s).shapers } := rfl

theorem refillShaper_cfg (n : Nat) (s : State) : ((refillShaper n s).shaper n).cfg = (s.shaper n).settled (s.clk.t0Ps + 15625000) := by
  have hfold : dueSettings ((s.shaper n).fold s.clk.nowPs) = dueSettings (s.shaper n) := rfl
  simp only [refillShaper, shaper_setShaper_same, Shaper.onWheel_cfg, hfold, Shaper.settled]
  cases (dueSettings (s.shaper n) (s.clk.t0Ps + 15625000)).1.getLast? <;> rfl

/-- After a refill nothing more is due. -/
theorem refillShaper_settled (n k : Nat) (s : State) :
    ((refillShaper n s).shaper k).settled (s.clk.t0Ps + 15625000) = (s.shaper k).settled (s.clk.t0Ps + 15625000) := by
  by_cases hk : k = n
  · subst hk
    have hnext : ((refillShaper k s).shaper k).next = (dueSettings (s.shaper k) (s.clk.t0Ps + 15625000)).2 := by
      rw [refillShaper, shaper_setShaper_same, Shaper.onWheel_next]
      rfl
    rw [Shaper.settled, dueSettings_kept hnext]
    exact refillShaper_cfg k s
  · rw [refillShaper, shaper_setShaper_other _ hk]

/-- A run of refills applies to each shaper it names what is due, and to no other shaper anything. -/
theorem refills_cfg (l : List Nat) : ∀ (s : State) (n : Nat),
    (n ∈ l ∨ (s.shaper n).cfg = (s.shaper n).settled (s.clk.t0Ps + 15625000)) →
    ((l.foldl (fun s n => refillShaper n s) s).shaper n).cfg = (s.shaper n).settled (s.clk.t0Ps + 15625000) := by
  induction l with
  | nil => exact fun s n h => h.resolve_left (List.not_mem_nil)
  | cons a l ih =>
    intro s n h
    rw [List.foldl_cons, ← refillShaper_settled a n s]
    refine ih (refillShaper a s) n ?_
    by_cases hn : n = a
    · subst hn
      exact .inr ((refillShaper_cfg n s).trans (refillShaper_settled n n s).symm)
    · refine h.imp (fun hm => (List.mem_cons.1 hm).resolve_left hn) fun hc => ?_
      refine (?_ : _ = (s.shaper n).cfg).trans (hc.trans (refillShaper_settled a n s).symm)
      rw [refillShaper, shaper_setShaper_other _ hn]

/-- A key that is not listed reads as the default. -/
theorem SMap.get_unlisted {α : Type} {d : α} {k : Nat} {m : SMap α} (h : k ∉ m.map (·.1)) : SMap.get d m k = d := by
  induction m with
  | nil => rfl
  | cons e m ih =>
    obtain ⟨hne, hm⟩ := not_or.1 (mt List.mem_cons.2 h)
    exact (if_neg (Ne.symm hne)).trans (ih hm)

/-- The refill of every shaper. -/
def refillAll (s : State) : State := (s.shapers.map (·.1)).foldl (fun s n => refillShaper n s) s

theorem refillAll_cfg (s : State) (n : Nat) : ((refillAll s).shaper n).cfg = (s.shaper n).settled (s.clk.t0Ps + 15625000) := by
  refine refills_cfg _ s n ?_
  by_cases hn : n ∈ s.shapers.map (·.1)
  · exact .inl hn
  · have hs : s.shaper n = {} := SMap.get_unlisted hn
    rw [hs]
    exact .inr rfl

theorem refillAll_shapers (s : State) : refillAll s = { s with shapers := (refillAll s).shapers } :=
  foldl_shapers (fun s n => refillShaper_shapers n s) _ s

theorem shaperCommands_books (n k : Nat) (s : State) : Books s (shaperCommands n k s) :=
  foldl_books _ (fun _ _ => complete_books _ _ _ _ _) _ _

/-- A queue with the shapers that wait for the refill. -/
def Queue.reshaped (x : Queue) : Queue :=
  match x.nextShapers with
  | some y => { x with shapers := y, nextShapers := none }
  | none => x

/-- The queues after a refill. -/
def reshapedQueues (qs : SMap Queue) : SMap Queue := (qs.map (fun e => (e.1, e.2.reshaped))).filter (fun e => e.2 ≠ {})

/-- Shapers and queues after the refill of a tick; its commands have not answered yet. -/
def refilled (s : State) : State := { s with shapers := (refillAll s).shapers, queues := reshapedQueues s.queues }

theorem refilled_outer (s : State) : Outer s (refilled s) := ⟨rfl, rfl, rfl⟩

theorem execShaperRefill_books {s : State} (h : Due 5 s) : Books (refilled (worked 5 s)) (execShaperRefill s) := by
  have hrefilled : { refillAll (worked 5 s) with queues := reshapedQueues (refillAll (worked 5 s)).queues } = refilled (worked 5 s) := by
    rw [refillAll_shapers]
    rfl
  rw [execShaperRefill, h.runs, ← hrefilled]
  exact foldl_books _ (fun _ _ => shaperCommands_books _ _ _) _ _

theorem shaperRefill_applies {s : State} (h : On s) (hd : Due 5 s) : Completes .shaperRefill s fun t =>
    (∀ n, (t.shaper n).cfg = (s.shaper n).settled (s.clk.t0Ps + 15625000)) ∧ t.queues = reshapedQueues s.queues ∧ t.tbl = s.tbl := by
  have hb := execShaperRefill_books hd
  refine live_completes h _ rfl ((worked_outer 5 s).trans ((refilled_outer _).trans hb.outer)) ⟨fun n => ?_, hb.queues, hb.tbl⟩
  have hshaper : (execShaperRefill s).shaper n = (refillAll (worked 5 s)).shaper n := by
    simp only [State.shaper, hb.shapers, refilled]
  rw [hshaper]
  exact refillAll_cfg (worked 5 s) n

/-! ## The instants of gate lists (R217, R218) -/

theorem gateEntryBoundary_comes {s : State} (h : On s) (p : Fin 36) (g : GateList) (hg : (s.gate p).oper = some g) :
    exec (.gateEntryBoundary p) s = .next
      (advanceTo ((s.timebase g.timebase).instantOf s.clk.nowPs (tbNow g.timebase s + (gateNow p s).2.2)) s) := by
  refine congrArg Host.Outcome.next (live_eq h ?_ (advanceTo_outer _ s))
  simp only [execGateEntryBoundary, hg]

theorem gateListStart_starts {s : State} (h : On s) (p : Fin 36) (g : GateList) (c : Cmd) (hg : (s.gate p).pending = some g)
    (hc : Begun 0x0505 c s) (hp : u8 c.req.body 0 = p.val) : Completes (.gateListStart p) s fun t =>
      Answers c .ok 0 (startReply (s.gate p).startAt s.clk.tick) s t ∧ t.gate p = operating g ∧
      t.clk = { s.clk with nowPs := max s.clk.nowPs ((s.timebase g.timebase).instantOf s.clk.nowPs (s.gate p).startAt) } := by
  obtain ⟨u, hu⟩ : ∃ u, u = advanceTo ((s.timebase g.timebase).instantOf s.clk.nowPs (s.gate p).startAt) s := ⟨_, rfl⟩
  have hout : Outer s u := hu ▸ advanceTo_outer _ s
  have hx : execGateListStart p s = startGates p u := by
    simp only [execGateListStart, hg, hu]
  have hgate : u.gate p = s.gate p := by rw [hu]; rfl
  obtain ⟨hans, hbooks⟩ := startGates_answers (hgate ▸ hg) (hc.of_cmd hout (by rw [hu]; rfl)) hp
  refine live_completes h _ hx (hout.trans ((setGate_outer _ _ u).trans hbooks.outer))
    ⟨?_, (gate_of_gates hbooks.gates _).trans (gate_setGate_same u _ _), ?_⟩
  · rw [hgate] at hans
    subst hu
    exact ⟨hans.ended, hans.reply⟩
  · rw [hbooks.clk, hu]
    rfl

/-- Settles O27: each row has its own rule above. -/
theorem schedulerRowsTakeEffect : Obligations.SchedulerRowsTakeEffect := by
  unfold Obligations.SchedulerRowsTakeEffect
  exact fun s h => ⟨egressPick_sends h, shaperWheelSlot_comes h, shaperRefill_applies h, gateEntryBoundary_comes h, gateListStart_starts h⟩

end Sys2Proof.Machine
end

section
/-!
PROOFS. Backplane lanes (09): what the rows of a lane change, and what its transmitter puts out by itself.
-/

namespace Sys2Proof.Machine

/-! ## Only one lane has changed -/

/-- From s to t only lane n and the books have changed. -/
structure LaneAlone (n : Nat) (s t : State) : Prop where
  rest : Books { s with lanes := t.lanes } t
  other : ∀ k, k ≠ n → t.lane k = s.lane k

/-- A lane is read off the lanes alone. -/
theorem lane_of_lanes {s t : State} (h : t.lanes = s.lanes) (n : Nat) : t.lane n = s.lane n := by
  simp only [State.lane, h]

@[simp] theorem emit_lane (o : Out) (s : State) (n : Nat) : (emit o s).lane n = s.lane n := rfl

theorem Books.lane {s t : State} (h : Books s t) (n : Nat) : t.lane n = s.lane n := lane_of_lanes h.lanes n

/-- Where beside the books lanes are said to have changed, they have changed into what the state holds. -/
theorem Books.with_lanes {s t : State} {x : SMap Lane} (h : Books { s with lanes := x } t) : Books { s with lanes := t.lanes } t := by
  obtain rfl : t.lanes = x := h.lanes
  exact h

theorem Books.laneAlone {s t : State} (h : Books s t) (n : Nat) : LaneAlone n s t :=
  ⟨Books.with_lanes (x := s.lanes) h, fun k _ => h.lane k⟩

theorem modLane_laneAlone (n : Nat) (f : Lane → Lane) (s : State) : LaneAlone n s (s.modLane n f) :=
  ⟨rfl, fun _ hk => lane_modLane_other s hk f⟩

theorem setLane_laneAlone (n : Nat) (x : Lane) (s : State) : LaneAlone n s (s.setLane n x) :=
  ⟨rfl, fun _ hk => lane_setLane_other s hk x⟩

theorem LaneAlone.trans {n : Nat} {s t u : State} (h : LaneAlone n s t) (k : LaneAlone n t u) : LaneAlone n s u :=
  ⟨Books.trans (congrArg (fun x : State => { x with lanes := u.lanes }) h.rest :) k.rest,
    fun j hj => (k.other j hj).trans (h.other j hj)⟩

theorem LaneAlone.outer {n : Nat} {s t : State} (h : LaneAlone n s t) : Outer s t :=
  ⟨h.rest.pending, h.rest.hot_powered, h.rest.boot⟩

theorem LaneAlone.modLane {n : Nat} {s t : State} (h : LaneAlone n s t) (f : Lane → Lane) : LaneAlone n s (t.modLane n f) :=
  h.trans (modLane_laneAlone n f t)

theorem LaneAlone.books {n : Nat} {s t u : State} (h : LaneAlone n s t) (hb : Books t u) : LaneAlone n s u := h.trans (hb.laneAlone n)

/-- A row that changes one lane alone completes with what holds after it. -/
theorem LaneAlone.completes {n : Nat} {s t : State} {f : State → State} {P : State → Prop} (h : LaneAlone n s t) (hon : On s) (hf : f s = t)
    (hP : P t) : ∃ t, (Host.Outcome.next (live f s) : Host.Outcome State Fault Refusal) = .next t ∧ P t :=
  live_completes hon t hf h.outer hP

/-- The same where the lane is known. -/
theorem LaneAlone.completes_lane {n : Nat} {s t : State} {f : State → State} {y : Lane} (h : LaneAlone n s t) (hon : On s) (hf : f s = t)
    (hy : t.lane n = y) : ∃ t, (Host.Outcome.next (live f s) : Host.Outcome State Fault Refusal) = .next t ∧
      t.lane n = y ∧ Books { s with lanes := t.lanes } t :=
  h.completes hon hf ⟨hy, h.rest⟩

/-! ## The transmitter (R231, R234–R236) -/

/-- A transmitter that sends neither EIDLE blocks nor a training burst has nothing to finish. -/
theorem settleIdle_steady {n : Nat} {s : State} (he : (s.lane n).eidleAt = none) (hb : (s.lane n).burstEnd = none) : settleIdle n s = s := by
  simp only [settleIdle, he, hb]

theorem sendBlock_books (n type body : Nat) (s : State) : Books s (sendBlock n type body s) := putLane_books _ _ s

/-- What a transmitter puts out by itself: idle blocks at most, or bits of PRBS31 with its generator moved on. -/
theorem laneFill_cases (n : Nat) (s : State) : Books s (laneFill n s) ∨
    (s.lane n).prbs = true ∧ ∃ bits r, laneFill n s = emit (.laneBits n bits) (s.modLane n fun x => { x with prbsTx := r }) := by
  unfold laneFill
  dsimp only
  split
  · exact .inl (.refl s)
  split
  · split
    · exact .inl (.refl s)
    · exact .inr ⟨‹_›, _, _, rfl⟩
  · split
    · exact .inl (.refl s)
    · exact .inl (sendBlock_books _ _ _ s)

theorem laneFill_books {n : Nat} {s : State} (hp : (s.lane n).prbs = false) : Books s (laneFill n s) :=
  (laneFill_cases n s).resolve_right fun h => Bool.false_ne_true (hp.symm.trans h.1)

/-- Filling its lane changes only the generator of PRBS31. -/
theorem laneFill_alone (n : Nat) (s : State) :
    LaneAlone n s (laneFill n s) ∧ ∃ r, (laneFill n s).lane n = { s.lane n with prbsTx := r } := by
  rcases laneFill_cases n s with hb | ⟨-, bits, r, hx⟩
  · exact ⟨hb.laneAlone n, _, hb.lane n⟩
  · rw [hx]
    exact ⟨(modLane_laneAlone n _ s).books (emit_books _ _), r, by rw [emit_lane, lane_modLane_same]⟩

end Sys2Proof.Machine
end
section
/-!
PROOFS. The rows of a backplane lane (09 R231–R237, R246; 01 R17): signal, blocks, the training marker, the idle-exit timeout, cell faults
and the error register.
-/

namespace Sys2Proof.Machine

/-! ## Signal (R231) -/

theorem signalDetect_hunts {s : State} (h : On s) (n : Fin 40) (hst : (s.lane n).state = .waitSignal) :
    exec (.laneSignalDetect n) s = .next (s.modLane n fun x =>
      { (if n.val < 36 then x.hunts else x) with signal := true, validRun := 0 }) := by
  refine congrArg Host.Outcome.next (live_eq h ?_ (modLane_laneAlone n _ s).outer)
  simp only [execLaneSignalDetect, hst]

theorem signalLoss_waits {s : State} (h : On s) (n : Fin 40) (hst : (s.lane n).state = .hunt) :
    Completes (.laneSignalLoss n) s fun t =>
      t.lane n = { s.lane n with signal := false, state := .waitSignal, validRun := 0, eidle := [], rxLast := 0 } ∧
      t.out = .laneStarts n (s.lane n).rate ((s.lane n).settings.getD {}).flags :: s.out ∧
      (∀ k, k ≠ n.val → t.lane k = s.lane k) ∧ Books { s with lanes := t.lanes } t := by
  have hx : execLaneSignalLoss n s = waitSignal n (s.modLane n fun x => { x with signal := false }) := by
    simp only [execLaneSignalLoss, hst]
  have ha : LaneAlone n s (waitSignal n (s.modLane n fun x => { x with signal := false })) :=
    ((modLane_laneAlone n _ s).modLane _).books (emit_books _ _)
  refine ha.completes h hx ⟨?_, ?_, ha.other, ha.rest⟩
  · simp only [waitSignal, emit_lane, lane_modLane_same]
  · simp only [waitSignal, lane_modLane_same]
    rfl

/-! ## Blocks (R231, R232, R234) -/

/-- Symbols from the board reach a lane's receiver once its transmitter has put out a block's worth. -/
theorem execLaneBlockReceived_takes {n : Nat} {s : State} (hl : (s.lane n).loopback ≠ 1) (he : (s.lane n).eidleAt = none)
    (hb : (s.lane n).burstEnd = none) (l : List (Fin 4)) : ∃ u r, execLaneBlockReceived n l s = takeSymbols n l u ∧ LaneAlone n s u ∧
      u.lane n = { s.lane n with prbsTx := r } ∧ ((s.lane n).prbs = false → u.lane n = s.lane n) := by
  obtain ⟨ha, r, hr⟩ := laneFill_alone n s
  have hsame (hp : (s.lane n).prbs = false) : (laneFill n s).lane n = s.lane n := (laneFill_books hp).lane n
  have harr : arriving n l (laneFill n s) = (l, laneFill n s) := by
    simp only [arriving, hr, hl, if_false]
  unfold execLaneBlockReceived
  rw [settleIdle_steady he hb, harr]
  dsimp only
  split
  · exact ⟨_, r, rfl, ha.books (emit_books _ _), hr, hsame⟩
  · exact ⟨_, r, rfl, ha, hr, hsame⟩

/-- A lane's receiver listens. -/
def Lane.listens (x : Lane) : Prop := x.state = .hunt ∨ x.state = .locked

/-- From x to y a lane's state, headers and window are as before. -/
structure SameHeaders (x y : Lane) : Prop where
  state : y.state = x.state
  validRun : y.validRun = x.validRun
  winCount : y.winCount = x.winCount
  winBad : y.winBad = x.winBad
  eidle : y.eidle = x.eidle

/-- Cutting a block changes the receiver's registers alone. -/
theorem nextBlock_headers {x y : Lane} {l : List (Fin 4)} {b : Option (Bool × Bool × Nat)} (h : x.nextBlock l = (b, y)) :
    SameHeaders x y := by
  obtain rfl : (x.nextBlock l).2 = y := congrArg Prod.snd h
  unfold Lane.nextBlock
  dsimp only
  split <;> exact ⟨rfl, rfl, rfl, rfl, rfl⟩

theorem takeSymbols_blocks {n : Nat} {l : List (Fin 4)} {u : State} {y : Lane} {b : Option (Bool × Bool × Nat)} (hl : (u.lane n).listens)
    (hp : (u.lane n).prbs = false) (hy : (u.lane n).nextBlock l = (b, y)) :
    takeSymbols n l u = b.elim (u.setLane n y) (takeBlock n · (u.setLane n y)) := by
  have hlisten : ¬ ((u.lane n).state ≠ .hunt ∧ (u.lane n).state ≠ .locked) := by
    rintro ⟨h1, h2⟩
    exact hl.elim h1 h2
  unfold takeSymbols
  simp only [hlisten, hp, hy, Bool.false_eq_true, if_false]
  cases b <;> rfl

/-- A lane that listens takes the symbols, and a block that they complete. -/
theorem execLaneBlockReceived_cuts {n : Nat} {s : State} {l : List (Fin 4)} {y : Lane} {b : Option (Bool × Bool × Nat)}
    (hst : (s.lane n).listens) (hp : (s.lane n).prbs = false) (hl : (s.lane n).loopback ≠ 1) (he : (s.lane n).eidleAt = none)
    (hb : (s.lane n).burstEnd = none) (hy : (s.lane n).nextBlock l = (b, y)) :
    ∃ u, execLaneBlockReceived n l s = b.elim u (takeBlock n · u) ∧ LaneAlone n s u ∧ u.lane n = y := by
  obtain ⟨u, -, hx, ha, -, hsame⟩ := execLaneBlockReceived_takes hl he hb l
  have hu := hsame hp
  exact ⟨_, hx.trans (takeSymbols_blocks (hu ▸ hst) (hu ▸ hp) (hu ▸ hy)), ha.trans (setLane_laneAlone n y u), lane_setLane_same u n y⟩

/-- A block at a hunting lane is a header at its candidate. -/
theorem takeBlock_hunt {n : Nat} {s : State} (hst : (s.lane n).state = .hunt) (h k : Bool) (p : Nat) :
    takeBlock n (h, k, p) s = huntHeader n (h != k) s := by
  simp only [takeBlock, hst]

/-- Was a valid block with this header and payload an EIDLE block (R235)? -/
def isEidle (h : Bool) (p : Nat) : Bool := h && decide (p = (controlBlock 0x1E eidleBody).2)

/-- A valid block at a locked lane is counted in the window; an unknown one is noted beside (10 R252). -/
theorem takeBlock_locked {n : Nat} {s : State} (hst : (s.lane n).state = .locked) (h : Bool) (p : Nat) :
    ∃ u, Books s u ∧ takeBlock n (h, !h, p) s = lockedHeader n true (isEidle h p) u := by
  have hvalid : (h != !h) = true := by cases h <;> rfl
  have hcontrol : (h && !!h) = h := by cases h <;> rfl
  simp only [takeBlock, hst, hvalid, hcontrol]
  split
  · exact ⟨_, count_books _ _ _, rfl⟩
  · exact ⟨_, .refl s, rfl⟩

/-- Within a window with fewer than 16 invalid headers a valid one moves the window on. -/
theorem lockedHeader_valid {n : Nat} {s : State} (hb : (s.lane n).winBad < 16) (hc : (s.lane n).winCount < 63) (e : Bool) :
    lockedHeader n true e s = s.modLane n fun x => { x with winCount := (s.lane n).winCount + 1, eidle := (e :: x.eidle).take 16 } := by
  have hlast : decide (64 ≤ (s.lane n).winCount + 1) = false := decide_eq_false (by omega)
  have hkeeps : ¬ 16 ≤ (s.lane n).winBad := by omega
  simp only [lockedHeader, hlast, hkeeps, b2n, Bool.not_true, Bool.false_eq_true, if_false, if_true, Nat.add_zero]
  rfl

/-- A mirror lane that locks begins its first window, and sends its HELLO at once. -/
theorem laneLocked_mirror {n : Nat} (hn : 32 ≤ n) (s : State) : Outer s (laneLocked n s) ∧
    (laneLocked n s).lane n = { s.lane n with state := .locked, winCount := 0, winBad := 0, eidle := [] } ∧
    SMap.get 0 (laneLocked n s).helloAt n = 0 := by
  obtain ⟨u, hu⟩ : ∃ u, u = raise .laneUp 3 n 0 (s.modLane n fun x => { x with state := .locked, winCount := 0, winBad := 0, eidle := [] }) :=
    ⟨_, rfl⟩
  have hraise : LaneAlone n s u := hu ▸ (modLane_laneAlone n _ s).books (raise_books _ _ _ _ _)
  have hlock : laneLocked n s = { u with helloAt := SMap.set 0 u.helloAt n 0 } := by
    rw [hu]
    exact if_neg (not_lt.2 hn)
  have hlane : u.lane n = { s.lane n with state := .locked, winCount := 0, winBad := 0, eidle := [] } := by
    rw [hu, (raise_books _ _ _ _ _).lane, lane_modLane_same]
  rw [hlock]
  exact ⟨hraise.outer.trans ⟨rfl, rfl, rfl⟩, hlane, SMap.get_set_same 0 0 n u.helloAt⟩

section blocks

variable {s : State} (hon : On s) (n : Fin 36) (l : List (Fin 4)) (x y : Lane) (b : Option (Bool × Bool × Nat)) (hx : x = s.lane n)
  (hp : x.prbs = false) (hl : x.loopback ≠ 1) (he : x.eidleAt = none) (hb : x.burstEnd = none) (hy : x.nextBlock l = (b, y))

include hon hx hp hl he hb hy

theorem blockReceived_waits (hst : x.state = .hunt ∨ x.state = .locked) (hnone : b = none) : Completes (.laneBlockReceived n l) s fun t =>
    t.lane n = y ∧ Books { s with lanes := t.lanes } t := by
  subst hx hnone
  obtain ⟨u, hrow, ha, hu⟩ := execLaneBlockReceived_cuts hst hp hl he hb hy
  exact ha.completes_lane hon hrow hu

theorem blockReceived_slips (h : Bool) (p : Nat) (hst : x.state = .hunt) (hsome : b = some (h, h, p)) :
    Completes (.laneBlockReceived n l) s fun t =>
      t.lane n = { y with validRun := 0, slip := 1, candidate := (y.candidate + 1) % 66 } ∧ Books { s with lanes := t.lanes } t := by
  subst hx hsome
  have hkept := nextBlock_headers hy
  obtain ⟨u, hrow, ha, hu⟩ := execLaneBlockReceived_cuts (.inl hst) hp hl he hb hy
  have htake := takeBlock_hunt ((congrArg Lane.state hu).trans (hkept.state.trans hst)) h h p
  simp only [huntHeader, bne_self_eq_false, Bool.not_false, if_true] at htake
  exact (ha.modLane _).completes_lane hon (hrow.trans htake) (by rw [lane_modLane_same, hu])

theorem blockReceived_counts (h : Bool) (p : Nat) (hst : x.state = .hunt) (hsome : b = some (h, !h, p)) (hrun : x.validRun < 63) :
    Completes (.laneBlockReceived n l) s fun t =>
      t.lane n = { y with validRun := x.validRun + 1 } ∧ Books { s with lanes := t.lanes } t := by
  subst hx hsome
  have hkept := nextBlock_headers hy
  obtain ⟨u, hrow, ha, hu⟩ := execLaneBlockReceived_cuts (.inl hst) hp hl he hb hy
  have htake := takeBlock_hunt ((congrArg Lane.state hu).trans (hkept.state.trans hst)) h (!h) p
  have hshort : ¬ 64 ≤ y.validRun + 1 := by rw [hkept.validRun]; omega
  simp only [huntHeader, Bool.bne_not_self, Bool.not_true, Bool.false_eq_true, hu, hshort, if_false] at htake
  exact (ha.modLane _).completes_lane hon (hrow.trans htake) (by rw [lane_modLane_same, hu, hkept.validRun])

theorem blockReceived_locks (h : Bool) (p : Nat) (hst : x.state = .hunt) (hsome : b = some (h, !h, p)) (hrun : 63 ≤ x.validRun)
    (hn : 32 ≤ n.val) : Completes (.laneBlockReceived n l) s fun t =>
      t.lane n = { y with state := .locked, validRun := 0, winCount := 0, winBad := 0, eidle := [] } ∧ SMap.get 0 t.helloAt n = 0 := by
  subst hx hsome
  have hkept := nextBlock_headers hy
  obtain ⟨u, hrow, ha, hu⟩ := execLaneBlockReceived_cuts (.inl hst) hp hl he hb hy
  have htake := takeBlock_hunt ((congrArg Lane.state hu).trans (hkept.state.trans hst)) h (!h) p
  have hlong : 64 ≤ y.validRun + 1 := by rw [hkept.validRun]; omega
  simp only [huntHeader, Bool.bne_not_self, Bool.not_true, Bool.false_eq_true, hu, hlong, if_false, if_true] at htake
  obtain ⟨hout, hlane, hhello⟩ := laneLocked_mirror hn (u.modLane n fun x => { x with validRun := 0 })
  refine live_completes hon _ (hrow.trans htake) ((ha.modLane _).outer.trans hout) ⟨hlane.trans ?_, hhello⟩
  rw [lane_modLane_same, hu]

theorem blockReceived_windows (h : Bool) (p : Nat) (hst : x.state = .locked) (hsome : b = some (h, !h, p)) (hbad : x.winBad < 16)
    (hcount : x.winCount < 63) : Completes (.laneBlockReceived n l) s fun t =>
      t.lane n = { y with winCount := x.winCount + 1, eidle := (isEidle h p :: x.eidle).take 16 } ∧
      Books { s with lanes := t.lanes } t := by
  subst hx hsome
  have hkept := nextBlock_headers hy
  obtain ⟨u, hrow, ha, hu⟩ := execLaneBlockReceived_cuts (.inr hst) hp hl he hb hy
  obtain ⟨v, hv, htake⟩ := takeBlock_locked ((congrArg Lane.state hu).trans (hkept.state.trans hst)) h p
  have hlane : v.lane n = y := (hv.lane n).trans hu
  rw [lockedHeader_valid (by rw [hlane, hkept.winBad]; exact hbad) (by rw [hlane, hkept.winCount]; exact hcount)] at htake
  exact ((ha.books hv).modLane _).completes_lane hon (hrow.trans htake)
    (by rw [lane_modLane_same, hlane, hkept.winCount, hkept.eidle])

end blocks

/-! ## PRBS31 (R234) -/

theorem addPrbsErr_alone (n k : Nat) (s : State) : LaneAlone n s (addPrbsErr n k s) :=
  (modLane_laneAlone n _ s).books (noteRc_books _ _ _ _)

theorem addPrbsErr_lane (n k : Nat) (s : State) :
    (addPrbsErr n k s).lane n = { s.lane n with prbsErr := min 65535 ((s.lane n).prbsErr + k) } :=
  ((noteRc_books _ _ _ _).lane n).trans (lane_modLane_same s n _)

/-- The bit errors that a lane's PRBS31 checker finds in symbols. -/
def Lane.prbsErrsIn (x : Lane) (l : List (Fin 4)) : Nat :=
  ((decodeSymbols x.rate (x.settings.getD {}).flags x.rxLast l).1.foldl prbsCheck (0, x.prbsSeen, x.prbsRx)).1

theorem takeSymbols_prbs {n : Nat} {u : State} (hst : (u.lane n).state = .locked) (hp : (u.lane n).prbs = true) (l : List (Fin 4)) :
    LaneAlone n u (takeSymbols n l u) ∧
      ((takeSymbols n l u).lane n).prbsErr = min 65535 ((u.lane n).prbsErr + (u.lane n).prbsErrsIn l) := by
  have hlisten : ¬ ((u.lane n).state ≠ .hunt ∧ (u.lane n).state ≠ .locked) := fun h => h.2 hst
  unfold takeSymbols
  simp only [hlisten, hp, if_false, if_true]
  refine ⟨((modLane_laneAlone n _ u).trans (addPrbsErr_alone n _ _)).books (countN_books _ _ _ _), ?_⟩
  rw [(countN_books _ _ _ _).lane, addPrbsErr_lane, lane_modLane_same]
  rfl

theorem blockReceived_checks {s : State} (hon : On s) (n : Fin 36) (l : List (Fin 4)) (x : Lane) (hx : x = s.lane n) (hp : x.prbs = true)
    (hst : x.state = .locked) (hl : x.loopback ≠ 1) (he : x.eidleAt = none) (hb : x.burstEnd = none) :
    Completes (.laneBlockReceived n l) s fun t =>
      (t.lane n).prbsErr = min 65535 (x.prbsErr + x.prbsErrsIn l) ∧ Books { s with lanes := t.lanes } t := by
  subst hx
  obtain ⟨u, r, hrow, ha, hu, -⟩ := execLaneBlockReceived_takes hl he hb l
  obtain ⟨htake, herr⟩ := takeSymbols_prbs (n := n) (u := u) (by rw [hu]; exact hst) (by rw [hu]; exact hp) l
  have hall := ha.trans htake
  rw [hu] at herr
  exact hall.completes hon hrow ⟨herr, hall.rest⟩

/-! ## A worker that identifies (10 R258, R280, Table 10.3) -/

theorem completeRunningAt_books (op index : Nat) (st : Status) (p : Bytes) (s : State) : Books s (completeRunningAt op index st p s) := by
  unfold completeRunningAt
  split
  · exact complete_books _ _ _ _ _
  · exact .refl s

/-- From s to t the lanes and the supply are as before, and so are the state and the version of worker w. -/
structure SameWorker (w : Nat) (s t : State) : Prop where
  outer : Outer s t
  lanes : t.lanes = s.lanes
  state : (t.worker w).state = (s.worker w).state
  version : (t.worker w).version = (s.worker w).version

theorem SameWorker.refl (w : Nat) (s : State) : SameWorker w s s := ⟨.refl s, rfl, rfl, rfl⟩

theorem SameWorker.trans {w : Nat} {s t u : State} (h : SameWorker w s t) (k : SameWorker w t u) : SameWorker w s u :=
  ⟨h.outer.trans k.outer, k.lanes.trans h.lanes, k.state.trans h.state, k.version.trans h.version⟩

theorem worker_of_workers {s t : State} (h : t.workers = s.workers) (w : Nat) : t.worker w = s.worker w := by
  simp only [State.worker, h]

theorem Books.worker {s t : State} (h : Books s t) (w : Nat) : t.worker w = s.worker w := worker_of_workers h.workers w

theorem Books.sameWorker {s t : State} (h : Books s t) (w : Nat) : SameWorker w s t :=
  ⟨h.outer, h.lanes, congrArg Worker.state (h.worker w), congrArg Worker.version (h.worker w)⟩

/-- A change of a worker that keeps its state and version keeps those of every worker. -/
theorem modWorker_sameWorker {f : Worker → Worker} (k w : Nat) (s : State)
    (hf : ∀ x, (f x).state = x.state ∧ (f x).version = x.version) : SameWorker w s (s.modWorker k f) := by
  have hw : ((s.modWorker k f).worker w).state = (s.worker w).state ∧ ((s.modWorker k f).worker w).version = (s.worker w).version := by
    by_cases h : w = k
    · subst h
      rw [worker_modWorker_same]
      exact hf _
    · rw [worker_modWorker_other s h]
      exact ⟨rfl, rfl⟩
  exact ⟨⟨rfl, rfl, rfl⟩, rfl, hw.1, hw.2⟩

/-- Held workers that are checked again keep their states and versions (10 R259). -/
theorem recheckHeld_sameWorker (w : Nat) (s : State) : SameWorker w s (recheckHeld s) := by
  refine List.foldlRecOn (motive := SameWorker w s) _ _ (.refl w s) fun t ht k _ => ht.trans ?_
  have hfree : SameWorker w t (t.modWorker k fun x => { x with dupHeld := false }) :=
    modWorker_sameWorker k w t (by exact fun _ => ⟨rfl, rfl⟩)
  dsimp only
  split
  · split
    · exact hfree.trans (modWorker_sameWorker k w _ (by exact fun _ => ⟨rfl, rfl⟩))
    · exact hfree
  · exact .refl w t

theorem failTunnel_empty {w : Nat} {s : State} (h : (s.worker w).tunnel = []) :
    failTunnel w s = s.modWorker w fun x => { x with tunnel := [] } := by
  have hnone : s.cmd.executing.filter (fun c => (s.worker w).tunnel.contains c.seq) = [] := by
    simp [h]
  simp only [failTunnel, hnone, List.foldl_nil]

/-- The cleanup of a worker without open pulls and tunnelled commands keeps its state and version (10 R280). -/
theorem workerCleanup_sameWorker {w : Nat} {s : State} (hp : (s.worker w).pulls = []) (ht : (s.worker w).tunnel = []) :
    SameWorker w s (workerCleanup w s) := by
  have hpulls : withdrawAll w s = s := by simp only [withdrawAll, hp, List.foldl_nil]
  unfold workerCleanup
  rw [hpulls]
  extract_lets _ released untunnelled unranged
  have hreleased : SameWorker w s released := ⟨⟨rfl, rfl, rfl⟩, rfl, rfl, rfl⟩
  have huntunnelled : SameWorker w s untunnelled := by
    unfold untunnelled
    rw [failTunnel_empty (by rw [worker_modWorker_same]; exact ht)]
    exact (hreleased.trans (modWorker_sameWorker w w _ (by exact fun _ => ⟨rfl, rfl⟩))).trans
      (modWorker_sameWorker w w _ (by exact fun _ => ⟨rfl, rfl⟩))
  have hunranged : SameWorker w s unranged := by
    unfold unranged
    split
    · exact (huntunnelled.trans (modWorker_sameWorker w w _ (by exact fun _ => ⟨rfl, rfl⟩))).trans
        ((completeRunningAt_books _ _ _ _ _).sameWorker w)
    · exact huntunnelled
  exact hunranged.trans ((completeRunningAt_books _ _ _ _ _).sameWorker w)

/-- A change of a worker's state comes with its event. -/
theorem setWorkerState_from0 {w : Nat} {s : State} (h : (s.worker w).state = 0) :
    setWorkerState w 1 s = raise .workerStateChange 2 w 256 (s.modWorker w fun x => { x with state := 1 }) := by
  simp only [setWorkerState, h]
  rfl

theorem modWorker_outer (w : Nat) (f : Worker → Worker) (s : State) : Outer s (s.modWorker w f) := ⟨rfl, rfl, rfl⟩

/-- What identification and ranging learned of a worker is forgotten, and HELLO goes to it at once. -/
def forgotten (w : Nat) (s : State) : State := { s.modWorker w Worker.forget with helloAt := SMap.set 0 s.helloAt w 0 }

theorem forgotten_outer (w : Nat) (s : State) : Outer s (forgotten w s) := ⟨rfl, rfl, rfl⟩

theorem forgotten_lanes (w : Nat) (s : State) : (forgotten w s).lanes = s.lanes := rfl

theorem forgotten_worker (w : Nat) (s : State) : (forgotten w s).worker w = (s.worker w).forget := worker_modWorker_same s w _

/-- A worker that was lost begins to identify: it is in W1, without a version. -/
theorem workerToW1_identifies {w : Nat} {s : State} (hst : (s.worker w).state = 0) (hp : (s.worker w).pulls = [])
    (ht : (s.worker w).tunnel = []) : Outer s (workerToW1 w s) ∧ (workerToW1 w s).lanes = s.lanes ∧
      ((workerToW1 w s).worker w).state = 1 ∧ ((workerToW1 w s).worker w).version = 0 := by
  have hclean := workerCleanup_sameWorker hp ht
  obtain ⟨u, hu⟩ : ∃ u, u = setWorkerState w 1 (workerCleanup w s) := ⟨_, rfl⟩
  have hentered := hu.trans (setWorkerState_from0 (hclean.state.trans hst))
  have hraise := raise_books .workerStateChange 2 w 256 ((workerCleanup w s).modWorker w fun x => { x with state := 1 })
  rw [← hentered] at hraise
  have hstate : (u.worker w).state = 1 := by rw [hraise.worker, worker_modWorker_same]
  have hheld := recheckHeld_sameWorker w (forgotten w u)
  have hx : workerToW1 w s = recheckHeld (forgotten w u) := by rw [hu]; rfl
  have hout : Outer s u := hclean.outer.trans ((modWorker_outer _ _ _).trans hraise.outer)
  rw [hx]
  have hlanes : u.lanes = s.lanes := by rw [hraise.lanes, State.modWorker_lanes, hclean.lanes]
  refine ⟨hout.trans ((forgotten_outer w u).trans hheld.outer), ?_, ?_, ?_⟩
  · rw [hheld.lanes, forgotten_lanes, hlanes]
  · rw [hheld.state, forgotten_worker]
    exact hstate
  · rw [hheld.version, forgotten_worker]
    rfl

/-! ## The training marker and the idle-exit timeout (R231, R236) -/

/-- A lane that has seen the end marker: locked, its alignment the bit after it, its first window begun. -/
def Lane.trained (x : Lane) : Lane :=
  { x with state := .locked, winCount := 0, winBad := 0, eidle := [], idlePs := none, candidate := 0, slip := 0, rxBits := [] }

theorem execLaneTrainingMarker_idle {n : Nat} {s : State} (hst : (s.lane n).state = .rxIdle) (hsig : (s.lane n).signal = true) :
    execLaneTrainingMarker n s = workerLocked n (s.modLane n Lane.trained) :=
  if_pos ⟨hst, hsig⟩

theorem trainingMarker_locks {s : State} (h : On s) (n : Fin 32) (hst : (s.lane n).state = .rxIdle) (hsig : (s.lane n).signal = true) :
    ((s.dev.role = 1 → (s.worker n).state ≠ 0) → Completes (.laneTrainingMarker n) s fun t =>
      t.lane n = (s.lane n).trained ∧ Books { s with lanes := t.lanes, helloAt := t.helloAt } t) ∧
    (s.dev.role = 1 → (s.worker n).state = 0 → (s.worker n).pulls = [] → (s.worker n).tunnel = [] →
      Completes (.laneTrainingMarker n) s fun t =>
        (t.lane n).state = .locked ∧ (t.worker n).state = 1 ∧ (t.worker n).version = 0) := by
  have hx := execLaneTrainingMarker_idle hst hsig
  have hlane : (s.modLane n Lane.trained).lane n = (s.lane n).trained := lane_modLane_same s n _
  refine ⟨fun hknown => ?_, fun hrole hw hp ht => ?_⟩
  · have hstays : ¬ ((s.modLane n Lane.trained).dev.role = 1 ∧ n.val < 32 ∧ ((s.modLane n Lane.trained).worker n).state = 0) :=
      fun ⟨hrole, _, h0⟩ => hknown hrole h0
    rw [workerLocked, if_neg hstays] at hx
    split at hx
    · exact live_completes h _ hx ⟨rfl, rfl, rfl⟩ ⟨hlane, rfl⟩
    · exact live_completes h _ hx ⟨rfl, rfl, rfl⟩ ⟨hlane, rfl⟩
  · have hlost : (s.modLane n Lane.trained).dev.role = 1 ∧ n.val < 32 ∧ ((s.modLane n Lane.trained).worker n).state = 0 :=
      ⟨hrole, n.isLt, hw⟩
    rw [workerLocked, if_pos hlost] at hx
    obtain ⟨hout, hlanes, hstate, hversion⟩ := workerToW1_identifies (s := s.modLane n Lane.trained) hw hp ht
    refine live_completes h _ hx ((modLane_laneAlone n _ s).outer.trans hout) ⟨?_, hstate, hversion⟩
    rw [lane_of_lanes hlanes, hlane]
    rfl

theorem idleExitTimeout_hunts {s : State} (h : On s) (n : Fin 32) (ps : Nat) (hst : (s.lane n).state = .rxIdle)
    (hps : (s.lane n).idlePs = some ps) (hrole : s.dev.role = 0) : Completes (.laneIdleExitTimeout n) s fun t =>
      (t.lane n).state = .hunt ∧ (t.lane n).idlePs = none ∧ t.clk.nowPs = max s.clk.nowPs (ps + 200000) := by
  obtain ⟨u, hu⟩ : ∃ u, u = (advanceTo (ps + 200000) s).modLane n
    (fun x => { x with state := .hunt, validRun := 0, idlePs := none, eidle := [] }) := ⟨_, rfl⟩
  have hb : Books u (count .laneLockLoss n (raise .laneDown 3 n 0 u)) := (raise_books _ _ _ _ _).trans (count_books _ _ _)
  have hnone : (count .laneLockLoss n (raise .laneDown 3 n 0 u)).dev.role = 0 := by rw [hb.dev, hu]; exact hrole
  have hx : execLaneIdleExitTimeout n s = count .laneLockLoss n (raise .laneDown 3 n 0 u) := by
    simp only [execLaneIdleExitTimeout, hst, hps, lockLoss, ← hu, lostLock, n.isLt, workerUnlocked, hnone, if_true]
    rfl
  have hlane : u.lane n = { s.lane n with state := .hunt, validRun := 0, idlePs := none, eidle := [] } := by
    rw [hu, lane_modLane_same]
    rfl
  have hout : Outer s u := hu ▸ ⟨rfl, rfl, rfl⟩
  refine live_completes h _ hx (hout.trans hb.outer) ⟨?_, ?_, ?_⟩
  · rw [hb.lane, hlane]
  · rw [hb.lane, hlane]
  · rw [hb.clk, hu]
    rfl

/-! ## Cell faults (01 R17) -/

theorem setMac_outer (h : Nat) (m : Mac) (s : State) : Outer s (s.setMac h m) := ⟨rfl, rfl, rfl⟩

/-- A host port's link changes with its event: beside the books that port alone. -/
theorem setMacLink_changes {h : Nat} {up : Bool} {s : State} (hl : (s.mac h).link ≠ up) :
    Books (s.setMac h { s.mac h with link := up }) (setMacLink h up s) := by
  rw [setMacLink, if_neg hl]
  exact raise_books _ _ _ _ _

theorem setMacLink_outer_lanes (h : Nat) (up : Bool) (s : State) : Outer s (setMacLink h up s) ∧ (setMacLink h up s).lanes = s.lanes := by
  by_cases hl : (s.mac h).link = up
  · rw [setMacLink, if_pos hl]
    exact ⟨.refl s, rfl⟩
  · have hb := setMacLink_changes hl
    exact ⟨(setMac_outer _ _ s).trans hb.outer, hb.lanes⟩

/-- A lane on which no link is up: it is neither locked, nor receives idle, nor serves a tributary. -/
structure Lane.Unlinked (x : Lane) : Prop where
  locked : x.state ≠ .locked
  rxIdle : x.state ≠ .rxIdle
  legacy : x.state ≠ .legacy

/-- A lane that has left its state for st: transmitter and receiver at rest. -/
def Lane.left (st : LaneState) (x : Lane) : Lane :=
  { x with
    state := st, signal := false, txIdle := false, eidleAt := none, burstEnd := none, validRun := 0, eidle := [], idlePs := none }

/-- Beside a LANE_IDLE that waits on it, nothing hangs on a lane without a link. -/
theorem leaveState_unlinked {n : Nat} {s : State} (h : (s.lane n).Unlinked) (st : LaneState) :
    leaveState n st s = (completeRunningAt 0x0603 n .busyRetry [] s).modLane n (Lane.left st) := by
  have hheld : ¬ ((s.lane n).state = .locked ∨ (s.lane n).state = .rxIdle) := fun hor => hor.elim h.locked h.rxIdle
  simp only [leaveState, hheld, h.legacy, if_false]
  rfl

theorem noteLaneFault_outer_lanes (s : State) : Outer s (noteLaneFault s) ∧ (noteLaneFault s).lanes = s.lanes := by
  unfold noteLaneFault
  split
  · exact ⟨⟨rfl, rfl, rfl⟩, rfl⟩
  · exact ⟨.refl s, rfl⟩

/-- What a lane's cell fault leaves of the state that the lane has left for FAULT. -/
theorem execLaneCellFault_outer_lanes {n : Nat} {s : State} (hst : (s.lane n).state ≠ .fault) :
    Outer (leaveState n .fault s) (execLaneCellFault n s) ∧ (execLaneCellFault n s).lanes = (leaveState n .fault s).lanes := by
  have hb := raise_books .laneFault 3 n 0 (leaveState n .fault s)
  obtain ⟨hnote, hlanes⟩ := noteLaneFault_outer_lanes (raise .laneFault 3 n 0 (leaveState n .fault s))
  rw [execLaneCellFault, if_neg hst]
  dsimp only
  split
  · exact ⟨hb.outer.trans hnote, hlanes.trans hb.lanes⟩
  · obtain ⟨hlink, hlanes'⟩ := setMacLink_outer_lanes (portOfLane n (noteLaneFault (raise .laneFault 3 n 0 (leaveState n .fault s)))) false
      (noteLaneFault (raise .laneFault 3 n 0 (leaveState n .fault s)))
    exact ⟨(hb.outer.trans hnote).trans hlink, hlanes'.trans (hlanes.trans hb.lanes)⟩

theorem cellFault_faults {s : State} (h : On s) (n : Fin 40) (hst : (s.lane n).state = .hunt ∨ (s.lane n).state = .waitSignal) :
    Completes (.laneCellFault n) s fun t =>
      (t.lane n).state = .fault ∧ (t.lane n).signal = false ∧ (∀ k, k ≠ n.val → t.lane k = s.lane k) := by
  have hfree : (s.lane n).Unlinked := by rcases hst with hst | hst <;> constructor <;> rw [hst] <;> decide
  have hwell : (s.lane n).state ≠ .fault := by rcases hst with hst | hst <;> rw [hst] <;> decide
  obtain ⟨hout, hlanes⟩ := execLaneCellFault_outer_lanes hwell
  rw [leaveState_unlinked hfree] at hout hlanes
  have hleft := ((completeRunningAt_books 0x0603 n .busyRetry [] s).laneAlone n).modLane (Lane.left .fault)
  have hlane := (lane_of_lanes hlanes n).trans (lane_modLane_same _ _ _)
  refine live_completes h _ rfl (hleft.outer.trans hout) ⟨?_, ?_, fun k hk => (lane_of_lanes hlanes k).trans (hleft.other k hk)⟩ <;>
    rw [hlane] <;> rfl

/-! ## LANE_HDR_ERR (R246) -/

theorem hdrErrRead_clears (path : Path) (s : State) (n : Fin 40) (same : Bool) (h : Reaches path s)
    (hc : same = false ∨ rcNow (2 * hdrErrAddr n) s = none ∧ rcNow (2 * hdrErrAddr n + 1) s = none) :
    exec (.laneHdrErrRead path n same) s = .next
      (emit (.value path (0x50004 + 0x400 * n.val) (BitVec.ofNat 32 ((s.lane n).prbsErr * 65536 + (s.lane n).hdrErr)))
        (s.modLane n fun x => { x with hdrErr := 0, prbsErr := 0 })) := by
  have hread (key cur : Nat) (hkey : same = false ∨ rcNow key s = none) : rcRead same key cur s = (cur, 0) := by
    unfold rcRead
    rcases hkey with rfl | hnone
    · split <;> rfl
    · rw [hnone]
  have hh := hread (2 * hdrErrAddr n) (s.lane n).hdrErr (hc.imp_right And.left)
  have hp := hread (2 * hdrErrAddr n + 1) (s.lane n).prbsErr (hc.imp_right And.right)
  refine congrArg Host.Outcome.next (via_eq h ?_ ((modLane_laneAlone n _ s).outer.trans (emit_outer _ _)))
  simp only [execLaneHdrErrRead, hostRead_awake h.awake.awake, hh, hp]
  rfl

/-- Settles O28: each row has its own rule above. -/
theorem laneRowsTakeEffect : Obligations.LaneRowsTakeEffect := by
  unfold Obligations.LaneRowsTakeEffect
  refine fun s h => ⟨signalDetect_hunts h, signalLoss_waits h, ?blocks, blockReceived_checks h, trainingMarker_locks h,
    idleExitTimeout_hunts h, cellFault_faults h, fun path => hdrErrRead_clears path s⟩
  case blocks =>
    intro n l x y b hx hp hl he hb hy
    exact ⟨blockReceived_waits h n l x y b hx hp hl he hb hy, blockReceived_slips h n l x y b hx hp hl he hb hy,
      blockReceived_counts h n l x y b hx hp hl he hb hy,
      fun g p hst hsome hrun hn => blockReceived_locks h n l x y b hx hp hl he hb hy g p hst hsome hrun hn,
      blockReceived_windows h n l x y b hx hp hl he hb hy⟩

end Sys2Proof.Machine
end

section
/-!
PROOFS. The commands of lanes and host ports (09 R228–R230, R247–R250).
-/

namespace Sys2Proof.Machine

/-! ## LANE_TABLE_LOAD (R228, R230) -/

/-- The table that LANE_TABLE_LOAD carries (Table 9.3). -/
def tableOf (p : Bytes) : LaneTable :=
  { board := w32 p 8, revision := u16 p 12, entries := (List.range (u16 p 6)).map (fun k => entryOf (slice p (32 + 16 * k) 16)) }

theorem effLaneTableLoad_stores {c : Cmd} {s : State} (hhead : badTableHeader c.req.body = false)
    (hentries : firstBadEntry (u16 c.req.body 6) none (c.req.body.drop 32) 0 = none) :
    effLaneTableLoad c s = .ok (le 2 (u16 c.req.body 6) ++ slice c.req.body 12 2 ++ slice c.req.body 8 4)
      { s with laneTable := some (tableOf c.req.body) } := by
  simp [effLaneTableLoad, hhead, hentries, tableOf]

theorem laneTableLoad_stores {q : CmdReq} {c : Cmd} {s : State} (h : Runs 0x0600 q c s) (hhead : badTableHeader q.body = false)
    (hentries : firstBadEntry (u16 q.body 6) none (q.body.drop 32) 0 = none) :
    Completes (.laneTableLoad q) s fun t => Answers c .ok 0 (le 2 (u16 q.body 6) ++ slice q.body 12 2 ++ slice q.body 8 4) s t ∧
      Books { s with laneTable := some (tableOf q.body) } t := by
  obtain rfl := h.isReq
  exact Runs.completes (sp := specLaneTableLoad) (eff := effLaneTableLoad) h rfl (effLaneTableLoad_stores hhead hentries) rfl rfl rfl rfl
    rfl rfl

/-! ## LANE_CONFIG (R229, R247, R248) -/

theorem SMap.put_put {α : Type} (k : Nat) (v w : α) (m : SMap α) : SMap.put k w (SMap.put k v m) = SMap.put k w m := by
  induction m with
  | nil => simp [SMap.put]
  | cons e m ih =>
    obtain ⟨j, x⟩ := e
    by_cases hlt : k < j
    · simp [SMap.put, hlt]
    · by_cases heq : k = j
      · simp [SMap.put, heq]
      · simp [SMap.put, hlt, heq, ih]

theorem SMap.erase_put {α : Type} (k : Nat) (v : α) (m : SMap α) : SMap.erase k (SMap.put k v m) = SMap.erase k m := by
  induction m with
  | nil => simp [SMap.put, SMap.erase]
  | cons e m ih =>
    obtain ⟨j, x⟩ := e
    by_cases hlt : k < j
    · simp [SMap.put, hlt, SMap.erase]
    · by_cases heq : k = j
      · simp [SMap.put, heq, SMap.erase]
      · simp [SMap.put, hlt, heq, Ne.symm heq, SMap.erase, ih]

theorem SMap.erase_erase {α : Type} (k : Nat) (m : SMap α) : SMap.erase k (SMap.erase k m) = SMap.erase k m := by
  induction m with
  | nil => rfl
  | cons e m ih =>
    obtain ⟨j, x⟩ := e
    by_cases heq : j = k
    · simp [SMap.erase, heq, ih]
    · simp [SMap.erase, heq, ih]

/-- A key is written anew as if it had not been written before, unless the first write took it out and the second brings it back. -/
theorem SMap.set_set {α : Type} [DecidableEq α] {d v w : α} (h : v = d → w = d) (k : Nat) (m : SMap α) :
    SMap.set d (SMap.set d m k v) k w = SMap.set d m k w := by
  by_cases hw : w = d
  · by_cases hv : v = d
    · simp [SMap.set, hw, hv, SMap.erase_erase]
    · simp [SMap.set, hw, hv, SMap.erase_put]
  · simp [SMap.set, hw, mt h hw, SMap.put_put]

/-- A lane that is DOWN: of what it held only the error counts are kept. -/
def Lane.disabled (x : Lane) : Lane := { hdrErr := x.hdrErr, prbsErr := x.prbsErr }

theorem Lane.disabled_left (x : Lane) : (x.left .down).disabled = x.disabled := rfl

/-- Over an unlisted lane there is nothing to keep. -/
theorem Lane.disabled_of_left {x : Lane} (h : x.left .down = {}) : x.disabled = {} :=
  (Lane.disabled_left x).symm.trans (congrArg Lane.disabled h)

/-- A command other than LANE_IDLE that executes alone holds up no lane that goes down. -/
theorem completeRunningAt_otherOp {op index : Nat} {st : Status} {p : Bytes} {c : Cmd} {s : State} (hx : s.cmd.executing = [c])
    (hop : c.op ≠ op) : completeRunningAt op index st p s = s := by
  have hnone : runningAt op index s = none := by simp [runningAt, hx, hop]
  rw [completeRunningAt, hnone]

theorem laneDown_disables {n : Nat} {c : Cmd} {s : State} (hx : s.cmd.executing = [c]) (hop : c.op ≠ 0x0603)
    (hfree : (s.lane n).Unlinked) : laneDown n s = s.modLane n Lane.disabled := by
  have hleft : leaveState n .down s = s.modLane n (Lane.left .down) := by
    rw [leaveState_unlinked hfree, completeRunningAt_otherOp hx hop]
  have hset := SMap.set_set (d := ({} : Lane)) (v := (s.lane n).left .down) (w := (s.lane n).disabled) Lane.disabled_of_left n s.lanes
  rw [laneDown, hleft]
  change (s.modLane n (Lane.left .down)).setLane n ((s.modLane n (Lane.left .down)).lane n).disabled = s.setLane n (s.lane n).disabled
  rw [lane_modLane_same, Lane.disabled_left]
  exact congrArg (fun m => { s with lanes := m }) hset

/-- A lane at a rate with its settings: the receiver waits for signal, or the lane serves a tributary. -/
def Lane.enabled (rate loopback : Nat) (prbs : Bool) (e : LaneSet) (builtin : Bool) (looped : Nat) (x : Lane) : Lane :=
  { x with state := if 5 ≤ rate then .legacy else .waitSignal, rate, loopback, prbs, settings := some e, builtin, looped }

/-- Enabling a lane changes that lane alone, its generator of PRBS31 beside the settings. -/
theorem enableLane_alone (n rate loopback : Nat) (prbs : Bool) (e : LaneSet) (b : Bool) (s : State) :
    LaneAlone n s (enableLane n rate loopback prbs e b s) ∧ ∃ looped r,
      (enableLane n rate loopback prbs e b s).lane n = { (s.lane n).enabled rate loopback prbs e b looped with prbsTx := r } := by
  obtain ⟨looped, hlooped⟩ : ∃ k, k = if loopback = 1 then (lineOf n {} s.out.reverse).length else 0 := ⟨_, rfl⟩
  obtain ⟨u, hu⟩ : ∃ u, u = emit (.laneStarts n rate e.flags) (s.modLane n (Lane.enabled rate loopback prbs e b looped)) := ⟨_, rfl⟩
  have halone : LaneAlone n s u := hu ▸ (modLane_laneAlone n _ s).books (emit_books _ _)
  have hlane : u.lane n = (s.lane n).enabled rate loopback prbs e b looped := by rw [hu, emit_lane, lane_modLane_same]
  have hx : enableLane n rate loopback prbs e b s = if n < 36 ∧ rate < 5 then laneFill n u else u := by
    rw [hu, hlooped]
    rfl
  rw [hx]
  split
  · obtain ⟨hfill, r, hr⟩ := laneFill_alone n u
    exact ⟨halone.trans hfill, looped, r, by rw [hr, hlane]⟩
  · exact ⟨halone, looped, _, hlane⟩

theorem laneFill_cmd (n : Nat) (s : State) : (laneFill n s).cmd = s.cmd := by
  unfold laneFill
  dsimp only
  split
  · rfl
  split
  · split <;> rfl
  · split
    · rfl
    · exact putLane_cmd _ _ s

theorem enableLane_cmd (n rate loopback : Nat) (prbs : Bool) (e : LaneSet) (b : Bool) (s : State) :
    (enableLane n rate loopback prbs e b s).cmd = s.cmd := by
  unfold enableLane
  dsimp only
  split
  · exact laneFill_cmd ..
  · rfl

/-- A lane that waits, hunts or is DOWN, in a powered domain and not in use, is free for LANE_CONFIG. -/
structure ConfigFree (n : Nat) (s : State) : Prop where
  domain : domainOn (laneDomain n) s = true
  unused : laneInUse n s = false
  resting : (s.lane n).state = .down ∨ (s.lane n).state = .waitSignal ∨ (s.lane n).state = .hunt

theorem ConfigFree.unlinked {n : Nat} {s : State} (h : ConfigFree n s) : (s.lane n).Unlinked := by
  rcases h.resting with hs | hs | hs <;> exact ⟨by simp [hs], by simp [hs], by simp [hs]⟩

theorem ConfigFree.notFault {n : Nat} {s : State} (h : ConfigFree n s) : (s.lane n).state ≠ .fault := by
  rcases h.resting with hs | hs | hs <;> simp [hs]

theorem ConfigFree.marked {n : Nat} {s : State} (h : ConfigFree n s) (c : Cmd) : ConfigFree n (markStarted c s) :=
  ⟨h.domain, h.unused, h.resting⟩

theorem ConfigFree.laneDown {n : Nat} {q : CmdReq} {c : Cmd} {s : State} (hfree : ConfigFree n s) (h : Runs 0x0601 q c s) :
    laneDown n (markStarted c s) = (markStarted c s).modLane n Lane.disabled :=
  laneDown_disables (c := { c with started := true }) (congrArg CmdState.executing h.marked :) (by simp [h.isOp]) (hfree.marked c).unlinked

section config

variable {c : Cmd} {s : State} (h : ConfigFree c.req.index s)

include h

theorem effLaneConfig_disables (hoff : u8 c.req.body 0 ≠ 1) : effLaneConfig c s = .ok (zeros 20) (laneDown c.req.index s) := by
  simp [effLaneConfig, h.notFault, h.domain, h.unused, hoff]

theorem effLaneConfig_unknown (hone : u8 c.req.body 0 = 1) (hnone : findSettings c.req.index (u8 c.req.body 1) s = none) :
    effLaneConfig c s = .fail .notFound s := by
  simp [effLaneConfig, h.notFault, h.domain, h.unused, hone, hnone]

theorem effLaneConfig_enables {e : LaneSet} {b : Bool} (hone : u8 c.req.body 0 = 1)
    (hsome : findSettings c.req.index (u8 c.req.body 1) s = some (e, b)) : effLaneConfig c s =
      .ok (e.bytes ++ le 1 (b2n b) ++ zeros 3)
        (enableLane c.req.index (u8 c.req.body 1) (u8 c.req.body 2) (bit (u8 c.req.body 3) 0) e b (laneDown c.req.index s)) := by
  simp [effLaneConfig, h.notFault, h.domain, h.unused, hone, hsome]

end config

section config

variable {q : CmdReq} {c : Cmd} {s : State} {n : Nat} (hn : n = q.index) (h : Runs 0x0601 q c s) (hfree : ConfigFree n s)

include hn h hfree

theorem laneConfig_disables (hoff : u8 q.body 0 ≠ 1) : Completes (.laneConfig q) s fun t => Answers c .ok 0 (zeros 20) s t ∧
    Books (s.modLane n Lane.disabled) t := by
  obtain rfl := h.isReq
  subst hn
  have heff := effLaneConfig_disables (hfree.marked c) hoff
  rw [hfree.laneDown h] at heff
  exact Runs.completes (sp := specLaneConfig) (eff := effLaneConfig) h rfl heff rfl rfl rfl rfl rfl rfl

theorem laneConfig_unknown (hone : u8 q.body 0 = 1) (hnone : findSettings n (u8 q.body 1) s = none) :
    Completes (.laneConfig q) s fun t => Answers c .notFound 0 [] s t ∧ Books s t := by
  obtain rfl := h.isReq
  subst hn
  exact Runs.completes (sp := specLaneConfig) (eff := effLaneConfig) h rfl (effLaneConfig_unknown (hfree.marked c) hone hnone) rfl rfl rfl rfl
    rfl (markStarted_books c s)

theorem laneConfig_enables {e : LaneSet} {b : Bool} (hone : u8 q.body 0 = 1) (hsome : findSettings n (u8 q.body 1) s = some (e, b)) :
    Completes (.laneConfig q) s fun t => Answers c .ok 0 (e.bytes ++ le 1 (b2n b) ++ zeros 3) s t ∧
      (∃ looped r, t.lane n = { (s.lane n).disabled.enabled (u8 q.body 1) (u8 q.body 2) (bit (u8 q.body 3) 0) e b looped with prbsTx := r }) ∧
      (∀ k, k ≠ n → t.lane k = s.lane k) ∧ Books { s with lanes := t.lanes } t := by
  obtain rfl := h.isReq
  subst hn
  have heff := effLaneConfig_enables (hfree.marked c) hone hsome
  rw [hfree.laneDown h] at heff
  obtain ⟨v, hv⟩ : ∃ v, v = (markStarted c s).modLane c.req.index Lane.disabled := ⟨_, rfl⟩
  obtain ⟨u, hu⟩ : ∃ u, u = enableLane c.req.index (u8 c.req.body 1) (u8 c.req.body 2) (bit (u8 c.req.body 3) 0) e b v := ⟨_, rfl⟩
  obtain ⟨halone, looped, r, hlane⟩ := enableLane_alone c.req.index (u8 c.req.body 1) (u8 c.req.body 2) (bit (u8 c.req.body 3) 0) e b v
  have hdown : v.lane c.req.index = (s.lane c.req.index).disabled := by rw [hv, lane_modLane_same]; rfl
  rw [← hv, ← hu] at heff
  rw [← hu] at halone hlane
  rw [hdown] at hlane
  have hall : LaneAlone c.req.index s u := (((markStarted_books c s).laneAlone _).trans (hv ▸ modLane_laneAlone _ Lane.disabled _)).trans halone
  have hcmd : u.cmd = (markStarted c s).cmd := by rw [hu, enableLane_cmd, hv]; rfl
  obtain ⟨t, ht, hans, hb⟩ := Runs.completes (sp := specLaneConfig) (eff := effLaneConfig) h rfl heff hcmd
    (congrArg (·.tick) hall.rest.clk) (x := { s with lanes := u.lanes }) rfl rfl rfl hall.rest
  have hlanes : t.lanes = u.lanes := hb.lanes
  exact ⟨t, ht, hans, ⟨looped, r, (lane_of_lanes hlanes _).trans hlane⟩,
    fun k hk => (lane_of_lanes hlanes k).trans (hall.other k hk), hb.with_lanes⟩

end config

/-! ## LANE_QUERY (R249) -/

theorem laneQuery_answers {q : CmdReq} {c : Cmd} {s : State} (h : Runs 0x0602 q c s) : Completes (.laneQuery q) s fun t =>
    Answers c .ok 0 (le 4 (laneStatus q.index s) ++ (match (s.lane q.index).settings with | some x => x.bytes | none => zeros 16) ++
      le 1 (b2n (s.lane q.index).builtin) ++ zeros 3) s t ∧ Books s t := by
  obtain rfl := h.isReq
  exact Runs.completes (sp := specLaneQuery) (eff := effLaneQuery) h rfl rfl rfl rfl rfl rfl rfl (markStarted_books c s)

/-! ## LANE_IDLE (R235, R236, R249) -/

section idle

variable {c : Cmd} {s : State} (hst : (s.lane c.req.index).state = .locked) (he : (s.lane c.req.index).eidleAt = none)
  (hb : (s.lane c.req.index).burstEnd = none)

include hst he hb

theorem effLaneIdle_enters (hone : u8 c.req.body 0 = 1) (hidle : (s.lane c.req.index).txIdle = false)
    (hallow : idleAllowed c.req.index s = true) (hw : (s.worker c.req.index).state ≠ 4) (hx : (s.lane c.req.index).exitClock ≠ clockNo s) :
    effLaneIdle c s = .later (requestIdle c.req.index s) := by
  simp [effLaneIdle, settleIdle_steady he hb, hst, hone, hallow, hidle, he, hw, hx]

theorem effLaneIdle_idles (hone : u8 c.req.body 0 = 1) (hidle : (s.lane c.req.index).txIdle = true)
    (hallow : idleAllowed c.req.index s = true) : effLaneIdle c s = .ok [] s := by
  simp [effLaneIdle, settleIdle_steady he hb, hst, hone, hallow, hidle]

theorem effLaneIdle_wakes (hzero : u8 c.req.body 0 = 0) (hidle : (s.lane c.req.index).txIdle = true) :
    effLaneIdle c s = .later (requestWake true c.req.index s) := by
  simp [effLaneIdle, settleIdle_steady he hb, hst, hzero, hidle]

theorem effLaneIdle_awake (hzero : u8 c.req.body 0 = 0) (hidle : (s.lane c.req.index).txIdle = false) :
    effLaneIdle c s = .ok [] (s.modLane c.req.index fun x => { x with exitClock := clockNo s }) := by
  simp [effLaneIdle, settleIdle_steady he hb, hst, hzero, hidle, he]

end idle

/-- An entry request: 16 EIDLE blocks after the block under way. -/
theorem requestIdle_begins {n : Nat} {s : State} (he : (s.lane n).eidleAt = none) (hidle : (s.lane n).txIdle = false)
    (hx : (s.lane n).exitClock ≠ clockNo s) : requestIdle n s = s.modLane n fun x => { x with
      eidleAt := some ((s.clk.nowPs + blockPs (s.lane n).rate - 1) / blockPs (s.lane n).rate * blockPs (s.lane n).rate +
        16 * blockPs (s.lane n).rate) } := by
  simp [requestIdle, hidle, he, hx]

/-- The instant at which a training burst that begins now ends. -/
def burstStop (n : Nat) (s : State) : Nat := s.clk.nowPs + bitsPs (lineKbps (s.lane n).rate) (if pam4 (s.lane n).rate then 512 else 256)

theorem burstStop_markStarted (n : Nat) (c : Cmd) (s : State) : burstStop n (markStarted c s) = burstStop n s := rfl

/-- A lane that an exit request has reached. -/
def Lane.exited (clock : Nat) (x : Lane) : Lane := { x with exitClock := clock }

/-- A lane whose transmitter has left idle and sends a training burst. -/
def Lane.bursting (stop : Nat) (x : Lane) : Lane := { x with txIdle := false, burstEnd := some stop }

/-- The transmitter of lane n leaves idle with a training burst. -/
def trainingSent (n : Nat) (s : State) : State :=
  emit (.laneSymbols n (trainingBurst (s.lane n).rate)) ((s.modLane n (Lane.exited (clockNo s))).modLane n (Lane.bursting (burstStop n s)))

/-- A line takes nothing else before an instant. -/
def busyUntil (n stop : Nat) (s : State) : State :=
  { s with egressFree := SMap.set 0 s.egressFree n (max stop (SMap.get 0 s.egressFree n)) }

theorem requestWake_bursts {n : Nat} {s : State} (he : (s.lane n).eidleAt = none) (hb : (s.lane n).burstEnd = none)
    (hidle : (s.lane n).txIdle = true) : requestWake true n s = busyUntil n (burstStop n s) (trainingSent n s) := by
  simp only [requestWake, settleIdle_steady he hb, he, hidle, Bool.not_true, Bool.and_false, Bool.false_eq_true, if_true, if_false]
  rfl

theorem trainingSent_lane (n : Nat) (s : State) :
    (trainingSent n s).lane n = ((s.lane n).exited (clockNo s)).bursting (burstStop n s) :=
  (lane_modLane_same (s.modLane n (Lane.exited (clockNo s))) n (Lane.bursting (burstStop n s))).trans
    (congrArg (Lane.bursting _) (lane_modLane_same s n _))

theorem trainingSent_alone (n : Nat) (s : State) : LaneAlone n s (trainingSent n s) :=
  ((modLane_laneAlone n _ s).modLane _).books (emit_books _ _)

theorem trainingSent_cmd (n : Nat) (s : State) : (trainingSent n s).cmd = s.cmd := rfl

theorem trainingSent_out (n : Nat) (s : State) : (trainingSent n s).out = .laneSymbols n (trainingBurst (s.lane n).rate) :: s.out := rfl

theorem busyUntil_outer (n stop : Nat) (s : State) : Outer s (busyUntil n stop s) := ⟨rfl, rfl, rfl⟩

@[simp] theorem busyUntil_cmd (n stop : Nat) (s : State) : (busyUntil n stop s).cmd = s.cmd := rfl

@[simp] theorem busyUntil_out (n stop : Nat) (s : State) : (busyUntil n stop s).out = s.out := rfl

@[simp] theorem busyUntil_lanes (n stop : Nat) (s : State) : (busyUntil n stop s).lanes = s.lanes := rfl

theorem LaneAlone.busyUntil {n stop : Nat} {s t : State} (h : LaneAlone n s t) :
    Books { s with lanes := t.lanes, egressFree := (busyUntil n stop t).egressFree } (busyUntil n stop t) :=
  (congrArg (fun x : State => { x with egressFree := (Machine.busyUntil n stop t).egressFree }) h.rest.eq :)

section idle

variable {q : CmdReq} {c : Cmd} {s : State} {n : Nat} (hn : n = q.index) (h : Runs 0x0603 q c s) (hst : (s.lane n).state = .locked)
  (he : (s.lane n).eidleAt = none) (hb : (s.lane n).burstEnd = none)

include hn h hst he hb

theorem laneIdle_enters (hone : u8 q.body 0 = 1) (hidle : (s.lane n).txIdle = false) (hallow : idleAllowed n s = true)
    (hw : (s.worker n).state ≠ 4) (hx : (s.lane n).exitClock ≠ clockNo s) : Completes (.laneIdle q) s fun t => GoesOn c t ∧
      Books (s.modLane n fun x => { x with
        eidleAt := some ((s.clk.nowPs + blockPs (s.lane n).rate - 1) / blockPs (s.lane n).rate * blockPs (s.lane n).rate +
          16 * blockPs (s.lane n).rate) }) t := by
  obtain rfl := h.isReq
  subst hn
  have heff := effLaneIdle_enters (c := c) (s := markStarted c s) hst he hb hone hidle hallow hw hx
  rw [requestIdle_begins (s := markStarted c s) he hidle hx] at heff
  exact h.goesOn (sp := specLaneIdle) (eff := effLaneIdle) rfl heff ⟨(congrArg CmdState.executing h.marked :), rfl⟩

theorem laneIdle_idles (hone : u8 q.body 0 = 1) (hidle : (s.lane n).txIdle = true) (hallow : idleAllowed n s = true) :
    Completes (.laneIdle q) s fun t => Answers c .ok 0 [] s t ∧ Books s t := by
  obtain rfl := h.isReq
  subst hn
  exact Runs.completes (sp := specLaneIdle) (eff := effLaneIdle) h rfl
    (effLaneIdle_idles (c := c) (s := markStarted c s) hst he hb hone hidle hallow) rfl rfl rfl rfl rfl (markStarted_books c s)

theorem laneIdle_wakes (hzero : u8 q.body 0 = 0) (hidle : (s.lane n).txIdle = true) :
    Completes (.laneIdle q) s fun t => GoesOn c t ∧ (t.lane n).txIdle = false ∧ (t.lane n).burstEnd = some (burstStop n s) ∧
      t.out = .laneSymbols n (trainingBurst (s.lane n).rate) :: s.out ∧ Books { s with lanes := t.lanes, egressFree := t.egressFree } t := by
  obtain rfl := h.isReq
  subst hn
  have heff := effLaneIdle_wakes (c := c) (s := markStarted c s) hst he hb hzero hidle
  rw [requestWake_bursts (s := markStarted c s) he hb hidle] at heff
  obtain ⟨v, hv⟩ : ∃ v, v = trainingSent c.req.index (markStarted c s) := ⟨_, rfl⟩
  have hlane := hv ▸ trainingSent_lane c.req.index (markStarted c s)
  have hcmd := hv ▸ trainingSent_cmd c.req.index (markStarted c s)
  have hout := hv ▸ trainingSent_out c.req.index (markStarted c s)
  have halone : LaneAlone c.req.index s v := ((markStarted_books c s).laneAlone _).trans (hv ▸ trainingSent_alone ..)
  have houter := halone.outer.trans (busyUntil_outer c.req.index (burstStop c.req.index (markStarted c s)) v)
  rw [← hv] at heff
  rw [burstStop_markStarted] at heff houter hlane
  rw [markStarted_lane] at hout
  refine h.goesOn (sp := specLaneIdle) (eff := effLaneIdle) rfl heff ?_
  rw [houter.keep, GoesOn, busyUntil_cmd, busyUntil_out, busyUntil_lanes, lane_of_lanes (busyUntil_lanes ..), hcmd, h.marked]
  exact ⟨rfl, congrArg Lane.txIdle hlane, congrArg Lane.burstEnd hlane, hout, halone.busyUntil⟩

theorem laneIdle_awake (hzero : u8 q.body 0 = 0) (hidle : (s.lane n).txIdle = false) :
    Completes (.laneIdle q) s fun t => Answers c .ok 0 [] s t ∧ Books (s.modLane n fun x => { x with exitClock := clockNo s }) t := by
  obtain rfl := h.isReq
  subst hn
  exact Runs.completes (sp := specLaneIdle) (eff := effLaneIdle) h rfl
    (effLaneIdle_awake (c := c) (s := markStarted c s) hst he hb hzero hidle) rfl rfl rfl rfl rfl rfl

end idle

/-! ## MAC_CONFIG and MAC_QUERY (R250) -/

/-- MAC_CONFIG that keeps MODE stores the block, with the threshold at its start. -/
theorem effMacConfig_keeps {c : Cmd} {s : State} (hmode : (s.mac (c.req.index - 36)).cfg.mode = u8 c.req.body 0)
    (hlanes : ∀ n ∈ hostLanes (c.req.index - 36) (u8 c.req.body 0), (s.lane n).state ≠ .fault ∧ findSettings n 0 s ≠ none) :
    effMacConfig c s = .ok [] (s.setMac (c.req.index - 36)
      { s.mac (c.req.index - 36) with cfg := macOfBlock c.req.body, threshold := 256, cfgClock := clockNo s }) := by
  have hblock : (macOfBlock c.req.body).mode = u8 c.req.body 0 := rfl
  have hfault : (hostLanes (c.req.index - 36) (u8 c.req.body 0)).any (fun n => decide ((s.lane n).state = .fault)) = false :=
    List.any_eq_false.2 fun n hn => by simp [(hlanes n hn).1]
  have hfound : (hostLanes (c.req.index - 36) (u8 c.req.body 0)).any (fun n => (findSettings n 0 s).isNone) = false :=
    List.any_eq_false.2 fun n hn => by simp [(hlanes n hn).2]
  simp [effMacConfig, hblock, hmode, hfault, hfound]

theorem macConfig_stores {q : CmdReq} {c : Cmd} {s : State} {h : Nat} (hh : h = q.index - 36) (hr : Runs 0x0604 q c s)
    (hmode : (s.mac h).cfg.mode = u8 q.body 0)
    (hlanes : ∀ n ∈ hostLanes h (u8 q.body 0), (s.lane n).state ≠ .fault ∧ findSettings n 0 s ≠ none) :
    Completes (.macConfig q) s fun t => Answers c .ok 0 [] s t ∧
      Books (s.setMac h { s.mac h with cfg := macOfBlock q.body, threshold := 256, cfgClock := clockNo s }) t := by
  obtain rfl := hr.isReq
  subst hh
  exact Runs.completes (sp := specMacConfig) (eff := effMacConfig) hr rfl (effMacConfig_keeps (s := markStarted c s) hmode hlanes) rfl rfl rfl rfl
    rfl rfl

theorem macQuery_answers {q : CmdReq} {c : Cmd} {s : State} (h : Runs 0x0605 q c s) : Completes (.macQuery q) s fun t =>
    Answers c .ok 0 (macBlock (s.mac (q.index - 36)).cfg ++ le 4 (macStatus (q.index - 36) s) ++ zeros 4) s t ∧ Books s t := by
  obtain rfl := h.isReq
  exact Runs.completes (sp := specMacQuery) (eff := effMacQuery) h rfl rfl rfl rfl rfl rfl rfl (markStarted_books c s)

/-! ## The obligation -/

/-- Settles O29: each command has its own rule above. -/
theorem laneCommandsAnswer : Obligations.LaneCommandsAnswer := by
  unfold Obligations.LaneCommandsAnswer
  refine fun q c s => ⟨laneTableLoad_stores, ?config, laneQuery_answers, ?idle, fun h => macConfig_stores, macQuery_answers⟩
  case config =>
    intro n hn h hdom huse hst
    have hfree : ConfigFree n s := ⟨hdom, huse, hst⟩
    refine ⟨laneConfig_disables hn h hfree, fun e b hone hsome => ?_, laneConfig_unknown hn h hfree⟩
    obtain ⟨t, ht, hans, ⟨looped, r, hlane⟩, hother, hb⟩ := laneConfig_enables hn h hfree hone hsome
    refine ⟨t, ht, hans, ?_⟩
    rw [hlane]
    exact ⟨rfl, rfl, rfl, rfl, rfl, rfl, rfl, rfl, rfl, hother, hb⟩
  case idle =>
    rintro n x b hn rfl rfl h hst he hb
    exact ⟨laneIdle_enters hn h hst he hb, laneIdle_idles hn h hst he hb, laneIdle_wakes hn h hst he hb, laneIdle_awake hn h hst he hb⟩

end Sys2Proof.Machine
end

section
/-!
PROOFS. Host ports (09): received frames (R240–R243), underruns (R245) and the link (R239).
-/

namespace Sys2Proof.Machine

/-! ## What has gone out stays in the history -/

theorem putLane_out (n : Nat) (x : Out) (s : State) : s.out <:+ (putLane n x s).out := by
  unfold putLane
  split
  · split
    · split
      · exact List.suffix_rfl
      · exact List.suffix_cons _ _
    · exact List.suffix_cons _ _
  · exact List.suffix_rfl

theorem sendUp_out (c : Carried) (s : State) : s.out <:+ (sendUp c s).2.out := by
  unfold sendUp
  split
  · exact List.suffix_rfl
  · dsimp only
    exact List.IsSuffix.trans (by exact List.suffix_rfl) (putLane_out 0 _ _)

theorem copyEvent_out (r : Rec) (s : State) : s.out <:+ (copyEvent r s).out := by
  unfold copyEvent
  split
  · exact List.suffix_rfl
  · exact sendUp_out _ s

theorem enterEvent_out (r : Rec) (s : State) : s.out <:+ (enterEvent r s).out := by
  have hcopy := copyEvent_out r { s with evt := { s.evt with fifo := s.evt.fifo ++ [r] } }
  unfold enterEvent
  dsimp only
  split
  · exact hcopy.trans (List.suffix_cons _ _)
  · exact hcopy

theorem pushEvent_out (e : Ev) (k i d : Nat) (s : State) : s.out <:+ (pushEvent e k i d s).out := by
  unfold pushEvent
  dsimp only
  split
  · exact enterEvent_out _ s
  · exact List.suffix_rfl

theorem raiseOvf_out (k : Nat) (s : State) : s.out <:+ (raiseOvf k s).out := by
  have hpush := pushEvent_out .counterOvf 0 0 k { s with cnt := (addRaw Ev.counterOvf.counter 1 s.cnt).1 }
  unfold raiseOvf
  dsimp only
  split
  · exact hpush.trans (pushEvent_out _ _ _ _ _)
  · exact hpush

theorem addCounter_out (k n : Nat) (s : State) : s.out <:+ (addCounter k n s).out := by
  have hnote (b : Bool) : s.out <:+ (noteRc (incrementNotes + k) 0 n (if b then hwSet ovfStamps (ovfIndex k s.cnt) s else s)).out := by
    cases b <;> exact List.suffix_rfl
  unfold addCounter
  dsimp only
  split
  · exact (hnote _).trans (List.IsSuffix.trans (by exact List.suffix_rfl) (raiseOvf_out _ _))
  · exact hnote _

theorem raise_out (e : Ev) (k i d : Nat) (s : State) : s.out <:+ (raise e k i d s).out :=
  (addCounter_out _ _ s).trans (pushEvent_out _ _ _ _ _)

theorem count_out (c : Ctr) (n : Nat) (s : State) : s.out <:+ (count c n s).out := addCounter_out _ _ s

/-! ## One host port has changed -/

/-- A host port is read off the host ports alone. -/
theorem mac_of_macs {s t : State} (h : t.macs = s.macs) (k : Nat) : t.mac k = s.mac k := by
  simp only [State.mac, h]

theorem Books.mac {s t : State} (h : Books s t) (k : Nat) : t.mac k = s.mac k := mac_of_macs h.macs k

/-- Where beside the books host ports are said to have changed, they have changed into what the state holds. -/
theorem Books.with_macs {s t : State} {x : SMap Mac} (h : Books { s with macs := x } t) : Books { s with macs := t.macs } t := by
  obtain rfl : t.macs = x := h.macs
  exact h

/-- The mode of every host port is read off the settings. -/
theorem macMode_of_cfg {s t : State} (h : ∀ k, (t.mac k).cfg = (s.mac k).cfg) (k : Nat) : macMode k t = macMode k s := by
  simp only [macMode, h]

/-! ## Received frames (R240–R243) -/

theorem ptpReceive_rest (h : Nat) (d : Bytes) (ps : Nat) (s : State) :
    Books { s with ptp := (ptpReceive h d ps s).ptp } (ptpReceive h d ps s) := by
  have hset {u : State} (hb : Books s u) (x : Ptp) : Books { s with ptp := (u.setPtp h x).ptp } (u.setPtp h x) :=
    (congrArg (fun t : State => { t with ptp := (u.setPtp h x).ptp }) hb.eq :)
  unfold ptpReceive
  dsimp only
  split
  · exact .refl s
  · split
    · exact .refl s
    · split
      · exact hset (count_books _ _ s) _
      · exact hset (.refl s) _

/-- What waits for the upstream pipeline of a good frame: its bytes without the FCS, the port as its ingress. -/
def goodFrame (h : Nat) (data : Bytes) : Frame := { data := data.take (data.length - 4), ingress := 4 + h }

section received

variable {h : Fin 4} {s : State} {data : Bytes} {codeErr : Bool} (hon : On s) (hawake : asleep s = false) (hwaking : s.pwr.state ≠ .waking)
  (hkeep : s.pwr.state = .awake ∨ s.pwr.cfg.hostKeep = false) (hmode : macMode h s = 1 ∨ macMode h s = 2) (hlink : (s.mac h).link = true)

include hkeep in
/-- A frame wakes nothing on a part that is awake, or that no host frame wakes (16 Table 16.4). -/
theorem macWake_none : (if s.pwr.state = .awake then s else macWake h data s) = s := by
  rcases hkeep with ha | hk
  · exact if_pos ha
  · simp [macWake, hk]

include hmode hlink in
theorem macUp : ¬ ((macMode h s ≠ 1 ∧ macMode h s ≠ 2) ∨ (!(s.mac h).link) = true) := by
  rintro (⟨h1, h2⟩ | hdown)
  · exact hmode.elim h1 h2
  · simp [hlink] at hdown

include hon hawake hwaking hkeep hmode hlink

theorem frameReceived_overflows (hroom : macRoom h s < macHeld h s + (s.mac h).cfg.maxFrame + 4) :
    exec (.macFrameReceived h data codeErr) s = .next (keepOuter s (count .macRxOverflow h s)) := by
  refine congrArg Host.Outcome.next ((live_on hon _).trans (congrArg (keepOuter s) ?_))
  simp only [execMacFrameReceived, macUp hmode hlink, hawake, hwaking, macWake_none hkeep, hroom, decide_false, Bool.or_self,
    Bool.false_eq_true, if_true, if_false]

theorem frameReceived_filtered (hroom : macHeld h s + (s.mac h).cfg.maxFrame + 4 ≤ macRoom h s) (hlen : 6 ≤ data.length)
    (hpass : macPasses (s.mac h).cfg (data.take 6) = false) :
    exec (.macFrameReceived h data codeErr) s = .next (keepOuter s (count .macRxFiltered h s)) := by
  refine congrArg Host.Outcome.next ((live_on hon _).trans (congrArg (keepOuter s) ?_))
  simp only [execMacFrameReceived, macUp hmode hlink, hawake, hwaking, macWake_none hkeep, not_lt.2 hroom, not_lt.2 hlen, hpass,
    decide_false, Bool.or_self, Bool.not_false, Bool.false_eq_true, if_true, if_false]

theorem frameReceived_waits (hroom : macHeld h s + (s.mac h).cfg.maxFrame + 4 ≤ macRoom h s) (hlen : 6 ≤ data.length)
    (hpass : macPasses (s.mac h).cfg (data.take 6) = true) (hgood : macErrors (s.mac h).cfg data.length (fcsHolds data) codeErr = 0)
    (hdata : be16 data 12 ≠ 0x8808) : Completes (.macFrameReceived h data codeErr) s fun t =>
      t.waitUp = s.waitUp ++ [goodFrame h data] ∧ Books { s with waitUp := t.waitUp, ptp := t.ptp } t := by
  obtain ⟨u, hu⟩ : ∃ u, u = count .macRxFrames h
    (ptpReceive h (data.take (data.length - 4)) (s.clk.nowPs - (data.length + 1) * macBytePs h s) s) := ⟨_, rfl⟩
  have hx : execMacFrameReceived h data codeErr s = { u with waitUp := u.waitUp ++ [goodFrame h data] } := by
    simp only [execMacFrameReceived, macUp hmode hlink, hawake, hwaking, macWake_none hkeep, not_lt.2 hroom, not_lt.2 hlen, hpass, hgood,
      hdata, decide_false, Bool.or_self, Bool.not_true, Bool.false_eq_true, ne_eq, not_true_eq_false, if_false, ← hu, goodFrame]
  have hb : Books { s with ptp := u.ptp } u := by
    have hptp := (ptpReceive_rest h (data.take (data.length - 4)) (s.clk.nowPs - (data.length + 1) * macBytePs h s) s).trans
      (count_books .macRxFrames h _)
    rw [← hu] at hptp
    rw [hptp.ptp]
    exact hptp
  have hwait : u.waitUp = s.waitUp := hb.waitUp
  have hout : Outer s u := ⟨hb.pending, hb.hot_powered, hb.boot⟩
  exact live_completes hon _ hx (hout.trans ⟨rfl, rfl, rfl⟩) ⟨congrArg (· ++ [goodFrame h data]) hwait,
    (congrArg (fun t : State => { t with waitUp := u.waitUp ++ [goodFrame h data] }) hb.eq :)⟩

end received

/-! ## Underruns (R245) -/

/-- The threshold of a host port after an underrun: 128 more, or the value that waits for the whole frame. -/
def Mac.risen (m : Mac) : Nat := if m.cfg.maxFrame ≤ m.threshold + 128 then 0xFFFF else m.threshold + 128

/-- A host port whose frame in transmission has underrun in a clock: the threshold rises, unless a MAC_CONFIG of that clock resets it. -/
def Mac.underrun (m : Mac) (clock : Nat) : Mac :=
  { m with sending := none, threshold := if m.cfgClock = clock then 256 else m.risen }

/-- The frame in transmission is cut off, and the underrun is counted. -/
def cutOff (h : Nat) (s : State) : State :=
  count .macTxUnderrun h (emit (underrunEnd h s) (s.setMac h { (s.mac h).underrun (clockNo s) with sendCmd := none }))

/-- The frame is cut off, and the threshold that has risen is reported. -/
def cutOffReported (h : Nat) (s : State) : State :=
  if (s.mac h).cfgClock = clockNo (cutOff h s) then cutOff h s else raise .macTxThreshold 3 (36 + h) (s.mac h).risen (cutOff h s)

/-- From a state on, the line of a host port is free again after the FCS and the gap. -/
def gapFrom (h : Nat) (s : State) : State :=
  { s with egressFree := SMap.set 0 s.egressFree (32 + h) (s.clk.nowPs + (if macMode h s = 2 then 320 else 1280)) }

theorem cutOffReported_out (h : Nat) (s : State) : underrunEnd h s ∈ (cutOffReported h s).out := by
  have hcut : underrunEnd h s ∈ (cutOff h s).out := (count_out _ _ _).subset List.mem_cons_self
  unfold cutOffReported
  split
  · exact hcut
  · exact (raise_out ..).subset hcut

/-- A frame that belongs to no command leaves its port alone changed when it is cut off. -/
theorem cutOffReported_books {h : Nat} {s : State} (hcmd : (s.mac h).sendCmd = none) :
    Books (s.setMac h ((s.mac h).underrun (clockNo s))) (cutOffReported h s) := by
  have hmac : { (s.mac h).underrun (clockNo s) with sendCmd := none } = (s.mac h).underrun (clockNo s) := by rw [← hcmd]; rfl
  have hcut : Books (s.setMac h ((s.mac h).underrun (clockNo s))) (cutOff h s) := by
    unfold cutOff
    rw [hmac]
    exact (emit_books _ _).trans (count_books _ _ _)
  unfold cutOffReported
  split
  · exact hcut
  · exact hcut.trans (raise_books ..)

theorem execMacTxUnderrun_cuts {h : Nat} {s : State} (hs : (s.mac h).sending ≠ none) (hcmd : (s.mac h).sendCmd = none)
    (hth : (s.mac h).threshold ≠ 0xFFFF) (hfree : s.clk.nowPs < SMap.get 0 s.egressFree (32 + h)) :
    execMacTxUnderrun h s = gapFrom h (cutOffReported h s) := by
  have hsome : (s.mac h).sending.isNone = false := Option.isNone_eq_false_iff.2 (Option.isSome_iff_ne_none.2 hs)
  unfold execMacTxUnderrun
  dsimp only
  rw [if_neg (by simp [hsome, hth, hfree]), hcmd]
  rfl

theorem macTxUnderrun_ends {h : Fin 4} {s : State} (hon : On s) (hs : (s.mac h).sending ≠ none) (hcmd : (s.mac h).sendCmd = none)
    (hth : (s.mac h).threshold ≠ 0xFFFF) (hfree : s.clk.nowPs < SMap.get 0 s.egressFree (32 + h.val)) :
    Completes (.macTxUnderrun h) s fun t => t.mac h = (s.mac h).underrun (clockNo s) ∧ underrunEnd h s ∈ t.out ∧
      SMap.get 0 t.egressFree (32 + h.val) = s.clk.nowPs + (if macMode h s = 2 then 320 else 1280) ∧
      Books { s with macs := t.macs, egressFree := t.egressFree } t := by
  obtain ⟨u, hu⟩ : ∃ u, u = cutOffReported h s := ⟨_, rfl⟩
  have hb : Books (s.setMac h ((s.mac h).underrun (clockNo s))) u := hu ▸ cutOffReported_books hcmd
  have hcfg (k : Nat) : (u.mac k).cfg = (s.mac k).cfg := by
    rw [hb.mac]
    by_cases hk : k = h.val
    · rw [hk, mac_setMac_same]
      rfl
    · rw [mac_setMac_other s hk]
  have hout : Outer s u := (setMac_outer _ _ s).trans hb.outer
  refine live_completes hon _ ((execMacTxUnderrun_cuts hs hcmd hth hfree).trans (congrArg (gapFrom h) hu.symm)) (hout.trans ⟨rfl, rfl, rfl⟩)
    ⟨?_, ?_, ?_, ?_⟩
  · exact (hb.mac h).trans (mac_setMac_same ..)
  · exact hu ▸ cutOffReported_out h s
  · exact (SMap.get_set_same ..).trans (by rw [macMode_of_cfg hcfg, hb.clk]; rfl)
  · exact (congrArg (fun t : State => { t with egressFree := (gapFrom h u).egressFree }) hb.with_macs.eq :)

/-! ## The link (R239) -/

theorem macLink_changes {h : Fin 4} {s : State} (hon : On s) (up b : Bool) (hl : (s.mac h).link ≠ b)
    (hx : execMacLinkChange h up s = setMacLink h b s) : Completes (.macLinkChange h up) s fun t =>
      t.mac h = { s.mac h with link := b } ∧ (∀ k, k ≠ h.val → t.mac k = s.mac k) ∧ Books { s with macs := t.macs } t := by
  have hb := setMacLink_changes hl
  refine live_completes hon _ hx ((setMac_outer _ _ s).trans hb.outer) ⟨?_, fun k hk => ?_, hb.with_macs⟩
  · rw [hb.mac, mac_setMac_same]
  · rw [hb.mac, mac_setMac_other s hk]

theorem macLink_falls {h : Fin 4} {s : State} (hon : On s) (hl : (s.mac h).link = true) : Completes (.macLinkChange h false) s fun t =>
    t.mac h = { s.mac h with link := false } ∧ (∀ k, k ≠ h.val → t.mac k = s.mac k) ∧ Books { s with macs := t.macs } t :=
  macLink_changes hon false false (by simp [hl]) rfl

theorem macLink_rises {h : Fin 4} {s : State} (hon : On s) (hl : (s.mac h).link = false) (hmode : macMode h s = 1 ∨ macMode h s = 2)
    (hdomain : domainOn 10 s = true) (hlanes : ∀ n ∈ hostLanes h (macMode h s), (s.lane n).state = .waitSignal) :
    Completes (.macLinkChange h true) s fun t =>
      t.mac h = { s.mac h with link := true } ∧ (∀ k, k ≠ h.val → t.mac k = s.mac k) ∧ Books { s with macs := t.macs } t := by
  have hall : (hostLanes h (macMode h s)).all (fun n => decide ((s.lane n).state = .waitSignal)) = true :=
    List.all_eq_true.2 fun n hn => decide_eq_true (hlanes n hn)
  exact macLink_changes hon true true (by simp [hl]) (if_pos ⟨hmode, hdomain, hall⟩)

/-! ## The obligation -/

/-- Settles O30: each row has its own rule above. -/
theorem macRowsTakeEffect : Obligations.MacRowsTakeEffect := fun _ _ hon =>
  ⟨fun _ _ hawake hwaking hkeep hmode hlink =>
      ⟨frameReceived_overflows hon hawake hwaking hkeep hmode hlink, frameReceived_filtered hon hawake hwaking hkeep hmode hlink,
        frameReceived_waits hon hawake hwaking hkeep hmode hlink⟩,
    macTxUnderrun_ends hon, macLink_falls hon, macLink_rises hon⟩

end Sys2Proof.Machine
end

section
/-!
PROOFS. Reads that clear (00 R11; 09 R246; 14 R355): what a note of the present clock that stands behind an older one of the same key
does to a read of that clock.
-/

namespace Sys2Proof.Machine

/-- A part on which MEM_ECC.UNCORRECTED is noted twice: a note of no clock hides one of the present clock. -/
def twiceNoted : State :=
  { State.reset with dev := { quill := 3 }, notes := [(2 * 0xA0000, {}), (2 * 0xA0000, { clock := 1, added := 1 })] }

theorem twiceNoted_reaches : Reaches .spi twiceNoted := ⟨⟨⟨rfl, rfl⟩, rfl⟩, rfl⟩

theorem twiceNoted_plain : Plain twiceNoted := ⟨rfl, rfl⟩

/-- The same part after a correction in memory group 16. -/
def twiceNotedCorrected : State := live (escalate (execMemError 16 0 true)) twiceNoted

/-- The correction drops the note of no clock, and a read of its clock takes the one behind it for an error that came after it. -/
theorem twiceNotedCorrected_read : (via .spi (execMemEccRead .spi true) twiceNotedCorrected).mem.uncorrected = 1 := by decide +kernel

/-- Refutes O8, in its clause on a correction in the clock of a read of MEM_ECC: the clause asks that no update of UNCORRECTED be noted
in the present clock, but of a list of notes that is not in the canonical form of a sparse map this speaks of the first note of the
key alone. Where a stale note hides a current one, the correction's own note drops the stale one, and the read leaves UNCORRECTED at 1.
The statement does not ask for the canonical form; no run is claimed to reach such a state. -/
theorem not_clearingReadsLoseNothing : ¬ Obligations.ClearingReadsLoseNothing := by
  unfold Obligations.ClearingReadsLoseNothing
  intro h
  obtain ⟨-, hecc, -⟩ := h .spi twiceNoted twiceNoted_reaches
  obtain ⟨_, -, -, herror⟩ := hecc _ rfl
  obtain ⟨-, hclock⟩ := herror 16 0 twiceNoted_plain (by decide) (by decide)
  obtain ⟨u, hu, v, hv, -, -, hzero⟩ := hclock rfl rfl
  obtain rfl : twiceNotedCorrected = u := Host.Outcome.next.inj hu
  obtain rfl : via .spi (execMemEccRead .spi true) twiceNotedCorrected = v := Host.Outcome.next.inj hv
  exact absurd (twiceNotedCorrected_read.symm.trans hzero) (by decide)

end Sys2Proof.Machine
end

section
/-!
PROOFS. Ranging (10 R260, R261): what each row asks, answers, measures, and takes for its result.
-/

namespace Sys2Proof.Machine

/-! ## Requests and responses (R260) -/

theorem rangingExchange_asks {s u : State} (h : On s) (w : Fin 36) (hranges : rangesLane w s = true) (hlane : mapiynLane w s = true)
    (hmore : (s.worker w).rtts.length + (s.worker w).asked.length < 8) (hu : u = advanceTo (s.worker w).rangeNextPs s) :
    exec (.rangingExchange w) s = .next
      (sendBlock w 0x4B (((s.worker w).rangeSeq + 1) % 256) (u.modWorker w fun x => { x with
        ranging := true, rangeSeq := ((s.worker w).rangeSeq + 1) % 256, rangeNextPs := u.clk.nowPs + 1000000
        asked := (s.worker w).asked ++ [(((s.worker w).rangeSeq + 1) % 256, u.clk.nowPs)] })) := by
  subst hu
  have hdue : ¬ (!rangesLane w s || !mapiynLane w s || decide (8 ≤ (s.worker w).rtts.length + (s.worker w).asked.length)) = true := by
    simp [hranges, hlane, hmore]
  exact congrArg Host.Outcome.next (live_eq h (if_neg hdue)
    ((advanceTo_outer _ s).trans ((modWorker_outer _ _ _).trans (sendBlock_books _ _ _ _).outer)))

theorem rangeReqRx_answers {s : State} (h : On s) (lane : Fin 36) (seq : Byte) (hpart : workerPart lane s = true) :
    ∃ turn, turn < 2 ^ 24 ∧ exec (.rangeReqRx lane seq) s = .next
      (sendBlock lane 0x4C (seq.toNat + turn * 2 ^ 8) { s with freeCtr := s.freeCtr + 1 }) := by
  refine ⟨(takeFree 24 s).1, Nat.mod_lt _ (by decide), congrArg Host.Outcome.next (live_eq h (if_pos hpart) ?_)⟩
  exact Outer.trans (t := { s with freeCtr := s.freeCtr + 1 }) ⟨rfl, rfl, rfl⟩ (sendBlock_books _ _ _ _).outer

/-! ## A change of a worker's state (R258) -/

/-- A worker that leaves any state but W1 does so with its event alone. -/
theorem setWorkerState_moves {w st : Nat} {s : State} (hnew : (s.worker w).state ≠ st) (hold : (s.worker w).state ≠ 1) :
    setWorkerState w st s =
      raise .workerStateChange 2 w ((s.worker w).state + 256 * st) (s.modWorker w fun x => { x with state := st }) := by
  simp only [setWorkerState, hnew, hold, if_false]

/-! ## Results (R261) -/

/-- A worker whose ranging is over. -/
def Worker.rangingOver (x : Worker) : Worker := { x with ranging := false, rtts := [], asked := [], rerange := false }

/-- A worker whose delay has been found good and is to be acknowledged. -/
def Worker.aligning (d : Nat) (x : Worker) : Worker := { x with alignDelay := d, retries := 0, backoff := none, aligned := false }

/-- A worker whose ranging has failed: it is ranged again after a backoff that starts now. -/
def Worker.backingOff (now : Word) (x : Worker) : Worker :=
  { x with retries := min 255 (x.retries + 1), backoff := some (now, min 8192 (64 * 2 ^ (min (x.retries + 1) 8 - 1))) }

/-- A good result of a first ranging leads the worker to W3, with its event, and sends ALIGN. -/
theorem rangingResult_first {w d : Nat} {s : State} (hw : w < 32) (hre : (s.worker w).rerange = false) :
    ∃ v, rangingResult w (some d) s = sendBlock w 0x4D d (setWorkerState w 3 v) ∧ Outer s v ∧ v.lanes = s.lanes ∧ v.pair = s.pair ∧
      v.worker w = (s.worker w).rangingOver.aligning d := by
  refine ⟨((s.modWorker w Worker.rangingOver).modWorker w
    (fun x => { x with alignDelay := d, retries := 0, backoff := none })).modWorker w (fun x => { x with aligned := false }),
    ?_, ((modWorker_outer _ _ _).trans (modWorker_outer _ _ _)).trans (modWorker_outer _ _ _), ?_, ?_, ?_⟩
  · simp only [rangingResult, hre, hw, Bool.false_eq_true, if_true, if_false]
    rfl
  · simp only [State.modWorker_lanes]
  · simp only [State.modWorker_pair]
  · simp only [worker_modWorker_same]
    rfl

theorem rangingResult_accepts {w d : Nat} {s : State} (hw : w < 32) (hst : (s.worker w).state = 2) (hre : (s.worker w).rerange = false)
    (ht : (s.lane w).transmits = true) (hp : pairStandby s = false) : ∃ u, rangingResult w (some d) s = emit (.block w 0x4D d) u ∧
      Outer s u ∧ u.worker w = { ((s.worker w).rangingOver.aligning d) with state := 3 } := by
  obtain ⟨v, hx, hout, hlanes, hpair, hworker⟩ := rangingResult_first (d := d) hw hre
  have hstate : (v.worker w).state = 2 := by rw [hworker]; exact hst
  have hmoves := setWorkerState_moves (st := 3) (s := v) (by rw [hstate]; decide) (by rw [hstate]; decide)
  have hraise := raise_books .workerStateChange 2 w ((v.worker w).state + 256 * 3) (v.modWorker w fun x => { x with state := 3 })
  rw [← hmoves] at hraise
  have ht' : ((setWorkerState w 3 v).lane w).transmits = true := by rw [lane_of_lanes (hraise.lanes.trans hlanes)]; exact ht
  have hp' : pairStandby (setWorkerState w 3 v) = false := by simp only [pairStandby, hraise.pair.trans hpair]; exact hp
  refine ⟨setWorkerState w 3 v, hx.trans (sendBlock_sent ht' hp' _ _), ?_, ?_⟩
  · exact hout.trans ((modWorker_outer _ _ _).trans hraise.outer)
  · rw [hraise.worker, worker_modWorker_same, hworker]

theorem modWorker_of_worker {w : Nat} {x : Worker} {s : State} {f : Worker → Worker} (h : s.worker w = x) :
    s.modWorker w f = s.setWorker w (f x) := by rw [State.modWorker, h]

/-- A failed first ranging is counted, and the worker backs off. -/
theorem rangingResult_fails {w : Nat} {s : State} (hw : w < 32) (hre : (s.worker w).rerange = false) :
    ∃ u, Books (s.modWorker w Worker.rangingOver) u ∧
      rangingResult w none s = u.setWorker w ((s.worker w).rangingOver.backingOff (ownTick u)) := by
  have hb := count_books .rangeRetry w (s.modWorker w Worker.rangingOver)
  refine ⟨_, hb, ?_⟩
  have hworker := (hb.worker w).trans (worker_modWorker_same s w Worker.rangingOver)
  simp only [rangingResult, hre, hw, Bool.false_eq_true, if_true, if_false]
  exact modWorker_of_worker hworker

/-! ## The rows of responses (R260, R261) -/

/-- A worker with a further round trip, from the request of a number. -/
def Worker.timed (rtts : List Int) (seq : Nat) (x : Worker) : Worker :=
  { x with rtts, asked := x.asked.filter (fun a => a.1 ≠ seq) }

/-- A worker with the spread of its round trips, in 1/16 ns. -/
def Worker.spreadTo (spread : Int) (x : Worker) : Worker := { x with spread := min 65535 (spread.toNat / 125) }

section response

variable {s : State} {w : Fin 32} {seq : Byte} {turn : BitVec 24} {t1 t4 : Nat} {rtts : List Int} (hlane : mapiynLane w s = true)
  (hranging : (s.worker w).ranging = true)
  (hasked : (s.worker w).asked.find? (fun a => decide (a.1 = seq.toNat)) = some (seq.toNat, t1))
  (hrtts : rtts = (s.worker w).rtts ++ [2 * ((t4 : Int) - t1) - 125 * (turn.toNat : Int)])

include hlane hranging hasked hrtts

theorem execRangeRspRx_records (hfew : rtts.length < 8) :
    execRangeRspRx w seq turn.toNat t4 s = (advanceTo t4 s).modWorker w (Worker.timed rtts seq.toNat) := by
  simp only [execRangeRspRx, hlane, hranging, Bool.and_self, if_true, hasked, ← hrtts, hfew]
  rfl

theorem execRangeRspRx_judges {d : Nat} (hall : 8 ≤ rtts.length) (hd : meanDelay rtts + (s.worker w).asymNow = d)
    (hmax : d ≤ 16 * (s.worker w).maxDelayNow) (hspread : rttSpread rtts ≤ 4000) : execRangeRspRx w seq turn.toNat t4 s =
      rangingResult w (some d) (((advanceTo t4 s).modWorker w (Worker.timed rtts seq.toNat)).modWorker w
        (Worker.spreadTo (rttSpread rtts))) := by
  have hgood : 0 ≤ (d : Int) ∧ (d : Int) ≤ 16 * ((s.worker w).maxDelayNow : Int) ∧ rttSpread rtts ≤ 4000 :=
    ⟨Int.natCast_nonneg d, by exact_mod_cast hmax, hspread⟩
  simp only [execRangeRspRx, hlane, hranging, Bool.and_self, if_true, hasked, ← hrtts, hd, if_pos hgood, Nat.not_lt.2 hall, if_false,
    Int.toNat_natCast]
  rfl

theorem rangeRspRx_records (h : On s) (hfew : rtts.length < 8) : exec (.rangeRspRx ⟨w.val, by omega⟩ seq turn t4) s = .next
    ((advanceTo t4 s).modWorker w fun x => { x with rtts := rtts, asked := x.asked.filter (fun a => a.1 ≠ seq.toNat) }) :=
  congrArg Host.Outcome.next (live_eq h (execRangeRspRx_records hlane hranging hasked hrtts hfew)
    ((advanceTo_outer _ s).trans (modWorker_outer _ _ _)))

theorem rangeRspRx_accepts (h : On s) (d : Nat) (hall : 8 ≤ rtts.length) (hd : meanDelay rtts + (s.worker w).asymNow = d)
    (hmax : d ≤ 16 * (s.worker w).maxDelayNow) (hspread : rttSpread rtts ≤ 4000) (hre : (s.worker w).rerange = false)
    (hst : (s.worker w).state = 2) (ht : (s.lane w).transmits = true) (hp : pairStandby s = false) :
    Completes (.rangeRspRx ⟨w.val, by omega⟩ seq turn t4) s fun t => (t.worker w).state = 3 ∧ (t.worker w).alignDelay = d ∧
      (t.worker w).ranging = false ∧ (t.worker w).retries = 0 ∧ t.out.head? = some (.block w 0x4D d) := by
  obtain ⟨v, hv⟩ : ∃ v, v = ((advanceTo t4 s).modWorker w (Worker.timed rtts seq.toNat)).modWorker w
    (Worker.spreadTo (rttSpread rtts)) := ⟨_, rfl⟩
  have hworker : v.worker w = ((s.worker w).timed rtts seq.toNat).spreadTo (rttSpread rtts) := by
    rw [hv, worker_modWorker_same, worker_modWorker_same]
    rfl
  have hout : Outer s v := hv ▸ ((advanceTo_outer _ s).trans (modWorker_outer _ _ _)).trans (modWorker_outer _ _ _)
  have hlanes : v.lanes = s.lanes := by rw [hv]; rfl
  have hpair : v.pair = s.pair := by rw [hv]; rfl
  obtain ⟨u, hx, huv, hu⟩ := rangingResult_accepts (s := v) (d := d) w.isLt (by rw [hworker]; exact hst) (by rw [hworker]; exact hre)
    (by rw [lane_of_lanes hlanes]; exact ht) (by simp only [pairStandby, hpair]; exact hp)
  have hrow := ((execRangeRspRx_judges hlane hranging hasked hrtts hall hd hmax hspread).trans (congrArg _ hv.symm)).trans hx
  refine live_completes h _ hrow ((hout.trans huv).trans (emit_outer _ u)) ?_
  rw [show (emit (.block w 0x4D d) u).worker w = _ from hu]
  exact ⟨rfl, rfl, rfl, rfl, rfl⟩

end response

theorem rangeRspTimeout_fails {s : State} (h : On s) (w : Fin 32) (q at' : Nat) (l : List (Nat × Nat))
    (hasked : (s.worker w).asked = (q, at') :: l) (hranging : (s.worker w).ranging = true) (hre : (s.worker w).rerange = false) :
    Completes (.rangeRspTimeout ⟨w.val, by omega⟩) s fun t => (t.worker w).ranging = false ∧ (t.worker w).asked = [] ∧
      (t.worker w).retries = min 255 ((s.worker w).retries + 1) ∧
      (t.worker w).backoff = some (ownTick s, min 8192 (64 * 2 ^ (min ((s.worker w).retries + 1) 8 - 1))) ∧
      t.clk.nowPs = max s.clk.nowPs (at' + 10000000) := by
  obtain ⟨u, hb, hfail⟩ := rangingResult_fails (s := advanceTo (at' + 10000000) s) w.isLt hre
  have hx : execRangeRspTimeout w s = rangingResult w none (advanceTo (at' + 10000000) s) := by
    simp only [execRangeRspTimeout, hasked, hranging, if_true]
  have hclk : u.clk = (advanceTo (at' + 10000000) s).clk := hb.clk
  have htick : ownTick u = ownTick s := by simp only [ownTick, hclk]; rfl
  refine live_completes h _ (hx.trans hfail) (((advanceTo_outer _ s).trans (modWorker_outer _ _ _)).trans
    (hb.outer.trans ⟨rfl, rfl, rfl⟩)) ?_
  rw [worker_setWorker_same, htick, State.setWorker_clk, hclk]
  exact ⟨rfl, rfl, rfl, rfl, rfl⟩

theorem rangingBackoffExpiry_starts {s : State} (h : On s) (w : Fin 32) (since : Word) (n : Nat)
    (hback : (s.worker w).backoff = some (since, n)) (hrun : n ≤ ticksSince since s) (hst : (s.worker w).state = 2)
    (hheld : (s.worker w).dupHeld = false) : exec (.rangingBackoffExpiry ⟨w.val, by omega⟩) s = .next
      (startRanging w false (s.modWorker w fun x => { x with backoff := none })) := by
  have hx : execRangingBackoffExpiry w s = startRanging w false (s.modWorker w fun x => { x with backoff := none }) := by
    simp only [execRangingBackoffExpiry, hback, Nat.not_lt.2 hrun, w.isLt, worker_modWorker_same, hst, hheld, if_true, if_false]
    rfl
  exact congrArg Host.Outcome.next (live_eq h hx ((modWorker_outer _ _ s).trans (modWorker_outer _ _ _)))

/-! ## The obligation -/

/-- Settles O32: each row has its own rule above. -/
theorem rangingRowsTakeEffect : Obligations.RangingRowsTakeEffect := fun _ h =>
  ⟨fun w _ => rangingExchange_asks h w, rangeReqRx_answers h,
    fun _ _ _ _ _ _ hlane hranging hasked hrtts => ⟨rangeRspRx_records hlane hranging hasked hrtts h,
      fun d => rangeRspRx_accepts hlane hranging hasked hrtts h d⟩,
    rangeRspTimeout_fails h, rangingBackoffExpiry_starts h⟩

end Sys2Proof.Machine
end

section
/-!
PROOFS. A worker that leaves or is lost (10 R278–R281), and the timeouts of what goes to it (10 R284; 19 R428).
-/

namespace Sys2Proof.Machine

/-! ## The way to W1 (R258, R281) -/

theorem setWorkerState_state (w st : Nat) (s : State) : ((setWorkerState w st s).worker w).state = st := by
  unfold setWorkerState
  dsimp only
  split
  · assumption
  · rw [(raise_books _ _ _ _ _).worker, worker_modWorker_same]

/-- Whatever it was, a worker that begins to identify is in W1, without a version. -/
theorem workerToW1_enters (w : Nat) (s : State) : ((workerToW1 w s).worker w).state = 1 ∧ ((workerToW1 w s).worker w).version = 0 := by
  have hheld := recheckHeld_sameWorker w (forgotten w (setWorkerState w 1 (workerCleanup w s)))
  have hforget := forgotten_worker w (setWorkerState w 1 (workerCleanup w s))
  exact ⟨hheld.state.trans ((congrArg Worker.state hforget).trans (setWorkerState_state w 1 _)),
    hheld.version.trans (congrArg Worker.version hforget)⟩

/-- So is one that leaves, whichever of its pulls stay open. -/
theorem leaveToW1_enters (w : Nat) (s : State) : ((leaveToW1 w s).worker w).state = 1 ∧ ((leaveToW1 w s).worker w).version = 0 := by
  have henters := workerToW1_enters w (s.modWorker w fun x => { x with pulls := [] })
  unfold leaveToW1
  extract_lets old u
  change (u.worker w).state = 1 ∧ (u.worker w).version = 0 at henters
  clear_value u old
  split
  · exact henters
  · rw [worker_modWorker_same]
    exact henters

/-! ## LEAVE and LEAVE_ACK (R281) -/

/-- A worker in W4 that leaves enters W1, once its queues have been drained and LEAVE_ACK has been sent. -/
theorem execLeaveRx_ofWorker {lane : Nat} {s : State} (hlane : mapiynLane lane s = true) (hrole : s.dev.role ≠ 2)
    (hst : (s.worker lane).state = 4) : ∃ u, execLeaveRx lane s = leaveToW1 lane u := by
  simp only [execLeaveRx, hlane, hrole, hst, Bool.not_true, Bool.false_eq_true, not_true_eq_false, ne_eq, if_false]
  exact ⟨_, rfl⟩

section leave

variable {s : State} {lane : Fin 32} (h : On s) (hlane : mapiynLane lane s = true)

include h hlane

theorem leaveRx_ofManager (reason : Byte) (hrole : s.dev.role = 2) :
    exec (.leaveRx lane reason) s = .next (keepOuter s (sendBlock 0 0x79 0 (roleLost s))) := by
  have hx : execLeaveRx lane s = sendBlock 0 0x79 0 (roleLost s) := by
    simp only [execLeaveRx, hlane, hrole, Bool.not_true, Bool.false_eq_true, if_true, if_false]
  exact congrArg Host.Outcome.next ((live_on h _).trans (congrArg (keepOuter s) hx))

theorem leaveRx_ofWorker (reason : Byte) (hrole : s.dev.role ≠ 2) (hst : (s.worker lane).state = 4) :
    Completes (.leaveRx lane reason) s fun t => (t.worker lane).state = 1 ∧ (t.worker lane).version = 0 := by
  obtain ⟨u, hx⟩ := execLeaveRx_ofWorker hlane hrole hst
  refine completes_live (f := execLeaveRx lane) h ?_
  rw [keepOuter_worker, hx]
  exact leaveToW1_enters lane u

theorem leaveAckRx_ofManager (hrole : s.dev.role = 2) :
    exec (.leaveAckRx lane) s = .next { s with role := { s.role with leaving := none } } := by
  have hx : execLeaveAckRx lane s = { s with role := { s.role with leaving := none } } := by
    simp only [execLeaveAckRx, hlane, hrole, Bool.not_true, Bool.false_eq_true, if_true, if_false]
  exact congrArg Host.Outcome.next (live_eq h hx ⟨rfl, rfl, rfl⟩)

theorem leaveAckRx_ofWorker (hrole : s.dev.role ≠ 2) (hsent : (s.worker lane).leaveSent = true) :
    Completes (.leaveAckRx lane) s fun t => (t.worker lane).state = 1 ∧ (t.worker lane).version = 0 := by
  refine completes_live (f := execLeaveAckRx lane) h ?_
  simp only [keepOuter_worker, execLeaveAckRx, hlane, hrole, hsent, Bool.not_true, Bool.false_eq_true, if_true, if_false]
  exact leaveToW1_enters lane s

end leave

/-! ## The removal hold (R280) -/

/-- What holds of the default and of every entry of a key holds of what the key reads as. -/
theorem SMap.get_of_all {α : Type} {P : α → Prop} {d : α} {k : Nat} {m : SMap α} (hd : P d) (hm : ∀ e ∈ m, e.1 = k → P e.2) :
    P (SMap.get d m k) := by
  induction m with
  | nil => exact hd
  | cons e m ih =>
    obtain ⟨j, v⟩ := e
    rw [SMap.get]
    split
    · next hj => exact hm (j, v) List.mem_cons_self hj
    · exact ih fun e he => hm e (List.mem_cons_of_mem _ he)

/-- The queues with n of them, from a on, emptied. -/
def emptied (a n : Nat) (m : SMap Queue) : SMap Queue :=
  (m.map (fun e => (e.1, if decide (a ≤ e.1 ∧ e.1 < a + n) then { e.2 with frames := [], deficit := 0 } else e.2))).filter
    (fun e => e.2 ≠ {})

theorem emptied_frames {a n q : Nat} (ha : a ≤ q) (hn : q < a + n) (m : SMap Queue) : (SMap.get {} (emptied a n m) q).frames = [] := by
  refine SMap.get_of_all (P := fun x : Queue => x.frames = []) rfl fun e he hq => ?_
  obtain ⟨e', -, rfl⟩ := List.mem_map.1 (List.mem_filter.1 he).1
  obtain rfl : e'.1 = q := hq
  simp [ha, hn]

theorem removalHoldExpiry_flushes {s : State} (h : On s) (w : Fin 32) (hrole : s.dev.role = 1) (hst : (s.worker w).state = 0)
    (hfl : (s.worker w).flushed = false) (hheld : (s.worker w).cfg.removalHold ≤ ticksSince ((s.worker w).w0Tick.getD 0) s) :
    Completes (.removalHoldExpiry w) s fun t =>
      (∀ q, 8192 + 64 * w.val ≤ q → q < 8192 + 64 * w.val + 64 → (t.queue q).frames = []) ∧ (t.worker w).flushed = true ∧
      Books { s with queues := t.queues, workers := t.workers } t := by
  obtain ⟨u, hu⟩ : ∃ u, u = State.modWorker w (fun x => { x with flushed := true })
    { s with queues := emptied (8192 + 64 * w.val) 64 s.queues } := ⟨_, rfl⟩
  have hx : execRemovalHoldExpiry w s = countN .workerQueueFlushed w (portFrames w s) u := by
    simp only [execRemovalHoldExpiry, hrole, hst, hfl, hheld, portQueues, w.isLt, hu, decide_true, Bool.not_false, Bool.and_self, if_true]
    rfl
  have hb := countN_books .workerQueueFlushed w (portFrames w s) u
  have hqueues : u.queues = emptied (8192 + 64 * w.val) 64 s.queues := by rw [hu]; rfl
  have hflushed : (u.worker w).flushed = true := by rw [hu, worker_modWorker_same]
  have hout : Outer s u := by rw [hu]; exact ⟨rfl, rfl, rfl⟩
  have hs : { s with queues := u.queues, workers := u.workers } = u := by rw [hu]; rfl
  refine live_completes h _ hx (hout.trans hb.outer) ⟨fun q hlo hhi => ?_, ?_, ?_⟩
  · rw [State.queue, hb.queues, hqueues]
    exact emptied_frames hlo hhi _
  · rw [hb.worker]
    exact hflushed
  · rw [hb.queues, hb.workers, hs]
    exact hb

/-! ## Timeouts (R284, 19 R428) -/

theorem workerCmdTimeout_answers {s : State} (w : Fin 32) (c : Cmd) (h : Begun 0x0615 c s)
    (hsent : (s.worker w).tunnel.contains c.seq = true) (hlate : 16000 ≤ (s.clk.tick - c.tick).toNat) :
    Completes (.workerCmdTimeout w c.seq) s fun t => Answers c .peerAbsent 1 [] s t ∧
      Books (s.modWorker w fun x => { x with tunnel := x.tunnel.filter (· ≠ c.seq) }) t := by
  have hx : execWorkerCmdTimeout w c.seq s =
      complete c .peerAbsent 1 [] (s.modWorker w fun x => { x with tunnel := x.tunnel.filter (· ≠ c.seq) }) := by
    simp only [execWorkerCmdTimeout, h.alone, List.find?_cons_of_pos, decide_true, hsent, hlate, Bool.and_self, if_true]
  exact h.completes hx rfl rfl rfl rfl rfl

/-- An image that has been sent ends with the status of its command. -/
theorem endImage_completes {w : Nat} {st : Status} {r : ImageRun} {c : Cmd} {s : State} (hrun : SMap.get none s.boot.images w = some r)
    (halone : s.cmd.executing = [c]) (hcmd : c.seq = r.cmd) : endImage w st s =
      complete c st 0 (if st = .ok then le 4 (ticksSince r.startTick s) else [])
        (endFetch c.seq { s with boot := { s.boot with images := SMap.set none s.boot.images w none } }) := by
  have hfind : s.cmd.executing.find? (fun e => decide (e.seq = c.seq)) = some c := by
    rw [halone, List.find?_cons_of_pos (by exact decide_eq_true rfl)]
  simp only [endImage, hrun, ← hcmd]
  simp only [endFetch, hfind]
  rfl

theorem workerImageTimeout_answers {s : State} (w : Fin 32) (r : ImageRun) (c : Cmd) (h : Begun 0x0620 c s)
    (hrun : SMap.get none s.boot.images w = some r) (hcmd : c.seq = r.cmd) (hread : SMap.get none s.mem.fetches c.seq = none) :
    Completes (.workerImageTimeout w) s fun t => Answers c .peerAbsent 0 [] s t ∧ SMap.get none t.boot.images w = none ∧
      t.clk.nowPs = max s.clk.nowPs (r.lastPs + 50000000000) := by
  have hx : execWorkerImageTimeout w s = endImage w .peerAbsent (advanceTo (r.lastPs + 50000000000) s) := by
    simp only [execWorkerImageTimeout, hrun, ← hcmd, hread, w.isLt, Option.isNone_none, and_self, if_true]
  obtain ⟨t, ht, hans, hb⟩ := h.completes
    (hx.trans (endImage_completes (s := advanceTo (r.lastPs + 50000000000) s) hrun h.alone hcmd)) rfl rfl rfl rfl rfl
  refine ⟨t, ht, hans, ?_, ?_⟩
  · rw [hb.boot]
    exact SMap.get_set_same none none w.val s.boot.images
  · rw [hb.clk]
    rfl

/-! ## The obligation -/

/-- Settles O34: each row has its own rule above. -/
theorem workerRemovalRowsTakeEffect : Obligations.WorkerRemovalRowsTakeEffect := fun _ h =>
  ⟨fun _ reason hlane => ⟨leaveRx_ofManager h hlane reason, leaveRx_ofWorker h hlane reason⟩,
    fun _ hlane => ⟨leaveAckRx_ofManager h hlane, leaveAckRx_ofWorker h hlane⟩,
    removalHoldExpiry_flushes h, workerCmdTimeout_answers, workerImageTimeout_answers⟩

end Sys2Proof.Machine
end

section
/-!
PROOFS. The commands of the worker class (10 R258, R264, R275, R281–R284; 19 R428).
-/

namespace Sys2Proof.Machine

/-- A worker changed twice is as changed once by both, unless the first change took it out of the list and the second brings it back. -/
theorem modWorker_modWorker {f g : Worker → Worker} {w : Nat} {s : State} (h : f (s.worker w) = {} → g (f (s.worker w)) = {}) :
    (s.modWorker w f).modWorker w g = s.modWorker w fun x => g (f x) := by
  have hset := SMap.set_set h w s.workers
  change (s.modWorker w f).setWorker w (g ((s.modWorker w f).worker w)) = s.setWorker w (g (f (s.worker w)))
  rw [worker_modWorker_same]
  exact congrArg (fun m => { s with workers := m }) hset

/-! ## WORKER_CONFIG and WORKER_QUERY (R282, R283) -/

/-- A worker with new settings: what applies at once is stored, and all is kept for the tick edge (R283). -/
def Worker.configured (n : WrkCfg) (x : Worker) : Worker :=
  { x with cfgNext := some n, cfg := { x.cfg with
      admitEn := true, asym := n.asym, maxDelay := n.maxDelay, pullMargin := n.pullMargin } }

theorem effWorkerConfig_stores {c : Cmd} {s : State} (hst : (s.worker c.req.index).state = 4)
    (hadmit : (wrkCfgOf c.req.body).admitEn = true) (hlink : (wrkCfgOf c.req.body).linkProtect = (s.worker c.req.index).cfg.linkProtect) :
    effWorkerConfig c s = .ok [] (s.modWorker c.req.index (Worker.configured (wrkCfgOf c.req.body))) := by
  simp only [effWorkerConfig, hst, hadmit, hlink, bne_self_eq_false, Bool.not_true, Bool.and_false, Bool.or_self, Bool.false_and,
    Bool.false_eq_true, if_false]
  rfl

theorem workerConfig_stores {q : CmdReq} {c : Cmd} {s : State} {w : Nat} (hw : w = q.index) (h : Runs 0x0610 q c s)
    (hst : (s.worker w).state = 4) (hadmit : (wrkCfgOf q.body).admitEn = true)
    (hlink : (wrkCfgOf q.body).linkProtect = (s.worker w).cfg.linkProtect) :
    Completes (.workerConfig q) s fun t => Answers c .ok 0 [] s t ∧ Books (s.modWorker w (Worker.configured (wrkCfgOf q.body))) t := by
  obtain rfl := h.isReq
  subst hw
  exact Runs.completes (sp := specWorkerConfig s) (eff := effWorkerConfig) h rfl
    (effWorkerConfig_stores (s := markStarted c s) hst hadmit hlink) rfl rfl rfl rfl rfl rfl

theorem workerQuery_answers {q : CmdReq} {c : Cmd} {s : State} {w : Nat} (hw : w = q.index) (h : Runs 0x0611 q c s) :
    Completes (.workerQuery q) s fun t =>
      Answers c .ok 0 (le 4 (wrkStatus w s) ++ le 4 ((s.worker w).delay % 2 ^ 20) ++ le 4 (wrkRange w s) ++ le 4 (wrkErr w s) ++
        le 4 (wrkPull w s) ++ (s.worker w).cfg.bytes) s t ∧ Books s t := by
  obtain rfl := h.isReq
  subst hw
  exact Runs.completes (sp := specWorkerQuery s) (eff := effWorkerQuery) h rfl rfl rfl rfl rfl rfl rfl (markStarted_books c s)

/-! ## WORKER_RECOVER (R258) -/

/-- From s to t no command has moved on and no time has gone by. -/
structure Still (s t : State) : Prop where
  cmd : t.cmd = s.cmd
  clk : t.clk = s.clk

theorem Still.refl (s : State) : Still s s := ⟨rfl, rfl⟩

theorem Still.trans {s t u : State} (h : Still s t) (k : Still t u) : Still s u := ⟨k.cmd.trans h.cmd, k.clk.trans h.clk⟩

theorem modWorker_still (w : Nat) (f : Worker → Worker) (s : State) : Still s (s.modWorker w f) := ⟨rfl, rfl⟩

theorem recheckHeld_still (s : State) : Still s (recheckHeld s) := by
  refine List.foldlRecOn (motive := Still s) _ _ (.refl s) fun t ht k _ => ht.trans ?_
  dsimp only
  split
  · split
    · exact (modWorker_still _ _ t).trans (modWorker_still _ _ _)
    · exact modWorker_still _ _ t
  · exact .refl t

/-- The cleanup of a worker that nothing waits on ends no command (R280). -/
theorem workerCleanup_still {w : Nat} {c : Cmd} {s : State} (hp : (s.worker w).pulls = []) (ht : (s.worker w).tunnel = [])
    (hx : s.cmd.executing = [c]) (hrerange : c.op ≠ 0x0613) (hrelease : c.op ≠ 0x0614) : Still s (workerCleanup w s) := by
  have hpulls : withdrawAll w s = s := by simp only [withdrawAll, hp, List.foldl_nil]
  unfold workerCleanup
  rw [hpulls]
  extract_lets _ released untunnelled unranged
  have huntunnelled : Still s untunnelled := by
    unfold untunnelled
    rw [failTunnel_empty (by rw [worker_modWorker_same]; exact ht)]
    exact ⟨rfl, rfl⟩
  have hunranged : Still s unranged := by
    unfold unranged
    split
    · have hcleared : Still s (untunnelled.modWorker w fun x => { x with rerange := false, ranging := false }) :=
        huntunnelled.trans (modWorker_still _ _ _)
      rw [failWaiting, completeRunningAt_otherOp ((congrArg CmdState.executing hcleared.cmd).trans hx) hrerange]
      exact hcleared
    · exact huntunnelled
  rw [failWaiting, completeRunningAt_otherOp ((congrArg CmdState.executing hunranged.cmd).trans hx) hrelease]
  exact hunranged

theorem setWorkerState_still {w st : Nat} {s : State} (hold : (s.worker w).state ≠ 1) : Still s (setWorkerState w st s) := by
  by_cases hnew : (s.worker w).state = st
  · simp only [setWorkerState, hnew, if_true]
    exact .refl s
  · rw [setWorkerState_moves hnew hold]
    exact ⟨raise_cmd _ _ _ _ _, raise_clk _ _ _ _ _⟩

/-- Whatever it was, a worker whose lane is lost is in W0, without a version. -/
theorem workerToW0_enters (w : Nat) (s : State) : ((workerToW0 w s).worker w).state = 0 ∧ ((workerToW0 w s).worker w).version = 0 := by
  obtain ⟨u, hu⟩ : ∃ u, u = setWorkerState w 0 (workerCleanup w s) := ⟨_, rfl⟩
  have hstate : (u.worker w).state = 0 := by rw [hu]; exact setWorkerState_state w 0 _
  have hx : workerToW0 w s = recheckHeld (u.modWorker w fun x => { x.forget with w0Tick := some (ownTick u), flushed := false }) := by
    rw [hu]
    rfl
  have hheld := recheckHeld_sameWorker w (u.modWorker w fun x => { x.forget with w0Tick := some (ownTick u), flushed := false })
  rw [hx, hheld.state, hheld.version, worker_modWorker_same]
  exact ⟨hstate, rfl⟩

section recover

variable {w : Nat} {c : Cmd} {s : State} (hst : (s.worker w).state = 5) (hp : (s.worker w).pulls = []) (ht : (s.worker w).tunnel = [])
  (hx : s.cmd.executing = [c]) (hop : c.op = 0x0612)

include hst hp ht hx hop

theorem recovered_still (st : Nat) : Still s (setWorkerState w st (workerCleanup w s)) := by
  have hclean := workerCleanup_still hp ht hx (by rw [hop]; decide) (by rw [hop]; decide)
  refine hclean.trans (setWorkerState_still ?_)
  rw [(workerCleanup_sameWorker hp ht).state, hst]
  decide

theorem workerToW1_still : Still s (workerToW1 w s) := by
  have hmoved := recovered_still hst hp ht hx hop 1
  unfold workerToW1
  extract_lets u
  change Still s u at hmoved
  clear_value u
  have hforgets : Still u (forgotten w u) := ⟨rfl, rfl⟩
  exact (hmoved.trans hforgets).trans (recheckHeld_still (forgotten w u))

theorem workerToW0_still : Still s (workerToW0 w s) := by
  have hmoved := recovered_still hst hp ht hx hop 0
  unfold workerToW0
  extract_lets u
  change Still s u at hmoved
  clear_value u
  exact (hmoved.trans (modWorker_still _ _ _)).trans (recheckHeld_still _)

end recover

/-- Where a worker goes that is taken out of quarantine: to identify, where its lane is locked (R258). -/
def recovered (w : Nat) (s : State) : State := if (s.lane w).state = .locked then workerToW1 w s else workerToW0 w s

theorem recovered_enters (w : Nat) (s : State) :
    ((recovered w s).worker w).state = (if (s.lane w).state = .locked then 1 else 0) ∧ ((recovered w s).worker w).version = 0 := by
  unfold recovered
  split
  · exact workerToW1_enters w s
  · exact workerToW0_enters w s

theorem effWorkerRecover_leaves {c : Cmd} {s : State} (hst : (s.worker c.req.index).state = 5) :
    effWorkerRecover c s = .ok [] (recovered c.req.index (s.modWorker c.req.index fun x => { x with errCount := 0 })) := by
  simp only [effWorkerRecover, hst, ne_eq, not_true_eq_false, if_false]
  rfl

theorem workerRecover_leaves {q : CmdReq} {c : Cmd} {s : State} {w : Nat} (hw : w = q.index) (h : Runs 0x0612 q c s)
    (hst : (s.worker w).state = 5) (hp : (s.worker w).pulls = []) (ht : (s.worker w).tunnel = []) :
    Completes (.workerRecover q) s fun t => Answers c .ok 0 [] s t ∧
      (t.worker w).state = (if (s.lane w).state = .locked then 1 else 0) ∧ (t.worker w).version = 0 := by
  obtain rfl := h.isReq
  subst hw
  obtain ⟨u, hu⟩ : ∃ u, u = (markStarted c s).modWorker c.req.index (fun x => { x with errCount := 0 }) := ⟨_, rfl⟩
  have hworker : u.worker c.req.index = { s.worker c.req.index with errCount := 0 } := by rw [hu, worker_modWorker_same]; rfl
  have hcmd : u.cmd = (markStarted c s).cmd := by rw [hu]; rfl
  have hclk : u.clk = s.clk := by rw [hu]; rfl
  have hlane : u.lane c.req.index = s.lane c.req.index := by rw [hu]; rfl
  have hexec : u.cmd.executing = [{ c with started := true }] := by rw [hcmd, h.marked]
  have hstill : Still u (recovered c.req.index u) := by
    have hst' : (u.worker c.req.index).state = 5 := by rw [hworker]; exact hst
    have hp' : (u.worker c.req.index).pulls = [] := by rw [hworker]; exact hp
    have ht' : (u.worker c.req.index).tunnel = [] := by rw [hworker]; exact ht
    unfold recovered
    split
    · exact workerToW1_still hst' hp' ht' hexec h.isOp
    · exact workerToW0_still hst' hp' ht' hexec h.isOp
  have henters := recovered_enters c.req.index u
  have heff := effWorkerRecover_leaves (c := c) (s := markStarted c s) hst
  rw [← hu] at heff
  rw [hlane] at henters
  obtain ⟨hans, hb⟩ := Runs.answers (sp := specWorkerRecover s) (eff := effWorkerRecover) h rfl heff (hstill.cmd.trans hcmd)
    (by rw [hstill.clk, hclk])
  refine completes_live (f := execWorkerRecover c.req) h.on ⟨⟨hans.ended, hans.reply⟩, ?_⟩
  rw [keepOuter_worker, execWorkerRecover, hb.worker]
  exact henters

/-! ## WORKER_RERANGE (R264) -/

theorem workerRerange_begins {q : CmdReq} {c : Cmd} {s : State} {w : Nat} (hw : w = q.index) (h : Runs 0x0613 q c s)
    (hst : (s.worker w).state = 3 ∨ (s.worker w).state = 4) (hrange : (s.worker w).ranging = false) :
    Completes (.workerRerange q) s fun t => GoesOn c t ∧ Books (startRanging w true s) t := by
  obtain rfl := h.isReq
  subst hw
  exact h.goesOn (sp := specWorkerRerange s) (eff := effWorkerRerange) rfl (if_pos ⟨hst, hrange⟩)
    ⟨(congrArg CmdState.executing h.marked :), rfl⟩

/-! ## WORKER_RELEASE (R281) -/

theorem withdrawLater_none {w : Nat} {s : State} (hp : (s.worker w).pulls = []) : withdrawLater w s = s := by
  simp only [withdrawLater, hp, List.filter_nil, List.foldl_nil]

/-- A port whose queues are empty has nothing to drain. -/
theorem drainWorker_empty {w : Nat} {s : State} (hb : portBusy w s = []) (untilPs n : Nat) : drainWorker w untilPs n s = s := by
  cases n with
  | zero => rfl
  | succ n => simp [drainWorker, portFrames, hb]

/-- A worker that is being released, once LEAVE has been sent. -/
def Worker.released (x : Worker) : Worker := { x with leaving := true, leaveSent := true }

theorem effWorkerRelease_sends {c : Cmd} {s : State} (hst : (s.worker c.req.index).state = 4) (hp : (s.worker c.req.index).pulls = [])
    (hb : portBusy c.req.index s = []) (ht : (s.lane c.req.index).transmits = true) (hpair : pairStandby s = false) :
    effWorkerRelease c s = .later (emit (.block c.req.index 0x78 2) (s.modWorker c.req.index Worker.released)) := by
  obtain ⟨v, hv⟩ : ∃ v, v = s.modWorker c.req.index (fun x => { x with leaving := true }) := ⟨_, rfl⟩
  have hlater : withdrawLater c.req.index v = v := withdrawLater_none (by rw [hv, worker_modWorker_same]; exact hp)
  have hdrained : drainLeaving c.req.index v = v := drainWorker_empty (by rw [hv]; exact hb) _ _
  have hboth : v.modWorker c.req.index (fun x => { x with leaveSent := true }) = s.modWorker c.req.index Worker.released := by
    rw [hv]
    exact modWorker_modWorker fun hleft => absurd (show true = false from congrArg Worker.leaving hleft) (by decide)
  have hsent := sendBlock_sent (s := s.modWorker c.req.index Worker.released) ht hpair 0x78 2
  simp only [effWorkerRelease, hst, ne_eq, not_true_eq_false, if_false, ← hv, hlater, hdrained, hboth, hsent]

theorem workerRelease_sends {q : CmdReq} {c : Cmd} {s : State} {w : Nat} (hw : w = q.index) (h : Runs 0x0614 q c s)
    (hst : (s.worker w).state = 4) (hp : (s.worker w).pulls = []) (hb : portBusy w s = []) (ht : (s.lane w).transmits = true)
    (hpair : pairStandby s = false) : Completes (.workerRelease q) s fun t => GoesOn c t ∧ t.out = .block w 0x78 2 :: s.out ∧
      Books (s.modWorker w Worker.released) t := by
  obtain rfl := h.isReq
  subst hw
  exact h.goesOn (sp := specWorkerRelease s) (eff := effWorkerRelease) rfl
    (effWorkerRelease_sends (s := markStarted c s) hst hp hb ht hpair) ⟨(congrArg CmdState.executing h.marked :), rfl, rfl⟩

/-! ## WORKER_CMD (R275, R284) -/

/-- Without link protection a manager's frame goes out as it is. -/
theorem sendOnLane_manager {w : Nat} {s : State} (cd : Carried) (hrole : s.dev.role = 1) (hl : (s.worker w).linkProt = false)
    (ht : (s.lane w).transmits = true) (hp : pairStandby s = false) (hq : quiesceNow s = false) :
    sendOnLane w cd s = (true, emit (plainFrame w cd) (s.setWorker w (s.worker w))) := by
  have hrole' : s.dev.role ≠ 2 := by rw [hrole]; decide
  have hprot : linkProtected w s = false := (if_neg hrole').trans hl
  have hout := putLane_plainFrame (s := s.setWorker w (s.worker w)) hp cd ht hq
  simp only [sendOnLane, hprot, frameOut, hrole', Bool.false_eq_true, if_false]
  exact congrArg (Prod.mk true) hout

/-- A tunnelled frame takes its lane for the frame's time (R255, R275). -/
theorem sendTunnel_manager {w : Nat} {s : State} (cd : Carried) (hrole : s.dev.role = 1) (hl : (s.worker w).linkProt = false)
    (ht : (s.lane w).transmits = true) (hp : pairStandby s = false) (hq : quiesceNow s = false) : ∃ free,
      sendTunnel w cd s = { emit (plainFrame w cd) (s.setWorker w (s.worker w)) with egressFree := free } := by
  simp only [sendTunnel, sendOnLane_manager cd hrole hl ht hp hq]
  exact ⟨_, rfl⟩

/-- A worker with one more tunnelled command outstanding. -/
def Worker.tunnelling (seq : Nat) (x : Worker) : Worker := { x with tunnel := x.tunnel ++ [seq] }

section tunnel

variable {c : Cmd} {s : State} (hst : 2 ≤ (s.worker c.req.index).state) (hroom : (s.worker c.req.index).tunnel.length < 4)
  (hrole : s.dev.role = 1) (hl : (s.worker c.req.index).linkProt = false) (ht : (s.lane c.req.index).transmits = true)
  (hp : pairStandby s = false) (hq : quiesceNow s = false)

include hst hroom hrole hl ht hp hq

theorem effWorkerCmd_sends : ∃ free, effWorkerCmd c s = .later
    { emit (plainFrame c.req.index { kind := 1, data := c.req.body }) (s.modWorker c.req.index (Worker.tunnelling c.seq)) with
      egressFree := free } := by
  obtain ⟨v, hv⟩ : ∃ v, v = s.modWorker c.req.index (Worker.tunnelling c.seq) := ⟨_, rfl⟩
  have hworker : v.worker c.req.index = (s.worker c.req.index).tunnelling c.seq := by rw [hv, worker_modWorker_same]
  have hagain : v.setWorker c.req.index (v.worker c.req.index) = v := by
    rw [hv]
    exact modWorker_modWorker (g := id) id
  obtain ⟨free, hsent⟩ := sendTunnel_manager (s := v) { kind := 1, data := c.req.body } (by rw [hv]; exact hrole)
    (by rw [hworker]; exact hl) (by rw [hv]; exact ht) (by rw [hv]; exact hp) (by rw [hv]; exact hq)
  refine ⟨free, ?_⟩
  rw [hagain, hv] at hsent
  exact (if_neg (Nat.not_lt.2 hst)).trans ((if_neg (Nat.not_le.2 hroom)).trans (congrArg Res.later hsent))

theorem effWorkerCmdXfer_sends (hturn : hasTurn 6 [35] s = true) : ∃ free, effWorkerCmdXfer c s = .later
    { emit (plainFrame c.req.index { kind := 1, data := c.req.body }) ((passXfer 6 s).modWorker c.req.index (Worker.tunnelling c.seq)) with
      egressFree := free } := by
  obtain ⟨free, hsent⟩ := effWorkerCmd_sends (c := c) (s := passXfer 6 s) hst hroom hrole hl ht hp hq
  exact ⟨free, (if_pos (.inr (.inr hturn))).trans hsent⟩

end tunnel

theorem workerCmd_sends {q : CmdReq} {c : Cmd} {s : State} {w : Nat} (hw : w = q.index) (h : Runs 0x0615 q c s)
    (hst : 2 ≤ (s.worker w).state) (hroom : (s.worker w).tunnel.length < 4) (hrole : s.dev.role = 1)
    (hl : (s.worker w).linkProt = false) (hturn : hasTurn 6 [35] s = true) (ht : (s.lane w).transmits = true)
    (hp : pairStandby s = false) (hq : quiesceNow s = false) :
    Completes (.workerCmd q) s fun t => GoesOn c t ∧ t.out = plainFrame w { kind := 1, data := q.body } :: s.out ∧
      Books { s.modWorker w (Worker.tunnelling c.seq) with mem := { s.mem with order := t.mem.order }, egressFree := t.egressFree } t := by
  obtain rfl := h.isReq
  subst hw
  obtain ⟨free, heff⟩ := effWorkerCmdXfer_sends (c := c) (s := markStarted c s) hst hroom hrole hl ht hp hq hturn
  exact h.goesOn (sp := specWorkerCmd s) (eff := effWorkerCmdXfer) rfl heff ⟨(congrArg CmdState.executing h.marked :), rfl, rfl⟩

/-! ## WORKER_IMAGE (19 R428) -/

/-- Where beside the books only the memories have changed further, they have changed into what the state holds. -/
theorem Books.with_mem {s t u : State} {m : Mem} (h : Books s t) (k : Books { t with mem := m } u) : Books { s with mem := u.mem } u := by
  obtain rfl : u.mem = m := k.mem
  exact Books.trans (congrArg (fun x : State => { x with mem := u.mem }) h.eq :) k

/-- A run of an image to worker w has begun. -/
def imageBegun (w : Nat) (run : ImageRun) (s : State) : State :=
  { s with boot := { s.boot with images := SMap.set none s.boot.images w (some run) } }

theorem effWorkerImage_begins {image : Bytes} {c : Cmd} {s : State} (hst : (s.worker c.req.index).state = 1)
    (hhello : (s.worker c.req.index).helloSeen = true) (hrom : (s.worker c.req.index).peerVersions = 0)
    (hnone : SMap.get none s.boot.images c.req.index = none) (hturn : hasTurn 0 hostRead_ s = true ∨ breachesRank 0 hostRead_ s = false) :
    effWorkerImage image c s = .later (fetchData c (u32 c.req.body 8) (fit (u32 c.req.body 8) image)
      (imageBegun c.req.index { cmd := c.seq, lastPs := 0, startTick := ownTick s } s)) := by
  have hwaits : (!hasTurn 0 hostRead_ s && breachesRank 0 hostRead_ s) = false := by
    rcases hturn with hturn | hbreach
    · rw [hturn]; rfl
    · rw [hbreach, Bool.and_false]
  simp only [effWorkerImage, hst, hhello, hrom, hnone, hwaits, ne_eq, not_true_eq_false, Bool.true_eq_false, or_self, Option.isSome_none,
    Bool.false_eq_true, if_false]
  rfl

theorem workerImage_begins {q : CmdReq} {c : Cmd} {s : State} {w : Nat} (hw : w = q.index) (image : Bytes) (h : Runs 0x0620 q c s)
    (hst : (s.worker w).state = 1) (hhello : (s.worker w).helloSeen = true) (hrom : (s.worker w).peerVersions = 0)
    (hnone : SMap.get none s.boot.images w = none) (hturn : hasTurn 0 hostRead_ s = true ∨ breachesRank 0 hostRead_ s = false) :
    Completes (.workerImage q image) s fun t => GoesOn c t ∧
      (∃ r, SMap.get none t.boot.images w = some r ∧ r.cmd = c.seq ∧ r.startTick = ownTick s) ∧
      (∃ f, SMap.get none t.mem.fetches c.seq = some f ∧ f.left = (u32 q.body 8 + 4095) / 4096 ∧ f.data = fit (u32 q.body 8) image) ∧
      Books { s with boot := t.boot, mem := t.mem } t := by
  obtain rfl := h.isReq
  subst hw
  obtain ⟨v, hv⟩ : ∃ v, v = imageBegun c.req.index { cmd := c.seq, lastPs := 0, startTick := ownTick s } (markStarted c s) := ⟨_, rfl⟩
  have hf := fetchData_books c (u32 c.req.body 8) (fit (u32 c.req.body 8) image) v
  have heff := effWorkerImage_begins (image := image) (c := c) (s := markStarted c s) hst hhello hrom hnone hturn
  rw [markStarted_ownTick, ← hv] at heff
  have hbegun : Books { s with boot := v.boot } v := by rw [hv]; rfl
  have himages : SMap.get none v.boot.images c.req.index = some { cmd := c.seq, lastPs := 0, startTick := ownTick s } := by
    rw [hv]
    exact SMap.get_set_same none (some _) c.req.index s.boot.images
  obtain ⟨u, hu⟩ : ∃ u, u = fetchData c (u32 c.req.body 8) (fit (u32 c.req.body 8) image) v := ⟨_, rfl⟩
  have hfetch := fetchData_fetches c (u32 c.req.body 8) (fit (u32 c.req.body 8) image) v
  have hcmd : u.cmd = (markStarted c s).cmd := by rw [hu, fetchData_cmd, hv]; rfl
  rw [← hu] at heff hf hfetch
  have hboot : u.boot = v.boot := hf.boot
  have hrest : Books { s with boot := u.boot, mem := u.mem } u := by
    rw [hboot]
    exact hbegun.with_mem hf
  have hkeep : keepOuter s u = u :=
    keepOuter_eq hrest.pending hrest.hot_powered (by rw [hboot, hv]; rfl)
  refine h.goesOn (sp := specWorkerImage s) (eff := effWorkerImage image) rfl heff ?_
  rw [hkeep, GoesOn, hcmd, h.marked]
  exact ⟨rfl, ⟨_, hboot ▸ himages, rfl, rfl⟩, ⟨_, hfetch, rfl, rfl⟩, hrest⟩

/-! ## The obligation -/

/-- Settles O35: each command has its own rule above. -/
theorem workerCommandsAnswer : Obligations.WorkerCommandsAnswer := fun _ _ _ _ hw =>
  ⟨workerConfig_stores hw, workerQuery_answers hw, workerRecover_leaves hw, workerRerange_begins hw, workerRelease_sends hw,
    workerCmd_sends hw, workerImage_begins hw⟩

end Sys2Proof.Machine
end

section
/-!
PROOFS. What the operations on tributaries leave (11): which of them change the tributaries' own records alone, which leave the ports, and
which judge defects, seconds, MSP requests and LOA anew.
-/

namespace Sys2Proof.Machine

/-! ## Tributaries alone, ports kept, judged anew -/

/-- From s to t only tributaries (11), reports and the free values used have changed. -/
def TribAlone (s t : State) : Prop :=
  Noted { s with
    tribs := t.tribs, tpaths := t.tpaths, vcats := t.vcats, circs := t.circs, msps := t.msps, pms := t.pms, freeCtr := t.freeCtr } t

theorem TribAlone.eq {s t : State} (h : TribAlone s t) : t = { s with
    tribs := t.tribs, tpaths := t.tpaths, vcats := t.vcats, circs := t.circs, msps := t.msps, pms := t.pms, freeCtr := t.freeCtr
    out := t.out, evt := t.evt, cnt := t.cnt, stamps := t.stamps, notes := t.notes, role := t.role, hot := { s.hot with held := t.hot.held } } := h

theorem TribAlone.trans {s t u : State} (h : TribAlone s t) (k : TribAlone t u) : TribAlone s u :=
  Eq.trans k (congrArg (fun x : State => { x with
    tribs := u.tribs, tpaths := u.tpaths, vcats := u.vcats, circs := u.circs, msps := u.msps, pms := u.pms, freeCtr := u.freeCtr
    out := u.out, evt := u.evt, cnt := u.cnt, stamps := u.stamps, notes := u.notes, role := u.role, hot := { x.hot with held := u.hot.held } })
    h.eq)

theorem Noted.tribAlone {s t : State} (h : Noted s t) : TribAlone s t := by
  have e := h.eq
  generalize t.out = a, t.evt = b, t.cnt = c, t.stamps = d, t.notes = f, t.role = g, t.hot.held = k at e
  subst e
  exact rfl

theorem TribAlone.cmd {s t : State} (h : TribAlone s t) : t.cmd = s.cmd := (congrArg State.cmd h.eq :)
theorem TribAlone.clk {s t : State} (h : TribAlone s t) : t.clk = s.clk := (congrArg State.clk h.eq :)
theorem TribAlone.tb {s t : State} (h : TribAlone s t) : t.tb = s.tb := (congrArg State.tb h.eq :)
theorem TribAlone.lanes {s t : State} (h : TribAlone s t) : t.lanes = s.lanes := (congrArg State.lanes h.eq :)
theorem TribAlone.pair {s t : State} (h : TribAlone s t) : t.pair = s.pair := (congrArg State.pair h.eq :)

theorem TribAlone.outer {s t : State} (h : TribAlone s t) : Outer s t :=
  ⟨(congrArg State.pending h.eq :), (congrArg (fun x => x.hot.powered) h.eq :), (congrArg State.boot h.eq :)⟩

/-- From s to t reports and counts alone have been made; what had gone out stays in the history. -/
structure Reported (s t : State) : Prop where
  noted : Noted s t
  out : s.out <:+ t.out

theorem Reported.refl (s : State) : Reported s s := ⟨.refl s, List.suffix_rfl⟩

theorem Reported.trans {s t u : State} (h : Reported s t) (k : Reported t u) : Reported s u := ⟨h.noted.trans k.noted, h.out.trans k.out⟩

theorem emit_reported (o : Out) (s : State) : Reported s (emit o s) := ⟨emit_noted o s, List.suffix_cons _ _⟩

theorem raise_reported (e : Ev) (k i d : Nat) (s : State) : Reported s (raise e k i d s) := ⟨raise_noted e k i d s, raise_out e k i d s⟩

theorem addCounter_reported (k n : Nat) (s : State) : Reported s (addCounter k n s) := ⟨addCounter_noted k n s, addCounter_out k n s⟩

theorem count_reported (c : Ctr) (n : Nat) (s : State) : Reported s (count c n s) := addCounter_reported _ _ s

theorem foldl_reported {α : Type} {f : State → α → State} (hf : ∀ s a, Reported s (f s a)) (l : List α) (s : State) :
    Reported s (l.foldl f s) :=
  List.foldlRecOn l f (.refl s) fun t ht a _ => ht.trans (hf t a)

/-- From s to t, tributaries alone have changed, and their ports are as before; what had gone out stays in the history. -/
structure PortsKept (s t : State) : Prop where
  alone : TribAlone s t
  tribs : t.tribs = s.tribs
  out : s.out <:+ t.out

theorem PortsKept.refl (s : State) : PortsKept s s := ⟨rfl, rfl, List.suffix_rfl⟩

theorem PortsKept.trans {s t u : State} (h : PortsKept s t) (k : PortsKept t u) : PortsKept s u :=
  ⟨h.alone.trans k.alone, k.tribs.trans h.tribs, h.out.trans k.out⟩

/-- From s to t at most seconds, MSP pairs, groups' LOA and reports have changed: ports, paths and circuits are as before. -/
structure Judged (s t : State) : Prop where
  ports : PortsKept s t
  tpaths : t.tpaths = s.tpaths
  circs : t.circs = s.circs

theorem Judged.refl (s : State) : Judged s s := ⟨.refl s, rfl, rfl⟩

theorem Judged.trans {s t u : State} (h : Judged s t) (k : Judged t u) : Judged s u :=
  ⟨h.ports.trans k.ports, k.tpaths.trans h.tpaths, k.circs.trans h.circs⟩

theorem Reported.judged {s t : State} (h : Reported s t) : Judged s t :=
  ⟨⟨h.noted.tribAlone, h.noted.books.tribs, h.out⟩, h.noted.books.tpaths, h.noted.books.circs⟩

theorem foldl_judged {α : Type} {f : State → α → State} (hf : ∀ s a, Judged s (f s a)) (l : List α) (s : State) :
    Judged s (l.foldl f s) :=
  List.foldlRecOn l f (.refl s) fun t ht a _ => ht.trans (hf t a)

theorem foldl_portsKept {α : Type} {f : State → α → State} (hf : ∀ s a, PortsKept s (f s a)) (l : List α) (s : State) :
    PortsKept s (l.foldl f s) :=
  List.foldlRecOn l f (.refl s) fun t ht a _ => ht.trans (hf t a)

theorem setTpath_portsKept (p : Nat) (y : TPath) (s : State) : PortsKept s (s.setTpath p y) := ⟨rfl, rfl, List.suffix_rfl⟩

theorem setCirc_portsKept (c : Nat) (x : Circ) (s : State) : PortsKept s (s.setCirc c x) := ⟨rfl, rfl, List.suffix_rfl⟩

theorem setVcat_judged (g : Nat) (v : Vcat) (s : State) : Judged s (s.setVcat g v) := ⟨⟨rfl, rfl, List.suffix_rfl⟩, rfl, rfl⟩

theorem setMsp_judged (k : Nat) (m : Msp) (s : State) : Judged s (s.setMsp k m) := ⟨⟨rfl, rfl, List.suffix_rfl⟩, rfl, rfl⟩

theorem takeFree_judged (w : Nat) (s : State) : Judged s (takeFree w s).2 := ⟨⟨rfl, rfl, List.suffix_rfl⟩, rfl, rfl⟩

/-! ## What is read off the ports, paths and circuits alone -/

theorem trib_of_tribs {s t : State} (h : t.tribs = s.tribs) (n : Nat) : t.trib n = s.trib n := by simp only [State.trib, h]

theorem tpath_of_tpaths {s t : State} (h : t.tpaths = s.tpaths) (p : Nat) : t.tpath p = s.tpath p := by simp only [State.tpath, h]

theorem circ_of_circs {s t : State} (h : t.circs = s.circs) (c : Nat) : t.circ c = s.circ c := by simp only [State.circ, h]

theorem vcat_of_vcats {s t : State} (h : t.vcats = s.vcats) (g : Nat) : t.vcat g = s.vcat g := by simp only [State.vcat, h]

theorem msp_of_msps {s t : State} (h : t.msps = s.msps) (k : Nat) : t.msp k = s.msp k := by simp only [State.msp, h]

theorem timebase_of_tb {s t : State} (h : t.tb = s.tb) (n : Nat) : t.timebase n = s.timebase n := by simp only [State.timebase, h]

/-! ## Defects, seconds, MSP and LOA (R289, R293, R299–R302) -/

/-- Reporting the defects that a change brings about changes nothing beside (R289). -/
theorem withDefects_judged (n : Nat) (f : State → State) (s : State) : Judged (f s) (withDefects n f s) :=
  ((((foldl_reported (fun _ _ => emit_reported _ _) _ _).trans (foldl_reported (fun _ _ => emit_reported _ _) _ _)).trans
    (foldl_reported (fun _ _ => raise_reported ..) _ _)).trans (foldl_reported (fun _ _ => raise_reported ..) _ _)).judged

theorem noteDefects_judged (s : State) : Judged s (noteDefects s) := ⟨⟨rfl, rfl, List.suffix_rfl⟩, rfl, rfl⟩

/-- From s to t the requests of MSP pair k may have been evaluated anew (R300): its settings, its command and the other pairs are as
before, and no wait to restore begins unless SF or SD of the working port was in force. -/
structure MspJudged (k : Nat) (s t : State) : Prop where
  judged : Judged s t
  pair : ∃ w r sel, t.msp k = { s.msp k with wtrEnd := w, request := r, selected := sel } ∧
    ((s.msp k).request ≠ 6 → (s.msp k).request ≠ 4 → (s.msp k).wtrEnd = none → w = none)
  others : ∀ j, j ≠ k → t.msp j = s.msp j

/-- A wait to restore begins where, SF or SD of the working port having ceased, no request is left in revertive mode (R300). -/
def mspStarts (k : Nat) (s : State) : Bool :=
  (s.msp k).revertive && (decide ((s.msp k).request = 6) || decide ((s.msp k).request = 4)) && decide (mspHighest k s = 0)

/-- The wait to restore of a pair whose requests are evaluated (R300). -/
def mspWait (k : Nat) (s : State) : Option Nat :=
  if mspStarts k s then some (s.clk.nowPs + (s.msp k).wtrMin * 60000000000000)
  else if 1 < mspHighest k s then none else (s.msp k).wtrEnd

/-- A pair once its requests are evaluated (R300). -/
def mspNext (k : Nat) (s : State) : Msp :=
  let r := if mspStarts k s then 1 else mspHighest k s
  { s.msp k with wtrEnd := mspWait k s, request := r, selected := mspSelects r { s.msp k with wtrEnd := mspWait k s } }

/-- The reports of a pair that has changed from m to n (R300). -/
def mspReport (k : Nat) (m n : Msp) (s : State) : State :=
  let s := if n.request ≠ m.request ∨ n.selected ≠ m.selected then emit (.mspRequest k n.request n.selected) s else s
  if n.selected ≠ m.selected then raise .mspSwitch 4 (2 * k) (k + n.selected * 256 + n.request * 4096) s else s

theorem mspWait_none {k : Nat} {s : State} (h6 : (s.msp k).request ≠ 6) (h4 : (s.msp k).request ≠ 4) (h : (s.msp k).wtrEnd = none) :
    mspWait k s = none := by
  simp [mspWait, mspStarts, h6, h4, h]

theorem mspReport_reported (k : Nat) (m n : Msp) (s : State) : Reported s (mspReport k m n s) := by
  unfold mspReport
  dsimp only
  split <;> split
  · exact (emit_reported _ _).trans (raise_reported ..)
  · exact raise_reported ..
  · exact emit_reported _ _
  · exact .refl s

theorem mspEval_enabled {k : Nat} {s : State} (h : (s.msp k).enabled = true) :
    mspEval k s = mspReport k (s.msp k) (mspNext k s) (s.setMsp k (mspNext k s)) := by
  unfold mspEval
  dsimp only
  rw [if_neg (by simp [h])]
  unfold mspNext mspWait
  by_cases hs : mspStarts k s = true
  · have hs' := hs
    unfold mspStarts at hs'
    simp only [hs', hs, if_true]
    rfl
  · have hs' := hs
    unfold mspStarts at hs'
    simp only [hs', hs]
    by_cases hr : 1 < mspHighest k s
    · simp only [hr, if_true]
      rfl
    · simp only [hr]
      rfl

theorem mspEval_judged (k : Nat) (s : State) : MspJudged k s (mspEval k s) := by
  by_cases he : (s.msp k).enabled = true
  · rw [mspEval_enabled he]
    have hr := mspReport_reported k (s.msp k) (mspNext k s) (s.setMsp k (mspNext k s))
    exact
      { judged := (setMsp_judged k _ s).trans hr.judged
        pair := ⟨_, _, _, (msp_of_msps hr.noted.books.msps k).trans (msp_setMsp_same ..), mspWait_none⟩
        others := fun j hj => (msp_of_msps hr.noted.books.msps j).trans (msp_setMsp_other s hj _) }
  · rw [show mspEval k s = s by simp [mspEval, he]]
    exact ⟨.refl s, ⟨_, _, _, rfl, fun _ _ h => h⟩, fun _ _ => rfl⟩

/-! ## A change of a port (R289, R298) -/

theorem steerTx_judged {n : Nat} {s t : State} (h : Judged s t) : Judged (steerTx n s) (steerTx n t) where
  ports :=
    { alone := (congrArg (fun u : State => { u with tribs := (steerTx n t).tribs }) h.ports.alone.eq :)
      tribs := by
        simp only [steerTx, State.modTrib, State.setTrib, trib_of_tribs h.ports.tribs, timebase_of_tb h.ports.alone.tb, h.ports.tribs]
      out := h.ports.out }
  tpaths := h.tpaths
  circs := h.circs

/-- A change of a port is the change, with the port's transmit clock steered anew, and what follows from it. -/
theorem portChange_judged (n : Nat) (f : State → State) (s : State) : Judged (steerTx n (f s)) (portChange n f s) :=
  ((steerTx_judged (withDefects_judged n f s)).trans (noteDefects_judged _)).trans (mspEval_judged _ _).judged

theorem steerTx_trib (n : Nat) (s : State) : ∃ v, (steerTx n s).trib n = { s.trib n with txPpm := v } := ⟨_, trib_modTrib_same ..⟩

theorem steerTx_others {n j : Nat} (h : j ≠ n) (s : State) : (steerTx n s).trib j = s.trib j := trib_modTrib_other s h _

theorem portChange_trib (n : Nat) (f : State → State) (s : State) :
    ∃ v, (portChange n f s).trib n = { (f s).trib n with txPpm := v } := by
  rw [trib_of_tribs (portChange_judged n f s).ports.tribs]
  exact steerTx_trib n (f s)

theorem portChange_others {n j : Nat} (h : j ≠ n) (f : State → State) (s : State) : (portChange n f s).trib j = (f s).trib j :=
  (trib_of_tribs (portChange_judged n f s).ports.tribs j).trans (steerTx_others h _)

theorem steerTx_alone (n : Nat) (s : State) : TribAlone s (steerTx n s) := rfl

theorem portChange_alone {n : Nat} {f : State → State} {s : State} (h : TribAlone s (f s)) : TribAlone s (portChange n f s) :=
  (h.trans (steerTx_alone n _)).trans (portChange_judged n f s).ports.alone

theorem portChange_out {n : Nat} {f : State → State} {s : State} : (f s).out <:+ (portChange n f s).out :=
  (portChange_judged n f s).ports.out

theorem setTrib_alone (n : Nat) (x : Trib) (s : State) : TribAlone s (s.setTrib n x) := rfl

theorem modTrib_alone (n : Nat) (f : Trib → Trib) (s : State) : TribAlone s (s.modTrib n f) := rfl

/-! ## Monitoring and LOA (R293, R302) -/

theorem startPm_judged (k : Nat) (s : State) : Judged s (startPm k s) := by
  unfold startPm
  split
  · exact .refl s
  · exact ⟨⟨rfl, rfl, List.suffix_rfl⟩, rfl, rfl⟩

theorem stopPm_judged (k : Nat) (s : State) : Judged s (stopPm k s) := by
  unfold stopPm
  split
  · exact ⟨⟨rfl, rfl, List.suffix_rfl⟩, rfl, rfl⟩
  · exact .refl s

theorem checkLoa_cases (g : Nat) (s : State) :
    checkLoa g s = s ∨ ∃ b, Reported (s.setVcat g { s.vcat g with loa := b }) (checkLoa g s) := by
  unfold checkLoa
  dsimp only
  split
  · exact .inl rfl
  · exact .inr ⟨_, raise_reported ..⟩

theorem checkLoa_judged (g : Nat) (s : State) : Judged s (checkLoa g s) := by
  rcases checkLoa_cases g s with h | ⟨b, hr⟩
  · exact h.symm ▸ .refl s
  · exact (setVcat_judged g _ s).trans hr.judged

end Sys2Proof.Machine
end

section
/-!
PROOFS. The commands of tributaries (11 R286, R292, R299, R302–R304).
-/

namespace Sys2Proof.Machine

/-- A command that runs alone and whose effect is done answers, and its effect stands beside the books. -/
theorem Runs.answersAs {sp : CmdSpec} {eff : Cmd → State → Res} {q : CmdReq} {c : Cmd} {s u : State} {st : Status} {p : Bytes}
    (h : Runs sp.op q c s) (hl : sp.lease q s = none) (he : eff c (markStarted c s) = .done st 0 p u) (hu : TribAlone (markStarted c s) u) :
    ∃ t, (Host.Outcome.next (live (runCmd sp eff q) s) : Host.Outcome State Fault Refusal) = .next t ∧ Answers c st 0 p s t ∧ Books u t :=
  have ho : Outer s u := (markStarted_books c s).outer.trans hu.outer
  h.completes hl he hu.cmd (congrArg Clk.tick hu.clk) ho.pending ho.powered (congrArg Boot.inReset ho.boot) (.refl u)

/-! ## TRIB_PORT_CONFIG (R303) -/

/-- A port with the settings of a TRIB_PORT_CONFIG block. -/
def Trib.withSettings (p : Bytes) (x : Trib) : Trib := { x with txTiming := u8 p 1, sdExp := u8 p 2 }

/-- A port that enters service hunts, in OOF (Table 11.1). -/
def Trib.entered (now : Nat) (signal : Bool) (x : Trib) : Trib :=
  { x with enable := true, align := 1, cands := [], oof := true, oofPs := now, los := !signal }

/-- A port that has left service keeps its settings and the frames that wait in it. -/
def Trib.left (x : Trib) : Trib := { txTiming := x.txTiming, sdExp := x.sdExp, rx := x.rx }

/-- A port enters service with the settings of a block, and its entities are monitored. -/
def portEntered (n : Nat) (p : Bytes) (s : State) : State :=
  let s := portChange n (fun s => s.modTrib n (Trib.entered s.clk.nowPs (s.lane (24 + n)).signal)) (s.modTrib n (Trib.withSettings p))
  (portEntities n (ausOf n s)).foldl (fun s k => startPm k s) s

theorem portEntered_alone (n : Nat) (p : Bytes) (s : State) : TribAlone s (portEntered n p s) :=
  ((modTrib_alone n (Trib.withSettings p) s).trans (portChange_alone (modTrib_alone ..))).trans
    (foldl_judged (fun _ _ => startPm_judged ..) _ _).ports.alone

theorem portEntered_trib (n : Nat) (p : Bytes) (s : State) : ∃ v, (portEntered n p s).trib n =
    { (((s.trib n).withSettings p).entered s.clk.nowPs (s.lane (24 + n)).signal) with txPpm := v } := by
  obtain ⟨v, hv⟩ := portChange_trib n (fun s => s.modTrib n (Trib.entered s.clk.nowPs (s.lane (24 + n)).signal))
    (s.modTrib n (Trib.withSettings p))
  refine ⟨v, ?_⟩
  rw [portEntered, trib_of_tribs (foldl_judged (fun _ _ => startPm_judged ..) _ _).ports.tribs, hv, trib_modTrib_same, trib_modTrib_same]
  rfl

/-- The paths that a port serves receive nothing any more. -/
def quieted (mine : List Nat) (s : State) : State := mine.foldl (fun s p => s.setTpath p (s.tpath p).quiet) s

theorem quieted_portsKept (mine : List Nat) (s : State) : PortsKept s (quieted mine s) :=
  foldl_portsKept (fun _ _ => setTpath_portsKept ..) mine s

theorem disableTrib_left (n : Nat) (s : State) :
    TribAlone s (disableTrib n s) ∧ ∃ v, (disableTrib n s).trib n = { (s.trib n).left with txPpm := v } := by
  obtain ⟨f, hf⟩ : ∃ f : State → State, f = fun s => quieted (pathsFrom n s) (s.modTrib n Trib.left) := ⟨_, rfl⟩
  have hafter : Judged (portChange n f s) (disableTrib n s) := by
    rw [hf]
    exact (foldl_judged (fun _ _ => stopPm_judged ..) _ _).trans (foldl_judged (fun _ _ => checkLoa_judged ..) _ _)
  have hquiet : PortsKept (s.modTrib n Trib.left) (f s) := hf ▸ quieted_portsKept ..
  refine ⟨(portChange_alone ((modTrib_alone ..).trans hquiet.alone)).trans hafter.ports.alone, ?_⟩
  obtain ⟨v, hv⟩ := portChange_trib n f s
  refine ⟨v, ?_⟩
  rw [trib_of_tribs hafter.ports.tribs, hv, trib_of_tribs hquiet.tribs, trib_modTrib_same]

section portConfig

variable {c : Cmd} {s : State} (hcar : carries (circuitsOn c.req.index s) s = false)

include hcar

theorem effTribPortConfig_enters (hone : u8 c.req.body 0 = 1) (hlane : tribLane c.req.index s = true)
    (hoff : (s.trib c.req.index).enable = false) : effTribPortConfig c s = .ok [] (portEntered c.req.index c.req.body s) := by
  have hlaned : ¬ (decide (u8 c.req.body 0 = 1) && !tribLane c.req.index s) = true := by simp [hlane]
  exact (if_neg hlaned).trans ((if_neg (by simp [hcar])).trans (if_pos (by simp [hone, hoff])))

theorem effTribPortConfig_leaves (hzero : u8 c.req.body 0 ≠ 1) (hon : (s.trib c.req.index).enable = true) :
    effTribPortConfig c s = .ok [] (disableTrib c.req.index (s.modTrib c.req.index (Trib.withSettings c.req.body))) := by
  have hlaned : ¬ (decide (u8 c.req.body 0 = 1) && !tribLane c.req.index s) = true := by simp [hzero]
  exact (if_neg hlaned).trans ((if_neg (by simp [hcar])).trans ((if_neg (by simp [hzero])).trans (if_pos (by simp [hzero, hon]))))

theorem effTribPortConfig_stores (hzero : u8 c.req.body 0 ≠ 1) (hoff : (s.trib c.req.index).enable = false) :
    effTribPortConfig c s = .ok [] (s.modTrib c.req.index (Trib.withSettings c.req.body)) := by
  have hlaned : ¬ (decide (u8 c.req.body 0 = 1) && !tribLane c.req.index s) = true := by simp [hzero]
  have hout : (if (s.trib c.req.index).enable then steerTx c.req.index (s.modTrib c.req.index (Trib.withSettings c.req.body))
      else s.modTrib c.req.index (Trib.withSettings c.req.body)) = s.modTrib c.req.index (Trib.withSettings c.req.body) :=
    if_neg (by simp [hoff])
  exact (if_neg hlaned).trans ((if_neg (by simp [hcar])).trans ((if_neg (by simp [hzero])).trans ((if_neg (by simp [hoff])).trans
    (congrArg (Res.ok []) hout))))

end portConfig

theorem tribPortConfig_enters {q : CmdReq} {c : Cmd} {s : State} {n : Nat} (hn : n = q.index) (h : Runs 0x0700 q c s)
    (hcar : carries (circuitsOn n s) s = false) (hone : u8 q.body 0 = 1) (hlane : tribLane n s = true)
    (hoff : (s.trib n).enable = false) : Completes (.tribPortConfig q) s fun t =>
      Answers c .ok 0 [] s t ∧ (t.trib n).enable = true ∧ (t.trib n).align = 1 ∧ (t.trib n).oof = true ∧
      (t.trib n).los = !(s.lane (24 + n)).signal ∧ (t.trib n).txTiming = u8 q.body 1 ∧ (t.trib n).sdExp = u8 q.body 2 := by
  obtain rfl := h.isReq
  subst hn
  have heff := effTribPortConfig_enters (s := markStarted c s) hcar hone hlane hoff
  obtain ⟨t, ht, ha, hb⟩ := h.answersAs (sp := specTribPortConfig) rfl heff (portEntered_alone ..)
  obtain ⟨v, hv⟩ := portEntered_trib c.req.index c.req.body (markStarted c s)
  refine ⟨t, ht, ha, ?_⟩
  rw [trib_of_tribs hb.tribs, hv]
  exact ⟨rfl, rfl, rfl, rfl, rfl, rfl⟩

theorem tribPortConfig_leaves {q : CmdReq} {c : Cmd} {s : State} {n : Nat} (hn : n = q.index) (h : Runs 0x0700 q c s)
    (hcar : carries (circuitsOn n s) s = false) (hzero : u8 q.body 0 ≠ 1) (hon : (s.trib n).enable = true) :
    Completes (.tribPortConfig q) s fun t =>
      Answers c .ok 0 [] s t ∧ (t.trib n).enable = false ∧ (t.trib n).align = 0 ∧ (t.trib n).oof = false ∧
      (t.trib n).lof = false ∧ (t.trib n).los = false ∧ (t.trib n).txTiming = u8 q.body 1 ∧ (t.trib n).sdExp = u8 q.body 2 := by
  obtain rfl := h.isReq
  subst hn
  have heff := effTribPortConfig_leaves (s := markStarted c s) hcar hzero hon
  obtain ⟨halone, v, hv⟩ := disableTrib_left c.req.index ((markStarted c s).modTrib c.req.index (Trib.withSettings c.req.body))
  obtain ⟨t, ht, ha, hb⟩ := h.answersAs (sp := specTribPortConfig) rfl heff ((modTrib_alone ..).trans halone)
  refine ⟨t, ht, ha, ?_⟩
  rw [trib_of_tribs hb.tribs, hv, trib_modTrib_same]
  exact ⟨rfl, rfl, rfl, rfl, rfl, rfl, rfl⟩

theorem tribPortConfig_stores {q : CmdReq} {c : Cmd} {s : State} {n : Nat} (hn : n = q.index) (h : Runs 0x0700 q c s)
    (hcar : carries (circuitsOn n s) s = false) (hzero : u8 q.body 0 ≠ 1) (hoff : (s.trib n).enable = false) :
    Completes (.tribPortConfig q) s fun t =>
      Answers c .ok 0 [] s t ∧ Books (s.setTrib n { s.trib n with txTiming := u8 q.body 1, sdExp := u8 q.body 2 }) t := by
  obtain rfl := h.isReq
  subst hn
  exact Runs.completes (sp := specTribPortConfig) (eff := effTribPortConfig) h rfl
    (effTribPortConfig_stores (s := markStarted c s) hcar hzero hoff) rfl rfl rfl rfl rfl rfl

end Sys2Proof.Machine
end

section
/-!
PROOFS. TRIB_PATH_CONFIG, VCAT_CONFIG, the commands of MSP pairs, and PM_READ (11 R286, R292, R299, R302–R304).
-/

namespace Sys2Proof.Machine

/-! ## Room for jitter buffers (R209) -/

section jitter

variable {s t : State} (hp : t.tpaths = s.tpaths) (hv : ∀ g, ∃ b, t.vcat g = { s.vcat g with loa := b })

include hp hv

theorem circuitOn_congr (c : Nat) : circuitOn c t = circuitOn c s := by
  obtain ⟨b, hb⟩ := hv (c - 1024)
  simp only [circuitOn, tpath_of_tpaths hp, hb]

theorem circCfg_congr (c : Nat) : circCfg c t = circCfg c s := by
  obtain ⟨b, hb⟩ := hv (c - 1024)
  simp only [circCfg, tpath_of_tpaths hp, hb]

/-- What the jitter buffers take is read off the settings of paths and groups: LOA has no part in it. -/
theorem jbTotal_congr (hk : t.vcats.map Prod.fst = s.vcats.map Prod.fst) : jbTotal t = jbTotal s := by
  simp only [jbTotal, hp, hk, circuitOn_congr hp hv, circCfg_congr hp hv]

end jitter

theorem vcat_sameLoa {s t : State} (h : t.vcats = s.vcats) (g : Nat) : ∃ b, t.vcat g = { s.vcat g with loa := b } :=
  ⟨_, vcat_of_vcats h g⟩

/-! ## TRIB_PATH_CONFIG (R286, R303) -/

/-- A path takes its settings, and its circuit starts afresh. -/
def pathPut (n : Nat) (y : TPath) (s : State) : State :=
  (s.setTpath n y).setCirc n (if y.mode = 1 ∨ y.mode = 2 then { emitPs := s.clk.nowPs } else {})

theorem pathPut_portsKept (n : Nat) (y : TPath) (s : State) : PortsKept s (pathPut n y s) :=
  (setTpath_portsKept n y s).trans (setCirc_portsKept ..)

/-- A path is assigned: its defects are reported, its group's LOA is judged, and it is monitored. -/
def pathAssigned (n : Nat) (y : TPath) (s : State) : State :=
  let s := withDefects (rxPort y.port s) (pathPut n y) s
  startPm (12288 + n) (if y.mode = 3 then checkLoa y.group s else s)

theorem pathAssigned_judged (n : Nat) (y : TPath) (s : State) : Judged (pathPut n y s) (pathAssigned n y s) := by
  refine ((withDefects_judged (rxPort y.port s) (pathPut n y) s).trans ?_).trans (startPm_judged ..)
  split
  · exact checkLoa_judged ..
  · exact .refl _

theorem effTribPathConfig_assigns {c : Cmd} {s : State} (hfree : (s.tpath (u16 c.req.body 0)).mode = 0) (hmode : u8 c.req.body 2 ≠ 0)
    (hroom : noJbRoom (jbTotal (s.setTpath (u16 c.req.body 0) (pathOfBlock c.req.body))) = false) :
    effTribPathConfig c s = .ok [] (pathAssigned (u16 c.req.body 0) (pathOfBlock c.req.body) s) := by
  have hput : jbTotal (pathPut (u16 c.req.body 0) (pathOfBlock c.req.body) s) =
      jbTotal (s.setTpath (u16 c.req.body 0) (pathOfBlock c.req.body)) := jbTotal_congr rfl (vcat_sameLoa rfl) rfl
  have hroom' : noJbRoom (jbTotal (pathPut (u16 c.req.body 0) (pathOfBlock c.req.body) s)) = false := hput ▸ hroom
  simp only [effTribPathConfig, hfree, hmode, ne_eq, not_true_eq_false, decide_false, Bool.false_and, Bool.false_eq_true, false_and,
    OfNat.zero_ne_ofNat, if_false]
  have hfits : (decide ((pathOfBlock c.req.body).mode = 1 ∨ (pathOfBlock c.req.body).mode = 2) &&
      noJbRoom (jbTotal (pathPut (u16 c.req.body 0) (pathOfBlock c.req.body) s))) = false := by rw [hroom', Bool.and_false]
  exact (if_neg (ne_true_of_eq_false hfits)).trans (congrArg (Res.ok []) (if_neg hmode))

theorem tribPathConfig_assigns {q : CmdReq} {c : Cmd} {s : State} {n : Nat} (hn : n = u16 q.body 0) (h : Runs 0x0701 q c s)
    (hfree : (s.tpath n).mode = 0) (hmode : u8 q.body 2 ≠ 0) (hroom : noJbRoom (jbTotal (s.setTpath n (pathOfBlock q.body))) = false) :
    Completes (.tribPathConfig q) s fun t => Answers c .ok 0 [] s t ∧ t.tpath n = pathOfBlock q.body ∧
      t.circ n = (if u8 q.body 2 = 1 ∨ u8 q.body 2 = 2 then { emitPs := s.clk.nowPs } else {}) ∧
      (∀ k, k ≠ n → t.tpath k = s.tpath k) ∧ t.tribs = s.tribs := by
  obtain rfl := h.isReq
  subst hn
  have hput := pathPut_portsKept (u16 c.req.body 0) (pathOfBlock c.req.body) (markStarted c s)
  have hjudged := pathAssigned_judged (u16 c.req.body 0) (pathOfBlock c.req.body) (markStarted c s)
  have heff := effTribPathConfig_assigns (s := markStarted c s) hfree hmode hroom
  obtain ⟨t, ht, ha, hb⟩ := h.answersAs (sp := specTribPathConfig) rfl heff (hput.alone.trans hjudged.ports.alone)
  have hpaths := hb.tpaths.trans hjudged.tpaths
  refine ⟨t, ht, ha, ?_, ?_, fun k hk => ?_, hb.tribs.trans (hjudged.ports.tribs.trans hput.tribs)⟩
  · exact (tpath_of_tpaths hpaths _).trans (tpath_setTpath_same ..)
  · exact (circ_of_circs (hb.circs.trans hjudged.circs) _).trans (circ_setCirc_same ..)
  · exact (tpath_of_tpaths hpaths _).trans (tpath_setTpath_other (markStarted c s) hk _)

/-! ## VCAT_CONFIG (R292) -/

/-- Beside the books, groups, circuits and paths alone have changed from s to t. -/
def GroupsAlone (s t : State) : Prop := Books { s with vcats := t.vcats, circs := t.circs, tpaths := t.tpaths } t

theorem GroupsAlone.trans {s t u : State} (h : GroupsAlone s t) (k : GroupsAlone t u) : GroupsAlone s u :=
  Eq.trans k (congrArg (fun x : State => { x with
    vcats := u.vcats, circs := u.circs, tpaths := u.tpaths
    out := u.out, evt := u.evt, cnt := u.cnt, stamps := u.stamps, notes := u.notes, role := u.role, cmd := u.cmd, spi := u.spi
    hot := { x.hot with held := u.hot.held } }) h)

theorem Books.groupsAlone {s t : State} (h : Books s t) : GroupsAlone s t := by
  have e := h.eq
  generalize t.out = a, t.evt = b, t.cnt = c, t.stamps = d, t.notes = f, t.role = g, t.cmd = i, t.spi = j, t.hot.held = k at e
  subst e
  exact rfl

/-- The paths of a list hold no shares to transmit. -/
def sharesCleared (l : List Nat) (s : State) : State := l.foldl (fun s q => s.setTpath q { s.tpath q with shares := [] }) s

theorem sharesCleared_eq (l : List Nat) (s : State) : sharesCleared l s = { s with tpaths := (sharesCleared l s).tpaths } :=
  List.foldlRecOn (motive := fun t : State => t = { s with tpaths := t.tpaths }) l _ rfl fun t ht q _ =>
    (congrArg (fun u : State => { u with tpaths := (t.setTpath q { t.tpath q with shares := [] }).tpaths }) ht :)

/-- The paths of a group. -/
def groupPaths (g : Nat) (s : State) : List Nat := (s.tpaths.filter (fun e => decide (e.2.mode = 3 ∧ e.2.group = g))).map (·.1)

/-- A group takes its settings, LOA as it was, and its circuit starts afresh. -/
def groupPut (g : Nat) (v : Vcat) (s : State) : State :=
  (s.setVcat g { v with loa := (s.vcat g).loa }).setCirc (1024 + g) (if v.x = 0 then {} else { emitPs := s.clk.nowPs })

/-- The keys of a map after a write of a value that is kept do not depend on the value. -/
theorem SMap.keys_set {α : Type} [DecidableEq α] {d v w : α} (hv : v ≠ d) (hw : w ≠ d) (m : SMap α) (k : Nat) :
    (SMap.set d m k v).map Prod.fst = (SMap.set d m k w).map Prod.fst := by
  simp only [SMap.set, hv, hw, if_false]
  induction m with
  | nil => rfl
  | cons e m ih =>
    simp only [SMap.put]
    split
    · rfl
    · split
      · rfl
      · exact congrArg (e.1 :: ·) ih

theorem vcatOfBlock_x {p : Bytes} (h : u8 p 1 ≠ 0) : (vcatOfBlock p).x = u8 p 1 := by simp [vcatOfBlock, h]

/-- LOA of a group has no part in what the jitter buffers take. -/
theorem jbTotal_groupPut {g : Nat} {v : Vcat} {s : State} (hx : v.x ≠ 0) : jbTotal (groupPut g v s) = jbTotal (s.setVcat g v) := by
  have hkept (b : Bool) : { v with loa := b } ≠ ({} : Vcat) := fun h => hx (congrArg Vcat.x h)
  refine jbTotal_congr rfl (fun k => ?_) (SMap.keys_set (hkept _) (hkept v.loa) s.vcats g)
  by_cases hk : k = g
  · subst hk
    exact ⟨_, (vcat_setVcat_same ..).trans (by rw [vcat_setVcat_same])⟩
  · exact ⟨_, (vcat_setVcat_other s hk _).trans (vcat_setVcat_other s hk _).symm⟩

theorem effVcatConfig_stores {c : Cmd} {s : State} (hcar : carries [1024 + u8 c.req.body 0] s = false)
    (hroom : u8 c.req.body 1 = 0 ∨ noJbRoom (jbTotal (s.setVcat (u8 c.req.body 0) (vcatOfBlock c.req.body))) = false) :
    effVcatConfig c s = .ok [] (checkLoa (u8 c.req.body 0) (sharesCleared (groupPaths (u8 c.req.body 0) s)
      (groupPut (u8 c.req.body 0) (vcatOfBlock c.req.body) s))) := by
  have hfits : (decide (u8 c.req.body 1 ≠ 0) &&
      noJbRoom (jbTotal (groupPut (u8 c.req.body 0) (vcatOfBlock c.req.body) s))) = false := by
    by_cases hx : u8 c.req.body 1 = 0
    · simp [hx]
    · rw [jbTotal_groupPut (by rwa [vcatOfBlock_x hx]), hroom.resolve_left hx, Bool.and_false]
  exact (if_neg (by simp [hcar])).trans (if_neg (ne_true_of_eq_false hfits))

theorem checkLoa_groupsAlone (g : Nat) (s : State) : GroupsAlone s (checkLoa g s) := by
  rcases checkLoa_cases g s with h | ⟨b, hr⟩
  · exact h.symm ▸ (Books.refl s).groupsAlone
  · exact GroupsAlone.trans (t := s.setVcat g { s.vcat g with loa := b }) rfl hr.noted.books.groupsAlone

theorem checkLoa_vcat (g : Nat) (s : State) : ∃ b, (checkLoa g s).vcat g = { s.vcat g with loa := b } := by
  rcases checkLoa_cases g s with h | ⟨b, hr⟩
  · exact ⟨_, by rw [h]⟩
  · exact ⟨b, (vcat_of_vcats hr.noted.books.vcats g).trans (vcat_setVcat_same ..)⟩

theorem checkLoa_others {g k : Nat} (hk : k ≠ g) (s : State) : (checkLoa g s).vcat k = s.vcat k := by
  rcases checkLoa_cases g s with h | ⟨b, hr⟩
  · rw [h]
  · exact (vcat_of_vcats hr.noted.books.vcats k).trans (vcat_setVcat_other s hk _)

theorem vcatConfig_stores {q : CmdReq} {c : Cmd} {s : State} {g : Nat} {v : Vcat} (hg : g = u8 q.body 0) (hv : v = vcatOfBlock q.body)
    (h : Runs 0x0702 q c s) (hcar : carries [1024 + g] s = false)
    (hroom : u8 q.body 1 = 0 ∨ noJbRoom (jbTotal (s.setVcat g v)) = false) :
    Completes (.vcatConfig q) s fun t => Answers c .ok 0 [] s t ∧ t.vcat g = { v with loa := (t.vcat g).loa } ∧
      t.circ (1024 + g) = (if v.x = 0 then {} else { emitPs := s.clk.nowPs }) ∧ (∀ k, k ≠ g → t.vcat k = s.vcat k) ∧
      Books { s with vcats := t.vcats, circs := t.circs, tpaths := t.tpaths } t := by
  obtain rfl := h.isReq
  have heff := effVcatConfig_stores (c := c) (s := markStarted c s) (by rwa [← hg]) (by rwa [← hg, ← hv])
  rw [← hg, ← hv] at heff
  obtain ⟨u, hu⟩ : ∃ u, u = sharesCleared (groupPaths g (markStarted c s)) (groupPut g v (markStarted c s)) := ⟨_, rfl⟩
  rw [← hu] at heff
  have hclear : u = { groupPut g v (markStarted c s) with tpaths := u.tpaths } := hu ▸ sharesCleared_eq ..
  have hvcats : u.vcats = (groupPut g v (markStarted c s)).vcats := (congrArg State.vcats hclear :)
  have hcircs : u.circs = (groupPut g v (markStarted c s)).circs := (congrArg State.circs hclear :)
  have halone : TribAlone (markStarted c s) u := by rw [hclear]; rfl
  have hgroups : GroupsAlone s u := by rw [hclear]; rfl
  obtain ⟨t, ht, ha, hb⟩ := h.answersAs (sp := specVcatConfig) rfl heff (halone.trans (checkLoa_judged g u).ports.alone)
  obtain ⟨b, hloa⟩ := checkLoa_vcat g u
  have hgroup : t.vcat g = { v with loa := b } := by
    rw [vcat_of_vcats hb.vcats, hloa, vcat_of_vcats hvcats]
    exact congrArg (fun x : Vcat => { x with loa := b }) (vcat_setVcat_same (markStarted c s) g { v with loa := (s.vcat g).loa })
  refine ⟨t, ht, ha, ?_, ?_, fun k hk => ?_, (hgroups.trans (checkLoa_groupsAlone g u)).trans hb.groupsAlone⟩
  · rw [hgroup]
  · exact (circ_of_circs (hb.circs.trans ((checkLoa_judged g u).circs.trans hcircs)) _).trans (circ_setCirc_same ..)
  · rw [vcat_of_vcats hb.vcats, checkLoa_others hk, vcat_of_vcats hvcats]
    exact vcat_setVcat_other (markStarted c s) hk _

/-! ## MSP_CONFIG and MSP_COMMAND (R299, R304) -/

/-- An enabled MSP pair with the settings of a block. -/
def Msp.configured (p : Bytes) (m : Msp) : Msp :=
  { m with enabled := true, bidir := decide (u8 p 1 = 1), revertive := decide (u8 p 2 = 1), wtrMin := u8 p 3 }

theorem effMspConfig_enables {c : Cmd} {s : State} (hone : u8 c.req.body 0 = 1) (hcar : carries (circuitsOn c.req.index s) s = false) :
    effMspConfig c s = .ok [] (mspEval (c.req.index / 2)
      (s.setMsp (c.req.index / 2) ((s.msp (c.req.index / 2)).configured c.req.body))) := by
  refine (if_neg (by simp [hcar])).trans ?_
  rw [if_pos (by simp [hone])]
  rfl

/-- What a pair is after a write and an evaluation of its requests: the settings and the command as written, the other pairs as before. -/
theorem mspEval_setMsp (k : Nat) (m : Msp) (s : State) : TribAlone s (mspEval k (s.setMsp k m)) ∧
    (∃ w r sel, (mspEval k (s.setMsp k m)).msp k = { m with wtrEnd := w, request := r, selected := sel }) ∧
    ∀ j, j ≠ k → (mspEval k (s.setMsp k m)).msp j = s.msp j := by
  obtain ⟨hjudged, ⟨w, r, sel, hm, -⟩, hothers⟩ := mspEval_judged k (s.setMsp k m)
  refine ⟨(setMsp_judged k m s).ports.alone.trans hjudged.ports.alone, ⟨w, r, sel, ?_⟩, fun j hj => (hothers j hj).trans (msp_setMsp_other s hj m)⟩
  rw [hm, msp_setMsp_same]

theorem mspConfig_enables {q : CmdReq} {c : Cmd} {s : State} {k : Nat} (hk : k = q.index / 2) (h : Runs 0x0703 q c s)
    (hone : u8 q.body 0 = 1) (hcar : carries (circuitsOn q.index s) s = false) :
    Completes (.mspConfig q) s fun t => Answers c .ok 0 [] s t ∧ (t.msp k).enabled = true ∧
      (t.msp k).bidir = decide (u8 q.body 1 = 1) ∧ (t.msp k).revertive = decide (u8 q.body 2 = 1) ∧
      (t.msp k).wtrMin = u8 q.body 3 ∧ (∀ j, j ≠ k → t.msp j = s.msp j) := by
  obtain rfl := h.isReq
  subst hk
  obtain ⟨halone, ⟨w, r, sel, hm⟩, hothers⟩ := mspEval_setMsp (c.req.index / 2)
    (((markStarted c s).msp (c.req.index / 2)).configured c.req.body) (markStarted c s)
  obtain ⟨t, ht, ha, hb⟩ := h.answersAs (sp := specMspConfig) rfl (effMspConfig_enables (s := markStarted c s) hone hcar) halone
  have hpair := (msp_of_msps hb.msps _).trans hm
  refine ⟨t, ht, ha, ?_, ?_, ?_, ?_, fun j hj => (msp_of_msps hb.msps j).trans (hothers j hj)⟩ <;> rw [hpair] <;> rfl

theorem effMspCommand_takes {c : Cmd} {s : State} (hon : (s.msp (c.req.index / 2)).enabled = true)
    (hrank : (s.msp (c.req.index / 2)).request ≤ mspCode (u8 c.req.body 0) ∨ u8 c.req.body 0 < 3) : ∀ {u : State},
    u = mspEval (c.req.index / 2) (s.setMsp (c.req.index / 2) { s.msp (c.req.index / 2) with command := mspCode (u8 c.req.body 0) }) →
    effMspCommand c s = .ok (le 1 (u.msp (c.req.index / 2)).selected ++ le 1 (u.msp (c.req.index / 2)).request ++ zeros 2) u := by
  rintro _ rfl
  have hfree : ¬ ((mspCode (u8 c.req.body 0) = 3 ∨ mspCode (u8 c.req.body 0) = 2) ∧
      mspCode (u8 c.req.body 0) < (s.msp (c.req.index / 2)).request) := by
    rintro ⟨hcode, hlt⟩
    rcases hrank with hle | hsmall
    · omega
    · interval_cases hb : u8 c.req.body 0 <;> simp [mspCode] at hcode
  exact (if_neg (by simp [hon])).trans (if_neg hfree)

theorem mspCommand_unknown {q : CmdReq} {c : Cmd} {s : State} {k : Nat} (hk : k = q.index / 2) (h : Runs 0x0704 q c s)
    (hoff : (s.msp k).enabled = false) : Completes (.mspCommand q) s fun t => Answers c .notFound 0 [] s t ∧ Books s t := by
  obtain rfl := h.isReq
  subst hk
  have heff : effMspCommand c (markStarted c s) = .fail .notFound (markStarted c s) := if_pos (by simp [hoff])
  exact Runs.reads (sp := specMspCommand) h rfl heff

theorem mspCommand_takes {q : CmdReq} {c : Cmd} {s : State} {k : Nat} (hk : k = q.index / 2) (h : Runs 0x0704 q c s)
    (hon : (s.msp k).enabled = true) (hrank : (s.msp k).request ≤ mspCode (u8 q.body 0) ∨ u8 q.body 0 < 3) :
    Completes (.mspCommand q) s fun t =>
      Answers c .ok 0 (le 1 (t.msp k).selected ++ le 1 (t.msp k).request ++ zeros 2) s t ∧
      (t.msp k).command = mspCode (u8 q.body 0) ∧ (∀ j, j ≠ k → t.msp j = s.msp j) := by
  obtain rfl := h.isReq
  subst hk
  obtain ⟨u, hu⟩ : ∃ u, u = mspEval (c.req.index / 2) ((markStarted c s).setMsp (c.req.index / 2)
    { (markStarted c s).msp (c.req.index / 2) with command := mspCode (u8 c.req.body 0) }) := ⟨_, rfl⟩
  obtain ⟨halone, ⟨w, r, sel, hm⟩, hothers⟩ := mspEval_setMsp (c.req.index / 2)
    { (markStarted c s).msp (c.req.index / 2) with command := mspCode (u8 c.req.body 0) } (markStarted c s)
  rw [← hu] at halone hm hothers
  obtain ⟨t, ht, ha, hb⟩ := h.answersAs (sp := specMspCommand) rfl (effMspCommand_takes (s := markStarted c s) hon hrank hu) halone
  refine ⟨t, ht, ?_, ?_, fun j hj => (msp_of_msps hb.msps j).trans (hothers j hj)⟩
  · rwa [msp_of_msps hb.msps]
  · rw [msp_of_msps hb.msps, hm]

/-! ## PM_READ (R302) -/

/-- The bin that a PM_READ block names, where the entity has it. -/
def namedBin (p : Bytes) (s : State) : Option PmBin := (SMap.get none s.pms (4096 * u8 p 0 + u16 p 2)).bind (binOf (u8 p 1))

/-- What PM_READ answers of a bin (R302). -/
def binBlock (b : PmBin) : Bytes :=
  le 8 b.start ++ le 4 b.es ++ le 4 b.ses ++ le 4 b.bbe ++ le 4 b.uas ++ le 1 (b2n b.suspect + 2 * b2n b.adjusted) ++ zeros 3

theorem effPmRead_eq (c : Cmd) (s : State) :
    effPmRead c s = (match namedBin c.req.body s with | some b => .ok (binBlock b) s | none => .fail .notFound s) := rfl

theorem pmRead_answers {q : CmdReq} {c : Cmd} {s : State} (h : Runs 0x0705 q c s) (b : PmBin) (hbin : namedBin q.body s = some b) :
    Completes (.pmRead q) s fun t => Answers c .ok 0 (binBlock b) s t ∧ Books s t := by
  obtain rfl := h.isReq
  have hbin' : namedBin c.req.body (markStarted c s) = some b := hbin
  exact Runs.reads (sp := specPmRead) h rfl (by rw [effPmRead_eq, hbin']; rfl)

theorem pmRead_unknown {q : CmdReq} {c : Cmd} {s : State} (h : Runs 0x0705 q c s) (hbin : namedBin q.body s = none) :
    Completes (.pmRead q) s fun t => Answers c .notFound 0 [] s t ∧ Books s t := by
  obtain rfl := h.isReq
  have hbin' : namedBin c.req.body (markStarted c s) = none := hbin
  exact Runs.reads (sp := specPmRead) h rfl (by rw [effPmRead_eq, hbin']; rfl)

/-! ## The obligation -/

/-- Settles O39: each command has its own rule above. -/
theorem tributaryCommandsAnswer : Obligations.TributaryCommandsAnswer := fun _ _ _ =>
  ⟨fun _ hn h hcar => ⟨tribPortConfig_enters hn h hcar, tribPortConfig_leaves hn h hcar, tribPortConfig_stores hn h hcar⟩,
    fun _ hn h => tribPathConfig_assigns hn h, fun _ _ hg hv h => vcatConfig_stores hg hv h, fun _ hk h => mspConfig_enables hk h,
    fun _ hk h => ⟨mspCommand_unknown hk h, mspCommand_takes hk h⟩, fun h => ⟨pmRead_answers h, pmRead_unknown h⟩⟩

end Sys2Proof.Machine
end

section
/-!
PROOFS. Framing and frames of legacy tributaries (11 R285–R293): the hunt, the transmitted and the received STM-N frame, and LOF.
-/

namespace Sys2Proof.Machine

/-! ## What leaves the ports (R290–R293) -/

theorem pmBlock_judged (k : Nat) (bad : Bool) (s : State) : Judged s (pmBlock k bad s) := by
  unfold pmBlock
  split
  · split
    · exact ⟨⟨rfl, rfl, List.suffix_rfl⟩, rfl, rfl⟩
    · exact .refl s
  · exact .refl s

theorem alignGroup_portsKept (g : Nat) (s : State) : PortsKept s (alignGroup g s) := by
  unfold alignGroup
  dsimp only
  split
  · exact .refl s
  · split
    · exact .refl s
    · exact (foldl_portsKept (fun _ _ => setTpath_portsKept ..) _ s).trans (setCirc_portsKept ..)

theorem extractE1_portsKept (p : Nat) (was : TPath) (r : TuRx) (s : State) : PortsKept s (extractE1 p was r s) := by
  unfold extractE1
  split
  · exact setCirc_portsKept ..
  · split
    · split
      · exact (setCirc_portsKept ..).trans (setCirc_portsKept ..)
      · exact setCirc_portsKept ..
    · exact .refl s

theorem takeTu_portsKept (n : Nat) (r : TuRx) (s : State) : PortsKept s (takeTu n r s) := by
  unfold takeTu
  dsimp only
  split
  · exact .refl s
  · have htaken (p k : Nat) (z : TPath) (bad : Bool) : PortsKept s (pmBlock k bad (s.setTpath p z)) :=
      (setTpath_portsKept p z s).trans (pmBlock_judged k bad _).ports
    have hcounted (k n : Nat) (t : State) : PortsKept t (addCounter k n t) := (addCounter_reported k n t).judged.ports
    split
    · exact (htaken ..).trans ((checkLoa_judged ..).ports.trans (alignGroup_portsKept ..))
    · split
      · exact (htaken ..).trans ((hcounted ..).trans ((hcounted ..).trans (extractE1_portsKept ..)))
      · exact (htaken ..).trans ((hcounted ..).trans (extractE1_portsKept ..))

theorem nextShares_portsKept (g : Nat) (s : State) : PortsKept s (nextShares g s) :=
  ((setCirc_portsKept ..).trans (setVcat_judged ..).ports).trans (foldl_portsKept (fun _ _ => setTpath_portsKept ..) _ _)

theorem buildVc_portsKept (p : Nat) (s : State) : PortsKept s (buildVc p s) := by
  unfold buildVc
  dsimp only
  split
  · refine PortsKept.trans ?_ (setTpath_portsKept ..)
    split
    · exact nextShares_portsKept ..
    · exact .refl s
  · exact (setCirc_portsKept ..).trans (setTpath_portsKept ..)

/-! ## The hunt (R287, Table 11.1) -/

section hunt

variable {n pos shift : Nat} {x : Trib} {b : Bool} (hpos : pos = (x.bitNo + 1) % frameBits n)
  (hshift : shift = (x.shift * 2 + b2n b) % 2 ^ 48) (hB1 : ∀ c ∈ x.cands, (c.push b).falseB1 n shift = false)

@[simp] theorem Cand.push_pos (c : Cand) (b : Bool) : (c.push b).pos = c.pos := rfl

@[simp] theorem Cand.push_hits (c : Cand) (b : Bool) : (c.push b).hits = c.hits := rfl

include hB1

theorem noFalseFrame : (x.cands.map (fun c => c.push b)).filter (Cand.falseB1 n shift) = [] := by
  simpa [List.filter_eq_nil_iff] using hB1

/-- With no false frame among them, candidates fall only for what else is asked of them. -/
theorem candsLeft (f : Cand → Bool) :
    (x.cands.map (fun c => c.push b)).filter (fun c => !c.falseB1 n shift && f c) = (x.cands.map (fun c => c.push b)).filter f :=
  List.filter_congr fun c hc => by
    obtain ⟨d, hd, rfl⟩ := List.mem_map.1 hc
    simp only [hB1 d hd, Bool.not_false, Bool.true_and]

theorem candsAllLeft :
    (x.cands.map (fun c => c.push b)).filter (fun c => !c.falseB1 n shift) = x.cands.map (fun c => c.push b) := by
  simpa using candsLeft hB1 (fun _ => true)

include hpos hshift

/-- A bit with which the pattern has not come: a candidate whose place this is falls. -/
theorem huntBit_absent (hne : shift ≠ framing) :
    (x.huntBit n b).1.cands = (x.cands.map (fun c => c.push b)).filter (fun c => decide (c.pos ≠ pos)) := by
  simp only [Trib.huntBit, ← hpos, ← hshift, hne, decide_false, Bool.not_false, if_true, Bool.false_or, candsLeft hB1]

theorem huntBit_opens (heq : shift = framing) (hfree : ∀ c ∈ x.cands, c.pos ≠ pos) (hfew : x.cands.length < 4) :
    (x.huntBit n b).1.cands = x.cands.map (fun c => c.push b) ++ [({ pos } : Cand)] ∧ (x.huntBit n b).2 = [] := by
  have hnone : (x.cands.map (fun c => c.push b)).find? (fun c => decide (c.pos = pos)) = none := by
    refine List.find?_eq_none.2 fun c hc => ?_
    obtain ⟨d, hd, rfl⟩ := List.mem_map.1 hc
    exact fun h => hfree d hd (of_decide_eq_true h)
  subst heq
  simp only [Trib.huntBit, ← hpos, ← hshift, decide_true, Bool.not_true, Bool.false_eq_true, if_false, Bool.true_or, Bool.and_true,
    candsAllLeft hB1, noFalseFrame hB1, hnone, List.length_map, Nat.not_le.2 hfew, List.map_nil, and_self]

theorem huntBit_locks (c : Cand) (heq : shift = framing) (hc : x.cands.find? (fun c => decide (c.pos = pos)) = some c) (hhits : 2 ≤ c.hits) :
    (x.huntBit n b).1.align = 2 ∧ (x.huntBit n b).1.offset = pos ∧ (x.huntBit n b).1.cands = [] ∧ (x.huntBit n b).2 = [.locked] := by
  have hsome : (x.cands.map (fun c => c.push b)).find? (fun c => decide (c.pos = pos)) = some (c.push b) := by
    rw [List.find?_map]
    exact congrArg (Option.map (fun c => c.push b)) hc
  subst heq
  simp only [Trib.huntBit, ← hpos, ← hshift, decide_true, Bool.not_true, Bool.false_eq_true, if_false, Bool.true_or, Bool.and_true,
    candsAllLeft hB1, noFalseFrame hB1, hsome, Cand.push_hits, hhits, if_true, List.map_nil, List.nil_append, and_self]

end hunt

/-- What the hunt has brought about is counted. -/
def huntCounted (n : Nat) (ev : List HuntEvent) (s : State) : State :=
  let s := (ev.filter (· = .overflow)).foldl (fun s _ => count .tribCandOverflow n s) s
  (ev.filter (· = .falseFrame)).foldl (fun s _ => count .tribFalseFrame n s) s

theorem huntCounted_reported (n : Nat) (ev : List HuntEvent) (s : State) : Reported s (huntCounted n ev s) :=
  (foldl_reported (fun _ _ => count_reported ..) _ _).trans (foldl_reported (fun _ _ => count_reported ..) _ _)

theorem setOof_trib (n : Nat) (b : Bool) (s : State) : ∃ ps, (setOof n b s).trib n = { s.trib n with oof := b, oofPs := ps } := by
  unfold setOof
  rw [trib_modTrib_same]
  split
  case isTrue h => exact ⟨_, by rw [← h]⟩
  case isFalse h => exact ⟨_, rfl⟩

section pattern

variable {k : Fin 8} {s : State} {l : List Bool} {y : Trib} {ev : List HuntEvent} (hon : On s) (he : (s.trib k).enable = true)
  (ha : (s.trib k).align = 1) (hl : (s.trib k).los = false)
  (hy : (s.trib k).hunt (oversampling (s.lane (24 + k.val)).rate) (ausOf k s) l = (y, ev))

include he ha hl hy

theorem execTribFramePattern_hunts : execTribFramePattern k l s =
    if ev.contains .locked then portChange k (fun s => setOof k false (s.setTrib k y)) (huntCounted k ev s)
    else (huntCounted k ev s).setTrib k y := by
  unfold execTribFramePattern
  dsimp only
  rw [if_neg (by simp [he, ha, hl]), hy]
  rfl

include hon

theorem tribFramePattern_goesOn (hev : HuntEvent.locked ∉ ev) : Completes (.tribFramePattern k l) s fun t =>
    t.trib k = y ∧ (∀ j, j ≠ k.val → t.trib j = s.trib j) ∧ Books { s with tribs := t.tribs } t := by
  have hr := huntCounted_reported k ev s
  have hx := (execTribFramePattern_hunts he ha hl hy).trans (if_neg (by simpa using hev))
  refine live_completes hon _ hx (hr.noted.outer.trans (setTrib_alone ..).outer) ⟨trib_setTrib_same .., fun j hj => ?_, ?_⟩
  · exact (trib_setTrib_other _ hj _).trans (trib_of_tribs hr.noted.books.tribs j)
  · exact (congrArg (fun t : State => { t with tribs := ((huntCounted k ev s).setTrib k y).tribs }) hr.noted.books.eq :)

theorem tribFramePattern_locks (hev : HuntEvent.locked ∈ ev) : Completes (.tribFramePattern k l) s fun t =>
    (t.trib k).align = y.align ∧ (t.trib k).offset = y.offset ∧ (t.trib k).cands = y.cands ∧ (t.trib k).oof = false := by
  have hr := huntCounted_reported k ev s
  obtain ⟨f, hf⟩ : ∃ f : State → State, f = fun s => setOof k false (s.setTrib k y) := ⟨_, rfl⟩
  have hx : execTribFramePattern k l s = portChange k f (huntCounted k ev s) := by
    rw [hf]
    exact (execTribFramePattern_hunts he ha hl hy).trans (if_pos (by simpa using hev))
  have halone : TribAlone (huntCounted k ev s) (portChange k f (huntCounted k ev s)) := portChange_alone (hf ▸ rfl)
  obtain ⟨v, hv⟩ := portChange_trib k f (huntCounted k ev s)
  obtain ⟨ps, hps⟩ := setOof_trib k false ((huntCounted k ev s).setTrib k y)
  refine live_completes hon _ hx (hr.noted.outer.trans halone.outer) ?_
  rw [hv, hf, hps, trib_setTrib_same]
  exact ⟨rfl, rfl, rfl, rfl⟩

end pattern

/-! ## LOF (R288) -/

theorem tribLofTimer_follows {k : Fin 8} {s : State} (hon : On s) (he : (s.trib k).enable = true) (hne : (s.trib k).oof ≠ (s.trib k).lof) :
    Completes (.tribLofTimer k) s fun t =>
      t.trib k = { s.trib k with lof := (s.trib k).oof, txPpm := (t.trib k).txPpm } ∧
      t.clk.nowPs = max s.clk.nowPs ((s.trib k).oofPs + 3000000000) := by
  obtain ⟨u, hu⟩ : ∃ u, u = advanceTo ((s.trib k).oofPs + 3000000000) s := ⟨_, rfl⟩
  obtain ⟨f, hf⟩ : ∃ f : State → State, f = fun s => s.modTrib k (fun x => { x with lof := x.oof }) := ⟨_, rfl⟩
  have hx : execTribLofTimer k s = portChange k f u := by
    rw [hf, hu]
    exact if_pos (by simp [he, hne])
  have halone : TribAlone u (portChange k f u) := portChange_alone (hf ▸ modTrib_alone ..)
  have hout : Outer s u := hu ▸ advanceTo_outer ..
  obtain ⟨v, hv⟩ := portChange_trib k f u
  refine live_completes hon _ hx (hout.trans halone.outer) ⟨?_, ?_⟩
  · rw [hv, hf, trib_modTrib_same, hu]
    rfl
  · rw [halone.clk, hu]
    rfl

/-! ## The transmitted frame (R285) -/

/-- A port that has sent its frame: its transmit clock, its parities and its place in the TU multiframe alone have moved on. -/
structure SentFrame (n : Nat) (s t : State) : Prop where
  alone : TribAlone s t
  port : ∃ ppm b1 b2 aus, t.trib n =
    { s.trib n with txPpm := ppm, txB1 := b1, txB2 := b2, m1 := 0, aus, txPlace := ((s.trib n).txPlace + 1) % 4 }
  others : ∀ j, j ≠ n → t.trib j = s.trib j
  sent : ∃ ppm data, Out.stm n (oversampling (s.lane (24 + n)).rate) ppm data ∈ t.out

theorem putStm_eq {home place n : Nat} {s : State} (hp : pairStandby s = false) : ∃ ppm data b1 b2 aus, putStm home place n s =
    emit (.stm n (oversampling (s.lane (24 + n)).rate) ppm data)
      (s.setTrib n { s.trib n with txB1 := b1, txB2 := b2, m1 := 0, aus, txPlace := (place + 1) % 4 }) :=
  ⟨_, _, _, _, _, congrFun (if_neg (ne_true_of_eq_false hp)) _⟩

theorem putStm_sent {home n : Nat} {s : State} (hp : pairStandby s = false) : SentFrame n s (putStm home (s.trib n).txPlace n s) := by
  obtain ⟨ppm, data, b1, b2, aus, h⟩ := putStm_eq (home := home) (place := (s.trib n).txPlace) (n := n) hp
  rw [h]
  exact
    { alone := rfl
      port := ⟨_, _, _, _, trib_setTrib_same ..⟩
      others := fun j hj => trib_setTrib_other s hj _
      sent := ⟨_, _, List.mem_cons_self⟩ }

theorem pairStandby_of_pair {s t : State} (h : t.pair = s.pair) : pairStandby t = pairStandby s := by simp only [pairStandby, h]

/-- A port outside an enabled pair sends its own frame alone; every fourth frame begins new VC-12s (R285, R290). -/
theorem sendStm_unpaired {n : Nat} {s : State} (hm : (s.msp (n / 2)).enabled = false) : sendStm n s =
    putStm n (s.trib n).txPlace n
      (if (s.trib n).txPlace = 3 then (pathsOf n (steerTx n s)).foldl (fun s p => buildVc p s) (steerTx n s) else steerTx n s) := by
  unfold sendStm
  simp only [hm, Bool.false_and, Bool.false_eq_true, if_false, List.foldl_cons, List.foldl_nil]

theorem sendStm_sent {n : Nat} {s : State} (hm : (s.msp (n / 2)).enabled = false) (hp : pairStandby s = false) :
    SentFrame n s (sendStm n s) := by
  obtain ⟨u, hu⟩ : ∃ u, u = if (s.trib n).txPlace = 3 then (pathsOf n (steerTx n s)).foldl (fun s p => buildVc p s) (steerTx n s)
    else steerTx n s := ⟨_, rfl⟩
  have hkept : PortsKept (steerTx n s) u := by
    rw [hu]
    split
    · exact foldl_portsKept (fun _ _ => buildVc_portsKept ..) _ _
    · exact .refl _
  obtain ⟨v, hv⟩ := steerTx_trib n s
  have hport : u.trib n = { s.trib n with txPpm := v } := (trib_of_tribs hkept.tribs n).trans hv
  have hplace : (s.trib n).txPlace = (u.trib n).txPlace := by rw [hport]
  have halone : TribAlone s u := (steerTx_alone n s).trans hkept.alone
  have hlane : u.lane (24 + n) = s.lane (24 + n) := lane_of_lanes halone.lanes _
  obtain ⟨hsend, ⟨ppm, b1, b2, aus, htrib⟩, hothers, hout⟩ := putStm_sent (home := n) (n := n) ((pairStandby_of_pair halone.pair).trans hp)
  rw [← hplace] at hsend htrib hothers hout
  rw [sendStm_unpaired hm, ← hu]
  refine ⟨halone.trans hsend, ⟨ppm, b1, b2, aus, ?_⟩, fun j hj => ?_, hlane ▸ hout⟩
  · rw [htrib, hport]
  · rw [hothers j hj, trib_of_tribs hkept.tribs, steerTx_others hj]

/-! ## The received frame (R289) -/

theorem Trib.takeB2_eq (n errs : Nat) (x : Trib) : ∃ m l e d de df,
    x.takeB2 n errs = { x with m1 := m, b2Last := l, exc := e, deg := d, degErrs := de, degFrames := df } := by
  unfold Trib.takeB2
  dsimp only
  split
  · exact ⟨_, _, _, _, _, _, rfl⟩
  · exact ⟨_, _, _, _, _, _, rfl⟩

/-- What of a port a received frame leaves, or sets from the frame alone. -/
structure TookFrame (f : StmFrame) (x y : Trib) : Prop where
  align : y.align = x.align
  place : y.txPlace = x.txPlace
  errRun : f.patternOk = true → y.errRun = 0
  rdi : y.msRdi = decide (f.k2.toNat % 8 = 6)
  k1 : y.k1Last = f.k1.toNat
  ppm : y.rxPpm = clampTo 100000 f.ppm

theorem Trib.take_took (n : Nat) (x : Trib) (f : StmFrame) : TookFrame f x (x.take n f) := by
  unfold Trib.take
  dsimp only
  obtain ⟨m, l, e, d, de, df, h⟩ := Trib.takeB2_eq n f.b2Errors _
  rw [h]
  exact ⟨rfl, rfl, fun hok => if_pos hok, rfl, rfl, rfl⟩

/-- What a port does after a frame: five in a row without the pattern make it hunt from its former offset, in OOF (Table 11.1). -/
def frameJudged (n : Nat) (s : State) : State :=
  if 5 ≤ (s.trib n).errRun then
    setOof n true (s.modTrib n (fun x =>
      { x with align := 1, errRun := 0, shift := 0, cands := [{ pos := x.offset, hits := 2, check := false }] }))
  else s

/-- A port takes a frame: its section overhead, then the paths. -/
def frameTaken (n aus : Nat) (f : StmFrame) (s : State) : State :=
  f.tus.foldl (fun s r => takeTu n r s) (s.modTrib n (fun x => x.take aus f))

/-- The errored blocks of a frame are counted for the entities of its port (R301). -/
def frameMonitored (n : Nat) (f : StmFrame) (s : State) : State :=
  let s' := pmBlock (4096 + n) (decide (f.b2Errors ≠ 0)) (pmBlock n f.b1Bad s)
  ((f.aus.take (ausOf n s)).zipIdx).foldl (fun s a => pmBlock (8192 + 4 * n + a.2) (decide (a.1.b3Errors ≠ 0)) s) s'

theorem takeStm_eq (n : Nat) (f : StmFrame) (s : State) :
    takeStm n f s = portChange n (fun u => frameJudged n (frameTaken n (ausOf n s) f u)) (frameMonitored n f s) := rfl

theorem frameMonitored_judged (n : Nat) (f : StmFrame) (s : State) : Judged s (frameMonitored n f s) :=
  ((pmBlock_judged ..).trans (pmBlock_judged ..)).trans (foldl_judged (fun _ _ => pmBlock_judged ..) _ _)

theorem frameTaken_portsKept (n aus : Nat) (f : StmFrame) (s : State) :
    PortsKept (s.modTrib n (fun x => x.take aus f)) (frameTaken n aus f s) :=
  foldl_portsKept (fun _ _ => takeTu_portsKept ..) _ _

/-- At most the port itself changes, its place in the transmitted TU multiframe not. -/
theorem frameJudged_port (n : Nat) (s : State) : TribAlone s (frameJudged n s) ∧ (frameJudged n s).out = s.out ∧
    ((frameJudged n s).trib n).txPlace = (s.trib n).txPlace ∧ ∀ j, j ≠ n → (frameJudged n s).trib j = s.trib j := by
  unfold frameJudged
  split
  · obtain ⟨ps, hps⟩ := setOof_trib n true (s.modTrib n (fun x =>
      { x with align := 1, errRun := 0, shift := 0, cands := [{ pos := x.offset, hits := 2, check := false }] }))
    refine ⟨rfl, rfl, ?_, fun j hj => ?_⟩
    · rw [hps, trib_modTrib_same]
    · exact (trib_modTrib_other _ hj _).trans (trib_modTrib_other s hj _)
  · exact ⟨.refl s, rfl, rfl, fun _ _ => rfl⟩

theorem frameJudged_none {n : Nat} {s : State} (h : (s.trib n).errRun = 0) : frameJudged n s = s := if_neg (by omega)

/-- What taking a frame leaves, and what it sets of its port where the pattern is in place. -/
theorem takeStm_takes (n : Nat) (f : StmFrame) (s : State) : TribAlone s (takeStm n f s) ∧ s.out <:+ (takeStm n f s).out ∧
    ((takeStm n f s).trib n).txPlace = (s.trib n).txPlace ∧ (∀ j, j ≠ n → (takeStm n f s).trib j = s.trib j) ∧
    (f.patternOk = true → ((takeStm n f s).trib n).errRun = 0 ∧ TookFrame f (s.trib n) ((takeStm n f s).trib n)) := by
  obtain ⟨m, hm⟩ : ∃ m, m = frameMonitored n f s := ⟨_, rfl⟩
  obtain ⟨w, hw⟩ : ∃ w, w = frameTaken n (ausOf n s) f m := ⟨_, rfl⟩
  obtain ⟨g, hg⟩ : ∃ g : State → State, g = fun u => frameJudged n (frameTaken n (ausOf n s) f u) := ⟨_, rfl⟩
  have hx : takeStm n f s = portChange n g m := by rw [takeStm_eq, hg, hm]
  have hgm : g m = frameJudged n w := by rw [hg, hw]
  have hmon : Judged s m := hm ▸ frameMonitored_judged n f s
  have htaken : PortsKept (m.modTrib n (fun x => x.take (ausOf n s) f)) w := hw ▸ frameTaken_portsKept n _ f m
  have hport : w.trib n = (s.trib n).take (ausOf n s) f := by
    rw [trib_of_tribs htaken.tribs, trib_modTrib_same, trib_of_tribs hmon.ports.tribs]
  have htook := Trib.take_took (ausOf n s) (s.trib n) f
  obtain ⟨hja, hjo, hjp, hjn⟩ := frameJudged_port n w
  have halone : TribAlone m (g m) := by
    rw [hgm]
    exact ((modTrib_alone ..).trans htaken.alone).trans hja
  obtain ⟨v, hv⟩ := portChange_trib n g m
  have hout : s.out <:+ (g m).out := by
    rw [hgm, hjo]
    exact hmon.ports.out.trans htaken.out
  rw [hx]
  refine ⟨hmon.ports.alone.trans (portChange_alone halone), hout.trans portChange_out, ?_, fun j hj => ?_, fun hok => ?_⟩
  · rw [hv, hgm, hjp, hport, htook.place]
  · rw [portChange_others hj, hgm, hjn j hj, trib_of_tribs htaken.tribs, trib_modTrib_other m hj, trib_of_tribs hmon.ports.tribs]
  · have hrun : (w.trib n).errRun = 0 := by rw [hport, htook.errRun hok]
    rw [hv, hgm, frameJudged_none hrun, hport]
    exact ⟨htook.errRun hok, htook.align, htook.place, htook.errRun, htook.rdi, htook.k1, htook.ppm⟩

theorem tribStmFrame_sends {k : Fin 8} {f : StmFrame} {s : State} (hon : On s) (he : (s.trib k).enable = true)
    (hm : (s.msp (k.val / 2)).enabled = false) (hp : pairStandby s = false) : Completes (.tribStmFrame k f) s fun t =>
      (t.trib k).txPlace = ((s.trib k).txPlace + 1) % 4 ∧
      (∃ ppm data, Out.stm k (oversampling (s.lane (24 + k.val)).rate) ppm data ∈ t.out) ∧ (∀ j, j ≠ k.val → t.trib j = s.trib j) ∧
      ((s.trib k).align = 2 → (s.trib k).los = false → f.patternOk = true → (t.trib k).align = 2 ∧ (t.trib k).errRun = 0 ∧
        (t.trib k).msRdi = decide (f.k2.toNat % 8 = 6) ∧ (t.trib k).k1Last = f.k1.toNat ∧
        (t.trib k).rxPpm = clampTo 100000 f.ppm) := by
  obtain ⟨u, hu⟩ : ∃ u, u = sendStm k s := ⟨_, rfl⟩
  obtain ⟨halone, ⟨ppm, b1, b2, aus, hport⟩, hothers, ppm', data, hout⟩ := hu ▸ sendStm_sent (n := k) hm hp
  have hplace : (u.trib k).txPlace = ((s.trib k).txPlace + 1) % 4 := by rw [hport]
  have hx : execTribStmFrame k f s = if (s.trib k).align ≠ 2 ∨ (s.trib k).los = true then u else takeStm k f u := by
    rw [hu]
    exact if_neg (by simp [he])
  by_cases hin : (s.trib k).align ≠ 2 ∨ (s.trib k).los = true
  · refine live_completes hon _ (hx.trans (if_pos hin)) halone.outer ⟨hplace, ⟨_, _, hout⟩, hothers, fun ha hl => ?_⟩
    simp [ha, hl] at hin
  · obtain ⟨hta, hto, htp, htn, htook⟩ := takeStm_takes k f u
    refine live_completes hon _ (hx.trans (if_neg hin)) (halone.outer.trans hta.outer)
      ⟨htp.trans hplace, ⟨_, _, hto.subset hout⟩, fun j hj => (htn j hj).trans (hothers j hj), fun ha _ hok => ?_⟩
    obtain ⟨herr, htook⟩ := htook hok
    exact ⟨htook.align.trans (by rw [hport, ha]), herr, htook.rdi, htook.k1, htook.ppm⟩

end Sys2Proof.Machine
end

section
/-!
PROOFS. Circuit emulation (11 R294–R297): packets that a circuit sends, packets that arrive, and playout.
-/

namespace Sys2Proof.Machine

/-! ## Packets that a circuit sends (R294, R295) -/

/-- A circuit once it has sent a packet: its sequence has counted on. -/
def Circ.sentOn (now : Nat) (rest : List Bool) (x : Circ) : Circ := { x with txSeq := (x.txSeq + 1) % 65536, rxBits := rest, emitPs := now }

/-- The packet of a circuit without RTP, with payload and L (Table 11.4). -/
def cesFrame (c : Nat) (l : Bool) (pay : Bytes) (s : State) : Frame :=
  { data := (circCfg c s).hdr.take (circCfg c s).hdrLen ++ be 4 (b2n l * 2 ^ 27 + b2n (s.circ c).lops * 2 ^ 26 +
      (if 4 + pay.length < 64 then 4 + pay.length else 0) * 65536 + (s.circ c).txSeq) ++ pay
    ingress := (circIngress c s).1, tag := (circIngress c s).2 }

theorem sendCes_plain {c : Nat} {l : Bool} {pay : Bytes} {rest : List Bool} {s : State} (h : (circCfg c s).clock ≠ 1) :
    sendCes c l pay rest s =
      { s.setCirc c ((s.circ c).sentOn s.clk.nowPs rest) with waitUp := s.waitUp ++ [cesFrame c l pay s] } := by
  unfold sendCes
  dsimp only
  rw [if_neg h]
  simp only [List.length_nil, Nat.add_zero, List.append_nil]
  rfl

theorem cesPacketEmit_sends {c : Fin 1056} {k : CircCfg} {l : Bool} {pay : Bytes} {s u : State} (hon : On s) (hc : circuitOn c s = true)
    (hk : k = circCfg c s) (hclock : k.clock ≠ 1) (hl : l = circuitFails c s) (hfull : l = true ∨ 8 * k.payload ≤ (s.circ c).rxBits.length)
    (hpay : pay = (if l then List.replicate k.payload (0xFF : Byte) else msbBytes k.payload (s.circ c).rxBits))
    (hu : u = (if l then advanceTo ((s.circ c).emitPs + k.pktPs) s else s)) :
    Completes (.cesPacketEmit c) s fun t => t.clk = u.clk ∧ t.circ c = { s.circ c with
        txSeq := ((s.circ c).txSeq + 1) % 65536, emitPs := u.clk.nowPs,
        rxBits := if l then [] else (s.circ c).rxBits.drop (8 * k.payload) } ∧
      t.waitUp = s.waitUp ++ [{ data := k.hdr.take k.hdrLen ++ be 4 (b2n l * 2 ^ 27 + b2n (s.circ c).lops * 2 ^ 26 +
                                          (if 4 + pay.length < 64 then 4 + pay.length else 0) * 65536 + (s.circ c).txSeq) ++ pay,
                                ingress := (circIngress c s).1, tag := (circIngress c s).2 }] := by
  subst hk
  obtain ⟨rest, hrest⟩ : ∃ rest, rest = if l then [] else (s.circ c).rxBits.drop (8 * (circCfg c s).payload) := ⟨_, rfl⟩
  have hx : execCesPacketEmit c s = sendCes c l pay rest u := by
    unfold execCesPacketEmit
    dsimp only
    rw [if_neg (by simp [hc]), ← hl, hpay, hu, hrest]
    cases l with
    | true => rfl
    | false => exact if_neg (Nat.not_lt.2 (hfull.resolve_left Bool.false_ne_true))
  rw [← hrest]
  cases l with
  | true =>
    subst hu
    exact live_completes hon _ (hx.trans (sendCes_plain hclock)) ⟨rfl, rfl, rfl⟩ ⟨rfl, circ_setCirc_same .., rfl⟩
  | false =>
    subst hu
    exact live_completes hon _ (hx.trans (sendCes_plain hclock)) ⟨rfl, rfl, rfl⟩ ⟨rfl, circ_setCirc_same .., rfl⟩

/-! ## Packets that arrive (R296) -/

theorem tryStart_portsKept (c : Nat) (s : State) : PortsKept s (tryStart c s) := by
  unfold tryStart
  extract_lets x k half from_
  split
  · exact .refl s
  · split
    · have hfree := takeFree_judged 17 s
      generalize takeFree 17 s = r at hfree ⊢
      obtain ⟨e, u⟩ := r
      exact hfree.ports.trans (setCirc_portsKept ..)
    · exact .refl s

theorem addCounter_portsKept (k n : Nat) (s : State) : PortsKept s (addCounter k n s) := (addCounter_reported k n s).judged.ports

theorem arriveCes_portsKept (c : Nat) (l : Bool) (seq stamp : Nat) (data : Bytes) (s : State) :
    PortsKept s (arriveCes c l seq stamp data s) := by
  unfold arriveCes
  dsimp only
  split
  · exact (setCirc_portsKept ..).trans (addCounter_portsKept ..)
  · split
    · split
      · exact (addCounter_portsKept ..).trans (setCirc_portsKept ..)
      · exact (addCounter_portsKept ..).trans (setCirc_portsKept ..)
    · split
      · exact (setCirc_portsKept ..).trans (addCounter_portsKept ..)
      · split
        · exact (addCounter_portsKept ..).trans ((setCirc_portsKept ..).trans (tryStart_portsKept ..))
        · exact (setCirc_portsKept ..).trans (tryStart_portsKept ..)

/-- A port has taken the first of its frames. -/
def rxTaken (n : Nat) (rest : List Frame) (s : State) : State := s.modTrib n fun x => { x with rx := rest }

theorem execCesPacketRx_portsKept {n : Nat} {s : State} {f : Frame} {rest : List Frame} (h : (s.trib n).rx = f :: rest) :
    PortsKept (rxTaken n rest s) (execCesPacketRx n s) := by
  unfold execCesPacketRx
  rw [h]
  dsimp only
  split
  · exact (count_reported ..).judged.ports
  · exact iteInduction (fun _ => addCounter_portsKept ..) fun _ => (setCirc_portsKept ..).trans (arriveCes_portsKept ..)

theorem execCesPacketRx_unknown {n : Nat} {s : State} {f : Frame} {rest : List Frame} (h : (s.trib n).rx = f :: rest)
    (hnone : circuitOfFlow f.flow s = none) : execCesPacketRx n s = count .cesRxNoCircuit 0 (rxTaken n rest s) := by
  have hnone' : circuitOfFlow f.flow (rxTaken n rest s) = none := hnone
  unfold rxTaken at hnone'
  unfold execCesPacketRx
  rw [h]
  dsimp only
  rw [hnone']
  rfl

theorem cesPacketRx_takes {k : Fin 8} {s : State} (hon : On s) (f : Frame) (rest : List Frame) (h : (s.trib k).rx = f :: rest) :
    Completes (.cesPacketRx k) s (fun t => (t.trib k).rx = rest) ∧
    (circuitOfFlow f.flow s = none → exec (.cesPacketRx k) s = .next (keepOuter s
      (count .cesRxNoCircuit 0 (s.modTrib k fun x => { x with rx := rest })))) := by
  have hkept := execCesPacketRx_portsKept h
  refine ⟨live_completes hon _ rfl ((modTrib_alone ..).outer.trans hkept.alone.outer) ?_, fun hnone => ?_⟩
  · rw [trib_of_tribs hkept.tribs, rxTaken, trib_modTrib_same]
  · exact congrArg Host.Outcome.next ((live_on hon _).trans (congrArg (keepOuter s) (execCesPacketRx_unknown h hnone)))

/-! ## Playout (R297) -/

/-- What steering the playout of a circuit can do: its frequency and what it notes of timestamps. -/
theorem steerPlayout_eq (c q stamp : Nat) (s : State) : ∃ free e last packets ticks, steerPlayout c q stamp s =
    { s.setCirc c { s.circ c with freq := e, rtpLast := last, rtpPackets := packets, rtpTicks := ticks } with freeCtr := free } := by
  unfold steerPlayout
  dsimp only
  split
  · have hfree : (takeFree 16 s).2 = { s with freeCtr := s.freeCtr + 1 } := rfl
    generalize takeFree 16 s = r at hfree ⊢
    rw [hfree]
    exact ⟨_, _, _, _, _, rfl⟩
  · split
    · exact ⟨_, _, _, _, _, rfl⟩
    · exact ⟨_, _, _, _, _, rfl⟩

/-- Played-out data goes out and joins what the circuit transmits; the jitter buffer and the ports are as before. -/
structure Played (c : Nat) (data : Option Bytes) (s t : State) : Prop where
  alone : TribAlone s t
  out : t.out = .played c data :: s.out
  circ : ∃ bits, t.circ c = { s.circ c with txBits := bits }

theorem playData_played (c : Nat) (data : Option Bytes) (s : State) : Played c data s (playData c data s) := by
  unfold playData
  dsimp only
  split
  · exact ⟨rfl, rfl, _, circ_setCirc_same ..⟩
  · exact ⟨rfl, rfl, _, circ_setCirc_same ..⟩

/-- The instant at which the packet after the present one is due (R297). -/
def nextDue (c : Nat) (s : State) : Nat :=
  (s.circ c).duePs + (circCfg c s).pktPs * 1000000000 / (1000000000 + (s.circ c).freq).toNat

section playout

variable {c : Fin 1056} {n : Nat} {s : State} (hon : On s) (hc : circuitOn c s = true) (hplay : (s.circ c).playing = true)
  (hn : (s.circ c).next = some n)

/-- A circuit whose packet q has been played out. -/
def Circ.playedOut (q due : Nat) (held : SMap (Option JbPkt)) (x : Circ) : Circ :=
  { x with held := SMap.set none held q none, next := some ((q + 1) % 65536), replaced := 0, duePs := due }

/-- A circuit of which an absent packet has been replaced. -/
def Circ.replacedOne (q due : Nat) (x : Circ) : Circ :=
  { x with next := some ((q + 1) % 65536), replaced := x.replaced + 1, duePs := due }

include hc hplay hn

theorem execCesPlayoutDue_held {p : JbPkt} (hp : SMap.get none (s.circ c).held n = some p) : execCesPlayoutDue c s =
    playData c (if p.l then none else some p.data) ((steerPlayout c n p.stamp (advanceTo (s.circ c).duePs s)).setCirc c
      (((steerPlayout c n p.stamp (advanceTo (s.circ c).duePs s)).circ c).playedOut n (nextDue c s) (s.circ c).held)) := by
  unfold execCesPlayoutDue
  dsimp only
  rw [hn]
  dsimp only
  rw [if_neg (by simp [hc, hplay]), hp]
  rfl

theorem execCesPlayoutDue_absent (hp : SMap.get none (s.circ c).held n = none) (hr : (s.circ c).replaced < 7) : execCesPlayoutDue c s =
    playData c none ((addCounter (circuitIndex 7 c) 1 (advanceTo (((s.circ c).duePs / 800 + 1) * 800) s)).setCirc c
      ((s.circ c).replacedOne n (nextDue c s))) := by
  unfold execCesPlayoutDue
  dsimp only
  rw [hn]
  dsimp only
  rw [if_neg (by simp [hc, hplay]), hp]
  exact if_neg (by omega)

include hon

theorem cesPlayoutDue_plays (p : JbPkt) (hp : SMap.get none (s.circ c).held n = some p) : Completes (.cesPlayoutDue c) s fun t =>
    t.out = .played c (if p.l then none else some p.data) :: s.out ∧ (t.circ c).held = SMap.set none (s.circ c).held n none ∧
    (t.circ c).next = some ((n + 1) % 65536) ∧ (t.circ c).replaced = 0 ∧ (t.circ c).playing = true ∧
    (t.circ c).duePs = (s.circ c).duePs + (circCfg c s).pktPs * 1000000000 / (1000000000 + (s.circ c).freq).toNat ∧
    t.clk.nowPs = max s.clk.nowPs (s.circ c).duePs := by
  obtain ⟨free, e, last, packets, ticks, hsteer⟩ := steerPlayout_eq c n p.stamp (advanceTo (s.circ c).duePs s)
  have hx := execCesPlayoutDue_held hc hplay hn hp
  obtain ⟨w, hw⟩ : ∃ w, w = steerPlayout c n p.stamp (advanceTo (s.circ c).duePs s) := ⟨_, rfl⟩
  rw [← hw] at hsteer hx
  have hcirc : w.circ c = { s.circ c with freq := e, rtpLast := last, rtpPackets := packets, rtpTicks := ticks } := by
    rw [hsteer]
    exact circ_setCirc_same ..
  have hout : w.out = s.out := by rw [hsteer]; rfl
  have hclk : w.clk = (advanceTo (s.circ c).duePs s).clk := by rw [hsteer]; rfl
  have houter : Outer s w := by rw [hsteer]; exact ⟨rfl, rfl, rfl⟩
  obtain ⟨hpa, hpo, bits, hpc⟩ := playData_played c (if p.l then none else some p.data)
    (w.setCirc c ((w.circ c).playedOut n (nextDue c s) (s.circ c).held))
  rw [circ_setCirc_same] at hpc
  refine live_completes hon _ hx (houter.trans (.trans (setCirc_portsKept ..).alone.outer hpa.outer)) ⟨?_, ?_⟩
  · rw [hpo]
    exact congrArg _ hout
  · rw [hpc, hpa.clk]
    refine ⟨rfl, rfl, rfl, ?_, rfl, congrArg Clk.nowPs hclk⟩
    exact (congrArg Circ.playing hcirc).trans hplay

theorem cesPlayoutDue_replaces (hp : SMap.get none (s.circ c).held n = none) (hr : (s.circ c).replaced < 7) :
    Completes (.cesPlayoutDue c) s fun t =>
      Out.played c none ∈ t.out ∧ (t.circ c).next = some ((n + 1) % 65536) ∧ (t.circ c).replaced = (s.circ c).replaced + 1 ∧
      (t.circ c).playing = true := by
  obtain ⟨w, hw⟩ : ∃ w, w = addCounter (circuitIndex 7 c) 1 (advanceTo (((s.circ c).duePs / 800 + 1) * 800) s) := ⟨_, rfl⟩
  have hx := hw ▸ execCesPlayoutDue_absent hc hplay hn hp hr
  have hcount : Outer s w := (advanceTo_outer ..).trans (hw ▸ (addCounter_books ..).outer)
  obtain ⟨hpa, hpo, bits, hpc⟩ := playData_played c none (w.setCirc c ((s.circ c).replacedOne n (nextDue c s)))
  rw [circ_setCirc_same] at hpc
  refine live_completes hon _ hx (hcount.trans (.trans (setCirc_portsKept ..).alone.outer hpa.outer)) ⟨?_, ?_⟩
  · rw [hpo]
    exact List.mem_cons_self
  · rw [hpc]
    exact ⟨rfl, rfl, hplay⟩

end playout

end Sys2Proof.Machine
end

section
/-!
PROOFS. The wait to restore, the read of a path's state, performance seconds and bins (11 R300–R302, 00 R460), and all tributary rows together.
-/

namespace Sys2Proof.Machine

/-! ## Wait to restore (R300) -/

/-- The wait to restore, where it is the request in force, ends at its instant, and no other begins. -/
theorem mspWtrExpiry_ends {k : Fin 4} {ps : Nat} {s : State} (hon : On s) (hw : (s.msp k).wtrEnd = some ps) (hr : (s.msp k).request = 1) :
    Completes (.mspWtrExpiry k) s fun t =>
      (t.msp k).wtrEnd = none ∧ t.clk.nowPs = max s.clk.nowPs ps ∧ (∀ j, j ≠ k.val → t.msp j = s.msp j) := by
  obtain ⟨u, hu⟩ : ∃ u, u = (advanceTo ps s).setMsp k { s.msp k with wtrEnd := none } := ⟨_, rfl⟩
  have hx : execMspWtrExpiry k s = mspEval k u := by
    unfold execMspWtrExpiry
    dsimp only
    rw [hw, hu]
  have hpair : u.msp k = { s.msp k with wtrEnd := none } := hu ▸ msp_setMsp_same ..
  have halone : TribAlone (advanceTo ps s) u := hu ▸ (setMsp_judged ..).ports.alone
  have hm := mspEval_judged k u
  obtain ⟨w, r, sel, hnext, hcalm⟩ := hm.pair
  have hnone : w = none := hcalm (by simp [hpair, hr]) (by simp [hpair, hr]) (by rw [hpair])
  refine live_completes hon _ hx ((advanceTo_outer ..).trans (halone.trans hm.judged.ports.alone).outer) ⟨?_, ?_, fun j hj => ?_⟩
  · rw [hnext]
    exact hnone
  · rw [hm.judged.ports.alone.clk, halone.clk]
    rfl
  · rw [hm.others j hj, hu]
    exact msp_setMsp_other _ hj _

/-! ## TRIB_PATH_STATUS and TRIB_PATH_JB (00 R460) -/

theorem tribPathStatusRead_latches {path : Path} {s : State} (h : Reaches path s) : exec (.tribPathStatusRead path) s = .next (emit
    (.value path 0x72004 (BitVec.ofNat 32 (pathStatus s.tribPathSel s)))
    (s.setLatch path { s.latch path with tribJb := BitVec.ofNat 32 (pathJb s.tribPathSel s) })) :=
  congrArg Host.Outcome.next (via_latchingRead h (hostRead_awake h.awake.awake _ _ _))

/-! ## Performance seconds and bins (R301, R302) -/

/-- A change made to each entry, by its key, is a change of what each key holds. -/
theorem SMap.get_mapEntries {α : Type} (f : Nat → α → α) (k : Nat) (m : SMap (Option α)) :
    SMap.get none (m.map fun e => (e.1, e.2.map (f e.1))) k = (SMap.get none m k).map (f k) := by
  induction m with
  | nil => rfl
  | cons e m ih =>
    by_cases he : e.1 = k
    · simp [SMap.get, he]
    · simp only [List.map_cons, SMap.get, he, if_false, ih]

/-- An entity whose defects of the present second are noted (Table 11.7). -/
def pmNoted (s : State) (k : Nat) (p : Pm) : Pm := { p with defect := p.defect || pmDefect k s }

theorem noteDefects_pms {k : Nat} {p : Pm} {s : State} (h : SMap.get none s.pms k = some p) :
    SMap.get none (noteDefects s).pms k = some (pmNoted s k p) :=
  (SMap.get_mapEntries (pmNoted s) k s.pms).trans (congrArg (Option.map (pmNoted s k)) h)

theorem pmSecond_decides {s : State} (hon : On s) : Completes .pmSecond s fun t =>
    t.pmSec = (if s.pmSec < tbNow 0 s / secUnits then tbNow 0 s / secUnits else tbNow 0 s / secUnits + 1) ∧
    ∀ k p, SMap.get none s.pms k = some p → SMap.get none t.pms k = some (Pm.second k { p with defect := p.defect || pmDefect k s }) := by
  refine live_completes hon (execPmSecond s) rfl ⟨rfl, rfl, rfl⟩ ⟨rfl, fun k p h => ?_⟩
  refine (SMap.get_mapEntries Pm.second k _).trans ?_
  rw [noteDefects_pms (s := advanceTo _ s) h]
  rfl

theorem perfBinClose_closes {sec : Nat} {s : State} (h : Due 9 s) (hsec : sec = tbNow 0 (worked 9 s) / secUnits) :
    exec .perfBinClose s = .next { worked 9 s with
      binSec := sec, pms := s.pms.map (fun e => (e.1, e.2.map (Pm.close s.binSec sec (monitored e.1 s)))) } := by
  subst hsec
  exact congrArg Host.Outcome.next (live_eq h.awake.on (h.runs _) ⟨rfl, rfl, rfl⟩)

/-! ## All the rows -/

/-- Settles O40: each row has its own rule above. -/
theorem tributaryRowsTakeEffect : Obligations.TributaryRowsTakeEffect := fun _ hon =>
  ⟨fun _ _ _ _ he ha hl hy => ⟨tribFramePattern_goesOn hon he ha hl hy, tribFramePattern_locks hon he ha hl hy⟩,
    fun _ _ _ _ _ hpos hshift hB1 =>
      ⟨huntBit_opens hpos hshift hB1, huntBit_absent hpos hshift hB1, huntBit_locks hpos hshift hB1⟩,
    fun _ _ => tribStmFrame_sends hon,
    fun _ => tribLofTimer_follows hon,
    fun _ _ _ _ _ => cesPacketEmit_sends hon,
    fun _ => cesPacketRx_takes hon,
    fun _ _ hc hplay hn => ⟨cesPlayoutDue_plays hon hc hplay hn, cesPlayoutDue_replaces hon hc hplay hn⟩,
    fun _ _ => mspWtrExpiry_ends hon,
    fun _ => tribPathStatusRead_latches,
    pmSecond_decides hon,
    fun _ => perfBinClose_closes⟩

end Sys2Proof.Machine
end

section
/-!
PROOFS. The commands for outputs, captures and PTP (12 R314–R318, R321).
-/

namespace Sys2Proof.Machine

/-! ## OUTPUT_CONFIG (R316, R317) -/

/-- An output with a configuration that has taken effect, and the target that it gives. -/
def OutCh.applied (v : OutCfg) (target : Option Nat) (x : OutCh) : OutCh := { x with cfg := v, cfgNext := none, target }

/-- A configuration that arms no comparator takes effect without a target. -/
theorem applyOutput_unarmed {o : Nat} {v : OutCfg} (s : State) (h : v.enable = false ∨ 8 ≤ o) :
    applyOutput o v s = s.setOutput o ((s.output o).applied v none) := by
  have harm : ¬ (o < 8 ∧ v.enable = true) := by
    rintro ⟨ho, he⟩
    exact h.elim (fun hoff => Bool.false_ne_true (hoff.symm.trans he)) (Nat.not_le.2 ho)
  have hfire (u : State) : ¬ (o < 8 ∧ v.enable = true ∧ comparatorD v.start (tbNow v.timebase u) ≤ 0) := fun hf => harm ⟨hf.1, hf.2.1⟩
  simp only [applyOutput, if_neg harm, if_neg (hfire _)]
  rfl

/-- A configuration that arms a comparator ahead of its start takes effect with the start as its target. -/
theorem applyOutput_armed {o : Nat} {v : OutCfg} {s : State} (he : v.enable = true) (ho : o < 8)
    (hd : 0 < comparatorD v.start (tbNow v.timebase s)) : applyOutput o v s = s.setOutput o ((s.output o).applied v (some v.start)) := by
  have hahead : ¬ (o < 8 ∧ v.enable = true ∧ comparatorD v.start (tbNow v.timebase s) ≤ 0) := fun hf => Int.not_le.2 hd hf.2.2
  simp only [applyOutput, if_pos (And.intro ho he)]
  exact if_neg hahead

/-- What OUTPUT_CONFIG comes to on an output that is not asserted, by what its configuration leads to. -/
theorem effOutputConfig_applies {c : Cmd} {s : State} {target : Option Nat} (hidle : (s.output (u8 c.req.body 0)).asserted = false)
    (happ : applyOutput (u8 c.req.body 0) (outOf c.req.body) s =
      s.setOutput (u8 c.req.body 0) ((s.output (u8 c.req.body 0)).applied (outOf c.req.body) target)) :
    effOutputConfig c s = .ok (if u8 c.req.body 0 < 8 then timeValue (target.getD 0) else zeros 12)
      (s.setOutput (u8 c.req.body 0) ((s.output (u8 c.req.body 0)).applied (outOf c.req.body) target)) := by
  simp only [effOutputConfig, hidle, Bool.false_eq_true, if_false, happ, output_setOutput_same]
  rfl

theorem outputConfig_waits {q : CmdReq} {c : Cmd} {s : State} {n : Nat} (hn : n = u8 q.body 0) (h : Runs 0x0805 q c s)
    (hbusy : (s.output n).asserted = true) : Completes (.outputConfig q) s fun t =>
      Answers c .ok 0 (if n < 8 ∧ (outOf q.body).enable then timeValue (outOf q.body).start else zeros 12) s t ∧
      Books (s.setOutput n { s.output n with cfgNext := some (outOf q.body) }) t := by
  obtain rfl := h.isReq
  subst hn
  exact Runs.completes (sp := specOutputConfig) (eff := effOutputConfig) h rfl (if_pos hbusy) rfl rfl rfl rfl rfl rfl

theorem outputConfig_unarmed {q : CmdReq} {c : Cmd} {s : State} {n : Nat} (hn : n = u8 q.body 0) (h : Runs 0x0805 q c s)
    (hidle : (s.output n).asserted = false) (hoff : (outOf q.body).enable = false ∨ 8 ≤ n) : Completes (.outputConfig q) s fun t =>
      Answers c .ok 0 (if n < 8 then timeValue 0 else zeros 12) s t ∧
      Books (s.setOutput n ((s.output n).applied (outOf q.body) none)) t := by
  obtain rfl := h.isReq
  subst hn
  exact Runs.completes (sp := specOutputConfig) (eff := effOutputConfig) h rfl
    (effOutputConfig_applies (s := markStarted c s) hidle (applyOutput_unarmed _ hoff)) rfl rfl rfl rfl rfl rfl

theorem outputConfig_arms {q : CmdReq} {c : Cmd} {s : State} {n : Nat} (hn : n = u8 q.body 0) (h : Runs 0x0805 q c s)
    (hidle : (s.output n).asserted = false) (he : (outOf q.body).enable = true) (htev : n < 8)
    (hd : 0 < comparatorD (outOf q.body).start (tbNow (outOf q.body).timebase s)) : Completes (.outputConfig q) s fun t =>
      Answers c .ok 0 (timeValue (outOf q.body).start) s t ∧
      Books (s.setOutput n ((s.output n).applied (outOf q.body) (some (outOf q.body).start))) t := by
  obtain rfl := h.isReq
  subst hn
  have heff := effOutputConfig_applies (s := markStarted c s) hidle (applyOutput_armed he htev hd)
  rw [if_pos htev] at heff
  exact Runs.completes (sp := specOutputConfig) (eff := effOutputConfig) h rfl heff rfl rfl rfl rfl rfl rfl

/-! ## CAPTURE_CONFIG and CAPTURE_READ (R318) -/

theorem captureConfig_stores {q : CmdReq} {c : Cmd} {s : State} {n : Nat} (hn : n = u8 q.body 0) (h : Runs 0x0806 q c s) :
    Completes (.captureConfig q) s fun t => Answers c .ok 0 [] s t ∧
      Books (s.setCapture n { s.capture n with
        timebase := u8 q.body 1, edge := u8 q.body 2
        queue := if (s.capture n).timebase = u8 q.body 1 then (s.capture n).queue else [] }) t := by
  obtain rfl := h.isReq
  subst hn
  exact Runs.completes (sp := specCaptureConfig) (eff := effCaptureConfig) h rfl rfl rfl rfl rfl rfl rfl rfl

theorem captureRead_removes {q : CmdReq} {c : Cmd} {s : State} {n : Nat} (hn : n = u8 q.body 0) (h : Runs 0x0807 q c s) :
    Completes (.captureRead q) s fun t =>
      Answers c .ok 0 (le 1 ((s.capture n).queue.take (u8 q.body 1)).length ++ zeros 3 ++
        ((s.capture n).queue.take (u8 q.body 1)).flatMap (fun e => timeValue e.1 ++ le 1 e.2 ++ zeros 3)) s t ∧
      Books (s.setCapture n { s.capture n with queue := (s.capture n).queue.drop (u8 q.body 1) }) t := by
  obtain rfl := h.isReq
  subst hn
  exact Runs.completes (sp := specCaptureRead) (eff := effCaptureRead) h rfl rfl rfl rfl rfl rfl rfl rfl

/-! ## PTP_CONFIG, PTP_TX and PTP_RX_READ (R314, R315) -/

theorem ptpConfig_stores {q : CmdReq} {c : Cmd} {s : State} {n : Nat} (hn : n = u8 q.body 0) (h : Runs 0x0808 q c s) :
    Completes (.ptpConfig q) s fun t => Answers c .ok 0 [] s t ∧
      Books (s.setPtp n { s.ptpOf n with rxEn := bit (u8 q.body 1) 0, timebase := u8 q.body 2 }) t := by
  obtain rfl := h.isReq
  subst hn
  exact Runs.completes (sp := specPtpConfig) (eff := effPtpConfig) h rfl rfl rfl rfl rfl rfl rfl rfl

/-- With link and room at its port the frame waits for the next frame boundary. -/
theorem effPtpTx_waits {c : Cmd} {s : State} (hlink : (s.mac (u8 c.req.body 0)).link = true)
    (hroom : (s.ptpOf (u8 c.req.body 0)).waiting.length < 4) : effPtpTx c s = .later (s.setPtp (u8 c.req.body 0)
      { s.ptpOf (u8 c.req.body 0) with waiting := (s.ptpOf (u8 c.req.body 0)).waiting ++ [(c.seq, c.req.body.drop 4)] }) := by
  simp only [effPtpTx, hlink, Nat.not_le.2 hroom, decide_false, Bool.not_true, Bool.or_self, Bool.false_eq_true, if_false]

theorem ptpTx_waits {q : CmdReq} {c : Cmd} {s : State} {n : Nat} (hn : n = u8 q.body 0) (h : Runs 0x0809 q c s)
    (hlink : (s.mac n).link = true) (hroom : (s.ptpOf n).waiting.length < 4) : Completes (.ptpTx q) s fun t => GoesOn c t ∧
      Books (s.setPtp n { s.ptpOf n with waiting := (s.ptpOf n).waiting ++ [(c.seq, q.body.drop 4)] }) t := by
  obtain rfl := h.isReq
  subst hn
  exact h.goesOn (sp := specPtpTx) (eff := effPtpTx) rfl (effPtpTx_waits (s := markStarted c s) hlink hroom)
    ⟨(congrArg CmdState.executing h.marked :), rfl⟩

theorem ptpRxRead_removes {q : CmdReq} {c : Cmd} {s : State} {n : Nat} (hn : n = u8 q.body 0) (h : Runs 0x080A q c s) :
    Completes (.ptpRxRead q) s fun t =>
      Answers c .ok 0 (le 1 ((s.ptpOf n).ring.take (u8 q.body 1)).length ++ zeros 3 ++
        ((s.ptpOf n).ring.take (u8 q.body 1)).flatMap (fun r =>
          le 1 r.msg ++ le 1 r.domain ++ le 2 r.seq ++ fit 10 r.port ++ zeros 2 ++ timeValue r.time)) s t ∧
      Books (s.setPtp n { s.ptpOf n with ring := (s.ptpOf n).ring.drop (u8 q.body 1) }) t := by
  obtain rfl := h.isReq
  subst hn
  exact Runs.completes (sp := specPtpRxRead) (eff := effPtpRxRead) h rfl rfl rfl rfl rfl rfl rfl rfl

/-! ## The obligation -/

/-- Settles O37: each command has its own rule above. -/
theorem outputAndPtpCommandsAnswer : Obligations.OutputAndPtpCommandsAnswer := fun _ _ _ _ hn =>
  ⟨fun h => ⟨outputConfig_waits hn h, outputConfig_unarmed hn h, outputConfig_arms hn h⟩, captureConfig_stores hn, captureRead_removes hn,
    ptpConfig_stores hn, ptpTx_waits hn, ptpRxRead_removes hn⟩

end Sys2Proof.Machine
end

section
/-!
PROOFS. The rows of time: outputs, captures, REFCLK, TB0's correction, the servos' hold and PON_TOD samples (12 R306–R312, R316–R319).
-/

namespace Sys2Proof.Machine

/-! ## What a change of an output leaves (R317) -/

theorem output_of_outputs {s t : State} (h : t.outputs = s.outputs) (o : Nat) : t.output o = s.output o := by simp only [State.output, h]

/-- From s to t, beside the books and the present instant, output o alone has changed, into v. -/
structure OutputSet (o : Nat) (v : OutCh) (s t : State) : Prop where
  output : t.output o = v
  others : ∀ k, k ≠ o → t.output k = s.output k
  books : Books { s with outputs := t.outputs } t

theorem OutputSet.outer {o : Nat} {v : OutCh} {s t : State} (h : OutputSet o v s t) : Outer s t :=
  ⟨h.books.pending, h.books.hot_powered, h.books.boot⟩

theorem putOutput_books (o : Nat) (v : OutCh) (s : State) : Books (s.setOutput o v) (putOutput o v s) := by
  unfold putOutput
  dsimp only
  split
  · exact .refl _
  · exact emit_books _ _

theorem putOutput_sets (o : Nat) (v : OutCh) (s : State) : OutputSet o v s (putOutput o v s) := by
  have hb := putOutput_books o v s
  refine ⟨(output_of_outputs hb.outputs o).trans (output_setOutput_same s o v),
    fun k hk => (output_of_outputs hb.outputs k).trans (output_setOutput_other s hk v), ?_⟩
  rw [hb.outputs]
  exact hb

/-- A pad that drives shows the edge of its output. -/
theorem putOutput_edge {o : Nat} {v : OutCh} {s : State} (hedge : v.asserted ≠ (s.output o).asserted) (hd : padDriven o s = true) :
    (putOutput o v s).out = .pad o (v.asserted != v.cfg.activeLow) :: s.out := by
  simp only [putOutput, hedge, hd, Bool.not_true, Bool.false_eq_true, or_self, if_false, emit, State.setOutput_out]

/-! ## Comparators and pulses (R316, R317) -/

/-- The present value of a timebase is reached at the present instant. -/
theorem instantOf_present (t : Tbase) (now : Nat) : t.instantOf now (t.at_ now) = now := by
  simp only [Tbase.instantOf, Nat.sub_self, if_true]

/-- An output whose target v has come: asserted for WIDTH_NS, with its next target. -/
def OutCh.fired (v now nowPs : Nat) (x : OutCh) : OutCh :=
  { x with asserted := true, endPs := nowPs + x.cfg.widthNs * 1000, target := nextTarget x.cfg v now }

/-- A comparator whose target has come fires at the present instant. -/
theorem execComparatorFire_fires {o v : Nat} {s : State} (ht : (s.output o).target = some v) (he : (s.output o).cfg.enable = true)
    (hd : comparatorD v (tbNow (s.output o).cfg.timebase s) ≤ 0) :
    execComparatorFire o s = putOutput o ((s.output o).fired v (tbNow (s.output o).cfg.timebase s) s.clk.nowPs) s := by
  have hnow : advanceTo ((s.timebase (s.output o).cfg.timebase).instantOf s.clk.nowPs (tbNow (s.output o).cfg.timebase s)) s = s :=
    advanceTo_past (instantOf_present _ _).le
  simp only [execComparatorFire, ht, he, Int.toNat_eq_zero.2 hd, hnow, fireOutput, Bool.not_true, Bool.false_eq_true, if_false, if_true]
  rfl

theorem comparatorFire_asserts {s : State} (hon : On s) (o : Fin 8) (v : Nat) (ht : (s.output o).target = some v)
    (he : (s.output o).cfg.enable = true) (hd : comparatorD v (tbNow (s.output o).cfg.timebase s) ≤ 0) :
    Completes (.comparatorFire o) s fun t =>
      t.output o = (s.output o).fired v (tbNow (s.output o).cfg.timebase s) s.clk.nowPs ∧
      ((s.output o).asserted = false → padDriven o s = true → t.out = .pad o (!(s.output o).cfg.activeLow) :: s.out) ∧
      (∀ k, k ≠ o.val → t.output k = s.output k) ∧ Books { s with outputs := t.outputs } t := by
  have hset := putOutput_sets o ((s.output o).fired v (tbNow (s.output o).cfg.timebase s) s.clk.nowPs) s
  refine live_completes hon _ (execComparatorFire_fires ht he hd) hset.outer ⟨hset.output, fun hidle hpad => ?_, hset.others, hset.books⟩
  have hedge : ((s.output o).fired v (tbNow (s.output o).cfg.timebase s) s.clk.nowPs).asserted ≠ (s.output o).asserted := by
    rw [hidle]
    exact Bool.true_eq_false_eq_False
  rw [putOutput_edge hedge hpad]
  simp only [OutCh.fired, Bool.true_bne]

/-- An output whose pulse has ended. -/
def OutCh.ended (x : OutCh) : OutCh := { x with asserted := false }

/-- A pulse ends at its instant. -/
theorem execOutputPulseEnd_ends {o : Nat} {s : State} (ha : (s.output o).asserted = true) (hn : (s.output o).cfgNext = none) :
    execOutputPulseEnd o s = putOutput o (s.output o).ended (advanceTo (s.output o).endPs s) := by
  simp only [execOutputPulseEnd, OutCh.ended, ha, hn, if_true]

theorem outputPulseEnd_deasserts {s : State} (hon : On s) (o : Fin 9) (ha : (s.output o).asserted = true)
    (hn : (s.output o).cfgNext = none) : Completes (.outputPulseEnd o) s fun t =>
      t.output o = (s.output o).ended ∧
      (padDriven o s = true → t.out = .pad o (s.output o).cfg.activeLow :: s.out) ∧
      (∀ k, k ≠ o.val → t.output k = s.output k) ∧ Books { advanceTo (s.output o).endPs s with outputs := t.outputs } t := by
  have hset := putOutput_sets o (s.output o).ended (advanceTo (s.output o).endPs s)
  refine live_completes hon _ (execOutputPulseEnd_ends ha hn) ((advanceTo_outer _ s).trans hset.outer)
    ⟨hset.output, fun hpad => ?_, hset.others, hset.books⟩
  have hedge : (s.output o).ended.asserted ≠ ((advanceTo (s.output o).endPs s).output o).asserted := fun h =>
    Bool.false_ne_true (h.trans ha)
  rw [putOutput_edge hedge hpad]
  simp only [OutCh.ended, Bool.false_bne, advanceTo_out]

theorem ppsOutSecond_asserts {s : State} (hon : On s) (he : (s.output 8).cfg.enable = true) : Completes .ppsOutSecond s fun t =>
    (t.output 8).asserted = true ∧ (t.output 8).endPs = t.clk.nowPs + (s.output 8).cfg.widthNs * 1000 ∧ s.clk.nowPs ≤ t.clk.nowPs ∧
      t.tb = s.tb := by
  obtain ⟨ps, hps⟩ : ∃ ps, execPpsOutSecond s = putOutput 8 { s.output 8 with
      asserted := true, endPs := (advanceTo ps s).clk.nowPs + (s.output 8).cfg.widthNs * 1000 } (advanceTo ps s) := ⟨_, if_pos he⟩
  have hset := putOutput_sets 8 { s.output 8 with
      asserted := true, endPs := (advanceTo ps s).clk.nowPs + (s.output 8).cfg.widthNs * 1000 } (advanceTo ps s)
  have hclk := hset.books.clk
  refine live_completes hon _ hps ((advanceTo_outer _ s).trans hset.outer)
    ⟨congrArg OutCh.asserted hset.output, ?_, ?_, hset.books.tb⟩
  · rw [hset.output, hclk]
  · rw [hclk]
    exact le_max_left _ _

/-! ## What a servo's sample leaves (R311, R312) -/

/-- From s to t, beside the books, timebases alone have changed, and none the settings of its servo. -/
structure ServosKept (s t : State) : Prop where
  books : Books { s with tb := t.tb } t
  servo : ∀ n, (t.timebase n).servo = (s.timebase n).servo

theorem Books.servosKept {s t : State} (h : Books s t) : ServosKept s t where
  books := by rw [h.tb]; exact h
  servo n := by rw [timebase_of_tb h.tb]

theorem ServosKept.refl (s : State) : ServosKept s s := (Books.refl s).servosKept

theorem Books.withTb {s t : State} (h : Books s t) (m : SMap Tbase) : Books { s with tb := m } { t with tb := m } :=
  (congrArg (fun x : State => { x with tb := m }) h.eq :)

theorem ServosKept.trans {s t u : State} (h : ServosKept s t) (k : ServosKept t u) : ServosKept s u where
  books := (h.books.withTb u.tb).trans k.books
  servo n := (k.servo n).trans (h.servo n)

theorem ServosKept.outer {s t : State} (h : ServosKept s t) : Outer s t := ⟨h.books.pending, h.books.hot_powered, h.books.boot⟩

theorem setTimebase_servosKept {n : Nat} {v : Tbase} {s : State} (h : v.servo = (s.timebase n).servo) : ServosKept s (s.setTimebase n v) where
  books := .refl _
  servo m := by
    by_cases hm : m = n
    · rw [hm, timebase_setTimebase_same, h]
    · rw [timebase_setTimebase_other s hm]

theorem setRate_servosKept (n : Nat) (r : Int) (s : State) : ServosKept s (setRate n r s) := setTimebase_servosKept rfl

/-- A timebase whose servo enters a state. -/
def Tbase.entering (st : Nat) (t : Tbase) : Tbase := { t with state := st, inRun := 0, outRun := 0 }

theorem servoState_changes {n st : Nat} {s : State} (h : (s.timebase n).state ≠ st) :
    servoState n st s = raise .servoState 5 n st (s.setTimebase n ((s.timebase n).entering st)) := if_neg h

theorem servoState_servosKept (n st : Nat) (s : State) : ServosKept s (servoState n st s) := by
  by_cases h : (s.timebase n).state = st
  · rw [servoState, if_pos h]
    exact .refl s
  · rw [servoState_changes h]
    refine .trans ?_ (raise_books _ _ _ _ _).servosKept
    exact setTimebase_servosKept rfl

/-- A sample that may not step its timebase changes its rate and its state alone. -/
theorem servoTake_servosKept {n : Nat} {s : State} (h : (s.timebase n).servo.stepEn = false) (theta : Int) :
    ServosKept s (servoTake n theta s) := by
  unfold servoTake
  dsimp only
  split
  · exact .refl s
  · simp only [h, Bool.false_and, Bool.false_eq_true, if_false]
    generalize hu : setRate n _ _ = u
    have hrate : ServosKept s u := by
      rw [← hu]
      refine .trans ?_ (setRate_servosKept n _ _)
      refine .trans ?_ (setTimebase_servosKept rfl)
      exact setTimebase_servosKept rfl
    have hcount {v : Tbase} (hv : v.servo = (u.timebase n).servo) : ServosKept s (u.setTimebase n v) :=
      hrate.trans (setTimebase_servosKept hv)
    have hmove (st : Nat) : ServosKept s (servoState n st u) := hrate.trans (servoState_servosKept n st u)
    split
    · split
      · split
        · exact hmove 2
        · exact hcount rfl
      · exact hcount rfl
    · split
      · exact hcount rfl
      · split
        · exact hmove 1
        · exact hcount rfl
    · exact hmove 1

/-- The same of the servos that take a capture input as their reference. -/
theorem captureServos_servosKept {k : Nat} {s : State}
    (h : ∀ n, (s.timebase n).servo.kind = 2 → (s.timebase n).servo.index = k → (s.timebase n).servo.stepEn = false) (v : Nat) :
    ServosKept s (captureServos k v s) := by
  refine List.foldlRecOn (motive := ServosKept s) _ _ (.refl s) fun t ht n _ => ?_
  dsimp only
  split
  · next href =>
    rw [ht.servo n] at href
    exact ht.trans (servoTake_servosKept (by rw [ht.servo n]; exact h n href.1 href.2) _)
  · exact ht

/-! ## Captures (R318) -/

theorem capture_of_captures {s t : State} (h : t.captures = s.captures) (k : Nat) : t.capture k = s.capture k := by
  simp only [State.capture, h]

/-- A capture input with one more record, of value v, of an edge at nowPs. -/
def Capture.recorded (v : Nat) (rising : Bool) (nowPs : Nat) (x : Capture) : Capture :=
  { x with queue := x.queue ++ [(v, if rising then 1 else 2)], lastPs := some nowPs }

/-- An enabled edge with room and no edge before it is recorded; the first record raises CAPTURE_READY; the servos take it. -/
theorem execCaptureEdge_records {k : Nat} {rising : Bool} {s : State} (hawake : s.pwr.state = .awake)
    (hedge : bit (s.capture k).edge (if rising then 0 else 1) = true) (hlast : (s.capture k).lastPs = none)
    (hroom : (s.capture k).queue.length < 16) : ∃ u,
      Books (s.setCapture k ((s.capture k).recorded (tbNow (s.capture k).timebase s) rising s.clk.nowPs)) u ∧
      execCaptureEdge k rising s = captureServos k (tbNow (s.capture k).timebase s) u := by
  obtain ⟨w, hw⟩ : ∃ w, w = s.setCapture k ((s.capture k).recorded (tbNow (s.capture k).timebase s) rising s.clk.nowPs) := ⟨_, rfl⟩
  refine ⟨if (s.capture k).queue.isEmpty then raise .captureReady 0 0 k w else w, ?_, ?_⟩
  · rw [← hw]
    split
    · exact raise_books _ _ _ _ _
    · exact .refl _
  · simp only [execCaptureEdge, fireWake_awake hawake, ite_self, hedge, hlast, Nat.not_le.2 hroom, Bool.not_true, Bool.false_eq_true,
      if_false, hw]
    rfl

theorem captureEdge_records {s : State} (hon : On s) (k : Fin 9) (rising : Bool) (hawake : s.pwr.state = .awake)
    (hedge : bit (s.capture k).edge (if rising then 0 else 1) = true) (hlast : (s.capture k).lastPs = none)
    (hroom : (s.capture k).queue.length < 16)
    (hservos : ∀ n, (s.timebase n).servo.kind = 2 → (s.timebase n).servo.index = k.val → (s.timebase n).servo.stepEn = false) :
    Completes (.captureEdge k rising) s fun t =>
      t.capture k = (s.capture k).recorded (tbNow (s.capture k).timebase s) rising s.clk.nowPs ∧
      (∀ j, j ≠ k.val → t.capture j = s.capture j) := by
  obtain ⟨u, hu, hx⟩ := execCaptureEdge_records hawake hedge hlast hroom
  have hkept := captureServos_servosKept (k := k) (s := u) (fun n => by rw [timebase_of_tb hu.tb]; exact hservos n)
    (tbNow (s.capture k).timebase s)
  have hcap := hkept.books.captures.trans hu.captures
  refine live_completes hon _ hx (.trans ⟨hu.pending, hu.hot_powered, hu.boot⟩ hkept.outer) ⟨?_, fun j hj => ?_⟩
  · exact (capture_of_captures hcap _).trans (capture_setCapture_same s _ _)
  · exact (capture_of_captures hcap j).trans (capture_setCapture_other s hj _)

/-! ## REFCLK and TB0's correction (R307, R309) -/

theorem refclkLoss_invalidates {s : State} (hon : On s) (h : s.time.refValid = true) :
    Completes .refclkLoss s fun t => Books { s with time := { s.time with refValid := false } } t := by
  have hb := raise_books .refclkLoss 0 0 0 { s with time := { s.time with refValid := false } }
  exact live_completes hon _ (if_pos h) ⟨hb.pending, hb.hot_powered, hb.boot⟩ hb

theorem refclkInValid_validates {s : State} (hon : On s) (h : s.time.refSel ≠ 0) :
    exec .refclkInValid s = .next { s with time := { s.time with refValid := true } } :=
  congrArg Host.Outcome.next (live_eq hon (if_neg h) ⟨rfl, rfl, rfl⟩)

theorem tb0CorrectionEnd_ends {s : State} (hon : On s) (h : s.time.correcting = true) : exec .tb0CorrectionEnd s = .next
    { setRate 0 0 (advanceTo s.time.endPs s) with time := { s.time with correcting := false } } :=
  congrArg Host.Outcome.next (live_eq hon (if_pos h) ⟨rfl, rfl, rfl⟩)

/-! ## The servo's hold (Table 12.3) -/

theorem servoHoldTimeout_holdsOver {s : State} (hon : On s) (n : Fin 8) (hn : 2 ≤ n.val)
    (hst : (s.timebase n).state = 1 ∨ (s.timebase n).state = 2) : Completes (.servoHoldTimeout n) s fun t =>
      (t.timebase n).state = 3 ∧ (t.timebase n).rate = (s.timebase n).integ / 2 ^ 24 ∧
      t.clk.nowPs = max s.clk.nowPs ((s.timebase n).samplePs + (s.timebase n).servo.holdMs * 1000000000) ∧
      (∀ k, k ≠ n.val → t.timebase k = s.timebase k) := by
  obtain ⟨u, hu⟩ : ∃ u, u = advanceTo ((s.timebase n).samplePs + (s.timebase n).servo.holdMs * 1000000000) s := ⟨_, rfl⟩
  obtain ⟨w, hw⟩ : ∃ w, w = setRate n ((s.timebase n).integ / 2 ^ 24) u := ⟨_, rfl⟩
  have hself : w.timebase n = { s.timebase n with
      base := (s.timebase n).at_ (nextClock u), atPs := nextClock u, rate := (s.timebase n).integ / 2 ^ 24
      rateWas := (s.timebase n).rate } := by
    rw [hw, hu]
    exact timebase_setTimebase_same _ _ _
  have hother (k : Nat) (hk : k ≠ n.val) : w.timebase k = s.timebase k := by
    rw [hw, hu]
    exact timebase_setTimebase_other _ hk _
  have hleaves : (w.timebase n).state ≠ 3 := by
    rw [hself]
    exact fun h3 : (s.timebase n).state = 3 => by omega
  have hx : execServoHoldTimeout n s = servoState n 3 w := by
    rw [hw, hu]
    exact if_pos ⟨hn, hst⟩
  have hb := raise_books .servoState 5 n 3 (w.setTimebase n ((w.timebase n).entering 3))
  have hsame := (timebase_of_tb hb.tb n).trans (timebase_setTimebase_same w n _)
  refine live_completes hon _ (hx.trans (servoState_changes hleaves)) ?_ ⟨?_, ?_, ?_, fun k hk => ?_⟩
  · refine .trans ?_ hb.outer
    rw [hw, hu]
    exact ⟨rfl, rfl, rfl⟩
  · rw [hsame]
    rfl
  · rw [hsame, hself]
    rfl
  · rw [hb.clk, hw, hu]
    rfl
  · exact (timebase_of_tb hb.tb k).trans ((timebase_setTimebase_other w hk _).trans (hother k hk))

/-! ## PON_TOD samples (R310, R321) -/

/-- An instance for whose frames no PON_TOD waits any more. -/
def todDone (i : Nat) (s : State) : State := s.setTod i { s.todOf i with waiting := [] }

section sample

variable {i : Nat} {w : TodWait} {c : Cmd} {s : State} (hc : Begun 0x0804 c s) (hw : (s.todOf i).waiting = [w]) (hseq : w.cmd = c.seq)

include hc hw hseq

/-- The one PON_TOD that waits answers NOT_FOUND where its frame can no longer come. -/
theorem execPonTodSample_lost (hgot : w.got = none) (hlost : w.lost = true ∨ (s.inst i).sync.state ≠ 2) :
    execPonTodSample i s = complete c .notFound 0 [] (todDone i s) := by
  have hgone : (w.lost || decide ((s.inst i).sync.state ≠ 2)) = true := by
    rw [Bool.or_eq_true, decide_eq_true_eq]
    exact hlost
  simp only [execPonTodSample, hw, List.foldl_cons, List.foldl_nil, hgot, hgone, if_true, State.setTod_cmd, hc.alone, hseq, List.find?_cons,
    decide_true, List.filter_cons, ne_eq, not_true_eq_false, decide_false, Bool.false_eq_true, if_false, List.filter_nil]
  rfl

/-- The one PON_TOD that waits answers its frame's sample, unused while another source leads TB0. -/
theorem execPonTodSample_unused {v : Nat} (hgot : w.got = some v) (hsrc : 1 < tb0Source s) :
    execPonTodSample i s = complete c .ok 0 (todReply (todTheta i w v s) 3 s) (todDone i s) := by
  have hunused : todUse i w v (todDone i s) = (todReply (todTheta i w v s) 3 s, todDone i s) := if_neg (Nat.not_le.2 hsrc)
  rw [todDone] at hunused ⊢
  simp only [execPonTodSample, hw, List.foldl_cons, List.foldl_nil, hgot, hunused, State.setTod_cmd, hc.alone, hseq, List.find?_cons,
    decide_true, List.filter_cons, ne_eq, not_true_eq_false, decide_false, Bool.false_eq_true, if_false, List.filter_nil]

end sample

theorem todDone_waiting {i : Nat} {s t : State} (h : Books (todDone i s) t) : (t.todOf i).waiting = [] := by
  rw [State.todOf, h.tod]
  exact congrArg Tod.waiting (todOf_setTod_same s i _)

theorem ponTodSample_lost {i : Fin 4} {w : TodWait} {c : Cmd} {s : State} (hc : Begun 0x0804 c s) (hw : (s.todOf i).waiting = [w])
    (hseq : w.cmd = c.seq) (hgot : w.got = none) (hlost : w.lost = true ∨ (s.inst i).sync.state ≠ 2) :
    Completes (.ponTodSample i) s fun t => Answers c .notFound 0 [] s t ∧ (t.todOf i).waiting = [] := by
  obtain ⟨t, ht, hans, hb⟩ := hc.completes (execPonTodSample_lost hc hw hseq hgot hlost) rfl rfl rfl rfl rfl
  exact ⟨t, ht, hans, todDone_waiting hb⟩

theorem ponTodSample_unused {i : Fin 4} {w : TodWait} {c : Cmd} {s : State} (hc : Begun 0x0804 c s) (hw : (s.todOf i).waiting = [w])
    (hseq : w.cmd = c.seq) (v : Nat) (hgot : w.got = some v) (hsrc : 1 < tb0Source s) : Completes (.ponTodSample i) s fun t =>
      Answers c .ok 0 (todReply (todTheta i w v s) 3 s) s t ∧ (t.todOf i).waiting = [] ∧ t.tb = s.tb := by
  obtain ⟨t, ht, hans, hb⟩ := hc.completes (execPonTodSample_unused hc hw hseq hgot hsrc) rfl rfl rfl rfl rfl
  exact ⟨t, ht, hans, todDone_waiting hb, hb.tb⟩

/-! ## The obligation -/

/-- Settles O38: each row has its own rule above; the read of TB_NS is one of the latched reads. -/
theorem timeRowsTakeEffect : Obligations.TimeRowsTakeEffect := fun _ hon =>
  ⟨comparatorFire_asserts hon, outputPulseEnd_deasserts hon, ppsOutSecond_asserts hon, captureEdge_records hon,
    refclkLoss_invalidates hon, refclkInValid_validates hon, tb0CorrectionEnd_ends hon, servoHoldTimeout_holdsOver hon,
    fun _ _ _ hc hw hseq => ⟨ponTodSample_lost hc hw hseq, ponTodSample_unused hc hw hseq⟩,
    fun _ n h => tbNsRead_latches h n⟩

end Sys2Proof.Machine
end

section
/-!
PROOFS. The supply (19 R415–R417, R421; 20 R438, R439): rows of the part's own leave it and do nothing on a part that is off; what the
rows from outside leave of it, and that a part that is off stays dark.
-/

namespace Sys2Proof.Machine

/-- Every row but those from outside the part is a step of the part's own, the same in every state. -/
theorem exec_live {i : Instr} (h : fromOutside i = false) : ∃ f, ∀ s, exec i s = .next (live f s) := by
  cases i
  case coldReset | warmReset | resetDeassert | perstAssert | perstDeassert | hotswapClose | hotswapTrip | ejectRecognised |
      quiesceStart | ejectEnd => exact Bool.noConfusion h
  all_goals exact ⟨_, fun _ => rfl⟩

/-- The supply and RESET# are as before. -/
structure SameSupply (s t : State) : Prop where
  powered : t.hot.powered = s.hot.powered
  inReset : t.boot.inReset = s.boot.inReset

theorem Outer.supply {s t : State} (h : Outer s t) : SameSupply s t := ⟨h.powered, congrArg Boot.inReset h.boot⟩

theorem SameSupply.on {s t : State} (h : SameSupply s t) (hs : On s) : On t := ⟨h.powered.trans hs.powered, h.inReset.trans hs.released⟩

theorem not_on_of_unpowered {s : State} (h : s.hot.powered = false) : ¬ On s := fun hs => Bool.noConfusion (h.symm.trans hs.powered)

theorem not_on_of_inReset {s : State} (h : s.boot.inReset = true) : ¬ On s := fun hs => Bool.noConfusion (hs.released.symm.trans h)

/-! ## The state after a reset (19 R415) -/

theorem settleFuses_hot (s : State) : (settleFuses s).hot = s.hot := by
  unfold settleFuses
  split <;> rfl

theorem blank_powered (s : State) : (blank s).hot.powered = s.hot.powered :=
  (congrArg Hot.powered (settleFuses_hot s) :)

theorem blank_dark (s : State) : Dark (blank s) := ⟨rfl, ⟨rfl, rfl⟩, rfl, fun _ => rfl, ⟨rfl, rfl⟩, rfl, rfl⟩

theorem enableLane_outer (n rate loopback : Nat) (prbs : Bool) (e : LaneSet) (b : Bool) (s : State) :
    Outer s (enableLane n rate loopback prbs e b s) :=
  have h := (enableLane_alone n rate loopback prbs e b s).1.rest
  ⟨h.pending, h.hot_powered, h.boot⟩

theorem romRuns_outer (s : State) : Outer s (romRuns s) := by
  obtain ⟨u, hu⟩ : ∃ u, u = if pathPermitted .manager s then enableLane 0 2 0 false (builtinSet 0 2) true s else s := ⟨_, rfl⟩
  obtain ⟨v, hv⟩ : ∃ v, v = if pathPermitted .partner u then
      [32, 33, 34, 35].foldl (fun s n => enableLane n 0 0 false (builtinSet n 0) true s) u else u := ⟨_, rfl⟩
  have hx : romRuns s = { v with dev := { v.dev with quill := 1 } } := by
    rw [hv, hu]
    rfl
  have hsu : Outer s u := hu ▸ (by split <;> [exact enableLane_outer ..; exact .refl s])
  have huv : Outer u v := hv ▸ (by split <;> [exact foldl_outer _ (fun s n => enableLane_outer ..) _ _; exact .refl u])
  rw [hx]
  exact (hsu.trans huv).trans ⟨rfl, rfl, rfl⟩

/-! ## The rows of resets and of the switch -/

theorem execColdReset_off {x : Straps} {s : State} (h : s.hot.powered = false) : execColdReset x s = s := if_pos (by rw [h]; rfl)

theorem execColdReset_on {x : Straps} {s : State} (h : s.hot.powered = true) : On (execColdReset x s) := by
  have hx : ¬ (!s.hot.powered) = true := by simp [h]
  rw [execColdReset, if_neg hx]
  exact (romRuns_outer _).supply.on ⟨rfl, rfl⟩

theorem execWarmReset_off {s : State} (h : s.hot.powered = false) : execWarmReset s = s := if_pos (by rw [h]; rfl)

/-- RESET# leaves a part that has power blank, its causes of reset kept. -/
theorem execWarmReset_blank {s : State} (h : s.hot.powered = true) : ∃ u, Outer s u ∧ execWarmReset s =
    { keepCauses 2 u (blank u) with boot := { (blank u).boot with inReset := true } } := by
  refine ⟨_, ?_, if_neg (by rw [h]; decide)⟩
  refine .trans ?_ (foldl_outer _ (fun s i => ?_) _ _)
  · split
    · exact (sendBlock_books ..).outer.trans (advanceTo_outer _ _)
    · exact .refl s
  · split
    · exact emit_outer _ s
    · exact .refl s

theorem execWarmReset_powered (s : State) : (execWarmReset s).hot.powered = s.hot.powered := by
  cases h : s.hot.powered with
  | false => rw [execWarmReset_off h, h]
  | true =>
    obtain ⟨u, hu, hx⟩ := execWarmReset_blank h
    rw [hx, ← h]
    exact (blank_powered u).trans hu.powered

theorem execResetDeassert_off {x : Straps} {s : State} (h : s.hot.powered = false ∨ s.boot.inReset = false) : execResetDeassert x s = s :=
  if_pos (by rcases h with h | h <;> rw [h] <;> simp)

theorem execResetDeassert_on {x : Straps} {s : State} (h : s.hot.powered = true) (hr : s.boot.inReset = true) :
    On (execResetDeassert x s) := by
  have hx : ¬ (!s.hot.powered || !s.boot.inReset) = true := by simp [h, hr]
  rw [execResetDeassert, if_neg hx]
  exact (romRuns_outer _).supply.on ⟨(blank_powered s).trans h, rfl⟩

theorem execHotswapClose_off {s : State} (h : s.hot.powered = true) : execHotswapClose s = s := if_pos h

theorem execHotswapClose_closes {s : State} (h : s.hot.powered = false) : ∃ ps, execHotswapClose s =
    { (if s.hot.lastTrip = some .current then advanceTo ps s else s) with
      hot := { s.hot with powered := true, ejectReq := false, trips := if 3 ≤ s.hot.trips then 0 else s.hot.trips } } := by
  refine ⟨s.hot.tripPs + 1000000000000, (if_neg (by rw [h]; decide)).trans ?_⟩
  dsimp only
  split <;> rfl

theorem execHotswapTrip_off {c : Trip} {s : State} (h : s.hot.powered = false) : execHotswapTrip c s = s := if_pos (by rw [h]; rfl)

/-- The lasers go dark, and nothing else. -/
theorem darken_books (s : State) :
    Books s ((List.range 4).foldl (fun s i => if (s.inst i).laserOn then emit (.laserDark i) s else s) s) :=
  foldl_books _ (fun s i => by split <;> [exact emit_books _ s; exact .refl s]) _ _

/-- The switch's opening leaves a part that had power blank. -/
theorem execHotswapTrip_blank (c : Trip) {s : State} (h : s.hot.powered = true) : ∃ u, Books s u ∧ execHotswapTrip c s =
    { blank u with hot := { powered := false, trips := u.hot.trips + b2n (decide (c = .current)), tripPs := u.clk.nowPs, lastTrip := some c
                            ejectReq := u.hot.ejectReq } } := by
  have hx : ¬ (!s.hot.powered) = true := by simp [h]
  exact ⟨_, darken_books s, if_neg hx⟩

/-! ## PERST# (19 R417) -/

theorem stopLeased_outer (id : Nat) (s : State) : Outer s (stopLeased id s) := by
  unfold stopLeased
  refine foldl_outer _ (fun s c => ?_) _ s
  split
  · exact (complete_books ..).outer
  split
  · exact ((flushUnlocked_alone ..).outer s).trans (complete_books ..).outer
  · exact .refl s

theorem revokeLease_outer (l : Lease) (s : State) : Outer s (revokeLease l s) := by
  have hdrop : Outer (stopLeased l.id s) (dropLease l.id (stopLeased l.id s)) := ⟨rfl, rfl, rfl⟩
  exact (stopLeased_outer l.id s).trans (hdrop.trans (foldl_books _ (fun s b => raise_books .holdRevoked 6 b l.id s) _ _).outer)

theorem revokeOwner_outer (owner : Nat) (s : State) : Outer s (revokeOwner owner s) := by
  unfold revokeOwner
  exact foldl_outer _ (fun s l => revokeLease_outer l s) _ _

theorem revokeGrant_outer (x : Xfer) (s : State) : Outer s (revokeGrant x s) := by
  unfold revokeGrant
  have hgone : Outer s { s with mem := { s.mem with grants := eraseXfer x s.mem.grants } } := ⟨rfl, rfl, rfl⟩
  exact hgone.trans (raise_books ..).outer

theorem requeue_outer (x : Xfer) (s : State) : Outer s (requeue x s) := ⟨rfl, rfl, rfl⟩

theorem settleFreezes_outer (s : State) : Outer s (settleFreezes s) := by
  unfold settleFreezes
  refine foldl_outer _ (fun s c => ?_) _ s
  split
  · exact .refl s
  · have hdone : Outer s { s with mem := { s.mem with freezing := SMap.set [] s.mem.freezing c.seq [] } } := ⟨rfl, rfl, rfl⟩
    exact hdone.trans (complete_books ..).outer

/-- What PERST# takes from PCIe before its leases and transfers are revoked. -/
def pcieCleared (s : State) : State :=
  let mute := fun (c : Cmd) => if c.fromRing then { c with mute := true } else c
  { s with
    boot := { s.boot with perst := true, addrLo := 0, addrHi := 0, length := 0, fetching := false }
    dev := { s.dev with resetCause := s.dev.resetCause ||| 4 }
    evt := { s.evt with mask := 0, vec := [] }
    cmd := { s.cmd with nonceRings := none, waiting := [], stalled := false, executing := s.cmd.executing.map mute
                        pendingSet := (s.cmd.pendingSet.filter (fun c => !(c.fromRing && c.req.atTick))).map mute } }

/-- Every ring is disabled. -/
def ringsOff (s : State) : State :=
  (List.range 5).foldl (fun s n => s.setRing n { s.ring n with enable := false, stopped := false }) s

/-- Only the rings differ, and a ring that was off is off. -/
structure RingsDown (s t : State) : Prop where
  rest : t = { s with rings := t.rings }
  off : ∀ n, (s.ring n).enable = false → (t.ring n).enable = false

theorem RingsDown.refl (s : State) : RingsDown s s := ⟨rfl, fun _ h => h⟩

theorem RingsDown.trans {s t u : State} (h : RingsDown s t) (k : RingsDown t u) : RingsDown s u where
  rest := k.rest.trans (congrArg (fun x : State => { x with rings := u.rings }) h.rest)
  off n hn := k.off n (h.off n hn)

theorem setRing_ringsDown (n : Nat) {r : Ring} (h : r.enable = false) (s : State) : RingsDown s (s.setRing n r) where
  rest := rfl
  off k hk := by
    by_cases hn : k = n
    · rw [hn, ring_setRing_same, h]
    · rw [ring_setRing_other s hn, hk]

theorem ringsOff_ringsDown (s : State) : RingsDown s (ringsOff s) := by
  unfold ringsOff
  generalize List.range 5 = l
  induction l generalizing s with
  | nil => exact .refl s
  | cons n l ih => exact (setRing_ringsDown n rfl s).trans (ih _)

/-- The transfers open with host memory. -/
def hostOpen (s : State) : List Xfer := s.mem.grants.filter (fun x => x.targets.contains 38)

theorem execPerstAssert_eq (s : State) : execPerstAssert s =
    (let u := revokeOwner 0 (ringsOff (hwSet 0x1018 2 (pcieCleared s)))
     settleFreezes ((hostOpen u).foldl (fun s x => requeue x (revokeGrant x s)) u)) := rfl

theorem execPerstAssert_supply (s : State) : SameSupply s (execPerstAssert s) := by
  have hr := (ringsOff_ringsDown (hwSet 0x1018 2 (pcieCleared s))).rest
  rw [execPerstAssert_eq]
  generalize ringsOff (hwSet 0x1018 2 (pcieCleared s)) = u at hr ⊢
  have ho := ((revokeOwner_outer 0 u).trans ((foldl_outer _ (fun s x => (revokeGrant_outer x s).trans (requeue_outer x _))
    (hostOpen (revokeOwner 0 u)) _).trans (settleFreezes_outer _))).supply
  exact ⟨ho.powered.trans (congrArg (fun x => x.hot.powered) hr :), ho.inReset.trans (congrArg (fun x => x.boot.inReset) hr :)⟩

/-- PERST# finds nothing at work on a dark part, and leaves it so. -/
theorem execPerstAssert_dark {s : State} (h : Dark s) : Dark (execPerstAssert s) := by
  have hr := ringsOff_ringsDown (hwSet 0x1018 2 (pcieCleared s))
  rw [execPerstAssert_eq]
  generalize ringsOff (hwSet 0x1018 2 (pcieCleared s)) = u at hr ⊢
  have hcmd : u.cmd = (pcieCleared s).cmd := (congrArg State.cmd hr.rest :)
  have hexec : u.cmd.executing = [] := by rw [hcmd, pcieCleared, h.commands.1]; rfl
  have hpend : u.cmd.pendingSet = [] := by rw [hcmd, pcieCleared, h.commands.2]; rfl
  have hleases : u.tbl.leases = [] := (congrArg (fun x => x.tbl.leases) hr.rest :).trans h.leases
  have hgrants : u.mem.grants = [] := (congrArg (fun x => x.mem.grants) hr.rest :).trans h.grants
  simp only [revokeOwner, hleases, hostOpen, hgrants, settleFreezes, hexec, List.filter_nil, List.foldl_nil]
  exact ⟨(congrArg (fun x => x.dev.quill) hr.rest :).trans h.quill, ⟨hexec, hpend⟩, (congrArg State.insts hr.rest :).trans h.instances,
    fun n => hr.off n (h.rings n), ⟨(congrArg (fun x => x.pair.enable) hr.rest :).trans h.pair.1,
    (congrArg (fun x => x.pair.actOut) hr.rest :).trans h.pair.2⟩, hleases, hgrants⟩

/-! ## Ejection (20 R438–R443) -/

theorem sendBlock_noted (n type body : Nat) (s : State) : Noted s (sendBlock n type body s) := putLane_noted _ _ s

theorem sendMirror_noted (type body : Nat) (s : State) : Noted s (sendMirror type body s) := by
  unfold sendMirror
  split
  · exact sendBlock_noted _ _ _ s
  · exact .refl s

theorem startSwitch_outer (cause replayPs : Nat) (s : State) : Outer s (startSwitch cause replayPs s) := by
  unfold startSwitch
  dsimp only
  exact .trans (setPair_steady _ s).outer (sendMirror_noted ..).books.outer

theorem triggerSwitch_outer (cause replayPs : Nat) (s : State) : Outer s (triggerSwitch cause replayPs s) := by
  unfold triggerSwitch
  split
  · exact startSwitch_outer ..
  · exact .refl s

/-- A card-eject request is noted with its instant. -/
def ejectNoted (s : State) : State :=
  { hwSet 0x1200 1 s with hot := { s.hot with ejectReq := true, recognised := true, seen := true, tick := s.clk.tick, atPs := s.clk.nowPs } }

theorem execEjectRecognised_again {s : State} (h : s.hot.powered = false ∨ s.hot.recognised = true) : execEjectRecognised s = s :=
  if_pos (by rcases h with h | h <;> simp [h])

/-- Before command-ready an eject is noted and nothing more. -/
theorem execEjectRecognised_early {s : State} (h : s.hot.powered = true) (hr : s.hot.recognised = false) (hq : s.dev.quill ≠ 3) :
    execEjectRecognised s = ejectNoted s := by
  have hx : ¬ (!s.hot.powered || s.hot.recognised) = true := by simp [h, hr]
  rw [execEjectRecognised, if_neg hx]
  exact if_pos (.inl hq)

theorem execEjectRecognised_supply (s : State) : SameSupply s (execEjectRecognised s) := by
  obtain ⟨u, hu⟩ : ∃ u, u = triggerSwitch 5 0 (ejectNoted s) := ⟨_, rfl⟩
  have hnoted : SameSupply s (ejectNoted s) := ⟨rfl, rfl⟩
  have hswitch := (triggerSwitch_outer 5 0 (ejectNoted s)).supply
  rw [← hu] at hswitch
  have hx : execEjectRecognised s = if !s.hot.powered || s.hot.recognised then s else
      if s.dev.quill ≠ 3 ∨ !quillRuns (ejectNoted s) ∨ s.boot.inReset then ejectNoted s else
      if u.dev.role = 2 ∧ u.role.version ≠ 0 ∧ mapiynLane 0 u then sendBlock 0 0x78 1 { u with role := { u.role with leaving := some 1 } }
      else u := by
    rw [hu]
    rfl
  have hrole : Outer u { u with role := { u.role with leaving := some 1 } } := ⟨rfl, rfl, rfl⟩
  have hleave := hrole.trans (sendBlock_noted 0 0x78 1 { u with role := { u.role with leaving := some 1 } }).books.outer
  rw [hx]
  split
  · exact ⟨rfl, rfl⟩
  split
  · exact hnoted
  split
  · exact ⟨hleave.powered.trans (hswitch.powered.trans hnoted.powered), hleave.supply.inReset.trans (hswitch.inReset.trans hnoted.inReset)⟩
  · exact ⟨hswitch.powered.trans hnoted.powered, hswitch.inReset.trans hnoted.inReset⟩

theorem execEjectRecognised_dark {s : State} (h : Dark s) : Dark (execEjectRecognised s) := by
  by_cases hx : s.hot.powered = false ∨ s.hot.recognised = true
  · rw [execEjectRecognised_again hx]
    exact h
  · simp only [not_or, Bool.not_eq_false, Bool.not_eq_true] at hx
    rw [execEjectRecognised_early hx.1 hx.2 (by rw [h.quill]; decide)]
    exact ⟨h.quill, h.commands, h.instances, h.rings, h.pair, h.leases, h.grants⟩

/-- 4 ms after a recognised eject the part is quiesced: without light. -/
theorem execQuiesceStart_cases (s : State) : execQuiesceStart s = s ∨ s.hot.recognised = true ∧ s.hot.quiesced = false ∧ ∃ ps,
    execQuiesceStart s = { s with
      clk := { s.clk with nowPs := max s.clk.nowPs (s.hot.atPs + 4000000000) }
      pair := { s.pair with actOut := false, actOutPs := ps }
      hot := { s.hot with quiesced := true } } := by
  unfold execQuiesceStart
  split
  case isFalse => exact .inl rfl
  case isTrue h =>
    rw [Bool.and_eq_true, Bool.not_eq_true'] at h
    refine .inr ⟨h.1, h.2, ?_⟩
    dsimp only
    split
    · exact ⟨_, rfl⟩
    · rename_i hout
      refine ⟨s.pair.actOutPs, ?_⟩
      have hoff : s.pair.actOut = false := Bool.eq_false_iff.2 hout
      rw [← hoff]
      rfl

theorem execQuiesceStart_supply (s : State) : SameSupply s (execQuiesceStart s) := by
  obtain hx | ⟨-, -, ps, hx⟩ := execQuiesceStart_cases s <;> rw [hx] <;> exact ⟨rfl, rfl⟩

theorem execQuiesceStart_dark {s : State} (h : Dark s) : Dark (execQuiesceStart s) := by
  obtain hx | ⟨-, -, ps, hx⟩ := execQuiesceStart_cases s <;> rw [hx]
  · exact h
  · exact ⟨h.quill, h.commands, h.instances, h.rings, ⟨h.pair.1, rfl⟩, h.leases, h.grants⟩

/-- An eject is over: what quiesce kept goes out on its lanes. -/
def ejectOver (s : State) : State :=
  s.hot.held.foldl (fun s x => putLane x.1 (.mapiyn x.1 x.2.1 x.2.2) s)
    { s with hot := { s.hot with ejectReq := false, recognised := false, quiesced := false, held := [] } }

theorem ejectOver_noted (s : State) :
    Noted { s with hot := { s.hot with ejectReq := false, recognised := false, quiesced := false, held := [] } } (ejectOver s) := by
  unfold ejectOver
  generalize ({ s with hot := { s.hot with ejectReq := false, recognised := false, quiesced := false, held := [] } } : State) = u
  induction s.hot.held generalizing u with
  | nil => exact .refl u
  | cons x l ih => exact (putLane_noted _ _ u).trans (ih _)

/-- Beside that an active that has no light takes it back, or waits to claim it. -/
theorem execEjectEnd_cases (s : State) : execEjectEnd s = ejectOver s ∨ pairActive s = true ∧ ∃ p : Pair,
    execEjectEnd s = { ejectOver s with pair := p } := by
  have hp : pairActive (ejectOver s) = pairActive s := by
    rw [pairActive, (ejectOver_noted s).books.pair]
    rfl
  have hx : execEjectEnd s = if pairActive (ejectOver s) && !(ejectOver s).pair.actOut && (ejectOver s).pair.switch.isNone then
      if s.hot.quiesced && decide ((s.hot.atPs + 4000000000) / 800 + 1 = clockNo s) && decide (s.pair.actOutPs / 800 + 1 = clockNo s) then
        setActOut true (ejectOver s) else { ejectOver s with pair := { (ejectOver s).pair with claiming := true } }
      else ejectOver s := rfl
  rw [hx, hp]
  split
  · rename_i h
    simp only [Bool.and_eq_true] at h
    refine .inr ⟨h.1.1, ?_⟩
    split
    · exact ⟨_, rfl⟩
    · exact ⟨_, rfl⟩
  · exact .inl rfl

theorem execEjectEnd_supply (s : State) : SameSupply s (execEjectEnd s) := by
  have h := (ejectOver_noted s).books.outer.supply
  obtain hx | ⟨-, p, hx⟩ := execEjectEnd_cases s <;> rw [hx] <;> exact ⟨h.powered, h.inReset⟩

theorem execEjectEnd_dark {s : State} (h : Dark s) : Dark (execEjectEnd s) := by
  obtain hx | ⟨hp, -⟩ := execEjectEnd_cases s
  · have hn := ejectOver_noted s
    have hc : (ejectOver s).cmd = s.cmd := hn.cmd
    have hb := hn.books
    rw [hx]
    exact ⟨(congrArg Dev.quill hb.dev).trans h.quill, ⟨(congrArg CmdState.executing hc).trans h.commands.1, (congrArg CmdState.pendingSet hc).trans h.commands.2⟩,
      hb.insts.trans h.instances, fun n => (congrArg Ring.enable (ring_of_rings hb.rings n)).trans (h.rings n),
      ⟨(congrArg Pair.enable hb.pair).trans h.pair.1, (congrArg Pair.actOut hb.pair).trans h.pair.2⟩,
      (congrArg Tbl.leases hb.tbl).trans h.leases, (congrArg Mem.grants hb.mem).trans h.grants⟩
  · rw [pairActive, h.pair.1] at hp
    exact Bool.noConfusion hp

/-! ## The obligations -/

/-- What O5 says of a row from outside the part, whose queue and supply are those of the state that it computes. -/
theorem outside_keeps {i : Instr} {s : State} {f : State → State} (hx : exec i s = .next (outside f s)) (hi : fromOutside i = true)
    (hp : i ≠ .hotswapClose → (∀ k, i ≠ .hotswapTrip k) → (f s).hot.powered = s.hot.powered)
    (hr : i ≠ .warmReset → (∀ x, i ≠ .resetDeassert x) → (∀ x, i ≠ .coldReset x) → (∀ k, i ≠ .hotswapTrip k) →
      (f s).boot.inReset = s.boot.inReset) :
    ∃ t, exec i s = .next t ∧ t.pending = s.pending ∧
      (i ≠ .hotswapClose → (∀ k, i ≠ .hotswapTrip k) → t.hot.powered = s.hot.powered) ∧
      (i ≠ .warmReset → (∀ x, i ≠ .resetDeassert x) → (∀ x, i ≠ .coldReset x) → (∀ k, i ≠ .hotswapTrip k) →
        t.boot.inReset = s.boot.inReset) ∧
      (fromOutside i = false → ¬ On s → t = s) :=
  ⟨_, hx, rfl, hp, hr, fun h => absurd (hi.symm.trans h) Bool.noConfusion⟩

theorem execHotswapClose_inReset (s : State) : (execHotswapClose s).boot.inReset = s.boot.inReset := by
  cases h : s.hot.powered with
  | true => rw [execHotswapClose_off h]
  | false =>
    obtain ⟨ps, hx⟩ := execHotswapClose_closes h
    rw [hx]
    dsimp only
    split <;> rfl

theorem execColdReset_powered (x : Straps) (s : State) : (execColdReset x s).hot.powered = s.hot.powered := by
  cases h : s.hot.powered with
  | false => rw [execColdReset_off h, h]
  | true => exact (execColdReset_on h).powered

theorem execResetDeassert_powered (x : Straps) (s : State) : (execResetDeassert x s).hot.powered = s.hot.powered := by
  by_cases h : s.hot.powered = false ∨ s.boot.inReset = false
  · rw [execResetDeassert_off h]
  · simp only [not_or, Bool.not_eq_false] at h
    exact (execResetDeassert_on h.1 h.2).powered.trans h.1.symm

/-- Settles O5: a row of the part's own is a live step, which leaves the queue and the supply and does nothing on a part that is off;
the rows from outside one by one. -/
theorem rowsKeepQueueAndSupply : Obligations.RowsKeepQueueAndSupply := by
  intro i s
  cases hi : fromOutside i with
  | false =>
    obtain ⟨f, hf⟩ := exec_live hi
    exact ⟨_, hf s, live_pending f s, fun _ _ => live_powered f s, fun _ _ _ _ => live_inReset f s, fun _ h => live_off h f⟩
  | true =>
    rw [← hi]
    cases i
    case coldReset x => exact outside_keeps (f := execColdReset x) rfl hi (fun _ _ => execColdReset_powered x s) fun _ _ h => absurd rfl (h x)
    case warmReset => exact outside_keeps rfl hi (fun _ _ => execWarmReset_powered s) fun h => absurd rfl h
    case resetDeassert x => exact outside_keeps rfl hi (fun _ _ => execResetDeassert_powered x s) fun _ h => absurd rfl (h x)
    case perstAssert =>
      exact outside_keeps rfl hi (fun _ _ => (execPerstAssert_supply s).powered) fun _ _ _ _ => (execPerstAssert_supply s).inReset
    case perstDeassert => exact outside_keeps rfl hi (fun _ _ => rfl) fun _ _ _ _ => rfl
    case hotswapClose => exact outside_keeps rfl hi (fun h => absurd rfl h) fun _ _ _ _ => execHotswapClose_inReset s
    case hotswapTrip k => exact outside_keeps rfl hi (fun _ h => absurd rfl (h k)) fun _ _ _ h => absurd rfl (h k)
    case ejectRecognised =>
      exact outside_keeps rfl hi (fun _ _ => (execEjectRecognised_supply s).powered) fun _ _ _ _ => (execEjectRecognised_supply s).inReset
    case quiesceStart =>
      exact outside_keeps rfl hi (fun _ _ => (execQuiesceStart_supply s).powered) fun _ _ _ _ => (execQuiesceStart_supply s).inReset
    case ejectEnd =>
      exact outside_keeps rfl hi (fun _ _ => (execEjectEnd_supply s).powered) fun _ _ _ _ => (execEjectEnd_supply s).inReset
    all_goals exact Bool.noConfusion hi

/-- A row keeps the supply's invariant where a part that is on stays on, and one that stays off stays dark. -/
theorem DarkWhenOff.of_supply {s t : State} (h : DarkWhenOff s) (ho : SameSupply s t) (hd : Dark s → Dark t) : DarkWhenOff t :=
  fun hoff => hd (h fun hs => hoff (ho.on hs))

theorem DarkWhenOff.of_on {t : State} (h : On t) : DarkWhenOff t := fun hoff => absurd h hoff

theorem execColdReset_keepsDark (x : Straps) {s : State} (h : DarkWhenOff s) : DarkWhenOff (execColdReset x s) := by
  cases hp : s.hot.powered with
  | false => rwa [execColdReset_off hp]
  | true => exact .of_on (execColdReset_on hp)

theorem execWarmReset_keepsDark {s : State} (h : DarkWhenOff s) : DarkWhenOff (execWarmReset s) := by
  cases hp : s.hot.powered with
  | false => rwa [execWarmReset_off hp]
  | true =>
    obtain ⟨u, -, hx⟩ := execWarmReset_blank hp
    have hd := blank_dark u
    rw [hx]
    exact fun _ => ⟨hd.quill, hd.commands, hd.instances, hd.rings, hd.pair, hd.leases, hd.grants⟩

theorem execResetDeassert_keepsDark (x : Straps) {s : State} (h : DarkWhenOff s) : DarkWhenOff (execResetDeassert x s) := by
  by_cases hx : s.hot.powered = false ∨ s.boot.inReset = false
  · rwa [execResetDeassert_off hx]
  · simp only [not_or, Bool.not_eq_false] at hx
    exact .of_on (execResetDeassert_on hx.1 hx.2)

theorem execHotswapClose_keepsDark {s : State} (h : DarkWhenOff s) : DarkWhenOff (execHotswapClose s) := by
  cases hp : s.hot.powered with
  | true => rwa [execHotswapClose_off hp]
  | false =>
    have hd := h (not_on_of_unpowered hp)
    obtain ⟨ps, hx⟩ := execHotswapClose_closes hp
    rw [hx]
    split <;> exact fun _ => ⟨hd.quill, hd.commands, hd.instances, hd.rings, hd.pair, hd.leases, hd.grants⟩

theorem execHotswapTrip_keepsDark (c : Trip) {s : State} (h : DarkWhenOff s) : DarkWhenOff (execHotswapTrip c s) := by
  cases hp : s.hot.powered with
  | false => rwa [execHotswapTrip_off hp]
  | true =>
    obtain ⟨u, -, hx⟩ := execHotswapTrip_blank c hp
    have hd := blank_dark u
    rw [hx]
    exact fun _ => ⟨hd.quill, hd.commands, hd.instances, hd.rings, hd.pair, hd.leases, hd.grants⟩

/-- Nothing of the supply or of what is at work lies in the queue. -/
theorem DarkWhenOff.queue {s : State} (h : DarkWhenOff s) (l : List Instr) : DarkWhenOff { s with pending := l } := fun hoff =>
  have hd := h fun hs => hoff ⟨hs.powered, hs.released⟩
  ⟨hd.quill, hd.commands, hd.instances, hd.rings, hd.pair, hd.leases, hd.grants⟩

/-- A row from outside keeps the invariant where its meaning does. -/
theorem outside_keepsDark {s t : State} {f : State → State} (hf : DarkWhenOff (f s))
    (ht : (Host.Outcome.next (outside f s) : Host.Outcome State Fault Refusal) = .next t) : DarkWhenOff t :=
  Host.Outcome.next.inj ht ▸ hf.queue s.pending

theorem exec_keepsDark {i : Instr} {s t : State} (h : DarkWhenOff s) (ht : exec i s = .next t) : DarkWhenOff t := by
  cases hi : fromOutside i with
  | false =>
    obtain ⟨f, hf⟩ := exec_live hi
    obtain rfl : live f s = t := Host.Outcome.next.inj ((hf s).symm.trans ht)
    by_cases hs : On s
    · exact .of_on ⟨(live_powered f s).trans hs.powered, (live_inReset f s).trans hs.released⟩
    · rwa [live_off hs]
  | true =>
    cases i
    case coldReset x => exact outside_keepsDark (execColdReset_keepsDark x h) ht
    case warmReset => exact outside_keepsDark (execWarmReset_keepsDark h) ht
    case resetDeassert x => exact outside_keepsDark (execResetDeassert_keepsDark x h) ht
    case perstAssert => exact outside_keepsDark (h.of_supply (execPerstAssert_supply s) execPerstAssert_dark) ht
    case perstDeassert =>
      have hd : Dark s → Dark (execPerstDeassert s) := fun hd => ⟨hd.quill, hd.commands, hd.instances, hd.rings, hd.pair, hd.leases, hd.grants⟩
      exact outside_keepsDark (h.of_supply ⟨rfl, rfl⟩ hd) ht
    case hotswapClose => exact outside_keepsDark (execHotswapClose_keepsDark h) ht
    case hotswapTrip k => exact outside_keepsDark (execHotswapTrip_keepsDark k h) ht
    case ejectRecognised => exact outside_keepsDark (h.of_supply (execEjectRecognised_supply s) execEjectRecognised_dark) ht
    case quiesceStart => exact outside_keepsDark (h.of_supply (execQuiesceStart_supply s) execQuiesceStart_dark) ht
    case ejectEnd => exact outside_keepsDark (h.of_supply (execEjectEnd_supply s) execEjectEnd_dark) ht
    all_goals exact Bool.noConfusion hi

/-- Settles O4: a step is the front command's row on the rest of the queue, and each row keeps the invariant; idling changes the clock
alone. -/
theorem everyStepKeepsTheDark : Obligations.EveryStepKeepsTheDark := by
  intro s t h ht
  cases hp : s.pending with
  | nil =>
    rw [step_nil s hp] at ht
    have hi : DarkWhenOff (idle s) := h.of_supply ⟨rfl, rfl⟩ fun hd =>
      ⟨hd.quill, hd.commands, hd.instances, hd.rings, hd.pair, hd.leases, hd.grants⟩
    exact Host.Outcome.next.inj ht ▸ hi
  | cons c rest =>
    rw [step_cons s c rest hp] at ht
    exact exec_keepsDark (h.queue rest) ht

end Sys2Proof.Machine
end

section
/-!
PROOFS. Faults on a part whose Control region is lost (01 Table 1.3, R16; log 62): any fault row goes on to the fatal condition of a
region out of service, whatever the fault itself was.
-/

namespace Sys2Proof.Machine

/-- A part on which both blocks of the Control region are out of service, and the region has not failed yet. -/
def controlLost : State := { State.reset with dev := { quill := 3, isolated := 3 * 2 ^ 48 } }

theorem controlLost_on : On controlLost := ⟨rfl, rfl⟩

theorem Books.fatal_asserted {s t : State} (h : Books s t) : t.fatal.asserted = s.fatal.asserted := congrArg (fun x => x.asserted) h.fatal

/-- The retry of an engine's fault is followed by the failure of the region. -/
theorem controlLost_engineFault : (live (escalate (execCipherEngineFault 0)) controlLost).fatal.asserted = true := by decide +kernel

/-- So is a corrected memory error. -/
theorem controlLost_memError : (live (escalate (execMemError 16 0 true)) controlLost).fatal.asserted = true := by decide +kernel

/-- Refutes O41, in its clause on an engine's first fault: it asks that nothing but the books and the engine's note changes, but the row
also settles what is due after any fault, and where a region has no block left in service and has not failed yet, as Control here, that
failure is fatal. The clause does not ask for a part without isolated blocks, as other statements do; no run is claimed to reach such a
state. -/
theorem not_keyWindowRowsTakeEffect : ¬ Obligations.KeyWindowRowsTakeEffect := by
  unfold Obligations.KeyWindowRowsTakeEffect
  intro h
  obtain ⟨-, -, -, -, hengine⟩ := h controlLost
  obtain ⟨t, ht, hbooks⟩ := (hengine 0 controlLost_on (by decide)).1 (by decide)
  obtain rfl : live (escalate (execCipherEngineFault 0)) controlLost = t := Host.Outcome.next.inj ht
  exact absurd (controlLost_engineFault.symm.trans hbooks.fatal_asserted) (by decide)

/-- Refutes O43, in its clause on a correctable error: on the same part the error is counted, and the row goes on to the failure of the
Control region, so more than MEM_ECC and the books has changed. -/
theorem not_memoryRowsTakeEffect : ¬ Obligations.MemoryRowsTakeEffect := by
  unfold Obligations.MemoryRowsTakeEffect
  intro h
  obtain ⟨herror, -⟩ := h controlLost controlLost_on
  obtain ⟨t, ht, hbooks⟩ := herror 16 0 (by decide) (by decide)
  obtain rfl : live (escalate (execMemError 16 0 true)) controlLost = t := Host.Outcome.next.inj ht
  exact absurd (controlLost_memError.symm.trans hbooks.fatal_asserted) (by decide)

end Sys2Proof.Machine
end

section
/-!
PROOFS. The commands of the cipher block (13 R325, R329, R331–R337).
-/

namespace Sys2Proof.Machine

/-- A command that changes the cipher block alone, and is done, answers OK with that change. -/
theorem Runs.changesCipher {sp : CmdSpec} {eff : Cmd → State → Res} {q : CmdReq} {c : Cmd} {s : State} {p : Bytes} {x : Cipher}
    (h : Runs sp.op q c s) (hl : sp.lease q s = none) (he : eff c (markStarted c s) = .ok p { markStarted c s with cipher := x }) :
    ∃ t, (Host.Outcome.next (live (runCmd sp eff q) s) : Host.Outcome State Fault Refusal) = .next t ∧
      Answers c .ok 0 p s t ∧ Books { s with cipher := x } t :=
  h.completes hl he rfl rfl rfl rfl rfl rfl

theorem cipherConfig_sets {q : CmdReq} {c : Cmd} {s : State} (h : Runs 0x0900 q c s) : Completes (.cipherConfig q) s fun t =>
    Answers c .ok 0 [] s t ∧ Books { s with cipher := { s.cipher with cmOn := bit (u8 q.body 0) 0 } } t := by
  obtain rfl := h.isReq
  exact h.changesCipher (sp := specCipherConfig) (eff := effCipherConfig) rfl rfl

/-! ## PON_KEY_BIND (R331, R332) -/

section ponKeyBind

variable {q : CmdReq} {c : Cmd} {s : State} {k : Nat} (hk : k = 6 * u8 q.body 0 + u8 q.body 1) (h : Runs 0x0901 q c s)

include hk h

theorem ponKeyBind_binds (hop : u8 q.body 2 = 0) (hfree : slotUse (u16 q.body 4) s = none) : Completes (.ponKeyBind q) s fun t =>
    Answers c .ok 0 [] s t ∧
      Books { s with cipher := { s.cipher with pon := SMap.set none s.cipher.pon k (some (u16 q.body 4)) } } t := by
  obtain rfl := h.isReq
  subst hk
  have hu : ¬ (slotUse (u16 c.req.body 4) (markStarted c s)).isSome = true := hfree ▸ Bool.false_ne_true
  exact h.changesCipher (sp := specPonKeyBind) (eff := effPonKeyBind) rfl ((if_pos hop).trans (if_neg hu))

theorem ponKeyBind_notFound (hop : u8 q.body 2 ≠ 0) (hother : SMap.get none s.cipher.pon k ≠ some (u16 q.body 4)) :
    Completes (.ponKeyBind q) s fun t => Answers c .notFound 0 [] s t ∧ Books s t := by
  obtain rfl := h.isReq
  subst hk
  exact h.reads (sp := specPonKeyBind) (eff := effPonKeyBind) rfl ((if_neg hop).trans (if_pos hother))

theorem ponKeyBind_inUse (hop : u8 q.body 2 ≠ 0) (hown : SMap.get none s.cipher.pon k = some (u16 q.body 4))
    (huse : (u8 q.body 1 = 2 ∨ u8 q.body 1 = 3) ∧ (s.inst (u8 q.body 0)).usKeyIndex + 1 = u8 q.body 1) :
    Completes (.ponKeyBind q) s fun t => Answers c .busyService 0 [] s t ∧ Books s t := by
  obtain rfl := h.isReq
  subst hk
  exact h.reads (sp := specPonKeyBind) (eff := effPonKeyBind) rfl
    ((if_neg hop).trans ((if_neg (not_not_intro hown)).trans (if_pos huse)))

theorem ponKeyBind_unbinds (hop : u8 q.body 2 ≠ 0) (hown : SMap.get none s.cipher.pon k = some (u16 q.body 4))
    (huse : ¬ ((u8 q.body 1 = 2 ∨ u8 q.body 1 = 3) ∧ (s.inst (u8 q.body 0)).usKeyIndex + 1 = u8 q.body 1)) :
    Completes (.ponKeyBind q) s fun t => Answers c .ok 0 [] s t ∧
      Books { s with cipher := { s.cipher with pon := SMap.set none s.cipher.pon k none } } t := by
  obtain rfl := h.isReq
  subst hk
  exact h.changesCipher (sp := specPonKeyBind) (eff := effPonKeyBind) rfl
    ((if_neg hop).trans ((if_neg (not_not_intro hown)).trans (if_neg huse)))

end ponKeyBind

/-! ## US_ENCRYPT (R334) -/

section usEncrypt

variable {q : CmdReq} {c : Cmd} {s : State} {i : Nat} {l : SMap Bool} (hi : i = u8 q.body 0) (hl : l = (s.inst i).usEncrypt)
  (h : Runs 0x0902 q c s)

include hi hl h

theorem usEncrypt_adds (hop : u8 q.body 1 = 0) (hnew : SMap.get false l (u16 q.body 2) = false) (hroom : l.length < 1024) :
    Completes (.usEncrypt q) s fun t => Answers c .ok 0 [] s t ∧
      Books (s.modInst i fun x => { x with usEncrypt := SMap.set false x.usEncrypt (u16 q.body 2) true }) t := by
  obtain rfl := h.isReq
  subst hi hl
  exact h.changesInst (sp := specUsEncrypt) (eff := effUsEncrypt) rfl
    ((if_pos hop).trans ((if_neg (Bool.eq_false_iff.1 hnew)).trans (if_neg (Nat.not_le.2 hroom))))

theorem usEncrypt_full (hop : u8 q.body 1 = 0) (hnew : SMap.get false l (u16 q.body 2) = false) (hfull : 1024 ≤ l.length) :
    Completes (.usEncrypt q) s fun t => Answers c .tableFull 0 [] s t ∧ Books s t := by
  obtain rfl := h.isReq
  subst hi hl
  exact h.reads (sp := specUsEncrypt) (eff := effUsEncrypt) rfl
    ((if_pos hop).trans ((if_neg (Bool.eq_false_iff.1 hnew)).trans (if_pos hfull)))

theorem usEncrypt_removes (hop : u8 q.body 1 ≠ 0) (hlisted : SMap.get false l (u16 q.body 2) = true) :
    Completes (.usEncrypt q) s fun t => Answers c .ok 0 [] s t ∧
      Books (s.modInst i fun x => { x with usEncrypt := SMap.set false x.usEncrypt (u16 q.body 2) false }) t := by
  obtain rfl := h.isReq
  subst hi hl
  exact h.changesInst (sp := specUsEncrypt) (eff := effUsEncrypt) rfl ((if_neg hop).trans (if_pos hlisted))

end usEncrypt

/-! ## LINK_KEY_BIND and PHASE_SELECT (R325, R335) -/

section linkKeyBind

variable {q : CmdReq} {c : Cmd} {s : State} {k : Nat} (hk : k = linkKey (u8 q.body 0) (u8 q.body 1) (u8 q.body 2)) (h : Runs 0x0903 q c s)

include hk h

theorem linkKeyBind_overbooked (hop : u8 q.body 3 = 0) (hfree : slotUse (u16 q.body 4) s = none)
    (hsum : 200 < reserveSum (u8 q.body 1) k s + u8 q.body 6) : Completes (.linkKeyBind q) s fun t =>
      Answers c .busyRetry 0 [] s t ∧ Books s t := by
  obtain rfl := h.isReq
  subst hk
  have hu : ¬ (slotUse (u16 c.req.body 4) (markStarted c s)).isSome = true := hfree ▸ Bool.false_ne_true
  exact h.reads (sp := specLinkKeyBind) (eff := effLinkKeyBind) rfl ((if_pos hop).trans ((if_neg hu).trans (if_pos hsum)))

theorem linkKeyBind_binds (hop : u8 q.body 3 = 0) (hfree : slotUse (u16 q.body 4) s = none)
    (hsum : reserveSum (u8 q.body 1) k s + u8 q.body 6 ≤ 200) : Completes (.linkKeyBind q) s fun t =>
      Answers c .ok 0 [] s t ∧ Books { s with cipher := { s.cipher with
        link := SMap.set none s.cipher.link k (some { slot := u16 q.body 4, reserve := u8 q.body 6, salt := w32 q.body 8 }) } } t := by
  obtain rfl := h.isReq
  subst hk
  have hu : ¬ (slotUse (u16 c.req.body 4) (markStarted c s)).isSome = true := hfree ▸ Bool.false_ne_true
  exact h.changesCipher (sp := specLinkKeyBind) (eff := effLinkKeyBind) rfl
    ((if_pos hop).trans ((if_neg hu).trans (if_neg (Nat.not_lt.2 hsum))))

theorem linkKeyBind_unbinds (hop : u8 q.body 3 ≠ 0) : Completes (.linkKeyBind q) s fun t => Answers c .ok 0 [] s t ∧
    Books { s with cipher := { s.cipher with link := SMap.set none s.cipher.link k none } } t := by
  obtain rfl := h.isReq
  subst hk
  exact h.changesCipher (sp := specLinkKeyBind) (eff := effLinkKeyBind) rfl (if_neg hop)

end linkKeyBind

theorem phaseSelect_selects {q : CmdReq} {c : Cmd} {s : State} (h : Runs 0x0904 q c s)
    (hbound : (linkBind (u8 q.body 0) 0 (u8 q.body 1) s).isSome = true) : Completes (.phaseSelect q) s fun t =>
      Answers c .ok 0 [] s t ∧
      Books { s with cipher := { s.cipher with phase := SMap.set 0 s.cipher.phase (u8 q.body 0) (u8 q.body 1) } } t := by
  obtain rfl := h.isReq
  have hb : ¬ (linkBind (u8 c.req.body 0) 0 (u8 c.req.body 1) (markStarted c s)).isNone = true := fun hn =>
    absurd hbound (Option.isNone_iff_eq_none.1 hn ▸ Bool.false_ne_true)
  exact h.changesCipher (sp := specPhaseSelect) (eff := effPhaseSelect) rfl (if_neg hb)

theorem phaseSelect_notFound {q : CmdReq} {c : Cmd} {s : State} (h : Runs 0x0904 q c s)
    (hnone : linkBind (u8 q.body 0) 0 (u8 q.body 1) s = none) : Completes (.phaseSelect q) s fun t =>
      Answers c .notFound 0 [] s t ∧ Books s t := by
  obtain rfl := h.isReq
  have hb : (linkBind (u8 c.req.body 0) 0 (u8 c.req.body 1) (markStarted c s)).isNone = true := Option.isNone_iff_eq_none.2 hnone
  exact h.reads (sp := specPhaseSelect) (eff := effPhaseSelect) rfl (if_pos hb)

theorem keyQuery_answers {q : CmdReq} {c : Cmd} {s : State} (k : KeySlot) (hk : k = SMap.get {} s.cipher.slots (u16 q.body 0))
    (h : Runs 0x0905 q c s) : Completes (.keyQuery q) s fun t => Answers c .ok 0 (le 3 (kcvOf k) ++
        le 1 (b2n k.loaded + 2 * b2n k.aes256 + 4 * b2n (slotUse (u16 q.body 0) s).isSome) ++
        le 4 ((slotUse (u16 q.body 0) s).getD 0)) s t ∧ Books s t := by
  obtain rfl := h.isReq
  subst hk
  exact h.reads (sp := specKeyQuery) (eff := effKeyQuery) rfl rfl

/-- Settles O42: each command has its own rules above. -/
theorem cipherCommandsAnswer : Obligations.CipherCommandsAnswer := fun _ _ _ =>
  ⟨cipherConfig_sets,
    fun _ hk h => ⟨ponKeyBind_binds hk h, ponKeyBind_notFound hk h, fun hop hown =>
      ⟨ponKeyBind_inUse hk h hop hown, ponKeyBind_unbinds hk h hop hown⟩⟩,
    fun _ _ hi hl h => ⟨usEncrypt_adds hi hl h, usEncrypt_full hi hl h, usEncrypt_removes hi hl h⟩,
    fun _ hk h => ⟨fun hop hfree => ⟨linkKeyBind_overbooked hk h hop hfree, linkKeyBind_binds hk h hop hfree⟩, linkKeyBind_unbinds hk h⟩,
    fun h => ⟨phaseSelect_selects h, phaseSelect_notFound h⟩, keyQuery_answers⟩

end Sys2Proof.Machine
end

section
/-!
PROOFS. The Blotter (14 R345–R349): a stroke takes each group's step apart from the others', and a step goes through its phases.
-/

namespace Sys2Proof.Machine

/-! ## A stroke, group by group (R345, R346) -/

/-- From s to t steps of other groups than g may have begun or be owed; what a step of g depends on is as before. -/
structure OthersStep (g : Nat) (s t : State) : Prop where
  outer : Outer s t
  clk : t.clk = s.clk
  pair : t.pair = s.pair
  dev : t.dev = s.dev
  pwr : t.pwr = s.pwr
  bist : t.bist = s.bist
  enabled : t.mem.enabled = s.mem.enabled
  interval : t.mem.interval = s.mem.interval
  own : t.blot g = s.blot g
  owed : g ∈ t.mem.owed ↔ g ∈ s.mem.owed
  kept : ∀ x ∈ s.mem.requests, x ∈ t.mem.requests

theorem OthersStep.refl (g : Nat) (s : State) : OthersStep g s s :=
  ⟨.refl s, rfl, rfl, rfl, rfl, rfl, rfl, rfl, rfl, .rfl, fun _ h => h⟩

theorem OthersStep.trans {g : Nat} {s t u : State} (h : OthersStep g s t) (k : OthersStep g t u) : OthersStep g s u :=
  ⟨h.outer.trans k.outer, k.clk.trans h.clk, k.pair.trans h.pair, k.dev.trans h.dev, k.pwr.trans h.pwr, k.bist.trans h.bist,
    k.enabled.trans h.enabled, k.interval.trans h.interval, k.own.trans h.own, k.owed.trans h.owed, fun x hx => k.kept x (h.kept x hx)⟩

theorem blot_of_mem {s t : State} (h : t.mem = s.mem) (g : Nat) : t.blot g = s.blot g := by simp only [State.blot, h]

theorem Books.othersStep {g : Nat} {s t : State} (h : Books s t) : OthersStep g s t where
  outer := h.outer
  clk := h.clk
  pair := h.pair
  dev := h.dev
  pwr := h.pwr
  bist := h.bist
  enabled := by rw [h.mem]
  interval := by rw [h.mem]
  own := blot_of_mem h.mem g
  owed := by rw [h.mem]
  kept x hx := by rwa [h.mem]

theorem setBlot_othersStep {g k : Nat} (h : g ≠ k) (v : BlotGroup) (s : State) : OthersStep g s (s.setBlot k v) :=
  ⟨⟨rfl, rfl, rfl⟩, rfl, rfl, rfl, rfl, rfl, rfl, rfl, blot_setBlot_other s h v, .rfl, fun _ h => h⟩

theorem requestXfer_othersStep (g port : Nat) (ts : List Nat) (u : XferUse) (s : State) : OthersStep g s (requestXfer port ts u s) :=
  ⟨⟨rfl, rfl, rfl⟩, rfl, rfl, rfl, rfl, rfl, rfl, rfl, rfl, .rfl, fun _ => List.mem_append_left _⟩

theorem setOwed_othersStep {g : Nat} {s : State} {l : List Nat} (h : g ∈ l ↔ g ∈ s.mem.owed) :
    OthersStep g s { s with mem := { s.mem with owed := l } } :=
  ⟨⟨rfl, rfl, rfl⟩, rfl, rfl, rfl, rfl, rfl, rfl, rfl, rfl, h, fun _ h => h⟩

theorem startStep_othersStep {g k : Nat} (h : g ≠ k) (s : State) : OthersStep g s (startStep k s) := by
  unfold startStep
  split
  · exact (count_books ..).othersStep
  · exact (setBlot_othersStep h _ s).trans (requestXfer_othersStep ..)

theorem owedStep_othersStep {g k : Nat} (h : g ≠ k) (s : State) : OthersStep g s (owedStep k s) := by
  unfold owedStep
  split
  · exact (setOwed_othersStep (List.mem_erase_of_ne h)).trans (startStep_othersStep h _)
  · exact .refl g s

theorem turnStep_othersStep {g k : Nat} (h : g ≠ k) (s : State) : OthersStep g s (turnStep k s) := by
  unfold turnStep
  dsimp only
  split
  case isFalse => exact .refl g s
  refine (setBlot_othersStep h { s.blot k with lastStroke := some (strokeNo s) } s).trans ?_
  split
  · refine setOwed_othersStep ?_
    split
    · exact .rfl
    · simp [h]
  · exact startStep_othersStep h _

theorem foldl_othersStep {g : Nat} (l : List Nat) (h : g ∉ l) (s : State) :
    OthersStep g s (l.foldl (fun s g => turnStep g (owedStep g s)) s) := by
  induction l generalizing s with
  | nil => exact .refl g s
  | cons k l ih =>
    rw [List.mem_cons, not_or] at h
    exact (owedStep_othersStep h.1 s).trans ((turnStep_othersStep h.1 _).trans (ih h.2 _))

/-- A stroke of a part that is awake: the groups before g, then g's own step, then the groups after it. -/
theorem execBlotterStep_around {g : Nat} {s : State} (hg : g < 38) (ha : s.pwr.state = .awake) : ∃ u,
    OthersStep g s u ∧ OthersStep g (turnStep g (owedStep g u)) (execBlotterStep s) := by
  obtain ⟨l₁, l₂, hl⟩ := List.append_of_mem (List.mem_range.2 hg)
  have hnodup : (l₁ ++ g :: l₂).Nodup := hl ▸ List.nodup_range
  rw [List.nodup_append, List.nodup_cons] at hnodup
  obtain ⟨-, ⟨hafter, -⟩, hbefore⟩ := hnodup
  have hx : execBlotterStep s = (List.range 38).foldl (fun s g => turnStep g (owedStep g s)) s := if_neg (not_not_intro ha)
  rw [hx, hl, List.foldl_append, List.foldl_cons]
  exact ⟨_, foldl_othersStep l₁ (fun h => hbefore g h g List.mem_cons_self rfl) s, foldl_othersStep l₂ hafter _⟩

section ofGroup

variable {g : Nat} {s u : State} (h : OthersStep g s u)

include h

theorem OthersStep.stroke : stroke u = stroke s := by rw [Machine.stroke, h.clk]; rfl

theorem OthersStep.strokeNo : strokeNo u = strokeNo s := by rw [Machine.strokeNo, Machine.strokeNo, h.stroke, h.clk]

theorem OthersStep.blotFree : blotFree g u = blotFree g s := by
  simp only [Machine.blotFree, domainFree, h.enabled, h.pwr, h.dev]

theorem OthersStep.blotDue : blotDue g u = blotDue g s := by
  have hstandby : pairStandby u = pairStandby s := by rw [pairStandby, h.pair]; rfl
  have hinterval : blotInterval u = blotInterval s := by rw [blotInterval, hstandby, h.interval]; rfl
  rw [Machine.blotDue, Machine.blotDue, h.strokeNo, hinterval, h.blotFree, h.own]

theorem OthersStep.underTest : underTest g u = underTest g s := by simp only [Machine.underTest, h.bist]

end ofGroup

/-- The step that a group begins in the present stroke. -/
def newStep (g : Nat) (s : State) : BlotStep :=
  { region := (s.blot g).region, startPs := s.clk.t0Ps + 15625000 * stroke s
    endPs := s.clk.t0Ps + 15625000 * stroke s + 15625000 }

theorem startStep_starts {g : Nat} {s : State} (h : underTest g s = false) :
    startStep g s = requestXfer 4 [g] (.save g) (s.setBlot g { s.blot g with step := some (newStep g s) }) :=
  if_neg (h ▸ Bool.false_ne_true)

theorem owedStep_idle {g : Nat} {s : State} (h : g ∉ s.mem.owed ∨ (s.blot g).step ≠ none) : owedStep g s = s := by
  refine if_neg fun hx => ?_
  simp only [Bool.and_eq_true, List.contains_iff_mem, Option.isNone_iff_eq_none] at hx
  exact h.elim (fun hn => hn hx.1.1) fun hn => hn hx.2

theorem turnStep_idle {g : Nat} {s : State} (h : blotDue g s = false) : turnStep g s = s := if_neg (h ▸ Bool.false_ne_true)

theorem OthersStep.newStep {g : Nat} {s u : State} (h : OthersStep g s u) : newStep g u = newStep g s := by
  rw [Machine.newStep, Machine.newStep, h.own, h.clk, h.stroke]

/-- A group whose turn has come, and whose last step is over, begins its step. -/
theorem turnStep_begins {g : Nat} {s : State} (hdue : blotDue g s = true) (htest : underTest g s = false) (hno : (s.blot g).step = none) :
    turnStep g s = requestXfer 4 [g] (.save g)
      ((s.setBlot g { s.blot g with lastStroke := some (strokeNo s) }).setBlot g
        { s.blot g with lastStroke := some (strokeNo s), step := some (newStep g s) }) := by
  obtain ⟨v, hv⟩ : ∃ v, v = s.setBlot g { s.blot g with lastStroke := some (strokeNo s) } := ⟨_, rfl⟩
  have hblot : v.blot g = { s.blot g with lastStroke := some (strokeNo s) } := hv ▸ blot_setBlot_same s g _
  have hx : turnStep g s = if (v.blot g).step.isSome then
      { v with mem := { v.mem with owed := if v.mem.owed.contains g then v.mem.owed else v.mem.owed ++ [g] } } else startStep g v := by
    rw [hv]
    exact if_pos hdue
  have hnew : newStep g v = newStep g s := by rw [newStep, hblot, hv]; rfl
  rw [hx, if_neg (by rw [hblot, hno]; exact Bool.false_ne_true), startStep_starts (by rw [hv]; exact htest), hnew, hblot, hv]

/-- A group whose turn has come while its last step goes on is owed one. -/
theorem turnStep_owes {g : Nat} {s : State} (hdue : blotDue g s = true) (hon : (s.blot g).step ≠ none) : ∃ l, g ∈ l ∧
    turnStep g s = { s.setBlot g { s.blot g with lastStroke := some (strokeNo s) } with
      mem := { (s.setBlot g { s.blot g with lastStroke := some (strokeNo s) }).mem with owed := l } } := by
  obtain ⟨v, hv⟩ : ∃ v, v = s.setBlot g { s.blot g with lastStroke := some (strokeNo s) } := ⟨_, rfl⟩
  have hblot : v.blot g = { s.blot g with lastStroke := some (strokeNo s) } := hv ▸ blot_setBlot_same s g _
  have hx : turnStep g s = if (v.blot g).step.isSome then
      { v with mem := { v.mem with owed := if v.mem.owed.contains g then v.mem.owed else v.mem.owed ++ [g] } } else startStep g v := by
    rw [hv]
    exact if_pos hdue
  have hstep : (v.blot g).step.isSome = true := by
    rw [hblot]
    exact Option.isSome_iff_ne_none.2 hon
  rw [hx, if_pos hstep, hv]
  refine ⟨_, ?_, rfl⟩
  split
  · rename_i hin
    exact List.contains_iff_mem.1 hin
  · exact List.mem_append_right _ List.mem_cons_self

theorem setBlot_outer (g : Nat) (v : BlotGroup) (s : State) : Outer s (s.setBlot g v) := ⟨rfl, rfl, rfl⟩

section strokeOf

variable {g : Fin 38} {s : State} (hon : On s)

include hon

theorem blotterStep_asleep (h : s.pwr.state ≠ .awake) : exec .blotterStep s = .next s :=
  congrArg Host.Outcome.next (live_eq hon (if_pos h) (.refl s))

/-- A stroke completes, and leaves of group g what its own step leaves. -/
theorem blotterStep_completes {P : State → Prop} (ha : s.pwr.state = .awake)
    (h : ∀ u t, OthersStep g s u → Outer u (turnStep g (owedStep g u)) ∧ (OthersStep g (turnStep g (owedStep g u)) t → P t)) :
    Completes .blotterStep s P := by
  obtain ⟨u, hu, ht⟩ := execBlotterStep_around g.isLt ha
  obtain ⟨ho, hP⟩ := h u (execBlotterStep s) hu
  exact live_completes hon _ rfl ((hu.outer.trans ho).trans ht.outer) (hP ht)

variable {b : BlotStep} (ha : s.pwr.state = .awake)

include ha

theorem blotterStep_begins (hb : b = newStep g s) (hdue : blotDue g s = true) (htest : underTest g s = false) (hno : (s.blot g).step = none)
    (howed : g.val ∉ s.mem.owed) : Completes .blotterStep s fun t =>
      t.blot g = { s.blot g with lastStroke := some (strokeNo s), step := some b } ∧
      ∃ x ∈ t.mem.requests, x = { port := 4, targets := [g.val], use := .save g, sincePs := s.clk.nowPs } := by
  refine blotterStep_completes (g := g) hon ha fun u t hu => ?_
  have hown := hu.own
  have hx := turnStep_begins (hu.blotDue.trans hdue) (hu.underTest.trans htest) (hown ▸ hno)
  rw [owedStep_idle (.inl (mt hu.owed.1 howed)), hx, hown, hu.strokeNo, hu.newStep, ← hb]
  have ho : ∀ v w : BlotGroup, Outer u (requestXfer 4 [g] (.save g) ((u.setBlot g v).setBlot g w)) := fun v w =>
    (setBlot_outer g v u).trans ((setBlot_outer g w _).trans ⟨rfl, rfl, rfl⟩)
  refine ⟨ho _ _, fun ht => ⟨ht.own.trans (blot_setBlot_same (u.setBlot g _) g _), _,
    ht.kept _ (List.mem_append_right _ List.mem_cons_self), ?_⟩⟩
  exact congrArg (fun k : Clk => ({ port := 4, targets := [g.val], use := .save g, sincePs := k.nowPs } : Xfer)) hu.clk

theorem blotterStep_owes (hdue : blotDue g s = true) (hstep : (s.blot g).step ≠ none) : Completes .blotterStep s fun t =>
    t.blot g = { s.blot g with lastStroke := some (strokeNo s) } ∧ g.val ∈ t.mem.owed := by
  refine blotterStep_completes (g := g) hon ha fun u t hu => ?_
  have hown := hu.own
  have hstep' : (u.blot g).step ≠ none := hown ▸ hstep
  obtain ⟨l, hl, hx⟩ := turnStep_owes (hu.blotDue.trans hdue) hstep'
  rw [owedStep_idle (.inr hstep'), hx, hown, hu.strokeNo]
  exact ⟨⟨rfl, rfl, rfl⟩, fun ht => ⟨ht.own.trans (blot_setBlot_same u g _), ht.owed.2 hl⟩⟩

theorem blotterStep_takesOwed (hb : b = newStep g s) (hdue : blotDue g s = false) (howed : g.val ∈ s.mem.owed) (hfree : blotFree g s = true)
    (htest : underTest g s = false) (hno : (s.blot g).step = none) : Completes .blotterStep s fun t =>
      t.blot g = { s.blot g with step := some b } := by
  refine blotterStep_completes (g := g) hon ha fun u t hu => ?_
  obtain ⟨v, hv⟩ : ∃ v : State, v = { u with mem := { u.mem with owed := u.mem.owed.erase g } } := ⟨_, rfl⟩
  have hx : owedStep g u = startStep g v := by
    rw [hv]
    refine if_pos ?_
    rw [hu.blotFree, hfree, hu.own, hno, List.contains_iff_mem.2 (hu.owed.2 howed)]
    rfl
  have hblot : v.blot g = s.blot g := by rw [hv]; exact hu.own
  have hnew : newStep g v = newStep g s := by
    rw [← hu.newStep, hv]
    rfl
  have hidle : blotDue g (requestXfer 4 [g] (.save g) (v.setBlot g { v.blot g with step := some (newStep g v) })) = false := by
    have hstroke : (v.setBlot g { v.blot g with step := some (newStep g v) }).blot g = _ := blot_setBlot_same v g _
    have hlast : ((requestXfer 4 [g] (.save g) (v.setBlot g { v.blot g with step := some (newStep g v) })).blot g).lastStroke =
        (u.blot g).lastStroke := (congrArg BlotGroup.lastStroke hstroke).trans (by rw [hblot, hu.own])
    rw [← hdue, ← hu.blotDue, blotDue, blotDue, hlast, hv]
    rfl
  rw [hx, startStep_starts (by rw [hv]; exact hu.underTest.trans htest), turnStep_idle hidle, hnew, ← hb, hblot]
  refine ⟨hv ▸ ⟨rfl, rfl, rfl⟩, fun ht => ht.own.trans (blot_setBlot_same v g _)⟩

theorem blotterStep_leaves (hdue : blotDue g s = false) (howed : g.val ∉ s.mem.owed) : Completes .blotterStep s fun t =>
    t.blot g = s.blot g := by
  refine blotterStep_completes (g := g) hon ha fun u t hu => ?_
  rw [owedStep_idle (.inl (mt hu.owed.1 howed)), turnStep_idle (hu.blotDue.trans hdue)]
  exact ⟨.refl u, fun ht => ht.own.trans hu.own⟩

end strokeOf

/-! ## A step's phases (R346, R348, R349) -/

theorem blotStep_eq (g : Nat) (s : State) : blotStep g s = (s.blot g).step := rfl

theorem dropXfers_none (g : Nat) (s : State) :
    ∀ x ∈ (dropXfers g s).mem.requests ++ (dropXfers g s).mem.grants, x.use ≠ .save g ∧ x.use ≠ .restore g := by
  intro x hx
  have hx' : x ∈ s.mem.requests.filter (fun x => decide (x.use ≠ .save g) && decide (x.use ≠ .restore g)) ++
      s.mem.grants.filter (fun x => decide (x.use ≠ .save g) && decide (x.use ≠ .restore g)) := hx
  rw [← List.filter_append, List.mem_filter, Bool.and_eq_true, decide_eq_true_eq, decide_eq_true_eq] at hx'
  exact hx'.2

/-- A group whose step is over. -/
def BlotGroup.over (g : Nat) (covered : Bool) (x : BlotGroup) : BlotGroup :=
  { x with
    step := none, region := if covered then (nextRegion g x.region).1 else x.region
    sweeps := if covered && (nextRegion g x.region).2 then satAdd 65535 x.sweeps 1 else x.sweeps }

/-- A step ends: its transfers are gone; no power-down of the domain waits for it. -/
theorem endStep_eq {g : Nat} {s : State} (h : (s.domain (groupDomain g)).phase ≠ .stopping) (covered : Bool) :
    endStep g covered s = (dropXfers g s).setBlot g ((s.blot g).over g covered) := by
  have hheld : holdEnded (groupDomain g) (dropXfers g s) = dropXfers g s := by
    unfold holdEnded
    split
    · rename_i hp
      exact absurd hp h
    · rfl
  have hoff (v : BlotGroup) : tryOff (groupDomain g) ((dropXfers g s).setBlot g v) = (dropXfers g s).setBlot g v :=
    if_neg fun hx => h hx.1
  rw [endStep, hheld]
  exact hoff _

/-- RESTORE's request or grant leaves the groups, the pair and the blocks. -/
theorem startRestore_leaves (g : Nat) (s : State) : Outer s (startRestore g s) ∧ (∀ k, (startRestore g s).blot k = s.blot k) ∧
    (startRestore g s).mem.scratch = s.mem.scratch ∧ (startRestore g s).pair = s.pair ∧ (startRestore g s).dev = s.dev := by
  unfold startRestore
  dsimp only
  split <;> exact ⟨⟨rfl, rfl, rfl⟩, fun _ => rfl, rfl, rfl, rfl⟩

section step

variable {g : Fin 38} {b : BlotStep} {s : State} (hon : On s) (hstep : (s.blot g).step = some b)

include hon hstep

theorem blotterSaveTimeout_abandons (hdom : (s.domain (groupDomain g)).phase ≠ .stopping) (hphase : b.phase = .waiting) :
    Completes (.blotterSaveTimeout g) s fun t => t.blot g = { s.blot g with step := none } ∧
      t.clk.nowPs = max s.clk.nowPs (b.startPs + 2000000) := by
  obtain ⟨u, hu⟩ : ∃ u, u = advanceTo (b.startPs + 2000000) s := ⟨_, rfl⟩
  have hend : endStep g false u = (dropXfers g u).setBlot g ((u.blot g).over g false) := endStep_eq (by rw [hu]; exact hdom) false
  have hx : execBlotterSaveTimeout g s = count .blotterSkipped g ((dropXfers g u).setBlot g ((u.blot g).over g false)) := by
    rw [← hend, hu, execBlotterSaveTimeout, blotStep_eq, hstep]
    exact if_pos hphase
  have hb := count_books .blotterSkipped g ((dropXfers g u).setBlot g ((u.blot g).over g false))
  have ho : Outer s ((dropXfers g u).setBlot g ((u.blot g).over g false)) := by rw [hu]; exact ⟨rfl, rfl, rfl⟩
  refine live_completes hon _ hx (ho.trans hb.outer) ⟨?_, ?_⟩
  · rw [blot_of_mem hb.mem, blot_setBlot_same, hu]
    rfl
  · rw [hb.clk, hu]
    rfl

theorem blotterBorrow_tests (hphase : b.phase = .save) : Completes (.blotterBorrow g) s fun t =>
    t.blot g = { s.blot g with step := some { b with phase := .test } } ∧
    (∀ x ∈ t.mem.requests ++ t.mem.grants, x.use ≠ .save g) ∧ t.mem.scratch = s.mem.scratch := by
  have hx : execBlotterBorrow g s = (dropXfers g s).setBlot g { s.blot g with step := some { b with phase := .test } } := by
    rw [execBlotterBorrow, blotStep_eq, hstep]
    exact if_pos hphase
  exact live_completes hon _ hx ⟨rfl, rfl, rfl⟩ ⟨blot_setBlot_same (dropXfers g s) g _, fun x hm => (dropXfers_none g s x hm).1, rfl⟩

theorem blotterRestoreEnd_frees (hdom : (s.domain (groupDomain g)).phase ≠ .stopping) (hphase : b.phase = .restore)
    (hgrant : s.mem.grants.any (fun x => decide (x.use = .restore g)) = true) : Completes (.blotterRestoreEnd g) s fun t =>
      t.blot g = { s.blot g with
        step := none, region := (nextRegion g (s.blot g).region).1
        sweeps := if (nextRegion g (s.blot g).region).2 then satAdd 65535 (s.blot g).sweeps 1 else (s.blot g).sweeps } ∧
      (∀ x ∈ t.mem.requests ++ t.mem.grants, x.use ≠ .restore g) ∧ t.mem.scratch = s.mem.scratch := by
  have hx : execBlotterRestoreEnd g s = (dropXfers g s).setBlot g ((s.blot g).over g true) := by
    rw [← endStep_eq hdom, execBlotterRestoreEnd, blotStep_eq, hstep]
    exact if_pos (by rw [hphase, hgrant]; rfl)
  exact live_completes hon _ hx ⟨rfl, rfl, rfl⟩ ⟨blot_setBlot_same (dropXfers g s) g _, fun x hm => (dropXfers_none g s x hm).2, rfl⟩

/-- A passed TEST: RESTORE takes its booked grant at once on a free target. -/
theorem blotterTestEnd_passes (hphase : b.phase = .test) (hplain : Plain s) (hfree : targetBusy g s = false) :
    exec (.blotterTestEnd g false) s = .next { s with mem := { s.mem with
      groups := SMap.set {} s.mem.groups g { s.blot g with step := some { b with phase := .restore } }
      grants := s.mem.grants ++ [{ port := 4, targets := [g.val], use := .restore g, sincePs := s.clk.nowPs }] } } := by
  obtain ⟨v, hv⟩ : ∃ v, v = s.setBlot g { s.blot g with step := some { b with phase := .restore } } := ⟨_, rfl⟩
  have hx : execBlotterTestEnd g false s = startRestore g v := by
    rw [hv, execBlotterTestEnd, blotStep_eq, hstep]
    exact (if_neg (not_not_intro hphase)).trans (if_neg Bool.false_ne_true)
  have hfree' : ¬ targetBusy g v = true := by rw [hv]; exact hfree ▸ Bool.false_ne_true
  have hf : execBlotterTestEnd g false s = { s with mem := { s.mem with
      groups := SMap.set {} s.mem.groups g { s.blot g with step := some { b with phase := .restore } }
      grants := s.mem.grants ++ [{ port := 4, targets := [g.val], use := .restore g, sincePs := s.clk.nowPs }] } } := by
    rw [hx, startRestore, if_neg hfree', hv]
    rfl
  refine congrArg Host.Outcome.next (live_eq hon ((escalate_plain ?_).trans hf) ⟨rfl, rfl, rfl⟩)
  rw [hf]
  exact ⟨hplain.pair, hplain.blocks⟩

theorem blotterTestEnd_fails (hphase : b.phase = .test) (hplain : Plain s) (hspare : 16 ≤ g.val) (hg : g.val < 26 ∨ 34 ≤ g.val) :
    Completes (.blotterTestEnd g true) s fun t => t.blot g = { s.blot g with
      faultSeen := true, lastRegion := some b.region, lastTick := s.clk.tick, step := some { b with phase := .restore } } ∧
      t.mem.scratch = s.mem.scratch := by
  obtain ⟨v, hv⟩ : ∃ v, v = s.setBlot g { s.blot g with faultSeen := true, lastRegion := some b.region, lastTick := s.clk.tick } := ⟨_, rfl⟩
  obtain ⟨w, hw⟩ : ∃ w, w = raise .blotterFault 0 0 (g + b.region * 256) v := ⟨_, rfl⟩
  obtain ⟨x, hx⟩ : ∃ x, x = w.setBlot g { w.blot g with step := some { b with phase := .restore } } := ⟨_, rfl⟩
  have hb : Books v w := hw ▸ raise_books ..
  have hpair : w.pair.enable = false := (congrArg Pair.enable hb.pair).trans (by rw [hv]; exact hplain.pair)
  have hquiet : noteBlotterFault w = w := if_neg (by rw [pairStandby, hpair]; exact Bool.false_ne_true)
  have hnone : ¬ (g.val < 16 ∨ (26 ≤ g.val ∧ g.val < 34)) := by omega
  have hf : execBlotterTestEnd g true s = startRestore g x := by
    have hrest : execBlotterTestEnd g true s = (fun s : State => if g.val < 16 ∨ (26 ≤ g.val ∧ g.val < 34) then
        endStep g true (remapTested g b.region s) else startRestore g (s.setBlot g { s.blot g with step := some { b with phase := .restore } }))
        (noteBlotterFault w) := by
      rw [hw, hv, execBlotterTestEnd, blotStep_eq, hstep]
      exact (if_neg (not_not_intro hphase)).trans (if_pos rfl)
    rw [hrest, hquiet, hx]
    exact if_neg hnone
  obtain ⟨ho, hblot, hscratch, hp, hd⟩ := startRestore_leaves g x
  have hsv : Outer s v := by rw [hv]; exact setBlot_outer ..
  have hwx : Outer w x := by rw [hx]; exact setBlot_outer ..
  have hplain' : Plain (execBlotterTestEnd g true s) := by
    rw [hf]
    refine ⟨(congrArg Pair.enable hp).trans ?_, (congrArg Dev.isolated hd).trans ?_⟩
    · rw [hx]
      exact hpair
    · rw [hx]
      exact (congrArg Dev.isolated hb.dev).trans (by rw [hv]; exact hplain.blocks)
  refine live_completes hon _ ((escalate_plain hplain').trans hf) (((hsv.trans hb.outer).trans hwx).trans ho) ⟨?_, ?_⟩
  · rw [hblot, hx, blot_setBlot_same, blot_of_mem hb.mem, hv, blot_setBlot_same]
  · rw [hscratch, hx]
    exact (congrArg Mem.scratch hb.mem).trans (by rw [hv]; rfl)

end step

/-- Settles O44: a stroke by the four cases of a group's own step, and the phases one by one. -/
theorem blotterRowsTakeEffect : Obligations.BlotterRowsTakeEffect := fun _ hon =>
  ⟨blotterStep_asleep hon,
    fun _ _ ha hb => ⟨blotterStep_begins hon ha hb, blotterStep_owes hon ha, blotterStep_takesOwed hon ha hb, blotterStep_leaves hon ha⟩,
    fun _ _ hstep hdom => ⟨blotterSaveTimeout_abandons hon hstep hdom, blotterBorrow_tests hon hstep,
      fun hphase hplain => ⟨blotterTestEnd_passes hon hstep hphase hplain, blotterTestEnd_fails hon hstep hphase hplain⟩,
      blotterRestoreEnd_frees hon hstep hdom⟩⟩

end Sys2Proof.Machine
end

section
/-!
PROOFS. The transfer network (14 R350–R354): grants, ends, limits and freezes of transfers of the bulk copy.
-/

namespace Sys2Proof.Machine

/-- With no command executing, no TXN_FREEZE waits for a grant to end. -/
theorem settleFreezes_idle {s : State} (h : s.cmd.executing = []) : settleFreezes s = s := by
  simp only [settleFreezes, h, List.filter_nil, List.foldl_nil]

/-- A frame on the mirror link moves the pair's lane and frame count on, and nothing else of the pair. -/
theorem sendMirrorFrame_pair (k : Nat) (d : Bytes) (s : State) : ∃ r n,
    (sendMirrorFrame k d s).2.pair = { s.pair with rotation := r, txCount := n } := by
  unfold sendMirrorFrame
  dsimp only
  split
  · split
    · exact ⟨_, _, (putLane_books _ _ _).pair⟩
    · exact ⟨_, _, (count_books _ _ _).pair⟩
  · exact ⟨_, _, rfl⟩

/-- A chunk of the bulk copy sent: the copy's place moves on, and the next 4 KiB are asked for while some are left. -/
theorem copyChunk_next {s : State} {a : Nat} (h : s.pair.bulkAt = some a) : ∃ u next, Outer s u ∧ u.cmd = s.cmd ∧ u.mem = s.mem ∧
    u.pair.kibLeft = s.pair.kibLeft - 4 ∧
    copyChunk s = if s.pair.kibLeft - 4 = 0 then u else requestXfer 5 [next / 2 ^ 24, 39] .bulk u := by
  obtain ⟨v, hv⟩ : ∃ v, v = (sendMirrorFrame 1 (Config.bulkFrame (a / 2 ^ 24) (a % 2 ^ 24)
    ((List.range 4096).map (fun k => bulkRead (a / 2 ^ 24) (a % 2 ^ 24 + k) s))) s).2 := ⟨_, rfl⟩
  have hsent : Noted { s with pair := v.pair } v := hv ▸ sendMirrorFrame_noted ..
  obtain ⟨r, n, hpair⟩ : ∃ r n, v.pair = { s.pair with rotation := r, txCount := n } := hv ▸ sendMirrorFrame_pair ..
  obtain ⟨next, hx⟩ : ∃ next, copyChunk s = (fun u : State => if u.pair.kibLeft = 0 then u else requestBulk u)
      { (takeFree 16 v).2 with pair := { v.pair with bulkAt := some next, kibLeft := v.pair.kibLeft - 4 } } := by
    rw [copyChunk, h, hv]
    exact ⟨_, rfl⟩
  have hkib : v.pair.kibLeft = s.pair.kibLeft := (congrArg Pair.kibLeft hpair :)
  have ho : Outer s v := ⟨hsent.books.pending, hsent.books.hot_powered, hsent.books.boot⟩
  refine ⟨{ (takeFree 16 v).2 with pair := { v.pair with bulkAt := some next, kibLeft := v.pair.kibLeft - 4 } }, next, ho.trans ⟨rfl, rfl, rfl⟩,
    hsent.cmd, hsent.books.mem, congrArg (· - 4) hkib, ?_⟩
  rw [hx, hkib]
  rfl

/-- A transfer of the bulk copy ends: the copy goes on with it. -/
theorem execTxnComplete_bulk {p : Nat} {s : State} {x : Xfer} (hx : s.mem.grants.find? (fun x => decide (x.port = p)) = some x)
    (hu : x.use = .bulk) (hc : s.cmd.executing = [])
    (hquiet : (copyChunk { s with mem := { s.mem with grants := s.mem.grants.erase x } }).cmd = s.cmd) :
    execTxnComplete p s = copyChunk { s with mem := { s.mem with grants := s.mem.grants.erase x } } := by
  rw [← settleFreezes_idle (s := copyChunk _) ((congrArg CmdState.executing hquiet).trans hc)]
  simp only [execTxnComplete, hx, hu, eraseXfer]

/-- A grant is revoked: it is gone, and that is reported. -/
theorem revokeGrant_books (x : Xfer) (s : State) :
    Books { s with mem := { s.mem with grants := s.mem.grants.erase x } } (revokeGrant x s) := raise_books ..

theorem revokeGrant_cmd (x : Xfer) (s : State) : (revokeGrant x s).cmd = s.cmd := (raise_noted ..).cmd

section transfers

variable {s : State} (hon : On s)

include hon

/-! ## Grants (R350) -/

theorem txnGrant_idle (h : nextGrant s = none) : exec .txnGrant s = .next s :=
  congrArg Host.Outcome.next (live_eq hon (by rw [execTxnGrant, h]) (.refl s))

theorem txnGrant_grants (x : Xfer) (h : nextGrant s = some x) (hu : x.use = .bulk) (ha : x.again = false) :
    exec .txnGrant s = .next { s with mem := { s.mem with
      requests := s.mem.requests.erase x, order := s.mem.order.filter (· ≠ x.port) ++ [x.port]
      grants := s.mem.grants ++ [{ x with sincePs := s.clk.nowPs }] } } := by
  have hbook : x.booked = false := by rw [Xfer.booked, hu]
  refine congrArg Host.Outcome.next (live_eq hon ?_ ⟨rfl, rfl, rfl⟩)
  simp only [execTxnGrant, h, hu, ha, hbook, eraseXfer, Bool.false_eq_true, if_false]

variable (hc : s.cmd.executing = [])

include hc

section grantOf

variable {p : Fin 7} {x : Xfer} (hx : s.mem.grants.find? (fun x => decide (x.port = p.val)) = some x)

include hx

/-! ## The end of a transfer, and its limit (R351) -/

theorem txnComplete_ends (hu : x.use = .bulk) (hb : s.pair.bulkAt = none) :
    exec (.txnComplete p) s = .next { s with mem := { s.mem with grants := s.mem.grants.erase x } } := by
  have hcopy : copyChunk { s with mem := { s.mem with grants := s.mem.grants.erase x } } =
      { s with mem := { s.mem with grants := s.mem.grants.erase x } } := by simp only [copyChunk, hb]
  refine congrArg Host.Outcome.next (live_eq hon ((execTxnComplete_bulk hx hu hc ?_).trans hcopy) ⟨rfl, rfl, rfl⟩)
  rw [hcopy]

theorem txnComplete_goesOn (hu : x.use = .bulk) (a : Nat) (hb : s.pair.bulkAt = some a) : Completes (.txnComplete p) s fun t =>
    t.mem.grants = s.mem.grants.erase x ∧ t.pair.kibLeft = s.pair.kibLeft - 4 ∧ (s.pair.kibLeft ≤ 4 → t.mem.requests = s.mem.requests) ∧
    (4 < s.pair.kibLeft → ∃ y, y.port = 5 ∧ y.use = .bulk ∧ t.mem.requests = s.mem.requests ++ [y]) := by
  obtain ⟨v, hv⟩ : ∃ v : State, v = { s with mem := { s.mem with grants := s.mem.grants.erase x } } := ⟨_, rfl⟩
  obtain ⟨u, next, ho, hcmd, hmem, hkib, hcopy⟩ := copyChunk_next (s := v) (a := a) (by rw [hv]; exact hb)
  rw [hv] at hcopy
  subst hv
  have hsu : Outer s u := ⟨ho.pending, ho.powered, ho.boot⟩
  have hreqs : u.mem.requests = s.mem.requests := (congrArg Mem.requests hmem :)
  by_cases hl : s.pair.kibLeft ≤ 4
  · have hlast := hcopy.trans (if_pos (Nat.sub_eq_zero_of_le hl))
    have hf := (execTxnComplete_bulk hx hu hc ((congrArg State.cmd hlast).trans hcmd)).trans hlast
    exact live_completes hon u hf hsu ⟨(congrArg Mem.grants hmem :), hkib, fun _ => hreqs, fun h => absurd h (by omega)⟩
  · have hmore := hcopy.trans (if_neg (Nat.sub_ne_zero_of_lt (Nat.not_le.1 hl)))
    have hf := (execTxnComplete_bulk hx hu hc ((congrArg State.cmd hmore).trans hcmd)).trans hmore
    exact live_completes hon _ hf (hsu.trans ⟨rfl, rfl, rfl⟩)
      ⟨(congrArg Mem.grants hmem :), hkib, fun h => absurd h hl, fun _ => ⟨_, rfl, rfl, congrArg (· ++ [_]) hreqs⟩⟩

theorem txnLimitRevoke_revokes (hplain : Plain s) (hr : x.revoked < 3) : Completes (.txnLimitRevoke p) s fun t =>
    t.mem.grants = s.mem.grants.erase x ∧ t.clk.nowPs = max s.clk.nowPs (x.sincePs + 8000000) ∧
    t.mem.requests = s.mem.requests ++ [{ x with revoked := x.revoked + 1, again := true, sincePs := t.clk.nowPs }] := by
  obtain ⟨u, hueq⟩ : ∃ u, u = revokeGrant x (advanceTo (x.sincePs + 8000000) s) := ⟨_, rfl⟩
  have hb : Books { advanceTo (x.sincePs + 8000000) s with mem := { s.mem with grants := s.mem.grants.erase x } } u :=
    hueq ▸ revokeGrant_books ..
  have hcmd : u.cmd = s.cmd := hueq ▸ revokeGrant_cmd ..
  have hlim : x.revoked + 1 < 4 := by omega
  have hf : execTxnLimitRevoke p s = requeue { x with revoked := x.revoked + 1 } u := by
    rw [← settleFreezes_idle (s := requeue _ u) ((congrArg CmdState.executing hcmd).trans hc), hueq]
    simp only [execTxnLimitRevoke, hx, hlim, if_true]
  have hplain' : Plain (execTxnLimitRevoke p s) := by
    rw [hf]
    exact ⟨(congrArg Pair.enable hb.pair).trans hplain.pair, (congrArg Dev.isolated hb.dev).trans hplain.blocks⟩
  have ho : Outer s u := ⟨hb.pending, hb.hot_powered, hb.boot⟩
  exact live_completes hon _ ((escalate_plain hplain').trans hf) (ho.trans (requeue_outer _ u))
    ⟨(congrArg Mem.grants hb.mem :), (congrArg Clk.nowPs hb.clk :), congrArg (· ++ [_]) (congrArg Mem.requests hb.mem :)⟩

end grantOf

/-! ## A wait of one tick (R354) -/

theorem waitTickRevoke_revokes (w h : Xfer)
    (hw : longestWait (s.mem.requests.filter
      (fun x => x.targets.any (fun t => targetBusy t s) && !x.targets.any (fun t => targetFrozen t s))) = some w)
    (hh : s.mem.grants.find? (fun h => w.targets.any (fun t => h.targets.contains t)) = some h) (hwu : w.use = .bulk) (hhu : h.use = .bulk) :
    Completes .waitTickRevoke s fun t => t.mem.grants = s.mem.grants.erase h ∧ t.clk.nowPs = max s.clk.nowPs (w.sincePs + tickPs) := by
  obtain ⟨u, hueq⟩ : ∃ u, u = revokeGrant h (advanceTo (w.sincePs + tickPs) s) := ⟨_, rfl⟩
  have hb : Books { advanceTo (w.sincePs + tickPs) s with mem := { s.mem with grants := s.mem.grants.erase h } } u :=
    hueq ▸ revokeGrant_books ..
  have hcmd : u.cmd = s.cmd := hueq ▸ revokeGrant_cmd ..
  have hyounger : heldSince w true (advanceTo (w.sincePs + tickPs) s) = none := by rw [heldSince, hwu]; rfl
  obtain ⟨v, hv⟩ : ∃ v : State, v = { u with mem := { u.mem with requests := eraseXfer h u.mem.requests } } := ⟨_, rfl⟩
  have hf : execWaitTickRevoke s = requeue h v := by
    have hidle : (requeue h v).cmd.executing = [] := by rw [hv]; exact (congrArg CmdState.executing hcmd).trans hc
    rw [← settleFreezes_idle hidle, hv, hueq]
    simp only [execWaitTickRevoke, hw, hh, hyounger, revokeParty, hhu]
  have ho : Outer s u := ⟨hb.pending, hb.hot_powered, hb.boot⟩
  subst hv
  exact live_completes hon _ hf (ho.trans ⟨rfl, rfl, rfl⟩) ⟨(congrArg Mem.grants hb.mem :), (congrArg Clk.nowPs hb.clk :)⟩

end transfers

/-! ## The end of a freeze (R352) -/

/-- A number with bit k written, by its low bits, the bit and its high bits. -/
theorem withBit_eq (v k : Nat) (b : Bool) : withBit v k b = 2 ^ k * (2 * (v / 2 ^ k / 2) + b2n b) + v % 2 ^ k := by
  have hbit : b2n (bit v k) = v / 2 ^ k % 2 := by
    rw [bit, b2n, Nat.testBit_eq_decide_div_mod_eq]
    rcases Nat.mod_two_eq_zero_or_one (v / 2 ^ k) with h | h <;> simp [h]
  have hhigh : 2 ^ k * (2 * (v / 2 ^ k / 2)) + 2 ^ k * (v / 2 ^ k % 2) = 2 ^ k * (v / 2 ^ k) := by
    rw [← Nat.mul_add, Nat.div_add_mod]
  have hv : 2 ^ k * (v / 2 ^ k) + v % 2 ^ k = v := Nat.div_add_mod v _
  rw [withBit, hbit, Nat.mul_add, Nat.mul_comm (v / 2 ^ k % 2), Nat.mul_comm (b2n b)]
  omega

/-- Writing a bit writes it, and leaves the others. -/
theorem bit_withBit (v k j : Nat) (b : Bool) : bit (withBit v k b) j = if j = k then b else bit v j := by
  have hlow : v % 2 ^ k < 2 ^ k := Nat.mod_lt _ (Nat.two_pow_pos k)
  have hv : bit v j = if j < k then (v % 2 ^ k).testBit j else (v / 2 ^ k).testBit (j - k) := by
    rw [bit, ← Nat.testBit_two_pow_mul_add _ hlow, Nat.div_add_mod]
  rw [withBit_eq, bit, Nat.testBit_two_pow_mul_add _ hlow, hv]
  rcases Nat.lt_trichotomy j k with hj | rfl | hj
  · simp [hj, hj.ne]
  · cases b <;> simp [b2n, Nat.testBit_zero]
  · obtain ⟨m, hm⟩ : ∃ m, j - k = m + 1 := ⟨j - k - 1, by omega⟩
    have hhalf : (2 * (v / 2 ^ k / 2) + b2n b) / 2 = v / 2 ^ k / 2 := by
      rw [Nat.mul_add_div Nat.two_pos]
      cases b <;> simp [b2n]
    simp only [hm, Nat.testBit_succ, hhalf, hj.ne', hj.not_gt, if_false]

theorem bit_writeAll (b : Bool) (ts : List Nat) (v j : Nat) :
    bit (ts.foldl (fun m t => withBit m t b) v) j = if j ∈ ts then b else bit v j := by
  induction ts generalizing v with
  | nil => simp
  | cons k ts ih =>
    rw [List.foldl_cons, ih, bit_withBit]
    by_cases hj : j ∈ ts <;> by_cases hk : j = k <;> simp [hj, hk]

theorem txnFreezeExpiry_thaws {s : State} (hon : On s) (k : Fin 40) : Completes .txnFreezeExpiry s fun t =>
    ((∃ f n, SMap.get none s.mem.freezeEnd k = some (f, n) ∧ n ≤ ticksSince f s) → bit t.mem.frozen k = false) ∧
    ((∀ f n, SMap.get none s.mem.freezeEnd k = some (f, n) → ticksSince f s < n) → bit t.mem.frozen k = bit s.mem.frozen k) := by
  have hbit : bit (thaw (expiredFreezes s) s).mem.frozen k = if k.val ∈ expiredFreezes s then false else bit s.mem.frozen k := bit_writeAll ..
  have hmem : k.val ∈ expiredFreezes s ↔ ∃ f n, SMap.get none s.mem.freezeEnd k = some (f, n) ∧ n ≤ ticksSince f s := by
    rw [expiredFreezes, List.mem_filter, List.mem_range]
    cases SMap.get none s.mem.freezeEnd k.val with
    | none => simp
    | some e => simp [k.isLt, Prod.ext_iff]
  refine live_completes hon _ rfl ⟨rfl, rfl, rfl⟩ ⟨fun h => hbit.trans (if_pos (hmem.2 h)), fun h => hbit.trans (if_neg fun hin => ?_)⟩
  obtain ⟨f, n, hf, hn⟩ := hmem.1 hin
  exact absurd (h f n hf) (Nat.not_lt.2 hn)

/-- Settles O45: each row has its own rules above. -/
theorem transferRowsTakeEffect : Obligations.TransferRowsTakeEffect := fun _ hon hc =>
  ⟨txnGrant_idle hon, txnGrant_grants hon,
    fun _ _ hx hu => ⟨txnComplete_ends hon hc hx hu, txnComplete_goesOn hon hc hx hu, txnLimitRevoke_revokes hon hc hx⟩,
    waitTickRevoke_revokes hon hc, txnFreezeExpiry_thaws hon⟩

end Sys2Proof.Machine
end

section
/-!
PROOFS. The commands of the memories (14 R340, R342, R345, R352, R356).
-/

namespace Sys2Proof.Machine

/-- A command that changes the memories alone, and is done, answers OK with that change. -/
theorem Runs.changesMem {sp : CmdSpec} {eff : Cmd → State → Res} {q : CmdReq} {c : Cmd} {s : State} {p : Bytes} {x : Mem}
    (h : Runs sp.op q c s) (hl : sp.lease q s = none) (he : eff c (markStarted c s) = .ok p { markStarted c s with mem := x }) :
    ∃ t, (Host.Outcome.next (live (runCmd sp eff q) s) : Host.Outcome State Fault Refusal) = .next t ∧
      Answers c .ok 0 p s t ∧ Books { s with mem := x } t :=
  h.completes hl he rfl rfl rfl rfl rfl rfl

theorem blotterConfig_keeps {q : CmdReq} {c : Cmd} {s : State} (h : Runs 0x0A00 q c s) : Completes (.blotterConfig q) s fun t =>
    Answers c .ok 0 [] s t ∧ Books { s with mem := { s.mem with blotNext := some (u64 q.body 0, u8 q.body 8) } } t := by
  obtain rfl := h.isReq
  exact h.changesMem (sp := specBlotterConfig) (eff := effBlotterConfig) rfl rfl

theorem blotterQuery_answers {q : CmdReq} {c : Cmd} {s : State} (g : Nat) (hg : g = u8 q.body 0) (h : Runs 0x0A01 q c s) :
    Completes (.blotterQuery q) s fun t =>
      Answers c .ok 0 (le 4 (blotterGroup g s) ++ le 2 ((s.blot g).lastRegion.getD 0xFFFF) ++ zeros 2 ++
        le 4 (s.blot g).lastTick.toNat) s t ∧ Books s t := by
  obtain rfl := h.isReq
  subst hg
  exact h.reads (sp := specBlotterQuery) (eff := effBlotterQuery) rfl rfl

/-! ## TXN_FREEZE (R352) -/

/-- What a TXN_FREEZE leaves of the freezes: CLEAR released, then SET frozen with their end. -/
def freezeMem (p : Bytes) (s : State) : Mem :=
  let m := (thaw (bitsOf 40 (u64 p 8)) s).mem
  { m with
    frozen := (bitsOf 40 (u64 p 0)).foldl (fun m t => withBit m t true) m.frozen
    freezeEnd := (bitsOf 40 (u64 p 0)).foldl
      (fun m t => SMap.set none m t (if u16 p 16 = 0 then none else some (ownTick s, u16 p 16))) m.freezeEnd }

theorem mem_bitsOf {n v k : Nat} : k ∈ bitsOf n v ↔ k < n ∧ bit v k = true := by
  rw [bitsOf, List.mem_filter, List.mem_range]

theorem freezeMem_frozen (p : Bytes) (s : State) (k : Fin 40) :
    bit (freezeMem p s).frozen k = (bit (u64 p 0) k || (bit s.mem.frozen k && !bit (u64 p 8) k)) := by
  have hclear : bit (thaw (bitsOf 40 (u64 p 8)) s).mem.frozen k = if k.val ∈ bitsOf 40 (u64 p 8) then false else bit s.mem.frozen k :=
    bit_writeAll ..
  have hset : bit (freezeMem p s).frozen k =
      if k.val ∈ bitsOf 40 (u64 p 0) then true else bit (thaw (bitsOf 40 (u64 p 8)) s).mem.frozen k := bit_writeAll ..
  simp only [hset, hclear, mem_bitsOf, k.isLt, true_and]
  cases bit (u64 p 0) k <;> cases bit (u64 p 8) k <;> simp

/-- A key of a list written to one value reads as written. -/
theorem get_setAll {α : Type} [DecidableEq α] (d v : α) (ts : List Nat) (m : SMap α) {k : Nat} (h : k ∈ ts) :
    SMap.get d (ts.foldl (fun m t => SMap.set d m t v) m) k = v := by
  suffices hl : ∀ (ts : List Nat) (m : SMap α), k ∈ ts ∨ SMap.get d m k = v →
      SMap.get d (ts.foldl (fun m t => SMap.set d m t v) m) k = v from hl ts m (.inl h)
  intro ts
  induction ts with
  | nil => exact fun m h => h.resolve_left List.not_mem_nil
  | cons t ts ih =>
    refine fun m h => ih _ ?_
    by_cases ht : k = t
    · exact .inr (ht ▸ SMap.get_set_same ..)
    · rw [SMap.get_set_other _ _ ht]
      exact h.imp_left fun hk => (List.mem_cons.1 hk).resolve_left ht

theorem freezeMem_freezeEnd (p : Bytes) (s : State) (k : Fin 40) (h : bit (u64 p 0) k = true) :
    SMap.get none (freezeMem p s).freezeEnd k = if u16 p 16 = 0 then none else some (ownTick s, u16 p 16) :=
  get_setAll _ _ _ _ (mem_bitsOf.2 ⟨k.isLt, h⟩)

/-- TXN_FREEZE answers the mask in force, or waits for the open grants on targets that it freezes anew. -/
theorem effTxnFreeze_eq (c : Cmd) (s : State) : effTxnFreeze c s =
    let anew := (bitsOf 40 (u64 c.req.body 0)).filter (fun t => !targetFrozen t s)
    let u : State := { s with mem := freezeMem c.req.body s }
    if anew.any (fun t => targetBusy t s) then .later { u with mem := { u.mem with freezing := SMap.set [] s.mem.freezing c.seq anew } }
    else .ok (le 8 (frozenMask u)) u := rfl

/-- The mask in force is read off the freezes and the power state. -/
theorem frozenMask_congr {s t : State} (hm : t.mem = s.mem) (hp : t.pwr = s.pwr) : frozenMask t = frozenMask s := by
  simp only [frozenMask, targetFrozen, sleepFreezes, domainFree, hm, hp]

theorem any_filter_frozen (l : List Nat) (s : State) :
    (l.filter (fun t => !targetFrozen t s)).any (fun t => targetBusy t s) = l.any (fun t => !targetFrozen t s && targetBusy t s) := by
  rw [List.any_filter]

section txnFreeze

variable {q : CmdReq} {c : Cmd} {s : State} (h : Runs 0x0A02 q c s)

include h

theorem txnFreeze_freezes (hfree : (bitsOf 40 (u64 q.body 0)).any (fun t => !targetFrozen t s && targetBusy t s) = false) :
    Completes (.txnFreeze q) s fun t => Answers c .ok 0 (le 8 (frozenMask t)) s t ∧
      (∀ k : Fin 40, bit t.mem.frozen k = (bit (u64 q.body 0) k || (bit s.mem.frozen k && !bit (u64 q.body 8) k)) ∧
        (bit (u64 q.body 0) k = true → SMap.get none t.mem.freezeEnd k =
          (if u16 q.body 16 = 0 then none else some (ownTick s, u16 q.body 16)))) ∧
      Books { s with mem := { s.mem with frozen := t.mem.frozen, freezeEnd := t.mem.freezeEnd } } t := by
  obtain rfl := h.isReq
  have hidle : ¬ ((bitsOf 40 (u64 c.req.body 0)).filter (fun t => !targetFrozen t (markStarted c s))).any
      (fun t => targetBusy t (markStarted c s)) = true := by
    rw [any_filter_frozen]
    exact Bool.eq_false_iff.1 hfree
  obtain ⟨x, hx⟩ : ∃ x, x = freezeMem c.req.body s := ⟨_, rfl⟩
  have he : effTxnFreeze c (markStarted c s) =
      .ok (le 8 (frozenMask { markStarted c s with mem := x })) { markStarted c s with mem := x } :=
    hx ▸ (effTxnFreeze_eq c (markStarted c s)).trans (if_neg hidle)
  obtain ⟨t, ht, hans, hb⟩ := h.changesMem (sp := specTxnFreeze) (eff := effTxnFreeze) rfl he
  have hmask : frozenMask t = frozenMask { markStarted c s with mem := x } := frozenMask_congr hb.mem hb.pwr
  have hmem : t.mem = freezeMem c.req.body s := hb.mem.trans hx
  rw [← hmask] at hans
  rw [hx] at hb
  refine ⟨t, ht, hans, fun k => ?_, ?_⟩
  · rw [hmem]
    exact ⟨freezeMem_frozen _ s k, freezeMem_freezeEnd _ s k⟩
  · rw [hmem]
    exact hb

theorem txnFreeze_waits (hbusy : (bitsOf 40 (u64 q.body 0)).any (fun t => !targetFrozen t s && targetBusy t s) = true) :
    Completes (.txnFreeze q) s fun t => GoesOn c t ∧ (∀ k : Fin 40, bit (u64 q.body 0) k = true → bit t.mem.frozen k = true) := by
  obtain rfl := h.isReq
  have hwait : ((bitsOf 40 (u64 c.req.body 0)).filter (fun t => !targetFrozen t (markStarted c s))).any
      (fun t => targetBusy t (markStarted c s)) = true := by
    rw [any_filter_frozen]
    exact hbusy
  refine h.goesOn (sp := specTxnFreeze) (eff := effTxnFreeze) rfl ((effTxnFreeze_eq c (markStarted c s)).trans (if_pos hwait))
    ⟨(congrArg CmdState.executing h.marked :), fun k hk => ?_⟩
  refine (freezeMem_frozen c.req.body (markStarted c s) k).trans ?_
  rw [hk, Bool.true_or]

end txnFreeze

/-! ## SCRATCH_OP (R340, R342, R343) -/

/-- A good word that no lock guards and port B leaves alone: the access is made. -/
theorem effScratchOp_runs {c : Cmd} {s : State} (hlock : s.mem.seqHolder < 2)
    (hgood : s.mem.badWords.contains (wordOf (scratchAcc c.req.body).addr.toNat) = false) (hb : s.mem.lastB = none) :
    effScratchOp c s = .ok (le 8 (scratchRun (scratchAcc c.req.body) s).1) (scratchRun (scratchAcc c.req.body) s).2 := by
  have hwaits : seqWaits 1 (scratchAcc c.req.body) s = false := by
    have hholder : s.mem.seqHolder = 0 ∨ s.mem.seqHolder = 1 := by omega
    rcases hholder with h | h <;> simp [seqWaits, h]
  have hbad : scratchBad (scratchAcc c.req.body) s = false := by rw [scratchBad, hgood, Bool.false_and]
  simp only [effScratchOp, hwaits, hbad, hb, Bool.false_eq_true, if_false, Option.filter_none]

/-- An access that writes no whole word mends none. -/
theorem scratchRun_of_kind {a : ScratchAcc} (h : a.kind ≠ .write) (s : State) : scratchRun a s = scratchDo a s := by
  have hm : scratchMend a s = s := if_neg (by simp [h])
  rw [scratchRun, hm]

theorem scratchRun_write {a : ScratchAcc} (h : a.kind = .write) (s : State) : ∃ bad,
    scratchRun a s = (0, { s with mem := { s.mem with
      badWords := bad, scratch := SMap.setBytes 0 s.mem.scratch a.at_ (le a.size a.value.toNat) } }) := by
  unfold scratchRun scratchDo scratchMend
  simp only [h, decide_true, Bool.true_and]
  split <;> exact ⟨_, rfl⟩

theorem scratchAcc_kind {p : Bytes} :
    (u8 p 0 = 0 → (scratchAcc p).kind = .read) ∧ (u8 p 0 = 1 → (scratchAcc p).kind = .write) ∧
    (u8 p 0 = 2 → (scratchAcc p).kind = .add) ∧ (u8 p 0 = 3 → (scratchAcc p).kind = .swap) :=
  ⟨fun h => by simp [scratchAcc, h], fun h => by simp [scratchAcc, h], fun h => by simp [scratchAcc, h], fun h => by simp [scratchAcc, h]⟩

section scratchOp

variable {q : CmdReq} {c : Cmd} {s : State} {a : ScratchAcc} (ha : a = scratchAcc q.body) (h : Runs 0x0A03 q c s)

include ha h

theorem scratchOp_waits (hlock : s.mem.seqHolder = 2) (hop : u8 q.body 0 ≠ 0) : Completes (.scratchOp q) s fun t =>
    GoesOn c t ∧ t.mem.seqWait = s.mem.seqWait ++ [(1, a, some c.seq)] ∧ t.mem.scratch = s.mem.scratch := by
  obtain rfl := h.isReq
  subst ha
  have hchanges : (scratchAcc c.req.body).changes = true := by
    rw [ScratchAcc.changes, scratchAcc]
    dsimp only
    split
    · exact absurd ‹_› hop
    all_goals rfl
  have hwaits : seqWaits 1 (scratchAcc c.req.body) (markStarted c s) = true := by simp [seqWaits, hlock, hchanges]
  exact h.goesOn (sp := specScratchOp) (eff := effScratchOp) rfl (if_pos hwaits) ⟨(congrArg CmdState.executing h.marked :), rfl, rfl⟩

variable (hlock : s.mem.seqHolder < 2) (hgood : s.mem.badWords.contains (wordOf a.addr.toNat) = false) (hb : s.mem.lastB = none)

include hlock hgood hb

/-- The access of a SCRATCH_OP that is not a plain write changes at most the scratchpad, as it says. -/
theorem scratchOp_runs {v : Nat} {m : SMap Byte} (hk : a.kind ≠ .write)
    (hdo : ∀ u : State, u.mem = s.mem → scratchDo a u = (v, { u with mem := { u.mem with scratch := m } })) :
    Completes (.scratchOp q) s fun t => Answers c .ok 0 (le 8 v) s t ∧ Books { s with mem := { s.mem with scratch := m } } t := by
  obtain rfl := h.isReq
  subst ha
  have he : effScratchOp c (markStarted c s) = _ := effScratchOp_runs hlock hgood hb
  rw [scratchRun_of_kind hk, hdo (markStarted c s) rfl] at he
  exact h.changesMem (sp := specScratchOp) (eff := effScratchOp) rfl he

theorem scratchOp_reads (hop : u8 q.body 0 = 0) : Completes (.scratchOp q) s fun t =>
    Answers c .ok 0 (le 8 (scratchValue a s)) s t ∧ Books s t := by
  have hk : a.kind = .read := ha ▸ scratchAcc_kind.1 hop
  refine scratchOp_runs ha h hlock hgood hb (m := s.mem.scratch) (by simp [hk]) fun u hu => ?_
  simp only [scratchDo, hk, scratchValue, hu]
  rw [← hu]

theorem scratchOp_writes (hop : u8 q.body 0 = 1) : Completes (.scratchOp q) s fun t => Answers c .ok 0 (le 8 0) s t ∧
    t.mem.scratch = SMap.setBytes 0 s.mem.scratch a.at_ (le a.size a.value.toNat) ∧ t.cipher = s.cipher := by
  have hk : a.kind = .write := ha ▸ scratchAcc_kind.2.1 hop
  obtain rfl := h.isReq
  subst ha
  obtain ⟨bad, hrun⟩ := scratchRun_write hk (markStarted c s)
  have he : effScratchOp c (markStarted c s) = _ := effScratchOp_runs hlock hgood hb
  rw [hrun] at he
  obtain ⟨t, ht, hans, hbooks⟩ := h.changesMem (sp := specScratchOp) (eff := effScratchOp) rfl he
  exact ⟨t, ht, hans, congrArg Mem.scratch hbooks.mem, hbooks.cipher⟩

theorem scratchOp_adds (hop : u8 q.body 0 = 2) : Completes (.scratchOp q) s fun t =>
    Answers c .ok 0 (le 8 (scratchValue a s)) s t ∧ Books { s with mem := { s.mem with
      scratch := SMap.setBytes 0 s.mem.scratch a.at_ (le a.size (scratchValue a s + a.value.toNat)) } } t := by
  have hk : a.kind = .add := ha ▸ scratchAcc_kind.2.2.1 hop
  refine scratchOp_runs ha h hlock hgood hb (by simp [hk]) fun u hu => ?_
  simp only [scratchDo, hk, scratchValue, hu]

theorem scratchOp_swaps (hop : u8 q.body 0 = 3) : Completes (.scratchOp q) s fun t =>
    Answers c .ok 0 (le 8 (scratchValue a s)) s t ∧ Books { s with mem := { s.mem with
      scratch := SMap.setBytes 0 s.mem.scratch a.at_ (le a.size a.value.toNat) } } t := by
  have hk : a.kind = .swap := ha ▸ scratchAcc_kind.2.2.2 hop
  refine scratchOp_runs ha h hlock hgood hb (by simp [hk]) fun u hu => ?_
  simp only [scratchDo, hk, scratchValue, hu]

end scratchOp

/-- Settles O46: each command has its own rules above. -/
theorem memoryCommandsAnswer : Obligations.MemoryCommandsAnswer := fun _ _ _ =>
  ⟨blotterConfig_keeps, blotterQuery_answers, fun h => ⟨txnFreeze_freezes h, txnFreeze_waits h⟩,
    fun _ ha h hlock hgood hb => ⟨scratchOp_reads ha h hlock hgood hb, scratchOp_writes ha h hlock hgood hb,
      scratchOp_adds ha h hlock hgood hb, scratchOp_swaps ha h hlock hgood hb⟩,
    fun _ ha h => scratchOp_waits ha h⟩

end Sys2Proof.Machine
end

section
/-!
PROOFS. What the rows of the pair and of sleep leave (15; 16 R376–R382).
-/

namespace Sys2Proof.Machine

/-- What a row of the pair or of sleep can reach: the books, the pair, the power state, the clock, the instances, the queues with their contexts
and shapers, the lanes, and the requests for transfers. -/
def WithinPair (s t : State) : Prop :=
  t = { s with
    out := t.out, evt := t.evt, cnt := t.cnt, role := t.role, cmd := t.cmd, spi := t.spi, pair := t.pair, pwr := t.pwr, clk := t.clk,
    insts := t.insts, allocs := t.allocs, queues := t.queues, shapers := t.shapers, lanes := t.lanes
    stamps := t.stamps, notes := t.notes, hot := { s.hot with held := t.hot.held }, mem := { s.mem with requests := t.mem.requests } }

@[refl] theorem WithinPair.refl (s : State) : WithinPair s s := rfl

theorem WithinPair.trans {s t u : State} (h : WithinPair s t) (k : WithinPair t u) : WithinPair s u :=
  Eq.trans k (congrArg (fun x : State => { x with
    out := u.out, evt := u.evt, cnt := u.cnt, role := u.role, cmd := u.cmd, spi := u.spi, pair := u.pair, pwr := u.pwr, clk := u.clk,
    insts := u.insts, allocs := u.allocs, queues := u.queues, shapers := u.shapers, lanes := u.lanes
    stamps := u.stamps, notes := u.notes, hot := { x.hot with held := u.hot.held }, mem := { x.mem with requests := u.mem.requests } }) h)

theorem Books.within {s t : State} (h : Books s t) : WithinPair s t := by
  have e := h.eq
  generalize t.out = a, t.evt = b, t.cnt = c, t.stamps = d, t.notes = f, t.role = g, t.hot.held = k, t.cmd = m, t.spi = n at e
  subst e
  exact rfl

theorem Noted.within {s t : State} (h : Noted s t) : WithinPair s t := h.books.within

theorem WithinPair.outer {s t : State} (h : WithinPair s t) : Outer s t :=
  ⟨(congrArg State.pending h :), (congrArg (fun x => x.hot.powered) h :), (congrArg State.boot h :)⟩

/-- A step of the part's own is within what it computes on a part that is on, and changes nothing on one that is off. -/
theorem WithinPair.live {f : State → State} {s : State} (h : WithinPair s (f s)) : WithinPair s (live f s) := by
  by_cases hon : On s
  · rw [live_on hon, h.outer.keep]
    exact h
  · rw [live_off hon]

theorem WithinPair.next {f : State → State} {s t : State} (h : WithinPair s (f s))
    (ht : (Host.Outcome.next (Machine.live f s) : Host.Outcome State Fault Refusal) = .next t) : WithinPair s t := by
  cases ht
  exact h.live

theorem foldl_within {α : Type} {f : State → α → State} (hf : ∀ s a, WithinPair s (f s a)) (l : List α) : ∀ s, WithinPair s (l.foldl f s) := by
  induction l with
  | nil => exact WithinPair.refl
  | cons a l ih => exact fun s => (hf s a).trans (ih _)

theorem ite_within {p : Prop} [Decidable p] {s t u : State} (h : p → WithinPair s t) (k : ¬ p → WithinPair s u) : WithinPair s (if p then t else u) := by
  split
  · next hp => exact h hp
  · next hp => exact k hp

theorem setPair_within (p : Pair) (s : State) : WithinPair s { s with pair := p } := rfl

theorem setClk_within (c : Clk) (s : State) : WithinPair s { s with clk := c } := rfl

theorem setQueue_within (q : Nat) (v : Queue) (s : State) : WithinPair s (s.setQueue q v) := rfl

theorem setAlloc_within (c : Nat) (v : AllocCtx) (s : State) : WithinPair s (s.setAlloc c v) := rfl

theorem modInst_within (i : Nat) (f : Inst → Inst) (s : State) : WithinPair s (s.modInst i f) := rfl

theorem holdTests_within (s : State) : WithinPair s (holdTests s) := rfl

theorem setPwr_within (p : Pwr) (s : State) : WithinPair s { s with pwr := p } := rfl

theorem advanceTo_within (ps : Nat) (s : State) : WithinPair s (advanceTo ps s) := rfl

theorem setActOut_within (b : Bool) (s : State) : WithinPair s (setActOut b s) := rfl

theorem enterResync_within (s : State) : WithinPair s (enterResync s) := rfl

theorem setHealth_within (k : Nat) (b : Bool) (s : State) : WithinPair s (setHealth k b s) := rfl

theorem stopBulk_within (s : State) : WithinPair s (stopBulk s) := rfl

theorem endLoan_within (s : State) : WithinPair s (endLoan s) := by
  unfold endLoan
  dsimp only
  split <;> exact rfl

theorem itemRow_within {k : Nat} {f : State → State} (hf : ∀ s, WithinPair s (f s)) (s : State) : WithinPair s (itemRow k f s) := by
  unfold itemRow
  split
  · exact .refl s
  · split
    · exact .trans (t := { s with clk := _ }) rfl (hf _)
    · split
      · exact .refl s
      · exact .trans (t := { s with clk := _ }) rfl (hf _)

theorem requestBulk_within (s : State) : WithinPair s (requestBulk s) := by
  unfold requestBulk
  split <;> exact rfl

/-- The bulk copy starts or ends with the partner's state: of the pair and the requests alone. -/
theorem followBulk_within (s : State) : WithinPair s (followBulk s) := by
  unfold followBulk
  split
  · split
    · exact .refl s
    · exact .trans (setPair_within _ s) (requestBulk_within _)
  · split <;> exact rfl

theorem revokeMirror_within (s : State) : WithinPair s (revokeMirror s) := by
  unfold revokeMirror
  split
  · exact .trans (setPair_within _ s) (foldl_within (fun s n => (raise_noted _ _ _ _ s).within) _ _)
  · exact .refl s

theorem startSwitch_within (cause replayPs : Nat) (s : State) : WithinPair s (startSwitch cause replayPs s) :=
  .trans (setPair_within _ s) (sendMirror_noted _ _ _).within

theorem triggerSwitch_within (cause replayPs : Nat) (s : State) : WithinPair s (triggerSwitch cause replayPs s) := by
  unfold triggerSwitch
  split
  · exact startSwitch_within _ _ s
  · exact .refl s

theorem completeRunning_within (op : Nat) (st : Status) (d : Nat) (p : Bytes) (s : State) : WithinPair s (completeRunning op st d p s) :=
  (completeRunning_books op st d p s).within

theorem followLost_within (s : State) : WithinPair s (followLost s) := by
  unfold followLost
  dsimp only
  split
  · exact .refl s
  · split
    · exact .trans (setClk_within _ s) (raise_noted _ _ _ _ _).within
    · exact .trans (setClk_within _ s) (raise_noted _ _ _ _ _).within

theorem wakeShapers_within (l : List Nat) (s : State) : WithinPair s (wakeShapers l s) := by
  have e := wakeShapers_eq l s
  generalize (wakeShapers l s).shapers = x at e
  rw [e]
  exact rfl

theorem returnFrames_within (q : Nat) (fs : List Frame) (s : State) : WithinPair s (returnFrames q fs s) :=
  ite_within (fun _ => .refl s) fun _ =>
    .trans (wakeShapers_within _ s) (.trans (noteWaiting_noted _ _).within (setQueue_within _ _ _))

theorem fireWake_within (cause : Nat) (s : State) : WithinPair s (fireWake cause s) := by
  unfold fireWake
  dsimp only
  repeat' split
  all_goals exact rfl

/-! ## Digests and health -/

theorem execDigestExchange_within (s : State) : WithinPair s (execDigestExchange s) := by
  unfold execDigestExchange
  dsimp only
  split
  · exact .refl s
  · refine itemRow_within (fun s => ?_) s
    split
    · exact .trans (sendMirror_noted _ _ s).within (sendMirror_noted _ _ _).within
    · exact .refl s

theorem resyncDone_within (s : State) : WithinPair s (resyncDone s) :=
  .trans (setPair_within _ s) (.trans (raise_noted _ _ _ _ _).within (completeRunning_within _ _ _ _ _))

theorem attemptFailed_within (s : State) : WithinPair s (attemptFailed s) := by
  unfold attemptFailed
  split
  · exact rfl
  · exact .trans (setPair_within _ s) (raise_noted _ _ _ _ _).within

theorem compared_within (same : Bool) (s : State) : WithinPair s (compared same s) :=
  ite_within (fun _ => .trans (setPair_within _ s) (ite_within (fun _ => resyncDone_within _) fun _ => .refl _))
    fun _ => .trans (count_books .digestMismatch 0 s).within (.trans (setPair_within _ _) (ite_within (fun _ => attemptFailed_within _)
      fun _ => ite_within (fun _ => .trans (raise_noted _ _ _ _ _).within (enterResync_within _)) fun _ => .refl _))

theorem execMDigestRx_within (half : Bool) (tag : Nat) (w : Word) (s : State) : WithinPair s (execMDigestRx half tag w s) := by
  unfold execMDigestRx
  dsimp only
  split
  · exact .refl s
  · split
    · exact rfl
    · split
      · exact .refl s
      · split
        · exact rfl
        · split
          · exact rfl
          · split
            · exact .trans (setPair_within _ s) (compared_within _ _)
            · exact rfl

theorem judgePartner_within (s : State) : WithinPair s (judgePartner s) := by
  unfold judgePartner
  split
  · exact rfl
  · exact revokeMirror_within s

theorem checkSf_within (s : State) : WithinPair s (checkSf s) := by
  unfold checkSf
  dsimp only
  split
  · exact triggerSwitch_within _ _ s
  · exact .refl s

theorem checkHealth_within (s : State) : WithinPair s (checkHealth s) := by
  unfold checkHealth
  split
  · exact .refl s
  · exact triggerSwitch_within _ _ s

theorem execMHealthRx_within (half : Nat) (sf o5 : BitVec 4) (st : Nat) (s : State) : WithinPair s (execMHealthRx half sf o5 st s) := by
  unfold execMHealthRx
  split
  · exact .refl s
  · exact .trans (setPair_within _ s) (.trans (judgePartner_within _) (.trans (checkSf_within _)
      (.trans (checkHealth_within _) (followBulk_within _))))

theorem execStandbyHealthTest_within (l : Bool) (m : BitVec 4) (s : State) : WithinPair s (execStandbyHealthTest l m s) := by
  unfold execStandbyHealthTest noteLaneFault
  dsimp only
  repeat' split
  all_goals exact rfl

/-! ## The light and loans -/

theorem execActInChange_within (b : Bool) (s : State) : WithinPair s (execActInChange b s) :=
  ite_within (fun _ => .refl s) fun _ => ite_within (fun _ => setPair_within _ s) fun _ => .trans (setPair_within _ s)
    (ite_within (fun _ => .refl _) fun _ => ite_within
      (fun _ => ite_within (fun _ => .trans (setActOut_within _ _) (ite_within (fun _ => enterResync_within _) fun _ => endLoan_within _))
        fun _ => .refl _)
      fun _ => ite_within (fun _ => .trans (setPair_within _ _) (enterResync_within _)) fun _ => .refl _)

/-- ACT_OUT# asserts and no loan is open: a device that enables pairing becomes the active (15 R359, R360). -/
def lightTaken (s : State) : State :=
  { s with pair := { s.pair with
    claiming := false, loan := none, claimDetail := none, actOut := true, actOutPs := s.clk.nowPs
    state := if s.pair.state = 0 then 1 else s.pair.state } }

/-- The end of the light's claim: a new active reports its switchover (15 R369). -/
def takeLight (s : State) : State :=
  let detail := s.pair.claimDetail
  let s := setActOut true { s with pair := { s.pair with claiming := false, loan := none, claimDetail := none } }
  let s : State := if s.pair.state = 0 then { s with pair := { s.pair with state := 1 } } else s
  match detail with
  | some d => raise .pairSwitchover 0 0 d s
  | none => s

theorem alone_to_active (v : State) : (if v.pair.state = 0 then { v with pair := { v.pair with state := 1 } } else v) =
    { v with pair := { v.pair with state := if v.pair.state = 0 then 1 else v.pair.state } } := by
  split <;> rfl

theorem takeLight_noted (s : State) : Noted (lightTaken s) (takeLight s) := by
  unfold takeLight
  dsimp only
  rw [alone_to_active]
  split
  · exact raise_noted _ _ _ _ (lightTaken s)
  · exact .refl (lightTaken s)

/-- A device waits to claim light while ACT_IN# is deasserted: at the claim's instant it takes it, in quiesce and under FATAL# it does not. -/
theorem execActOutClaim_claims {s u : State} (he : s.pair.enable = true) (hc : s.pair.claiming = true) (hi : s.pair.actIn = false)
    (hu : u = advanceTo (max s.pair.actInOffPs (match s.pair.loan with | some l => l.endPs | none => 0) + 2000000) s) :
    execActOutClaim s = if quiesceNow u || u.fatal.asserted then u else takeLight u := by
  subst hu
  exact if_neg (by simp [he, hc, hi])

theorem execActOutClaim_within (s : State) : WithinPair s (execActOutClaim s) :=
  ite_within (fun _ => .refl s) fun _ => .trans (advanceTo_within _ s) (ite_within (fun _ => .refl _) fun _ =>
    .trans (setPair_within _ _) (takeLight_noted _).within)

theorem execMLoanReqRx_within (i tag ns len id : Nat) (s : State) : WithinPair s (execMLoanReqRx i tag ns len id s) := by
  unfold execMLoanReqRx
  dsimp only
  split
  · exact .refl s
  · split
    · exact .trans (setPair_within _ s) (sendMirror_noted _ _ _).within
    · exact (sendMirror_noted _ _ _).within

theorem execMLoanAckRx_within (id : Nat) (b : Bool) (s : State) : WithinPair s (execMLoanAckRx id b s) := by
  unfold execMLoanAckRx
  repeat' split
  all_goals exact rfl

theorem execLoanActRelease_within (s : State) : WithinPair s (execLoanActRelease s) := by
  unfold execLoanActRelease
  repeat' split
  all_goals exact rfl

theorem execLoanActClaim_within (s : State) : WithinPair s (execLoanActClaim s) := by
  unfold execLoanActClaim
  dsimp only
  repeat' split
  all_goals exact rfl

/-! ## The switchover and resynchronisation -/

theorem takeMSwitch_within (tag ns rtag rns cause : Nat) (s : State) : WithinPair s (takeMSwitch tag ns rtag rns cause s) := by
  unfold takeMSwitch
  dsimp only
  split
  · exact .refl s
  · split
    · exact .trans (endLoan_within s) (setPair_within _ _)
    · exact rfl

theorem execMLaunchRx_within (i n : Nat) (b : Bool) (s : State) : WithinPair s (execMLaunchRx i n b s) := by
  unfold execMLaunchRx
  dsimp only
  split
  · exact .refl s
  · split
    · exact rfl
    · exact .trans (setPair_within _ s) (foldl_within (fun _ _ => returnFrames_within _ _ _) _ _)

theorem replay_within (w : Switch) (s : State) : WithinPair s (replay w s) :=
  .trans (foldl_within (fun _ _ => .trans (ite_within (fun _ => setAlloc_within _ _ _) fun _ => .refl _) (returnFrames_within _ _ _)) _ s)
    (setPair_within _ _)

theorem endShadows_within (s : State) : WithinPair s (endShadows s) :=
  .trans (foldl_within (fun _ _ => modInst_within _ _ _) (List.range 4) s) (setPair_within _ _)

theorem takeOver_within (w : Switch) (s : State) : WithinPair s (takeOver w s) :=
  .trans (holdTests_within s) (.trans (replay_within w _) (.trans (endShadows_within _) (.trans (setPair_within _ _)
    (.trans (completeRunning_within _ _ _ _ _) (followLost_within _)))))

theorem execSwitchoverAtSwitch_within (eject : Bool) (s : State) : WithinPair s (execSwitchoverAtSwitch eject s) := by
  unfold execSwitchoverAtSwitch
  split
  · exact .refl s
  · refine ite_within (fun _ => .refl s) fun _ => .trans (advanceTo_within _ s) (.trans (setPair_within _ _)
      (ite_within (fun _ => ?_) fun _ => ite_within (fun _ => ?_) fun _ => .refl _))
    · exact .trans (setPair_within _ _) (.trans (enterResync_within _) (WithinPair.trans
        (ite_within (fun _ => setActOut_within _ _) fun _ => .refl _) (completeRunning_within _ _ _ _ _)))
    · exact ite_within (fun _ => setPair_within _ _) fun _ => takeOver_within _ _

theorem execPartnerGone_within (met : Option MSwitch) (eject : Bool) (s : State) : WithinPair s (execPartnerGone met eject s) := by
  unfold execPartnerGone
  refine ite_within (fun _ => ?_) fun _ => .refl s
  generalize max s.pair.actInOffPs s.pair.actOutPs + 20000000 = ps
  refine .trans (advanceTo_within ps s) ?_
  dsimp only
  split
  · exact takeMSwitch_within _ _ _ _ _ _
  · exact .trans (setPair_within _ _) (.trans (revokeMirror_within _) (.trans (setPair_within _ _) (takeOver_within _ _)))

theorem execResyncPassEnd_within (left : Nat) (s : State) : WithinPair s (execResyncPassEnd left s) :=
  ite_within (fun _ => .trans (setPair_within _ s) (WithinPair.trans (ite_within (fun _ => requestBulk_within _) fun _ => .refl _)
    (ite_within (fun _ => setPair_within _ _) fun _ => .refl _))) fun _ => .refl s

theorem execMirrorLinkLoss_within (s : State) : WithinPair s (execMirrorLinkLoss s) := by
  obtain ⟨u, hu⟩ : ∃ u, u = setHealth 4 false { (if (mirrorLane s).isNone then s else advanceTo (s.pair.helloPs + 256000000) s) with
    pair := { (if (mirrorLane s).isNone then s else advanceTo (s.pair.helloPs + 256000000) s).pair with
      mirrorUp := false, helloAck := false, helloPs := 0, low := none } } := ⟨_, rfl⟩
  have hsu : WithinPair s u := by
    rw [hu]
    split <;> exact rfl
  have hv : WithinPair s (revokeMirror (stopBulk u)) := hsu.trans (.trans (stopBulk_within u) (revokeMirror_within _))
  unfold execMirrorLinkLoss
  dsimp only
  rw [← hu]
  split
  · exact .refl s
  · split
    · split
      · exact hv.trans (.trans (followLost_within _) (setPair_within _ _))
      · exact hv.trans (followLost_within _)
    · exact hv

/-! ## Sleep -/

theorem sendEidle_books (n : Nat) (k : Nat) : ∀ s, Books s (sendEidle n k s) := by
  induction k with
  | zero => exact Books.refl
  | succ k ih => exact fun s => (emit_books _ s).trans (ih _)

theorem modLane_within (n : Nat) (f : Lane → Lane) (s : State) : WithinPair s (s.modLane n f) := rfl

theorem idleDone_within (n : Nat) (s : State) : WithinPair s (idleDone n s) := (completeRunningAt_books _ _ _ _ s).within

theorem settleIdle_within (n : Nat) (s : State) : WithinPair s (settleIdle n s) := by
  have hstop (t : Nat) (f : Lane → Lane) (u : State) : WithinPair u (if u.clk.nowPs < t then u else idleDone n (u.modLane n f)) :=
    ite_within (fun _ => .refl u) fun _ => .trans (modLane_within n f u) (idleDone_within n _)
  have hburst (f : Lane → Lane) (u : State) : WithinPair s u → WithinPair s
      (match (s.lane n).burstEnd with
      | some t => if u.clk.nowPs < t then u else idleDone n (u.modLane n f)
      | none => u) := by
    intro hu
    split
    · exact hu.trans (hstop _ f u)
    · exact hu
  unfold settleIdle
  refine hburst _ _ ?_
  split
  · exact ite_within (fun _ => .refl s) fun _ =>
      .trans (sendEidle_books n 16 s).within (.trans (modLane_within n _ _) (idleDone_within n _))
  · exact .refl s

/-- Where an entry to sleep is abandoned, a lane leaves idle without a training burst (16 R378). -/
theorem requestWake_within (n : Nat) (s : State) : WithinPair s (requestWake false n s) := by
  have hdone (k : Nat) (f : Lane → Lane) (u : State) : WithinPair u (idleDone n ((sendEidle n k u).modLane n f)) :=
    .trans (sendEidle_books n k u).within (.trans (modLane_within n f _) (idleDone_within n _))
  unfold requestWake
  refine .trans (settleIdle_within n s) (.trans (modLane_within n (fun x => { x with exitClock := clockNo (settleIdle n s) }) _) ?_)
  dsimp only
  split
  · exact hdone _ _ _
  · refine ite_within (fun _ => .trans (modLane_within n _ _) (idleDone_within n _)) fun h => ?_
    rw [Bool.not_false, Bool.and_true] at h
    rw [if_neg h]

theorem abandonSleep_within (cause : Nat) (s : State) : WithinPair s (abandonSleep 0 cause s) :=
  .trans (foldl_within (fun s l => requestWake_within l s) s.pwr.idled s)
    (.trans (setPwr_within _ _) (.trans (count_books _ _ _).within (raise_noted _ _ _ _ _).within))

theorem execSleepEntryStart_within (s : State) : WithinPair s (execSleepEntryStart s) := by
  unfold execSleepEntryStart abortPoint
  dsimp only
  split
  · split
    · exact .trans (setPwr_within _ s) (abandonSleep_within _ _)
    · exact rfl
  · exact .refl s

theorem execSleepIndicationTimeout_within (s : State) : WithinPair s (execSleepIndicationTimeout s) := by
  unfold execSleepIndicationTimeout
  split
  · exact .trans (setPwr_within _ s) (count_books _ _ _).within
  · exact .refl s

theorem execSleepSampleStart_within (s : State) : WithinPair s (execSleepSampleStart s) := by
  unfold execSleepSampleStart
  dsimp only
  split
  · exact .trans (t := { s with clk := _, pwr := _ }) rfl (count_books _ _ _).within
  · exact .refl s

theorem execSleepSampleEnd_within (s : State) : WithinPair s (execSleepSampleEnd s) := by
  unfold execSleepSampleEnd
  split <;> exact rfl

theorem execWakeEvent_within (cause : Nat) (s : State) : WithinPair s (execWakeEvent cause s) := by
  unfold execWakeEvent
  split
  · exact fireWake_within cause s
  · exact .refl s

theorem execPwrWake_within (p : Path) (v : Word) (s : State) : WithinPair s (if pathUp p s then execPwrWake p v s else s) := by
  unfold execPwrWake
  split
  · split
    · exact fireWake_within 8 s
    · exact .refl s
  · exact .refl s

/-- Settles O9: each row is a step of the part's own, and what each operation of the pair and of sleep reaches is within the frame. -/
theorem pairAndSleepRowsFrame : Obligations.PairAndSleepRowsFrame := by
  unfold Obligations.PairAndSleepRowsFrame
  intro i s t hi ht
  show WithinPair s t
  cases i
  case digestExchange => exact (execDigestExchange_within s).next ht
  case mDigestRx => exact (execMDigestRx_within _ _ _ s).next ht
  case mLaunchRx => exact (execMLaunchRx_within _ _ _ s).next ht
  case mLoanReqRx => exact (execMLoanReqRx_within _ _ _ _ _ s).next ht
  case mLoanAckRx => exact (execMLoanAckRx_within _ _ s).next ht
  case loanActRelease => exact (execLoanActRelease_within s).next ht
  case loanActClaim => exact (execLoanActClaim_within s).next ht
  case mHealthRx => exact (execMHealthRx_within _ _ _ _ s).next ht
  case mSwitchRx => exact (takeMSwitch_within _ _ _ _ _ s).next ht
  case switchoverAtSwitch => exact (execSwitchoverAtSwitch_within _ s).next ht
  case partnerGone => exact (execPartnerGone_within _ _ s).next ht
  case actInChange => exact (execActInChange_within _ s).next ht
  case actOutClaim => exact (execActOutClaim_within s).next ht
  case resyncPassEnd => exact (execResyncPassEnd_within _ s).next ht
  case mirrorLinkLoss => exact (execMirrorLinkLoss_within s).next ht
  case standbyHealthTest => exact (execStandbyHealthTest_within _ _ s).next ht
  case sleepEntryStart => exact (execSleepEntryStart_within s).next ht
  case sleepIndicationTimeout => exact (execSleepIndicationTimeout_within s).next ht
  case sleepSampleStart => exact (execSleepSampleStart_within s).next ht
  case sleepSampleEnd => exact (execSleepSampleEnd_within s).next ht
  case wakeEvent => exact (execWakeEvent_within _ s).next ht
  case pwrWake p v => exact WithinPair.next (f := fun s => if pathUp p s then execPwrWake p v s else s) (execPwrWake_within p v s) ht
  all_goals exact Bool.noConfusion hi

end Sys2Proof.Machine
end

section
/-!
PROOFS. The light, loans, digests, health and the standby's tests (15 R359–R368).
-/

namespace Sys2Proof.Machine

/-- A row of the pair or of sleep answers what it computes on a part that is on. -/
theorem WithinPair.completes {f : State → State} {s : State} {P : State → Prop} (h : WithinPair s (f s)) (hon : On s) (hP : P (f s)) :
    ∃ t, (Host.Outcome.next (Machine.live f s) : Host.Outcome State Fault Refusal) = .next t ∧ P t :=
  live_completes hon (f s) rfl h.outer hP

theorem WithinPair.answers {f : State → State} {s t : State} (h : WithinPair s (f s)) (hon : On s) (hf : f s = t) :
    (Host.Outcome.next (Machine.live f s) : Host.Outcome State Fault Refusal) = .next t :=
  congrArg Host.Outcome.next (live_eq hon hf (hf ▸ h.outer))

theorem pairStandby_iff {s : State} : pairStandby s = true ↔ s.pair.enable = true ∧ 2 ≤ s.pair.state := by
  simp only [pairStandby, Bool.and_eq_true, decide_eq_true_eq]

theorem pairActive_iff {s : State} : pairActive s = true ↔ s.pair.enable = true ∧ s.pair.state = 1 := by
  simp only [pairActive, Bool.and_eq_true, decide_eq_true_eq]

theorem pairActive_of_standby {s : State} (h : pairStandby s = true) : pairActive s = false := by
  obtain ⟨-, hst⟩ := pairStandby_iff.1 h
  have hne : s.pair.state ≠ 1 := by omega
  simp only [pairActive, hne, decide_false, Bool.and_false]

theorem pairActive_of_pair {s t : State} (h : t.pair = s.pair) : pairActive t = pairActive s := by simp only [pairActive, h]

/-! ## What a compared digest does in STANDBY_IN_STEP (R364) -/

theorem compared_same {u : State} (h : u.pair.state = 3) : compared true u =
    { u with pair := { u.pair with mismatchRun := 0, matchRun := u.pair.matchRun + 1 } } :=
  (if_pos rfl).trans (if_neg (by simp [h]))

theorem compared_differs {u : State} (h : u.pair.state = 3) :
    (compared false u).pair.state = (if 2 ≤ u.pair.mismatchRun then 2 else 3) ∧ (compared false u).pair.matchRun = 0 := by
  have hp : (count .digestMismatch 0 u).pair = u.pair := (count_books _ _ _).pair
  obtain ⟨w, hw⟩ : ∃ w : State, w = { count .digestMismatch 0 u with pair := { (count .digestMismatch 0 u).pair with
    mismatchRun := min 255 ((count .digestMismatch 0 u).pair.mismatchRun + 1), matchRun := 0 } } := ⟨_, rfl⟩
  have hstate : w.pair.state = 3 := by
    rw [hw, hp]
    exact h
  have hruns : w.pair.mismatchRun = min 255 (u.pair.mismatchRun + 1) := by rw [hw, hp]
  have hf : compared false u = if w.pair.state = 2 && w.pair.matching then attemptFailed w
      else if w.pair.state = 3 && decide (3 ≤ w.pair.mismatchRun) then enterResync (raise .pairDiverged 0 0 0 w) else w := by
    rw [hw]
    exact if_neg Bool.false_ne_true
  rw [if_neg (by simp [hstate])] at hf
  by_cases hrun : 2 ≤ u.pair.mismatchRun
  · have hthird : 3 ≤ w.pair.mismatchRun := by omega
    rw [hf, if_pos hrun, if_pos (by simp [hstate, hthird])]
    exact ⟨rfl, rfl⟩
  · have hthird : ¬ 3 ≤ w.pair.mismatchRun := by omega
    rw [hf, if_neg hrun, if_neg (by simp [hthird])]
    exact ⟨hstate, by rw [hw]⟩

/-! ## The light (R359, R360) -/

/-- ACT_IN# asserts: what follows is decided on the state that notes it. -/
theorem execActInChange_asserts {s : State} (hi : s.pair.actIn = false) : execActInChange true s =
    let s : State := { s with pair := { s.pair with actIn := true } }
    if !s.pair.enable then s
    else if s.pair.actOut then
      if decide (s.clk.nowPs ≤ s.pair.actOutPs + 2000000) && decide (s.pair.partnerSlot < s.dev.slotId.toNat) then
        let s := setActOut false s
        if s.pair.state = 1 then enterResync s else endLoan s
      else s
    else if s.pair.state = 0 then enterResync { s with pair := { s.pair with claiming := false } }
    else s :=
  (if_neg (by simp [hi])).trans (if_neg (by simp))

/-- The active grants a loan that lies far enough ahead, with no loan and no switchover open and no own burst in its time; else it refuses
it. -/
theorem execMLoanReqRx_active {s : State} (i id : Nat) {tag ns len l e : Nat} (ha : pairActive s = true) (hl : l = psOfTag tag ns s)
    (he : e = l + len * 1000) : execMLoanReqRx i tag ns len id s =
      if s.clk.nowPs + 13500000 ≤ l ∧ s.pair.loan = none ∧ s.pair.switch = none ∧ burstIn (l - 3500000) (e + 2200000) s = false then
        sendMirror 0x8C (id + 256)
          { s with pair := { s.pair with loan := some { id, inst := i, atPs := l, endPs := e, granted := true } } }
      else sendMirror 0x8C id s := by
  obtain ⟨ok, hok⟩ : ∃ ok, ok = (decide (s.clk.nowPs + 10000000 + 3500000 ≤ l) && s.pair.loan.isNone && s.pair.switch.isNone &&
    !burstIn (l - 3500000) (e + 2200000) s) := ⟨_, rfl⟩
  have hf : execMLoanReqRx i tag ns len id s = sendMirror 0x8C (id + b2n ok * 2 ^ 8)
      (if ok then { s with pair := { s.pair with loan := some { id, inst := i, atPs := l, endPs := e, granted := true } } } else s) := by
    subst hok he hl
    rw [execMLoanReqRx, ha]
    exact if_neg (by decide)
  have hgrants : ok = true ↔ s.clk.nowPs + 13500000 ≤ l ∧ s.pair.loan = none ∧ s.pair.switch = none ∧
      burstIn (l - 3500000) (e + 2200000) s = false := by
    have hfar : s.clk.nowPs + 10000000 + 3500000 ≤ l ↔ s.clk.nowPs + 13500000 ≤ l := by omega
    refine Iff.trans ?_ (and_congr_left' hfar)
    rw [hok, Bool.and_eq_true, Bool.and_eq_true, Bool.and_eq_true, decide_eq_true_iff, Option.isNone_iff_eq_none,
      Option.isNone_iff_eq_none, Bool.not_eq_true', and_assoc, and_assoc]
  split
  · next h =>
    rw [hf, hgrants.2 h]
    rfl
  · next h =>
    rw [hf, Bool.eq_false_iff.2 (mt hgrants.1 h)]
    rfl

section
variable {s : State} (hon : On s)
include hon

theorem actInChange_deasserts (hi : s.pair.actIn = true) :
    exec (.actInChange false) s = .next { s with pair := { s.pair with actIn := false, actInOffPs := s.clk.nowPs } } :=
  (execActInChange_within false s).answers hon ((if_neg (by simp [hi])).trans (if_pos rfl))

theorem actInChange_noted (hi : s.pair.actIn = false) (he : s.pair.enable = false) :
    exec (.actInChange true) s = .next { s with pair := { s.pair with actIn := true } } :=
  (execActInChange_within true s).answers hon ((execActInChange_asserts hi).trans (if_pos (by simp [he])))

theorem actInChange_contested (hi : s.pair.actIn = false) (he : s.pair.enable = true) (ho : s.pair.actOut = true) (hst : s.pair.state = 1)
    (hn : s.clk.nowPs ≤ s.pair.actOutPs + 2000000) :
    (s.pair.partnerSlot < s.dev.slotId.toNat → Completes (.actInChange true) s fun t =>
      t.pair.actIn = true ∧ t.pair.actOut = false ∧ t.pair.state = 2) ∧
    (s.dev.slotId.toNat ≤ s.pair.partnerSlot → exec (.actInChange true) s = .next { s with pair := { s.pair with actIn := true } }) := by
  have hlit := (execActInChange_asserts hi).trans ((if_neg (by simp [he])).trans (if_pos ho))
  constructor
  · intro hslot
    refine (execActInChange_within true s).completes hon ?_
    rw [hlit, if_pos (by simp [hn, hslot])]
    exact (congrArg (fun t : State => t.pair.actIn = true ∧ t.pair.actOut = false ∧ t.pair.state = 2) (if_pos hst)).mpr ⟨rfl, rfl, rfl⟩
  · exact fun hslot => (execActInChange_within true s).answers hon (hlit.trans (if_neg (by simp [hslot])))

theorem actInChange_waiting (hi : s.pair.actIn = false) (he : s.pair.enable = true) (ho : s.pair.actOut = false) (hst : s.pair.state = 0) :
    Completes (.actInChange true) s fun t => t.pair.actIn = true ∧ t.pair.claiming = false ∧ t.pair.state = 2 := by
  refine (execActInChange_within true s).completes hon ?_
  rw [execActInChange_asserts hi, if_neg (by simp [he]), if_neg (by simp [ho]), if_pos hst]
  exact ⟨rfl, rfl, rfl⟩

theorem actOutClaim_takes (he : s.pair.enable = true) (hc : s.pair.claiming = true) (hi : s.pair.actIn = false) (hl : s.pair.loan = none)
    (hq : quiesceNow (advanceTo (s.pair.actInOffPs + 2000000) s) = false) (hf : s.fatal.asserted = false) :
    Completes .actOutClaim s fun t => t.pair.actOut = true ∧ t.pair.claiming = false ∧
      t.pair.state = (if s.pair.state = 0 then 1 else s.pair.state) ∧ t.clk.nowPs = max s.clk.nowPs (s.pair.actInOffPs + 2000000) := by
  obtain ⟨u, hu⟩ : ∃ u, u = advanceTo (s.pair.actInOffPs + 2000000) s := ⟨_, rfl⟩
  have hf' : execActOutClaim s = takeLight u := by
    rw [execActOutClaim_claims he hc hi (u := u) (by rw [hu, hl, Nat.max_zero]), hu, hq]
    exact if_neg (by rw [Bool.false_or]; exact (hf ▸ Bool.false_ne_true))
  have hbooks := (takeLight_noted u).books
  refine (execActOutClaim_within s).completes hon ?_
  rw [hf', hbooks.pair, hbooks.clk, hu]
  exact ⟨rfl, rfl, rfl, rfl⟩

/-! ## Loans (R360) -/

theorem mLoanReqRx_answers (i : Fin 4) (tag : Fin 8) (ns : BitVec 17) (len : BitVec 20) (id : Byte) {l e : Nat} (ha : pairActive s = true)
    (hl : l = psOfTag tag ns.toNat s) (he : e = l + len.toNat * 1000) :
    (s.pair.loan = none → s.pair.switch = none → s.clk.nowPs + 13500000 ≤ l → burstIn (l - 3500000) (e + 2200000) s = false →
      exec (.mLoanReqRx i tag ns len id) s = .next (sendMirror 0x8C (id.toNat + 256)
        { s with pair := { s.pair with loan := some { id := id.toNat, inst := i, atPs := l, endPs := e, granted := true } } })) ∧
    (s.pair.loan ≠ none ∨ s.pair.switch ≠ none ∨ l < s.clk.nowPs + 13500000 →
      exec (.mLoanReqRx i tag ns len id) s = .next (sendMirror 0x8C id.toNat s)) := by
  have hw := execMLoanReqRx_within i.val tag.val ns.toNat len.toNat id.toNat s
  have hlit := execMLoanReqRx_active i.val id.toNat ha hl he
  constructor
  · intro hloan hswitch hfar hdark
    exact hw.answers hon (hlit.trans (if_pos ⟨hfar, hloan, hswitch, hdark⟩))
  · intro hno
    refine hw.answers hon (hlit.trans (if_neg ?_))
    rintro ⟨hfar, hloan, hswitch, -⟩
    rcases hno with h | h | h
    · exact h hloan
    · exact h hswitch
    · omega

theorem mLoanAckRx_taken {l : Loan} (hl : s.pair.loan = some l) (id : Byte) (granted : Bool) (hst : pairStandby s = true)
    (hid : l.id = id.toNat) : exec (.mLoanAckRx id granted) s = .next
      { s with pair := { s.pair with loan := if granted then some { l with granted := true } else none } } := by
  refine (execMLoanAckRx_within id.toNat granted s).answers hon ?_
  simp only [execMLoanAckRx, hl]
  exact if_pos (by simp [hst, hid])

theorem loanActRelease_dark {l : Loan} (hl : s.pair.loan = some l) (ha : pairActive s = true) (ho : s.pair.actOut = true) :
    Completes .loanActRelease s fun t =>
      t.pair.actOut = false ∧ t.pair.claiming = true ∧ t.clk.nowPs = max s.clk.nowPs (l.atPs - 3500000) := by
  refine (execLoanActRelease_within s).completes hon ?_
  have hf : execLoanActRelease s =
      { setActOut false (advanceTo (l.atPs - 3500000) s) with
        pair := { (setActOut false (advanceTo (l.atPs - 3500000) s)).pair with claiming := true } } := by
    simp only [execLoanActRelease, hl]
    exact if_pos (by simp [ha, ho])
  rw [hf]
  exact ⟨rfl, rfl, rfl⟩

theorem loanActClaim_lit {l : Loan} (hl : s.pair.loan = some l) (hst : pairStandby s = true) (hg : l.granted = true)
    (ho : s.pair.actOut = false) (hi : s.pair.actIn = false) (hquiet : s.pair.actInOffPs + 2000000 ≤ max s.clk.nowPs (l.atPs - 1200000))
    (hburst : ∃ e ∈ (s.inst l.inst).sched, e.shadow = false ∧ e.atPs = l.atPs) : Completes .loanActClaim s fun t =>
      t.pair.actOut = true ∧ t.clk.nowPs = max s.clk.nowPs (l.atPs - 1200000) ∧ t.pair.loan = some l := by
  refine (execLoanActClaim_within s).completes hon ?_
  have hany : (s.inst l.inst).sched.any (fun e => !e.shadow && decide (e.atPs = l.atPs)) = true := by
    simpa only [List.any_eq_true, Bool.and_eq_true, Bool.not_eq_true', decide_eq_true_eq] using hburst
  have hlight : actInQuiet (advanceTo (l.atPs - 1200000) s) = true := by
    rw [advanceTo_eq]
    simp only [actInQuiet, hi, hquiet, Bool.not_false, decide_true, Bool.and_self]
  have hf : execLoanActClaim s = setActOut true (advanceTo (l.atPs - 1200000) s) := by
    simp only [execLoanActClaim, hl, hst, hg, ho, hany, hlight, Bool.not_false, Bool.and_self, if_true]
  rw [hf]
  exact ⟨rfl, rfl, hl⟩

/-! ## Digests (R364) -/

theorem digestExchange_sends {d : BitVec 64} (he : s.pair.enable = true) (hdue : Due 11 s)
    (hd : s.pair.digests.find? (fun x => decide (x.1 = s.clk.tick)) = some (s.clk.tick, d)) : exec .digestExchange s = .next
      (sendMirror 0x87 (s.clk.tick.toNat % 256 + 256 + d.toNat / 2 ^ 32 * 2 ^ 16)
        (sendMirror 0x87 (s.clk.tick.toNat % 256 + d.toNat % 2 ^ 32 * 2 ^ 16) (worked 11 s))) := by
  have hd' : (worked 11 s).pair.digests.find? (fun x => decide (x.1 = s.clk.tick)) = some (s.clk.tick, d) := hd
  refine (execDigestExchange_within s).answers hon ?_
  simp only [execDigestExchange, he, Bool.not_true, Bool.false_eq_true, if_false, hdue.itemTick, hdue.runs, hd', Nat.zero_mul, Nat.add_zero,
    Nat.one_mul, Nat.reducePow]

theorem mDigestRx_low (tag : Byte) (w : Word) (he : s.pair.enable = true) : exec (.mDigestRx false tag w) s = .next
    { s with pair := { s.pair with low := some (tickOfTag tag.toNat s, w) } } := by
  refine (execMDigestRx_within false tag.toNat w s).answers hon ?_
  simp only [execMDigestRx, he, Bool.not_true, Bool.not_false, Bool.false_eq_true, if_false, if_true]

theorem mDigestRx_compares (tag : Byte) {w lo : Word} {d : BitVec 64} (he : s.pair.enable = true) (hs : s.pair.switch = none)
    (hst : s.pair.state = 3) (hlow : s.pair.low = some (tickOfTag tag.toNat s, lo))
    (hd : s.pair.digests.find? (fun x => decide (x.1 = tickOfTag tag.toNat s)) = some (tickOfTag tag.toNat s, d)) :
    (d = w ++ lo → Completes (.mDigestRx true tag w) s fun t =>
      t.pair.mismatchRun = 0 ∧ t.pair.matchRun = s.pair.matchRun + 1 ∧ t.pair.state = 3) ∧
    (d ≠ w ++ lo → Completes (.mDigestRx true tag w) s fun t =>
      t.pair.state = (if 2 ≤ s.pair.mismatchRun then 2 else 3) ∧ t.pair.matchRun = 0) := by
  obtain ⟨u, hu⟩ : ∃ u : State, u = { s with pair := { s.pair with
    low := none, lastDigestPs := s.clk.t0Ps - (s.clk.tick - tickOfTag tag.toNat s).toNat * tickPs } } := ⟨_, rfl⟩
  have hf : execMDigestRx true tag.toNat w s = compared (decide (d = w ++ lo)) u := by
    rw [hu]
    simp only [execMDigestRx, he, hlow, hs, hd, Bool.not_true, Bool.false_eq_true, if_false, ne_eq, not_true, Option.isSome_none]
  have hus : u.pair.state = 3 := by rw [hu]; exact hst
  have hw := execMDigestRx_within true tag.toNat w s
  constructor
  · intro heq
    refine hw.completes hon ?_
    rw [hf, decide_eq_true heq, compared_same hus, hu]
    exact ⟨rfl, rfl, hst⟩
  · intro hne
    refine hw.completes hon ?_
    rw [hf, decide_eq_false hne]
    obtain ⟨h1, h2⟩ := compared_differs hus
    exact ⟨h1.trans (by rw [hu]), h2⟩

end

/-! ## Health (R367, R368) -/

theorem triggerSwitch_standby {s : State} (h : pairStandby s = true) (cause replayPs : Nat) : triggerSwitch cause replayPs s = s := by
  simp only [triggerSwitch, pairActive_of_standby h, Bool.false_and, Bool.false_eq_true, if_false]

theorem checkSf_standby {s : State} (h : pairStandby s = true) : checkSf s = s := by
  simp only [checkSf, triggerSwitch_standby h, ite_self]

theorem checkHealth_standby {s : State} (h : pairStandby s = true) : checkHealth s = s := by
  simp only [checkHealth, triggerSwitch_standby h, ite_self]

theorem followBulk_standby {s : State} (h : pairStandby s = true) (hb : s.pair.bulkAt = none) : followBulk s = s := by
  simp only [followBulk, pairActive_of_standby h, hb, Option.isSome_none, Bool.false_and, Bool.false_eq_true, if_false]

/-- The holds end, each with its record (01 Table 1.4). -/
theorem revokeMirror_books (s : State) : Books { s with pair := { s.pair with partnerHolds := false } } (revokeMirror s) := by
  unfold revokeMirror
  split
  · exact foldl_books _ (fun s n => raise_books _ _ _ _ s) _ _
  · next h =>
    rw [← Bool.eq_false_iff.2 h]

/-- On a standby M_HEALTH is kept and judged, and triggers nothing (R368). -/
theorem execMHealthRx_standby {s : State} (half : BitVec 16) (sf o5 : BitVec 4) (st : Nat) (h : pairStandby s = true)
    (hb : s.pair.bulkAt = none) : execMHealthRx half.toNat sf o5 st s = judgePartner { s with pair := { s.pair with
      partner := half, partnerSf := sf, partnerO5 := o5, partnerState := st } } := by
  obtain ⟨he, -⟩ := pairStandby_iff.1 h
  obtain ⟨u, hu⟩ : ∃ u : State, u = judgePartner { s with pair := { s.pair with
    partner := half, partnerSf := sf, partnerO5 := o5, partnerState := st } } := ⟨_, rfl⟩
  have hjudged (v : State) : (judgePartner v).pair.enable = v.pair.enable ∧ (judgePartner v).pair.state = v.pair.state ∧
      (judgePartner v).pair.bulkAt = v.pair.bulkAt := by
    unfold judgePartner
    split
    · exact ⟨rfl, rfl, rfl⟩
    · rw [(revokeMirror_books v).pair]
      exact ⟨rfl, rfl, rfl⟩
  obtain ⟨hue, hus, hub⟩ := hu ▸ hjudged _
  have husb : pairStandby u = true := by rw [pairStandby, hue, hus]; exact h
  have hrest : followBulk (checkHealth (checkSf u)) = u := by
    rw [checkSf_standby husb, checkHealth_standby husb, followBulk_standby husb (hub.trans hb)]
  refine (if_neg (by simp [he])).trans ?_
  simp only [pairActive_of_standby h, Bool.and_false, Bool.false_eq_true, if_false, BitVec.ofNat_toNat, BitVec.setWidth_eq]
  rw [hu] at hrest
  exact hrest

theorem mHealthRx_kept {s : State} (hon : On s) (half : BitVec 16) (sf o5 : BitVec 4) (st : BitVec 3) {p : Pair} (h : pairStandby s = true)
    (hp : p = { s.pair with partner := half, partnerSf := sf, partnerO5 := o5, partnerState := st.toNat }) :
    (half.toNat % 64 = 63 → s.pair.bulkAt = none → exec (.mHealthRx half sf o5 st) s = .next
      { s with pair := { p with partnerHolds := s.pair.partnerHolds || s.pair.mirrorUp } }) ∧
    (half.toNat % 64 ≠ 63 → s.pair.bulkAt = none → Completes (.mHealthRx half sf o5 st) s fun t =>
      Books { s with pair := { p with partnerHolds := false } } t) := by
  subst hp
  have hw := execMHealthRx_within half.toNat sf o5 st.toNat s
  constructor
  · exact fun hfit hb => hw.answers hon ((execMHealthRx_standby half sf o5 _ h hb).trans (if_pos hfit))
  · intro hunfit hb
    refine hw.completes hon ?_
    rw [execMHealthRx_standby half sf o5 _ h hb, judgePartner, if_neg hunfit]
    exact revokeMirror_books _

theorem bit_ofNat16 {k : Nat} (hk : k < 16) (v : Nat) : bit (BitVec.ofNat 16 v).toNat k = bit v k := by
  rw [bit, BitVec.toNat_ofNat, Nat.testBit_mod_two_pow, decide_eq_true hk, Bool.true_and]
  rfl

/-- A standby's own half: BLOTTER_OK, LANES_OK, and LASERS_OK as last tested (Table 15.4). -/
theorem bit_ownHealth_standby {s : State} (h : pairStandby s = true) :
    bit (ownHealth s) 0 = !recentFault s.pair.blotterFaultTick s ∧ bit (ownHealth s) 1 = !recentFault s.pair.lanesFaultTick s ∧
      bit (ownHealth s) 2 = bit s.pair.own.toNat 2 := by
  simp only [ownHealth, testBits, h, if_true, bit_withBit]
  simp

theorem recentFault_now {s : State} : recentFault (some (ownTick s)) s = true := by
  simp [recentFault, ticksSince]

/-- With no loan open, all lasers are tested, and all must hold. -/
theorem lasers_tested {s : State} (h : s.pair.loan = none) (l : BitVec 4) :
    (List.range 4).all (fun i => l.getLsbD i || laserLent i s) = decide (l = 15) := by
  simp only [laserLent, h, Option.any_none, Bool.or_false]
  revert l
  decide

/-- A standby's tests as they end: its LANES_OK counts from here where they failed, and LASERS_OK is what they found (R367, Table 15.4). -/
def tested (lanesOk : Bool) (lasersOk : BitVec 4) (s : State) : State :=
  setHealth 2 (decide (lasersOk = 15)) { s with pair := { s.pair with
    testTick := some (ownTick s), lanesFaultTick := if lanesOk then s.pair.lanesFaultTick else some (ownTick s) } }

theorem execStandbyHealthTest_tests {s : State} (lanesOk : Bool) (lasersOk : BitVec 4) (h : pairStandby s = true)
    (ht : s.pair.testTick = none ∨ ranFor 8000 s.pair.testTick s = true) (hl : s.pair.loan = none) :
    execStandbyHealthTest lanesOk lasersOk s = tested lanesOk lasersOk s := by
  have hdue : (s.pair.testTick.isNone || ranFor 8000 s.pair.testTick s) = true := by
    rcases ht with h | h <;> simp [h]
  obtain ⟨v, hv⟩ : ∃ v : State, v = { s with pair := { s.pair with testTick := some (ownTick s) } } := ⟨_, rfl⟩
  have hf : execStandbyHealthTest lanesOk lasersOk s = setHealth 2 ((List.range 4).all fun i =>
      lasersOk.getLsbD i || laserLent i (if lanesOk then v else noteLaneFault v)) (if lanesOk then v else noteLaneFault v) := by
    rw [hv]
    exact if_neg (by rw [h, hdue]; decide)
  have hlanes : (if lanesOk then v else noteLaneFault v) = { s with pair := { s.pair with
      testTick := some (ownTick s), lanesFaultTick := if lanesOk then s.pair.lanesFaultTick else some (ownTick s) } } := by
    cases lanesOk
    · rw [hv]
      exact if_pos h
    · exact hv
  have hloan : (if lanesOk then v else noteLaneFault v).pair.loan = none := by
    rw [hlanes]
    exact hl
  rw [hf, lasers_tested hloan, hlanes]
  rfl

theorem standbyHealthTest_sets {s : State} (hon : On s) (lanesOk : Bool) (lasersOk : BitVec 4) (h : pairStandby s = true) :
    (s.pair.testTick = none ∨ ranFor 8000 s.pair.testTick s = true → s.pair.lanesFaultTick = none → s.pair.blotterFaultTick = none →
      s.pair.loan = none → Completes (.standbyHealthTest lanesOk lasersOk) s fun t => t.pair.testTick = some (ownTick s) ∧
        bit (ownHealth t) 0 = true ∧ bit (ownHealth t) 1 = lanesOk ∧ bit (ownHealth t) 2 = decide (lasersOk = 15)) ∧
    (s.pair.testTick ≠ none → ranFor 8000 s.pair.testTick s = false → exec (.standbyHealthTest lanesOk lasersOk) s = .next s) := by
  have hw := execStandbyHealthTest_within lanesOk lasersOk s
  constructor
  · intro ht hlanes hblotter hl
    refine hw.completes hon ?_
    rw [execStandbyHealthTest_tests lanesOk lasersOk h ht hl]
    have hst : pairStandby (tested lanesOk lasersOk s) = true := h
    obtain ⟨h0, h1, h2⟩ := bit_ownHealth_standby hst
    refine ⟨rfl, h0.trans ?_, h1.trans ?_, h2.trans ?_⟩
    · show (!recentFault s.pair.blotterFaultTick _) = true
      rw [hblotter]
      rfl
    · show (!recentFault (if lanesOk then s.pair.lanesFaultTick else some (ownTick (tested lanesOk lasersOk s))) _) = lanesOk
      cases lanesOk
      · exact congrArg not recentFault_now
      · rw [hlanes]
        rfl
    · exact (bit_ofNat16 (by decide) _).trans ((bit_withBit _ _ _ _).trans (if_pos rfl))
  · intro hne hran
    have hsome : s.pair.testTick.isNone = false := Option.isNone_eq_false_iff.2 (Option.isSome_iff_ne_none.2 hne)
    exact hw.answers hon (if_pos (by simp [hsome, hran]))

/-- Settles O47: each row of the light, of loans, digests, health and tests by its own rule. -/
theorem pairLightAndHealthRowsTakeEffect : Obligations.PairLightAndHealthRowsTakeEffect := by
  unfold Obligations.PairLightAndHealthRowsTakeEffect
  intro s hon
  refine ⟨actInChange_deasserts hon, fun hi => ⟨actInChange_noted hon hi, fun he ho hst hn => actInChange_contested hon hi he ho hst hn,
    actInChange_waiting hon hi⟩, actOutClaim_takes hon, fun i tag ns len id l e ha hl he => mLoanReqRx_answers hon i tag ns len id ha hl he,
    fun l hl => ⟨fun id granted hst hid => mLoanAckRx_taken hon hl id granted hst hid, loanActRelease_dark hon hl,
      loanActClaim_lit hon hl⟩, fun d he hdue hd => digestExchange_sends hon he hdue hd, fun tag w he => mDigestRx_low hon tag w he,
    fun tag w lo d he hs hst hlow hd => mDigestRx_compares hon tag he hs hst hlow hd,
    fun half sf o5 st p h hp => mHealthRx_kept hon half sf o5 st h hp,
    fun lanesOk lasersOk h => standbyHealthTest_sets hon lanesOk lasersOk h⟩

end Sys2Proof.Machine
end

section
/-!
PROOFS. The switchover, launches, resynchronisation passes and the loss of the mirror link (15 R357, R362, R365, R368–R370).
-/

namespace Sys2Proof.Machine

theorem takeMSwitch_prepares {s : State} (tag ns rtag rns cause : Nat) (h : pairStandby s = true) (hl : s.pair.loan = none) :
    takeMSwitch tag ns rtag rns cause s = { s with pair := { s.pair with
      switch := some { atPs := psOfTag tag ns s, replayPs := psOfTag rtag rns s, cause } } } := by
  have hf : takeMSwitch tag ns rtag rns cause s = { s with pair := { s.pair with
      loan := none, switch := some { atPs := psOfTag tag ns s, replayPs := psOfTag rtag rns s, cause } } } := by
    simp only [takeMSwitch, h, hl, Option.isSome_none, Bool.not_true, Bool.false_and, Bool.false_eq_true, if_false]
  rw [hf, ← hl]

/-! ## What a takeover leaves -/

theorem followLost_pair (s : State) : (followLost s).pair = s.pair := by
  unfold followLost
  dsimp only
  split
  · rfl
  · split <;> rw [raise_pair]

theorem followLost_nowPs (s : State) : (followLost s).clk.nowPs = s.clk.nowPs := by
  unfold followLost
  dsimp only
  split
  · rfl
  · split <;> rw [raise_clk]

theorem followLost_insts (s : State) : (followLost s).insts = s.insts := by
  unfold followLost
  dsimp only
  split
  · rfl
  · split <;> rw [raise_insts]

/-- From s to t the pair, the clock and the instances are as before. -/
structure PairKept (s t : State) : Prop where
  pair : t.pair = s.pair
  clk : t.clk = s.clk
  insts : t.insts = s.insts

theorem PairKept.refl (s : State) : PairKept s s := ⟨rfl, rfl, rfl⟩

theorem PairKept.trans {s t u : State} (h : PairKept s t) (k : PairKept t u) : PairKept s u :=
  ⟨k.pair.trans h.pair, k.clk.trans h.clk, k.insts.trans h.insts⟩

theorem Books.pairKept {s t : State} (h : Books s t) : PairKept s t := ⟨h.pair, h.clk, h.insts⟩

theorem foldl_pairKept {α : Type} {f : State → α → State} (hf : ∀ s a, PairKept s (f s a)) (l : List α) :
    ∀ s, PairKept s (l.foldl f s) := by
  induction l with
  | nil => exact PairKept.refl
  | cons a l ih => exact fun s => (hf s a).trans (ih _)

theorem returnFrames_pairKept (q : Nat) (fs : List Frame) (s : State) : PairKept s (returnFrames q fs s) := by
  unfold returnFrames
  split
  · exact .refl s
  · dsimp only
    have hn := (noteWaiting_noted q (wakeShapers (s.queue q).shapers.list s)).books.pairKept
    have hw : PairKept s (wakeShapers (s.queue q).shapers.list s) := by
      have e := wakeShapers_eq (s.queue q).shapers.list s
      exact ⟨(congrArg State.pair e :), (congrArg State.clk e :), (congrArg State.insts e :)⟩
    exact .trans (hw.trans hn) ⟨rfl, rfl, rfl⟩

/-- What a replay leaves: of the pair the hold, the launches and the sequence numbers alone are cleared (15 R369). -/
theorem replay_keeps (w : Switch) (s : State) :
    PairKept { s with pair := { s.pair with hold := [], launched := [], burstSeq := [] } } (replay w s) := by
  have h : ∀ (l : List Nat) (F : Nat → List Frame), PairKept s (l.foldl (fun s q =>
      returnFrames q (F q) (if q < 8192 then s.setAlloc (q / 8) { s.alloc (q / 8) with cont := none } else s)) s) := by
    refine fun l F => foldl_pairKept (fun s q => ?_) l s
    split
    · exact .trans (t := s.setAlloc _ _) ⟨rfl, rfl, rfl⟩ (returnFrames_pairKept _ _ _)
    · exact returnFrames_pairKept _ _ _
  obtain ⟨hp, hc, hi⟩ := h (((s.pair.hold.filter (replays w s)).map (fun h => h.queue)).eraseDups)
    (fun q => ((s.pair.hold.filter (replays w s)).filter (fun h => h.queue = q)).map (fun h => h.frame))
  exact ⟨congrArg (fun p : Pair => { p with hold := [], launched := [], burstSeq := [] }) hp, hc, hi⟩

theorem foldl_modInst_rest (f : Inst → Inst) (l : List Nat) : ∀ s : State,
    l.foldl (fun s i => s.modInst i f) s = { s with insts := (l.foldl (fun s i => s.modInst i f) s).insts } := by
  induction l with
  | nil => exact fun _ => rfl
  | cons i l ih => exact fun s => ih (s.modInst i f)

/-- Beside the schedules, what the end of the shadows reaches is the pair's list of shadowed Alloc-IDs. -/
theorem endShadows_rest (s : State) :
    endShadows s = { s with insts := (endShadows s).insts, pair := { s.pair with shadowIds := [] } } := by
  unfold endShadows
  have e := foldl_modInst_rest (fun x => { x with sched := x.sched.filter (fun e => !e.shadow) }) (List.range 4) s
  dsimp only
  generalize (List.range 4).foldl _ s = u at e ⊢
  rw [e]

theorem endShadows_pair (s : State) : (endShadows s).pair = { s.pair with shadowIds := [] } := (congrArg State.pair (endShadows_rest s) :)

theorem endShadows_clk (s : State) : (endShadows s).clk = s.clk := (congrArg State.clk (endShadows_rest s) :)

/-- The shadow schedules have ended. -/
theorem endShadows_sched (s : State) (i : Fin 4) : ∀ e ∈ ((endShadows s).inst i).sched, e.shadow = false := by
  have hown (l : List Nat) : ∀ u : State, (i.val ∈ l ∨ ∀ e ∈ (u.inst i).sched, e.shadow = false) →
      ∀ e ∈ ((l.foldl (fun s i => s.modInst i (fun x => { x with sched := x.sched.filter (fun e => !e.shadow) })) u).inst i).sched,
        e.shadow = false := by
    induction l with
    | nil => exact fun u hu => hu.resolve_left (List.not_mem_nil)
    | cons j l ih =>
      intro u hu
      refine ih _ ?_
      by_cases hj : i.val = j
      · refine .inr fun e he => ?_
        rw [← hj, inst_modInst_same] at he
        simpa using (List.mem_filter.1 he).2
      · rw [inst_modInst_other u hj]
        exact hu.imp_left fun h => (List.mem_cons.1 h).resolve_left hj
  have h := hown (List.range 4) s (.inl (List.mem_range.2 i.isLt))
  unfold endShadows
  dsimp only
  generalize (List.range 4).foldl _ s = u at h ⊢
  exact h

/-- The DETAIL with which a takeover will report itself (15 R369): the cause, STALE, and GAP. -/
theorem takeOver_keeps (w : Switch) (s : State) (hg : s.pair.gapTick = none) :
    (takeOver w s).pair.state = 1 ∧ (takeOver w s).pair.switch = none ∧ (takeOver w s).pair.claiming = true ∧ (takeOver w s).pair.hold = [] ∧
      (takeOver w s).pair.claimDetail = some (w.cause + 256 * b2n (decide (s.pair.state ≠ 3))) ∧
      (takeOver w s).pair.lastSwitch = s.pair.lastSwitch ∧ (takeOver w s).clk.nowPs = s.clk.nowPs ∧
      ∀ i : Fin 4, ∀ e ∈ ((takeOver w s).inst i).sched, e.shadow = false := by
  obtain ⟨u, hu⟩ : ∃ u, u = endShadows (replay w (holdTests s)) := ⟨_, rfl⟩
  have hup : u.pair = { (holdTests s).pair with hold := [], launched := [], burstSeq := [], shadowIds := [] } := by
    rw [hu, endShadows_pair, (replay_keeps w (holdTests s)).pair]
  have huc : u.clk = s.clk := by
    rw [hu, endShadows_clk, (replay_keeps w (holdTests s)).clk]
    rfl
  obtain ⟨v, hv⟩ : ∃ v : State, v = { u with pair := { u.pair with
    state := 1, attempt := 0, matching := false, switch := none, loan := none, mismatchRun := 0, claiming := true
    claimDetail := some (w.cause + 256 * b2n (decide (s.pair.state ≠ 3))) } } := ⟨_, rfl⟩
  have hf : takeOver w s = followLost (completeRunning 0x0C02 .notFound 0 [] v) := by
    rw [hv, hu]
    simp only [takeOver, hg, b2n, Bool.false_eq_true, if_false, Nat.mul_zero, Nat.add_zero]
  have hb := completeRunning_books 0x0C02 .notFound 0 [] v
  have hp : (takeOver w s).pair = v.pair := by rw [hf, followLost_pair, hb.pair]
  refine ⟨?_, ?_, ?_, ?_, ?_, ?_, ?_, fun i => ?_⟩
  · rw [hp, hv]
  · rw [hp, hv]
  · rw [hp, hv]
  · rw [hp, hv, hup]
  · rw [hp, hv]
  · rw [hp, hv, hup]
    rfl
  · rw [hf, followLost_nowPs, hb.clk, hv]
    exact congrArg Clk.nowPs huc
  · rw [hf, inst_of_insts (followLost_insts _), inst_of_insts hb.insts, hv]
    show ∀ e ∈ (u.inst i).sched, e.shadow = false
    rw [hu]
    exact endShadows_sched _ i

/-! ## SWITCHOVER_AT_SWITCH and PARTNER_GONE (R368, R369) -/

/-- The state at SWITCH, with its tick noted (15 R369). -/
def atSwitch (w : Switch) (s : State) : State :=
  { advanceTo w.atPs s with pair := { s.pair with lastSwitch := (tickOf w.atPs s).1 } }

theorem execSwitchoverAtSwitch_due {s u : State} {w : Switch} (hw : s.pair.switch = some w) (eject : Bool) (he : s.pair.enable = true)
    (hu : u = atSwitch w s) : execSwitchoverAtSwitch eject s =
      if pairActive u then
        let v := enterResync { u with pair := { u.pair with switch := none, claiming := false, partnerState := 1 } }
        completeRunning 0x0C01 .ok 0 (le 4 (tickOf w.atPs s).1.toNat) (if fibreDark v && v.pair.actOut then setActOut false v else v)
      else if pairStandby u then
        (if u.hot.recognised || eject then { u with pair := { u.pair with switch := none } } else takeOver w u)
      else u := by
  subst hu
  unfold execSwitchoverAtSwitch
  rw [hw]
  exact if_neg (by simp [he])

theorem execSwitchoverAtSwitch_standby {s u : State} {w : Switch} (hw : s.pair.switch = some w) (eject : Bool) (h : pairStandby s = true)
    (hu : u = atSwitch w s) : execSwitchoverAtSwitch eject s =
      if u.hot.recognised || eject then { u with pair := { u.pair with switch := none } } else takeOver w u := by
  have hst : pairStandby u = true := by
    rw [hu]
    exact h
  rw [execSwitchoverAtSwitch_due hw eject (pairStandby_iff.1 h).1 hu, if_neg (Bool.eq_false_iff.1 (pairActive_of_standby hst)), if_pos hst]

section
variable {s : State} (hon : On s)
include hon

theorem switchoverAtSwitch_active {w : Switch} (hw : s.pair.switch = some w) (eject : Bool) (ha : pairActive s = true) :
    Completes (.switchoverAtSwitch eject) s fun t => t.pair.state = 2 ∧ t.pair.switch = none ∧
      t.pair.lastSwitch = (tickOf w.atPs s).1 ∧ t.clk.nowPs = max s.clk.nowPs w.atPs ∧ (fibreDark s = true → t.pair.actOut = false) := by
  obtain ⟨x, hx⟩ : ∃ x, x = atSwitch w s := ⟨_, rfl⟩
  obtain ⟨u, hu⟩ : ∃ u : State, u = enterResync { x with pair := { x.pair with switch := none, claiming := false, partnerState := 1 } } := ⟨_, rfl⟩
  have hxa : pairActive x = true := by
    rw [hx]
    exact ha
  have hf : execSwitchoverAtSwitch eject s = completeRunning 0x0C01 .ok 0 (le 4 (tickOf w.atPs s).1.toNat)
      (if fibreDark u && u.pair.actOut then setActOut false u else u) := by
    rw [execSwitchoverAtSwitch_due hw eject (pairActive_iff.1 ha).1 hx, if_pos hxa, hu]
  have hb := completeRunning_books 0x0C01 .ok 0 (le 4 (tickOf w.atPs s).1.toNat)
    (if fibreDark u && u.pair.actOut then setActOut false u else u)
  have hdark : fibreDark u = fibreDark s := by
    rw [hu, hx]
    rfl
  refine (execSwitchoverAtSwitch_within eject s).completes hon ?_
  rw [hf, hb.pair, hb.clk]
  split
  · rw [hu, hx]
    exact ⟨rfl, rfl, rfl, rfl, fun _ => rfl⟩
  · next h =>
    have hlit : fibreDark s = true → u.pair.actOut = false := by
      intro hd
      rw [hdark, hd, Bool.true_and] at h
      exact Bool.eq_false_iff.2 h
    refine ⟨?_, ?_, ?_, ?_, hlit⟩ <;> rw [hu, hx] <;> rfl

theorem switchoverAtSwitch_standby {w : Switch} (hw : s.pair.switch = some w) :
    (pairStandby s = true → s.hot.recognised = false → s.pair.gapTick = none → Completes (.switchoverAtSwitch false) s fun t =>
      t.pair.state = 1 ∧ t.pair.switch = none ∧ t.pair.claiming = true ∧ t.pair.hold = [] ∧
      t.pair.claimDetail = some (w.cause + 256 * b2n (decide (s.pair.state ≠ 3))) ∧
      t.pair.lastSwitch = (tickOf w.atPs s).1 ∧ (∀ i : Fin 4, ∀ e ∈ (t.inst i).sched, e.shadow = false)) ∧
    (pairStandby s = true → Completes (.switchoverAtSwitch true) s fun t => t.pair.state = s.pair.state ∧ t.pair.switch = none) := by
  constructor
  · intro hst hrec hgap
    obtain ⟨u, hu⟩ : ∃ u, u = atSwitch w s := ⟨_, rfl⟩
    have hup : u.pair = { s.pair with lastSwitch := (tickOf w.atPs s).1 } := by
      rw [hu]
      rfl
    have hurec : u.hot.recognised = false := by
      rw [hu]
      exact hrec
    obtain ⟨hstate, hswitch, hclaim, hhold, hdetail, hlast, -, hsched⟩ := takeOver_keeps w u (by rw [hup]; exact hgap)
    rw [hup] at hdetail hlast
    refine (execSwitchoverAtSwitch_within false s).completes hon ?_
    rw [execSwitchoverAtSwitch_standby hw false hst hu, hurec]
    exact ⟨hstate, hswitch, hclaim, hhold, hdetail, hlast, hsched⟩
  · intro hst
    refine (execSwitchoverAtSwitch_within true s).completes hon ?_
    rw [execSwitchoverAtSwitch_standby hw true hst rfl, Bool.or_true]
    exact ⟨rfl, rfl⟩

theorem partnerGone_takes (h : pairStandby s = true) (hi : s.pair.actIn = false) (ho : s.pair.actOut = false) (hl : s.pair.loan = none)
    (hsw : s.pair.switch = none) (hrec : s.hot.recognised = false) :
    (s.pair.gapTick = none → Completes (.partnerGone none false) s fun t =>
      t.pair.state = 1 ∧ t.pair.claiming = true ∧ t.pair.claimDetail = some (6 + 256 * b2n (decide (s.pair.state ≠ 3))) ∧
      t.pair.lastSwitch = s.clk.tick ∧ t.clk.nowPs = max s.clk.nowPs (max s.pair.actInOffPs s.pair.actOutPs + 20000000)) ∧
    (∀ m : MSwitch, Completes (.partnerGone (some m) false) s fun t => t.pair.state = s.pair.state ∧ t.pair.switch =
      some { atPs := psOfTag m.tag m.ns.toNat s, replayPs := psOfTag m.rtag m.rns.toNat s, cause := m.cause.toNat }) ∧
    (∀ met, exec (.partnerGone met true) s = .next s) := by
  have hgone (eject : Bool) : (pairStandby s && !s.pair.actIn && !s.pair.actOut && s.pair.loan.isNone && s.pair.switch.isNone &&
      !s.hot.recognised && !eject) = !eject := by
    rw [h, hi, ho, hl, hsw, hrec]
    rfl
  refine ⟨fun hgap => ?_, fun m => ?_, fun met => ?_⟩
  · obtain ⟨u, hu⟩ : ∃ u, u = advanceTo (max s.pair.actInOffPs s.pair.actOutPs + 20000000) s := ⟨_, rfl⟩
    obtain ⟨v, hv⟩ : ∃ v : State, v = revokeMirror { u with pair := { u.pair with lastSwitch := u.clk.tick } } := ⟨_, rfl⟩
    have hb : Books { u with pair := { u.pair with lastSwitch := u.clk.tick, partnerHolds := false } } v := hv ▸ revokeMirror_books _
    have hf : execPartnerGone none false s = takeOver { atPs := u.clk.nowPs, replayPs := u.pair.lastDigestPs, cause := 6 } v := by
      rw [hv, hu]
      exact if_pos (hgone false)
    obtain ⟨hstate, -, hclaim, -, hdetail, hlast, hnow, -⟩ :=
      takeOver_keeps { atPs := u.clk.nowPs, replayPs := u.pair.lastDigestPs, cause := 6 } v (by rw [hb.pair, hu]; exact hgap)
    refine (execPartnerGone_within none false s).completes hon ?_
    rw [hf, hstate, hclaim, hdetail, hlast, hnow, hb.pair, hb.clk, hu]
    exact ⟨rfl, rfl, rfl, rfl, rfl⟩
  · have hf : execPartnerGone (some m) false s = takeMSwitch m.tag.val m.ns.toNat m.rtag.val m.rns.toNat m.cause.toNat
        (advanceTo (max s.pair.actInOffPs s.pair.actOutPs + 20000000) s) := if_pos (hgone false)
    refine (execPartnerGone_within (some m) false s).completes hon ?_
    rw [hf, takeMSwitch_prepares _ _ _ _ _ (s := advanceTo _ s) h hl]
    exact ⟨rfl, rfl⟩
  · exact (execPartnerGone_within met true s).answers hon (if_neg (by rw [hgone]; decide))

theorem mSwitchRx_prepares (tag rtag : Fin 8) (ns rns : BitVec 17) (cause : Byte) (h : pairStandby s = true) (hl : s.pair.loan = none) :
    exec (.mSwitchRx tag ns rtag rns cause) s = .next { s with pair := { s.pair with
      switch := some { atPs := psOfTag tag ns.toNat s, replayPs := psOfTag rtag rns.toNat s, cause := cause.toNat } } } :=
  (takeMSwitch_within tag.val ns.toNat rtag.val rns.toNat cause.toNat s).answers hon (takeMSwitch_prepares _ _ _ _ _ h hl)

end

/-! ## Launches (R362) -/

theorem nodup_eraseDups (n : Nat) : ∀ l : List Nat, l.length ≤ n → l.eraseDups.Nodup := by
  induction n with
  | zero =>
    intro l hl
    rw [List.length_eq_zero_iff.1 (Nat.le_zero.1 hl)]
    exact List.nodup_nil
  | succ n ih =>
    intro l hl
    cases l with
    | nil => exact List.nodup_nil
    | cons a l =>
      rw [List.eraseDups_cons, List.nodup_cons, List.mem_eraseDups]
      exact ⟨by simp, ih _ (Nat.le_trans (List.length_filter_le _ l) (Nat.le_of_succ_le_succ hl))⟩

/-- Frames that return stand before those of their queue, and no other queue changes (08 R215). -/
theorem returnFrames_queue (q : Nat) (fs : List Frame) (s : State) (k : Nat) :
    ((returnFrames q fs s).queue k).frames = (if k = q then fs else []) ++ (s.queue k).frames := by
  unfold returnFrames
  split
  · next h =>
    rw [List.isEmpty_iff.1 h, ite_self]
    rfl
  · obtain ⟨u, hu⟩ : ∃ u, u = noteWaiting q (wakeShapers (s.queue q).shapers.list s) := ⟨_, rfl⟩
    have hq : u.queues = s.queues := by
      rw [hu, (noteWaiting_noted q _).books.queues, wakeShapers_eq]
    dsimp only
    rw [← hu]
    split
    · next h => rw [h, queue_setQueue_same, queue_of_queues hq]
    · next h =>
      rw [queue_setQueue_other u h, queue_of_queues hq]
      rfl

theorem foldl_returnFrames_queue (F : Nat → List Frame) (k : Nat) (l : List Nat) (hl : l.Nodup) : ∀ s : State,
    ((l.foldl (fun s q => returnFrames q (F q) s) s).queue k).frames = (if k ∈ l then F k else []) ++ (s.queue k).frames := by
  induction l with
  | nil => exact fun s => by simp
  | cons q l ih =>
    intro s
    obtain ⟨hq, hl⟩ := List.nodup_cons.1 hl
    rw [List.foldl_cons, ih hl, returnFrames_queue]
    by_cases hkq : k = q
    · subst hkq
      simp [hq]
    · simp [hkq]

theorem mLaunchRx_notes {s : State} (hon : On s) (i : Fin 4) (n : BitVec 24) (h : pairStandby s = true) :
    exec (.mLaunchRx i n true) s = .next { s with pair := { s.pair with
      launched := SMap.modify [] s.pair.launched i (fun l => (n.toNat :: l).take 64) } } ∧
    Completes (.mLaunchRx i n false) s fun t =>
      t.pair.hold = s.pair.hold.filter (fun h => decide (h.burst ≠ some (i.val, n.toNat))) ∧
      ∀ q, (t.queue q).frames = ((s.pair.hold.filter (fun h => decide (h.burst = some (i.val, n.toNat)))).filter
        (fun h => decide (h.queue = q))).map (fun h => h.frame) ++ (s.queue q).frames := by
  have hst : ¬ (!pairStandby s) = true := by simp [h]
  constructor
  · exact (execMLaunchRx_within i.val n.toNat true s).answers hon ((if_neg hst).trans (if_pos rfl))
  · obtain ⟨mine, hmine⟩ : ∃ l, l = s.pair.hold.filter (fun h => decide (h.burst = some (i.val, n.toNat))) := ⟨_, rfl⟩
    obtain ⟨F, hF⟩ : ∃ F : Nat → List Frame, F = fun q => (mine.filter (fun h => h.queue = q)).map (fun h => h.frame) := ⟨_, rfl⟩
    obtain ⟨u, hu⟩ : ∃ u : State, u = { s with pair := { s.pair with
      hold := s.pair.hold.filter (fun h => decide (h.burst ≠ some (i.val, n.toNat))) } } := ⟨_, rfl⟩
    have hf : execMLaunchRx i.val n.toNat false s = (mine.map (fun h => h.queue)).eraseDups.foldl (fun s q => returnFrames q (F q) s) u := by
      rw [hu, hF, hmine]
      exact (if_neg hst).trans (if_neg Bool.false_ne_true)
    refine (execMLaunchRx_within i.val n.toNat false s).completes hon ?_
    rw [hf, ← hmine]
    refine ⟨?_, fun q => ?_⟩
    · rw [(foldl_pairKept (fun s q => returnFrames_pairKept q (F q) s) _ u).pair, hu]
    · have hnone : q ∉ mine.map (fun h => h.queue) → F q = [] := by
        intro hq
        rw [hF, List.map_eq_nil_iff, List.filter_eq_nil_iff]
        exact fun a ha hqa => hq (List.mem_map.2 ⟨a, ha, of_decide_eq_true hqa⟩)
      have hall : (if q ∈ (mine.map (fun h => h.queue)).eraseDups then F q else []) = F q := by
        split
        · rfl
        · next hq => exact (hnone fun h => hq (List.mem_eraseDups.2 h)).symm
      rw [foldl_returnFrames_queue F q _ (nodup_eraseDups _ _ (le_refl _)), hall, hF, hu]
      rfl

/-! ## Passes and the mirror link (R357, R365) -/

theorem resyncPassEnd_standby {s : State} (hon : On s) (left : Nat) (he : s.pair.enable = true) (hst : s.pair.state = 2)
    (hup : s.pair.mirrorUp = true) (hm : s.pair.matching = false) :
    (4194304 ≤ left → exec (.resyncPassEnd left) s = .next { s with pair := { s.pair with
      pass := min 63 (s.pair.pass + 1), kibLeft := min (2 ^ 24 - 1) ((left + 1023) / 1024) } }) ∧
    (left < 4194304 → exec (.resyncPassEnd left) s = .next { s with pair := { s.pair with
      pass := min 63 (s.pair.pass + 1), kibLeft := 0, config := 0, applied := [], matching := true, matchRun := 0 } }) := by
  have ha : pairActive s = false := pairActive_of_standby (pairStandby_iff.2 ⟨he, hst.ge⟩)
  have hw := execResyncPassEnd_within left s
  have hstandby : ((decide (s.pair.state = 2) && s.pair.enable && s.pair.mirrorUp && !s.pair.matching) ||
      (pairActive s && s.pair.mirrorUp && decide (s.pair.partnerState = 2))) = true := by
    rw [hst, he, hup, hm, ha]
    rfl
  constructor
  · intro hmore
    refine hw.answers hon ((if_pos hstandby).trans ((if_neg (Nat.not_lt.2 hmore)).trans (if_neg ?_)))
    rw [ha]
    exact Bool.false_ne_true
  · intro hless
    obtain ⟨u, hu⟩ : ∃ u : State, u = { s with pair := { s.pair with
      pass := min 63 (s.pair.pass + 1), kibLeft := min (2 ^ 24 - 1) ((left + 1023) / 1024) } } := ⟨_, rfl⟩
    have hf : execResyncPassEnd left s = { u with pair := { u.pair with
        config := 0, applied := [], kibLeft := 0, matching := decide (u.pair.state = 2), matchRun := 0 } } := by
      refine (if_pos hstandby).trans ((if_pos hless).trans ?_)
      rw [ha, Bool.false_and, Bool.false_and, Bool.false_and, Bool.false_and, Bool.false_and, if_neg Bool.false_ne_true, hu]
    refine hw.answers hon (hf.trans ?_)
    rw [hu, hst]
    rfl

/-- The mirror link is lost: what was under way over it ends, and a standby goes on without the partner's tick (15 R357; 01 R28). -/
theorem mirrorLinkLoss_ends {s : State} (hon : On s) (hup : s.pair.mirrorUp = true) : Completes .mirrorLinkLoss s fun t =>
    t.pair.mirrorUp = false ∧ t.pair.helloAck = false ∧ bit t.pair.own.toNat 4 = false ∧ t.pair.enable = s.pair.enable ∧
      t.pair.state = (if pairStandby s = true ∧ s.pair.actIn = true then 4 else s.pair.state) := by
  obtain ⟨w, hw, hwp⟩ : ∃ w, w = (if (mirrorLane s).isNone then s else advanceTo (s.pair.helloPs + 256000000) s) ∧ w.pair = s.pair := by
    refine ⟨_, rfl, ?_⟩
    split <;> rfl
  obtain ⟨x, hx⟩ : ∃ x, x = stopBulk (setHealth 4 false { w with pair := { w.pair with
    mirrorUp := false, helloAck := false, helloPs := 0, low := none } }) := ⟨_, rfl⟩
  obtain ⟨u, hu⟩ : ∃ u, u = revokeMirror x := ⟨_, rfl⟩
  have hb : Books { x with pair := { x.pair with partnerHolds := false } } u := hu ▸ revokeMirror_books x
  have hup' : u.pair = { s.pair with
      own := BitVec.ofNat 16 (withBit s.pair.own.toNat 4 false), mirrorUp := false, helloAck := false, helloPs := 0, low := none
      bulkAt := none, partnerHolds := false } := by
    rw [hb.pair, hx, ← hwp]
    rfl
  have hsb : pairStandby u = pairStandby s := by
    rw [pairStandby, hup']
    rfl
  have hf : execMirrorLinkLoss s =
      if pairStandby u then
        (if (followLost u).pair.actIn then
          { followLost u with pair := { (followLost u).pair with state := 4, matching := false } } else followLost u)
      else u := by
    rw [hu, hx, hw]
    exact if_neg (by simp [hup])
  have hbit : bit (BitVec.ofNat 16 (withBit s.pair.own.toNat 4 false)).toNat 4 = false :=
    (bit_ofNat16 (by decide) _).trans ((bit_withBit _ _ _ _).trans (if_pos rfl))
  refine (execMirrorLinkLoss_within s).completes hon ?_
  rw [hf, hsb, followLost_pair]
  by_cases hst : pairStandby s = true
  · rw [if_pos hst]
    by_cases hi : s.pair.actIn = true
    · rw [if_pos (by rw [hup']; exact hi), if_pos ⟨hst, hi⟩, hup']
      exact ⟨rfl, rfl, hbit, rfl, rfl⟩
    · rw [if_neg (by rw [hup']; exact hi), if_neg fun h => hi h.2, followLost_pair, hup']
      exact ⟨rfl, rfl, hbit, rfl, rfl⟩
  · rw [if_neg hst, if_neg fun h => hst h.1, hup']
    exact ⟨rfl, rfl, hbit, rfl, rfl⟩

/-- Settles O48: each row of the switchover, of launches, of resynchronisation and of the mirror link by its own rule. -/
theorem switchoverRowsTakeEffect : Obligations.SwitchoverRowsTakeEffect := by
  unfold Obligations.SwitchoverRowsTakeEffect
  intro s hon
  refine ⟨fun tag rtag ns rns cause h hl => mSwitchRx_prepares hon tag rtag ns rns cause h hl, fun w hw => ⟨fun eject ha =>
    switchoverAtSwitch_active hon hw eject ha, switchoverAtSwitch_standby hon hw⟩, partnerGone_takes hon,
    fun i n h => mLaunchRx_notes hon i n h, fun left he hst hup hm => resyncPassEnd_standby hon left he hst hup hm,
    mirrorLinkLoss_ends hon⟩

end Sys2Proof.Machine
end

section
/-!
PROOFS. The commands of the pair (15 R371).
-/

namespace Sys2Proof.Machine

/-- A command that changes the pair alone, and is done, answers with that change. -/
theorem Runs.changesPair {sp : CmdSpec} {eff : Cmd → State → Res} {q : CmdReq} {c : Cmd} {s : State} {st : Status} {d : Nat} {b : Bytes}
    {p : Pair} (h : Runs sp.op q c s) (hl : sp.lease q s = none)
    (he : eff c (markStarted c s) = .done st d b { markStarted c s with pair := p }) :
    ∃ t, (Host.Outcome.next (live (runCmd sp eff q) s) : Host.Outcome State Fault Refusal) = .next t ∧
      Answers c st d b s t ∧ Books { s with pair := p } t :=
  h.completes hl he rfl rfl rfl rfl rfl rfl

/-! ## PAIR_CONFIG -/

theorem enablePair_held {s : State} (hi : s.pair.actIn = true) : enablePair s = enterResync { s with pair := { s.pair with enable := true } } :=
  if_pos hi

theorem enablePair_quiet {s : State} (hq : actInQuiet s = true) : enablePair s =
    { s with pair := { s.pair with enable := true, state := 1, actOut := true, actOutPs := s.clk.nowPs } } := by
  have hi : s.pair.actIn = false := by
    simp only [actInQuiet, Bool.and_eq_true, Bool.not_eq_true'] at hq
    exact hq.1
  exact (if_neg (hi ▸ Bool.false_ne_true)).trans (if_pos hq)

theorem enablePair_waits {s : State} (hi : s.pair.actIn = false) (hq : actInQuiet s = false) : enablePair s =
    { s with pair := { s.pair with enable := true, claiming := true } } :=
  (if_neg (hi ▸ Bool.false_ne_true)).trans (if_neg (Bool.eq_false_iff.1 hq))

theorem followLost_cmd (s : State) : (followLost s).cmd = s.cmd := by
  unfold followLost
  dsimp only
  split
  · rfl
  · split <;> rw [raise_cmd]

theorem followLost_tick (s : State) : (followLost s).clk.tick = s.clk.tick := by
  unfold followLost
  dsimp only
  split
  · rfl
  · split <;> rw [raise_clk]

theorem endShadows_cmd (s : State) : (endShadows s).cmd = s.cmd := (congrArg State.cmd (endShadows_rest s) :)

/-- The pair of a device that is unpaired (Table 15.6). -/
def unpaired (s : State) (p : Pair) : Pair :=
  { p with
    shadowIds := [], actOut := false, actOutPs := s.clk.nowPs
    enable := false, state := 0, testTick := none, partnerHolds := false, claiming := false, claimDetail := none, loan := none
    switch := none, hold := [], launched := []
    burstSeq := [], attempt := 0, pass := 0, kibLeft := 0, matching := false, matchRun := 0, mismatchRun := 0, digests := [], low := none
    applied := [], config := 0, gapTick := none }

theorem completeRunning_other {op k : Nat} {c : Cmd} {s : State} (hx : s.cmd.executing = [c]) (ho : c.op = k) (hk : k ≠ op) (st : Status)
    (d : Nat) (p : Bytes) : completeRunning op st d p s = s :=
  completeRunning_none (by simp [running, hx, ho, hk]) st d p

/-- ENABLE 0 leaves the device unpaired; the commands go on while no PAIR_SWITCH and no PAIR_RESYNC runs. -/
theorem disablePair_leaves {c : Cmd} {s : State} (hx : s.cmd.executing = [c]) (ho : c.op = 0x0C00) :
    (∃ p : Pair, (disablePair s).pair = unpaired s p) ∧ (disablePair s).cmd = s.cmd ∧ (disablePair s).clk.tick = s.clk.tick ∧
      WithinPair s (disablePair s) := by
  obtain ⟨u, hu⟩ : ∃ u, u = stopBulk (holdTests s) := ⟨_, rfl⟩
  obtain ⟨v, hv⟩ : ∃ v, v = if pairStandby u then followLost u else u := ⟨_, rfl⟩
  obtain ⟨w, hw⟩ : ∃ w : State, w = { endShadows v with pair := unpaired v (endShadows v).pair } := ⟨_, rfl⟩
  have huv : WithinPair u v := by
    rw [hv]
    exact ite_within (fun _ => followLost_within u) fun _ => .refl u
  have hvc : v.cmd = s.cmd ∧ v.clk.tick = s.clk.tick ∧ v.clk.nowPs = s.clk.nowPs := by
    rw [hv]
    split
    · rw [followLost_cmd, followLost_tick, followLost_nowPs, hu]
      exact ⟨rfl, rfl, rfl⟩
    · rw [hu]
      exact ⟨rfl, rfl, rfl⟩
  obtain ⟨hvcmd, hvtick, hvnow⟩ := hvc
  have hwx : w.cmd.executing = [c] := by
    rw [hw]
    show (endShadows v).cmd.executing = [c]
    rw [endShadows_cmd, hvcmd, hx]
  have hf : disablePair s = w := by
    have h : disablePair s = completeRunning 0x0C02 .notFound 0 [] (completeRunning 0x0C01 .notFound 0 [] w) := by
      rw [hw, hv, hu, unpaired, endShadows_pair]
      simp only [disablePair, setActOut, endShadows_pair, endShadows_clk]
    rw [h, completeRunning_other hwx ho (by decide), completeRunning_other hwx ho (by decide)]
  rw [hf, hw]
  refine ⟨⟨(endShadows v).pair, ?_⟩, ?_, ?_, ?_⟩
  · simp only [unpaired, hvnow]
  · exact (endShadows_cmd v).trans hvcmd
  · exact (congrArg Clk.tick (endShadows_clk v)).trans hvtick
  · exact .trans (t := u) (hu ▸ .trans (holdTests_within s) (stopBulk_within _))
      (huv.trans (.trans (endShadows_within v) (setPair_within _ _)))

section
variable {q : CmdReq} {c : Cmd} {s : State} (h : Runs 0x0C00 q c s)
include h

theorem pairConfig_enables (h1 : u8 q.body 0 = 1) :
    (mirrorBound s = false → Completes (.pairConfig q) s fun t => Answers c .notFound 0 [] s t ∧ Books s t) ∧
    (mirrorBound s = true → s.pair.enable = true → Completes (.pairConfig q) s fun t =>
      Answers c .ok 0 (le 1 s.pair.state ++ zeros 3) s t ∧ Books s t) ∧
    (mirrorBound s = true → s.pair.enable = false →
      (s.pair.actIn = true → Completes (.pairConfig q) s fun t => Answers c .ok 0 (le 1 2 ++ zeros 3) s t ∧
        Books (enterResync { s with pair := { s.pair with enable := true } }) t) ∧
      (actInQuiet s = true → Completes (.pairConfig q) s fun t => Answers c .ok 0 (le 1 1 ++ zeros 3) s t ∧
        Books { s with pair := { s.pair with enable := true, state := 1, actOut := true, actOutPs := s.clk.nowPs } } t) ∧
      (s.pair.actIn = false → actInQuiet s = false → Completes (.pairConfig q) s fun t =>
        Answers c .ok 0 (le 1 s.pair.state ++ zeros 3) s t ∧
        Books { s with pair := { s.pair with enable := true, claiming := true } } t)) := by
  obtain rfl := h.isReq
  have hon : decide (u8 c.req.body 0 = 1) = true := decide_eq_true h1
  obtain ⟨m, hm⟩ : ∃ m, m = markStarted c s := ⟨_, rfl⟩
  have hmb : mirrorBound m = mirrorBound s := by
    rw [hm]
    rfl
  have hme : m.pair.enable = s.pair.enable := by rw [hm, markStarted_pair]
  have hf : effPairConfig c m = if (true && !mirrorBound m) = true then .fail .notFound m
      else if true = m.pair.enable then .ok (le 1 m.pair.state ++ zeros 3) m
      else .ok (le 1 (enablePair m).pair.state ++ zeros 3) (enablePair m) := by
    unfold effPairConfig
    rw [hon]
    rfl
  refine ⟨fun hb => ?_, fun hb he => ?_, fun hb he => ?_⟩
  · rw [if_pos (by rw [hmb, hb]; rfl), hm] at hf
    exact h.reads (sp := specPairConfig) (eff := effPairConfig) rfl hf
  · rw [if_neg (by rw [hmb, hb]; decide), if_pos (by rw [hme, he]), hm] at hf
    exact h.reads (sp := specPairConfig) (eff := effPairConfig) rfl hf
  · rw [if_neg (by rw [hmb, hb]; decide), if_neg (by rw [hme, he]; decide), hm] at hf
    refine ⟨fun hi => ?_, fun hq => ?_, fun hi hq => ?_⟩
    · rw [enablePair_held (s := markStarted c s) hi] at hf
      exact h.changesPair (sp := specPairConfig) (eff := effPairConfig) rfl hf
    · rw [enablePair_quiet (s := markStarted c s) hq] at hf
      exact h.changesPair (sp := specPairConfig) (eff := effPairConfig) rfl hf
    · rw [enablePair_waits (s := markStarted c s) hi hq] at hf
      exact h.changesPair (sp := specPairConfig) (eff := effPairConfig) rfl hf

theorem pairConfig_disables (h1 : u8 q.body 0 ≠ 1) :
    (s.pair.enable = false → Completes (.pairConfig q) s fun t => Answers c .ok 0 (le 1 s.pair.state ++ zeros 3) s t ∧ Books s t) ∧
    (s.pair.enable = true → pairActive s = true → pairInStep s = true → q.force = false →
      Completes (.pairConfig q) s fun t => Answers c .busyService 0 [] s t ∧ Books s t) ∧
    (s.pair.enable = true → pairActive s = false ∨ pairInStep s = false ∨ q.force = true → Completes (.pairConfig q) s fun t =>
      Answers c .ok 0 (le 1 0 ++ zeros 3) s t ∧ t.pair.enable = false ∧ t.pair.state = 0 ∧ t.pair.actOut = false ∧
      t.pair.hold = [] ∧ t.pair.digests = []) := by
  obtain rfl := h.isReq
  have hoff : decide (u8 c.req.body 0 = 1) = false := decide_eq_false h1
  obtain ⟨m, hm⟩ : ∃ m, m = markStarted c s := ⟨_, rfl⟩
  have hme : m.pair.enable = s.pair.enable := by rw [hm, markStarted_pair]
  have hkept : (pairActive m && pairInStep m) = (pairActive s && pairInStep s) := by
    rw [hm]
    rfl
  have hf : effPairConfig c m = if false = m.pair.enable then .ok (le 1 m.pair.state ++ zeros 3) m
      else if (pairActive m && pairInStep m && !c.req.force) = true then .fail .busyService m
      else .ok (le 1 (disablePair m).pair.state ++ zeros 3) (disablePair m) := by
    unfold effPairConfig
    rw [hoff]
    rfl
  refine ⟨fun he => ?_, fun he ha hi hforce => ?_, fun he hno => ?_⟩
  · rw [if_pos (by rw [hme, he]), hm] at hf
    exact h.reads (sp := specPairConfig) (eff := effPairConfig) rfl hf
  · rw [if_neg (by rw [hme, he]; decide), if_pos (by rw [hkept, ha, hi, hforce]; rfl), hm] at hf
    exact h.reads (sp := specPairConfig) (eff := effPairConfig) rfl hf
  · have hnot : ¬ (pairActive m && pairInStep m && !c.req.force) = true := by
      rw [hkept]
      rcases hno with h | h | h <;> simp [h]
    have hx : m.cmd.executing = [{ c with started := true }] := by rw [hm, h.marked]
    obtain ⟨⟨p, hp⟩, hcmd, htick, hw⟩ := disablePair_leaves hx h.isOp
    rw [if_neg (by rw [hme, he]; decide), if_neg hnot] at hf
    have ho : Outer s (disablePair m) := (markStarted_books c s).outer.trans (hm ▸ hw.outer)
    obtain ⟨t, ht, ha, hb⟩ := h.completes (sp := specPairConfig) (eff := effPairConfig) rfl (hm ▸ hf) (hm ▸ hcmd)
      (hm ▸ htick.trans (by rw [hm, markStarted_clk])) (x := disablePair m) ho.pending ho.powered (congrArg Boot.inReset ho.boot) (hm ▸ .refl _)
    refine ⟨t, ht, ?_, ?_⟩
    · rw [← hm, hp] at ha
      exact ha
    · rw [hb.pair, hp]
      exact ⟨rfl, rfl, rfl, rfl, rfl⟩

end

/-! ## PAIR_SWITCH, PAIR_RESYNC and PAIR_QUERY -/

theorem pairSwitch_starts {q : CmdReq} {c : Cmd} {s : State} (h : Runs 0x0C01 q c s) :
    (pairActive s = false → Completes (.pairSwitch q) s fun t => Answers c .notFound 0 [] s t ∧ Books s t) ∧
    (pairActive s = true → s.pair.mirrorUp = false → Completes (.pairSwitch q) s fun t => Answers c .peerAbsent 0 [] s t ∧ Books s t) ∧
    (pairActive s = true → partnerReady s = true → s.pair.switch = none → Completes (.pairSwitch q) s fun t => GoesOn c t ∧
      t.pair.switch = some { atPs := s.clk.nowPs + 10000000, replayPs := s.clk.nowPs + 10000000, cause := 4 } ∧
      t.pair.loan = none ∧ t.pair.state = 1) := by
  obtain rfl := h.isReq
  refine ⟨fun ha => ?_, fun ha hm => ?_, fun ha hr hs => ?_⟩
  · exact h.reads (sp := specPairSwitch) (eff := effPairSwitch) rfl (if_pos (by rw [Bool.not_eq_true']; exact ha))
  · exact h.reads (sp := specPairSwitch) (eff := effPairSwitch) rfl ((if_neg (by rw [Bool.not_eq_true', Bool.not_eq_false]; exact ha)).trans
      (if_pos (by rw [Bool.not_eq_true']; exact hm)))
  · have hup : s.pair.mirrorUp = true := by
      simp only [partnerReady, Bool.and_eq_true] at hr
      exact hr.2
    obtain ⟨m, hm⟩ : ∃ m, m = markStarted c s := ⟨_, rfl⟩
    have hma : pairActive m = true := by rw [hm]; exact ha
    have hmr : partnerReady m = true := by rw [hm]; exact hr
    have hmu : m.pair.mirrorUp = true := by rw [hm]; exact hup
    have hms : m.pair.switch.isSome = false := by rw [hm, markStarted_pair, hs]; rfl
    have heff : effPairSwitch c m = .later (startSwitch 4 0 m) := by
      simp only [effPairSwitch, hma, hmr, hmu, hms, Bool.not_true, Bool.false_and, Bool.false_eq_true, if_false]
    have hb : Books { m with pair := { m.pair with
        switch := some { atPs := m.clk.nowPs + 10000000, replayPs := m.clk.nowPs + 10000000, cause := 4 }, loan := none } }
        (startSwitch 4 0 m) := (sendMirror_noted _ _ _).books
    have hcmd : (startSwitch 4 0 m).cmd = m.cmd := (sendMirror_noted _ _ { m with pair := _ }).cmd
    refine h.goesOn (sp := specPairSwitch) (eff := effPairSwitch) rfl (hm ▸ heff) ?_
    rw [← hm, ((markStarted_books c s).outer.trans (hm ▸ startSwitch_outer 4 0 m)).keep]
    refine ⟨?_, ?_, ?_, ?_⟩
    · rw [GoesOn, hcmd, hm]
      exact congrArg CmdState.executing h.marked
    · rw [hb.pair, hm]
      rfl
    · rw [hb.pair]
    · rw [hb.pair]
      exact (pairActive_iff.1 hma).2

theorem pairResync_starts {q : CmdReq} {c : Cmd} {s : State} (h : Runs 0x0C02 q c s) :
    (pairStandby s = false → Completes (.pairResync q) s fun t => Answers c .notFound 0 [] s t ∧ Books s t) ∧
    (pairStandby s = true → s.pair.mirrorUp = false → Completes (.pairResync q) s fun t => Answers c .peerAbsent 0 [] s t ∧ Books s t) ∧
    (pairStandby s = true → s.pair.mirrorUp = true → Completes (.pairResync q) s fun t => GoesOn c t ∧
      t.pair.state = 2 ∧ t.pair.attempt = 1 ∧ t.pair.pass = 0) := by
  obtain rfl := h.isReq
  have hno {b : Bool} (hb : b = true) : ¬ (!b) = true := by rw [hb]; decide
  have hyes {b : Bool} (hb : b = false) : (!b) = true := by rw [hb]; rfl
  refine ⟨fun ha => ?_, fun ha hm => ?_, fun ha hm => ?_⟩
  · exact h.reads (sp := specPairResync) (eff := effPairResync) rfl (if_pos (hyes ha))
  · exact h.reads (sp := specPairResync) (eff := effPairResync) rfl ((if_neg (hno ha)).trans (if_pos (hyes hm)))
  · have heff : effPairResync c (markStarted c s) = .later (enterResync (markStarted c s)) := (if_neg (hno ha)).trans (if_neg (hno hm))
    refine h.goesOn (sp := specPairResync) (eff := effPairResync) rfl heff ⟨congrArg CmdState.executing h.marked, rfl, ?_, rfl⟩
    exact if_pos hm

theorem pairQuery_answers {q : CmdReq} {c : Cmd} {s : State} (h : Runs 0x0C03 q c s) : Completes (.pairQuery q) s fun t =>
    Answers c .ok 0 (le 4 (pairStatus s) ++ le 4 (pairHealth s) ++ le 4 (pairResyncWord s) ++ le 4 s.pair.lastSwitch.toNat) s t ∧ Books s t := by
  obtain rfl := h.isReq
  exact h.reads (sp := specPairQuery) (eff := effPairQuery) rfl rfl

/-- Settles O50: each command of the pair by its own answers. -/
theorem pairCommandsAnswer : Obligations.PairCommandsAnswer := by
  unfold Obligations.PairCommandsAnswer
  intro q c s
  refine ⟨fun h => ?_, pairSwitch_starts, pairResync_starts, pairQuery_answers⟩
  refine ⟨fun h1 => (pairConfig_enables h h1).1, fun h1 => (pairConfig_enables h h1).2.1, fun h1 => (pairConfig_enables h h1).2.2,
    fun h1 => (pairConfig_disables h h1).1, fun h1 => (pairConfig_disables h h1).2.1, fun h1 => (pairConfig_disables h h1).2.2⟩

end Sys2Proof.Machine
end

section
/-!
PROOFS. Frames of the mirror link (15 R358, R361, R365).
-/

namespace Sys2Proof.Machine

/-! ## A received frame: key, share, tag (R358) -/

theorem rxShare_rest {link phase bytes : Nat} {s u : State} {b : Bool} (h : rxShare link phase bytes s = (b, u)) :
    u = { s with cipher := u.cipher } := by
  unfold rxShare at h
  split at h
  · cases h
    rfl
  · dsimp only at h
    split at h
    · cases h
      rfl
    · cases h
      rfl

/-- The state in which a mirror frame's counter is accepted. -/
def mirrorAccepted (k : Seal) (u : State) : State := { u with pair := { u.pair with rxCount := k.counter + 1 } }

section
variable {s u : State} {h : FrameFields} {field : Bytes} {k : Seal} (act : State → State)

theorem mirrorRx_unkeyed (hk : mirrorSeal h s = none) : mirrorRx h field act s = count .linkKeyInvalid 33 s := by
  unfold mirrorRx
  rw [hk]
  rfl

theorem mirrorRx_overrun (hk : mirrorSeal h s = some k) (hu : rxShare 33 (b2n h.keyPhase) h.length.toNat s = (false, u)) :
    mirrorRx h field act s = count .cipherRxOverrun 33 u := by
  unfold mirrorRx
  rw [hk]
  dsimp only [mirrorLink]
  rw [hu]

theorem mirrorRx_forged (hk : mirrorSeal h s = some k) (hu : rxShare 33 (b2n h.keyPhase) h.length.toNat s = (true, u))
    (ho : openField (bodyOf h) h.length.toNat field (some k) = none) : mirrorRx h field act s = count .linkAuthFail 33 u := by
  unfold mirrorRx
  rw [hk]
  dsimp only [mirrorLink]
  rw [hu]
  dsimp only
  rw [ho]

theorem mirrorRx_opens {data : Bytes} (hk : mirrorSeal h s = some k) (hu : rxShare 33 (b2n h.keyPhase) h.length.toNat s = (true, u))
    (ho : openField (bodyOf h) h.length.toNat field (some k) = some data) : mirrorRx h field act s = act (mirrorAccepted k u) := by
  unfold mirrorRx
  rw [hk]
  dsimp only [mirrorLink]
  rw [hu]
  dsimp only
  rw [ho]
  rfl

theorem rxShare_outer {b : Bool} (hu : rxShare 33 (b2n h.keyPhase) h.length.toNat s = (b, u)) : Outer s u := by
  rw [rxShare_rest hu]
  exact ⟨rfl, rfl, rfl⟩

/-- A frame without a loaded key is counted, and nothing else. -/
theorem mirrorFrame_unkeyed (hon : On s) (hk : mirrorSeal h s = none) :
    (Host.Outcome.next (live (mirrorRx h field act) s) : Host.Outcome State Fault Refusal) = .next (count .linkKeyInvalid 33 s) :=
  congrArg _ (live_eq hon (mirrorRx_unkeyed act hk) (count_books _ _ s).outer)

theorem mirrorFrame_overrun (hon : On s) (hk : mirrorSeal h s = some k) (hu : rxShare 33 (b2n h.keyPhase) h.length.toNat s = (false, u)) :
    (Host.Outcome.next (live (mirrorRx h field act) s) : Host.Outcome State Fault Refusal) = .next (count .cipherRxOverrun 33 u) :=
  congrArg _ (live_eq hon (mirrorRx_overrun act hk hu) ((rxShare_outer hu).trans (count_books _ _ u).outer))

theorem mirrorFrame_forged (hon : On s) (hk : mirrorSeal h s = some k) (hu : rxShare 33 (b2n h.keyPhase) h.length.toNat s = (true, u))
    (ho : openField (bodyOf h) h.length.toNat field (some k) = none) :
    (Host.Outcome.next (live (mirrorRx h field act) s) : Host.Outcome State Fault Refusal) = .next (count .linkAuthFail 33 u) :=
  congrArg _ (live_eq hon (mirrorRx_forged act hk hu ho) ((rxShare_outer hu).trans (count_books _ _ u).outer))

end

/-- What an accepted frame finds: the state before it, but for the share of the engines and the counter. -/
structure Accepted (s : State) (k : Seal) (v : State) : Prop where
  rest : v = { s with cipher := v.cipher, pair := { s.pair with rxCount := k.counter + 1 } }

theorem Accepted.outer {s v : State} {k : Seal} (h : Accepted s k v) : Outer s v := by
  rw [h.rest]
  exact ⟨rfl, rfl, rfl⟩

theorem Accepted.pair {s v : State} {k : Seal} (h : Accepted s k v) : v.pair = { s.pair with rxCount := k.counter + 1 } :=
  (congrArg State.pair h.rest :)

theorem Accepted.cmd {s v : State} {k : Seal} (h : Accepted s k v) : v.cmd = s.cmd := (congrArg State.cmd h.rest :)

theorem Accepted.tbl {s v : State} {k : Seal} (h : Accepted s k v) : v.tbl = s.tbl := (congrArg State.tbl h.rest :)

theorem Accepted.cnt {s v : State} {k : Seal} (h : Accepted s k v) : v.cnt = s.cnt := (congrArg State.cnt h.rest :)

theorem Accepted.mem {s v : State} {k : Seal} (h : Accepted s k v) : v.mem = s.mem := (congrArg State.mem h.rest :)

theorem Accepted.standby {s v : State} {k : Seal} (h : Accepted s k v) : pairStandby v = pairStandby s := by
  simp only [pairStandby, h.pair]

theorem accepted_of_share {s u : State} {h : FrameFields} {b : Bool} (k : Seal) (hu : rxShare 33 (b2n h.keyPhase) h.length.toNat s = (b, u)) :
    Accepted s k (mirrorAccepted k u) := by
  refine ⟨?_⟩
  rw [rxShare_rest hu]
  rfl

/-! ## Replicated commands and data (R361) -/

section
variable {s v : State} {k : Seal} (ha : Accepted s k v) (hst : pairStandby s = true)

/-- What a standby does with a replicated command or with data. -/
def takeMirror (r : MirrorData) (s : State) : State :=
  if !pairStandby s then s
  else
    match r with
    | .command op q tick => takeReplicated op q tick s
    | .flow f words => noteApplied r (setFlow f (words.flatMap (fun w => le 4 w.toNat)) s)
    | .staged n words =>
      noteApplied r (if isolated (n / 262144) s then s else setEntry n (BitVec.ofNat 128 (leNat (words.flatMap (fun w => le 4 w.toNat)))) s)
    | .allocId c id => noteApplied r { s with pair := { s.pair with shadowIds := SMap.set none s.pair.shadowIds c.val id } }

theorem execMirrorReplicatedRx_eq (f : FrameFields) (field : Bytes) (r : MirrorData) :
    execMirrorReplicatedRx f field r = mirrorRx f field (takeMirror r) := rfl

include ha hst

theorem Accepted.takes : ¬ (!pairStandby v) = true := by simp [ha.standby, hst]

theorem takeMirror_command (op : Nat) (q : CmdReq) (tick : Word) (hq : q.atTick = false) :
    (∃ c, (takeMirror (.command op q tick) v).cmd.pendingSet = s.cmd.pendingSet ++ [c] ∧ c.op = op ∧ c.req = { q with src := .mirror } ∧
        c.due = some (tick + 2)) ∧
      (takeMirror (.command op q tick) v).cmd.executing = s.cmd.executing ∧
      (takeMirror (.command op q tick) v).pair.rxCount = k.counter + 1 ∧ Outer s (takeMirror (.command op q tick) v) := by
  have hf : takeMirror (.command op q tick) v = { v with cmd := { v.cmd with
      nextSeq := v.cmd.nextSeq + 1
      pendingSet := v.cmd.pendingSet ++ [{ op, req := { q with src := .mirror }, seq := v.cmd.nextSeq, tick := v.clk.tick
                                           due := some (tick + 2), late := false, origin := some q.src }] } } := by
    refine (if_neg (ha.takes hst)).trans ?_
    simp only [takeReplicated, hq, newCmd, Bool.false_and, Bool.false_eq_true, if_false]
  rw [hf]
  refine ⟨⟨{ op, req := { q with src := .mirror }, seq := v.cmd.nextSeq, tick := v.clk.tick
             due := some (tick + 2), late := false, origin := some q.src }, ?_, rfl, rfl, rfl⟩, ?_, ?_, ha.outer.trans ⟨rfl, rfl, rfl⟩⟩
  · dsimp only
    rw [ha.cmd]
  · dsimp only
    rw [ha.cmd]
  · dsimp only
    rw [ha.pair]

theorem takeMirror_flow (f : Nat) (ws : List Word) :
    (takeMirror (.flow f ws) v).tbl = (setFlow f (ws.flatMap (fun w => le 4 w.toNat)) s).tbl ∧
      (takeMirror (.flow f ws) v).pair.applied = s.pair.applied ++ Config.mirrorFrame (.flow f ws) ∧ Outer s (takeMirror (.flow f ws) v) := by
  have hf : takeMirror (.flow f ws) v = noteApplied (.flow f ws) (setFlow f (ws.flatMap (fun w => le 4 w.toNat)) v) := if_neg (ha.takes hst)
  rw [hf]
  refine ⟨?_, ?_, ha.outer.trans ⟨rfl, rfl, rfl⟩⟩
  · show (setFlow f _ v).tbl = (setFlow f _ s).tbl
    simp only [setFlow, ha.tbl]
  · show v.pair.applied ++ _ = _
    rw [ha.pair]

theorem takeMirror_staged (n : Nat) (ws : List Word) (hi : isolated (n / 262144) s = false) :
    (takeMirror (.staged n ws) v).tbl = (setEntry n (BitVec.ofNat 128 (leNat (ws.flatMap (fun w => le 4 w.toNat)))) s).tbl ∧
      Outer s (takeMirror (.staged n ws) v) := by
  have hiv : isolated (n / 262144) v = false := by
    rw [isolated, ha.tbl]
    exact hi
  have hf : takeMirror (.staged n ws) v =
      noteApplied (.staged n ws) (setEntry n (BitVec.ofNat 128 (leNat (ws.flatMap (fun w => le 4 w.toNat)))) v) :=
    (if_neg (ha.takes hst)).trans (congrArg (noteApplied (.staged n ws)) (if_neg (Bool.eq_false_iff.1 hiv)))
  rw [hf]
  refine ⟨?_, ha.outer.trans ⟨rfl, rfl, rfl⟩⟩
  show (setEntry n _ v).tbl = (setEntry n _ s).tbl
  simp only [setEntry, ha.tbl]

theorem takeMirror_allocId (c : Fin 1024) (id : Option Nat) :
    (takeMirror (.allocId c id) v).pair.shadowIds = SMap.set none s.pair.shadowIds c.val id ∧ Outer s (takeMirror (.allocId c id) v) := by
  have hf : takeMirror (.allocId c id) v =
      noteApplied (.allocId c id) { v with pair := { v.pair with shadowIds := SMap.set none v.pair.shadowIds c.val id } } := if_neg (ha.takes hst)
  rw [hf]
  refine ⟨?_, ha.outer.trans ⟨rfl, rfl, rfl⟩⟩
  show SMap.set none v.pair.shadowIds c.val id = _
  rw [ha.pair]

end

/-! ## Bulk copies (R365) -/

/-- A byte takes its place in a word. -/
def placeByte (w : Word) (k : Nat) (b : Byte) : Word :=
  BitVec.ofNat 32 (w.toNat - w.toNat / 2 ^ (8 * k) % 256 * 2 ^ (8 * k) + b.toNat * 2 ^ (8 * k))

/-- The four bytes of a word, placed one after another, are that word. -/
theorem placeByte_all (w v : Word) : placeByte (placeByte (placeByte (placeByte w 0 (BitVec.ofNat 8 v.toNat))
    1 (BitVec.ofNat 8 (v.toNat / 256))) 2 (BitVec.ofNat 8 (v.toNat / 256 / 256))) 3 (BitVec.ofNat 8 (v.toNat / 256 / 256 / 256)) = v := by
  have hplace (w : Word) (k : Nat) (b : Byte) : (placeByte w k b).toNat =
      (w.toNat - w.toNat / 2 ^ (8 * k) % 256 * 2 ^ (8 * k) + b.toNat * 2 ^ (8 * k)) % 2 ^ 32 := BitVec.toNat_ofNat _ _
  have hw := w.isLt
  have hv := v.isLt
  obtain ⟨w0, h0⟩ : ∃ x, x = placeByte w 0 (BitVec.ofNat 8 v.toNat) := ⟨_, rfl⟩
  obtain ⟨w1, h1⟩ : ∃ x, x = placeByte w0 1 (BitVec.ofNat 8 (v.toNat / 256)) := ⟨_, rfl⟩
  obtain ⟨w2, h2⟩ : ∃ x, x = placeByte w1 2 (BitVec.ofNat 8 (v.toNat / 256 / 256)) := ⟨_, rfl⟩
  have e0 : w0.toNat % 256 = v.toNat % 256 := by
    have := congrArg BitVec.toNat h0
    rw [hplace, BitVec.toNat_ofNat] at this
    simp only [Nat.reduceMul, Nat.reducePow] at this
    omega
  have e1 : w1.toNat % 65536 = v.toNat % 65536 := by
    have := congrArg BitVec.toNat h1
    rw [hplace, BitVec.toNat_ofNat] at this
    simp only [Nat.reduceMul, Nat.reducePow] at this
    have := w0.isLt
    omega
  have e2 : w2.toNat % 16777216 = v.toNat % 16777216 := by
    have := congrArg BitVec.toNat h2
    rw [hplace, BitVec.toNat_ofNat] at this
    simp only [Nat.reduceMul, Nat.reducePow] at this
    have := w1.isLt
    omega
  rw [← h0, ← h1, ← h2]
  apply BitVec.eq_of_toNat_eq
  rw [hplace, BitVec.toNat_ofNat]
  simp only [Nat.reduceMul, Nat.reducePow]
  have := w2.isLt
  omega

/-- A byte of the counters' group. -/
theorem bulkByte_counter (a : Nat) (b : Byte) (s : State) : bulkByte 34 a b s =
    { s with cnt := { s.cnt with value := SMap.modify 0 s.cnt.value (a / 4) (fun w => placeByte w (a % 4) b) } } := rfl

/-- What a standby does with a bulk copy's bytes. -/
def takeBulk (group addr : Nat) (bytes : Bytes) (s : State) : State :=
  if pairStandby s && decide (s.pair.state = 2) then (bytes.zipIdx).foldl (fun s e => bulkByte group (addr + e.2) e.1 s) s else s

theorem execMirrorBulkCopyRx_eq (f : FrameFields) (field : Bytes) (group addr : Nat) (bytes : Bytes) :
    execMirrorBulkCopyRx f field group addr bytes = mirrorRx f field (takeBulk group addr bytes) := rfl

/-- A copied counter word holds the copied value, and no other counter changes. -/
theorem takeBulk_counter {s : State} (n : Nat) (v : Word) (hst : pairStandby s = true) (h2 : s.pair.state = 2) :
    ∃ c, takeBulk 34 (4 * n) (le 4 v.toNat) s = { s with cnt := c } ∧ SMap.get 0 c.value n = v ∧
      ∀ j, j ≠ n → SMap.get 0 c.value j = SMap.get 0 s.cnt.value j := by
  have hdiv (k : Nat) (hk : k < 4) : (4 * n + k) / 4 = n := by omega
  have hmod (k : Nat) (hk : k < 4) : (4 * n + k) % 4 = k := by omega
  have hbytes : (le 4 v.toNat).zipIdx = [(BitVec.ofNat 8 v.toNat, 0), (BitVec.ofNat 8 (v.toNat / 256), 1),
    (BitVec.ofNat 8 (v.toNat / 256 / 256), 2), (BitVec.ofNat 8 (v.toNat / 256 / 256 / 256), 3)] := rfl
  refine ⟨(takeBulk 34 (4 * n) (le 4 v.toNat) s).cnt, ?_, ?_, fun j hj => ?_⟩ <;>
    rw [takeBulk, if_pos (by simp [hst, h2]), hbytes] <;>
    simp only [List.foldl_cons, List.foldl_nil, bulkByte_counter, hdiv, hmod, Nat.zero_lt_succ, Nat.reduceLT]
  · simp only [SMap.get_modify_same]
    exact placeByte_all _ v
  · simp only [SMap.get_modify_other _ hj]

theorem takeBulk_other {s : State} (g a : Nat) (x : Bytes) (h2 : s.pair.state ≠ 2) : takeBulk g a x s = s :=
  if_neg (by simp [h2])

/-! ## Scratchpad writes and keys (R358; 14 R341, 13 R327) -/

theorem execMirrorScratchWriteRx_eq (f : FrameFields) (field : Bytes) (a : Nat) (x : Bytes) :
    execMirrorScratchWriteRx f field a x = mirrorRx f field (fun s => if s.pair.enable then scratchPortB a x s else s) := rfl

/-- What a standby does with a key. -/
def takeKey (slot : Nat) (key : Bytes) (aes256 : Bool) (s : State) : State :=
  if pairStandby s then
    { s with cipher := { s.cipher with slots := SMap.set {} s.cipher.slots slot { loaded := true, aes256, key := fit 32 key } } }
  else s

theorem execMirrorKeyTransferRx_eq (f : FrameFields) (field : Bytes) (n : Nat) (key : Bytes) (z : Bool) :
    execMirrorKeyTransferRx f field n key z = mirrorRx f field (takeKey n key z) := rfl

theorem scratchPortB_writes {a : Nat} {bs : Bytes} {s : State} (hlo : generalLo ≤ a) (hhi : a + bs.length ≤ generalHi)
    (hseq : s.mem.seqHolder ≠ 1) :
    (scratchPortB a bs s).mem.scratch = SMap.setBytes 0 s.mem.scratch a bs ∧ (scratchPortB a bs s).mem.badWords = s.mem.badWords ∧
      Outer s (scratchPortB a bs s) := by
  have hin : ¬ (a < generalLo ∨ generalHi < a + bs.length) := by omega
  rw [scratchPortB, if_neg hin, if_neg hseq]
  exact ⟨rfl, rfl, ⟨rfl, rfl, rfl⟩⟩

theorem scratchPortB_refuses {a : Nat} {bs : Bytes} {s : State} (h : a < generalLo ∨ generalHi < a + bs.length) :
    scratchPortB a bs s = count .scratchBRefused 0 s := if_pos h

/-- Settles O49: a frame is judged by key, share and tag, and then does what its kind says. -/
theorem mirrorFramesTakeEffect : Obligations.MirrorFramesTakeEffect := by
  unfold Obligations.MirrorFramesTakeEffect
  intro s u h field hon
  refine ⟨fun hk => ⟨fun _ => mirrorFrame_unkeyed _ hon hk, fun _ _ _ => mirrorFrame_unkeyed _ hon hk,
      fun _ _ => mirrorFrame_unkeyed _ hon hk, fun _ _ _ => mirrorFrame_unkeyed _ hon hk⟩,
    fun k hk hu => ⟨fun _ => mirrorFrame_overrun _ hon hk hu, fun _ _ _ => mirrorFrame_overrun _ hon hk hu,
      fun _ _ => mirrorFrame_overrun _ hon hk hu, fun _ _ _ => mirrorFrame_overrun _ hon hk hu⟩,
    fun k hk hu => ⟨fun ho => ⟨fun _ => mirrorFrame_forged _ hon hk hu ho, fun _ _ _ => mirrorFrame_forged _ hon hk hu ho,
      fun _ _ => mirrorFrame_forged _ hon hk hu ho, fun _ _ _ => mirrorFrame_forged _ hon hk hu ho⟩, fun data ho => ?_⟩⟩
  have ha : Accepted s k (mirrorAccepted k u) := accepted_of_share k hu
  have hopens (act : State → State) : mirrorRx h field act s = act (mirrorAccepted k u) := mirrorRx_opens act hk hu ho
  refine ⟨fun hst => ⟨fun op q tick hq => ?_, fun f ws => ?_, fun n ws hi => ?_, fun c id => ?_, fun n v h2 => ?_, fun g a x h2 => ?_,
    fun n key z => ?_⟩, fun he hseq => ⟨fun a bs hlo hhi => ?_, fun a bs hout => ?_⟩⟩
  · obtain ⟨hp, hx, hc, hout⟩ := takeMirror_command ha hst op q tick hq
    exact live_completes hon _ (hopens _) hout ⟨hp, hx, hc⟩
  · obtain ⟨ht, hp, hout⟩ := takeMirror_flow ha hst f ws
    exact live_completes hon _ (hopens _) hout ⟨ht, hp⟩
  · obtain ⟨ht, hout⟩ := takeMirror_staged ha hst n ws hi
    exact live_completes hon _ (hopens _) hout ht
  · obtain ⟨hp, hout⟩ := takeMirror_allocId ha hst c id
    exact live_completes hon _ (hopens _) hout hp
  · obtain ⟨c, hf, hn, hother⟩ := takeBulk_counter n v (ha.standby.trans hst) (by rw [ha.pair]; exact h2)
    refine live_completes hon _ ((hopens _).trans hf) (ha.outer.trans ⟨rfl, rfl, rfl⟩) ⟨hn, fun j hj => ?_, ha.tbl⟩
    rw [hother j hj, ha.cnt]
  · exact congrArg _ (live_eq hon ((hopens _).trans (takeBulk_other g.val a x (by rw [ha.pair]; exact h2))) ha.outer)
  · have hkey : takeKey n.toNat key z (mirrorAccepted k u) = _ := if_pos (ha.standby.trans hst)
    exact congrArg Host.Outcome.next (live_eq hon ((hopens (takeKey n.toNat key z)).trans hkey) (ha.outer.trans ⟨rfl, rfl, rfl⟩))
  · have hen : (mirrorAccepted k u).pair.enable = true := by
      rw [ha.pair]
      exact he
    obtain ⟨hs, hb, hout⟩ := scratchPortB_writes hlo hhi (s := mirrorAccepted k u) (by rw [ha.mem]; exact hseq)
    refine live_completes hon _ ((hopens _).trans (if_pos hen)) (ha.outer.trans hout) ⟨?_, ?_⟩
    · rw [hs, ha.mem]
    · rw [hb, ha.mem]
  · have hen : (mirrorAccepted k u).pair.enable = true := by
      rw [ha.pair]
      exact he
    have hb := count_books .scratchBRefused 0 (mirrorAccepted k u)
    exact live_completes hon _ ((hopens _).trans ((if_pos hen).trans (scratchPortB_refuses hout))) (ha.outer.trans hb.outer)
      (hb.mem.trans ha.mem)

end Sys2Proof.Machine
end

section
/-!
PROOFS. The commands of the counters (18 R406–R414).
-/

namespace Sys2Proof.Machine

/-! ## What counting reaches of the counters (18 R405–R407) -/

/-- From s to t the counters' values and OVF bits alone have changed. -/
structure CountsOnly (s t : State) : Prop where
  chained : t.cnt.chained = s.cnt.chained
  userBase : t.cnt.userBase = s.cnt.userBase

theorem CountsOnly.of_cnt {s t : State} (h : t.cnt = s.cnt) : CountsOnly s t := ⟨congrArg Cnt.chained h, congrArg Cnt.userBase h⟩

theorem CountsOnly.refl (s : State) : CountsOnly s s := .of_cnt rfl

theorem CountsOnly.trans {s t u : State} (h : CountsOnly s t) (k : CountsOnly t u) : CountsOnly s u :=
  ⟨k.chained.trans h.chained, k.userBase.trans h.userBase⟩

theorem addRaw_keeps (k n : Nat) (c : Cnt) : (addRaw k n c).1.chained = c.chained ∧ (addRaw k n c).1.userBase = c.userBase := by
  unfold addRaw
  dsimp only
  split
  · exact ⟨rfl, rfl⟩
  · split
    · split <;> exact ⟨rfl, rfl⟩
    · exact ⟨rfl, rfl⟩

theorem CountsOnly.emit {s t : State} (h : CountsOnly s t) (o : Out) : CountsOnly s (Machine.emit o t) := ⟨h.chained, h.userBase⟩

theorem putLane_cnt (n : Nat) (x : Out) (s : State) : (putLane n x s).cnt = s.cnt := by
  unfold putLane
  split
  · split
    · split <;> rfl
    · rfl
  · rfl

theorem pushEvent_countsOnly (e : Ev) (k i d : Nat) (s : State) : CountsOnly s (pushEvent e k i d s) := by
  have hevt (x : Evt) : CountsOnly s { s with evt := x } := ⟨rfl, rfl⟩
  have hup (c : Carried) (s : State) : CountsOnly s (sendUp c s).2 := by
    unfold sendUp
    split
    · exact ⟨(addRaw_keeps _ _ _).1, (addRaw_keeps _ _ _).2⟩
    · exact .of_cnt (putLane_cnt _ _ _)
  have hcopy (r : Rec) (s : State) : CountsOnly s (copyEvent r s) := by
    unfold copyEvent
    split
    · exact .refl s
    · exact hup _ s
  unfold pushEvent enterEvent
  dsimp only
  split
  · split
    · exact .emit (.trans (hevt _) (hcopy _ _)) _
    · exact .trans (hevt _) (hcopy _ _)
  · exact ⟨rfl, rfl⟩

theorem raiseOvf_countsOnly (k : Nat) (s : State) : CountsOnly s (raiseOvf k s) := by
  obtain ⟨u, hu⟩ : ∃ u : State, u = { s with cnt := (addRaw Ev.counterOvf.counter 1 s.cnt).1 } := ⟨_, rfl⟩
  have hsu : CountsOnly s u := by
    rw [hu]
    exact ⟨(addRaw_keeps _ _ _).1, (addRaw_keeps _ _ _).2⟩
  have hf : raiseOvf k s = if (addRaw Ev.counterOvf.counter 1 s.cnt).2 then
      pushEvent .counterOvf 0 0 Ev.counterOvf.counter (pushEvent .counterOvf 0 0 k u) else pushEvent .counterOvf 0 0 k u := by
    rw [hu]
    rfl
  rw [hf]
  split
  · exact hsu.trans ((pushEvent_countsOnly _ _ _ _ u).trans (pushEvent_countsOnly _ _ _ _ _))
  · exact hsu.trans (pushEvent_countsOnly _ _ _ _ u)

theorem addCounter_countsOnly (k n : Nat) (s : State) : CountsOnly s (addCounter k n s) := by
  have note (x : Bool) : CountsOnly s { noteRc (incrementNotes + k) 0 n (if x then hwSet ovfStamps (ovfIndex k s.cnt) s else s) with
      cnt := (addRaw k n s.cnt).1 } := ⟨(addRaw_keeps _ _ _).1, (addRaw_keeps _ _ _).2⟩
  unfold addCounter
  dsimp only
  split
  · exact (note _).trans (raiseOvf_countsOnly _ _)
  · exact note _

/-! ## Completing a ring's command (02 R46, R49) -/

section
variable {sp : CmdSpec} {eff : Cmd → State → Res} {q : CmdReq} {c : Cmd} {s u : State} {st : Status} {d : Nat} {p : Bytes}

theorem deliverReply_executing {n : Fin 4} {r : Reply} (hr : r.src = .ring n) : (deliverReply r u).cmd.executing = u.cmd.executing := by
  simp only [deliverReply, hr]
  split
  · rw [(count_noted _ _ _).cmd]
  · rfl

/-- A command of a ring that completes alone: its reply waits, and where that makes 64 the stall is counted. -/
theorem complete_ring {c' : Cmd} {n : Fin 4} (hx : u.cmd.executing = [c']) (hs : c'.seq = c.seq) (hm : c.mute = false)
    (hr : c.req.src = .ring n) : ∃ r : Reply, r.src = .ring n ∧
      complete c st d p u = deliverReply r { u with cmd := { u.cmd with executing := [] } } := by
  obtain ⟨r, hreply⟩ : ∃ r : Reply, r = {
    op := c.op, tag := c.req.tag, status := (if c.restarted && decide (st = .ok) then .restarted else st)
    detail := b2n (c.late && true) + 256 * d, tick := u.clk.tick, payload := p, src := c.req.src, last := true } := ⟨_, rfl⟩
  have hsrc : r.src = .ring n := by
    rw [hreply]
    exact hr
  have hgone : u.cmd.executing.filter (fun e => e.seq ≠ c.seq) = [] := by simp [hx, hs]
  have hreplied : complete c st d p u = sweepNops (deliverReply r { u with cmd := { u.cmd with executing := [] } }) := by
    unfold complete replyTo
    dsimp only
    rw [hgone, if_neg (hm ▸ Bool.false_ne_true : ¬ c.mute = true), hreply]
  refine ⟨r, hsrc, ?_⟩
  rw [hreplied, sweepNops, deliverReply_executing hsrc]
  rfl

theorem deliverReply_ring {n : Fin 4} {r : Reply} (hr : r.src = .ring n) :
    CountsOnly u (deliverReply r u) ∧ (u.cmd.waiting.length < 63 → (deliverReply r u).cnt = u.cnt) := by
  have hcmd (x : CmdState) : CountsOnly u { u with cmd := x } := ⟨rfl, rfl⟩
  simp only [deliverReply, hr]
  constructor
  · split
    · exact .trans (hcmd _) (addCounter_countsOnly _ _ _)
    · exact ⟨rfl, rfl⟩
  · intro hw
    rw [if_neg]
    simp only [List.length_append, List.length_singleton, Bool.and_eq_true, decide_eq_true_eq]
    omega

/-- A command that runs alone and is done answers, and leaves the counters as its effect has them, while its reply begins no stall. -/
theorem Runs.completesCnt (h : Runs sp.op q c s) (hl : sp.lease q s = none) (he : eff c (markStarted c s) = .done st d p u)
    (hc : u.cmd = (markStarted c s).cmd) (ht : u.clk.tick = s.clk.tick) {x : State}
    (hp : x.pending = s.pending) (hh : x.hot.powered = s.hot.powered) (hb : x.boot.inReset = s.boot.inReset) (hu : Books x u) :
    ∃ t, (Host.Outcome.next (live (runCmd sp eff q) s) : Host.Outcome State Fault Refusal) = .next t ∧
      Answers c st d p s t ∧ Books x t ∧ CountsOnly u t ∧ (s.cmd.waiting.length < 63 → t.cnt = u.cnt) := by
  obtain ⟨t, hx, ha, hbt⟩ := h.completes hl he hc ht hp hh hb hu
  refine ⟨t, hx, ha, hbt, ?_⟩
  obtain ⟨n, hn⟩ := h.ring
  have hr : c.req.src = .ring n := by rw [h.isReq, hn]
  have hrun : runCmd sp eff q s = complete c st d p u := by
    unfold runCmd
    rw [h.found]
    simp [executeNow, execute, h.calm, h.first, h.isReq, hl, he]
  have hxu : u.cmd.executing = [{ c with started := true }] := by rw [hc, h.marked]
  obtain ⟨r, hsrc, hf⟩ := complete_ring (c := c) (st := st) (d := d) (p := p) hxu rfl h.heard hr
  obtain ⟨hcounts, hcnt⟩ := deliverReply_ring (u := { u with cmd := { u.cmd with executing := [] } }) hsrc
  have htc : t.cnt = (deliverReply r { u with cmd := { u.cmd with executing := [] } }).cnt := by
    rw [← hf, ← hrun]
    cases hx
    rw [live_on h.on]
    rfl
  refine ⟨.trans (t := { u with cmd := { u.cmd with executing := [] } }) ⟨rfl, rfl⟩ (hcounts.trans (.of_cnt htc)), fun hw => ?_⟩
  rw [htc, hcnt]
  show u.cmd.waiting.length < 63
  rw [hc, h.marked]
  exact hw

end

/-! ## COUNTER_CONFIG, COUNTER_CHAIN and BW_CONFIG (R407, R411–R413) -/

theorem counterConfig_sets {q : CmdReq} {c : Cmd} {s : State} (h : Runs 0x0E00 q c s) : Completes (.counterConfig q) s fun t =>
    Answers c .ok 0 [] s t ∧ t.cnt.userBase = BitVec.ofNat 6 (u8 q.body 0) ∧ t.bw = s.bw := by
  obtain rfl := h.isReq
  obtain ⟨t, ht, ha, hb, hc, -⟩ := h.completesCnt (sp := specCounterConfig) (eff := effCounterConfig) rfl rfl rfl rfl
    (x := { markStarted c s with cnt := { s.cnt with userBase := BitVec.ofNat 6 (u8 c.req.body 0) } }) rfl rfl rfl rfl
  exact ⟨t, ht, ha, hc.userBase, hb.bw⟩

theorem counterChain_chains {q : CmdReq} {c : Cmd} {s : State} {k : Nat} (hk : k = u32 q.body 0) (h : Runs 0x0E01 q c s) :
    (u8 q.body 4 = 0 → SMap.get false s.cnt.chained k = false → s.cmd.waiting.length < 63 → Completes (.counterChain q) s fun t =>
      Answers c .ok 0 [] s t ∧ SMap.get false t.cnt.chained k = true ∧ SMap.get 0 t.cnt.value (k + 1) = 0 ∧
      ∀ j, j ≠ k + 1 → SMap.get 0 t.cnt.value j = SMap.get 0 s.cnt.value j) ∧
    (u8 q.body 4 ≠ 0 → Completes (.counterChain q) s fun t => Answers c .ok 0 [] s t ∧
      SMap.get false t.cnt.chained k = false ∧ ∀ j, j ≠ k → SMap.get false t.cnt.chained j = SMap.get false s.cnt.chained j) := by
  subst hk
  obtain rfl := h.isReq
  constructor
  · intro hon hfree hw
    obtain ⟨t, ht, ha, -, -, hc⟩ := h.completesCnt (sp := specCounterChain) (eff := effCounterChain) rfl
      ((if_pos hon).trans (if_neg (Bool.eq_false_iff.1 hfree))) rfl rfl
      (x := { markStarted c s with cnt := { s.cnt with
        chained := SMap.set false s.cnt.chained (u32 c.req.body 0) true, value := SMap.set 0 s.cnt.value (u32 c.req.body 0 + 1) 0 } })
      rfl rfl rfl rfl
    refine ⟨t, ht, ha, ?_⟩
    have hchained : t.cnt.chained = SMap.set false s.cnt.chained (u32 c.req.body 0) true := congrArg Cnt.chained (hc hw)
    have hvalue : t.cnt.value = SMap.set 0 s.cnt.value (u32 c.req.body 0 + 1) 0 := congrArg Cnt.value (hc hw)
    rw [hchained, hvalue]
    exact ⟨SMap.get_set_same _ _ _ _, SMap.get_set_same _ _ _ _, fun j hj => SMap.get_set_other _ _ hj _⟩
  · intro hoff
    obtain ⟨t, ht, ha, -, hc, -⟩ := h.completesCnt (sp := specCounterChain) (eff := effCounterChain) rfl (if_neg hoff) rfl rfl
      (x := { markStarted c s with cnt := { s.cnt with chained := SMap.set false s.cnt.chained (u32 c.req.body 0) false } }) rfl rfl rfl rfl
    refine ⟨t, ht, ha, ?_⟩
    have hchained : t.cnt.chained = SMap.set false s.cnt.chained (u32 c.req.body 0) false := hc.chained
    rw [hchained]
    exact ⟨SMap.get_set_same _ _ _ _, fun j hj => SMap.get_set_other _ _ hj _⟩

theorem bwConfig_keeps {q : CmdReq} {c : Cmd} {s : State} (h : Runs 0x0E04 q c s) :
    (u16 q.body 0 ≠ s.bw.windowTicks → Completes (.bwConfig q) s fun t => Answers c .ok 0 [] s t ∧
      Books { s with bw := { s.bw with nextTicks := some (u16 q.body 0) } } t) ∧
    (u16 q.body 0 = s.bw.windowTicks → Completes (.bwConfig q) s fun t => Answers c .ok 0 [] s t ∧ Books s t) := by
  obtain rfl := h.isReq
  constructor
  · intro hne
    exact h.completes (sp := specBwConfig) (eff := effBwConfig) rfl (congrArg (Res.ok []) (if_neg hne.symm)) rfl rfl
      (x := { s with bw := { s.bw with nextTicks := some (u16 c.req.body 0) } }) rfl rfl rfl rfl
  · intro heq
    exact h.reads (sp := specBwConfig) (eff := effBwConfig) rfl (congrArg (Res.ok []) (if_pos heq.symm))

/-! ## COUNTER_CLEAR and SNAPSHOT (R409, R414; 14 R350) -/

/-- A map without the keys of a range reads there as it does nowhere written. -/
theorem get_outside_range {α : Type} (d : α) {a n k : Nat} (hl : a ≤ k) (hu : k < a + n) (m : SMap α) :
    SMap.get d (m.filter (fun e => decide (e.1 < a ∨ a + n ≤ e.1))) k = d := by
  induction m with
  | nil => rfl
  | cons e m ih =>
    rw [List.filter_cons]
    split
    · next he =>
      have hne : e.1 ≠ k := by
        have := of_decide_eq_true he
        omega
      exact (if_neg hne).trans ih
    · exact ih

theorem clearCounters_zero {a n k : Nat} (hl : a ≤ k) (hu : k < a + n) (s : State) :
    SMap.get 0 (clearCounters false a n s).cnt.value k = 0 ∧ SMap.get false (clearCounters false a n s).cnt.ovf k = false := by
  have hnone : s.notes.filter (fun e => false && decide (incrementNotes + a ≤ e.1 ∧ e.1 < incrementNotes + a + n) &&
      decide (e.2.clock = clockNo s)) = [] := by
    simp only [Bool.false_and, List.filter_false]
  constructor
  · simp only [clearCounters, hnone, List.foldl_nil]
    exact get_outside_range 0 hl hu _
  · exact get_outside_range false hl hu _

/-- An increment of the clear's own clock is kept (R409). -/
theorem clearCounters_kept {a n k m : Nat} (hl : a ≤ k) (hu : k < a + n) {s : State}
    (hn : s.notes = [(incrementNotes + k, { clock := clockNo s, added := m })]) :
    SMap.get 0 (clearCounters true a n s).cnt.value k = BitVec.ofNat 32 m := by
  have hkept : s.notes.filter (fun e => true && decide (incrementNotes + a ≤ e.1 ∧ e.1 < incrementNotes + a + n) &&
      decide (e.2.clock = clockNo s)) = [(incrementNotes + k, { clock := clockNo s, added := m })] := by
    have hin : incrementNotes + a ≤ incrementNotes + k ∧ incrementNotes + k < incrementNotes + a + n := by omega
    rw [hn, List.filter_cons, if_pos (by rw [decide_eq_true hin, decide_eq_true rfl]; rfl), List.filter_nil]
  simp only [clearCounters, hkept, List.foldl_cons, List.foldl_nil, Nat.add_sub_cancel_left]
  exact SMap.get_set_same _ _ _ _

section
variable {c : Cmd} {f : State → Res} {s : State}

theorem withCounterMemory_turn (ht : hasTurn 3 [34] s = true) : withCounterMemory c f s = f (passXfer 3 s) := if_pos ht

theorem withCounterMemory_waits (ht : hasTurn 3 [34] s = false) (hb : breachesRank 3 [34] s = false) :
    withCounterMemory c f s = .later (requestXfer 3 [34] (.command c.seq) s) :=
  (if_neg (Bool.eq_false_iff.1 ht)).trans (if_neg (Bool.eq_false_iff.1 hb))

theorem withCounterMemory_refused (ht : hasTurn 3 [34] s = false) (hb : breachesRank 3 [34] s = true) :
    withCounterMemory c f s = .fail .deadlockAvoided (count .deadlockAvoided 0 s) := (if_neg (Bool.eq_false_iff.1 ht)).trans (if_pos hb)

end

/-- A command that waits for counter memory goes on, with its request; where its wait would break the rank order it is refused. -/
theorem Runs.awaitsCounterMemory {sp : CmdSpec} {eff : Cmd → State → Res} {q : CmdReq} {c : Cmd} {s : State} {f : State → Res}
    (h : Runs sp.op q c s) (hl : sp.lease q s = none) (he : eff c (markStarted c s) = withCounterMemory c f (markStarted c s))
    (ht : hasTurn 3 [34] s = false) :
    (breachesRank 3 [34] s = false → ∃ t, (Host.Outcome.next (live (runCmd sp eff q) s) : Host.Outcome State Fault Refusal) = .next t ∧
      GoesOn c t ∧ t.cnt = s.cnt ∧
      t.mem.requests = s.mem.requests ++ [{ port := 3, targets := [34], use := .command c.seq, sincePs := s.clk.nowPs }]) ∧
    (breachesRank 3 [34] s = true → ∃ t, (Host.Outcome.next (live (runCmd sp eff q) s) : Host.Outcome State Fault Refusal) = .next t ∧
      Answers c .deadlockAvoided 0 [] s t ∧ Books s t) := by
  constructor
  · intro hb
    exact h.goesOn hl (he.trans (withCounterMemory_waits (s := markStarted c s) ht hb)) ⟨congrArg CmdState.executing h.marked, rfl, rfl⟩
  · intro hb
    have hcount := count_noted .deadlockAvoided 0 (markStarted c s)
    exact h.completes hl (he.trans (withCounterMemory_refused (s := markStarted c s) ht hb)) hcount.cmd
      (congrArg Clk.tick hcount.books.clk) (x := s) rfl rfl rfl ((markStarted_books c s).trans hcount.books)

theorem counterClear_clears {q : CmdReq} {c : Cmd} {s : State} {a n : Nat} (ha : a = u32 q.body 0) (hn : n = u32 q.body 4)
    (h : Runs 0x0E02 q c s) (ht : hasTurn 3 [34] s = true) (hw : s.cmd.waiting.length < 63) :
    Completes (.counterClear q false) s (fun t => Answers c .ok 0 [] s t ∧
      ∀ k, (a ≤ k → k < a + n → SMap.get 0 t.cnt.value k = 0 ∧ SMap.get false t.cnt.ovf k = false)) ∧
    (∀ (k m : Nat), a ≤ k → k < a + n → s.notes = [(incrementNotes + k, { clock := clockNo s, added := m })] →
      Completes (.counterClear q true) s fun t => Answers c .ok 0 [] s t ∧ SMap.get 0 t.cnt.value k = BitVec.ofNat 32 m) := by
  subst ha hn
  obtain rfl := h.isReq
  have hclear (same : Bool) : ∃ t, exec (.counterClear c.req same) s = .next t ∧ Answers c .ok 0 [] s t ∧
      t.cnt = (clearCounters same (u32 c.req.body 0) (u32 c.req.body 4) (passXfer 3 (markStarted c s))).cnt := by
    obtain ⟨t, hx, hans, -, -, hc⟩ := h.completesCnt (sp := specCounterClear) (eff := effCounterClear same) rfl
      (withCounterMemory_turn (s := markStarted c s) ht) rfl rfl
      (x := clearCounters same (u32 c.req.body 0) (u32 c.req.body 4) (passXfer 3 (markStarted c s))) rfl rfl rfl rfl
    exact ⟨t, hx, hans, hc hw⟩
  constructor
  · obtain ⟨t, hx, hans, hc⟩ := hclear false
    refine ⟨t, hx, hans, fun k hl hu => ?_⟩
    rw [hc]
    exact clearCounters_zero hl hu _
  · intro k m hl hu hnotes
    obtain ⟨t, hx, hans, hc⟩ := hclear true
    refine ⟨t, hx, hans, ?_⟩
    rw [hc]
    exact clearCounters_kept hl hu hnotes

/-- SNAPSHOT answers the values of its range in the state in which the counter engine has its turn. -/
theorem snapshot_turn {q : CmdReq} {c : Cmd} {s : State} {a n : Nat} (ha : a = u32 q.body 0) (hn : n = u16 q.body 4)
    (h : Runs 0x0E03 q c s) (ht : hasTurn 3 [34] s = true) : Completes (.snapshot q) s fun t =>
      Answers c .ok 0 (le 4 s.clk.tick.toNat ++ le 4 (tickNs s) ++ zeros 8 ++
        ((List.range n).map (fun k => le 4 (SMap.get 0 s.cnt.value (a + k)).toNat)).flatten) s t ∧
      (bit (u8 q.body 6) 0 = false → Books { s with mem := { s.mem with order := t.mem.order } } t) ∧
      (bit (u8 q.body 6) 0 = true → s.cmd.waiting.length < 63 → ∀ k, a ≤ k → k < a + n → SMap.get 0 t.cnt.value k = 0) := by
  subst ha hn
  obtain rfl := h.isReq
  have hu {α : Type} (f : State → α) (hf : ∀ (s : State) (x : Cnt), f { s with cnt := x } = f s) :=
    snapshotLeaves_rest f hf c.req (passXfer 3 (markStarted c s))
  obtain ⟨t, hx, hans, hb, -, hc⟩ := h.completesCnt (sp := specSnapshot c.req) (eff := effSnapshot) rfl
    (withCounterMemory_turn (s := markStarted c s) ht) (hu (·.cmd) fun _ _ => rfl) (hu (·.clk.tick) fun _ _ => rfl)
    (hu (·.pending) fun _ _ => rfl) (hu (·.hot.powered) fun _ _ => rfl) (hu (·.boot.inReset) fun _ _ => rfl) (Books.refl _)
  refine ⟨t, hx, hans, fun hkeep => ?_, fun hclear hw k hl hk => ?_⟩
  · have hleft : snapshotLeaves c.req (passXfer 3 (markStarted c s)) = passXfer 3 (markStarted c s) :=
      if_neg (by rw [hkeep]; exact Bool.false_ne_true)
    rw [hleft] at hb
    rw [congrArg Mem.order hb.mem]
    exact Books.trans (t := passXfer 3 (markStarted c s)) rfl hb
  · rw [hc hw, if_pos hclear]
    exact (clearCounters_zero hl hk _).1

/-- Settles O57: each command of the counters by its own effect. -/
theorem counterCommandsAnswer : Obligations.CounterCommandsAnswer := by
  unfold Obligations.CounterCommandsAnswer
  intro q c s
  refine ⟨counterConfig_sets, fun k hk h => counterChain_chains hk h, fun a n ha hn h => ⟨counterClear_clears ha hn h, fun ht b => ?_⟩,
    fun a n ha hn h => ⟨snapshot_turn ha hn h, fun ht hb => ?_, fun ht hb => ?_⟩, bwConfig_keeps⟩
  · obtain rfl := h.isReq
    exact h.awaitsCounterMemory (sp := specCounterClear) (eff := effCounterClear b) rfl rfl ht
  · obtain rfl := h.isReq
    obtain ⟨t, hx, hgo, hc, -⟩ := (h.awaitsCounterMemory (sp := specSnapshot c.req) (eff := effSnapshot) rfl rfl ht).1 hb
    exact ⟨t, hx, hgo, hc⟩
  · obtain rfl := h.isReq
    exact (h.awaitsCounterMemory (sp := specSnapshot c.req) (eff := effSnapshot) rfl rfl ht).2 hb

end Sys2Proof.Machine
end

section
/-!
PROOFS. The end of a test whose block is an instance (17 R389): the instance is stopped, and a host message of it that cannot be sent
any more answers its command, whatever that command is (04 R117).
-/

namespace Sys2Proof.Machine

/-- The state in which a run's last block is back and has passed, before the reply. -/
def testPassed (r : BistRun) (s : State) : State :=
  clearBist { endTest r s with bist := { (endTest r s).bist with lastPass := true } }

/-- The last block of a run whose signature is the ROM's is back, and the command is answered. -/
theorem execBistComplete_passes {r : BistRun} {s u : State} (hrun : s.bist.run = some r) (hrest : r.rest = [])
    (hu : execBistComplete (Config.bistSignature r.block (if r.full then 2 else 1)) s = u) :
    ∃ p, u = completeRunning 0x0D01 .ok 0 p (testPassed r s) := by
  obtain ⟨block, full, rest, passed, failed, force, whole, startTick⟩ := r
  obtain rfl : rest = [] := hrest
  unfold execBistComplete at hu
  rw [hrun] at hu
  dsimp -zeta only at hu
  extract_lets expected pass at hu
  have hpass : pass = true := decide_eq_true rfl
  clear_value pass
  subst hpass
  exact ⟨_, hu.symm⟩

/-- The executing BIST_RUN. -/
def testCmd : Cmd := { op := 0x0D01, req := {}, started := true }

/-- The test of instance 0's block, the last one of its run. -/
def instanceTest : BistRun := { block := 36, full := false }

/-- The test of instance 0's block runs while the instance operates, with a host message queued that names the test's own command. -/
def namedByPloam : State :=
  { Sys2Proof.Tests.ready with
    cmd := { Sys2Proof.Tests.ready.cmd with executing := [testCmd] }, bist := { run := some instanceTest }
    insts := [(0, { st := 0x51, upHost := [{ msg := .none, cmd := some testCmd.seq }] })] }

/-- The state in which its test has ended and passed, before the test's reply. -/
def namedTested : State := testPassed instanceTest namedByPloam

theorem namedTested_executing : namedTested.cmd.executing = [] := by decide +kernel

theorem namedTested_reply : (keepOuter namedByPloam namedTested).cmd.waiting.map (fun r => r.status) = [.notFound] := by decide +kernel

theorem namedTested_plain : Plain namedTested := ⟨by decide +kernel, by decide +kernel⟩

theorem namedByPloam_begun : Begun 0x0D01 testCmd namedByPloam :=
  ⟨⟨rfl, rfl⟩, rfl, rfl, rfl, rfl, rfl, rfl, 0, rfl⟩

theorem execBistComplete_namedByPloam : execBistComplete (Config.bistSignature 36 1) namedByPloam = namedTested := by
  have hrun : namedByPloam.bist.run = some instanceTest := rfl
  have hnone : running 0x0D01 namedTested = none := by rw [running, namedTested_executing, List.find?_nil]
  obtain ⟨p, hp⟩ := execBistComplete_passes hrun rfl rfl
  exact hp.trans (completeRunning_none hnone _ _ _)

/-- Refutes O53, in its clause on the end of a block's test: on this state the test of instance 0's block stops the instance, whose host
message names the executing BIST_RUN itself, so that this is answered NOT_FOUND and not OK. The clause asks nothing of the messages that
instances hold; no run is claimed to reach such a state. -/
theorem not_lifeCycleAndTestRowsTakeEffect : ¬ Obligations.LifeCycleAndTestRowsTakeEffect := by
  unfold Obligations.LifeCycleAndTestRowsTakeEffect
  intro h
  obtain ⟨-, -, -, hend, -⟩ := h
  obtain ⟨hpass, -⟩ := hend namedByPloam testCmd instanceTest (Config.bistSignature 36 1) namedByPloam_begun ⟨rfl, rfl⟩
    (fun _ => (by decide : DomPhase.on ≠ .stopping)) rfl rfl (by decide)
  obtain ⟨t, ht, hanswers, -⟩ := hpass rfl
  have hescalate : escalate (execBistComplete (Config.bistSignature 36 1)) namedByPloam = namedTested := by
    rw [escalate_plain (execBistComplete_namedByPloam.symm ▸ namedTested_plain), execBistComplete_namedByPloam]
  obtain rfl : live (escalate (execBistComplete (Config.bistSignature 36 1))) namedByPloam = t := Host.Outcome.next.inj ht
  rw [live_on ⟨rfl, rfl⟩, hescalate] at hanswers
  have hstatus := congrArg (List.map fun r => r.status) hanswers.reply
  exact absurd (namedTested_reply.symm.trans hstatus) (by decide)

end Sys2Proof.Machine
end

section
/-!
PROOFS. DOMAIN_POWER with FORCE (16 R384) of an instance's domain: a host message of the instance that cannot be sent any more answers
its command, whatever that command is (04 R117).
-/

namespace Sys2Proof.Machine

/-- DOMAIN_POWER off of the domain of instance 0, with FORCE. -/
def instanceOff : CmdReq := { kind := 7, index := 3, flags := 2, payload := [0, 0, 0, 0] }

/-- It executes while the instance operates, with a host message queued that names the command itself. -/
def offNamed : State :=
  { Sys2Proof.Tests.trial 0x0B01 instanceOff Sys2Proof.Tests.ready with
    insts := [(0, { st := 0x51, upHost := [{ msg := .none, cmd := some 0 }] })] }

theorem offNamed_ends : (live (execDomainPower instanceOff) offNamed).cmd.executing = [] := by decide +kernel

/-- Refutes O52, in its clause on DOMAIN_POWER off that is requested: on this state FORCE stops the instance, whose host message names the
executing DOMAIN_POWER itself, so that this is answered NOT_FOUND and does not go on. The clause asks nothing of the messages that
instances hold; no run is claimed to reach such a state. -/
theorem not_powerCommandsAndDomains : ¬ Obligations.PowerCommandsAndDomains := by
  unfold Obligations.PowerCommandsAndDomains
  intro h
  obtain ⟨hcommands, -⟩ := h
  have hruns : Runs 0x0B01 instanceOff { op := 0x0B01, req := instanceOff } offNamed :=
    ⟨⟨rfl, rfl⟩, rfl, rfl, rfl, rfl, rfl, rfl, rfl, rfl, 0, rfl⟩
  obtain ⟨-, hpower, -⟩ := hcommands instanceOff { op := 0x0B01, req := instanceOff } offNamed
  obtain ⟨hoff, -⟩ := hpower 3 rfl hruns
  obtain ⟨-, haccepted⟩ := hoff (by decide) (.inl rfl)
  obtain ⟨-, hrequested⟩ := haccepted (.inr (by decide))
  obtain ⟨t, ht, -, x, hx, -⟩ := hrequested (by decide)
  obtain rfl : live (execDomainPower instanceOff) offNamed = t := Host.Outcome.next.inj ht
  rw [offNamed_ends] at hx
  exact absurd hx (List.not_mem_nil)

end Sys2Proof.Machine
end

section
/-!
PROOFS. Images, the hot-swap switch and ejection (19 R421–R427, 20 R438–R443).
-/

namespace Sys2Proof.Machine

/-! ## Rows of the part's own that change the boot registers -/

theorem live_boots {s t : State} {f : State → State} (h : On s) (hf : f s = t) (hp : t.pending = s.pending) (hh : t.hot = s.hot)
    (hr : t.boot.inReset = s.boot.inReset) : live f s = t := by
  rw [live_on h, hf, keepOuter_eq hp (congrArg Hot.powered hh) hr]

theorem live_bootsTo {s : State} {f : State → State} {P : State → Prop} (h : On s) (t : State) (hf : f s = t) (hp : t.pending = s.pending)
    (hh : t.hot = s.hot) (hr : t.boot.inReset = s.boot.inReset) (hP : P t) :
    ∃ t, (Host.Outcome.next (live f s) : Host.Outcome State Fault Refusal) = .next t ∧ P t :=
  ⟨t, congrArg Host.Outcome.next (live_boots h hf hp hh hr), hP⟩

/-! ## BOOT_CTRL (19 R424) -/

/-- LENGTH, as a write of BOOT_CTRL stores it. -/
def lengthStored (v : Word) (s : State) : State := { s with boot := { s.boot with length := v.toNat % 2 ^ 20 } }

/-- A write of BOOT_CTRL starts the fetch. -/
def startsFetch (v : Word) (s : State) : Bool :=
  v.getLsbD 31 && decide (s.dev.quill ≠ 2) && pathPermitted .pcie s && !s.boot.fetching

theorem writeBootCtrl_stores {v : Word} {s : State} (hq : s.dev.quill ≠ 3) : writeBootCtrl v s =
    if startsFetch v (lengthStored v s) then
      { lengthStored v s with boot := { (lengthStored v s).boot with fetching := true } }
    else lengthStored v s :=
  if_neg hq

theorem writeBootCtrl_length {v : Word} {s : State} (hq : s.dev.quill ≠ 3) (hgo : v.getLsbD 31 = false) :
    writeBootCtrl v s = lengthStored v s := by
  have hstart : startsFetch v (lengthStored v s) = false := by rw [startsFetch, hgo, Bool.false_and, Bool.false_and, Bool.false_and]
  rw [writeBootCtrl_stores hq, hstart]
  rfl

theorem writeBootCtrl_go {v : Word} {s : State} (hq : s.dev.quill = 1) (hgo : v.getLsbD 31 = true) (hp : pathPermitted .pcie s = true) :
    writeBootCtrl v s = { lengthStored v s with boot := { (lengthStored v s).boot with fetching := true } } := by
  have hq' : decide ((lengthStored v s).dev.quill ≠ 2) = true := decide_eq_true (show s.dev.quill ≠ 2 by omega)
  have hp' : pathPermitted .pcie (lengthStored v s) = true := hp
  have hstart : startsFetch v (lengthStored v s) = !s.boot.fetching := by
    rw [startsFetch, hgo, hq', hp']
    rfl
  rw [writeBootCtrl_stores (by omega), hstart]
  cases hf : s.boot.fetching with
  | false => rfl
  | true =>
    rw [← hf]
    exact (if_neg (by simp [hf])).trans (by simp only [lengthStored, hf])

theorem bootGo_next {p : Path} {v : Word} {s t : State} (h : Reaches p s) (ht : writeBootCtrl v s = t) (hp : t.pending = s.pending)
    (hh : t.hot = s.hot) (hr : t.boot.inReset = s.boot.inReset) : exec (.bootGo p v) s = .next t := by
  have hw : execBootGo p v s = t := (hostWrite_awake h.awake.awake _).trans ht
  exact congrArg Host.Outcome.next (live_boots h.awake.on ((if_pos h.up).trans hw) hp hh hr)

/-! ## Chunks (19 R425, R426) -/

/-- A frame of KIND 1 of the manager reaches a part that waits for an image. -/
structure ChunkHeard (f : FrameFields) (s : State) : Prop where
  permitted : pathPermitted .manager s = true
  locked : mapiynLane 0 s = true
  kind : f.kind = 1
  awaits : s.dev.quill = 1 ∨ s.dev.quill = 4

theorem awaitsImage_iff {s : State} : awaitsImage s = true ↔ s.dev.quill = 1 ∨ s.dev.quill = 4 := by simp [awaitsImage]

/-- The manager's delivery as far as it has come. -/
def managerSoFar (s : State) : Delivery :=
  match s.boot.manager with
  | some d => d
  | none => {}

theorem execImageChunkRx_heard {f : FrameFields} {s : State} (h : ChunkHeard f s) (last : Bool) (field : Bytes) :
    execImageChunkRx .manager f last field s =
      match openField (bodyOf f) f.length.toNat field none with
      | some data =>
        if f.subPort.toNat ≠ (managerSoFar s).next ∨ (managerSoFar s).complete then reject .manager 6 (setDelivery .manager none s)
        else setDelivery .manager (some { next := (managerSoFar s).next + 1, data := (managerSoFar s).data ++ data, complete := last }) s
      | none => reject .manager 6 (setDelivery .manager none s) := by
  refine (if_neg ?_).trans rfl
  have hl : pathLocked .manager s = true := h.locked
  simp [hl, h.permitted, awaitsImage_iff.2 h.awaits, h.kind]

/-- The delivery ends with REJECT 6. -/
theorem imageChunk_rejected {f : FrameFields} {s : State} (hon : On s) (h : ChunkHeard f s) (last : Bool) (field : Bytes)
    (hbad : openField (bodyOf f) f.length.toNat field none = none ∨ ∃ d, s.boot.manager = some d ∧ d.next ≠ f.subPort.toNat) :
    Completes (.imageChunkRx .manager f last field) s fun t => t.boot.manager = none ∧ t.boot.reject = 6 ∧ t.dev.quill = 4 := by
  refine live_bootsTo hon (reject .manager 6 (setDelivery .manager none s)) ?_ rfl rfl rfl ⟨rfl, rfl, rfl⟩
  rw [execImageChunkRx_heard h]
  cases ho : openField (bodyOf f) f.length.toNat field none with
  | none => rfl
  | some data =>
    obtain hn | ⟨d, hd, hgap⟩ := hbad
    · exact absurd (ho.symm.trans hn) (Option.some_ne_none _)
    · have hso : managerSoFar s = d := by rw [managerSoFar, hd]
      exact if_pos (.inl (by rw [hso]; exact Ne.symm hgap))

/-- The next chunk in order, or chunk 0, is added. -/
theorem imageChunk_added {f : FrameFields} {s : State} (hon : On s) (h : ChunkHeard f s) (last : Bool) {field data : Bytes}
    (ho : openField (bodyOf f) f.length.toNat field none = some data) (hnext : f.subPort.toNat = (managerSoFar s).next)
    (hopen : (managerSoFar s).complete = false) :
    exec (.imageChunkRx .manager f last field) s = .next { s with boot := { s.boot with
      manager := some { next := (managerSoFar s).next + 1, data := (managerSoFar s).data ++ data, complete := last } } } := by
  refine congrArg Host.Outcome.next (live_boots hon ?_ rfl rfl rfl)
  rw [execImageChunkRx_heard h, ho]
  exact if_neg (by simp [hnext, hopen])

/-! ## Images that are complete (19 R423, R427) -/

/-- The image of a delivery is kept, or rejected with the code of the first check that it fails. -/
def imageTaken (k : ImgPath) (p : Bytes) (s : State) : State :=
  match imageFault p with
  | some code => reject k code s
  | none => { s with dev := { s.dev with quill := 2 }, boot := { s.boot with image := p, path := imgCode k } }

/-- No delivery is in progress any more. -/
def deliveriesEnded (s : State) : State := { s with boot := { s.boot with fetching := false, manager := none, partner := none } }

theorem imageTaken_none {k : ImgPath} {p : Bytes} {s : State} (h : imageFault p = none) : imageTaken k p s =
    { s with dev := { s.dev with quill := 2 }, boot := { s.boot with image := p, path := imgCode k } } := by
  rw [imageTaken, h]

theorem imageTaken_some {k : ImgPath} {p : Bytes} {s : State} {code : Nat} (h : imageFault p = some code) :
    imageTaken k p s = reject k code s := by
  rw [imageTaken, h]

/-- What taking an image leaves. -/
theorem imageTaken_keeps (k : ImgPath) (p : Bytes) (s : State) :
    (imageTaken k p s).pending = s.pending ∧ (imageTaken k p s).hot = s.hot ∧ (imageTaken k p s).boot.inReset = s.boot.inReset ∧
      (imageTaken k p s).boot.path = imgCode k ∧ (imageTaken k p s).boot.manager = s.boot.manager ∧
      (imageTaken k p s).boot.fetching = s.boot.fetching := by
  cases h : imageFault p with
  | none =>
    rw [imageTaken_none h]
    exact ⟨rfl, rfl, rfl, rfl, rfl, rfl⟩
  | some code =>
    rw [imageTaken_some h]
    exact ⟨rfl, rfl, rfl, rfl, rfl, rfl⟩

/-- The path whose delivery is taken, of one and the one that met it in its clock. -/
def goesFirst (k : ImgPath) (met : Option ImgPath) (s : State) : ImgPath :=
  match met with
  | some j => if imgCode j < imgCode k ∧ delivered j s then j else k
  | none => k

theorem execImageDelivered_first (k : ImgPath) (met : Option ImgPath) (im : Option Bytes) (s : State) :
    execImageDelivered k met im s = execImageDelivered (goesFirst k met s) none im s := rfl

theorem goesFirst_manager {met : Option ImgPath} (hm : met = none ∨ met = some .partner) (s : State) :
    goesFirst .manager met s = .manager := by
  obtain rfl | rfl := hm
  · rfl
  · have hlast : ¬ (imgCode .partner < imgCode .manager ∧ delivered .partner s = true) := fun h => absurd h.1 (by decide)
    exact if_neg (t := ImgPath.partner) hlast

/-- The fetch over PCIe has ended. -/
def FetchEnds (s : State) : Prop := s.boot.fetching = true ∧ hasTurn 1 hostRead_ s = true

theorem FetchEnds.delivered {s : State} (h : FetchEnds s) : delivered .pcie s = true := by
  obtain ⟨hf, ht⟩ := h
  change (s.boot.fetching && hasTurn 1 hostRead_ s) = true
  rw [hf, ht]
  rfl

theorem goesFirst_pcie {s : State} (h : FetchEnds s) : goesFirst .manager (some .pcie) s = .pcie :=
  if_pos ⟨by decide, h.delivered⟩

theorem delivery_due {k : ImgPath} {s : State} (hd : delivered k s = true) (hq : s.dev.quill = 1 ∨ s.dev.quill = 4) :
    ¬ (!delivered k s || !awaitsImage s) = true := by
  rw [hd, awaitsImage_iff.2 hq]
  decide

theorem execImageDelivered_manager {d : Delivery} {s : State} (hd : s.boot.manager = some d) (hc : d.complete = true)
    (hq : s.dev.quill = 1 ∨ s.dev.quill = 4) (im : Option Bytes) :
    execImageDelivered .manager none im s = imageTaken .manager d.data (deliveriesEnded s) := by
  have hdone : delivered .manager s = true := by
    change (match s.boot.manager with | some d => d.complete | none => false) = true
    rw [hd]
    exact hc
  refine (if_neg (delivery_due hdone hq)).trans ?_
  change (match s.boot.manager.map Delivery.data with | none => _ | some p => _) = _
  rw [hd]
  rfl

theorem execImageDelivered_unread {s : State} (h : FetchEnds s) (hq : s.dev.quill = 1 ∨ s.dev.quill = 4) :
    execImageDelivered .pcie none none s = reject .pcie 6 (passXfer 1 (deliveriesEnded s)) :=
  if_neg (delivery_due h.delivered hq)

theorem execImageDelivered_fetched {s : State} (h : FetchEnds s) (hq : s.dev.quill = 1 ∨ s.dev.quill = 4) (b : Bytes) :
    execImageDelivered .pcie none (some b) s = imageTaken .pcie (fit s.boot.length b) (passXfer 1 (deliveriesEnded s)) :=
  if_neg (delivery_due h.delivered hq)

/-! ## The hot-swap switch and ejection (20 R438–R443) -/

theorem execHotswapClose_atOnce {s : State} (h : s.hot.powered = false) (hl : s.hot.lastTrip ≠ some .current) : execHotswapClose s =
    { s with hot := { s.hot with powered := true, ejectReq := false, trips := if 3 ≤ s.hot.trips then 0 else s.hot.trips } } := by
  obtain ⟨ps, hx⟩ := execHotswapClose_closes h
  rwa [if_neg hl] at hx

theorem execHotswapClose_afterOvercurrent {s : State} (h : s.hot.powered = false) (hl : s.hot.lastTrip = some .current) :
    execHotswapClose s = { advanceTo (s.hot.tripPs + 1000000000000) s with
      hot := { s.hot with powered := true, ejectReq := false, trips := if 3 ≤ s.hot.trips then 0 else s.hot.trips } } := by
  refine (if_neg (by rw [h]; decide)).trans ?_
  rw [if_pos hl]
  rfl

theorem blank_fuse {s : State} (h : s.lc.programming = none) : (blank s).fuse = s.fuse := by
  have hsettled : settleFuses s = s := by rw [settleFuses, h]
  exact (congrArg State.fuse hsettled :)

theorem execQuiesceStart_quiesces {s : State} (hr : s.hot.recognised = true) (hq : s.hot.quiesced = false) : ∃ ps,
    execQuiesceStart s = { s with
      clk := { s.clk with nowPs := max s.clk.nowPs (s.hot.atPs + 4000000000) }
      pair := { s.pair with actOut := false, actOutPs := ps }
      hot := { s.hot with quiesced := true } } := by
  obtain hx | ⟨-, -, hx⟩ := execQuiesceStart_cases s
  · have hset : (execQuiesceStart s).hot.quiesced = true := by
      rw [execQuiesceStart, if_pos (by rw [hr, hq]; rfl)]
    rw [hx, hq] at hset
    exact absurd hset (by decide)
  · exact hx

/-- The one frame that quiesce kept goes out. -/
theorem ejectOver_sends {s : State} {n body : Nat} {field : Bytes} (hheld : s.hot.held = [(n, body, field)])
    (ht : (s.lane n).transmits = true) (hc : laneCarries n (.mapiyn n body field) s = true) :
    ejectOver s = emit (.mapiyn n body field)
      { s with hot := { s.hot with ejectReq := false, recognised := false, quiesced := false, held := [] } } := by
  obtain ⟨u, hu⟩ : ∃ u : State,
    u = { s with hot := { s.hot with ejectReq := false, recognised := false, quiesced := false, held := [] } } := ⟨_, rfl⟩
  have hlane : ((u.lane n).transmits && laneCarries n (.mapiyn n body field) u) = true := by
    subst hu
    exact Bool.and_eq_true _ _ ▸ ⟨ht, hc⟩
  have hquiet : quiesceNow u = false := by subst hu; rfl
  rw [ejectOver, hheld, ← hu]
  exact (if_pos hlane).trans (if_neg (by rw [hquiet]; decide))

/-- What the eject's end leaves of quiesce. -/
theorem execEjectEnd_lifts (s : State) : (execEjectEnd s).hot = (ejectOver s).hot ∧ (execEjectEnd s).out = (ejectOver s).out := by
  obtain hx | ⟨-, p, hx⟩ := execEjectEnd_cases s <;> rw [hx] <;> exact ⟨rfl, rfl⟩

theorem execEjectEnd_inactive {s : State} (hp : pairActive s = false) (hheld : s.hot.held = []) :
    execEjectEnd s = { s with hot := { s.hot with ejectReq := false, recognised := false, quiesced := false } } := by
  obtain hx | ⟨ha, -⟩ := execEjectEnd_cases s
  · rw [hx, ejectOver, hheld, List.foldl_nil, ← hheld]
  · exact absurd (hp.symm.trans ha) (by decide)

/-- Settles O60: a write of BOOT_CTRL, a chunk, an image that is complete and command-ready by an equation each, then the switch, its
opening through `blank`, and ejection through what a frame does that quiesce kept. -/
theorem bootAndInsertionRowsTakeEffect : Obligations.BootAndInsertionRowsTakeEffect := by
  unfold Obligations.BootAndInsertionRowsTakeEffect
  intro s
  refine ⟨?go, ?chunk, ?image, ?fetch, ?ready, ?close, ?trip, ?eject, ?quiesce, ?ended, ?sent⟩
  case go =>
    intro p v h
    refine ⟨fun hq hgo hp => bootGo_next h (writeBootCtrl_go hq hgo hp) rfl rfl rfl,
      fun hq hgo => bootGo_next h (writeBootCtrl_length hq hgo) rfl rfl rfl, fun hq => bootGo_next h (if_pos hq) rfl rfl rfl⟩
  case chunk =>
    intro f last field hon hp hl hk hq
    have h : ChunkHeard f s := ⟨hp, hl, hk, hq⟩
    refine ⟨fun data ho => ⟨fun hm hf => ?_, fun d hm hc hn => ?_⟩, fun hbad => imageChunk_rejected hon h last field hbad⟩
    · have hso : managerSoFar s = {} := by rw [managerSoFar, hm]
      have hadded := imageChunk_added hon h last ho (by rw [hso, hf]; rfl) (by rw [hso])
      rw [hso] at hadded
      exact hadded
    · have hso : managerSoFar s = d := by rw [managerSoFar, hm]
      have hadded := imageChunk_added hon h last ho (by rw [hso, hn]) (by rw [hso, hc])
      rw [hso, hn] at hadded
      exact hadded
  case image =>
    intro d met im hon hd hc hq
    refine ⟨fun hm => ?_, fun hf ht => ?_⟩
    · have hx : execImageDelivered .manager met im s = imageTaken .manager d.data (deliveriesEnded s) := by
        rw [execImageDelivered_first, goesFirst_manager hm, execImageDelivered_manager hd hc hq]
      obtain ⟨hpend, hhot, hreset, hpath, hmanager, -⟩ := imageTaken_keeps .manager d.data (deliveriesEnded s)
      refine live_bootsTo hon _ hx hpend hhot hreset ⟨hpath, hmanager, fun hgood => ?_, fun k hbad => ?_⟩
      · rw [imageTaken_none hgood]
        exact ⟨rfl, rfl⟩
      · rw [imageTaken_some hbad]
        exact ⟨rfl, rfl, rfl⟩
    · have hx : execImageDelivered .manager (some .pcie) im s = execImageDelivered .pcie none im s := by
        rw [execImageDelivered_first, goesFirst_pcie ⟨hf, ht⟩]
      refine congrArg Host.Outcome.next ?_
      rw [live_on hon, live_on hon, hx]
  case fetch =>
    intro hon hf ht hq
    refine ⟨live_bootsTo hon _ (execImageDelivered_unread ⟨hf, ht⟩ hq) rfl rfl rfl ⟨rfl, rfl, rfl, rfl⟩, fun b => ?_⟩
    obtain ⟨hpend, hhot, hreset, hpath, -, hfetch⟩ := imageTaken_keeps .pcie (fit s.boot.length b) (passXfer 1 (deliveriesEnded s))
    refine live_bootsTo hon _ (execImageDelivered_fetched ⟨hf, ht⟩ hq b) hpend hhot hreset ⟨hpath, hfetch, fun hgood => ?_, fun k hbad => ?_⟩
    · rw [imageTaken_none hgood]
      exact ⟨rfl, rfl⟩
    · rw [imageTaken_some hbad]
      exact ⟨rfl, rfl⟩
  case ready =>
    intro hon hq
    exact congrArg Host.Outcome.next (live_eq hon (if_pos hq) ⟨rfl, rfl, rfl⟩)
  case close =>
    intro hoff
    refine ⟨fun hl => congrArg Host.Outcome.next ?_, fun hl => ⟨_, rfl, ?_⟩⟩
    · rw [outside, execHotswapClose_atOnce hoff hl]
    · rw [outside, execHotswapClose_afterOvercurrent hoff hl]
      exact ⟨rfl, rfl⟩
  case trip =>
    intro k hon
    obtain ⟨u, hu, hx⟩ := execHotswapTrip_blank k hon
    refine ⟨_, rfl, ?_⟩
    rw [outside, hx]
    refine ⟨rfl, rfl, ?_, rfl, rfl, fun hp => ?_, rfl⟩
    · have htrips : u.hot.trips = s.hot.trips := (congrArg (fun x : State => x.hot.trips) hu :)
      change u.hot.trips + b2n (decide (k = .current)) = _
      rw [htrips]
      by_cases hk : k = .current
      · rw [decide_eq_true hk, if_pos hk]
        rfl
      · rw [decide_eq_false hk, if_neg hk]
        rfl
    · exact (blank_fuse (hu.lc ▸ hp)).trans hu.fuse
  case eject =>
    intro hon hr hq
    refine congrArg Host.Outcome.next ?_
    rw [outside, execEjectRecognised_early hon hr hq]
    rfl
  case quiesce =>
    intro hr hq
    obtain ⟨ps, hx⟩ := execQuiesceStart_quiesces hr hq
    refine ⟨_, rfl, ?_⟩
    rw [outside, hx]
    exact ⟨rfl, rfl, rfl⟩
  case ended =>
    intro hp hheld
    refine congrArg Host.Outcome.next ?_
    rw [outside, execEjectEnd_inactive hp hheld]
  case sent =>
    intro n body field hheld ht hc
    obtain ⟨hhot, hout⟩ := execEjectEnd_lifts s
    rw [ejectOver_sends hheld ht hc] at hhot hout
    exact ⟨_, rfl, (congrArg Hot.quiesced hhot :), (congrArg Hot.recognised hhot :), (congrArg Hot.ejectReq hhot :),
      (congrArg Hot.held hhot :), hout ▸ List.mem_cons_self⟩

end Sys2Proof.Machine
end

section
/-!
PROOFS. The rows of sleep (16 R375–R384).
-/

namespace Sys2Proof.Machine

/-! ## What leaves the present instant and the power state -/

/-- From s to t the present instant and the power state are as before. -/
structure PowerKept (s t : State) : Prop where
  now : t.clk.nowPs = s.clk.nowPs
  pwr : t.pwr = s.pwr

theorem PowerKept.refl (s : State) : PowerKept s s := ⟨rfl, rfl⟩

theorem PowerKept.trans {s t u : State} (h : PowerKept s t) (k : PowerKept t u) : PowerKept s u :=
  ⟨k.now.trans h.now, k.pwr.trans h.pwr⟩

theorem Books.powerKept {s t : State} (h : Books s t) : PowerKept s t := ⟨congrArg Clk.nowPs h.clk, h.pwr⟩

theorem foldl_powerKept {α : Type} {f : State → α → State} (hf : ∀ s a, PowerKept s (f s a)) (l : List α) :
    ∀ s, PowerKept s (l.foldl f s) := by
  induction l with
  | nil => exact PowerKept.refl
  | cons a l ih => exact fun s => (hf s a).trans (ih _)

theorem ite_powerKept {p : Prop} [Decidable p] {s t u : State} (h : p → PowerKept s t) (k : ¬ p → PowerKept s u) :
    PowerKept s (if p then t else u) := by
  split
  · next hp => exact h hp
  · next hp => exact k hp

theorem modLane_powerKept (n : Nat) (f : Lane → Lane) (s : State) : PowerKept s (s.modLane n f) := ⟨rfl, rfl⟩

theorem idleDone_powerKept (n : Nat) (s : State) : PowerKept s (idleDone n s) := (completeRunningAt_books _ _ _ _ s).powerKept

/-- EIDLE blocks, then what a lane's idle is set to, then LANE_IDLE's reply. -/
theorem idleEnded_powerKept (n k : Nat) (f : Lane → Lane) (s : State) : PowerKept s (idleDone n ((sendEidle n k s).modLane n f)) :=
  (sendEidle_books n k s).powerKept.trans ((modLane_powerKept n f _).trans (idleDone_powerKept n _))

theorem settleIdle_powerKept (n : Nat) (s : State) : PowerKept s (settleIdle n s) := by
  have hburst (f : Lane → Lane) (u : State) (hu : PowerKept s u) : PowerKept s
      (match (s.lane n).burstEnd with
      | some t => if u.clk.nowPs < t then u else idleDone n (u.modLane n f)
      | none => u) := by
    split
    · exact ite_powerKept (fun _ => hu) fun _ => hu.trans ((modLane_powerKept n f u).trans (idleDone_powerKept n _))
    · exact hu
  unfold settleIdle
  refine hburst _ _ ?_
  split
  · exact ite_powerKept (fun _ => .refl s) fun _ => idleEnded_powerKept n 16 _ s
  · exact .refl s

theorem requestWake_powerKept (burst : Bool) (n : Nat) (s : State) : PowerKept s (requestWake burst n s) := by
  unfold requestWake
  refine .trans (settleIdle_powerKept n s) (.trans (modLane_powerKept n (fun x => { x with exitClock := clockNo (settleIdle n s) }) _) ?_)
  dsimp only
  split
  · exact idleEnded_powerKept n _ _ _
  · exact ite_powerKept (fun _ => .trans (modLane_powerKept n _ _) (idleDone_powerKept n _)) fun _ =>
      ite_powerKept (fun _ => ⟨rfl, rfl⟩) fun _ => .refl _

theorem reenable_powerKept (l : List (Nat × Nat × Nat × Bool)) (s : State) : PowerKept s (reenable l s) := by
  refine foldl_powerKept (fun s e => ?_) l s
  obtain ⟨n, rate, loopback, prbs⟩ := e
  refine ite_powerKept (fun _ => ?_) fun _ => .refl s
  split
  · next e b _ =>
    have h := (enableLane_alone n rate loopback prbs e b s).1.rest
    exact ⟨congrArg Clk.nowPs h.clk, h.pwr⟩
  · exact .refl s

theorem setMacLink_powerKept (h : Nat) (up : Bool) (s : State) : PowerKept s (setMacLink h up s) := by
  by_cases hl : (s.mac h).link = up
  · rw [setMacLink, if_pos hl]
    exact .refl s
  · have hb := setMacLink_changes hl
    exact ⟨congrArg Clk.nowPs hb.clk, hb.pwr⟩

/-! ## The end of a wake (16 R382) -/

/-- The lanes that sleep put into idle leave it, and those that it switched off go on. -/
def lanesAwake (s : State) : State :=
  let s := s.pwr.idled.foldl (fun s l => requestWake true l s) s
  reenable s.pwr.darkened s

/-- Each instance in O5 queues its awake indication. -/
def awakeTold (s : State) : State :=
  (List.range 4).foldl (fun s i => if (s.inst i).inO5 then sendOwn i { msg := .sleepRequest false } s else s) s

/-- Host ports without HOST_KEEP restart their PHY. -/
def hostsRestarted (s : State) : State :=
  if s.pwr.cfg.hostKeep then s else (List.range 4).foldl (fun s h => setMacLink h false s) s

/-- Nothing waits for the wake's lanes and doorbells any more. -/
def wakeCleared (s : State) : State := { s with pwr := { s.pwr with heldBells := [], idled := [], darkened := [] } }

/-- The held doorbells are applied. -/
def bellsApplied (s : State) : State := s.pwr.heldBells.foldl (fun s b => applyBell b.1 b.2 s) (wakeCleared s)

/-- The held command is taken. -/
def heldTaken (s : State) : State :=
  match s.pwr.heldPush with
  | some d => { s with pwr := { s.pwr with heldPush := none }, spi := { s.spi with mail := some d, cmdFree := false } }
  | none => s

theorem resume_eq (s : State) : resume s = heldTaken (bellsApplied (hostsRestarted (awakeTold (lanesAwake s)))) := by
  unfold resume
  extract_lets lanes reenabled told u
  have hlanes : reenabled = lanesAwake s := rfl
  clear_value reenabled
  have htold : told = awakeTold reenabled := rfl
  clear_value told
  have hu : u = hostsRestarted told := rfl
  clear_value u
  rw [← hlanes, ← htold, ← hu]
  rfl

theorem lanesAwake_powerKept (s : State) : PowerKept s (lanesAwake s) :=
  .trans (foldl_powerKept (fun s l => requestWake_powerKept true l s) _ s) (reenable_powerKept _ _)

theorem awakeTold_powerKept (s : State) : PowerKept s (awakeTold s) :=
  foldl_powerKept (fun s i => by split <;> exact ⟨rfl, rfl⟩) _ s

theorem hostsRestarted_powerKept (s : State) : PowerKept s (hostsRestarted s) :=
  ite_powerKept (fun _ => .refl s) fun _ => foldl_powerKept (fun s h => setMacLink_powerKept h false s) _ s

theorem resume_noBells {s : State} (hb : s.pwr.heldBells = []) :
    ∃ u, PowerKept s u ∧ resume s = heldTaken (wakeCleared u) := by
  obtain ⟨u, hu⟩ : ∃ u, u = hostsRestarted (awakeTold (lanesAwake s)) := ⟨_, rfl⟩
  have h : PowerKept s u :=
    hu ▸ ((lanesAwake_powerKept s).trans (awakeTold_powerKept _)).trans (hostsRestarted_powerKept _)
  refine ⟨u, h, ?_⟩
  rw [resume_eq, ← hu, bellsApplied, h.pwr, hb, List.foldl_nil]

/-- What a wake has resumed. -/
theorem heldTaken_wakeCleared (u : State) : (heldTaken (wakeCleared u)).pwr = { u.pwr with heldBells := [], idled := [], darkened := [], heldPush := none } ∧
    (heldTaken (wakeCleared u)).clk = u.clk ∧
    ∀ d, u.pwr.heldPush = some d → (heldTaken (wakeCleared u)).spi.mail = some d ∧ (heldTaken (wakeCleared u)).spi.cmdFree = false := by
  cases hp : u.pwr.heldPush with
  | none =>
    have hx : heldTaken (wakeCleared u) = wakeCleared u := by
      unfold heldTaken
      rw [show (wakeCleared u).pwr.heldPush = none from hp]
    rw [hx]
    refine ⟨?_, rfl, fun d hd => absurd hd (by simp)⟩
    rw [← hp]
    rfl
  | some d =>
    have hx : heldTaken (wakeCleared u) = { wakeCleared u with
        pwr := { (wakeCleared u).pwr with heldPush := none }, spi := { (wakeCleared u).spi with mail := some d, cmdFree := false } } := by
      unfold heldTaken
      rw [show (wakeCleared u).pwr.heldPush = some d from hp]
    rw [hx]
    exact ⟨rfl, rfl, fun e he => ⟨he, rfl⟩⟩

theorem wakeComplete_resumes {s : State} (hon : On s) (hst : s.pwr.state = .waking) (hb : s.pwr.heldBells = []) :
    Completes .wakeComplete s fun t => t.pwr.state = .awake ∧ t.pwr.idleLeft = s.pwr.cfg.idleTicks ∧ t.pwr.idled = [] ∧
      t.pwr.heldPush = none ∧ t.clk.nowPs = max s.clk.nowPs (s.pwr.wakePs + 250000000) ∧
      (∀ d, s.pwr.heldPush = some d → t.spi.mail = some d ∧ t.spi.cmdFree = false) := by
  obtain ⟨v, hv⟩ : ∃ v : State, v = { advanceTo (s.pwr.wakePs + 250000000) s with
    pwr := { s.pwr with state := .awake, fired := none, idleLeft := s.pwr.cfg.idleTicks, sampleLeft := 0 } } := ⟨_, rfl⟩
  have hpwr : v.pwr = { s.pwr with state := .awake, fired := none, idleLeft := s.pwr.cfg.idleTicks, sampleLeft := 0 } := by rw [hv]
  have hnow : v.clk.nowPs = max s.clk.nowPs (s.pwr.wakePs + 250000000) := by rw [hv]; rfl
  have hx : execWakeComplete s = raise .sleepWoken 0 0 v.pwr.wakeCause (resume v) := by
    rw [hv]
    exact if_pos hst
  obtain ⟨u, hu, hresume⟩ := resume_noBells (s := v) (by rw [hpwr]; exact hb)
  obtain ⟨hp, hc, hspi⟩ := heldTaken_wakeCleared u
  rw [hresume] at hx
  rw [hu.pwr, hpwr] at hp hspi
  refine completes_live hon ?_
  rw [hx]
  simp only [keepOuter_pwr, keepOuter_clk, raise_pwr, raise_clk, hp, hc, hu.now, hnow, true_and]
  intro d hd
  have hkept : (raise .sleepWoken 0 0 s.pwr.wakeCause (heldTaken (wakeCleared u))).spi = (heldTaken (wakeCleared u)).spi :=
    (congrArg State.spi (raise_noted .sleepWoken 0 0 s.pwr.wakeCause (heldTaken (wakeCleared u))) :)
  rw [hpwr, keepOuter_spi, hkept]
  exact hspi d hd

/-! ## What notes and reports leave of the link to the manager -/

/-- The version on the link to the manager, and EIDLE_OK of its HELLO. -/
def identified (s : State) : Nat × Bool := (s.role.version, s.role.eidleOk)

theorem putLane_identified (n : Nat) (x : Out) (s : State) : identified (putLane n x s) = identified s := by
  unfold putLane
  split
  · split
    · split <;> rfl
    · rfl
  · rfl

theorem copyEvent_identified (r : Rec) (s : State) : identified (copyEvent r s) = identified s := by
  unfold copyEvent
  split
  · rfl
  · unfold sendUp
    split
    · rfl
    · exact putLane_identified _ _ _

theorem pushEvent_identified (e : Ev) (k i d : Nat) (s : State) : identified (pushEvent e k i d s) = identified s := by
  unfold pushEvent enterEvent
  dsimp only
  split
  · split
    · exact copyEvent_identified _ _
    · exact copyEvent_identified _ _
  · rfl

theorem raiseOvf_identified (k : Nat) (s : State) : identified (raiseOvf k s) = identified s := by
  unfold raiseOvf
  dsimp only
  split
  · exact (pushEvent_identified _ _ _ _ _).trans (pushEvent_identified _ _ _ _ _)
  · exact pushEvent_identified _ _ _ _ _

theorem addCounter_identified (k n : Nat) (s : State) : identified (addCounter k n s) = identified s := by
  have hnote (x : Bool) (c : Cnt) :
      identified { noteRc (incrementNotes + k) 0 n (if x then hwSet ovfStamps (ovfIndex k s.cnt) s else s) with cnt := c } = identified s := by
    cases x <;> rfl
  unfold addCounter
  dsimp only
  split
  · exact (raiseOvf_identified _ _).trans (hnote _ _)
  · exact hnote _ _

theorem raise_identified (e : Ev) (k i d : Nat) (s : State) : identified (raise e k i d s) = identified s :=
  (pushEvent_identified _ _ _ _ _).trans (addCounter_identified _ _ _)

/-! ## Grants that A1 revokes, and the lanes that it puts into idle (16 R377) -/

/-- From s to t the transfers alone have changed, beside the books and what they leave of the link to the manager. -/
structure TransfersAlone (s t : State) : Prop where
  rest : Books { s with mem := t.mem } t
  identified : identified t = identified s

theorem TransfersAlone.refl (s : State) : TransfersAlone s s := ⟨.refl s, rfl⟩

theorem TransfersAlone.trans {s t u : State} (h : TransfersAlone s t) (k : TransfersAlone t u) : TransfersAlone s u := by
  refine ⟨?_, k.identified.trans h.identified⟩
  have hk := k.rest
  rw [h.rest.eq] at hk
  exact hk

theorem revokeGrant_transfers (x : Xfer) (s : State) : TransfersAlone s (revokeGrant x s) := by
  refine ⟨?_, raise_identified _ _ _ _ _⟩
  have h : Books { s with mem := { s.mem with grants := eraseXfer x s.mem.grants } } (revokeGrant x s) := raise_books _ _ _ _ _
  rw [h.mem]
  exact h

theorem revokeLate_transfers (s : State) : TransfersAlone s (revokeLate s) := by
  unfold revokeLate
  refine List.foldlRecOn (motive := TransfersAlone s) _ _ (.refl s) fun t ht x _ => ht.trans ?_
  exact (revokeGrant_transfers x t).trans ⟨rfl, rfl⟩

/-- A lane that A1 puts into idle. -/
def idles (s : State) (w : Nat) : Bool :=
  keptLane w s && decide ((s.lane w).state = .locked) && !(s.lane w).txIdle && decide ((s.lane w).rate ≤ 3) && idleAllowed w s

theorem TransfersAlone.idles {s t : State} (h : TransfersAlone s t) (w : Nat) : idles t w = idles s w := by
  have hdev : t.dev = s.dev := h.rest.dev
  have hlanes : t.lanes = s.lanes := h.rest.lanes
  have hworkers : t.workers = s.workers := h.rest.workers
  have hmacs : t.macs = s.macs := h.rest.macs
  have hpair : t.pair = s.pair := h.rest.pair
  have htribs : t.tribs = s.tribs := h.rest.tribs
  have hversion : t.role.version = s.role.version := congrArg Prod.fst h.identified
  have heidle : t.role.eidleOk = s.role.eidleOk := congrArg Prod.snd h.identified
  simp only [Machine.idles, keptLane, laneInUse, idleAllowed, State.lane, State.worker, State.mac, State.trib, portOfLane, hdev, hlanes,
    hworkers, hmacs, hpair, htribs, hversion, heidle]
  rfl

theorem requestIdle_powerKept (n : Nat) (s : State) : PowerKept s (requestIdle n s) :=
  ite_powerKept (fun _ => .refl s) fun _ => modLane_powerKept n _ s

theorem idleLanes_keeps (s : State) : (idleLanes s).clk.nowPs = s.clk.nowPs ∧
    (idleLanes s).pwr = { s.pwr with idled := (List.range 32).filter (idles s) } := by
  obtain ⟨u, hu⟩ : ∃ u, u = ((List.range 32).filter (idles s)).foldl (fun s w => requestIdle w s) s := ⟨_, rfl⟩
  have h : PowerKept s u := hu ▸ foldl_powerKept (fun s w => requestIdle_powerKept w s) _ s
  have hx : idleLanes s = { u with pwr := { u.pwr with idled := (List.range 32).filter (idles s) } } := by
    rw [hu]
    rfl
  rw [hx]
  exact ⟨h.now, by rw [h.pwr]⟩

end Sys2Proof.Machine
end

section
/-!
PROOFS. Falling asleep (16 R377): what goes dark or loses its state there takes no time.
-/

namespace Sys2Proof.Machine

/-! ## What leaves the present instant -/

/-- From s to t no time goes by. -/
def NowKept (s t : State) : Prop := t.clk.nowPs = s.clk.nowPs

theorem NowKept.refl (s : State) : NowKept s s := rfl

theorem NowKept.trans {s t u : State} (h : NowKept s t) (k : NowKept t u) : NowKept s u := Eq.trans k h

theorem NowKept.of_clk {s t : State} (h : t.clk = s.clk) : NowKept s t := congrArg Clk.nowPs h

theorem Books.nowKept {s t : State} (h : Books s t) : NowKept s t := .of_clk h.clk

theorem foldl_nowKept {α : Type} {f : State → α → State} (hf : ∀ s a, NowKept s (f s a)) (l : List α) :
    ∀ s, NowKept s (l.foldl f s) := by
  induction l with
  | nil => exact NowKept.refl
  | cons a l ih => exact fun s => (hf s a).trans (ih _)

/-! ## A worker whose lane is lost (10 R258, R280) -/

theorem fillRest_nowKept (p : Pull) (s : State) : NowKept s (fillRest p s) := by
  unfold fillRest
  split
  · split
    · next e a _ _ =>
      obtain ⟨u, f, hu, ht⟩ := nibFill_steady p.inst e a (a.payload - p.used) s
      exact .of_clk (ht.clk.trans hu.clk)
    · exact .refl s
  · exact .refl s

theorem withdrawPull_nowKept (w gid : Nat) (s : State) : NowKept s (withdrawPull w gid s) := by
  unfold withdrawPull
  split
  · exact .refl s
  · dsimp only
    split
    · exact .of_clk (sendBlock_books _ _ _ _).clk
    · exact .of_clk (count_clk _ _ _)

theorem withdrawAll_nowKept (w : Nat) (s : State) : NowKept s (withdrawAll w s) :=
  foldl_nowKept (f := fun s p => fillRest p (withdrawPull w p.gid s))
    (fun s p => (withdrawPull_nowKept w p.gid s).trans (fillRest_nowKept p _)) _ s

theorem failTunnel_nowKept (w : Nat) (s : State) : NowKept s (failTunnel w s) :=
  foldl_nowKept (fun s c => (complete_books c _ _ _ s).nowKept) _ (s.modWorker w _)

theorem failWaiting_nowKept (op w : Nat) (st : Status) (s : State) : NowKept s (failWaiting op w st s) :=
  (completeRunningAt_books _ _ _ _ s).nowKept

theorem workerCleanup_nowKept (w : Nat) (s : State) : NowKept s (workerCleanup w s) := by
  unfold workerCleanup
  extract_lets withdrawn released untunnelled unranged
  have hwithdrawn : NowKept s withdrawn := withdrawAll_nowKept w s
  have hreleased : NowKept s released := hwithdrawn
  have huntunnelled : NowKept s untunnelled := hreleased.trans (failTunnel_nowKept w (released.modWorker w _))
  have hunranged : NowKept s unranged := by
    unfold unranged
    split
    · exact huntunnelled.trans (failWaiting_nowKept _ w _ (untunnelled.modWorker w _))
    · exact huntunnelled
  exact hunranged.trans (failWaiting_nowKept _ w _ _)

theorem endImage_nowKept (w : Nat) (st : Status) (s : State) : NowKept s (endImage w st s) := by
  unfold endImage
  split
  · exact .refl s
  · dsimp only
    split
    · exact .of_clk (complete_clk _ _ _ _ _)
    · exact .refl s

theorem setWorkerState_nowKept (w st : Nat) (s : State) : NowKept s (setWorkerState w st s) := by
  unfold setWorkerState
  dsimp only
  split
  · exact .refl s
  · refine .trans ?_ (.of_clk (raise_clk _ _ _ _ _))
    split
    · exact endImage_nowKept w _ s
    · exact .refl s

theorem workerToW0_nowKept (w : Nat) (s : State) : NowKept s (workerToW0 w s) := by
  unfold workerToW0
  extract_lets u
  have hu : NowKept s u := (workerCleanup_nowKept w s).trans (setWorkerState_nowKept w 0 _)
  clear_value u
  obtain ⟨v, hv⟩ : ∃ v, v = u.modWorker w (fun x => { x.forget with w0Tick := some (ownTick u), flushed := false }) := ⟨_, rfl⟩
  have hforgotten : NowKept u v := hv ▸ rfl
  rw [← hv]
  exact hu.trans (hforgotten.trans (.of_clk (recheckHeld_still v).clk))

/-! ## A worker's link to its manager that is lost -/

theorem stopLeased_nowKept (id : Nat) (s : State) : NowKept s (stopLeased id s) := by
  unfold stopLeased
  refine foldl_nowKept (fun s c => ?_) _ s
  split
  · exact (complete_books ..).nowKept
  split
  · exact .trans (.of_clk ((flushUnlocked_alone ..).clk s)) (complete_books ..).nowKept
  · exact .refl s

theorem revokeLease_nowKept (l : Lease) (s : State) : NowKept s (revokeLease l s) :=
  (stopLeased_nowKept l.id s).trans (foldl_books _ (fun s b => raise_books .holdRevoked 6 b l.id s) _ (dropLease l.id _)).nowKept

theorem roleLost_nowKept (s : State) : NowKept s (roleLost s) :=
  .trans (followLost_nowPs s) (foldl_nowKept (fun s l => revokeLease_nowKept l s) _ (followLost s))

/-! ## Lanes that go down, and domains that lose their state -/

theorem disableTrib_nowKept (n : Nat) (s : State) : NowKept s (disableTrib n s) :=
  .of_clk (disableTrib_left n s).1.books.clk

theorem workerUnlocked_nowKept (w : Nat) (s : State) : NowKept s (workerUnlocked w s) := by
  unfold workerUnlocked
  split
  · exact workerToW0_nowKept w s
  split
  · exact roleLost_nowKept s
  · exact .refl s

theorem leaveState_nowKept (n : Nat) (st : LaneState) (s : State) : NowKept s (leaveState n st s) := by
  unfold leaveState
  extract_lets old answered left
  have hleft : NowKept s left := (completeRunningAt_books 0x0603 n .busyRetry [] s).nowKept
  split
  · unfold lostLock
    split
    · exact hleft.trans (workerUnlocked_nowKept n _)
    · exact hleft
  split
  · exact hleft.trans (disableTrib_nowKept _ _)
  · exact hleft

theorem laneDown_nowKept (n : Nat) (s : State) : NowKept s (laneDown n s) := leaveState_nowKept n .down s

theorem darkenLanes_nowKept (s : State) : NowKept s (darkenLanes s) := by
  unfold darkenLanes
  extract_lets l notes u
  have hu : NowKept s u := foldl_nowKept (f := fun s n => laneDown n s) (fun s n => laneDown_nowKept n s) l s
  clear_value u
  exact hu

theorem settleLanes_nowKept (s : State) : NowKept s (settleLanes s) := by
  have h : PowerKept s (settleLanes s) := by
    unfold settleLanes
    exact foldl_powerKept (fun s n => settleIdle_powerKept n s) _ s
  exact h.now

/-- The domain of an instance that is stopped already. -/
theorem wipeInstance_nowKept {i : Nat} {s : State} (hi : i < 4) (hst : (s.inst i).st = 0x10) : NowKept s (wipeDomain (3 + i) s) := by
  have hstop : stopInstance (3 + i - 3) s = s := by
    rw [Nat.add_sub_cancel_left]
    exact if_pos hst
  have hx : wipeDomain (3 + i) s = (stopInstance (3 + i - 3) s).modInst (3 + i - 3) Inst.fresh := if_pos (by omega)
  rw [hx, hstop]
  rfl

theorem wipeTribs_nowKept (s : State) : NowKept s (wipeDomain 19 s) := by
  obtain ⟨u, hu⟩ : ∃ u, u = (List.range 8).foldl (fun s t => if (s.trib t).enable then disableTrib t s else s) s := ⟨_, rfl⟩
  have hx : wipeDomain 19 s = { u with circs := [] } := by
    rw [hu]
    rfl
  have hkept : NowKept s u := hu ▸ foldl_nowKept (fun s t => by split <;> [exact disableTrib_nowKept t s; exact .refl s]) _ s
  rw [hx]
  exact hkept

/-- What is lost by E + 20 µs. -/
def stateLost (s : State) : State :=
  wipeDomain 19 ((List.range 4).foldl (fun s i => if (s.inst i).st = 0x10 then wipeDomain (3 + i) s else s) s)

theorem stateLost_nowKept (s : State) : NowKept s (stateLost s) := by
  refine .trans ?_ (wipeTribs_nowKept _)
  refine List.foldlRecOn (motive := NowKept s) _ _ (.refl s) fun t ht i hi => ht.trans ?_
  split
  · next hst => exact wipeInstance_nowKept (List.mem_range.1 hi) hst
  · exact .refl t

theorem fallAsleep_keeps (s : State) : (fallAsleep s).pwr.state = .asleep ∧ (fallAsleep s).pwr.asleepTick = ownTick s ∧
    (fallAsleep s).clk.nowPs = max s.clk.nowPs (s.pwr.entryPs + 20000000) := by
  obtain ⟨u, hu⟩ : ∃ u, u = stateLost (darkenLanes (settleLanes (advanceTo (s.pwr.entryPs + 20000000) s))) := ⟨_, rfl⟩
  have hnow : u.clk.nowPs = max s.clk.nowPs (s.pwr.entryPs + 20000000) :=
    hu ▸ ((settleLanes_nowKept _).trans (darkenLanes_nowKept _)).trans (stateLost_nowKept _)
  have hx : fallAsleep s = raise .sleepEntered 0 0 0 (count .sleepEntries 0
      { u with pwr := { u.pwr with state := .asleep, asleepTick := ownTick s, fired := none, sampleLeft := 0 } }) := by
    rw [hu]
    rfl
  rw [hx, raise_pwr, raise_clk, count_pwr, count_clk]
  exact ⟨rfl, rfl, hnow⟩

end Sys2Proof.Machine
end

section
/-!
PROOFS. The decision to sleep, the abort points and the wake sources (16 R375–R382).
-/

namespace Sys2Proof.Machine

/-! ## Wake sources (16 Table 16.4) -/

theorem fireWake_first {s : State} (hst : s.pwr.state = .decided) (hf : s.pwr.fired = none) (k : Nat) :
    fireWake k s = { s with pwr := { s.pwr with fired := some k, fireClock := clockNo s } } := by
  simp only [fireWake, hst, hf]

theorem fireWake_sameClock {s : State} {j : Nat} (hst : s.pwr.state = .decided) (hf : s.pwr.fired = some j)
    (hc : s.pwr.fireClock = clockNo s) (k : Nat) : fireWake k s = { s with pwr := { s.pwr with fired := some (min k j) } } := by
  simp only [fireWake, hst, hf]
  exact if_pos (decide_eq_true hc)

theorem fireWake_later {s : State} {j : Nat} (hst : s.pwr.state = .decided) (hf : s.pwr.fired = some j)
    (hc : s.pwr.fireClock ≠ clockNo s) (k : Nat) : fireWake k s = s := by
  simp only [fireWake, hst, hf]
  exact if_neg (by rw [decide_eq_false hc]; decide)

/-- Asleep a source is the wake event. -/
theorem fireWake_wakes {s : State} (hst : s.pwr.state = .asleep ∨ s.pwr.state = .sampling) (k : Nat) :
    fireWake k s = { s with pwr := { s.pwr with
      state := .waking, wakePs := s.clk.nowPs, wakeCause := k, clockFast := true
      sleepTicks := ownTick s - s.pwr.asleepTick, fireClock := clockNo s } } := by
  obtain hst | hst := hst <;> simp only [fireWake, hst]

theorem watched_always {k : Nat} (hk : k = 5 ∨ k = 7 ∨ k = 8 ∨ k = 10) (s : State) : watched k s = true := by
  obtain rfl | rfl | rfl | rfl := hk <;> rfl

theorem watched_receiver {k : Nat} {s : State} (hk : k = 1 ∨ k = 2 ∨ k = 3) (hst : s.pwr.state = .decided) : watched k s = true := by
  obtain rfl | rfl | rfl := hk <;> simp [watched, hst]

theorem watched_asleep {k : Nat} {s : State} (hk : k < 5) (hst : s.pwr.state = .asleep) : watched k s = false := by
  match k, hk with
  | 0, _ => rfl
  | 1, _ | 2, _ | 3, _ | 4, _ => simp [watched, hst]

/-! ## The decision (16 R375, R376) -/

/-- Item 10 counts the idle timer down and notes queued frames. -/
def idleCounted (s : State) : State :=
  { s with pwr := { s.pwr with idleLeft := s.pwr.idleLeft - 1, active := s.pwr.active || queuesBusy s } }

theorem startOffs_settled {s : State} (h : ∀ d, (s.domain d).phase = .on ∨ (s.domain d).phase = .off) : startOffs s = s := by
  unfold startOffs
  refine List.foldlRecOn (motive := fun t => t = s) _ _ rfl fun t ht d _ => ?_
  subst ht
  have hrequested : (t.domain d).phase ≠ .requested := by obtain hd | hd := h d <;> rw [hd] <;> decide
  have hstopping : ¬ ((t.domain d).phase = .stopping ∧ !domainHeld d t ∧ (domainGrants d t).isEmpty) := by
    obtain hd | hd := h d <;> rw [hd] <;> exact fun hx => absurd hx.1 (by decide)
  dsimp only
  rw [if_neg hrequested]
  exact if_neg hstopping

theorem execPowerDecision_due {s : State} (hdue : Due 10 s) (hst : s.pwr.state = .awake)
    (hd : ∀ d, (s.domain d).phase = .on ∨ (s.domain d).phase = .off) (met : Option Nat) :
    execPowerDecision met s =
      if s.pwr.idleLeft - 1 = 0 ∧ maySleep (idleCounted (worked 10 s)) then
        match met with
        | some k => if watched k (decideSleep (idleCounted (worked 10 s))) then fireWake k (decideSleep (idleCounted (worked 10 s)))
          else decideSleep (idleCounted (worked 10 s))
        | none => decideSleep (idleCounted (worked 10 s))
      else idleCounted (worked 10 s) := by
  have hsettled : startOffs (worked 10 s) = worked 10 s := startOffs_settled hd
  have hawake : ¬ asleep (worked 10 s) = true := by rw [show asleep (worked 10 s) = false from hdue.awake.awake]; decide
  have hstate : ¬ (worked 10 s).pwr.state ≠ .awake := not_not_intro hst
  unfold execPowerDecision
  rw [hdue.runs]
  dsimp only
  rw [hsettled, if_neg hawake, if_neg hstate]
  rfl

theorem decideSleep_pwr (s : State) : (decideSleep s).pwr = { s.pwr with
    state := .decided, decidedTick := ownTick s, fired := none, indicating := (List.range 4).filter (fun i => decide ((s.inst i).st = 0x51)) } := by
  obtain ⟨u, hu⟩ : ∃ u, u = ((List.range 4).filter (fun i => decide ((s.inst i).st = 0x51))).foldl
    (fun s i => sendOwn i { msg := .sleepRequest true } s) s := ⟨_, rfl⟩
  have hkept : u.clk = s.clk ∧ u.pwr = s.pwr := by
    rw [hu]
    exact List.foldlRecOn (motive := fun t : State => t.clk = s.clk ∧ t.pwr = s.pwr) _ _ ⟨rfl, rfl⟩ fun t ht i _ => ht
  have hx : decideSleep s = { u with pwr := { u.pwr with
      state := .decided, decidedTick := ownTick u, fired := none
      indicating := (List.range 4).filter (fun i => decide ((s.inst i).st = 0x51)) } } := by
    rw [hu]
    rfl
  rw [hx, hkept.2, ownTick, hkept.1]
  rfl

/-- The source that meets the decision in its clock, or none, and what is noted of it. -/
def MeetsDecision (hostKeep : Bool) (met : Option (Fin 11)) (f : Option Nat) : Prop :=
  met = none ∧ f = none ∨
    ∃ k : Fin 11, met = some k ∧ (k = 1 ∨ k = 2 ∨ k = 3 ∨ k = 5 ∨ k = 7 ∨ k = 8 ∨ k = 10 ∨ k = 6 ∧ hostKeep = true) ∧ f = some k.val

theorem watched_meets {k : Fin 11} {s : State} (hst : s.pwr.state = .decided)
    (hk : k = 1 ∨ k = 2 ∨ k = 3 ∨ k = 5 ∨ k = 7 ∨ k = 8 ∨ k = 10 ∨ k = 6 ∧ s.pwr.cfg.hostKeep = true) : watched k.val s = true := by
  obtain rfl | rfl | rfl | rfl | rfl | rfl | rfl | ⟨rfl, hkeep⟩ := hk
  · exact watched_receiver (.inl rfl) hst
  · exact watched_receiver (.inr (.inl rfl)) hst
  · exact watched_receiver (.inr (.inr rfl)) hst
  · exact watched_always (.inl rfl) s
  · exact watched_always (.inr (.inl rfl)) s
  · exact watched_always (.inr (.inr (.inl rfl))) s
  · exact watched_always (.inr (.inr (.inr rfl))) s
  · exact hkeep

theorem powerDecision_decides {s : State} (hdue : Due 10 s) (hst : s.pwr.state = .awake)
    (hd : ∀ d, (s.domain d).phase = .on ∨ (s.domain d).phase = .off) (hleft : s.pwr.idleLeft ≤ 1) (hmay : maySleep s = true)
    {met : Option (Fin 11)} {f : Option Nat} (hmet : MeetsDecision s.pwr.cfg.hostKeep met f) :
    Completes (.powerDecision met) s fun t => t.pwr.state = .decided ∧ t.pwr.decidedTick = ownTick s ∧ t.pwr.fired = f ∧
      t.pwr.indicating = (List.range 4).filter (fun i => decide ((s.inst i).st = 0x51)) := by
  obtain ⟨u, hu⟩ : ∃ u, u = decideSleep (idleCounted (worked 10 s)) := ⟨_, rfl⟩
  have hpwr := decideSleep_pwr (idleCounted (worked 10 s))
  rw [← hu] at hpwr
  have hstate : u.pwr.state = .decided := (congrArg Pwr.state hpwr :)
  have hfired : u.pwr.fired = none := (congrArg Pwr.fired hpwr :)
  have hcfg : u.pwr.cfg = s.pwr.cfg := (congrArg Pwr.cfg hpwr :)
  have hmay' : maySleep (idleCounted (worked 10 s)) = true := hmay
  have hx := execPowerDecision_due hdue hst hd (met.map Fin.val)
  rw [if_pos ⟨by omega, hmay'⟩, ← hu] at hx
  refine completes_live hdue.awake.on ?_
  obtain ⟨rfl, rfl⟩ | ⟨k, rfl, hk, rfl⟩ := hmet
  · rw [hx]
    exact ⟨hstate, (congrArg Pwr.decidedTick hpwr :), hfired, (congrArg Pwr.indicating hpwr :)⟩
  · have hwatched : watched k.val u = true := watched_meets hstate (by rw [hcfg]; exact hk)
    have hfires : execPowerDecision ((some k).map Fin.val) s = { u with pwr := { u.pwr with fired := some k.val, fireClock := clockNo u } } :=
      hx.trans ((if_pos hwatched).trans (fireWake_first hstate hfired k.val))
    rw [hfires]
    exact ⟨hstate, (congrArg Pwr.decidedTick hpwr :), rfl, (congrArg Pwr.indicating hpwr :)⟩

theorem powerDecision_counts {s : State} (hdue : Due 10 s) (hst : s.pwr.state = .awake)
    (hd : ∀ d, (s.domain d).phase = .on ∨ (s.domain d).phase = .off) (hleft : 1 < s.pwr.idleLeft) (met : Option (Fin 11)) :
    exec (.powerDecision met) s = .next (idleCounted (worked 10 s)) := by
  refine congrArg Host.Outcome.next (live_eq hdue.awake.on ?_ ⟨rfl, rfl, rfl⟩)
  exact (execPowerDecision_due hdue hst hd _).trans (if_neg fun h => absurd h.1 (by omega))

/-- The decision has lapsed. -/
def decisionLapsed (s : State) : State :=
  { s with pwr := { s.pwr with state := .awake, indicating := [], fired := none, idleLeft := s.pwr.cfg.idleTicks } }

theorem sleepIndicationTimeout_lapses {s : State} (hon : On s) (hst : s.pwr.state = .decided) (hi : s.pwr.indicating ≠ [])
    (hticks : 64 ≤ ticksSince s.pwr.decidedTick s) : Completes .sleepIndicationTimeout s fun t => Books (decisionLapsed s) t := by
  have ho : Outer s (decisionLapsed s) := ⟨rfl, rfl, rfl⟩
  have hb : Books (decisionLapsed s) (count .sleepIndicationTimeout 0 (decisionLapsed s)) := count_books _ _ _
  exact live_completes hon _ (if_pos ⟨hst, hi, hticks⟩) (ho.trans hb.outer) hb

/-! ## Entry that is abandoned (16 R378) -/

theorem releasePads_keeps (s : State) :
    Books { s with pwr := { s.pwr with padsLatched := false, latched := [] } } (releasePads s) := by
  unfold releasePads
  exact foldl_books _ (fun s o => by split <;> [exact emit_books _ s; exact .refl s]) _ _

/-- What an entry leaves that is abandoned at point n for a cause. -/
def Pwr.abandoned (n cause : Nat) (p : Pwr) : Pwr :=
  { p with state := .awake, wakeCause := cause, lastAbort := n, fired := none, active := true, idled := [] }

theorem abandonSleep_keeps (n cause : Nat) (s : State) : (abandonSleep n cause s).clk.nowPs = s.clk.nowPs ∧
    (abandonSleep n cause s).pwr = if n ≠ 0 ∧ s.pwr.ownLatch then { s.pwr.abandoned n cause with padsLatched := false, latched := [] }
      else s.pwr.abandoned n cause := by
  obtain ⟨u, hu⟩ : ∃ u, u = s.pwr.idled.foldl (fun s l => requestWake false l s) s := ⟨_, rfl⟩
  have h : PowerKept s u := hu ▸ foldl_powerKept (fun s l => requestWake_powerKept false l s) _ s
  obtain ⟨v, hv⟩ : ∃ v : State, v = { u with pwr := u.pwr.abandoned n cause } := ⟨_, rfl⟩
  have hx : abandonSleep n cause s = raise .sleepAbandoned 0 0 (n + cause * 256)
      (count .wakeDuringEntry 0 (if n ≠ 0 ∧ v.pwr.ownLatch then releasePads v else v)) := by
    rw [hv, hu]
    rfl
  have hown : v.pwr.ownLatch = s.pwr.ownLatch := by rw [hv, ← h.pwr]; rfl
  have hpwr : v.pwr = s.pwr.abandoned n cause := by rw [hv, ← h.pwr]
  have hnow : v.clk.nowPs = s.clk.nowPs := by rw [hv, ← h.now]
  rw [hx, raise_clk, raise_pwr, count_clk, count_pwr, hown]
  split
  · have hb := releasePads_keeps v
    rw [hb.clk, hb.pwr]
    exact ⟨hnow, by rw [← hpwr]⟩
  · exact ⟨hnow, hpwr⟩

/-! ## The rows of entry (16 R376, R377, Table 16.3) -/

/-- Entry begins: A0, where no source has fired. -/
def entryBegun (s : State) : State :=
  { s with pwr := { s.pwr with
    entryPs := s.clk.nowPs, abortPoint := 1, state := .entering, padsLatched := true, ownLatch := !s.pwr.padsLatched
    latched := if s.pwr.padsLatched then s.pwr.latched else padLevels s } }

theorem execSleepEntryStart_due {s : State} (hst : s.pwr.state = .decided) (hi : s.pwr.indicating = [])
    (hsteps : ∀ e ∈ s.mem.groups, e.2.step = none) :
    execSleepEntryStart s = abortPoint 0 { s with pwr := { s.pwr with entryPs := s.clk.nowPs } } :=
  if_pos ⟨hst, hi, List.all_eq_true.2 fun e he => by rw [hsteps e he]; rfl⟩

theorem abortPoint_fired {n k : Nat} {s : State} (h : s.pwr.fired = some k) : abortPoint n s = abandonSleep n k s := by
  simp only [abortPoint, h]

theorem abortPoint_starts {s : State} (h : s.pwr.fired = none) : abortPoint 0 s = { s with pwr := { s.pwr with
    abortPoint := 1, state := .entering, padsLatched := true, ownLatch := !s.pwr.padsLatched
    latched := if s.pwr.padsLatched then s.pwr.latched else padLevels s } } := by
  unfold abortPoint
  rw [h]
  rfl

/-- An abort point is passed. -/
def pointPassed (n : Nat) (s : State) : State := { s with pwr := { s.pwr with abortPoint := n + 1 } }

theorem abortPoint_idles {s : State} (h : s.pwr.fired = none) : abortPoint 1 s = idleLanes (revokeLate (pointPassed 1 s)) := by
  unfold abortPoint
  rw [h]
  rfl

theorem abortPoint_passes {s : State} (h : s.pwr.fired = none) : abortPoint 2 s = pointPassed 2 s := by
  unfold abortPoint
  rw [h]
  rfl

theorem abortPoint_sleeps {s : State} (h : s.pwr.fired = none) : abortPoint 3 s = fallAsleep (pointPassed 3 s) := by
  unfold abortPoint
  rw [h]
  rfl

theorem sleepEntryStart_begins {s : State} (hon : On s) (hst : s.pwr.state = .decided) (hi : s.pwr.indicating = [])
    (hsteps : ∀ e ∈ s.mem.groups, e.2.step = none) (hf : s.pwr.fired = none) : exec .sleepEntryStart s = .next (entryBegun s) :=
  congrArg Host.Outcome.next (live_eq hon ((execSleepEntryStart_due hst hi hsteps).trans (abortPoint_starts hf)) ⟨rfl, rfl, rfl⟩)

theorem sleepEntryStart_abandons {s : State} {k : Nat} (hon : On s) (hst : s.pwr.state = .decided) (hi : s.pwr.indicating = [])
    (hsteps : ∀ e ∈ s.mem.groups, e.2.step = none) (hf : s.pwr.fired = some k) : Completes .sleepEntryStart s fun t =>
      t.pwr.state = .awake ∧ t.pwr.wakeCause = k ∧ t.pwr.lastAbort = 0 ∧ t.pwr.latched = s.pwr.latched := by
  have hx := (execSleepEntryStart_due hst hi hsteps).trans (abortPoint_fired hf)
  obtain ⟨-, hpwr⟩ := abandonSleep_keeps 0 k { s with pwr := { s.pwr with entryPs := s.clk.nowPs } }
  rw [← hx, if_neg (fun h => h.1 rfl)] at hpwr
  refine completes_live hon ?_
  rw [keepOuter_pwr, hpwr]
  exact ⟨rfl, rfl, rfl, rfl⟩

/-- The part reaches an abort point of its entry. -/
theorem execSleepAbortPoint_due {n : Nat} {s : State} (hst : s.pwr.state = .entering) (hp : s.pwr.abortPoint = n) (hn : 1 ≤ n) :
    execSleepAbortPoint n s = abortPoint n (advanceTo (s.pwr.entryPs + (4 + n) * 1000000) s) :=
  if_pos ⟨hst, hp.symm, hn⟩

theorem sleepAbortPoint_abandons {n : Fin 4} {s : State} {k : Nat} (hon : On s) (hst : s.pwr.state = .entering)
    (hp : s.pwr.abortPoint = n.val) (hn : 1 ≤ n.val) (hf : s.pwr.fired = some k) : Completes (.sleepAbortPoint n) s fun t =>
      t.pwr.state = .awake ∧ t.pwr.wakeCause = k ∧ t.pwr.lastAbort = n.val ∧ t.pwr.padsLatched = (s.pwr.padsLatched && !s.pwr.ownLatch) ∧
        t.clk.nowPs = max s.clk.nowPs (s.pwr.entryPs + (4 + n.val) * 1000000) := by
  have hx := (execSleepAbortPoint_due hst hp hn).trans (abortPoint_fired hf)
  obtain ⟨hnow, hpwr⟩ := abandonSleep_keeps n.val k (advanceTo (s.pwr.entryPs + (4 + n.val) * 1000000) s)
  rw [← hx] at hnow hpwr
  rw [advanceTo_pwr] at hpwr
  refine completes_live hon ?_
  rw [keepOuter_pwr, keepOuter_clk, hpwr, hnow]
  cases hown : s.pwr.ownLatch with
  | true =>
    rw [if_pos ⟨by omega, rfl⟩]
    exact ⟨rfl, rfl, rfl, (Bool.and_false _).symm, rfl⟩
  | false =>
    rw [if_neg (fun h => absurd h.2 (by decide))]
    exact ⟨rfl, rfl, rfl, (Bool.and_true _).symm, rfl⟩

/-- A1: grants still open are revoked, and lanes go into idle. -/
theorem execSleepAbortPoint_first {s : State} (hst : s.pwr.state = .entering) (hp : s.pwr.abortPoint = 1) (hf : s.pwr.fired = none) :
    (execSleepAbortPoint 1 s).clk.nowPs = max s.clk.nowPs (s.pwr.entryPs + 5000000) ∧
      (execSleepAbortPoint 1 s).pwr = { s.pwr with abortPoint := 2, idled := (List.range 32).filter (idles s) } := by
  have hx := (execSleepAbortPoint_due hst hp (Nat.le_refl 1)).trans (abortPoint_idles hf)
  obtain ⟨u, hu⟩ : ∃ u, u = pointPassed 1 (advanceTo (s.pwr.entryPs + (4 + 1) * 1000000) s) := ⟨_, rfl⟩
  rw [← hu] at hx
  have hrevoked := revokeLate_transfers u
  obtain ⟨hnow, hpwr⟩ := idleLanes_keeps (revokeLate u)
  have hidles : idles (revokeLate u) = idles s := by
    funext w
    rw [hrevoked.idles w, hu]
    rfl
  have hpwr' : (revokeLate u).pwr = { s.pwr with abortPoint := 2 } := by
    rw [hrevoked.rest.pwr, hu]
    rfl
  have hnow' : (revokeLate u).clk.nowPs = max s.clk.nowPs (s.pwr.entryPs + 5000000) := by
    rw [hrevoked.rest.clk, hu]
    rfl
  rw [hx, hnow, hpwr, hidles, hpwr']
  exact ⟨hnow', rfl⟩

theorem execSleepAbortPoint_second {s : State} (hst : s.pwr.state = .entering) (hp : s.pwr.abortPoint = 2) (hf : s.pwr.fired = none) :
    execSleepAbortPoint 2 s = { advanceTo (s.pwr.entryPs + 6000000) s with pwr := { s.pwr with abortPoint := 3 } } :=
  (execSleepAbortPoint_due hst hp (by decide)).trans (abortPoint_passes hf)

theorem execSleepAbortPoint_last {s : State} (hst : s.pwr.state = .entering) (hp : s.pwr.abortPoint = 3) (hf : s.pwr.fired = none) :
    (execSleepAbortPoint 3 s).pwr.state = .asleep ∧ (execSleepAbortPoint 3 s).pwr.asleepTick = ownTick s ∧
      (execSleepAbortPoint 3 s).clk.nowPs = max s.clk.nowPs (s.pwr.entryPs + 20000000) := by
  have hx := (execSleepAbortPoint_due hst hp (by decide)).trans (abortPoint_sleeps hf)
  obtain ⟨hstate, htick, hnow⟩ := fallAsleep_keeps (pointPassed 3 (advanceTo (s.pwr.entryPs + (4 + 3) * 1000000) s))
  rw [← hx] at hstate htick hnow
  refine ⟨hstate, htick, hnow.trans ?_⟩
  change max (max s.clk.nowPs (s.pwr.entryPs + (4 + 3) * 1000000)) (s.pwr.entryPs + 20000000) = _
  omega

/-! ## Samples and wake events (16 R380, R382) -/

theorem sleepSampleStart_samples {s : State} (hon : On s) (hst : s.pwr.state = .asleep)
    (hdue : (ticksSince s.pwr.asleepTick s + 1) % max 1 s.pwr.cfg.samplePeriod = 0) (hch : s.clk.channel < 4) (hleft : s.pwr.sampleLeft < 3) :
    Completes .sleepSampleStart s fun t => t.pwr = { s.pwr with state := .sampling, sampleLeft := 3 } ∧
      t.clk = { s.clk with nowPs := max s.clk.nowPs (s.clk.t0Ps + 115000000) } := by
  have hasleep : asleep s = true := by simp [asleep, hst]
  have hx : execSleepSampleStart s = count .sleepSamples 0
      { advanceTo (s.clk.t0Ps + 115000000) s with pwr := { s.pwr with state := .sampling, sampleLeft := 3 } } :=
    if_pos ⟨hasleep, hdue, hch, hleft⟩
  refine completes_live hon ?_
  rw [hx, keepOuter_pwr, keepOuter_clk, count_pwr, count_clk]
  exact ⟨rfl, rfl⟩

theorem wakeEvent_next {k : Fin 11} {s t : State} (hon : On s) (hw : watched k.val s = true) (hf : fireWake k.val s = t) (ho : Outer s t) :
    exec (.wakeEvent k) s = .next t :=
  congrArg Host.Outcome.next (live_eq hon ((if_pos hw).trans hf) ho)

theorem wakeEvent_unwatched {k : Fin 11} {s : State} (hon : On s) (hw : watched k.val s = false) : exec (.wakeEvent k) s = .next s :=
  congrArg Host.Outcome.next (live_eq hon (if_neg (by rw [hw]; decide)) (.refl s))

theorem pwrWake_next {p : Path} {v : Word} {s t : State} (hon : On s) (hup : pathUp p s = true) (hx : execPwrWake p v s = t)
    (ho : Outer s t) : exec (.pwrWake p v) s = .next t :=
  congrArg Host.Outcome.next (live_eq hon ((if_pos hup).trans hx) ho)

/-- Settles O51: the decision, the entry and its abort points through what each leaves of the power state and the present instant, the
wake sources by an equation per power state, and the end of a wake through what it resumes. -/
theorem sleepRowsTakeEffect : Obligations.SleepRowsTakeEffect := by
  unfold Obligations.SleepRowsTakeEffect
  intro s hon
  refine ⟨?decision, ?timeout, ?start, ?point, ?sample, ?sampled, ?event, ?write, wakeComplete_resumes hon⟩
  case decision =>
    intro hdue hst hd
    exact ⟨powerDecision_counts hdue hst hd, fun hleft hmay met f hmet => powerDecision_decides hdue hst hd hleft hmay hmet⟩
  case timeout =>
    intro hst hi hticks
    exact sleepIndicationTimeout_lapses hon hst hi hticks
  case start =>
    intro hst hi hsteps
    exact ⟨sleepEntryStart_begins hon hst hi hsteps, fun k hf => sleepEntryStart_abandons hon hst hi hsteps hf⟩
  case point =>
    intro n hst hp hn
    refine ⟨fun k hf => sleepAbortPoint_abandons hon hst hp hn hf, fun hf => ⟨fun h1 => ?_, fun h2 => ?_, fun h3 => ?_⟩⟩
    · rw [h1] at hp
      obtain ⟨hnow, hpwr⟩ := execSleepAbortPoint_first hst hp hf
      refine completes_live (f := execSleepAbortPoint n.val) hon ?_
      rw [h1, keepOuter_pwr, keepOuter_clk, hpwr]
      exact ⟨rfl, hst, hnow, rfl⟩
    · rw [h2] at hp
      have hx : execSleepAbortPoint n.val s = _ := h2 ▸ execSleepAbortPoint_second hst hp hf
      exact congrArg Host.Outcome.next (live_eq hon hx ⟨rfl, rfl, rfl⟩)
    · rw [h3] at hp
      refine completes_live (f := execSleepAbortPoint n.val) hon ?_
      rw [h3]
      exact execSleepAbortPoint_last hst hp hf
  case sample =>
    intro hst hdue hch hleft
    exact sleepSampleStart_samples hon hst hdue hch hleft
  case sampled =>
    intro hst hleft hperiod
    exact congrArg Host.Outcome.next (live_eq hon (if_pos ⟨hst, hleft, hperiod⟩) ⟨rfl, rfl, rfl⟩)
  case event =>
    intro k
    refine ⟨fun hst hk => ?_, fun hst hk => wakeEvent_unwatched hon (watched_asleep hk hst), fun hst hk => ?_⟩
    · have hw : watched k.val s = true := by
        obtain h | h | h | h | ⟨h, hkeep⟩ := hk
        · exact watched_always (.inl h) s
        · exact watched_always (.inr (.inl h)) s
        · exact watched_always (.inr (.inr (.inl h))) s
        · exact watched_always (.inr (.inr (.inr h))) s
        · rw [h]
          exact hkeep
      exact wakeEvent_next hon hw (fireWake_wakes (.inl hst) k.val) ⟨rfl, rfl, rfl⟩
    · have hw : watched k.val s = true := by
        obtain h | h | h | h := hk
        · exact watched_receiver (.inl h) hst
        · exact watched_receiver (.inr (.inl h)) hst
        · exact watched_receiver (.inr (.inr h)) hst
        · exact watched_always (.inl h) s
      exact ⟨fun hf => wakeEvent_next hon hw (fireWake_first hst hf k.val) ⟨rfl, rfl, rfl⟩, fun j hf =>
        ⟨fun hc => wakeEvent_next hon hw (fireWake_sameClock hst hf hc k.val) ⟨rfl, rfl, rfl⟩,
          fun hc => wakeEvent_next hon hw (fireWake_later hst hf hc k.val) (.refl s)⟩⟩
  case write =>
    intro p v hup
    exact ⟨fun hv hst => pwrWake_next hon hup ((if_pos hv).trans (fireWake_wakes hst 8)) ⟨rfl, rfl, rfl⟩,
      fun hv => pwrWake_next hon hup (if_neg (by rw [hv]; decide)) (.refl s)⟩

end Sys2Proof.Machine
end
